-- ==== Sys2Proof/Word.lean ====
section
/-! DEFINITION. The words of the machine: bytes, 32-bit register words, and the sparse tables of the state. -/

namespace Sys2Proof

/-- A byte is 8 bits (R6). -/
abbrev Byte := BitVec 8

/-- A string of bytes, lowest address or first on the wire first. -/
abbrev Bytes := List Byte

/-- A register of BAR0 is 32 bits wide (R9). -/
abbrev W32 := BitVec 32

/-- A sparse table: key and value pairs, keys strictly rising (see `KMap.wf` in Machine/Bits.lean). -/
abbrev KMap (α : Type) := List (Nat × α)

end Sys2Proof
end

