-- ==== Sys2Proof/Syntax.lean ====
section
/-! DEFINITION. The commands of the block: one constructor of `Instr` per row of the opcode table, and the kinds of
data a command brings with it. A command's operands are what the spec lets it depend on from outside the part: the
word a host writes, the bytes a read of host memory, of a drive or of tape returned, whether a write was taken, what a
pin or a sensor shows. -/

namespace Sys2Proof

/-- What a read from outside the part returned: the bytes, a failed read, or an uncorrectable one. -/
inductive Fetch where
  | ok (b : Bytes)
  | failed
  | uncorrectable
deriving DecidableEq, Repr

/-- A verify verdict of Gleaner on a written frame (R265): sync mark 1 confirmed, header CRC correct, header fields as
written, C1 decoded, bits corrected. -/
structure Verdict where
  sm1 : Bool
  crcOk : Bool
  hdrOk : Bool
  c1Ok : Bool
  corrected : Nat
deriving DecidableEq, Repr

/-- A frame as a track delivers it (R300 to R303), in channel bits from an origin of the track's own: the bit at which
the preamble pattern was left, the positions where sync mark 1 was compared with the bits that differ and the 64
derandomised bits that follow, the positions where sync mark 2 was compared with the bits that differ, and the 1,024
derandomised bytes of the codeword as the Viterbi detector decided them. -/
structure RxFrame where
  departs : Nat
  sm1 : List (Nat × Nat × BitVec 64)
  sm2 : List (Nat × Nat)
  bits : Bytes
deriving DecidableEq, Repr

/-- A servo frame measured on a servo line (R319): the intervals B, A_1, A_2 in one unit of time, the value of B that
the last speed estimate leads to expect, and whether every stripe was detected. -/
structure ServoMeas where
  line : Fin 4
  b : Nat
  a1 : Nat
  a2 : Nat
  expect : Nat
  stripes : Bool
deriving DecidableEq, Repr

/-- What a calibration found for a track in a direction, or for a zone (R311, R315). `zone` is none for a seed of
every zone of the direction's wraps. -/
structure CalResult where
  track : Fin 64
  odd : Bool
  zone : Option (Nat × Nat)
  taps : List (BitVec 12)
  gain : BitVec 8
  offset : BitVec 8
  asym : BitVec 8
  mse : BitVec 16
deriving DecidableEq, Repr

/-- A label as read from a slice (R209, R210): a label block and the image it names. -/
structure Label where
  block : Bytes
  image : Bytes
deriving DecidableEq, Repr

/-- An extent table entry as read from a metadata image, or named by a journal record (R196; log entry 21): outermost
group, number, first data-space block, blocks, records held, whether its records are read from tape, and its tape
location. -/
structure ExtImg where
  root : Nat
  num : Nat
  start : Nat
  blocks : Nat
  refs : Nat
  onTape : Bool
  serial : Nat
  dsn : Nat
  off : Nat
deriving DecidableEq, Repr

/-- What flash and the peer hold of a domain that is being loaded (R210, R226, R389): the labels of its slices and the
lost areas of its trees; of each journal copy its leaf, header blocks and records with their ring blocks; the records of
a copy the peer holds, where it is read from there; the data blocks of the stripes that are checked, one for each STRIPE
item in order; the metadata image with the JSEQ it reaches: buckets, extent table entries, and those that journal records
name; recipes by extent; and the 32-byte entries of the replication backlogs, the
extents of the image's chain, its header's WRITES, and the position of verify (R479, R482). -/
structure Loaded where
  labels : List Label
  lost : List (Nat × Bytes)
  leafA : Option Nat
  leafB : Option Nat
  heads : List Bytes
  ringA : List (Nat × Bytes)
  ringB : List (Nat × Bytes)
  peer : Option (List (Nat × Bytes))
  stripes : List Fetch
  imgSeq : Nat
  buckets : List (Nat × Bytes)
  exts : List ExtImg
  news : List ExtImg
  recipes : List (Nat × Bytes)
  backlogs : List Bytes
  chain : List Nat
  imgWrites : Nat
  verifyAt : Nat × Nat
deriving DecidableEq, Repr

/-- What a tick boundary finds (R470, R473, R474, R549): the VDD_CORE current averaged over the tick that ends, in mA, and
the highest of its samples in 0.1 A; whether the decision set was marked ready late; the cores that did not check in; the
DIMM temperatures of the channels in °C; and the one- and two-bit corrections of each channel in the tick. -/
structure TickIn where
  imon : Nat
  peak : Nat
  late : Bool
  silent : List (Fin 8)
  dimms : List (Fin 16 × Int)
  ce : List (Fin 16 × Nat × Nat)
deriving DecidableEq, Repr

/-- A namespace found when a port is enumerated (R248, R252): its NGUID, whether its format qualifies and carries
metadata settings the spec asks for, its size in LBAs, its ANA state, and the labels found on it. -/
structure Inserted where
  nguid : Bytes
  qualified : Bool
  mset : Bool
  lbas : Nat
  ana : Nat
  labels : List Label
deriving DecidableEq, Repr

/-- Who read a word that proved uncorrectable (R411). -/
inductive Reader where
  /-- An instruction fetch of a management core, and whether Fold could reload the page. -/
  | fetch (core : Fin 8) (reloaded : Bool)
  /-- A data load of a management core for a command, by its queue entry (0 for none). -/
  | load (core : Fin 8) (eid : Nat)
  /-- An expert queue's descriptor or source read, by the queue's key. -/
  | expert (key : Nat)
  /-- The basic data path for a command, by its queue entry and the reading block's detail. -/
  | basic (eid detail : Nat)
  /-- A hit on a clean or a dirty line of Heather. -/
  | clean (way : Fin 16) (set : Nat)
  | dirty
  /-- Patrol scrub. -/
  | patrol
deriving DecidableEq, Repr

/-- The commands, one constructor per row of the opcode table. -/
inductive Instr where
  /-- UNSUPPORTED_ACCESS (R9): A BAR0 access that is not a naturally aligned 32-bit read or write completes as a PCIe Unsupported Request with no effect. -/
  | unsupportedAccess (off : Nat) (write : Bool)
  /-- REGISTER_WRITE (R12): A write to a register field without a row of its own takes the effect its access type gives (RW, W1S, W1C, ignored for RO). -/
  | registerWrite (off : Nat) (val : W32)
  /-- PAIR_LO_WRITE (R11): A write to the _LO half of a 64-bit pair goes into an invisible staging register. -/
  | pairLoWrite (off : Nat) (val : W32)
  /-- PAIR_HI_WRITE (R11): A write to the _HI half applies the new 64-bit value together with the staged or current _LO half. -/
  | pairHiWrite (off : Nat) (val : W32)
  /-- PAIR_LO_READ (R11): A read of the _LO half returns it and latches the matching _HI half for the next read. -/
  | pairLoRead (off : Nat)
  /-- RC_FIELD_READ (R12): A read of an RC field returns its value and clears it, keeping any update of the same cycle. -/
  | rcFieldRead (off : Nat)
  /-- SQ_TAIL_DOORBELL (R45): A submission tail doorbell write hands the packets up to the new tail to the FV-8610. -/
  | sqTailDoorbell (fn slot : Nat) (val : W32)
  /-- CQ_HEAD_DOORBELL (R46): A completion head doorbell write frees replies for reuse and lets held replies be written. -/
  | cqHeadDoorbell (fn slot : Nat) (val : W32)
  /-- ADM_CTRL_ENABLE (R42): Setting FLD_ADM_CTRL.EN enables ring 0 if READY is 1 and the sizes are valid, otherwise latching BAD_SIZE or doing nothing. -/
  | admCtrlEnable (val : W32)
  /-- ADM_CTRL_DISABLE (R47): Clearing FLD_ADM_CTRL.EN resets ring 0 after its outstanding commands complete. -/
  | admCtrlDisable (val : W32)
  /-- PACKET_CONSUME (R49): The arbiter consumes the next packet of a ready ring into the hardware or Fold queue once the queue has room and any fence is met. -/
  | packetConsume (pkt blk : Fetch) (replyOk : Bool)
  /-- PENDING_REPLY (R58): A Fold command without a final reply 1 ms after consumption receives a PENDING reply unless NOPEND is set. -/
  | pendingReply (eid : Nat)
  /-- SESSION_NONCE (R64): Returns a 128-bit nonce bound to the function and ring, replacing any earlier one. -/
  | sessionNonce (eid : Nat)
  /-- NONCE_EXPIRY (R64): A nonce not used within 10 s stops being valid. -/
  | nonceExpiry (fn ring : Nat)
  /-- SESSION_OPEN (R559): Judges role, port, nonce, key, back-off, Maintainer limit, table space and proof, and opens a session with a new tag. -/
  | sessionOpen (eid : Nat)
  /-- BACKOFF_EXPIRY (R69): When a failed proof's back-off delay ends, its held ACCESS_DENIED reply is written. -/
  | backoffExpiry (eid : Nat)
  /-- SESSION_RENEW (R72): Restarts the idle period of the session. -/
  | sessionRenew (eid : Nat)
  /-- SESSION_EXPIRY (R72): A session idle for FLD_session_idle_s expires at a tick check, making a close point and returning held instances. -/
  | sessionExpiry (tag : Nat)
  /-- SESSION_CLOSE (R73): Makes a close point for the session and replies OK once admitted commands have replied. -/
  | sessionClose (eid : Nat)
  /-- SESSION_CLOSE_COMPLETE (R73): When every command admitted before the close point has replied, SESSION_CLOSE replies OK. -/
  | sessionCloseComplete (eid : Nat)
  /-- ROLE_KEY_SET (R68): Stores or replaces one role key in NOR, ending the provisioning state for a Maintainer key. -/
  | roleKeySet (eid : Nat) (norOk : Bool)
  /-- RING_CREATE (R557): Creates a submission ring with a new or shared completion ring for a function. -/
  | ringCreate (eid : Nat)
  /-- RING_DELETE (R558): Deletes a ring after its outstanding commands, freeing its ID and doorbell slot. -/
  | ringDelete (eid : Nat)
  /-- RING_RESET (R558): Returns a ring from Error to service after its outstanding commands complete. -/
  | ringReset (eid : Nat)
  /-- RING_DRAIN_COMPLETE (R47): When a deleted or reset ring has no outstanding commands, its indices return to 0 or its ID is freed. -/
  | ringDrainComplete (ring : Nat)
  /-- RING_QUERY (R558): Returns the indices, error cause, sizes and completion-ring state of a ring. -/
  | ringQuery (eid : Nat)
  /-- ENGINE_EXPERT_ENTER (R76): Starts handover of an engine instance to the Expert session and replies PENDING. -/
  | engineExpertEnter (eid : Nat)
  /-- HANDOVER_DRAIN_COMPLETE (R76): When queued basic work has drained, the instance enters Expert and the ENTER replies OK. -/
  | handoverDrainComplete (code inst : Nat)
  /-- HANDOVER_TIMEOUT (R32): A handover not drained after 100 ms completes TIMEOUT and the instance returns to Basic. -/
  | handoverTimeout (code inst : Nat)
  /-- ENGINE_EXPERT_RETURN (R78): Returns an instance to Basic, aborting outstanding expert descriptors. -/
  | engineExpertReturn (eid : Nat)
  /-- RETURN_COMPLETE (R78): When every expert descriptor has completed or been aborted, the instance is Basic again and RETURN replies OK. -/
  | returnComplete (code inst : Nat) (descs : List Bytes) (cqOk : Bool)
  /-- ENGINE_QUERY (R560): Returns the control state, disable flags and holder of an instance. -/
  | engineQuery (eid : Nat)
  /-- ENGINE_DISABLE (R79): Stops an instance for both control levels once its work drains. -/
  | engineDisable (eid : Nat)
  /-- DISABLE_DRAIN_COMPLETE (R79): When the disable drain ends the instance stops, DISABLE replies OK and any queued enable takes effect. -/
  | disableDrainComplete (code inst : Nat)
  /-- ENGINE_ENABLE (R79): Re-enables a disabled instance, or queues behind a running disable drain. -/
  | engineEnable (eid : Nat)
  /-- XQ_ENABLE (R561): Setting XQ_CTRL.EN of an expert queue starts or restarts it if the instance is in Expert and the sizes are valid. -/
  | xqEnable (off : Nat) (val : W32)
  /-- XQ_DISABLE (R561): Clearing XQ_CTRL.EN stops an expert queue so that it can be restarted. -/
  | xqDisable (off : Nat) (val : W32)
  /-- XQ_TAIL_WRITE (R561): An expert submission tail write hands new descriptors to the instance or Drover queue. -/
  | xqTailWrite (off : Nat) (val : W32)
  /-- XCQ_HEAD_WRITE (R561): An expert completion head write frees completion entries and clears a full-queue stall. -/
  | xcqHeadWrite (off : Nat) (val : W32)
  /-- PARAM_GET (R80): Returns a parameter's value, attributes, minimum and maximum. -/
  | paramGet (eid : Nat)
  /-- PARAM_SET (R81): Checks and applies, stores or persists one Fold parameter value. -/
  | paramSet (eid : Nat) (norOk : Bool)
  /-- PARAM_SET_BATCH (R82): Checks a block of parameter entries and applies them all at the next tick boundary, replying after it. -/
  | paramSetBatch (eid : Nat) (norOk : Bool)
  /-- PARAM_INFO (R80): Returns the ID, attributes, default and maximum of a parameter named in ASCII. -/
  | paramInfo (eid : Nat)
  /-- PUT (R21): Ingests an object from a host buffer, list or GRMP window through chunking, dedupe, compression, encryption and placement. -/
  | put (eid : Nat) (list src : Fetch) (cmp : List Fetch)
  /-- PUT_INLINE (R114): Ingests an object whose bytes follow the fields in the parameter block. -/
  | putInline (eid : Nat) (list src : Fetch) (cmp : List Fetch)
  /-- PUT_FIXED (R91): Ingests an object in fixed 16 KiB chunk mode whatever the policy says. -/
  | putFixed (eid : Nat) (list src : Fetch) (cmp : List Fetch)
  /-- PUT_COMMIT (R21): When stripe writes, the journal record and owners of hit entries are done, references are applied and the PUT replies. -/
  | putCommit (eid : Nat) (cmp : List Fetch)
  /-- PUT_IDLE_TIMEOUT (R115): A GRMP-fed PUT that receives no byte for SWD_put_idle_ms completes TIMEOUT and commits nothing. -/
  | putIdleTimeout (eid : Nat)
  /-- GET (R117): Reads the committed recipe, verifies and delivers the whole object in order. -/
  | get (eid : Nat) (list : Fetch) (recs again : List Fetch) (destOk : Bool)
  /-- GET_RANGE (R119): Delivers a byte range of an object after verifying every block of the chunks read. -/
  | getRange (eid : Nat) (list : Fetch) (recs again : List Fetch) (destOk : Bool)
  /-- DELETE_REF (R109): Removes an object entry through the journal and decrements each indexed chunk. -/
  | deleteRef (eid : Nat)
  /-- OBJECT_STAT (R108): Returns the length, chunk count and commit sequence of an object. -/
  | objectStat (eid : Nat)
  /-- TENANT_CREATE (R93): Creates a tenant space with a generated or supplied salt. -/
  | tenantCreate (eid : Nat)
  /-- TENANT_DESTROY (R161): Waits for the space's commands, retires its generations and forgets the tenant. -/
  | tenantDestroy (eid : Nat)
  /-- POLICY_CREATE (R119): Creates a policy naming an outermost group, chunk mode, flags and tenant. -/
  | policyCreate (eid : Nat)
  /-- POLICY_DESTROY (R119): Destroys the policy named in HANDLE. -/
  | policyDestroy (eid : Nat)
  /-- TOMBSTONE_RECLAIM (R110): At a tick boundary after every earlier command has completed, Fold reclaims tombstones and deleted records. -/
  | tombstoneReclaim (dom : Fin 8)
  /-- SWD_CHUNK (R121): An expert CHUNK descriptor writes boundaries, check fields and fingerprints. -/
  | swdChunk (lane : Fin 16) (desc src : Fetch) (cqOk : Bool)
  /-- SWD_LOOKUP (R121): An expert LOOKUP descriptor returns index entries for fingerprints without changing the index. -/
  | swdLookup (lane : Fin 16) (desc src : Fetch) (cqOk : Bool)
  /-- SWD_VERIFY (R121): An expert VERIFY descriptor checks data against check fields. -/
  | swdVerify (lane : Fin 16) (desc src fields : Fetch) (cqOk : Bool)
  /-- GRS_COMPRESS (R132): A COMPRESS job turns an original into a Gorse frame, optionally with history in or out. -/
  | grsCompress (inst : Fin 16) (desc src hist : Fetch) (cqOk : Bool)
  /-- GRS_DECOMPRESS (R134): A DECOMPRESS job checks a frame and restores its original. -/
  | grsDecompress (inst : Fin 16) (desc src hist : Fetch) (cqOk : Bool)
  /-- TENANT_KEY_SET (R160): Loads a new generation, reloads a live one or starts retiring a generation of a tenant key. -/
  | tenantKeySet (eid : Nat)
  /-- RETIRE_COMPLETE (R161): When commands admitted before the retire point complete, the slot is zeroized, the generation leaves the table and RETIRE replies. -/
  | retireComplete (eid : Nat)
  /-- KEYLOAD_KEY (R151): BRK_KEYLOAD.GO with an XTS or GCM type loads BRK_KEYIN into an expert slot or is refused. -/
  | keyloadKey (val : W32)
  /-- KEYLOAD_HWK (R156): BRK_KEYLOAD.GO with TYPE HWK stores the head wrapping key while provisioning. -/
  | keyloadHwk (val : W32)
  /-- KEYLOAD_ZEROIZE (R155): BRK_KEYLOAD.GO with TYPE zeroize empties an expert slot once its jobs finish. -/
  | keyloadZeroize (val : W32)
  /-- KEY_SLOT_FAULT (R160): An uncorrectable error in a key slot empties it and fails the jobs using it. -/
  | keySlotFault (slot : Nat)
  /-- BRK_XTS_ENCRYPT (R146): An expert descriptor encrypts a data unit in XTS mode. -/
  | brkXtsEncrypt (inst : Fin 8) (desc src : Fetch) (cqOk : Bool)
  /-- BRK_XTS_DECRYPT (R146): An expert descriptor decrypts a data unit in XTS mode. -/
  | brkXtsDecrypt (inst : Fin 8) (desc src : Fetch) (cqOk : Bool)
  /-- BRK_GCM_ENCRYPT (R148): An expert descriptor encrypts a message in GCM mode and appends the tag. -/
  | brkGcmEncrypt (inst : Fin 8) (desc src aad : Fetch) (cqOk : Bool)
  /-- BRK_GCM_DECRYPT (R150): An expert descriptor decrypts in GCM mode, zeroing its output on tag mismatch. -/
  | brkGcmDecrypt (inst : Fin 8) (desc src aad : Fetch) (cqOk : Bool)
  /-- BRK_UNWRAP (R157): An expert descriptor unwraps a blob under the HWK into an expert slot. -/
  | brkUnwrap (inst : Fin 8) (desc src : Fetch) (cqOk : Bool)
  /-- THS_CLAIM (R170): A read of THS_CLAIM claims the lowest free Expert context or returns BUSY. -/
  | thsClaim
  /-- THS_START (R173): START begins a message with the algorithm's initial hash value. -/
  | thsStart (ctx : Fin 32) (val : W32)
  /-- THS_GO (R175): GO starts a feed of LEN bytes from SRC or a scatter-gather list. -/
  | thsGo (ctx : Fin 32) (val : W32)
  /-- FEED_COMPLETE (R177): A completed feed adds LEN to COUNT, returns the context to OPEN and raises its event. -/
  | feedComplete (ctx : Fin 32) (list data : Fetch)
  /-- FEED_FAULT (R176): A list mismatch or failed read during a feed zeroes the context and puts it in FAULT. -/
  | feedFault (ctx : Fin 32) (list data : Fetch)
  /-- THS_COMPARE (R180): COMPARE checks digest against expect bytes with two independent comparators. -/
  | thsCompare (ctx : Fin 32) (val : W32) (agree mgmt : Bool)
  /-- THS_RESET (R173): RESET zeroes the context and enters IDLE. -/
  | thsReset (ctx : Fin 32) (val : W32)
  /-- THS_RELEASE (R173): RELEASE zeroes the context and returns it to FREE. -/
  | thsRelease (ctx : Fin 32) (val : W32)
  /-- GROUP_CREATE (R211): Creates a group node tree from slices and free groups and writes its labels. -/
  | groupCreate (eid : Nat) (lab : List Bool)
  /-- GROUP_DESTROY (R212): Destroys an unused outermost or free group tree and invalidates its labels. -/
  | groupDestroy (eid : Nat)
  /-- GROUP_QUERY (R213): Returns a group's state, layout, domain and data space. -/
  | groupQuery (eid : Nat)
  /-- MEMBER_ATTACH (R214): Adds a spare slice to a group. -/
  | memberAttach (eid : Nat) (lab : Bool)
  /-- DOMAIN_MOVE (R215): Starts moving a tree between two owned domains and replies PENDING. -/
  | domainMove (eid : Nat)
  /-- DOMAIN_MOVE_DRAINED (R215): When commands admitted before the move point complete, the tree's open stripes are sealed. -/
  | domainMoveDrained (eid : Nat)
  /-- DOMAIN_MOVE_SEALED (R215): When the seals finish, Fold scans the source index and moves the tree's entries. -/
  | domainMoveSealed (eid : Nat)
  /-- DOMAIN_MOVE_SCAN_DONE (R215): When the scan finishes, DOMAIN is rewritten in every node and the labels are rewritten. -/
  | domainMoveScanDone (eid : Nat)
  /-- DOMAIN_MOVE_LABELS_DONE (R215): When the labels are written, DOMAIN_MOVE replies OK and the tree is released. -/
  | domainMoveLabelsDone (eid : Nat)
  /-- FULL_STRIPE_WRITE (R197): When all data blocks of a stripe are present, parity is computed at every level and all member writes issue together. -/
  | fullStripeWrite (root block : Nat)
  /-- STRIPE_SEAL (R198): A stripe open for TSK_seal_ms is sealed with zero-filled blocks. -/
  | stripeSeal (root block : Nat)
  /-- JOURNAL_FILL_SEAL (R198): When the journal reaches TSK_seal_jfill_pct, stripes are sealed oldest first. -/
  | journalFillSeal (dom : Fin 8)
  /-- SMALL_WRITE (R200): Once its journal record is complete, a small write takes the stripe lock, reads, recomputes parity and writes. -/
  | smallWrite (id : Nat) (old : Fetch)
  /-- SMALL_WRITE_DONE (R200): When all small-write member writes are acknowledged, the lock and journal space are released. -/
  | smallWriteDone (id : Nat)
  /-- MEMBER_READ_COMPLETE (R207): A member read completes and every LBA's unit tag is checked. -/
  | memberReadComplete (nsn lba : Nat) (readOk : Bool) (data tags : Bytes) (recon : Option Bytes) (eid : Nat) (nodeOk : Bool)
  /-- TSK_ENCODE (R218): An expert ENCODE descriptor computes parity buffers. -/
  | tskEncode (inst : Fin 8) (desc : Fetch) (srcs : List Fetch) (cqOk : Bool)
  /-- TSK_DECODE (R218): An expert DECODE descriptor reconstructs erased buffers. -/
  | tskDecode (inst : Fin 8) (desc : Fetch) (srcs : List Fetch) (cqOk : Bool)
  /-- TSK_WALK (R218): An expert WALK descriptor writes the per-level mapping of a block. -/
  | tskWalk (inst : Fin 8) (desc : Fetch) (srcs : List Fetch) (cqOk : Bool)
  /-- TSK_READ (R218): An expert READ descriptor returns blocks without reconstruction and checks their tags. -/
  | tskRead (inst : Fin 8) (desc : Fetch) (srcs : List Fetch) (cqOk : Bool)
  /-- JOURNAL_RECORD_COMPLETE (R223): A journal record becomes complete when both member copies and the peer copy acknowledge it. -/
  | journalRecordComplete (dom : Fin 8) (jseq : Nat)
  /-- JOURNAL_RELEASE (R224): A record whose effects are on flash outside the journal is released and the tail advances. -/
  | journalRelease (dom : Fin 8) (jseq : Nat)
  /-- JOURNAL_SPACE_TIMEOUT (R224): A record without ring space after TSK_jwait_ms fails its command NO_SPACE. -/
  | journalSpaceTimeout (dom : Fin 8) (jseq : Nat)
  /-- JOURNAL_COPY_LOST (R225): A failed copy write or a slice leaving ONLINE clears the copy's VALID and stops issuing. -/
  | journalCopyLost (dom : Fin 8) (b : Bool)
  /-- JOURNAL_COPY_PLACE (R225): At the next tick boundary Fold places a replacement copy and starts writing the live ring. -/
  | journalCopyPlace (dom : Fin 8)
  /-- JOURNAL_COPY_VALID (R225): When the replacement copy's writes are acknowledged, VALID sets and issuing resumes. -/
  | journalCopyValid (dom : Fin 8) (b : Bool)
  /-- JOURNAL_COPY_TIMEOUT (R225): If two copies are not placed within TSK_jwait_ms, waiting commands complete MEDIA_ERROR. -/
  | journalCopyTimeout (dom : Fin 8)
  /-- SAMEFD_REPLACE (R221): At a tick boundary with SAMEFD set, a new copy B is placed on a slice of another failure domain. -/
  | samefdReplace (dom : Fin 8)
  /-- AUTO_SPARE_REPLACE (R228): At the next tick boundary a FAILED or MISSING leaf is replaced by a qualifying spare. -/
  | autoSpareReplace (leaf : Nat)
  /-- MEMBER_REPLACE (R229): Replaces a leaf by a spare and starts or joins the rebuild pass. -/
  | memberReplace (eid : Nat)
  /-- MEMBER_REBUILD (R229): Runs, resumes or holds a group's rebuild pass and reports progress. -/
  | memberRebuild (eid : Nat)
  /-- REBUILD_STEP (R230): The rebuild pass rebuilds one stripe under its lock and advances RB_NEXT. -/
  | rebuildStep (group : Nat) (units : List (List Fetch)) (up : Option (List Bytes)) (above : List Fetch)
  /-- LOST_LIST_READ (R235): Writes lost-list entries of a tree to host memory. -/
  | lostListRead (eid : Nat) (destOk : Bool)
  /-- RESHAPE_START (R240): Starts growing a group to a new layout and replies after the first label write. -/
  | reshapeStart (eid : Nat) (lab : List Bool)
  /-- RESHAPE_STEP (R238): A reshape step writes one new-layout stripe, with a checkpoint where needed. -/
  | reshapeStep (group : Nat) (old : Fetch)
  /-- RESHAPE_ZERO_STEP (R239): The zero pass writes one zero-filled stripe in the new layout. -/
  | reshapeZeroStep (group : Nat)
  /-- RESHAPE_COMPLETE (R239): At the end of the zero pass the new geometry takes effect in one record and label write. -/
  | reshapeComplete (group : Nat)
  /-- RESHAPE_RESUME (R240): A held reshape resumes at the first tick boundary at which its group is OPTIMAL. -/
  | reshapeResume (group : Nat)
  /-- RESHAPE_QUERY (R240): Returns the reshape state, new values and progress. -/
  | reshapeQuery (eid : Nat)
  /-- NVME_COMPLETION (R247): A drive completion acknowledges a write or returns read data. -/
  | nvmeCompletion (cid status : Nat)
  /-- NVME_COMMAND_TIMEOUT (R250): A command outstanding beyond FPT_cmd_timeout_ms is aborted. -/
  | nvmeCommandTimeout (cid : Nat)
  /-- ABORT_TIMEOUT (R250): An Abort not completed within 1,000 ms resets the controller. -/
  | abortTimeout (cid : Nat)
  /-- CONTROLLER_READY_TIMEOUT (R250): CSTS.RDY not returning within CAP.TO makes the controller's leaves MISSING. -/
  | controllerReadyTimeout (port : Fin 16)
  /-- DPC_TRIGGER (R251): A surprise removal or link drop triggers DPC and fails outstanding commands within 1 µs. -/
  | dpcTrigger (port : Fin 16) (gone : Bool)
  /-- MISSING_MARK (R251): At the next tick boundary the leaves behind a contained port become MISSING in one record. -/
  | missingMark (port : Fin 16)
  /-- DPC_RELEASE (R251): Fold releases DPC once presence reads empty or the link has retrained. -/
  | dpcRelease (port : Fin 16)
  /-- INSERTION_SETTLED (R252): After presence is stable for FPT_insert_settle_ms the port is enumerated and namespaces bound. -/
  | insertionSettled (port : Fin 16) (nss : List Inserted) (speed width : Nat) (flit : Bool)
  /-- ANA_CHANGE (R247): A namespace reporting ANA Inaccessible or Persistent Loss is treated as absent. -/
  | anaChange (nsn : Nat) (state : Nat)
  /-- PORT_ERROR (R243): An AER or ECRC error on a flash port sets its event bit and raises a Hedgerow event. -/
  | portError (port : Fin 16) (cause : Nat)
  /-- NS_UNBIND (R248): On a tick check, a number of an absent namespace no leaf refers to is unbound. -/
  | nsUnbind (nsn : Nat)
  /-- TAPE_MIGRATE (R283): Queues a job that writes extents or host records to tape. -/
  | tapeMigrate (eid : Nat)
  /-- TAPE_RECALL (R286): Queues a job that reads records back from tape to flash or host memory. -/
  | tapeRecall (eid : Nat)
  /-- TAPE_VERIFY (R287): Queues a job that decodes and checks a range of data sets. -/
  | tapeVerify (eid : Nat)
  /-- TAPE_JOB_START (R282): A transport starts its next queued job when the previous one ends. -/
  | tapeJobStart (t : Fin 2)
  /-- CM_READ (R288): Reads part of the first 64 KiB of cartridge memory. -/
  | cmRead (eid : Nat) (destOk : Bool)
  /-- CM_WRITE (R288): Writes the cartridge memory host area. -/
  | cmWrite (eid : Nat) (src : Fetch)
  /-- TAPE_STATUS (R288): Returns the transport's state, step, fill, DSN, write pass and wrap. -/
  | tapeStatus (eid : Nat)
  /-- WRITE_START (R273): When the fill reaches WDR_start_pct or input ends, writing starts at a chosen step. -/
  | writeStart (t : Fin 2) (input : List Fetch)
  /-- DATA_SET_BOUNDARY (R274): At each data set end Windrow forms the rewrite area, checks fill for speed changes and writes a data set or filler. -/
  | dataSetBoundary (t : Fin 2) (input : List Fetch)
  /-- FRAME_VERDICT (R265): A verify verdict from Gleaner marks a frame passed or pending rewrite. -/
  | frameVerdict (t : Fin 2) (dsn sds cwi : Nat) (v : Verdict)
  /-- WRITE_GAP (R275): After 4 consecutive fillers Windrow closes the write gate and lets the tape run on. -/
  | writeGap (t : Fin 2)
  /-- SHORT_BUFFER_STOP (R276): A buffer still short 2 s after becoming short closes the group and stops the transport. -/
  | shortBufferStop (t : Fin 2)
  /-- APPEND_RESUME (R276): When the append point passes the head after a restart, the gate opens and writing resumes. -/
  | appendResume (t : Fin 2)
  /-- WRAP_END (R277): When no data set fits before the wrap's end, Windrow pads, closes the group and turns onto the next wrap. -/
  | wrapEnd (t : Fin 2) (preOk : Bool)
  /-- CM_EOD_UPDATE (R278): Once every data set of a flushed job has a passing copy, the EOD and tables are written to cartridge memory. -/
  | cmEodUpdate (t : Fin 2) (writeOk retryOk : Bool)
  /-- EXTENT_TAPE_COMMIT (R284): An extent commits to tape when its data sets pass and its journal record is complete. -/
  | extentTapeCommit (t : Fin 2) (rseq : Nat)
  /-- RECALL_COMMIT (R286): A recalled extent commits back to flash through a journal record. -/
  | recallCommit (t : Fin 2) (idx : Nat) (destOk : Bool)
  /-- RAMP_COMPLETE (R328): A speed ramp ends and the transport runs at its new step. -/
  | rampComplete (t : Fin 2)
  /-- WDR_ENCODE (R291): An expert ENCODE descriptor encodes a payload image into codewords. -/
  | wdrEncode (t : Fin 2) (desc src : Fetch) (cqOk : Bool)
  /-- WDR_WRITE_DS (R291): An expert WRITE_DS descriptor writes one data set at the append point. -/
  | wdrWriteDs (t : Fin 2) (desc src : Fetch) (cqOk : Bool)
  /-- WDR_READ_DS (R291): An expert READ_DS descriptor reads and decodes one data set. -/
  | wdrReadDs (t : Fin 2) (desc src : Fetch) (cqOk : Bool)
  /-- WDR_LOCATE (R291): An expert LOCATE descriptor positions the tape ahead of a DSN. -/
  | wdrLocate (t : Fin 2) (desc src : Fetch) (cqOk : Bool)
  /-- TRACK_PREAMBLE (R299): At a track's preamble the elastic buffer recentres, pending settings load and acquisition starts. -/
  | trackPreamble (t : Fin 2) (track : Fin 64)
  /-- FRAME_RECEIVED (R303): A frame is framed by its sync marks, decoded by normal C1 and its verdict delivered within 12 µs. -/
  | frameReceived (t : Fin 2) (track : Fin 64) (frame : RxFrame)
  /-- ELASTIC_SLIP (R295): An elastic buffer reaching 0 or 64 bits slips and erases the track's current frame. -/
  | elasticSlip (t : Fin 2) (track : Fin 64)
  /-- LOCK_LOSS (R299): The lock detector exceeding LOCK_THR declares the track unlocked. -/
  | lockLoss (t : Fin 2) (track : Fin 64)
  /-- SPEED_OK_CHANGE (R294): Measured speed crossing 1.45 m/s starts or stops detection, erasing unfinished frames. -/
  | speedOkChange (t : Fin 2) (ok : Bool)
  /-- RECOVERY_DECODE (R305): The recovery engine takes the next queued frame and runs iterative detection and decoding. -/
  | recoveryDecode (t : Fin 2)
  /-- REREAD (R307): An unrestored data set is reread at step 4 with captured samples and widened adaptation. -/
  | reread (t : Fin 2)
  /-- ZONE_BOUNDARY_CROSS (R309): Crossing a zone boundary loads new entries per track and writes back converged adaptation. -/
  | zoneBoundaryCross (t : Fin 2) (zone : Fin 64) (bad : List Nat)
  /-- ACTIVITY_CLASS_CHANGE (R312): After 8 consecutive ticks in another current band the activity class changes. -/
  | activityClassChange
  /-- RECALIBRATE (R313): A pending recalibration runs in the next idle window and adjusts every entry. -/
  | recalibrate (t : Fin 2)
  /-- FORCED_RECAL (R314): A set stale for GLN_recal_force_s forces a recalibration, pausing the job. -/
  | forcedRecal (t : Fin 2)
  /-- TAPE_CALIBRATE (R315): Queues a calibration or measurement of zone entries. -/
  | tapeCalibrate (eid : Nat)
  /-- CALIBRATION_COMPLETE (R311): Calibration ends, seeds the zone table and records the set. -/
  | calibrationComplete (t : Fin 2) (src : Nat) (results : List CalResult)
  /-- SERVO_SAMPLE (R320): Every 25 µs the PES is formed, the loop updated, the nominal frequency set and an actuator frame sent. -/
  | servoSample (t : Fin 2) (ms : List ServoMeas) (speed : Nat)
  /-- SERVO_LOCK (R320): After 8 consecutive valid samples the servo locks. -/
  | servoLock (t : Fin 2)
  /-- SERVO_UNLOCK (R320): After 4 consecutive invalid samples the servo loses lock. -/
  | servoUnlock (t : Fin 2)
  /-- POSITION_WORD (R324): A decoded position word updates the longitudinal address and its validity. -/
  | positionWord (t : Fin 2) (word : BitVec 64)
  /-- REEL_SETPOINT_FRAME (R327): Every 250 µs a setpoint frame goes to the reel controller. -/
  | reelSetpointFrame (t : Fin 2)
  /-- REEL_STATUS_FRAME (R327): A status frame from the reel controller updates LOADED, write protect, tension and fault. -/
  | reelStatusFrame (t : Fin 2) (loaded wpSw tensionOk fault crcOk : Bool) (supply takeup : Nat) (preOk : Bool)
  /-- REEL_LINK_SILENT (R329): No valid status frame for 2 ms closes the gate and fails the transport's jobs. -/
  | reelLinkSilent (t : Fin 2)
  /-- WRITE_GATE_CLOSE (R331): The write gate closes within 50 ns of any gate condition failing. -/
  | writeGateClose (t : Fin 2) (slot : Nat)
  /-- WRITE_GATE_REOPEN (R332): After REOPEN valid samples, the gate reopens at the start of a frame slot. -/
  | writeGateReopen (t : Fin 2) (slot : Nat)
  /-- CARTRIDGE_MOUNT (R333): Checks cartridge memory, loads, locks servo, calibrates and recovers EOD. -/
  | cartridgeMount (eid : Nat) (cm : Fetch)
  /-- MOUNT_LOAD_TIMEOUT (R333): A load not reported within 30 s fails the mount MEDIA_ERROR. -/
  | mountLoadTimeout (t : Fin 2)
  /-- CARTRIDGE_UNLOAD (R334): Aborts queued jobs, finishes or stops the running one, writes EOD if dirty, rewinds and unloads. -/
  | cartridgeUnload (eid : Nat)
  /-- CONN_OPEN (R340): Creates a GRMP connection with its key and starts sending HELLO. -/
  | connOpen (eid : Nat)
  /-- CONN_CLOSE (R342): Closes a connection after its transmitting operations end, revoking its spaces. -/
  | connClose (eid : Nat)
  /-- CONN_QUERY (R341): Returns a connection's state, path, residency and counters. -/
  | connQuery (eid : Nat)
  /-- SPACE_CREATE (R352): Creates a HOST or INGEST space and returns its key. -/
  | spaceCreate (eid : Nat)
  /-- SPACE_REVOKE (R357): Marks a space revoked at the revoke point and lets admitted work finish. -/
  | spaceRevoke (eid : Nat)
  /-- REVOKE_COMPLETE (R357): When admitted work is done, a bound PUT fails, the entry is freed and SPACE_REVOKE replies OK. -/
  | revokeComplete (eid : Nat)
  /-- REPL_LINK_CREATE (R360): Creates a replication link from a local policy to a remote one. -/
  | replLinkCreate (eid : Nat)
  /-- GRMP_WRITE (R353): A received WRITE is authenticated, sequenced, checked against its space and landed or refused. -/
  | grmpWrite (port : Fin 2) (frame : Bytes) (cmp : List Fetch)
  /-- GRMP_READ_REQ (R354): A received READ_REQ is answered with READ_RESP packets from the space. -/
  | grmpReadReq (port : Fin 2) (frame : Bytes) (mem : Fetch)
  /-- GRMP_READ_RESP (R338): A received READ_RESP delivers data of an outstanding read. -/
  | grmpReadResp (port : Fin 2) (frame : Bytes)
  /-- GRMP_SEND (R356): A received SEND part is refused on client connections or handed to Fold. -/
  | grmpSend (port : Fin 2) (frame : Bytes)
  /-- GRMP_ACK (R344): A received ACK acknowledges every PSN up to APSN. -/
  | grmpAck (port : Fin 2) (frame : Bytes)
  /-- GRMP_NAK (R338): A received NAK refuses a packet and triggers a resend or completes the operation. -/
  | grmpNak (port : Fin 2) (frame : Bytes)
  /-- GRMP_HEARTBEAT (R348): A received heartbeat on CID 0 renews the path, peer state and lease fields. -/
  | grmpHeartbeat (port : Fin 2) (frame : Bytes)
  /-- GRMP_HELLO (R340): An authenticated HELLO makes the connection ESTABLISHED. -/
  | grmpHello (port : Fin 2) (frame : Bytes)
  /-- GRMP_CLOSE (R342): A received CLOSE puts the connection into CLOSED and aborts its operations. -/
  | grmpClose (port : Fin 2) (frame : Bytes)
  /-- HELLO_TIMER (R340): An OPENING connection sends HELLO every 1 ms. -/
  | helloTimer (cid : Nat)
  /-- HEARTBEAT_TRANSMIT (R348): Every 10 µs a heartbeat goes out on CID 0 on both paths. -/
  | heartbeatTransmit
  /-- ACK_TIMER (R344): Received packets are acknowledged within 2 µs or after 16 packets. -/
  | ackTimer (cid : Nat)
  /-- RETRANSMIT_TIMEOUT (R345): After DRV_rto_us without progress the sender resends, entering ERROR after DRV_retry_max timeouts. -/
  | retransmitTimeout (cid : Nat)
  /-- BUSY_RESEND (R345): 2 µs after a STATE_BUSY or FULL NAK the sender resends from the refused PSN. -/
  | busyResend (cid : Nat)
  /-- HEARTBEAT_TIMEOUT (R347): No valid heartbeat for DRV_hb_timeout_us declares the path down and switches its connections. -/
  | heartbeatTimeout (path : Fin 2)
  /-- PATH_RETURN (R346): After 100 consecutive heartbeats a connection with nothing unacknowledged returns to its home path. -/
  | pathReturn (path : Fin 2)
  /-- STATE_FETCH_COMPLETE (R350): An evicted connection's state arrives and its parked packets are processed in arrival order. -/
  | stateFetchComplete (cid : Nat) (mem cmp : List Fetch)
  /-- PEER_RELEASE_MSG (R359): A received RELEASE message gives the peer's journal tails. -/
  | peerReleaseMsg (cid : Nat)
  /-- NSBIND (R249): A received NSBIND message adds a namespace binding from head A. -/
  | nsbind (cid : Nat)
  /-- OFFER (R361): A received OFFER is answered with WANT naming the chunks the target lacks. -/
  | offer (cid : Nat)
  /-- WANT (R361): A received WANT makes the source ship the wanted records. -/
  | want (cid : Nat) (recs : List Fetch)
  /-- RECORDS (R361): Received RECORDS are checked, placed and committed as a PUT with REPLACE. -/
  | records (cid : Nat)
  /-- DONE (R361): A received DONE ends shipping of an object or marks it for retry. -/
  | done (cid : Nat)
  /-- REPL_DELETE (R361): A received DELETE message is applied as DELETE_REF. -/
  | replDelete (cid : Nat)
  /-- REPL_SHIP (R361): An object committed under a linked policy is shipped from the backlog. -/
  | replShip (link : Nat)
  /-- REPL_RETRY (R361): A failed object is retried at each of the next 3 tick boundaries and then dropped. -/
  | replRetry (link : Nat)
  /-- DRV_WRITE (R363): An expert WRITE descriptor writes to a remote space. -/
  | drvWrite (q : Fin 64) (desc src : Fetch)
  /-- DRV_READ (R363): An expert READ descriptor reads from a remote space. -/
  | drvRead (q : Fin 64) (desc src : Fetch)
  /-- DRV_SEND (R363): An expert SEND descriptor sends a message. -/
  | drvSend (q : Fin 64) (desc src : Fetch)
  /-- CHAIN_WAIT_SATISFIED (R364): A waiting descriptor starts once its awaited queue's COUNT reaches WAIT_CNT. -/
  | chainWaitSatisfied (q : Fin 64) (src : Fetch)
  /-- CHAIN_TIMEOUT (R364): A descriptor waiting DRV_chain_tmo_ms completes TIMEOUT and halts its queue. -/
  | chainTimeout (q : Fin 64)
  /-- DRV_XCOUNT (R364): A write of DRV_XCOUNT sets a queue's completion count, taking effect in the wait test's cycle. -/
  | drvXcount (q : Fin 64) (val : W32)
  /-- PATH_STATUS (R376): Returns path, subport and heartbeat status. -/
  | pathStatus (eid : Nat)
  /-- SUBPORT_UP (R371): A subport aligned and stable for NET_up_settle_ms comes up. -/
  | subportUp (port : Fin 2) (sub : Fin 8)
  /-- SUBPORT_DOWN (R371): Loss of marker lock or FEC degradation takes a subport down within 2 µs. -/
  | subportDown (port : Fin 2) (sub : Fin 8) (fec : Bool)
  /-- SUBPORT_RETURN (R373): A connection returns to its home subport after 1 ms up with nothing unacknowledged. -/
  | subportReturn (port : Fin 2) (sub : Fin 8)
  /-- NEIGHBOUR_DISCOVERY (R369): Fold answers a neighbour solicitation on a network path within its rate limit. -/
  | neighbourDiscovery (port : Fin 2) (sub : Fin 8) (frame : Bytes)
  /-- ECHO_REQUEST (R369): Fold answers an ICMPv6 echo request within its rate limit. -/
  | echoRequest (port : Fin 2) (sub : Fin 8) (frame : Bytes)
  /-- ARP_REQUEST (R369): Fold answers ARP while IPv4 is enabled. -/
  | arpRequest (port : Fin 2) (sub : Fin 8) (frame : Bytes)
  /-- HBT_PULSE (R375): Every 10 µs a READY head pulls its heartbeat line low for 1.0 µs. -/
  | hbtPulse
  /-- HBT_EDGE (R375): A falling edge on the peer's line restarts AGE, and 3 valid pulses set HBT_IN again. -/
  | hbtEdge (widthOk : Bool)
  /-- HBT_TIMEOUT (R375): AGE reaching DRV_hb_timeout_us clears HBT_IN. -/
  | hbtTimeout
  /-- HBT_STUCK (R375): The peer's line held low beyond 3 µs sets STUCK and clears HBT_IN. -/
  | hbtStuck
  /-- DOMAIN_CLAIM (R386): Claims a mask of domains, optionally arming dual-head operation. -/
  | domainClaim (eid : Nat)
  /-- HLK_PULL (R381): Once HLKn has read high for 2 µs the claimant pulls it low, head B probing for a tie. -/
  | hlkPull (dom : Fin 8) (probe : Bool)
  /-- HLK_READBACK (R381): At tp + 2 µs the line is read and the domain enters LOADING or the claim fails. -/
  | hlkReadback (dom : Fin 8) (low : Bool)
  /-- CLAIM_WAIT_TIMEOUT (R381): A commanded claim waiting 1 ms on a low line completes BUSY. -/
  | claimWaitTimeout (dom : Fin 8)
  /-- LEASE_GRANT_TIMEOUT (R386): A lease-mode claim without a grant after 3 ms completes BUSY. -/
  | leaseGrantTimeout (dom : Fin 8)
  /-- DOMAIN_RELEASE (R387): Releases domains at the release point, draining and sealing before giving them up. -/
  | domainRelease (eid : Nat)
  /-- DOMAIN_RELEASE_DRAINED (R387): When the journal is empty and the image written, the domain becomes UNOWNED and optionally passes to the peer. -/
  | domainReleaseDrained (dom : Fin 8)
  /-- HANDOVER (R387): A received HANDOVER makes the peer claim the domain without a fence and answer CLAIMED. -/
  | handover
  /-- CLAIMED (R387): A received CLAIMED lets the releasing head reply to DOMAIN_RELEASE. -/
  | claimed
  /-- HEAD_STATUS (R394): Returns head and peer states, domains and failback progress. -/
  | headStatus (eid : Nat)
  /-- WATCHDOG_EXPIRY (R382): No kick for DHD_wdt_ms contains the flash ports, releases HLK and heartbeats and starts a warm reset. -/
  | watchdogExpiry
  /-- LEASE_RENEW (R384): Every 3 ticks the head raises RENEW_SEQ for its domains. -/
  | leaseRenew
  /-- LEASE_LAPSE (R384): A domain whose lease is 12 ticks old is fenced by hardware at the boundary. -/
  | leaseLapse (dom : Fin 8)
  /-- PEER_FAILED (R388): All witnesses silent for DHD_confirm_ticks boundaries make the head ALONE and start takeover. -/
  | peerFailed
  /-- FENCE_EXPIRY (R388): After DHD_fence_ms member writes of a taken domain may start. -/
  | fenceExpiry (dom : Fin 8)
  /-- REPLAY_COMPLETE (R388): When replay finishes the taken domain enters OWNED. -/
  | replayComplete (dom : Fin 8) (load : Option Loaded)
  /-- INDEX_LOAD_COMPLETE (R389): When the index region is fully loaded IDX_LOAD clears. -/
  | indexLoadComplete (dom : Fin 8)
  /-- YIELD (R390): A received YIELD confirms head B gave up a conflicting domain. -/
  | yield
  /-- JOIN (R391): A received JOIN starts failback health checks for the joining peer. -/
  | join
  /-- RESYNC (R391): A received RESYNC announces live ring blocks to be written into this head's images. -/
  | resync
  /-- RESYNC_DONE (R391): A received RESYNC_DONE ends resynchronisation of a domain's journal image. -/
  | resyncDone
  /-- FAILBACK_HOLDOFF_EXPIRY (R392): At the end of the hold-off the peer releases the joining head's home domains one at a time. -/
  | failbackHoldoffExpiry
  /-- MEM_FILL (R407): Writes a pattern with valid check bits over a range of DDR. -/
  | memFill (eid : Nat)
  /-- MEM_FILL_COMPLETE (R407): A fill finishes, records its granules and may set INIT_DONE and place the regions. -/
  | memFillComplete (eid : Nat)
  /-- DDR_TRAINING_COMPLETE (R399): Cold training ends, setting READY and reporting any failed channel. -/
  | ddrTrainingComplete (failed : List (Fin 16)) (rate gib : Nat) (temp : Int) (sklOk : Bool)
  /-- CHANNEL_RETRAIN (R400): At a tick boundary the lowest stale channel retrains in 24 µs. -/
  | channelRetrain (ch : Fin 16) (ok : Bool)
  /-- MERGE_DRAIN (R404): A merge buffer entry drains when complete, needed, read or idle 256 cycles. -/
  | mergeDrain (port : Fin 17) (word : Nat) (old : Fetch)
  /-- UNCORRECTABLE_READ (R411): An uncorrectable or POISON read latches MEM_ERR and takes the reader's consequence. -/
  | uncorrectableRead (port : Fin 18) (addr : Nat) (poison : Bool) (by_ : Reader)
  /-- HTH_INVALIDATE (R415): Writes every Heather tag invalid and clears every lock, setting INV_DONE. -/
  | hthInvalidate (eid : Nat)
  /-- INVALIDATE_COMPLETE (R415): A whole invalidate ends, replies OK and lets a queued enable take effect. -/
  | invalidateComplete
  /-- HTH_ENABLE (R415): Enables Heather, queues behind an invalidate, or refuses without one. -/
  | hthEnable (eid : Nat)
  /-- HTH_DISABLE (R416): Stops allocation and starts a clean of every dirty line. -/
  | hthDisable (eid : Nat)
  /-- CLEAN_COMPLETE (R416): The disable clean ends, DISABLED sets and HTH_DISABLE replies OK. -/
  | cleanComplete
  /-- HTH_PRELOAD_LOCK (R417): Preloads a range into a way and locks or unlocks it. -/
  | hthPreloadLock (eid : Nat)
  /-- PRELOAD_COMPLETE (R417): When every line is in place the way becomes LOCKED or GENERAL and the command replies. -/
  | preloadComplete (eid : Nat)
  /-- HTH_WAY_POWER (R420): Powers a Heather way down after write-back or back up. -/
  | hthWayPower (eid : Nat)
  /-- HTH_RANGE_INVALIDATE (R419): Writes back and invalidates every line of a region range. -/
  | hthRangeInvalidate (eid : Nat)
  /-- TAG_PARITY_ERROR (R421): A tag parity failure invalidates a clean line or starts a warm reset for a dirty one. -/
  | tagParityError (way : Fin 16) (set : Nat) (dirty : Bool)
  /-- SOURCE_EDGE (R424): A rising edge of a Hedgerow source sets its pending bit and counts toward moderation. -/
  | sourceEdge (src : Nat) (routeOk : Bool)
  /-- HRW_CLAIM (R427): A read of HRW_Tn_CLAIM returns the highest-priority presented source and marks it in service. -/
  | hrwClaim (target : Fin 16) (mgmt : Bool)
  /-- HRW_COMPLETE (R428): A write of HRW_Tn_COMPLETE ends a source's service and resamples its level. -/
  | hrwComplete (target : Fin 16) (val : W32) (mgmt : Bool)
  /-- HRW_PEND_SET (R425): A write to HRW_PEND_SET sets pending bits as edges. -/
  | hrwPendSet (word : Fin 128) (val : W32) (mgmt : Bool)
  /-- HRW_PEND_CLR (R429): A write to HRW_PEND_CLR clears pending bits and withdraws presented sources. -/
  | hrwPendClr (word : Fin 128) (val : W32) (mgmt : Bool)
  /-- HRW_MASK_SET (R429): A write to HRW_MASK_SET masks sources, withdrawing presented ones. -/
  | hrwMaskSet (word : Fin 128) (val : W32) (mgmt : Bool)
  /-- HRW_MASK_CLR (R425): A write to HRW_MASK_CLR unmasks sources so that they present and count. -/
  | hrwMaskClr (word : Fin 128) (val : W32) (mgmt : Bool)
  /-- HRW_SRC_ROUTE (R437): A write of a source route retargets its unpresented events. -/
  | hrwSrcRoute (val : W32) (mgmt : Bool)
  /-- HRW_MOD (R433): A write of a vector's moderation applies to its next batch. -/
  | hrwMod (fn vec : Nat) (val : W32)
  /-- BATCH_COUNT_REACHED (R433): A batch reaching COUNT edges commits its MSI-X message. -/
  | batchCountReached (fn vec : Nat)
  /-- BATCH_TIMER_EXPIRY (R433): A batch timer reaching TIME commits its MSI-X message. -/
  | batchTimerExpiry (fn vec : Nat)
  /-- RETARGET_WITHDRAW (R437): An event unclaimed at its old target 1,024 MGMT cycles after a retarget moves to the new target. -/
  | retargetWithdraw (src : Nat)
  /-- WAKE_DEADLINE_EXPIRY (R438): An event for a sleeping target that has not woken by its deadline goes to the fall-back target. -/
  | wakeDeadlineExpiry (src : Nat)
  /-- TARGET_WAKE (R439): A woken core or a function back in D0 with MSI-X enabled receives its pending events. -/
  | targetWake (core : Bool) (target : Nat)
  /-- PMCSR_D3HOT (R436): A PMCSR write selecting D3hot commits the function's open batches before completing. -/
  | pmcsrD3hot (fn : Nat) (pmeEn : Bool)
  /-- PME_TURN_OFF (R436): PME_Turn_Off sends every function's open messages before PME_TO_Ack. -/
  | pmeTurnOff
  /-- POWER_ON_RESET (R534): AON power rising resets everything, AON included, and starts power-up. -/
  | powerOnReset
  /-- COLD_RESET (R457): SYS_RESET_N or another cold cause resets all islands except AON and runs the boot sequence. -/
  | coldReset
  /-- CRP_RESET_WARM (R458): CRP_RESET.WARM with the key requests a warm reset. -/
  | crpResetWarm (val : W32)
  /-- CRP_RESET_COLD (R455): CRP_RESET.COLD with the key requests a cold reset. -/
  | crpResetCold (val : W32)
  /-- HOST_LINK_RESET (R459): PERST_N, hot reset or loss of DL_Active resets PCIH and every function while the data plane runs. -/
  | hostLinkReset
  /-- FUNCTION_LEVEL_RESET (R74): An FLR ends a function's sessions and rings, revokes its HOST spaces and clears its Hedgerow state. -/
  | functionLevelReset (fn : Nat)
  /-- CLOCK_FAULT (R454): An unplanned clock stop or PLL lock loss sets CRP_CLK_STAT and raises an event. -/
  | clockFault (dom : Fin 10) (stopped : Bool)
  /-- BLOCK_IDLE_GATE (R462): A block idle for CRP_p1_idle_us is clock-gated. -/
  | blockIdleGate (block inst : Nat)
  /-- BLOCK_UNGATE (R462): Work reaching a gated block ungates it within 40 CORE cycles. -/
  | blockUngate (block inst : Nat)
  /-- PSTATE_P2_REQUEST (R464): A write of 2 to CRP_PSTATE.REQ checks and enters P2, closing connections and cleaning Heather. -/
  | pstateP2Request (val : W32)
  /-- PSTATE_P0_REQUEST (R466): A write of 0 to CRP_PSTATE.REQ starts the exit from P2 by raising CORE_PWR_EN. -/
  | pstateP0Request (val : W32)
  /-- ALWAYS_ON_WAKE (R466): An unmasked always-on source in P2 starts the exit from P2. -/
  | alwaysOnWake
  /-- CORE_PG_RISE (R534): CORE_PG asserting releases the CORE island after power-up or P2 exit. -/
  | corePgRise
  /-- CORE_PG_TIMEOUT (R535): CORE_PG not asserted 10 ms after CORE_PWR_EN drops it and retries or fails the P2 exit. -/
  | corePgTimeout
  /-- CORE_PG_FALL (R537): CORE_PG falling with CORE_PWR_EN asserted acts as SYS_RESET_N falling. -/
  | corePgFall
  /-- SOC_PG_FALL (R536): SOC_PG falling enters cold reset, drives DDR RESET_N low and drops CORE_PWR_EN. -/
  | socPgFall
  /-- THERMAL_SAMPLE (R547): A sensor sample updates temperatures and sets or clears the thermal alarm. -/
  | thermalSample (sensor : Fin 14) (temp : Int)
  /-- THERMAL_TRIP (R548): Two consecutive samples at 115 °C trip the device into cold reset with CORE power dropped. -/
  | thermalTrip
  /-- TRIP_END (R548): After sensor 0 reads below 95 °C for 100 ms the trip ends and power-up resumes. -/
  | tripEnd
  /-- TICK_BOUNDARY (R473): At each boundary FLD_TICK rises, counters latch, the ready decision set applies and core 0 is signalled. -/
  | tickBoundary (tk : TickIn)
  /-- TICK_CHECKPOINT (R472): Every 2^22 ticks Fold writes a fresh tick checkpoint to NOR. -/
  | tickCheckpoint
  /-- BG_BUDGET_SET (R475): Sets the three background budget parameters as one batch. -/
  | bgBudgetSet (eid : Nat)
  /-- SCRUB_START (R490): Starts a patrol pass, verifies a group next, or writes the uncorrectable list. -/
  | scrubStart (eid : Nat) (destOk : Bool)
  /-- PATROL_SCRUB (R478): Patrol scrub reads its granted words, fixing corrected ones and listing uncorrectable ones. -/
  | patrolScrub (words : Nat) (bad : List (Fin 18 × Nat))
  /-- STRIPE_VERIFY (R479): Verify reads a stripe under its lock, checks tags and parity and rewrites mismatched parity. -/
  | stripeVerify (root block : Nat) (data : Fetch) (units : List Fetch)
  /-- TAPE_IDLE_VERIFY (R480): A cartridge idle for FLD_tape_idle_s starts a background verify pass. -/
  | tapeIdleVerify (t : Fin 2)
  /-- SMART_READ (R481): Every FLD_smart_s Fold reads SMART data and warns on wear. -/
  | smartRead (port : Fin 16) (used : Nat)
  /-- TELEMETRY_CONFIG (R483): Configures the telemetry snapshot ring and divider. -/
  | telemetryConfig (eid : Nat)
  /-- TELEMETRY_SNAPSHOT (R484): Every DIVIDER ticks a snapshot is written to the host ring or skipped. -/
  | telemetrySnapshot
  /-- OOB_PACKET (R487): A PACKET datagram on the out-of-band port enters ring 1,023 or is replayed from the held reply. -/
  | oobPacket (xid : Nat) (pkt : Bytes)
  /-- WIN_WRITE (R487): A WIN_WRITE datagram writes data into the exchange window. -/
  | winWrite (xid woff : Nat) (data : Bytes)
  /-- WIN_READ (R487): A WIN_READ datagram is answered with WIN_DATA from the exchange window. -/
  | winRead (xid woff len : Nat)
  /-- OOB_FRAME_ANSWER (R485): Fold answers neighbour discovery, echo and ARP on the out-of-band port, dropping other frames. -/
  | oobFrameAnswer (kind : Nat) (frame : Bytes)
  /-- SMBUS_READ_STATUS (R488): SMBus command 0x00 returns READY, ARMED, PSTATE, alarm and WARM_BUSY. -/
  | smbusReadStatus
  /-- SMBUS_READ_TEMP (R488): SMBus command 0x01 returns the digital die temperature. -/
  | smbusReadTemp
  /-- SMBUS_READ_FE_TEMP (R488): SMBus commands 0x02 and 0x03 return a front-end die temperature. -/
  | smbusReadFeTemp (t : Fin 2)
  /-- SMBUS_READ_IMON (R488): SMBus command 0x04 returns the VDD_CORE current. -/
  | smbusReadImon
  /-- SMBUS_READ_HEAD (R488): SMBus command 0x05 returns the head state and owned domains. -/
  | smbusReadHead
  /-- SMBUS_READ_RST_CAUSE (R488): SMBus command 0x06 returns the reset cause bits. -/
  | smbusReadRstCause
  /-- SMBUS_READ_UNIT_ID (R488): SMBus command 0x10 returns the unit ID. -/
  | smbusReadUnitId
  /-- SMBUS_READ_VERSION (R488): SMBus command 0x11 returns the active image version. -/
  | smbusReadVersion
  /-- SMBUS_COLD_RESET (R488): SMBus command 0x20 with 0xC5 starts a cold reset. -/
  | smbusColdReset (key : Byte) (pecOk : Bool)
  /-- SMBUS_WARM_RESET (R488): SMBus command 0x21 with 0xC5 starts a warm reset. -/
  | smbusWarmReset (key : Byte) (pecOk : Bool)
  /-- DIAG_SELFTEST (R489): Runs known-answer tests on Basic instances of the selected units. -/
  | diagSelftest (eid : Nat) (failed : List (Nat × Nat))
  /-- DIAG_LOOPBACK (R490): Runs a near-end PRBS31 loopback on a network subport or flash port. -/
  | diagLoopback (eid : Nat) (bits errs : Nat)
  /-- SKYLARK_RECORD (R494): An event from the queue is written as a record, merged into the newest, or counted lost. -/
  | skylarkRecord (memOk : Bool)
  /-- SKL_READ (R499): Delivers held records as they stood at consumption. -/
  | sklRead (eid : Nat) (bad : List Nat) (destOk : Bool)
  /-- SKL_CLEAR (R501): After earlier reads, frees records up to THROUGH and makes a CLEAR record. -/
  | sklClear (eid : Nat)
  /-- SKL_RSEL (R500): A write of SKL_RSEL copies the selected record into SKL_REC_k. -/
  | sklRsel (val : W32) (readOk : Bool)
  /-- UPD_PIECE (R511): Checks and programs one 64 KiB piece of an image into the inactive slot. -/
  | updPiece (eid : Nat) (piece : Fetch) (norOk : Bool)
  /-- UPD_STATUS (R526): Returns slot states and delivery progress. -/
  | updStatus (eid : Nat)
  /-- UPD_VERIFY (R517): Reads back and verifies the inactive slot's whole image. -/
  | updVerify (eid : Nat) (bad : Option Nat)
  /-- UPD_ACTIVATE (R518): Selects the verified slot for a trial boot, or seals the SVN floor. -/
  | updActivate (eid : Nat)
  /-- ACTIVATE_RESET (R518): 1 ms after an UPD_ACTIVATE or UPD_FALLBACK with NOW replies, Fold starts a warm reset. -/
  | activateReset
  /-- UPD_FALLBACK (R520): Selects the verified inactive slot for boot without a trial mark. -/
  | updFallback (eid : Nat)
  /-- TRIAL_SELFTEST (R519): Once READY sets on a trial image, Fold self-tests and confirms or spends the attempt. -/
  | trialSelftest (pass : Bool)
  /-- ATTEST_REPORT (R523): Signs an attestation report with the next LMS index and writes it. -/
  | attestReport (eid : Nat) (destOk : Bool)
  /-- SOC_PG_RISE (R534): The board asserting SOC_PG after the always-on rails leads the FV-8610 to assert CORE_PWR_EN 1 ms later. -/
  | socPgRise
  /-- SYS_RESET_N_RELEASE (R457): Release of SYS_RESET_N (with CORE_PG and REFCLK_SYS present) releases the internal cold reset and starts the boot sequence at t0. -/
  | sysResetNRelease
  /-- PERST_N_RELEASE (R457): Release of PERST_N lets PCIH leave reset, resynchronise its crossings and the host link leave Detect within 20 ms. -/
  | perstNRelease
  /-- POWER_LOSS (R537): Rails falling without the orderly SOC_PG sequence end all activity, losing DDR content and any interrupted NOR piece write. -/
  | powerLoss
  /-- PLL_RELOCK (R454): A PLL that lost lock ungates its output after being relocked for 20 µs, and the blocks of its domain bring their links back. -/
  | pllRelock (dom : Fin 10)
  /-- CORE_PWR_EN_RETRY (R535): 100 ms after dropping CORE_PWR_EN for a missing CORE_PG at power-up, the FV-8610 raises it again. -/
  | corePwrEnRetry
  /-- MSIX_VECTOR_UNMASK (R430): A host write clearing an MSI-X vector mask or Function Mask sends the messages pending in the PBA. -/
  | msixVectorUnmask (fn : Nat) (vec : Option Nat)
  /-- UNEXPECTED_FRAME (R369): A received PAUSE, PFC, wrongly tagged, oversize, bad-FCS or otherwise unaccepted frame is dropped and counted. -/
  | unexpectedFrame (port : Fin 2) (fcs : Bool)
deriving DecidableEq, Repr

end Sys2Proof
end

