-- ==== Sys2Proof/Machine/Bits.lean ====
section
/-! DEFINITION. Bit fields, byte order, sparse tables, saturating counts and the check codes (CRC) of the spec. -/

namespace Sys2Proof.Machine

open Sys2Proof

/-! ## Sparse tables -/

/-- The value a table holds at a key, if any. -/
def KMap.get? {α : Type} : KMap α → Nat → Option α
  | [], _ => none
  | (k', v) :: m, k => if k = k' then some v else KMap.get? m k

/-- The value a table holds at a key, or the given default. -/
def KMap.getD {α : Type} (m : KMap α) (k : Nat) (d : α) : α := (KMap.get? m k).getD d

/-- Set the value at a key, keeping the keys strictly rising. -/
def KMap.put {α : Type} : KMap α → Nat → α → KMap α
  | [], k, v => [(k, v)]
  | (k', v') :: m, k, v =>
    if k < k' then (k, v) :: (k', v') :: m
    else if k = k' then (k, v) :: m
    else (k', v') :: KMap.put m k v

/-- Remove a key. -/
def KMap.del {α : Type} : KMap α → Nat → KMap α
  | [], _ => []
  | (k', v') :: m, k => if k = k' then KMap.del m k else (k', v') :: KMap.del m k

/-- Change the value at a key where there is one. -/
def KMap.upd {α : Type} (m : KMap α) (k : Nat) (f : α → α) : KMap α :=
  m.map fun p => if p.1 = k then (p.1, f p.2) else p

/-- Keep the entries that satisfy a test. -/
def KMap.keep {α : Type} (m : KMap α) (p : Nat → α → Bool) : KMap α := m.filter fun e => p e.1 e.2

/-- Change every value. -/
def KMap.mapV {α : Type} (m : KMap α) (f : Nat → α → α) : KMap α := m.map fun e => (e.1, f e.1 e.2)

/-- The keys of a table rise strictly. -/
def KMap.wf {α : Type} : KMap α → Bool
  | [] => true
  | [_] => true
  | a :: b :: m => decide (a.1 < b.1) && KMap.wf (b :: m)

/-- The lowest number from `lo` on, among `n` of them, that the list does not hold. -/
def lowestFree (used : List Nat) (lo : Nat) : Nat → Option Nat
  | 0 => none
  | n + 1 => if used.contains lo then lowestFree used (lo + 1) n else some lo

/-! ## Fields of words and saturating counts -/

/-- Bits `hi` to `lo` of a number. -/
def fieldOf (w hi lo : Nat) : Nat := (w >>> lo) % 2 ^ (hi + 1 - lo)

/-- A number with bits `hi` to `lo` replaced. -/
def withField (w hi lo v : Nat) : Nat :=
  (w >>> (hi + 1)) <<< (hi + 1) + (v % 2 ^ (hi + 1 - lo)) <<< lo + w % 2 ^ lo

/-- Add to a count that saturates at `max`. -/
def satAdd (max c n : Nat) : Nat := min max (c + n)

/-- Bit `i` of a number. -/
def bitAt (w i : Nat) : Bool := w.testBit i

/-- A number with bit `i` set or cleared. -/
def setBitTo (w i : Nat) (b : Bool) : Nat := withField w i i (if b then 1 else 0)

/-- 1 or 0. -/
def b2n (b : Bool) : Nat := if b then 1 else 0

/-- The number whose bit `i` is set exactly for the `i` below `n` that satisfy the test. -/
def bitsWhere (n : Nat) (p : Nat → Bool) : Nat :=
  (List.range n).foldl (fun a i => if p i then a + 2 ^ i else a) 0

/-- Rounded-up division. -/
def ceilDiv (a b : Nat) : Nat := (a + b - 1) / b

/-- A number rounded up to a multiple. -/
def roundUp (a b : Nat) : Nat := ceilDiv a b * b

/-! ## Byte order (R7) -/

/-- Little-endian value of bytes. -/
def leVal : Bytes → Nat
  | [] => 0
  | b :: bs => b.toNat + 256 * leVal bs

/-- Big-endian value of bytes. -/
def beVal (bs : Bytes) : Nat := leVal bs.reverse

/-- `n` bytes of a number, least significant first. -/
def leBytes : Nat → Nat → Bytes
  | 0, _ => []
  | n + 1, v => BitVec.ofNat 8 v :: leBytes n (v / 256)

/-- `n` bytes of a number, most significant first. -/
def beBytes (n v : Nat) : Bytes := (leBytes n v).reverse

/-- Bytes `lo` to `lo + n - 1`, short where the string ends. -/
def slice (bs : Bytes) (lo n : Nat) : Bytes := (bs.drop lo).take n

/-- Little-endian field of `n` bytes at offset `lo`. -/
def leAt (bs : Bytes) (lo n : Nat) : Nat := leVal (slice bs lo n)

/-- `n` zero bytes. -/
def zeros (n : Nat) : Bytes := List.replicate n 0

/-- A string cut or zero-padded to `n` bytes. -/
def padTo (bs : Bytes) (n : Nat) : Bytes := (bs ++ zeros (n - bs.length)).take n

/-- Every byte is zero. -/
def allZero (bs : Bytes) : Bool := bs.all (· == 0)

/-- The bytes at `off` replaced. -/
def patch (bs : Bytes) (off : Nat) (new : Bytes) : Bytes :=
  bs.take off ++ new ++ bs.drop (off + new.length)

/-- A byte of a number. -/
def byteOf (n : Nat) : Byte := BitVec.ofNat 8 n

/-- A string cut into pieces of `n` bytes (`fuel` bounds the number of pieces). -/
def piecesAux (n : Nat) : Nat → Bytes → List Bytes
  | 0, _ => []
  | fuel + 1, bs => if bs.isEmpty then [] else bs.take n :: piecesAux n fuel (bs.drop n)

/-- A string cut into pieces of `n` bytes, the last possibly shorter. -/
def pieces (n : Nat) (bs : Bytes) : List Bytes := piecesAux n bs.length bs

/-- A list cut into pieces of `n` elements (`fuel` bounds the number of pieces). -/
def cutsAux {α : Type} (n : Nat) : Nat → List α → List (List α)
  | 0, _ => []
  | fuel + 1, xs => if xs.isEmpty then [] else xs.take n :: cutsAux n fuel (xs.drop n)

/-- A list cut into pieces of `n` elements, the last possibly shorter. -/
def cuts {α : Type} (n : Nat) (xs : List α) : List (List α) := cutsAux n xs.length xs

/-- Bytewise exclusive or, as long as the shorter. -/
def xorBytes (a b : Bytes) : Bytes := List.zipWith (· ^^^ ·) a b

/-- ASCII bytes of a text. -/
def ascii (t : String) : Bytes := t.toList.map fun c => byteOf c.toNat

/-! ## Check codes -/

/-- One bit of a reflected 32-bit CRC. -/
def crc32cBit (c : BitVec 32) : BitVec 32 :=
  if c.getLsbD 0 then (c >>> 1) ^^^ 0x82F63B78#32 else c >>> 1

/-- One byte of CRC-32C. -/
def crc32cByte (c : BitVec 32) (b : Byte) : BitVec 32 :=
  Nat.repeat crc32cBit 8 (c ^^^ b.setWidth 32)

/-- CRC-32C (R133): polynomial 0x1EDC6F41, reflected, initial value and final inversion all ones. -/
def crc32c (bs : Bytes) : Nat := ((bs.foldl crc32cByte 0xFFFFFFFF#32) ^^^ 0xFFFFFFFF#32).toNat

/-- One bit of the CRC-16. -/
def crc16Bit (c : BitVec 16) : BitVec 16 :=
  if c.getLsbD 15 then (c <<< 1) ^^^ 0x8BB7#16 else c <<< 1

/-- CRC-16 (R204): polynomial 0x8BB7, initial value 0, no reflection, no final inversion. -/
def crc16 (bs : Bytes) : Nat :=
  (bs.foldl (fun c b => Nat.repeat crc16Bit 8 (c ^^^ ((BitVec.setWidth 16 b) <<< 8))) 0#16).toNat

/-- One bit of the CRC-8. -/
def crc8Bit (c : BitVec 8) : BitVec 8 :=
  if c.getLsbD 7 then (c <<< 1) ^^^ 0x07#8 else c <<< 1

/-- CRC-8 (R126): polynomial x^8 + x^2 + x + 1, initial value 0, no reflection, no final inversion. -/
def crc8 (bs : Bytes) : Nat := (bs.foldl (fun c b => Nat.repeat crc8Bit 8 (c ^^^ b)) 0#8).toNat

end Sys2Proof.Machine
end

