-- ==== Sys2Proof/Machine/Gf.lean ====
section
/-! DEFINITION. Arithmetic over GF(2^8) and the parity of R192: encoding, and reconstruction of erased units. -/

namespace Sys2Proof.Machine

open Sys2Proof

/-- Multiply by x modulo a field polynomial given by its low byte. -/
def gfXtime (poly a : Nat) : Nat := if a < 128 then 2 * a else (2 * a - 256) ^^^ poly

/-- Product over GF(2^8), one bit of `b` at a time. -/
def gfMulAux (poly : Nat) : Nat → Nat → Nat → Nat
  | 0, _, _ => 0
  | n + 1, a, b => (if b % 2 = 1 then a else 0) ^^^ gfMulAux poly n (gfXtime poly a) (b / 2)

/-- Product over GF(2^8). -/
def gfMulP (poly a b : Nat) : Nat := gfMulAux poly 8 a b

/-- Power over GF(2^8). -/
def gfPowP (poly a : Nat) : Nat → Nat
  | 0 => 1
  | n + 1 => gfMulP poly a (gfPowP poly a n)

/-- Product in the parity field, polynomial x^8 + x^4 + x^3 + x^2 + 1 (R192). -/
def gfMul (a b : Nat) : Nat := gfMulP 0x1D a b

/-- Inverse in the parity field: a^254. -/
def gfInv (a : Nat) : Nat :=
  let a2 := gfMul a a
  let a4 := gfMul a2 a2
  let a8 := gfMul a4 a4
  let a16 := gfMul a8 a8
  let a32 := gfMul a16 a16
  let a64 := gfMul a32 a32
  let a128 := gfMul a64 a64
  gfMul a128 (gfMul a64 (gfMul a32 (gfMul a16 (gfMul a8 (gfMul a4 a2)))))

/-- Quotient in the parity field. -/
def gfDiv (a b : Nat) : Nat := gfMul a (gfInv b)

/-- Coefficient g(j, d) of R192. -/
def parityCoef (j d : Nat) : Nat := gfDiv (0 ^^^ (4 + d)) (j ^^^ (4 + d))

/-- A unit scaled by a coefficient. -/
def gfScale (c : Nat) (u : Bytes) : Bytes :=
  if c = 1 then u else if c = 0 then zeros u.length else u.map fun b => byteOf (gfMul c b.toNat)

/-- Sum of units of `n` bytes. -/
def gfSum (n : Nat) (us : List Bytes) : Bytes := us.foldl (fun a u => xorBytes a (padTo u n)) (zeros n)

/-- Parity unit `j` of the data units (R192). -/
def parityUnit (n j : Nat) (data : List Bytes) : Bytes :=
  gfSum n (data.zipIdx.map fun (u, d) => gfScale (parityCoef j d) u)

/-- The K parity units of a stripe (R192). -/
def parityEncode (n k : Nat) (data : List Bytes) : List Bytes := (List.range k).map fun j => parityUnit n j data

/-- Swap the first row whose head is not zero to the front. -/
def pivotFirst (rows : List (List Nat × Bytes)) : Option ((List Nat × Bytes) × List (List Nat × Bytes)) :=
  match rows.partition fun r => r.1.headD 0 ≠ 0 with
  | ([], _) => none
  | (p :: ps, zs) => some (p, ps ++ zs)

/-- Solve the linear equations `rows` (coefficients and right side) for `m` unknowns by elimination. -/
def gfSolve : Nat → List (List Nat × Bytes) → Option (List Bytes)
  | 0, _ => some []
  | m + 1, rows => do
    let (p, rest) ← pivotFirst rows
    let inv := gfInv (p.1.headD 0)
    let pc := (p.1.drop 1).map (gfMul inv)
    let pr := gfScale inv p.2
    let rest' := rest.map fun r =>
      let c := r.1.headD 0
      (List.zipWith (fun x y => x ^^^ gfMul c y) (r.1.drop 1) pc, xorBytes r.2 (gfScale c pr))
    let xs ← gfSolve m rest'
    let x := (List.zip pc xs).foldl (fun a cx => xorBytes a (gfScale cx.1 cx.2)) pr
    some (x :: xs)

/-- The data units of a stripe from its surviving units: any M of the M + K determine the others (R192).
`units` lists the M data units and then the K parity units; `none` is an erased one. -/
def parityDecode (n m : Nat) (units : List (Option Bytes)) : Option (List Bytes) :=
  let missing := (List.range m).filter fun d => ((units.getD d none).isNone)
  let known := (List.range m).filterMap fun d => (units.getD d none).map fun u => (d, u)
  let eqs := ((units.drop m).zipIdx).filterMap fun (p, j) =>
    p.map fun u =>
      (missing.map (parityCoef j), known.foldl (fun a du => xorBytes a (gfScale (parityCoef j du.1) du.2)) (padTo u n))
  if eqs.length < missing.length then none
  else (gfSolve missing.length (eqs.take missing.length)).map fun xs =>
    (List.range m).map fun d =>
      match units.getD d none with
      | some u => u
      | none => ((List.zip missing xs).find? fun mx => mx.1 = d).elim [] (·.2)

end Sys2Proof.Machine
end

