-- ==== Sys2Proof/Machine/Aes.lean ====
section
/-! DEFINITION. AES and the modes of Bracken: XTS (R146), GCM (R148) and key wrap (R157). -/

namespace Sys2Proof.Machine

open Sys2Proof

/-- Inverse in the AES field (polynomial x^8 + x^4 + x^3 + x + 1). -/
def aesInv (a : Nat) : Nat :=
  let m := gfMulP 0x1B
  let a2 := m a a
  let a4 := m a2 a2
  let a8 := m a4 a4
  let a16 := m a8 a8
  let a32 := m a16 a16
  let a64 := m a32 a32
  m (m a64 a64) (m a64 (m a32 (m a16 (m a8 (m a4 a2)))))

/-- The AES S-box of one byte. -/
def aesSub1 (a : Nat) : Nat :=
  let b := aesInv a
  let rot := fun n => ((b <<< n) ||| (b >>> (8 - n))) % 256
  b ^^^ rot 1 ^^^ rot 2 ^^^ rot 3 ^^^ rot 4 ^^^ 0x63

/-- The AES S-box. -/
def aesSbox : List Byte := (List.range 256).map fun a => byteOf (aesSub1 a)

/-- The inverse S-box. -/
def aesInvSbox : List Byte := (List.range 256).map fun a => byteOf ((aesSbox.findIdx fun b => b.toNat = a))

/-- Substitute a byte. -/
def subByte (b : Byte) : Byte := aesSbox.getD b.toNat 0

/-- Substitute a byte backwards. -/
def invSubByte (b : Byte) : Byte := aesInvSbox.getD b.toNat 0

/-- Key expansion, newest word first: words of 4 bytes. -/
def aesExpandAux (nk : Nat) : Nat → Nat → Nat → List Bytes → List Bytes
  | 0, _, _, ws => ws
  | n + 1, i, rc, ws =>
    let prev := ws.headD []
    let t := if i % nk = 0 then
        xorBytes ((prev.drop 1 ++ prev.take 1).map subByte) [byteOf rc, 0, 0, 0]
      else if nk > 6 && i % nk = 4 then prev.map subByte else prev
    let rc' := if i % nk = 0 then gfXtime 0x1B rc else rc
    aesExpandAux nk n (i + 1) rc' (xorBytes t (ws.getD (nk - 1) []) :: ws)

/-- Round keys of 16 bytes, first to last, for a key of 16 or 32 bytes. -/
def aesRoundKeys (key : Bytes) : List Bytes :=
  let nk := key.length / 4
  let ws := aesExpandAux nk (4 * (nk + 7) - nk) nk 1 (pieces 4 key).reverse
  pieces 16 (ws.reverse.flatten)

/-- The bytes at the given places. -/
def gather (idx : List Nat) (s : Bytes) : Bytes := idx.map fun i => s.getD i 0

/-- ShiftRows as places of the source bytes. -/
def shiftIdx : List Nat := [0, 5, 10, 15, 4, 9, 14, 3, 8, 13, 2, 7, 12, 1, 6, 11]

/-- Inverse ShiftRows. -/
def invShiftIdx : List Nat := [0, 13, 10, 7, 4, 1, 14, 11, 8, 5, 2, 15, 12, 9, 6, 3]

/-- One column times a circulant of four coefficients. -/
def mixCol (c : List Nat) (col : Bytes) : Bytes :=
  (List.range 4).map fun r => byteOf ((List.range 4).foldl
    (fun a k => a ^^^ gfMulP 0x1B ((col.getD k 0).toNat) (c.getD ((k + 4 - r) % 4) 0)) 0)

/-- MixColumns with the given coefficients. -/
def mixCols (c : List Nat) (s : Bytes) : Bytes := ((pieces 4 s).map (mixCol c)).flatten

/-- AES of one 16-byte block under round keys. -/
def aesEncRk (rks : List Bytes) (b : Bytes) : Bytes :=
  let mid := (rks.drop 1).dropLast.foldl
    (fun s k => xorBytes (mixCols [2, 3, 1, 1] (gather shiftIdx (s.map subByte))) k) (xorBytes b (rks.headD []))
  xorBytes (gather shiftIdx (mid.map subByte)) (rks.getLastD [])

/-- Inverse AES of one 16-byte block under round keys. -/
def aesDecRk (rks : List Bytes) (b : Bytes) : Bytes :=
  let s0 := (gather invShiftIdx (xorBytes b (rks.getLastD []))).map invSubByte
  let s := ((rks.drop 1).dropLast.reverse).foldl
    (fun s k => (gather invShiftIdx (mixCols [14, 11, 13, 9] (xorBytes s k))).map invSubByte) s0
  xorBytes s (rks.headD [])

/-- AES encryption of one block. -/
def aesEnc (key b : Bytes) : Bytes := aesEncRk (aesRoundKeys key) b

/-- AES decryption of one block. -/
def aesDec (key b : Bytes) : Bytes := aesDecRk (aesRoundKeys key) b

/-! ## XTS (IEEE Std 1619, without ciphertext stealing) -/

/-- The next tweak: multiply by x, byte 0 least significant (R146). -/
def xtsNext (t : Bytes) : Bytes :=
  let v := leVal t * 2
  if v < 2 ^ 128 then leBytes 16 v else leBytes 16 ((v - 2 ^ 128) ^^^ 0x87)

/-- XTS over blocks, each whitened by its tweak. -/
def xtsBlocks (f : Bytes → Bytes) : Bytes → List Bytes → Bytes
  | _, [] => []
  | t, b :: bs => xorBytes (f (xorBytes b t)) t ++ xtsBlocks f (xtsNext t) bs

/-- XTS encryption of a data unit under a key of two halves. -/
def xtsEnc (key tweak data : Bytes) : Bytes :=
  let h := key.length / 2
  let rk := aesRoundKeys (key.take h)
  xtsBlocks (aesEncRk rk) (aesEnc (key.drop h) tweak) (pieces 16 data)

/-- XTS decryption of a data unit. -/
def xtsDec (key tweak data : Bytes) : Bytes :=
  let h := key.length / 2
  let rk := aesRoundKeys (key.take h)
  xtsBlocks (aesDecRk rk) (aesEnc (key.drop h) tweak) (pieces 16 data)

/-! ## GCM (NIST SP 800-38D, 96-bit IV, 16-byte tag) -/

/-- Product in GHASH's field; numbers are big-endian blocks. -/
def ghashMulAux : Nat → Nat → Nat → Nat → Nat
  | 0, _, _, z => z
  | n + 1, x, v, z =>
    let z' := if x.testBit n then z ^^^ v else z
    let v' := if v % 2 = 1 then (v / 2) ^^^ (0xE1 * 2 ^ 120) else v / 2
    ghashMulAux n x v' z'

/-- GHASH over whole blocks. -/
def ghash (h : Nat) (bs : Bytes) : Nat :=
  (pieces 16 bs).foldl (fun y b => ghashMulAux 128 (y ^^^ beVal b) h 0) 0

/-- Zero bytes that fill the last block of 16. -/
def pad16 (bs : Bytes) : Bytes := bs ++ zeros ((16 - bs.length % 16) % 16)

/-- Counter mode from a starting counter. -/
def gcmCtr (rk : List Bytes) (iv : Bytes) : Nat → List Bytes → Bytes
  | _, [] => []
  | c, b :: bs => xorBytes b (aesEncRk rk (iv ++ beBytes 4 c)) ++ gcmCtr rk iv (c + 1) bs

/-- GCM tag of a ciphertext. -/
def gcmTag (rk : List Bytes) (iv aad ct : Bytes) : Bytes :=
  let h := beVal (aesEncRk rk (zeros 16))
  let s := ghash h (pad16 aad ++ pad16 ct ++ beBytes 8 (8 * aad.length) ++ beBytes 8 (8 * ct.length))
  xorBytes (beBytes 16 s) (aesEncRk rk (iv ++ beBytes 4 1))

/-- GCM encryption: ciphertext and tag. -/
def gcmEnc (key iv aad pt : Bytes) : Bytes × Bytes :=
  let rk := aesRoundKeys key
  let ct := gcmCtr rk iv 2 (pieces 16 pt)
  (ct, gcmTag rk iv aad ct)

/-- GCM decryption; none where the tag differs. -/
def gcmDec (key iv aad ct tag : Bytes) : Option Bytes :=
  let rk := aesRoundKeys key
  if gcmTag rk iv aad ct = tag then some (gcmCtr rk iv 2 (pieces 16 ct)) else none

/-! ## Key wrap (NIST SP 800-38F, KW) -/

/-- The default initial check value. -/
def kwIcv : Bytes := List.replicate 8 0xA6

/-- One wrapping step. -/
def kwStep (rk : List Bytes) : Bytes × List Bytes → Nat × Nat → Bytes × List Bytes := fun (a, rs) (i, t) =>
  let b := aesEncRk rk (a ++ rs.getD i [])
  (xorBytes (b.take 8) (beBytes 8 t), rs.set i (b.drop 8))

/-- One unwrapping step. -/
def kwUnstep (rk : List Bytes) : Bytes × List Bytes → Nat × Nat → Bytes × List Bytes := fun (a, rs) (i, t) =>
  let b := aesDecRk rk (xorBytes a (beBytes 8 t) ++ rs.getD i [])
  (b.take 8, rs.set i (b.drop 8))

/-- The steps of wrapping `n` half blocks: half block and step number. -/
def kwSteps (n : Nat) : List (Nat × Nat) :=
  ((List.range 6).map fun j => (List.range n).map fun i => (i, n * j + i + 1)).flatten

/-- Wrap. -/
def kwWrap (key pt : Bytes) : Bytes :=
  let rs := pieces 8 pt
  let r := (kwSteps rs.length).foldl (kwStep (aesRoundKeys key)) (kwIcv, rs)
  r.1 ++ r.2.flatten

/-- Unwrap; none where the integrity check fails. -/
def kwUnwrap (key ct : Bytes) : Option Bytes :=
  let rs := pieces 8 (ct.drop 8)
  let r := (kwSteps rs.length).reverse.foldl (kwUnstep (aesRoundKeys key)) (ct.take 8, rs)
  if r.1 = kwIcv then some r.2.flatten else none

end Sys2Proof.Machine
end

