-- ==== Sys2Proof/Machine/GorseCodec.lean ====
section
/-! DEFINITION. The Gorse frame: the fixed compressor and the checking decompressor (04, R125 to R139). -/

namespace Sys2Proof.Machine

open Sys2Proof

/-- A varint: 7 value bits a byte, least significant group first, bit 7 while more follow (R127). -/
def varintOf : Nat → Nat → Bytes
  | 0, v => [byteOf (v % 128)]
  | n + 1, v => if v < 128 then [byteOf v] else byteOf (128 + v % 128) :: varintOf n (v / 128)

/-- One sequence: literals, then a match of `len` bytes from `off` back, or no match (R127). -/
def gorseSeq (lits : Bytes) (len off : Nat) : Bytes :=
  let n := lits.length
  let mat := if len = 0 then 0 else if len ≤ 33 then len - 3 else 31
  [byteOf (32 * min n 7 + mat)]
    ++ (if n ≥ 7 then varintOf 2 (n - 7) else [])
    ++ (if mat = 31 then varintOf 2 (len - 34) else [])
    ++ lits
    ++ (if len = 0 then [] else leBytes 2 (off - 1))

/-- The match table: for each bucket its most recent positions, newest first, with the bytes from there on (R131). -/
abbrev MatchTable := KMap (List (Nat × Bytes))

/-- Bucket of the next four bytes: bits [31:20] of (x × 0x9E3779B1) mod 2^32 (R131). -/
def gorseBucket (bs : Bytes) : Nat := ((leVal (bs.take 4) * 0x9E3779B1) % 2 ^ 32) >>> 20

/-- Enter a position in its bucket, which keeps the 4 most recent. -/
def gorseInsert (t : MatchTable) (pos : Nat) (bs : Bytes) : MatchTable :=
  let k := gorseBucket bs
  KMap.put t k (((pos, bs) :: KMap.getD t k []).take 4)

/-- Length of the common start of two strings, at most `lim`. -/
def commonLen : Nat → Bytes → Bytes → Nat
  | 0, _, _ => 0
  | n + 1, a :: as, b :: bs => if a = b then commonLen n as bs + 1 else 0
  | _ + 1, _, _ => 0

/-- The longest match at a position, the smaller offset among equals; length 0 where none has 4 bytes (R131). -/
def gorseBest (t : MatchTable) (pos lim : Nat) (bs : Bytes) : Nat × Nat :=
  let best := (KMap.getD t (gorseBucket bs) []).foldl
    (fun (b : Nat × Nat) c =>
      let off := pos - c.1
      let n := if off > 65536 then 0 else commonLen lim bs c.2
      if n > b.1 || (n = b.1 && off < b.2) then (n, off) else b) (0, 0)
  if best.1 < 4 then (0, 0) else best

/-- Greedy parse of a block from its remaining bytes. `left` bytes remain in the block; `skip` of them lie inside
the match just emitted; `lits` are the literals not yet emitted, newest first. -/
def gorseParse : Bytes → Nat → Nat → Nat → MatchTable → Bytes → Bytes × MatchTable
  | [], _, _, _, t, lits => (if lits.isEmpty then [] else gorseSeq lits.reverse 0 0, t)
  | b :: bs, pos, left, skip, t, lits =>
    if left = 0 then (if lits.isEmpty then [] else gorseSeq lits.reverse 0 0, t)
    else
      let whole := b :: bs
      if skip > 0 then
        gorseParse bs (pos + 1) (left - 1) (skip - 1) (if left ≥ 4 then gorseInsert t pos whole else t) []
      else if left < 4 then gorseParse bs (pos + 1) (left - 1) 0 t (b :: lits)
      else
        let m := gorseBest t pos left whole
        let t' := gorseInsert t pos whole
        if m.1 = 0 then gorseParse bs (pos + 1) (left - 1) 0 t' (b :: lits)
        else
          let r := gorseParse bs (pos + 1) (left - 1) (m.1 - 1) t' []
          (gorseSeq lits.reverse m.1 m.2 ++ r.1, r.2)

/-- A block header (R126). -/
def gorseBlockHdr (ty : Nat) (last : Bool) (inLen payLen : Nat) : Bytes :=
  let h := [byteOf ty, byteOf (b2n last)] ++ leBytes 2 (inLen - 1) ++ leBytes 3 payLen
  h ++ leBytes 1 (crc8 h)

/-- One block in its shortest permitted form (R132): bytes, table, and whether it was stored by fall-back. -/
def gorseBlock (storedOnly last : Bool) (pos len : Nat) (rest : Bytes) (t : MatchTable) : Bytes × MatchTable × Nat :=
  let raw := rest.take len
  if storedOnly then (gorseBlockHdr 2 last len len ++ raw, t, 0)
  else
    let p := gorseParse rest pos len 0 t []
    if allZero raw then (gorseBlockHdr 3 last len 0, p.2, 0)
    else if p.1.length < len then (gorseBlockHdr 1 last len p.1.length ++ p.1, p.2, 0)
    else (gorseBlockHdr 2 last len len ++ raw, p.2, 1)

/-- The blocks of 65,536 bytes of an original (fuel: their number): bytes and stored count. -/
def gorseBlocks (storedOnly : Bool) : Nat → Nat → Bytes → MatchTable → Bytes × Nat
  | 0, _, _, _ => ([], 0)
  | n + 1, pos, rest, t =>
    if rest.isEmpty then ([], 0)
    else
      let len := min 65536 rest.length
      let b := gorseBlock storedOnly (rest.length ≤ 65536) pos len rest t
      let r := gorseBlocks storedOnly n (pos + len) (rest.drop len) b.2.1
      (b.1 ++ r.1, b.2.2 + r.2)

/-- Table entries of the restored history (R136). -/
def gorseHistTable : Bytes → Nat → MatchTable → Bytes → MatchTable
  | [], _, t, _ => t
  | b :: bs, pos, t, orig =>
    gorseHistTable bs (pos + 1) (if bs.length ≥ 3 then gorseInsert t pos (b :: bs ++ orig) else t) orig

/-- The frame header (R125). -/
def gorseFrameHdr (cont : Bool) (histChk : Nat) (orig : Bytes) : Bytes :=
  let h := [0x01, byteOf (b2n cont), 0, 0] ++ leBytes 4 histChk ++ leBytes 8 orig.length
    ++ leBytes 4 (crc32c orig) ++ [0, 0]
  h ++ leBytes 2 (crc16 h)

/-- Compress an original into a frame; `hist` is the restored history of a HIST_IN job (R131, R132, R136).
Answers the frame and the number of blocks stored by fall-back. -/
def gorseCompress (storedOnly : Bool) (hist : Option Bytes) (orig : Bytes) : Bytes × Nat :=
  let h := hist.getD []
  let t := gorseHistTable h 0 [] orig
  let r := gorseBlocks storedOnly (orig.length / 65536 + 1) h.length orig t
  (gorseFrameHdr hist.isSome (hist.elim 0 crc32c) orig ++ r.1, r.2)

/-- The checks of a frame, in the words of the details of R142. -/
inductive GorseErr where
  | origCrc
  | hdrCrc
  | payload
  | lengths
  | history
  | image
deriving DecidableEq, Repr

/-- Detail value of CHECK_MISMATCH (R142). -/
def GorseErr.detail : GorseErr → Nat
  | .origCrc => 0x1201
  | .hdrCrc => 0x1202
  | .payload => 0x1203
  | .lengths => 0x1204
  | .history => 0x1205
  | .image => 0x1206

/-- Read a varint of at most 3 bytes; none where it is longer or the payload ends (R127, R128). -/
def readVarint : Nat → Bytes → Option (Nat × Bytes)
  | 0, _ => none
  | _ + 1, [] => none
  | n + 1, b :: bs =>
    if b.toNat < 128 then some (b.toNat, bs)
    else (readVarint n bs).map fun r => (b.toNat % 128 + 128 * r.1, r.2)

/-- Copy `n` bytes from `off` back, byte by byte, onto an output held newest first (R128). -/
def copyBack (off : Nat) : Nat → Bytes → Bytes
  | 0, out => out
  | n + 1, out => copyBack off n (out.getD (off - 1) 0 :: out)

/-- Decode the sequences of a compressed payload onto an output held newest first; `left` bytes of the block are
still to come (R128). -/
def gorseSeqs : Nat → Bytes → Nat → Bytes → Option Bytes
  | 0, pay, left, out => if pay.isEmpty && left = 0 then some out else none
  | _ + 1, [], left, out => if left = 0 then some out else none
  | fuel + 1, tok :: p0, left, out => do
    let lit := tok.toNat / 32
    let mat := tok.toNat % 32
    let (nl, p1) ← if lit = 7 then (readVarint 3 p0).map fun r => (7 + r.1, r.2) else some (lit, p0)
    let (ml, p2) ← if mat = 31 then (readVarint 3 p1).map fun r => (34 + r.1, r.2)
      else some (if mat = 0 then 0 else mat + 3, p1)
    if nl + ml > left || p2.length < nl then none
    else
      let out1 := (p2.take nl).reverse ++ out
      let p3 := p2.drop nl
      if mat = 0 then (if p3.isEmpty && left = nl then some out1 else none)
      else if p3.length < 2 then none
      else
        let off := leAt p3 0 2 + 1
        if off > out1.length then none
        else gorseSeqs fuel (p3.drop 2) (left - nl - ml) (copyBack off ml out1)

/-- One block of a frame as its header describes it. -/
structure GorseBlk where
  ty : Nat
  last : Bool
  inLen : Nat
  payLen : Nat
  pay : Bytes
deriving DecidableEq, Repr

/-- Walk the block headers of a frame (fuel: bytes left): every BCRC and TYPE is checked first (R134). -/
def gorseWalk : Nat → Bytes → Except GorseErr (List GorseBlk)
  | 0, bs => if bs.isEmpty then .ok [] else .error .lengths
  | fuel + 1, bs =>
    if bs.isEmpty then .ok []
    else
      let hdr := bs.take 8
      if hdr.length < 8 then .error .lengths
      else if leAt hdr 7 1 ≠ crc8 (hdr.take 7) then .error .hdrCrc
      else
        let ty := leAt hdr 0 1
        let payLen := leAt hdr 4 3
        if ty ≠ 1 && ty ≠ 2 && ty ≠ 3 then .error .hdrCrc
        else
          match gorseWalk fuel (bs.drop (8 + payLen)) with
          | .error e => .error e
          | .ok l => .ok (⟨ty, bitAt (leAt hdr 1 1) 0, leAt hdr 2 2 + 1, payLen, slice bs 8 payLen⟩ :: l)

/-- The length rules of one block (R126). -/
def GorseBlk.lenOk (b : GorseBlk) : Bool :=
  (b.pay.length == b.payLen) &&
    (if b.ty = 3 then b.payLen == 0 else if b.ty = 2 then b.payLen == b.inLen
     else 0 < b.payLen && b.payLen < b.inLen)

/-- Exactly the final block carries LAST (R129). -/
def gorseLastOk : List GorseBlk → Bool
  | [] => true
  | [b] => b.last
  | b :: bs => !b.last && gorseLastOk bs

/-- Decode one block onto an output held newest first (R126, R128). -/
def GorseBlk.decode (b : GorseBlk) (out : Bytes) : Option Bytes :=
  if b.ty = 3 then some (zeros b.inLen ++ out)
  else if b.ty = 2 then some (b.pay.reverse ++ out)
  else gorseSeqs (b.payLen + 1) b.pay b.inLen out

/-- Decode the blocks of a frame whose original has `n` bytes onto an output held newest first. -/
def gorseDecodeBlocks (bs : Bytes) (n : Nat) (out : Bytes) : Except GorseErr Bytes :=
  match gorseWalk bs.length bs with
  | .error e => .error e
  | .ok blks =>
    if !(blks.all GorseBlk.lenOk && gorseLastOk blks && (blks.foldl (fun a b => a + b.inLen) 0 == n)) then
      .error .lengths
    else
      match blks.foldl (fun o b => o.bind b.decode) (some out) with
      | none => .error .payload
      | some o => .ok o

/-- Declared length of a frame's original. -/
def gorseOrigLen (frame : Bytes) : Nat := leAt frame 8 8

/-- The header checks of a frame: HCRC and FORMAT, then the history it needs (R129, R137). -/
def gorseHeaderCheck (hist : Option Bytes) (frame : Bytes) : Option GorseErr :=
  if frame.length < 24 || leAt frame 22 2 ≠ crc16 (frame.take 22) || leAt frame 0 1 ≠ 1 then some .hdrCrc
  else if bitAt (leAt frame 1 1) 0 then
    match hist with
    | none => some .history
    | some h => if crc32c h = leAt frame 4 4 then none else some .history
  else none

/-- Restore the original of a frame with every check of R134 and R137 but the expected length. -/
def gorseDecompress (hist : Option Bytes) (frame : Bytes) : Except GorseErr Bytes :=
  match gorseHeaderCheck hist frame with
  | some e => .error e
  | none =>
    let h := if bitAt (leAt frame 1 1) 0 then hist.getD [] else []
    let n := gorseOrigLen frame
    let body := frame.drop 24
    match gorseDecodeBlocks body n h.reverse with
    | .error e => .error e
    | .ok out =>
      let orig := (out.take n).reverse
      if crc32c orig = leAt frame 16 4 then .ok orig else .error .origCrc

/-- A state image (R135) for a chain: history, bytes and CRC so far. -/
def gorseImage (hist : Bytes) (chainBytes chainCrc : Nat) : Bytes :=
  let h := [0x01, 0, 0, 0] ++ leBytes 4 hist.length ++ leBytes 8 chainBytes ++ leBytes 4 chainCrc ++ zeros 40
  h ++ leBytes 4 (crc32c (h ++ hist)) ++ hist

/-- The history of a state image; none where its ICRC or form is wrong (R135, R137). -/
def gorseImageHist (img : Bytes) : Option Bytes :=
  let n := leAt img 4 4
  let h := slice img 64 n
  if n ≤ 65536 && h.length = n && leAt img 0 1 = 1 && leAt img 60 4 = crc32c (img.take 60 ++ h) then some h else none

end Sys2Proof.Machine
end

