-- ==== Sys2Proof/Machine/Sha.lean ====
section
/-! DEFINITION. The digests of FIPS 180-4 as Thistle absorbs them (06, R166 to R179), and HMAC composed from them (R179). -/

namespace Sys2Proof.Machine

open Sys2Proof

/-- The algorithms of THS_Cn_CTRL.ALG. -/
inductive Alg where
  | sha256
  | sha384
  | sha512
deriving DecidableEq, Repr

/-- Block size in bytes (R166). -/
def Alg.block : Alg → Nat
  | .sha256 => 64
  | .sha384 => 128
  | .sha512 => 128

/-- Digest length in bytes (R177). -/
def Alg.outLen : Alg → Nat
  | .sha256 => 32
  | .sha384 => 48
  | .sha512 => 64

/-- Bytes of the message length at the end of the padding (R178). -/
def Alg.lenBytes : Alg → Nat
  | .sha256 => 8
  | .sha384 => 16
  | .sha512 => 16

/-- Round constants of SHA-512; their high halves are the first 64 constants of SHA-256. -/
def shaK : List Nat :=
  [0x428a2f98d728ae22, 0x7137449123ef65cd, 0xb5c0fbcfec4d3b2f, 0xe9b5dba58189dbbc, 0x3956c25bf348b538,
   0x59f111f1b605d019, 0x923f82a4af194f9b, 0xab1c5ed5da6d8118, 0xd807aa98a3030242, 0x12835b0145706fbe,
   0x243185be4ee4b28c, 0x550c7dc3d5ffb4e2, 0x72be5d74f27b896f, 0x80deb1fe3b1696b1, 0x9bdc06a725c71235,
   0xc19bf174cf692694, 0xe49b69c19ef14ad2, 0xefbe4786384f25e3, 0x0fc19dc68b8cd5b5, 0x240ca1cc77ac9c65] ++
  [0x2de92c6f592b0275, 0x4a7484aa6ea6e483, 0x5cb0a9dcbd41fbd4, 0x76f988da831153b5, 0x983e5152ee66dfab,
   0xa831c66d2db43210, 0xb00327c898fb213f, 0xbf597fc7beef0ee4, 0xc6e00bf33da88fc2, 0xd5a79147930aa725,
   0x06ca6351e003826f, 0x142929670a0e6e70, 0x27b70a8546d22ffc, 0x2e1b21385c26c926, 0x4d2c6dfc5ac42aed,
   0x53380d139d95b3df, 0x650a73548baf63de, 0x766a0abb3c77b2a8, 0x81c2c92e47edaee6, 0x92722c851482353b] ++
  [0xa2bfe8a14cf10364, 0xa81a664bbc423001, 0xc24b8b70d0f89791, 0xc76c51a30654be30, 0xd192e819d6ef5218,
   0xd69906245565a910, 0xf40e35855771202a, 0x106aa07032bbd1b8, 0x19a4c116b8d2d0c8, 0x1e376c085141ab53,
   0x2748774cdf8eeb99, 0x34b0bcb5e19b48a8, 0x391c0cb3c5c95a63, 0x4ed8aa4ae3418acb, 0x5b9cca4f7763e373,
   0x682e6ff3d6b2b8a3, 0x748f82ee5defb2fc, 0x78a5636f43172f60, 0x84c87814a1f0ab72, 0x8cc702081a6439ec] ++
  [0x90befffa23631e28, 0xa4506cebde82bde9, 0xbef9a3f7b2c67915, 0xc67178f2e372532b, 0xca273eceea26619c,
   0xd186b8c721c0c207, 0xeada7dd6cde0eb1e, 0xf57d4f7fee6ed178, 0x06f067aa72176fba, 0x0a637dc5a2c898a6,
   0x113f9804bef90dae, 0x1b710b35131c471b, 0x28db77f523047d84, 0x32caab7b40c72493, 0x3c9ebe0a15c9bebc,
   0x431d67c49c100d4c, 0x4cc5d4becb3e42b6, 0x597f299cfc657e2a, 0x5fcb6fab3ad6faec, 0x6c44198c4a475817]

/-- Initial hash values of FIPS 180-4, eight words of 32 or 64 bits (R173). -/
def Alg.iv : Alg → List Nat
  | .sha256 => [0x6a09e667, 0xbb67ae85, 0x3c6ef372, 0xa54ff53a, 0x510e527f, 0x9b05688c, 0x1f83d9ab, 0x5be0cd19]
  | .sha384 => [0xcbbb9d5dc1059ed8, 0x629a292a367cd507, 0x9159015a3070dd17, 0x152fecd8f70e5939,
                0x67332667ffc00b31, 0x8eb44a8768581511, 0xdb0c2e0d64f98fa7, 0x47b5481dbefa4fa4]
  | .sha512 => [0x6a09e667f3bcc908, 0xbb67ae8584caa73b, 0x3c6ef372fe94f82b, 0xa54ff53a5f1d36f1,
                0x510e527fade682d1, 0x9b05688c2b3e6c1f, 0x1f83d9abfb41bd6b, 0x5be0cd19137e2179]

/-- Word width in bits. -/
def Alg.wbits : Alg → Nat
  | .sha256 => 32
  | .sha384 => 64
  | .sha512 => 64

/-- Rounds of one block. -/
def Alg.rounds : Alg → Nat
  | .sha256 => 64
  | .sha384 => 80
  | .sha512 => 80

/-- Rotation and shift amounts: two big sigmas, two small sigmas. -/
def Alg.rots : Alg → (Nat × Nat × Nat) × (Nat × Nat × Nat) × (Nat × Nat × Nat) × (Nat × Nat × Nat)
  | .sha256 => ((2, 13, 22), (6, 11, 25), (7, 18, 3), (17, 19, 10))
  | .sha384 => ((28, 34, 39), (14, 18, 41), (1, 8, 7), (19, 61, 6))
  | .sha512 => ((28, 34, 39), (14, 18, 41), (1, 8, 7), (19, 61, 6))

/-- Rotate right in a word of `w` bits. -/
def rotr (w n x : Nat) : Nat := (x >>> n) ||| ((x <<< (w - n)) % 2 ^ w)

/-- A big sigma: three rotations. -/
def sigmaBig (w : Nat) (r : Nat × Nat × Nat) (x : Nat) : Nat := rotr w r.1 x ^^^ rotr w r.2.1 x ^^^ rotr w r.2.2 x

/-- A small sigma: two rotations and a shift. -/
def sigmaSmall (w : Nat) (r : Nat × Nat × Nat) (x : Nat) : Nat := rotr w r.1 x ^^^ rotr w r.2.1 x ^^^ (x >>> r.2.2)

/-- The message schedule, newest word first: each step adds one word. -/
def shaExtend (a : Alg) : Nat → List Nat → List Nat
  | 0, ws => ws
  | n + 1, ws =>
    let w := (sigmaSmall a.wbits a.rots.2.2.2 (ws.getD 1 0) + ws.getD 6 0
      + sigmaSmall a.wbits a.rots.2.2.1 (ws.getD 14 0) + ws.getD 15 0) % 2 ^ a.wbits
    shaExtend a n (w :: ws)

/-- One round over the eight working variables. -/
def shaRound (a : Alg) (v : List Nat) (kw : Nat × Nat) : List Nat :=
  match v with
  | [ra, rb, rc, rd, re, rf, rg, rh] =>
    let m := 2 ^ a.wbits
    let ch := (re &&& rf) ^^^ ((m - 1 - re) &&& rg)
    let maj := (ra &&& rb) ^^^ (ra &&& rc) ^^^ (rb &&& rc)
    let t1 := rh + sigmaBig a.wbits a.rots.2.1 re + ch + kw.1 + kw.2
    let t2 := sigmaBig a.wbits a.rots.1 ra + maj
    [(t1 + t2) % m, ra, rb, rc, (rd + t1) % m, re, rf, rg]
  | _ => v

/-- The constants of the algorithm's rounds. -/
def Alg.ks : Alg → List Nat
  | .sha256 => (shaK.take 64).map (· >>> 32)
  | .sha384 => shaK
  | .sha512 => shaK

/-- Absorb one block into the chaining value. -/
def shaBlock (a : Alg) (h : List Nat) (blk : Bytes) : List Nat :=
  let w0 := (pieces (a.wbits / 8) blk).map beVal
  let ws := (shaExtend a (a.rounds - 16) w0.reverse).reverse
  let v := (List.zip a.ks ws).foldl (shaRound a) h
  List.zipWith (fun x y => (x + y) % 2 ^ a.wbits) h v

/-- Absorb whole blocks. -/
def shaFeed (a : Alg) (h : List Nat) (bs : Bytes) : List Nat := (pieces a.block bs).foldl (shaBlock a) h

/-- The digest bytes of a chaining value (R177). -/
def shaDigest (a : Alg) (h : List Nat) : Bytes := ((h.map (beBytes (a.wbits / 8))).flatten).take a.outLen

/-- The padding of R178 for a message of `total` bytes. -/
def shaPad (a : Alg) (total : Nat) : Bytes :=
  let used := (total + 1 + a.lenBytes) % a.block
  [0x80] ++ zeros ((a.block - used) % a.block) ++ beBytes a.lenBytes (total * 8)

/-- The digest of a message. -/
def sha (a : Alg) (m : Bytes) : Bytes := shaDigest a (shaFeed a a.iv (m ++ shaPad a m.length))

/-- SHA-256. -/
def sha256 (m : Bytes) : Bytes := sha .sha256 m

/-- HMAC-SHA-256 composed from two plain digests (R179). -/
def hmac256 (key m : Bytes) : Bytes :=
  let k := padTo (if key.length > 64 then sha256 key else key) 64
  sha256 (k.map (· ^^^ 0x5c) ++ sha256 (k.map (· ^^^ 0x36) ++ m))

end Sys2Proof.Machine
end

