-- ==== Sys2Proof/Machine/Chunk.lean ====
section
/-! DEFINITION. Chunk boundaries, fingerprints and check fields of an object (03, R87 to R92). -/

namespace Sys2Proof.Machine

open Sys2Proof

/-- GEAR[b]: the first 8 bytes, little-endian, of the SHA-256 digest of the one byte b (R90). -/
def gearTable : List Nat := (List.range 256).map fun b => leVal ((sha256 [byteOf b]).take 8)

/-- The gear hash of a string (R90). -/
def gearHash (bs : Bytes) : Nat := bs.foldl (fun g b => (2 * g + gearTable.getD b.toNat 0) % 2 ^ 64) 0

/-- Mask bits of a content-defined mode (R90): modes 1, 2, 3 have 1, 2, 3. -/
def maskBits (mode : Nat) : Nat := mode

/-- A full block ends a chunk by the gear test over its last 64 bytes (R90). -/
def gearCut (mode : Nat) (blk : Bytes) : Bool := gearHash (blk.drop 4032) % 2 ^ maskBits mode == 0

/-- Blocks of an object: 4 KiB counted from offset 0 (R88). -/
def blocksOf (obj : Bytes) : List Bytes := pieces 4096 obj

/-- A chunk ends after this block: `n` blocks are in it (R90, R91). -/
def chunkEnds (mode n : Nat) (blk : Bytes) : Bool :=
  if mode = 0 then n == 4 else n == 16 || (blk.length == 4096 && gearCut mode blk)

/-- Group blocks into chunks: `cur` holds the open chunk's blocks, newest first (R90, R91). -/
def cutBlocks (mode : Nat) : List Bytes → List Bytes → List (List Bytes)
  | [], cur => if cur.isEmpty then [] else [cur.reverse]
  | b :: bs, cur =>
    let cur' := b :: cur
    if chunkEnds mode cur'.length b then cur'.reverse :: cutBlocks mode bs []
    else cutBlocks mode bs cur'

/-- The chunks of an object in a chunk mode, each a list of blocks (R90, R91). -/
def chunksOf (mode : Nat) (obj : Bytes) : List (List Bytes) := cutBlocks mode (blocksOf obj) []

/-- The fingerprint: SHA-256 over the tenant's salt followed by the chunk (R92). -/
def fingerprint (salt chunk : Bytes) : Bytes := sha256 (salt ++ chunk)

/-- The guard of a block: CRC-32C of the block zero-padded to 4,096 bytes (R20, R88). -/
def guardOf (blk : Bytes) : Nat := crc32c (padTo blk 4096)

/-- The check field of a block (R88). -/
def checkField (blk : Bytes) (refTag gen owner : Nat) : Bytes :=
  let h := leBytes 4 (guardOf blk) ++ leBytes 6 refTag ++ leBytes 2 gen ++ leBytes 2 owner
  h ++ leBytes 2 (crc16 h)

/-- The check fields of consecutive blocks from a reference tag on. -/
def checkFields (blks : List Bytes) (tagBase gen owner : Nat) : Bytes :=
  ((blks.zipIdx).map fun (b, i) => checkField b (tagBase + i) gen owner).flatten

/-- What is wrong with a block against its check field, in the order and details of R118 step 3. -/
def checkFieldErr (blk cf : Bytes) (refTag gen owner : Nat) : Option Nat :=
  if leAt cf 14 2 ≠ crc16 (cf.take 14) then some 0x1104
  else if leAt cf 0 4 ≠ guardOf blk then some 0x1101
  else if leAt cf 4 6 ≠ refTag then some 0x1102
  else if leAt cf 12 2 ≠ owner || leAt cf 10 2 ≠ gen then some 0x1103
  else none

end Sys2Proof.Machine
end

