-- ==== Sys2Proof/Machine/Opcodes.lean ====
section
/-! DEFINITION. The Ezlin opcode set (R60): code, executor, roles, and the fields each opcode defines in its packet
and parameter area, which decide the checks of R53 and R54. -/

namespace Sys2Proof.Machine

open Sys2Proof

/-- The Roles column of R60. -/
inductive Roles where
  | n
  | any
  | op
  | ex
  | mn
  | opMn
  | perParam
deriving DecidableEq, Repr

/-- A field of a parameter area: whole bytes, or the bits of one byte that a mask leaves unreserved. -/
inductive ParField where
  | bytes (lo n : Nat)
  | bits (lo mask : Nat)
deriving DecidableEq, Repr

/-- An opcode: whether the hardware state machine executes it, its roles, whether it requires a parameter block,
whether it uses HANDLE, and its fields where no block or an ordinary block carries them. -/
structure OpSpec where
  code : Nat
  hw : Bool
  roles : Roles
  needBlk : Bool
  handle : Bool
  fields : List ParField
deriving DecidableEq, Repr

/-- The opcodes of sessions, rings and objects. -/
def opTableA : List OpSpec :=
  [ ⟨0x0001, false, .n, false, false, []⟩
  , ⟨0x0002, false, .n, false, false, [.bytes 0 1, .bytes 8 32]⟩
  , ⟨0x0003, false, .any, false, false, []⟩
  , ⟨0x0004, false, .any, false, false, []⟩
  , ⟨0x0005, false, .mn, false, false, [.bytes 0 1, .bytes 8 32]⟩
  , ⟨0x0010, false, .opMn, false, false, [.bytes 0 23]⟩
  , ⟨0x0011, false, .opMn, false, false, [.bytes 0 2]⟩
  , ⟨0x0012, false, .opMn, false, false, [.bytes 0 2]⟩
  , ⟨0x0013, false, .any, false, false, [.bytes 0 2]⟩
  , ⟨0x0101, true, .op, false, true, [.bytes 0 27, .bits 27 1, .bytes 28 12]⟩
  , ⟨0x0102, true, .op, true, true, [.bytes 0 27, .bits 27 1, .bytes 28 12]⟩
  , ⟨0x0103, true, .op, false, true, [.bytes 0 27, .bits 27 1, .bytes 28 12]⟩
  , ⟨0x0111, true, .op, false, true, [.bytes 0 19, .bytes 32 8]⟩
  , ⟨0x0112, true, .op, false, true, [.bytes 0 19, .bytes 20 20]⟩
  , ⟨0x0121, true, .op, false, false, [.bytes 0 18]⟩
  , ⟨0x0131, false, .any, false, false, [.bytes 0 18]⟩
  , ⟨0x0201, false, .op, false, false, [.bytes 0 2]⟩
  , ⟨0x0202, false, .op, false, false, [.bytes 0 2]⟩
  , ⟨0x0203, false, .op, false, false, [.bytes 0 6]⟩
  , ⟨0x0211, false, .op, false, false, [.bytes 0 9, .bits 9 7, .bytes 10 2]⟩
  , ⟨0x0212, false, .op, false, true, []⟩ ]

/-- The opcodes of groups and tape. -/
def opTableB : List OpSpec :=
  [ ⟨0x1001, false, .op, true, false, [.bytes 0 8, .bits 8 1]⟩
  , ⟨0x1002, false, .op, false, true, []⟩
  , ⟨0x1003, false, .any, false, true, []⟩
  , ⟨0x1004, false, .op, false, true, [.bytes 0 1, .bytes 2 4, .bytes 8 16]⟩
  , ⟨0x1005, false, .op, false, true, [.bytes 0 1, .bits 1 1, .bytes 4 4]⟩
  , ⟨0x1006, false, .op, false, true, [.bytes 0 1]⟩
  , ⟨0x1007, false, .op, true, true, [.bytes 0 3]⟩
  , ⟨0x1008, false, .any, false, true, []⟩
  , ⟨0x1009, false, .any, false, true, [.bytes 0 16]⟩
  , ⟨0x100A, false, .op, false, true, [.bytes 0 1]⟩
  , ⟨0x2001, false, .op, false, false, [.bytes 0 1, .bits 1 1]⟩
  , ⟨0x2002, false, .op, false, true, [.bits 0 1]⟩
  , ⟨0x2003, false, .op, true, true, [.bytes 0 1, .bits 1 3, .bytes 4 12]⟩
  , ⟨0x2004, false, .op, true, true, [.bytes 0 1, .bytes 4 4]⟩
  , ⟨0x2005, false, .op, false, true, [.bytes 0 8, .bits 8 1]⟩
  , ⟨0x2006, false, .op, false, true, [.bytes 0 1, .bytes 8 16]⟩
  , ⟨0x2007, false, .any, false, true, [.bytes 0 16]⟩
  , ⟨0x2008, false, .op, false, true, [.bytes 0 16]⟩
  , ⟨0x2009, false, .any, false, true, []⟩ ]

/-- The opcodes of connections, engines, memory and cache. -/
def opTableC : List OpSpec :=
  [ ⟨0x3001, false, .op, true, false, [.bytes 0 32, .bytes 64 80]⟩
  , ⟨0x3002, false, .op, false, true, []⟩
  , ⟨0x3003, false, .any, false, true, []⟩
  , ⟨0x3004, false, .op, false, false, [.bytes 0 1, .bits 1 3, .bytes 2 22]⟩
  , ⟨0x3005, false, .op, false, false, [.bytes 0 4]⟩
  , ⟨0x3006, false, .op, false, true, [.bytes 0 4, .bits 4 1, .bytes 8 8]⟩
  , ⟨0x3007, false, .any, false, false, []⟩
  , ⟨0x4001, false, .ex, false, false, [.bytes 0 2]⟩
  , ⟨0x4002, false, .ex, false, false, [.bytes 0 2]⟩
  , ⟨0x4003, false, .any, false, false, [.bytes 0 2]⟩
  , ⟨0x4004, false, .op, false, false, [.bytes 0 2]⟩
  , ⟨0x4005, false, .op, false, false, [.bytes 0 2]⟩
  , ⟨0x5001, false, .opMn, false, false, [.bytes 0 24]⟩
  , ⟨0x5002, false, .op, false, false, []⟩
  , ⟨0x5003, false, .op, false, false, []⟩
  , ⟨0x5004, false, .op, false, false, []⟩
  , ⟨0x5005, false, .op, false, false, [.bytes 0 1, .bits 1 3, .bytes 2 1, .bytes 8 16]⟩
  , ⟨0x5006, false, .op, false, false, [.bytes 0 2]⟩
  , ⟨0x5007, false, .op, false, false, [.bytes 2 1, .bytes 8 16]⟩ ]

/-- The opcodes of parameters, domains, update and diagnostics. -/
def opTableD : List OpSpec :=
  [ ⟨0x6001, false, .any, false, false, [.bytes 0 2]⟩
  , ⟨0x6002, false, .perParam, false, false, [.bytes 0 2, .bits 2 1, .bytes 4 4]⟩
  , ⟨0x6003, false, .any, false, false, [.bytes 0 32]⟩
  , ⟨0x6004, false, .op, false, false, [.bytes 0 3]⟩
  , ⟨0x6005, false, .op, false, true, [.bytes 0 1, .bytes 8 8]⟩
  , ⟨0x6006, false, .op, false, false, [.bytes 0 12]⟩
  , ⟨0x6010, false, .op, false, false, [.bytes 0 1, .bits 1 1]⟩
  , ⟨0x6011, false, .op, false, false, [.bytes 0 1, .bits 1 1]⟩
  , ⟨0x6012, false, .any, false, false, []⟩
  , ⟨0x7001, false, .mn, false, false, [.bytes 0 10, .bits 10 1, .bytes 16 8]⟩
  , ⟨0x7002, false, .any, false, false, []⟩
  , ⟨0x7003, false, .mn, false, false, []⟩
  , ⟨0x7004, false, .mn, false, false, [.bits 0 7]⟩
  , ⟨0x7005, false, .mn, false, false, [.bits 0 3]⟩
  , ⟨0x7010, false, .any, false, false, [.bytes 0 40]⟩
  , ⟨0x7F01, false, .n, false, false, [.bytes 0 16]⟩
  , ⟨0x7F02, false, .n, false, false, [.bytes 0 4]⟩
  , ⟨0x7F03, false, .mn, false, false, [.bits 0 0x7F]⟩
  , ⟨0x7F04, false, .mn, false, false, [.bytes 0 3, .bytes 4 4]⟩ ]

/-- The opcode set. -/
def opTable : List OpSpec := opTableA ++ opTableB ++ opTableC ++ opTableD

/-- The opcode of a code, if it is defined. -/
def opOf (code : Nat) : Option OpSpec := opTable.find? fun o => o.code == code

/-! ## Fields of a parameter area (R53, R54) -/

/-- First byte after a field. -/
def ParField.stop : ParField → Nat
  | .bytes lo n => lo + n
  | .bits lo _ => lo + 1

/-- The bits of byte `i` that a field defines. -/
def ParField.maskAt (f : ParField) (i : Nat) : Nat :=
  match f with
  | .bytes lo n => if lo ≤ i && i < lo + n then 0xFF else 0
  | .bits lo m => if i == lo then m else 0

/-- The bits of byte `i` that some field defines. -/
def definedBits (fs : List ParField) (i : Nat) : Nat := fs.foldl (fun a f => a ||| f.maskAt i) 0

/-- Every reserved bit of an area from byte `lo` on is zero. -/
def reservedZero (fs : List ParField) (lo : Nat) (a : Bytes) : Bool :=
  (a.drop lo).zipIdx.all fun p =>
    let d := definedBits fs (lo + p.2)
    p.1.toNat &&& d == p.1.toNat

/-- Repeated entries: fields of entry `k` of a size from a header on. -/
def entryFields (hdr size n : Nat) (fs : List ParField) : List ParField :=
  (List.range n).flatMap fun k => fs.map fun f =>
    match f with
    | .bytes lo m => .bytes (hdr + size * k + lo) m
    | .bits lo m => .bits (hdr + size * k + lo) m

/-- Fields of a member entry of GROUP_CREATE. -/
def memberFields : List ParField := [.bytes 0 1, .bytes 2 4, .bytes 8 16]

/-- The fields an opcode defines in its parameter area, given whether a block carries it and the slot configuration
(R151, R340): COUNT of a PUT is one for SOURCE 1 alone, CID_REQ of a CONN_OPEN not for the peer. A list that a count in the block declares follows the header, at most 65,536 bytes in all. -/
def areaFields (o : OpSpec) (blk : Bool) (cfg : Nat) (a : Bytes) : List ParField :=
  if o.code == 0x0201 && blk then [.bytes 0 2, .bytes 64 64]
  else if o.code == 0x0203 && blk then
    if leAt a 2 1 == 2 then [.bytes 0 6, .bytes 64 80]
    else if leAt a 3 1 == 1 then [.bytes 0 6, .bytes 64 64]
    else [.bytes 0 6, .bytes 64 80]
  else if o.code == 0x0101 || o.code == 0x0102 || o.code == 0x0103 then
    if leAt a 26 1 == 1 then o.fields else [.bytes 0 27, .bits 27 1, .bytes 28 8]
  else if o.code == 0x3001 then
    [.bytes 0 (if leAt a 0 1 == 2 then 28 else 32), .bytes 64 (if cfg == 1 then 64 else 80)]
  else if o.code == 0x6002 && blk then
    .bytes 0 2 :: entryFields 64 8 (min (leAt a 0 2) 256) [.bytes 0 2, .bits 2 1, .bytes 4 4]
  else if o.code == 0x1001 then o.fields ++ entryFields 64 32 (min (leAt a 5 1) 255) memberFields
  else if o.code == 0x1007 then o.fields ++ entryFields 64 32 (min (leAt a 2 1) 255) memberFields
  else if o.code == 0x2003 then
    o.fields ++ entryFields 64 32 (min (leAt a 4 4) 2046) [.bytes 0 (if leAt a 0 1 == 1 then 12 else 8)]
  else if o.code == 0x2004 then
    o.fields ++ entryFields 64 32 (min (leAt a 4 4) 2046)
      (if leAt a 0 1 == 1 then [.bytes 0 12, .bytes 16 16] else [.bytes 0 8])
  else o.fields

/-- The bytes of HANDLE an opcode names (R51): GET's destination length (bytes 4 to 7), or for a scatter-gather list all of
them (DEST is byte 18 of the parameters; log entry 93), a connection ID (bytes 0 to 3), or a whole handle. -/
def handleField (o : OpSpec) (a : Bytes) : List ParField :=
  if !o.handle then []
  else if o.code == 0x0111 || o.code == 0x0112 then (if leAt a 18 1 == 1 then [.bytes 0 8] else [.bytes 4 4])
  else if o.code == 0x3002 || o.code == 0x3003 then [.bytes 0 4]
  else [.bytes 0 8]

/-- Whether a packet must carry a block: an opcode that requires one, and TENANT_KEY_SET for NEW and RELOAD (R159). -/
def needsBlock (o : OpSpec) (params : Bytes) : Bool :=
  o.needBlk || (o.code == 0x0203 && decide (leAt params 2 1 < 2))

/-- The length a block must have for the fields its opcode defines without a count (R53). -/
def minBlock (o : OpSpec) (a : Bytes) : Nat :=
  if o.code == 0x0201 then 128
  else if o.code == 0x0203 then (if leAt a 2 1 < 2 then 144 else 6)
  else if o.code == 0x3001 then 192
  else o.fields.foldl (fun a f => max a f.stop) 0

/-- From which byte on a block holds data rather than fields: the object bytes of PUT_INLINE (R53, R114). -/
def dataFrom (o : OpSpec) (blkLen : Nat) : Nat := if o.code == 0x0102 then 64 else blkLen

end Sys2Proof.Machine
end

