-- ==== Sys2Proof/Config.lean ====
section
/-! DEFINITION. What the manual leaves open: constants with no body, so that nothing can be proved about their
values. Each names the log entry that declares it. -/

namespace Sys2Proof

/-- Byte `i` of draw `n` of the part's random source (R63, R64, R93, R152; log entry 2). -/
opaque Config.random (n i : Nat) : Byte

/-- The number that adds to 0x500 to give the Hedgerow source of a register's level event (log entry 7). -/
opaque Config.eventNo (n : Nat) : Nat

/-- The 16-bit ID of the parameter at a place of the table (log entry 8). -/
opaque Config.paramId (place : Nat) : Nat

/-- The 64 parity bytes of a C1 codeword: the parity-check matrix is in a file outside the manual (R260; log entry
9). -/
opaque Config.c1Parity (info : Bytes) : Bytes

/-- What the normal C1 decoder makes of detected bits, the first half erased or not: the information bytes and the
corrected bit count, or nothing (R303; log entry 9). -/
opaque Config.c1Decode (firstErased : Bool) (bits : Bytes) : Option (Bytes × Nat)

/-- What the recovery engine makes of a captured frame, and after how many global iterations, at most the number
given (R305; log entry 9). -/
opaque Config.recoverDecode (iter inner : Nat) (sm2 : Bool) (bits : Bytes) : Option (Bytes × Nat)

/-- A quotient of whole numbers as the nearest representable value, where the manual gives no rounding (log entry
10). -/
opaque Config.quot (num : Int) (den : Nat) : Int

/-- A value the manual does not state, by the log entry that names it and what it may depend on. -/
opaque Config.unstated (entry : Nat) (args : List Nat) : Nat

/-- Bytes the manual does not state, by log entry. -/
opaque Config.unstatedBytes (entry : Nat) (args : List Nat) (n : Nat) : Bytes

end Sys2Proof
end

