-- ==== Sys2Proof/Machine/Regs.lean ====
section
/-! DEFINITION. The offsets of the registers in BAR0 by name, from the register maps of the chapters (R551). -/

namespace Sys2Proof.Machine.Reg

/-- FLD_STATUS. -/
def fldStatus : Nat := 0x010000
/-- FLD_ADM_CTRL. -/
def fldAdmCtrl : Nat := 0x010004
/-- FLD_ADM_SQ_BASE_LO. -/
def fldAdmSqBaseLo : Nat := 0x010008
/-- FLD_ADM_SQ_BASE_HI. -/
def fldAdmSqBaseHi : Nat := 0x01000C
/-- FLD_ADM_CQ_BASE_LO. -/
def fldAdmCqBaseLo : Nat := 0x010010
/-- FLD_ADM_CQ_BASE_HI. -/
def fldAdmCqBaseHi : Nat := 0x010014
/-- FLD_RING_ERR. -/
def fldRingErr : Nat := 0x010020
/-- FLD_AUTH_FAIL. -/
def fldAuthFail : Nat := 0x010030
/-- FLD_SQ_TAIL_n. -/
def fldSqTailN (i : Nat) : Nat := 0x020000 + 8 * i
/-- FLD_CQ_HEAD_n. -/
def fldCqHeadN (i : Nat) : Nat := 0x020004 + 8 * i
/-- FLD_TICK_LO. -/
def fldTickLo : Nat := 0x010100
/-- FLD_TICK_HI. -/
def fldTickHi : Nat := 0x010104
/-- FLD_TICK_STAT. -/
def fldTickStat : Nat := 0x010108
/-- FLD_CORES. -/
def fldCores : Nat := 0x01010C
/-- FLD_BG_STAT. -/
def fldBgStat : Nat := 0x010110
/-- FLD_BG_USE. -/
def fldBgUse : Nat := 0x010114
/-- FLD_TEL_STAT. -/
def fldTelStat : Nat := 0x010118
/-- FLD_OOB_STAT. -/
def fldOobStat : Nat := 0x01011C
/-- SWD_STATUS. -/
def swdStatus : Nat := 0x080000
/-- SWD_ERR. -/
def swdErr : Nat := 0x080004
/-- SWD_IDX_INFO. -/
def swdIdxInfo : Nat := 0x080008
/-- SWD_CNT_CHUNKS_LO. -/
def swdCntChunksLo : Nat := 0x080010
/-- SWD_CNT_CHUNKS_HI. -/
def swdCntChunksHi : Nat := 0x080014
/-- SWD_CNT_HITS_LO. -/
def swdCntHitsLo : Nat := 0x080018
/-- SWD_CNT_HITS_HI. -/
def swdCntHitsHi : Nat := 0x08001C
/-- SWD_CNT_LENERR. -/
def swdCntLenerr : Nat := 0x080020
/-- SWD_Ln_XQ_BASE_LO. -/
def swdLnXqBaseLo (i : Nat) : Nat := 0x081000 + 64 * i
/-- SWD_Ln_XQ_BASE_HI. -/
def swdLnXqBaseHi (i : Nat) : Nat := 0x081004 + 64 * i
/-- SWD_Ln_XQ_CTRL. -/
def swdLnXqCtrl (i : Nat) : Nat := 0x081008 + 64 * i
/-- SWD_Ln_XQ_TAIL. -/
def swdLnXqTail (i : Nat) : Nat := 0x08100C + 64 * i
/-- SWD_Ln_XCQ_BASE_LO. -/
def swdLnXcqBaseLo (i : Nat) : Nat := 0x081010 + 64 * i
/-- SWD_Ln_XCQ_BASE_HI. -/
def swdLnXcqBaseHi (i : Nat) : Nat := 0x081014 + 64 * i
/-- SWD_Ln_XCQ_HEAD. -/
def swdLnXcqHead (i : Nat) : Nat := 0x081018 + 64 * i
/-- SWD_Ln_XSTATUS. -/
def swdLnXstatus (i : Nat) : Nat := 0x08101C + 64 * i
/-- GRS_STATUS. -/
def grsStatus : Nat := 0x0C0000
/-- GRS_ERR. -/
def grsErr : Nat := 0x0C0004
/-- GRS_CNT_IN_LO. -/
def grsCntInLo : Nat := 0x0C0010
/-- GRS_CNT_IN_HI. -/
def grsCntInHi : Nat := 0x0C0014
/-- GRS_CNT_OUT_LO. -/
def grsCntOutLo : Nat := 0x0C0018
/-- GRS_CNT_OUT_HI. -/
def grsCntOutHi : Nat := 0x0C001C
/-- GRS_CNT_EVENTS. -/
def grsCntEvents : Nat := 0x0C0020
/-- GRS_XQ_BASE_LO. -/
def grsXqBaseLo (i : Nat) : Nat := 0x0C1000 + 64 * i
/-- GRS_XQ_BASE_HI. -/
def grsXqBaseHi (i : Nat) : Nat := 0x0C1004 + 64 * i
/-- GRS_XQ_CTRL. -/
def grsXqCtrl (i : Nat) : Nat := 0x0C1008 + 64 * i
/-- GRS_XQ_TAIL. -/
def grsXqTail (i : Nat) : Nat := 0x0C100C + 64 * i
/-- GRS_XCQ_BASE_LO. -/
def grsXcqBaseLo (i : Nat) : Nat := 0x0C1010 + 64 * i
/-- GRS_XCQ_BASE_HI. -/
def grsXcqBaseHi (i : Nat) : Nat := 0x0C1014 + 64 * i
/-- GRS_XCQ_HEAD. -/
def grsXcqHead (i : Nat) : Nat := 0x0C1018 + 64 * i
/-- GRS_XSTATUS. -/
def grsXstatus (i : Nat) : Nat := 0x0C101C + 64 * i
/-- BRK_STATUS. -/
def brkStatus : Nat := 0x0D0000
/-- BRK_ERR. -/
def brkErr : Nat := 0x0D0004
/-- BRK_SLOTS. -/
def brkSlots : Nat := 0x0D0008
/-- BRK_SLOTS_FREE. -/
def brkSlotsFree : Nat := 0x0D000C
/-- BRK_CNT_EVENTS. -/
def brkCntEvents : Nat := 0x0D0010
/-- BRK_KEYIN_k. -/
def brkKeyinK (i : Nat) : Nat := 0x0D0040 + 4 * i
/-- BRK_KEYLOAD. -/
def brkKeyload : Nat := 0x0D0080
/-- BRK_KEYSTAT. -/
def brkKeystat : Nat := 0x0D0084
/-- BRK_XQ_BASE_LO. -/
def brkXqBaseLo (i : Nat) : Nat := 0x0D1000 + 64 * i
/-- BRK_XQ_BASE_HI. -/
def brkXqBaseHi (i : Nat) : Nat := 0x0D1004 + 64 * i
/-- BRK_XQ_CTRL. -/
def brkXqCtrl (i : Nat) : Nat := 0x0D1008 + 64 * i
/-- BRK_XQ_TAIL. -/
def brkXqTail (i : Nat) : Nat := 0x0D100C + 64 * i
/-- BRK_XCQ_BASE_LO. -/
def brkXcqBaseLo (i : Nat) : Nat := 0x0D1010 + 64 * i
/-- BRK_XCQ_BASE_HI. -/
def brkXcqBaseHi (i : Nat) : Nat := 0x0D1014 + 64 * i
/-- BRK_XCQ_HEAD. -/
def brkXcqHead (i : Nat) : Nat := 0x0D1018 + 64 * i
/-- BRK_XSTATUS. -/
def brkXstatus (i : Nat) : Nat := 0x0D101C + 64 * i
/-- THS_STATUS. -/
def thsStatus : Nat := 0x0E0000
/-- THS_FREE. -/
def thsFree : Nat := 0x0E0004
/-- THS_CLAIM. -/
def thsClaim : Nat := 0x0E0008
/-- THS_ERR. -/
def thsErr : Nat := 0x0E000C
/-- THS_CNT_EVENTS. -/
def thsCntEvents : Nat := 0x0E0010
/-- THS_Cn_CTRL. -/
def thsCnCtrl (i : Nat) : Nat := 0x0E1000 + 256 * i
/-- THS_Cn_STAT. -/
def thsCnStat (i : Nat) : Nat := 0x0E1004 + 256 * i
/-- THS_Cn_SRC_LO. -/
def thsCnSrcLo (i : Nat) : Nat := 0x0E1008 + 256 * i
/-- THS_Cn_SRC_HI. -/
def thsCnSrcHi (i : Nat) : Nat := 0x0E100C + 256 * i
/-- THS_Cn_LEN. -/
def thsCnLen (i : Nat) : Nat := 0x0E1010 + 256 * i
/-- THS_Cn_SGCNT. -/
def thsCnSgcnt (i : Nat) : Nat := 0x0E1014 + 256 * i
/-- THS_Cn_COUNT_LO. -/
def thsCnCountLo (i : Nat) : Nat := 0x0E1018 + 256 * i
/-- THS_Cn_COUNT_HI. -/
def thsCnCountHi (i : Nat) : Nat := 0x0E101C + 256 * i
/-- THS_Cn_DIGEST_k. -/
def thsCnDigestK (i j : Nat) : Nat := 0x0E1040 + 256 * i + 4 * j
/-- THS_Cn_EXPECT_k. -/
def thsCnExpectK (i j : Nat) : Nat := 0x0E1080 + 256 * i + 4 * j
/-- TSK_STATUS. -/
def tskStatus : Nat := 0x100000
/-- TSK_ERR. -/
def tskErr : Nat := 0x100004
/-- TSK_TREE. -/
def tskTree : Nat := 0x100008
/-- TSK_CNT_FULL_LO. -/
def tskCntFullLo : Nat := 0x100010
/-- TSK_CNT_FULL_HI. -/
def tskCntFullHi : Nat := 0x100014
/-- TSK_CNT_RMW_LO. -/
def tskCntRmwLo : Nat := 0x100018
/-- TSK_CNT_RMW_HI. -/
def tskCntRmwHi : Nat := 0x10001C
/-- TSK_CNT_TAGERR. -/
def tskCntTagerr : Nat := 0x100020
/-- TSK_Dn_STAT. -/
def tskDnStat (i : Nat) : Nat := 0x100040 + 4 * i
/-- TSK_XQ_BASE_LO. -/
def tskXqBaseLo (i : Nat) : Nat := 0x101000 + 64 * i
/-- TSK_XQ_BASE_HI. -/
def tskXqBaseHi (i : Nat) : Nat := 0x101004 + 64 * i
/-- TSK_XQ_CTRL. -/
def tskXqCtrl (i : Nat) : Nat := 0x101008 + 64 * i
/-- TSK_XQ_TAIL. -/
def tskXqTail (i : Nat) : Nat := 0x10100C + 64 * i
/-- TSK_XCQ_BASE_LO. -/
def tskXcqBaseLo (i : Nat) : Nat := 0x101010 + 64 * i
/-- TSK_XCQ_BASE_HI. -/
def tskXcqBaseHi (i : Nat) : Nat := 0x101014 + 64 * i
/-- TSK_XCQ_HEAD. -/
def tskXcqHead (i : Nat) : Nat := 0x101018 + 64 * i
/-- TSK_XSTATUS. -/
def tskXstatus (i : Nat) : Nat := 0x10101C + 64 * i
/-- TSK_CNT_LOST. -/
def tskCntLost : Nat := 0x100024
/-- TSK_BG. -/
def tskBg : Nat := 0x100028
/-- TSK_Dn_JCOPY_A. -/
def tskDnJcopyA (i : Nat) : Nat := 0x100080 + 8 * i
/-- TSK_Dn_JCOPY_B. -/
def tskDnJcopyB (i : Nat) : Nat := 0x100084 + 8 * i
/-- FPT_CFG. -/
def fptCfg : Nat := 0x1D0000
/-- FPT_ERR. -/
def fptErr : Nat := 0x1D0004
/-- FPT_NS_COUNT. -/
def fptNsCount : Nat := 0x1D0008
/-- FPT_NS_SEL. -/
def fptNsSel : Nat := 0x1D0010
/-- FPT_NS_STATE. -/
def fptNsState : Nat := 0x1D0014
/-- FPT_NS_LBAS_LO. -/
def fptNsLbasLo : Nat := 0x1D0018
/-- FPT_NS_LBAS_HI. -/
def fptNsLbasHi : Nat := 0x1D001C
/-- FPT_NS_NGUID_k. -/
def fptNsNguidK (i : Nat) : Nat := 0x1D0020 + 4 * i
/-- FPT_LINK. -/
def fptLink (i : Nat) : Nat := 0x1D0100 + 32 * i
/-- FPT_EVT. -/
def fptEvt (i : Nat) : Nat := 0x1D0104 + 32 * i
/-- FPT_CNT. -/
def fptCnt (i : Nat) : Nat := 0x1D0108 + 32 * i
/-- WDR_STATUS. -/
def wdrStatus (i : Nat) : Nat := 0x200000 + 262144 * i
/-- WDR_ERR. -/
def wdrErr (i : Nat) : Nat := 0x200004 + 262144 * i
/-- WDR_FILL. -/
def wdrFill (i : Nat) : Nat := 0x200008 + 262144 * i
/-- WDR_DSN. -/
def wdrDsn (i : Nat) : Nat := 0x20000C + 262144 * i
/-- WDR_POS. -/
def wdrPos (i : Nat) : Nat := 0x200010 + 262144 * i
/-- WDR_CNT_FRAMES_LO. -/
def wdrCntFramesLo (i : Nat) : Nat := 0x200018 + 262144 * i
/-- WDR_CNT_FRAMES_HI. -/
def wdrCntFramesHi (i : Nat) : Nat := 0x20001C + 262144 * i
/-- WDR_CNT_RW. -/
def wdrCntRw (i : Nat) : Nat := 0x200020 + 262144 * i
/-- WDR_CNT_EVENTS. -/
def wdrCntEvents (i : Nat) : Nat := 0x200024 + 262144 * i
/-- WDR_CNT_READ. -/
def wdrCntRead (i : Nat) : Nat := 0x200028 + 262144 * i
/-- WDR_XQ_BASE_LO. -/
def wdrXqBaseLo (i : Nat) : Nat := 0x201000 + 262144 * i
/-- WDR_XQ_BASE_HI. -/
def wdrXqBaseHi (i : Nat) : Nat := 0x201004 + 262144 * i
/-- WDR_XQ_CTRL. -/
def wdrXqCtrl (i : Nat) : Nat := 0x201008 + 262144 * i
/-- WDR_XQ_TAIL. -/
def wdrXqTail (i : Nat) : Nat := 0x20100C + 262144 * i
/-- WDR_XCQ_BASE_LO. -/
def wdrXcqBaseLo (i : Nat) : Nat := 0x201010 + 262144 * i
/-- WDR_XCQ_BASE_HI. -/
def wdrXcqBaseHi (i : Nat) : Nat := 0x201014 + 262144 * i
/-- WDR_XCQ_HEAD. -/
def wdrXcqHead (i : Nat) : Nat := 0x201018 + 262144 * i
/-- WDR_XSTATUS. -/
def wdrXstatus (i : Nat) : Nat := 0x20101C + 262144 * i
/-- GLN_STATUS. -/
def glnStatus (i : Nat) : Nat := 0x280000 + 262144 * i
/-- GLN_ERR. -/
def glnErr (i : Nat) : Nat := 0x280004 + 262144 * i
/-- GLN_CALSET. -/
def glnCalset (i : Nat) : Nat := 0x280008 + 262144 * i
/-- GLN_COND. -/
def glnCond (i : Nat) : Nat := 0x28000C + 262144 * i
/-- GLN_TARGET. -/
def glnTarget (i : Nat) : Nat := 0x280010 + 262144 * i
/-- GLN_LOOP. -/
def glnLoop (i : Nat) : Nat := 0x280014 + 262144 * i
/-- GLN_ADAPT. -/
def glnAdapt (i : Nat) : Nat := 0x280018 + 262144 * i
/-- GLN_SYNC. -/
def glnSync (i : Nat) : Nat := 0x28001C + 262144 * i
/-- GLN_REC. -/
def glnRec (i : Nat) : Nat := 0x280020 + 262144 * i
/-- GLN_WPC. -/
def glnWpc (i : Nat) : Nat := 0x280024 + 262144 * i
/-- GLN_CNT_FRAMES_LO. -/
def glnCntFramesLo (i : Nat) : Nat := 0x280040 + 262144 * i
/-- GLN_CNT_FRAMES_HI. -/
def glnCntFramesHi (i : Nat) : Nat := 0x280044 + 262144 * i
/-- GLN_CNT_SYNC. -/
def glnCntSync (i : Nat) : Nat := 0x280048 + 262144 * i
/-- GLN_CNT_REC. -/
def glnCntRec (i : Nat) : Nat := 0x28004C + 262144 * i
/-- GLN_CNT_TIMING. -/
def glnCntTiming (i : Nat) : Nat := 0x280050 + 262144 * i
/-- GLN_CNT_CAL. -/
def glnCntCal (i : Nat) : Nat := 0x280054 + 262144 * i
/-- GLN_TRK_SEL. -/
def glnTrkSel (i : Nat) : Nat := 0x280060 + 262144 * i
/-- GLN_TRK_STAT. -/
def glnTrkStat (i : Nat) : Nat := 0x280064 + 262144 * i
/-- GLN_TRK_EB. -/
def glnTrkEb (i : Nat) : Nat := 0x280068 + 262144 * i
/-- GLN_SRV_STATUS. -/
def glnSrvStatus (i : Nat) : Nat := 0x282000 + 262144 * i
/-- GLN_SRV_ERR. -/
def glnSrvErr (i : Nat) : Nat := 0x282004 + 262144 * i
/-- GLN_SRV_PES. -/
def glnSrvPes (i : Nat) : Nat := 0x282008 + 262144 * i
/-- GLN_SRV_LAD. -/
def glnSrvLad (i : Nat) : Nat := 0x28200C + 262144 * i
/-- GLN_SRV_LOOP. -/
def glnSrvLoop (i : Nat) : Nat := 0x282010 + 262144 * i
/-- GLN_SRV_GEOM. -/
def glnSrvGeom (i : Nat) : Nat := 0x282014 + 262144 * i
/-- GLN_SRV_WI. -/
def glnSrvWi (i : Nat) : Nat := 0x282018 + 262144 * i
/-- GLN_SRV_WG. -/
def glnSrvWg (i : Nat) : Nat := 0x28201C + 262144 * i
/-- GLN_SRV_CNT. -/
def glnSrvCnt (i : Nat) : Nat := 0x282020 + 262144 * i
/-- DRV_STATUS. -/
def drvStatus : Nat := 0x180000
/-- DRV_ERR. -/
def drvErr : Nat := 0x180004
/-- DRV_CONNS. -/
def drvConns : Nat := 0x180008
/-- DRV_PARK. -/
def drvPark : Nat := 0x18000C
/-- DRV_CNT_NAK. -/
def drvCntNak : Nat := 0x180010
/-- DRV_CNT_RX. -/
def drvCntRx : Nat := 0x180014
/-- DRV_CNT_STATE. -/
def drvCntState : Nat := 0x180018
/-- DRV_CNT_RETX. -/
def drvCntRetx : Nat := 0x18001C
/-- DRV_HB. -/
def drvHb : Nat := 0x180020
/-- DRV_CNT_PATH. -/
def drvCntPath : Nat := 0x180024
/-- DRV_XQ_BASE_LO. -/
def drvXqBaseLo (i : Nat) : Nat := 0x181000 + 64 * i
/-- DRV_XQ_BASE_HI. -/
def drvXqBaseHi (i : Nat) : Nat := 0x181004 + 64 * i
/-- DRV_XQ_CTRL. -/
def drvXqCtrl (i : Nat) : Nat := 0x181008 + 64 * i
/-- DRV_XQ_TAIL. -/
def drvXqTail (i : Nat) : Nat := 0x18100C + 64 * i
/-- DRV_XCQ_BASE_LO. -/
def drvXcqBaseLo (i : Nat) : Nat := 0x181010 + 64 * i
/-- DRV_XCQ_BASE_HI. -/
def drvXcqBaseHi (i : Nat) : Nat := 0x181014 + 64 * i
/-- DRV_XCQ_HEAD. -/
def drvXcqHead (i : Nat) : Nat := 0x181018 + 64 * i
/-- DRV_XSTATUS. -/
def drvXstatus (i : Nat) : Nat := 0x18101C + 64 * i
/-- DRV_XCOUNT. -/
def drvXcount (i : Nat) : Nat := 0x181020 + 64 * i
/-- NET_STATUS. -/
def netStatus : Nat := 0x1C0000
/-- NET_ERR. -/
def netErr : Nat := 0x1C0004
/-- NET_HBT. -/
def netHbt : Nat := 0x1C0008
/-- NET_LANE. -/
def netLane (i : Nat) : Nat := 0x1C0100 + 256 * i
/-- NET_CNT_FEC. -/
def netCntFec (i : Nat) : Nat := 0x1C0104 + 256 * i
/-- NET_CNT_DROP. -/
def netCntDrop (i : Nat) : Nat := 0x1C0108 + 256 * i
/-- NET_CNT_LINK. -/
def netCntLink (i : Nat) : Nat := 0x1C010C + 256 * i
/-- DHD_STATUS. -/
def dhdStatus : Nat := 0x320000
/-- DHD_ERR. -/
def dhdErr : Nat := 0x320004
/-- DHD_HLK. -/
def dhdHlk : Nat := 0x320008
/-- DHD_LEASE. -/
def dhdLease : Nat := 0x32000C
/-- DHD_CNT. -/
def dhdCnt : Nat := 0x320010
/-- DHD_HOLDOFF. -/
def dhdHoldoff : Nat := 0x320014
/-- DHD_Dn_STAT. -/
def dhdDnStat (i : Nat) : Nat := 0x320040 + 4 * i
/-- MEM_STATUS. -/
def memStatus : Nat := 0x140000
/-- MEM_ERR. -/
def memErr : Nat := 0x140004
/-- MEM_UE_ADDR_LO. -/
def memUeAddrLo : Nat := 0x140008
/-- MEM_UE_ADDR_HI. -/
def memUeAddrHi : Nat := 0x14000C
/-- MEM_SRAM_ECC. -/
def memSramEcc : Nat := 0x140010
/-- MEM_CH_STAT. -/
def memChStat (i : Nat) : Nat := 0x140100 + 16 * i
/-- MEM_CH_CE. -/
def memChCe (i : Nat) : Nat := 0x140104 + 16 * i
/-- MEM_CH_UE. -/
def memChUe (i : Nat) : Nat := 0x140108 + 16 * i
/-- HTH_STATUS. -/
def hthStatus : Nat := 0x148000
/-- HTH_WAYS. -/
def hthWays : Nat := 0x148004
/-- HTH_WAYS_USE. -/
def hthWaysUse : Nat := 0x148008
/-- HTH_DIRTY. -/
def hthDirty : Nat := 0x14800C
/-- HTH_CNT_HIT_LO. -/
def hthCntHitLo : Nat := 0x148010
/-- HTH_CNT_HIT_HI. -/
def hthCntHitHi : Nat := 0x148014
/-- HTH_CNT_MISS_LO. -/
def hthCntMissLo : Nat := 0x148018
/-- HTH_CNT_MISS_HI. -/
def hthCntMissHi : Nat := 0x14801C
/-- HTH_CNT_EVENTS. -/
def hthCntEvents : Nat := 0x148020
/-- HRW_STATUS. -/
def hrwStatus : Nat := 0x040000
/-- HRW_ERR. -/
def hrwErr : Nat := 0x040004
/-- HRW_CNT_EVENTS. -/
def hrwCntEvents : Nat := 0x040008
/-- HRW_CNT_MSG_LO. -/
def hrwCntMsgLo : Nat := 0x040010
/-- HRW_CNT_MSG_HI. -/
def hrwCntMsgHi : Nat := 0x040014
/-- HRW_SRC_SEL. -/
def hrwSrcSel : Nat := 0x040020
/-- HRW_SRC_ROUTE. -/
def hrwSrcRoute : Nat := 0x040024
/-- HRW_SRC_STAT. -/
def hrwSrcStat : Nat := 0x040028
/-- HRW_PEND_SET_k. -/
def hrwPendSetK (i : Nat) : Nat := 0x041000 + 4 * i
/-- HRW_PEND_CLR_k. -/
def hrwPendClrK (i : Nat) : Nat := 0x041200 + 4 * i
/-- HRW_MASK_SET_k. -/
def hrwMaskSetK (i : Nat) : Nat := 0x041400 + 4 * i
/-- HRW_MASK_CLR_k. -/
def hrwMaskClrK (i : Nat) : Nat := 0x041600 + 4 * i
/-- HRW_Tn_CLAIM. -/
def hrwTnClaim (i : Nat) : Nat := 0x042000 + 32 * i
/-- HRW_Tn_COMPLETE. -/
def hrwTnComplete (i : Nat) : Nat := 0x042004 + 32 * i
/-- HRW_Tn_CFG. -/
def hrwTnCfg (i : Nat) : Nat := 0x042008 + 32 * i
/-- HRW_Tn_STAT. -/
def hrwTnStat (i : Nat) : Nat := 0x04200C + 32 * i
/-- HRW_MOD_v. -/
def hrwModV (i : Nat) : Nat := 0x050000 + 4 * i
/-- CRP_STATUS. -/
def crpStatus : Nat := 0x310000
/-- CRP_RESET. -/
def crpReset : Nat := 0x310004
/-- CRP_RST_CAUSE. -/
def crpRstCause : Nat := 0x310008
/-- CRP_PSTATE. -/
def crpPstate : Nat := 0x31000C
/-- CRP_PSTATE_RES. -/
def crpPstateRes : Nat := 0x310010
/-- CRP_CLK_STAT. -/
def crpClkStat : Nat := 0x310014
/-- CRP_CLK_FREQ. -/
def crpClkFreq : Nat := 0x310018
/-- CRP_CNT. -/
def crpCnt : Nat := 0x31001C
/-- CRP_TEMP. -/
def crpTemp : Nat := 0x310040
/-- CRP_TEMP_FE. -/
def crpTempFe : Nat := 0x310044
/-- CRP_THERM. -/
def crpTherm : Nat := 0x310048
/-- CRP_IMON. -/
def crpImon : Nat := 0x31004C
/-- STL_STATUS. -/
def stlStatus : Nat := 0x318000
/-- STL_HOLD. -/
def stlHold : Nat := 0x318004
/-- STL_SEL. -/
def stlSel : Nat := 0x318008
/-- STL_XSTAT. -/
def stlXstat : Nat := 0x31800C
/-- SKL_STATUS. -/
def sklStatus : Nat := 0x300000
/-- SKL_NEXT. -/
def sklNext : Nat := 0x300004
/-- SKL_OLDEST. -/
def sklOldest : Nat := 0x300008
/-- SKL_LOST. -/
def sklLost : Nat := 0x30000C
/-- SKL_LW_k. -/
def sklLwK (i : Nat) : Nat := 0x300010 + 4 * i
/-- SKL_RSEL. -/
def sklRsel : Nat := 0x300020
/-- SKL_RSTAT. -/
def sklRstat : Nat := 0x300024
/-- SKL_REC_k. -/
def sklRecK (i : Nat) : Nat := 0x300040 + 4 * i
/-- UPD_STATUS. -/
def updStatus : Nat := 0x330000
/-- UPD_SLOT. -/
def updSlot : Nat := 0x330004
/-- UPD_VER_LO. -/
def updVerLo : Nat := 0x330008
/-- UPD_VER_HI. -/
def updVerHi : Nat := 0x33000C
/-- UPD_ATT_Q. -/
def updAttQ : Nat := 0x330010
/-- UPD_ATT_BLK. -/
def updAttBlk : Nat := 0x330014
/-- UPD_ERR. -/
def updErr : Nat := 0x330018
/-- UPD_BITMAP_k. -/
def updBitmapK (i : Nat) : Nat := 0x330040 + 4 * i
/-- GLB_ID. -/
def glbId : Nat := 0x000000
/-- GLB_STEP. -/
def glbStep : Nat := 0x000004
/-- GLB_CAPS. -/
def glbCaps : Nat := 0x000008
/-- GLB_STRAP. -/
def glbStrap : Nat := 0x00000C
/-- GLB_UNIT_ID_k. -/
def glbUnitIdK (i : Nat) : Nat := 0x000010 + 4 * i
/-- GLB_MAC_LO. -/
def glbMacLo : Nat := 0x000020
/-- GLB_MAC_HI. -/
def glbMacHi : Nat := 0x000024
/-- GLB_ACC_ERR. -/
def glbAccErr : Nat := 0x000030

end Sys2Proof.Machine.Reg
end

