-- ==== Sys2Proof/Machine/RegMap.lean ====
section
/-! DEFINITION. The register maps of the spec, written out from the register tables of its chapters (R551): every
family of registers with its offsets, its fields, their access types (R12) and reset values (R14). Where a table says
"fused" or "strap" the reset entry here is 0 and the value comes from the part's own fuses and straps. -/

namespace Sys2Proof.Machine

open Sys2Proof

/-- The access types of R12. -/
inductive Acc where
  | ro
  | rw
  | wo
  | w1s
  | w1c
  | rc
  | wok
deriving DecidableEq, Repr

/-- A field of a register: its bits, access type and reset value. -/
structure RegField where
  hi : Nat
  lo : Nat
  acc : Acc
  rst : Nat
deriving DecidableEq, Repr

/-- A family of registers at `base + s1 * i + s2 * j` for `i` below `n1` and `j` below `n2`. -/
structure RegFam where
  name : String
  base : Nat
  s1 : Nat
  n1 : Nat
  s2 : Nat
  n2 : Nat
  fields : List RegField
deriving DecidableEq, Repr

/-- A field, in the order of the tables. -/
def fld (hi lo : Nat) (acc : Acc) (rst : Nat) : RegField := ⟨hi, lo, acc, rst⟩

/-- The FLD_ register families (02, 19). -/
def regsFld : List RegFam :=
  [⟨"FLD_STATUS", 0x010000, 0, 1, 0, 1, [fld 0 0 .ro 0, fld 1 1 .ro 0, fld 2 2 .ro 0x1]⟩,
   ⟨"FLD_ADM_CTRL", 0x010004, 0, 1, 0, 1, [fld 0 0 .rw 0, fld 8 4 .rw 0, fld 16 12 .rw 0]⟩,
   ⟨"FLD_ADM_SQ_BASE_LO", 0x010008, 0, 1, 0, 1, [fld 31 12 .rw 0]⟩,
   ⟨"FLD_ADM_SQ_BASE_HI", 0x01000C, 0, 1, 0, 1, [fld 31 0 .rw 0]⟩,
   ⟨"FLD_ADM_CQ_BASE_LO", 0x010010, 0, 1, 0, 1, [fld 31 12 .rw 0]⟩,
   ⟨"FLD_ADM_CQ_BASE_HI", 0x010014, 0, 1, 0, 1, [fld 31 0 .rw 0]⟩,
   ⟨"FLD_RING_ERR", 0x010020, 0, 1, 0, 1, [fld 9 0 .ro 0, fld 15 12 .ro 0, fld 23 16 .ro 0, fld 31 31 .w1c 0]⟩,
   ⟨"FLD_AUTH_FAIL", 0x010030, 0, 1, 0, 1, [fld 7 0 .ro 0, fld 15 8 .ro 0, fld 23 16 .ro 0, fld 31 24 .ro 0]⟩,
   ⟨"FLD_SQ_TAIL_n", 0x020000, 8, 1023, 0, 1, [fld 15 0 .wo 0]⟩,
   ⟨"FLD_CQ_HEAD_n", 0x020004, 8, 1023, 0, 1, [fld 15 0 .wo 0]⟩,
   ⟨"FLD_TICK_LO", 0x010100, 0, 1, 0, 1, [fld 31 0 .ro 0]⟩,
   ⟨"FLD_TICK_HI", 0x010104, 0, 1, 0, 1, [fld 31 0 .ro 0]⟩,
   ⟨"FLD_TICK_STAT", 0x010108, 0, 1, 0, 1, [fld 15 0 .rc 0, fld 23 16 .ro 0]⟩,
   ⟨"FLD_CORES", 0x01010C, 0, 1, 0, 1, [fld 7 0 .ro 0, fld 15 8 .ro 0, fld 23 16 .w1c 0]⟩,
   ⟨"FLD_BG_STAT", 0x010110, 0, 1, 0, 1, [fld 0 0 .ro 0, fld 1 1 .ro 0, fld 2 2 .ro 0, fld 3 3 .ro 0, fld 31 16 .rc 0]⟩,
   ⟨"FLD_BG_USE", 0x010114, 0, 1, 0, 1, [fld 7 0 .ro 0, fld 15 8 .ro 0]⟩,
   ⟨"FLD_TEL_STAT", 0x010118, 0, 1, 0, 1, [fld 15 0 .ro 0, fld 31 16 .rc 0]⟩,
   ⟨"FLD_OOB_STAT", 0x01011C, 0, 1, 0, 1, [fld 0 0 .ro 0, fld 19 8 .rc 0, fld 31 20 .rc 0]⟩]

/-- The SWD_ register families (03). -/
def regsSwd : List RegFam :=
  [⟨"SWD_STATUS", 0x080000, 0, 1, 0, 1, [fld 15 0 .ro 0, fld 31 16 .ro 0]⟩,
   ⟨"SWD_ERR", 0x080004, 0, 1, 0, 1, [fld 3 0 .ro 0, fld 7 4 .ro 0, fld 15 8 .ro 0, fld 31 31 .w1c 0]⟩,
   ⟨"SWD_IDX_INFO", 0x080008, 0, 1, 0, 1, [fld 4 0 .ro 0x1a, fld 15 8 .ro 0]⟩,
   ⟨"SWD_CNT_CHUNKS_LO", 0x080010, 0, 1, 0, 1, [fld 31 0 .ro 0]⟩,
   ⟨"SWD_CNT_CHUNKS_HI", 0x080014, 0, 1, 0, 1, [fld 31 0 .ro 0]⟩,
   ⟨"SWD_CNT_HITS_LO", 0x080018, 0, 1, 0, 1, [fld 31 0 .ro 0]⟩,
   ⟨"SWD_CNT_HITS_HI", 0x08001C, 0, 1, 0, 1, [fld 31 0 .ro 0]⟩,
   ⟨"SWD_CNT_LENERR", 0x080020, 0, 1, 0, 1, [fld 15 0 .rc 0, fld 31 16 .rc 0]⟩,
   ⟨"SWD_Ln_XQ_BASE_LO", 0x081000, 64, 16, 0, 1, [fld 31 12 .rw 0]⟩,
   ⟨"SWD_Ln_XQ_BASE_HI", 0x081004, 64, 16, 0, 1, [fld 31 0 .rw 0]⟩,
   ⟨"SWD_Ln_XQ_CTRL", 0x081008, 64, 16, 0, 1, [fld 0 0 .rw 0, fld 8 4 .rw 0, fld 16 12 .rw 0]⟩,
   ⟨"SWD_Ln_XQ_TAIL", 0x08100C, 64, 16, 0, 1, [fld 15 0 .wo 0]⟩,
   ⟨"SWD_Ln_XCQ_BASE_LO", 0x081010, 64, 16, 0, 1, [fld 31 12 .rw 0]⟩,
   ⟨"SWD_Ln_XCQ_BASE_HI", 0x081014, 64, 16, 0, 1, [fld 31 0 .rw 0]⟩,
   ⟨"SWD_Ln_XCQ_HEAD", 0x081018, 64, 16, 0, 1, [fld 15 0 .wo 0]⟩,
   ⟨"SWD_Ln_XSTATUS", 0x08101C, 64, 16, 0, 1, [fld 15 0 .ro 0, fld 17 16 .ro 0, fld 31 31 .ro 0]⟩]

/-- The GRS_ register families (04). -/
def regsGrs : List RegFam :=
  [⟨"GRS_STATUS", 0x0C0000, 0, 1, 0, 1, [fld 15 0 .ro 0, fld 31 16 .ro 0]⟩,
   ⟨"GRS_ERR", 0x0C0004, 0, 1, 0, 1, [fld 4 0 .ro 0, fld 11 8 .ro 0, fld 19 12 .ro 0, fld 31 31 .w1c 0]⟩,
   ⟨"GRS_CNT_IN_LO", 0x0C0010, 0, 1, 0, 1, [fld 31 0 .ro 0]⟩,
   ⟨"GRS_CNT_IN_HI", 0x0C0014, 0, 1, 0, 1, [fld 31 0 .ro 0]⟩,
   ⟨"GRS_CNT_OUT_LO", 0x0C0018, 0, 1, 0, 1, [fld 31 0 .ro 0]⟩,
   ⟨"GRS_CNT_OUT_HI", 0x0C001C, 0, 1, 0, 1, [fld 31 0 .ro 0]⟩,
   ⟨"GRS_CNT_EVENTS", 0x0C0020, 0, 1, 0, 1, [fld 15 0 .rc 0, fld 31 16 .rc 0]⟩,
   ⟨"GRS_XQ_BASE_LO", 0x0C1000, 64, 32, 0, 1, [fld 31 12 .rw 0]⟩,
   ⟨"GRS_XQ_BASE_HI", 0x0C1004, 64, 32, 0, 1, [fld 31 0 .rw 0]⟩,
   ⟨"GRS_XQ_CTRL", 0x0C1008, 64, 32, 0, 1, [fld 0 0 .rw 0, fld 8 4 .rw 0, fld 16 12 .rw 0]⟩,
   ⟨"GRS_XQ_TAIL", 0x0C100C, 64, 32, 0, 1, [fld 15 0 .wo 0]⟩,
   ⟨"GRS_XCQ_BASE_LO", 0x0C1010, 64, 32, 0, 1, [fld 31 12 .rw 0]⟩,
   ⟨"GRS_XCQ_BASE_HI", 0x0C1014, 64, 32, 0, 1, [fld 31 0 .rw 0]⟩,
   ⟨"GRS_XCQ_HEAD", 0x0C1018, 64, 32, 0, 1, [fld 15 0 .wo 0]⟩,
   ⟨"GRS_XSTATUS", 0x0C101C, 64, 32, 0, 1, [fld 15 0 .ro 0, fld 17 16 .ro 0, fld 30 30 .ro 0, fld 31 31 .ro 0]⟩]

/-- The BRK_ register families (05). -/
def regsBrk : List RegFam :=
  [⟨"BRK_STATUS", 0x0D0000, 0, 1, 0, 1, [fld 7 0 .ro 0, fld 15 8 .ro 0, fld 16 16 .ro 0, fld 17 17 .ro 0]⟩,
   ⟨"BRK_ERR", 0x0D0004, 0, 1, 0, 1, [fld 2 0 .ro 0, fld 11 8 .ro 0, fld 19 12 .ro 0, fld 31 31 .w1c 0]⟩,
   ⟨"BRK_SLOTS", 0x0D0008, 0, 1, 0, 1, [fld 16 0 .ro 0x400, fld 25 17 .ro 0x40]⟩,
   ⟨"BRK_SLOTS_FREE", 0x0D000C, 0, 1, 0, 1, [fld 16 0 .ro 0x400]⟩,
   ⟨"BRK_CNT_EVENTS", 0x0D0010, 0, 1, 0, 1, [fld 15 0 .rc 0, fld 31 16 .rc 0]⟩,
   ⟨"BRK_KEYIN_k", 0x0D0040, 4, 16, 0, 1, [fld 31 0 .wok 0]⟩,
   ⟨"BRK_KEYLOAD", 0x0D0080, 0, 1, 0, 1, [fld 15 0 .rw 0, fld 18 16 .rw 0, fld 31 31 .wo 0]⟩,
   ⟨"BRK_KEYSTAT", 0x0D0084, 0, 1, 0, 1, [fld 0 0 .ro 0, fld 3 1 .ro 0]⟩,
   ⟨"BRK_XQ_BASE_LO", 0x0D1000, 64, 8, 0, 1, [fld 31 12 .rw 0]⟩,
   ⟨"BRK_XQ_BASE_HI", 0x0D1004, 64, 8, 0, 1, [fld 31 0 .rw 0]⟩,
   ⟨"BRK_XQ_CTRL", 0x0D1008, 64, 8, 0, 1, [fld 0 0 .rw 0, fld 8 4 .rw 0, fld 16 12 .rw 0]⟩,
   ⟨"BRK_XQ_TAIL", 0x0D100C, 64, 8, 0, 1, [fld 15 0 .wo 0]⟩,
   ⟨"BRK_XCQ_BASE_LO", 0x0D1010, 64, 8, 0, 1, [fld 31 12 .rw 0]⟩,
   ⟨"BRK_XCQ_BASE_HI", 0x0D1014, 64, 8, 0, 1, [fld 31 0 .rw 0]⟩,
   ⟨"BRK_XCQ_HEAD", 0x0D1018, 64, 8, 0, 1, [fld 15 0 .wo 0]⟩,
   ⟨"BRK_XSTATUS", 0x0D101C, 64, 8, 0, 1, [fld 15 0 .ro 0, fld 17 16 .ro 0, fld 30 30 .ro 0, fld 31 31 .ro 0]⟩]

/-- The THS_ register families (06). -/
def regsThs : List RegFam :=
  [⟨"THS_STATUS", 0x0E0000, 0, 1, 0, 1, [fld 31 0 .ro 0]⟩,
   ⟨"THS_FREE", 0x0E0004, 0, 1, 0, 1, [fld 31 0 .ro 0]⟩,
   ⟨"THS_CLAIM", 0x0E0008, 0, 1, 0, 1, [fld 4 0 .rc 0, fld 31 16 .rc 0x40]⟩,
   ⟨"THS_ERR", 0x0E000C, 0, 1, 0, 1, [fld 4 0 .ro 0, fld 11 8 .ro 0, fld 19 12 .ro 0, fld 31 31 .w1c 0]⟩,
   ⟨"THS_CNT_EVENTS", 0x0E0010, 0, 1, 0, 1, [fld 15 0 .rc 0, fld 31 16 .rc 0]⟩,
   ⟨"THS_Cn_CTRL", 0x0E1000, 256, 32, 0, 1, [fld 1 0 .rw 0, fld 2 2 .wo 0, fld 3 3 .wo 0, fld 4 4 .wo 0, fld 5 5 .wo 0, fld 6 6 .wo 0, fld 7 7 .rw 0, fld 14 8 .rw 0x20]⟩,
   ⟨"THS_Cn_STAT", 0x0E1004, 256, 32, 0, 1, [fld 2 0 .ro 0, fld 3 3 .ro 0, fld 4 4 .ro 0, fld 11 8 .ro 0]⟩,
   ⟨"THS_Cn_SRC_LO", 0x0E1008, 256, 32, 0, 1, [fld 31 0 .rw 0]⟩,
   ⟨"THS_Cn_SRC_HI", 0x0E100C, 256, 32, 0, 1, [fld 31 0 .rw 0]⟩,
   ⟨"THS_Cn_LEN", 0x0E1010, 256, 32, 0, 1, [fld 31 0 .rw 0]⟩,
   ⟨"THS_Cn_SGCNT", 0x0E1014, 256, 32, 0, 1, [fld 15 0 .rw 0]⟩,
   ⟨"THS_Cn_COUNT_LO", 0x0E1018, 256, 32, 0, 1, [fld 31 0 .ro 0]⟩,
   ⟨"THS_Cn_COUNT_HI", 0x0E101C, 256, 32, 0, 1, [fld 31 0 .ro 0]⟩,
   ⟨"THS_Cn_DIGEST_k", 0x0E1040, 256, 32, 4, 16, [fld 31 0 .ro 0]⟩,
   ⟨"THS_Cn_EXPECT_k", 0x0E1080, 256, 32, 4, 16, [fld 31 0 .rw 0]⟩]

/-- The TSK_ register families (07, 08). -/
def regsTsk : List RegFam :=
  [⟨"TSK_STATUS", 0x100000, 0, 1, 0, 1, [fld 7 0 .ro 0, fld 15 8 .ro 0, fld 23 16 .ro 0]⟩,
   ⟨"TSK_ERR", 0x100004, 0, 1, 0, 1, [fld 2 0 .ro 0, fld 11 8 .ro 0, fld 19 12 .ro 0, fld 31 31 .w1c 0]⟩,
   ⟨"TSK_TREE", 0x100008, 0, 1, 0, 1, [fld 20 0 .ro 0]⟩,
   ⟨"TSK_CNT_FULL_LO", 0x100010, 0, 1, 0, 1, [fld 31 0 .ro 0]⟩,
   ⟨"TSK_CNT_FULL_HI", 0x100014, 0, 1, 0, 1, [fld 31 0 .ro 0]⟩,
   ⟨"TSK_CNT_RMW_LO", 0x100018, 0, 1, 0, 1, [fld 31 0 .ro 0]⟩,
   ⟨"TSK_CNT_RMW_HI", 0x10001C, 0, 1, 0, 1, [fld 31 0 .ro 0]⟩,
   ⟨"TSK_CNT_TAGERR", 0x100020, 0, 1, 0, 1, [fld 15 0 .rc 0, fld 31 16 .rc 0]⟩,
   ⟨"TSK_Dn_STAT", 0x100040, 4, 8, 0, 1, [fld 0 0 .ro 0, fld 1 1 .ro 0, fld 2 2 .ro 0, fld 15 8 .ro 0, fld 31 16 .ro 0]⟩,
   ⟨"TSK_XQ_BASE_LO", 0x101000, 64, 8, 0, 1, [fld 31 12 .rw 0]⟩,
   ⟨"TSK_XQ_BASE_HI", 0x101004, 64, 8, 0, 1, [fld 31 0 .rw 0]⟩,
   ⟨"TSK_XQ_CTRL", 0x101008, 64, 8, 0, 1, [fld 0 0 .rw 0, fld 8 4 .rw 0, fld 16 12 .rw 0]⟩,
   ⟨"TSK_XQ_TAIL", 0x10100C, 64, 8, 0, 1, [fld 15 0 .wo 0]⟩,
   ⟨"TSK_XCQ_BASE_LO", 0x101010, 64, 8, 0, 1, [fld 31 12 .rw 0]⟩,
   ⟨"TSK_XCQ_BASE_HI", 0x101014, 64, 8, 0, 1, [fld 31 0 .rw 0]⟩,
   ⟨"TSK_XCQ_HEAD", 0x101018, 64, 8, 0, 1, [fld 15 0 .wo 0]⟩,
   ⟨"TSK_XSTATUS", 0x10101C, 64, 8, 0, 1, [fld 15 0 .ro 0, fld 17 16 .ro 0, fld 30 30 .ro 0, fld 31 31 .ro 0]⟩,
   ⟨"TSK_CNT_LOST", 0x100024, 0, 1, 0, 1, [fld 15 0 .rc 0, fld 16 16 .ro 0]⟩,
   ⟨"TSK_BG", 0x100028, 0, 1, 0, 1, [fld 7 0 .ro 0, fld 15 8 .ro 0, fld 23 16 .ro 0]⟩,
   ⟨"TSK_Dn_JCOPY_A", 0x100080, 8, 8, 0, 1, [fld 19 0 .ro 0, fld 20 20 .ro 0, fld 21 21 .ro 0, fld 22 22 .ro 0]⟩] ++
  [⟨"TSK_Dn_JCOPY_B", 0x100084, 8, 8, 0, 1, [fld 19 0 .ro 0, fld 20 20 .ro 0, fld 21 21 .ro 0, fld 22 22 .ro 0]⟩]

/-- The FPT_ register families (09). -/
def regsFpt : List RegFam :=
  [⟨"FPT_CFG", 0x1D0000, 0, 1, 0, 1, [fld 1 0 .ro 0, fld 6 2 .ro 0x10]⟩,
   ⟨"FPT_ERR", 0x1D0004, 0, 1, 0, 1, [fld 3 0 .ro 0, fld 11 8 .ro 0, fld 19 12 .ro 0, fld 31 31 .w1c 0]⟩,
   ⟨"FPT_NS_COUNT", 0x1D0008, 0, 1, 0, 1, [fld 10 0 .ro 0, fld 16 16 .ro 0]⟩,
   ⟨"FPT_NS_SEL", 0x1D0010, 0, 1, 0, 1, [fld 9 0 .rw 0]⟩,
   ⟨"FPT_NS_STATE", 0x1D0014, 0, 1, 0, 1, [fld 0 0 .ro 0, fld 1 1 .ro 0, fld 2 2 .ro 0, fld 3 3 .ro 0, fld 7 4 .ro 0]⟩,
   ⟨"FPT_NS_LBAS_LO", 0x1D0018, 0, 1, 0, 1, [fld 31 0 .ro 0]⟩,
   ⟨"FPT_NS_LBAS_HI", 0x1D001C, 0, 1, 0, 1, [fld 31 0 .ro 0]⟩,
   ⟨"FPT_NS_NGUID_k", 0x1D0020, 4, 4, 0, 1, [fld 31 0 .ro 0]⟩,
   ⟨"FPT_LINK", 0x1D0100, 32, 16, 0, 1, [fld 1 0 .ro 0, fld 6 2 .ro 0, fld 7 7 .ro 0, fld 8 8 .ro 0, fld 9 9 .ro 0]⟩,
   ⟨"FPT_EVT", 0x1D0104, 32, 16, 0, 1, [fld 0 0 .w1c 0, fld 1 1 .w1c 0, fld 2 2 .w1c 0, fld 3 3 .w1c 0, fld 4 4 .w1c 0, fld 5 5 .w1c 0]⟩,
   ⟨"FPT_CNT", 0x1D0108, 32, 16, 0, 1, [fld 15 0 .rc 0, fld 31 16 .rc 0]⟩]

/-- The WDR_ register families (10). -/
def regsWdr : List RegFam :=
  [⟨"WDR_STATUS", 0x200000, 262144, 2, 0, 1, [fld 2 0 .ro 0, fld 3 3 .ro 0, fld 4 4 .ro 0, fld 5 5 .ro 0, fld 7 6 .ro 0, fld 14 8 .ro 0, fld 15 15 .ro 0, fld 19 16 .ro 0, fld 23 20 .ro 0]⟩,
   ⟨"WDR_ERR", 0x200004, 262144, 2, 0, 1, [fld 11 8 .ro 0, fld 19 12 .ro 0, fld 31 31 .w1c 0]⟩,
   ⟨"WDR_FILL", 0x200008, 262144, 2, 0, 1, [fld 21 0 .ro 0]⟩,
   ⟨"WDR_DSN", 0x20000C, 262144, 2, 0, 1, [fld 31 0 .ro 0]⟩,
   ⟨"WDR_POS", 0x200010, 262144, 2, 0, 1, [fld 6 0 .ro 0, fld 13 8 .ro 0, fld 31 16 .ro 0]⟩,
   ⟨"WDR_CNT_FRAMES_LO", 0x200018, 262144, 2, 0, 1, [fld 31 0 .ro 0]⟩,
   ⟨"WDR_CNT_FRAMES_HI", 0x20001C, 262144, 2, 0, 1, [fld 31 0 .ro 0]⟩,
   ⟨"WDR_CNT_RW", 0x200020, 262144, 2, 0, 1, [fld 15 0 .rc 0, fld 23 16 .rc 0, fld 31 24 .rc 0]⟩,
   ⟨"WDR_CNT_EVENTS", 0x200024, 262144, 2, 0, 1, [fld 15 0 .rc 0, fld 31 16 .rc 0]⟩,
   ⟨"WDR_CNT_READ", 0x200028, 262144, 2, 0, 1, [fld 15 0 .rc 0, fld 31 16 .rc 0]⟩,
   ⟨"WDR_XQ_BASE_LO", 0x201000, 262144, 2, 0, 1, [fld 31 12 .rw 0]⟩,
   ⟨"WDR_XQ_BASE_HI", 0x201004, 262144, 2, 0, 1, [fld 31 0 .rw 0]⟩,
   ⟨"WDR_XQ_CTRL", 0x201008, 262144, 2, 0, 1, [fld 0 0 .rw 0, fld 8 4 .rw 0, fld 16 12 .rw 0]⟩,
   ⟨"WDR_XQ_TAIL", 0x20100C, 262144, 2, 0, 1, [fld 15 0 .wo 0]⟩,
   ⟨"WDR_XCQ_BASE_LO", 0x201010, 262144, 2, 0, 1, [fld 31 12 .rw 0]⟩,
   ⟨"WDR_XCQ_BASE_HI", 0x201014, 262144, 2, 0, 1, [fld 31 0 .rw 0]⟩,
   ⟨"WDR_XCQ_HEAD", 0x201018, 262144, 2, 0, 1, [fld 15 0 .wo 0]⟩,
   ⟨"WDR_XSTATUS", 0x20101C, 262144, 2, 0, 1, [fld 15 0 .ro 0, fld 17 16 .ro 0, fld 30 30 .ro 0, fld 31 31 .ro 0]⟩]

/-- The GLN_ register families (11, 12). -/
def regsGln : List RegFam :=
  [⟨"GLN_STATUS", 0x280000, 262144, 2, 0, 1, [fld 2 0 .ro 0, fld 3 3 .ro 0, fld 4 4 .ro 0, fld 5 5 .ro 0, fld 14 8 .ro 0, fld 22 16 .ro 0]⟩,
   ⟨"GLN_ERR", 0x280004, 262144, 2, 0, 1, [fld 5 0 .ro 0, fld 11 8 .ro 0, fld 19 12 .ro 0, fld 31 31 .w1c 0]⟩,
   ⟨"GLN_CALSET", 0x280008, 262144, 2, 0, 1, [fld 7 0 .ro 0, fld 9 8 .ro 0, fld 11 10 .ro 0, fld 12 12 .ro 0]⟩,
   ⟨"GLN_COND", 0x28000C, 262144, 2, 0, 1, [fld 7 0 .ro 0, fld 9 8 .ro 0]⟩,
   ⟨"GLN_TARGET", 0x280010, 262144, 2, 0, 1, [fld 5 0 .rw 0x10, fld 11 6 .rw 0x10, fld 17 12 .rw 0x30, fld 23 18 .rw 0x30, fld 29 24 .rw 0]⟩,
   ⟨"GLN_LOOP", 0x280014, 262144, 2, 0, 1, [fld 3 0 .rw 0x3, fld 7 4 .rw 0x7, fld 11 8 .rw 0x6, fld 15 12 .rw 0xc, fld 23 16 .rw 0x40]⟩,
   ⟨"GLN_ADAPT", 0x280018, 262144, 2, 0, 1, [fld 3 0 .rw 0xc, fld 7 4 .rw 0xa, fld 11 8 .rw 0xa, fld 15 12 .rw 0xc, fld 17 16 .rw 0x2, fld 31 24 .rw 0x40]⟩,
   ⟨"GLN_SYNC", 0x28001C, 262144, 2, 0, 1, [fld 2 0 .rw 0x3, fld 6 4 .rw 0x2, fld 13 8 .rw 0x8]⟩,
   ⟨"GLN_REC", 0x280020, 262144, 2, 0, 1, [fld 0 0 .rw 0x1, fld 7 4 .rw 0xc, fld 11 8 .rw 0x4, fld 19 16 .rw 0x3]⟩,
   ⟨"GLN_WPC", 0x280024, 262144, 2, 0, 1, [fld 3 0 .rw 0x4]⟩,
   ⟨"GLN_CNT_FRAMES_LO", 0x280040, 262144, 2, 0, 1, [fld 31 0 .ro 0]⟩,
   ⟨"GLN_CNT_FRAMES_HI", 0x280044, 262144, 2, 0, 1, [fld 31 0 .ro 0]⟩,
   ⟨"GLN_CNT_SYNC", 0x280048, 262144, 2, 0, 1, [fld 15 0 .rc 0, fld 31 16 .rc 0]⟩,
   ⟨"GLN_CNT_REC", 0x28004C, 262144, 2, 0, 1, [fld 15 0 .rc 0, fld 31 16 .rc 0]⟩,
   ⟨"GLN_CNT_TIMING", 0x280050, 262144, 2, 0, 1, [fld 15 0 .rc 0, fld 31 16 .rc 0]⟩,
   ⟨"GLN_CNT_CAL", 0x280054, 262144, 2, 0, 1, [fld 7 0 .rc 0, fld 15 8 .rc 0, fld 31 16 .rc 0]⟩,
   ⟨"GLN_TRK_SEL", 0x280060, 262144, 2, 0, 1, [fld 5 0 .rw 0]⟩,
   ⟨"GLN_TRK_STAT", 0x280064, 262144, 2, 0, 1, [fld 0 0 .ro 0, fld 7 2 .ro 0, fld 9 8 .ro 0, fld 31 16 .ro 0]⟩,
   ⟨"GLN_TRK_EB", 0x280068, 262144, 2, 0, 1, [fld 6 0 .ro 0x20]⟩,
   ⟨"GLN_SRV_STATUS", 0x282000, 262144, 2, 0, 1, [fld 0 0 .ro 0, fld 4 1 .ro 0, fld 5 5 .ro 0, fld 6 6 .ro 0, fld 7 7 .ro 0, fld 14 8 .ro 0, fld 15 15 .ro 0, fld 16 16 .ro 0, fld 17 17 .ro 0, fld 18 18 .ro 0]⟩] ++
  [⟨"GLN_SRV_ERR", 0x282004, 262144, 2, 0, 1, [fld 11 8 .ro 0, fld 19 12 .ro 0, fld 31 31 .w1c 0]⟩,
   ⟨"GLN_SRV_PES", 0x282008, 262144, 2, 0, 1, [fld 15 0 .ro 0, fld 31 16 .ro 0]⟩,
   ⟨"GLN_SRV_LAD", 0x28200C, 262144, 2, 0, 1, [fld 23 0 .ro 0, fld 28 24 .ro 0]⟩,
   ⟨"GLN_SRV_LOOP", 0x282010, 262144, 2, 0, 1, [fld 7 0 .rw 0x40, fld 15 8 .rw 0x4, fld 23 16 .rw 0x80, fld 31 24 .rw 0]⟩,
   ⟨"GLN_SRV_GEOM", 0x282014, 262144, 2, 0, 1, [fld 15 0 .rw 0xbb8, fld 27 16 .rw 0x320]⟩,
   ⟨"GLN_SRV_WI", 0x282018, 262144, 2, 0, 1, [fld 11 0 .rw 0xc8, fld 15 12 .rw 0x8]⟩,
   ⟨"GLN_SRV_WG", 0x28201C, 262144, 2, 0, 1, [fld 0 0 .ro 0]⟩,
   ⟨"GLN_SRV_CNT", 0x282020, 262144, 2, 0, 1, [fld 15 0 .rc 0, fld 31 16 .rc 0]⟩]

/-- The DRV_ register families (13). -/
def regsDrv : List RegFam :=
  [⟨"DRV_STATUS", 0x180000, 0, 1, 0, 1, [fld 0 0 .ro 0, fld 1 1 .ro 0, fld 2 2 .ro 0, fld 3 3 .ro 0]⟩,
   ⟨"DRV_ERR", 0x180004, 0, 1, 0, 1, [fld 15 0 .ro 0, fld 19 16 .ro 0, fld 27 20 .ro 0, fld 31 31 .w1c 0]⟩,
   ⟨"DRV_CONNS", 0x180008, 0, 1, 0, 1, [fld 16 0 .ro 0, fld 29 17 .ro 0]⟩,
   ⟨"DRV_PARK", 0x18000C, 0, 1, 0, 1, [fld 15 0 .ro 0, fld 31 16 .ro 0]⟩,
   ⟨"DRV_CNT_NAK", 0x180010, 0, 1, 0, 1, [fld 15 0 .rc 0, fld 31 16 .rc 0]⟩,
   ⟨"DRV_CNT_RX", 0x180014, 0, 1, 0, 1, [fld 15 0 .rc 0, fld 31 16 .rc 0]⟩,
   ⟨"DRV_CNT_STATE", 0x180018, 0, 1, 0, 1, [fld 15 0 .rc 0, fld 31 16 .rc 0]⟩,
   ⟨"DRV_CNT_RETX", 0x18001C, 0, 1, 0, 1, [fld 15 0 .rc 0, fld 31 16 .rc 0]⟩,
   ⟨"DRV_HB", 0x180020, 0, 1, 0, 1, [fld 15 0 .ro 0xffff, fld 31 16 .ro 0xffff]⟩,
   ⟨"DRV_CNT_PATH", 0x180024, 0, 1, 0, 1, [fld 15 0 .rc 0, fld 31 16 .rc 0]⟩,
   ⟨"DRV_XQ_BASE_LO", 0x181000, 64, 64, 0, 1, [fld 31 12 .rw 0]⟩,
   ⟨"DRV_XQ_BASE_HI", 0x181004, 64, 64, 0, 1, [fld 31 0 .rw 0]⟩,
   ⟨"DRV_XQ_CTRL", 0x181008, 64, 64, 0, 1, [fld 0 0 .rw 0, fld 8 4 .rw 0, fld 16 12 .rw 0]⟩,
   ⟨"DRV_XQ_TAIL", 0x18100C, 64, 64, 0, 1, [fld 15 0 .wo 0]⟩,
   ⟨"DRV_XCQ_BASE_LO", 0x181010, 64, 64, 0, 1, [fld 31 12 .rw 0]⟩,
   ⟨"DRV_XCQ_BASE_HI", 0x181014, 64, 64, 0, 1, [fld 31 0 .rw 0]⟩,
   ⟨"DRV_XCQ_HEAD", 0x181018, 64, 64, 0, 1, [fld 15 0 .wo 0]⟩,
   ⟨"DRV_XSTATUS", 0x18101C, 64, 64, 0, 1, [fld 15 0 .ro 0, fld 16 16 .ro 0, fld 17 17 .ro 0, fld 30 30 .ro 0, fld 31 31 .ro 0]⟩,
   ⟨"DRV_XCOUNT", 0x181020, 64, 64, 0, 1, [fld 31 0 .rw 0]⟩]

/-- The NET_ register families (14). -/
def regsNet : List RegFam :=
  [⟨"NET_STATUS", 0x1C0000, 0, 1, 0, 1, [fld 0 0 .ro 0, fld 1 1 .ro 0, fld 2 2 .ro 0, fld 3 3 .ro 0, fld 15 8 .ro 0, fld 23 16 .ro 0, fld 25 24 .ro 0, fld 27 26 .ro 0]⟩,
   ⟨"NET_ERR", 0x1C0004, 0, 1, 0, 1, [fld 0 0 .ro 0, fld 3 1 .ro 0, fld 11 8 .ro 0, fld 19 12 .ro 0, fld 31 31 .w1c 0]⟩,
   ⟨"NET_HBT", 0x1C0008, 0, 1, 0, 1, [fld 15 0 .ro 0xffff, fld 16 16 .ro 0]⟩,
   ⟨"NET_LANE", 0x1C0100, 256, 2, 0, 1, [fld 7 0 .rw 0, fld 15 8 .rw 0, fld 16 16 .rw 0]⟩,
   ⟨"NET_CNT_FEC", 0x1C0104, 256, 2, 0, 1, [fld 15 0 .rc 0, fld 31 16 .rc 0]⟩,
   ⟨"NET_CNT_DROP", 0x1C0108, 256, 2, 0, 1, [fld 15 0 .rc 0, fld 31 16 .rc 0]⟩,
   ⟨"NET_CNT_LINK", 0x1C010C, 256, 2, 0, 1, [fld 15 0 .rc 0]⟩]

/-- The DHD_ register families (15). -/
def regsDhd : List RegFam :=
  [⟨"DHD_STATUS", 0x320000, 0, 1, 0, 1, [fld 0 0 .ro 0, fld 1 1 .ro 0, fld 2 2 .ro 0, fld 6 4 .ro 0, fld 10 8 .ro 0, fld 23 16 .ro 0, fld 31 24 .ro 0]⟩,
   ⟨"DHD_ERR", 0x320004, 0, 1, 0, 1, [fld 2 0 .ro 0, fld 11 8 .ro 0, fld 19 12 .ro 0, fld 31 31 .w1c 0]⟩,
   ⟨"DHD_HLK", 0x320008, 0, 1, 0, 1, [fld 7 0 .ro 0, fld 15 8 .ro 0]⟩,
   ⟨"DHD_LEASE", 0x32000C, 0, 1, 0, 1, [fld 7 0 .ro 0, fld 15 8 .ro 0, fld 23 16 .ro 0]⟩,
   ⟨"DHD_CNT", 0x320010, 0, 1, 0, 1, [fld 7 0 .rc 0, fld 15 8 .rc 0, fld 23 16 .rc 0, fld 31 24 .rc 0]⟩,
   ⟨"DHD_HOLDOFF", 0x320014, 0, 1, 0, 1, [fld 11 0 .ro 0]⟩,
   ⟨"DHD_Dn_STAT", 0x320040, 4, 8, 0, 1, [fld 2 0 .ro 0, fld 3 3 .ro 0, fld 4 4 .ro 0, fld 5 5 .ro 0, fld 6 6 .ro 0]⟩]

/-- The MEM_ register families (16). -/
def regsMem : List RegFam :=
  [⟨"MEM_STATUS", 0x140000, 0, 1, 0, 1, [fld 0 0 .ro 0, fld 1 1 .ro 0, fld 2 2 .ro 0, fld 3 3 .ro 0, fld 4 4 .ro 0, fld 15 8 .ro 0, fld 27 16 .ro 0]⟩,
   ⟨"MEM_ERR", 0x140004, 0, 1, 0, 1, [fld 4 0 .ro 0, fld 11 8 .ro 0, fld 19 12 .ro 0, fld 31 31 .w1c 0]⟩,
   ⟨"MEM_UE_ADDR_LO", 0x140008, 0, 1, 0, 1, [fld 31 3 .ro 0]⟩,
   ⟨"MEM_UE_ADDR_HI", 0x14000C, 0, 1, 0, 1, [fld 8 0 .ro 0]⟩,
   ⟨"MEM_SRAM_ECC", 0x140010, 0, 1, 0, 1, [fld 15 0 .rc 0, fld 31 16 .rc 0]⟩,
   ⟨"MEM_CH_STAT", 0x140100, 16, 16, 0, 1, [fld 7 0 .ro 0, fld 15 8 .ro 0, fld 17 16 .ro 0, fld 18 18 .ro 0]⟩,
   ⟨"MEM_CH_CE", 0x140104, 16, 16, 0, 1, [fld 15 0 .rc 0, fld 31 16 .rc 0]⟩,
   ⟨"MEM_CH_UE", 0x140108, 16, 16, 0, 1, [fld 15 0 .rc 0, fld 31 16 .rc 0]⟩]

/-- The HTH_ register families (16). -/
def regsHth : List RegFam :=
  [⟨"HTH_STATUS", 0x148000, 0, 1, 0, 1, [fld 0 0 .ro 0, fld 1 1 .ro 0x1, fld 2 2 .ro 0, fld 3 3 .ro 0, fld 4 4 .ro 0, fld 5 5 .ro 0, fld 6 6 .ro 0, fld 11 8 .ro 0]⟩,
   ⟨"HTH_WAYS", 0x148004, 0, 1, 0, 1, [fld 15 0 .ro 0, fld 31 16 .ro 0]⟩,
   ⟨"HTH_WAYS_USE", 0x148008, 0, 1, 0, 1, [fld 15 0 .ro 0, fld 31 16 .ro 0]⟩,
   ⟨"HTH_DIRTY", 0x14800C, 0, 1, 0, 1, [fld 20 0 .ro 0]⟩,
   ⟨"HTH_CNT_HIT_LO", 0x148010, 0, 1, 0, 1, [fld 31 0 .ro 0]⟩,
   ⟨"HTH_CNT_HIT_HI", 0x148014, 0, 1, 0, 1, [fld 31 0 .ro 0]⟩,
   ⟨"HTH_CNT_MISS_LO", 0x148018, 0, 1, 0, 1, [fld 31 0 .ro 0]⟩,
   ⟨"HTH_CNT_MISS_HI", 0x14801C, 0, 1, 0, 1, [fld 31 0 .ro 0]⟩,
   ⟨"HTH_CNT_EVENTS", 0x148020, 0, 1, 0, 1, [fld 15 0 .rc 0, fld 31 16 .rc 0]⟩]

/-- The HRW_ register families (17). -/
def regsHrw : List RegFam :=
  [⟨"HRW_STATUS", 0x040000, 0, 1, 0, 1, [fld 15 0 .ro 0, fld 31 16 .ro 0]⟩,
   ⟨"HRW_ERR", 0x040004, 0, 1, 0, 1, [fld 11 0 .ro 0, fld 15 12 .ro 0, fld 23 16 .ro 0, fld 31 31 .w1c 0]⟩,
   ⟨"HRW_CNT_EVENTS", 0x040008, 0, 1, 0, 1, [fld 15 0 .rc 0, fld 31 16 .rc 0]⟩,
   ⟨"HRW_CNT_MSG_LO", 0x040010, 0, 1, 0, 1, [fld 31 0 .ro 0]⟩,
   ⟨"HRW_CNT_MSG_HI", 0x040014, 0, 1, 0, 1, [fld 31 0 .ro 0]⟩,
   ⟨"HRW_SRC_SEL", 0x040020, 0, 1, 0, 1, [fld 11 0 .rw 0]⟩,
   ⟨"HRW_SRC_ROUTE", 0x040024, 0, 1, 0, 1, [fld 10 0 .rw 0, fld 16 11 .rw 0, fld 20 17 .rw 0, fld 21 21 .rw 0, fld 25 22 .rw 0, fld 26 26 .ro 0]⟩,
   ⟨"HRW_SRC_STAT", 0x040028, 0, 1, 0, 1, [fld 0 0 .ro 0, fld 1 1 .ro 0, fld 2 2 .ro 0, fld 3 3 .ro 0, fld 4 4 .ro 0]⟩,
   ⟨"HRW_PEND_SET_k", 0x041000, 4, 128, 0, 1, [fld 31 0 .w1s 0]⟩,
   ⟨"HRW_PEND_CLR_k", 0x041200, 4, 128, 0, 1, [fld 31 0 .w1c 0]⟩,
   ⟨"HRW_MASK_SET_k", 0x041400, 4, 128, 0, 1, [fld 31 0 .w1s 0xffffffff]⟩,
   ⟨"HRW_MASK_CLR_k", 0x041600, 4, 128, 0, 1, [fld 31 0 .w1c 0xffffffff]⟩,
   ⟨"HRW_Tn_CLAIM", 0x042000, 32, 16, 0, 1, [fld 12 0 .rc 0x1000]⟩,
   ⟨"HRW_Tn_COMPLETE", 0x042004, 32, 16, 0, 1, [fld 11 0 .wo 0]⟩,
   ⟨"HRW_Tn_CFG", 0x042008, 32, 16, 0, 1, [fld 3 0 .rw 0, fld 7 4 .rw 0, fld 15 8 .rw 0x10]⟩,
   ⟨"HRW_Tn_STAT", 0x04200C, 32, 16, 0, 1, [fld 0 0 .ro 0, fld 1 1 .ro 0, fld 13 2 .ro 0]⟩,
   ⟨"HRW_MOD_v", 0x050000, 4, 2048, 0, 1, [fld 15 0 .rw 0x1, fld 31 16 .rw 0x1]⟩]

/-- The CRP_ register families (18, 22). -/
def regsCrp : List RegFam :=
  [⟨"CRP_STATUS", 0x310000, 0, 1, 0, 1, [fld 1 0 .ro 0, fld 2 2 .ro 0, fld 3 3 .ro 0, fld 19 4 .ro 0]⟩,
   ⟨"CRP_RESET", 0x310004, 0, 1, 0, 1, [fld 0 0 .wo 0, fld 1 1 .wo 0, fld 15 8 .wo 0]⟩,
   ⟨"CRP_RST_CAUSE", 0x310008, 0, 1, 0, 1, [fld 0 0 .w1c 0x1, fld 1 1 .w1c 0, fld 2 2 .w1c 0, fld 3 3 .w1c 0, fld 4 4 .w1c 0, fld 5 5 .w1c 0, fld 6 6 .w1c 0, fld 7 7 .w1c 0, fld 8 8 .w1c 0, fld 19 16 .ro 0]⟩,
   ⟨"CRP_PSTATE", 0x31000C, 0, 1, 0, 1, [fld 1 0 .rw 0, fld 3 2 .ro 0, fld 4 4 .ro 0]⟩,
   ⟨"CRP_PSTATE_RES", 0x310010, 0, 1, 0, 1, [fld 15 0 .ro 0, fld 31 16 .ro 0]⟩,
   ⟨"CRP_CLK_STAT", 0x310014, 0, 1, 0, 1, [fld 9 0 .ro 0, fld 25 16 .w1c 0]⟩,
   ⟨"CRP_CLK_FREQ", 0x310018, 0, 1, 0, 1, [fld 3 0 .rw 0, fld 31 8 .ro 0]⟩,
   ⟨"CRP_CNT", 0x31001C, 0, 1, 0, 1, [fld 15 0 .ro 0, fld 31 16 .ro 0]⟩,
   ⟨"CRP_TEMP", 0x310040, 0, 1, 0, 1, [fld 15 0 .ro 0x8000, fld 19 16 .ro 0]⟩,
   ⟨"CRP_TEMP_FE", 0x310044, 0, 1, 0, 1, [fld 15 0 .ro 0x8000, fld 31 16 .ro 0x8000]⟩,
   ⟨"CRP_THERM", 0x310048, 0, 1, 0, 1, [fld 0 0 .ro 0, fld 1 1 .ro 0, fld 2 2 .w1c 0, fld 15 8 .ro 0x64, fld 23 16 .ro 0x73, fld 31 24 .rc 0]⟩,
   ⟨"CRP_IMON", 0x31004C, 0, 1, 0, 1, [fld 15 0 .ro 0, fld 31 16 .rc 0]⟩]

/-- The STL_ register families (18). -/
def regsStl : List RegFam :=
  [⟨"STL_STATUS", 0x318000, 0, 1, 0, 1, [fld 28 0 .ro 0]⟩,
   ⟨"STL_HOLD", 0x318004, 0, 1, 0, 1, [fld 28 0 .ro 0]⟩,
   ⟨"STL_SEL", 0x318008, 0, 1, 0, 1, [fld 4 0 .rw 0]⟩,
   ⟨"STL_XSTAT", 0x31800C, 0, 1, 0, 1, [fld 9 0 .ro 0, fld 10 10 .ro 0, fld 11 11 .ro 0, fld 31 16 .rc 0]⟩]

/-- The SKL_ register families (20). -/
def regsSkl : List RegFam :=
  [⟨"SKL_STATUS", 0x300000, 0, 1, 0, 1, [fld 13 0 .ro 0, fld 14 14 .ro 0, fld 15 15 .ro 0, fld 18 16 .ro 0, fld 26 19 .ro 0]⟩,
   ⟨"SKL_NEXT", 0x300004, 0, 1, 0, 1, [fld 31 0 .ro 0]⟩,
   ⟨"SKL_OLDEST", 0x300008, 0, 1, 0, 1, [fld 31 0 .ro 0]⟩,
   ⟨"SKL_LOST", 0x30000C, 0, 1, 0, 1, [fld 15 0 .ro 0, fld 23 16 .ro 0]⟩,
   ⟨"SKL_LW_k", 0x300010, 4, 4, 0, 1, [fld 15 0 .ro 0, fld 28 16 .ro 0, fld 31 29 .ro 0]⟩,
   ⟨"SKL_RSEL", 0x300020, 0, 1, 0, 1, [fld 31 0 .rw 0]⟩,
   ⟨"SKL_RSTAT", 0x300024, 0, 1, 0, 1, [fld 0 0 .ro 0, fld 1 1 .ro 0]⟩,
   ⟨"SKL_REC_k", 0x300040, 4, 8, 0, 1, [fld 31 0 .ro 0]⟩]

/-- The UPD_ register families (21). -/
def regsUpd : List RegFam :=
  [⟨"UPD_STATUS", 0x330000, 0, 1, 0, 1, [fld 0 0 .ro 0, fld 1 1 .ro 0, fld 2 2 .ro 0, fld 3 3 .ro 0, fld 4 4 .ro 0, fld 5 5 .ro 0, fld 15 8 .ro 0, fld 23 16 .ro 0]⟩,
   ⟨"UPD_SLOT", 0x330004, 0, 1, 0, 1, [fld 3 0 .ro 0, fld 7 4 .ro 0, fld 9 8 .ro 0, fld 26 16 .ro 0]⟩,
   ⟨"UPD_VER_LO", 0x330008, 0, 1, 0, 1, [fld 31 0 .ro 0]⟩,
   ⟨"UPD_VER_HI", 0x33000C, 0, 1, 0, 1, [fld 31 0 .ro 0]⟩,
   ⟨"UPD_ATT_Q", 0x330010, 0, 1, 0, 1, [fld 20 0 .ro 0]⟩,
   ⟨"UPD_ATT_BLK", 0x330014, 0, 1, 0, 1, [fld 10 0 .ro 0]⟩,
   ⟨"UPD_ERR", 0x330018, 0, 1, 0, 1, [fld 9 0 .ro 0, fld 15 12 .ro 0, fld 23 16 .ro 0, fld 31 31 .w1c 0]⟩,
   ⟨"UPD_BITMAP_k", 0x330040, 4, 32, 0, 1, [fld 31 0 .ro 0]⟩]

/-- The GLB_ register families (23). -/
def regsGlb : List RegFam :=
  [⟨"GLB_ID", 0x000000, 0, 1, 0, 1, [fld 31 0 .ro 0x8610]⟩,
   ⟨"GLB_STEP", 0x000004, 0, 1, 0, 1, [fld 3 0 .ro 0, fld 7 4 .ro 0x1]⟩,
   ⟨"GLB_CAPS", 0x000008, 0, 1, 0, 1, [fld 1 0 .ro 0, fld 13 8 .ro 0x3f, fld 20 16 .ro 0x10]⟩,
   ⟨"GLB_STRAP", 0x00000C, 0, 1, 0, 1, [fld 0 0 .ro 0]⟩,
   ⟨"GLB_UNIT_ID_k", 0x000010, 4, 4, 0, 1, [fld 31 0 .ro 0]⟩,
   ⟨"GLB_MAC_LO", 0x000020, 0, 1, 0, 1, [fld 31 0 .ro 0]⟩,
   ⟨"GLB_MAC_HI", 0x000024, 0, 1, 0, 1, [fld 15 0 .ro 0]⟩,
   ⟨"GLB_ACC_ERR", 0x000030, 0, 1, 0, 1, [fld 0 0 .ro 0, fld 21 2 .ro 0, fld 29 22 .ro 0, fld 31 31 .w1c 0]⟩]

/-- All register families of BAR0. -/
def regMap : List RegFam :=
  regsFld ++ regsSwd ++ regsGrs ++ regsBrk ++ regsThs ++ regsTsk ++ regsFpt ++ regsWdr ++ regsGln ++ regsDrv ++ regsNet ++ regsDhd ++ regsMem ++ regsHth ++ regsHrw ++ regsCrp ++ regsStl ++ regsSkl ++ regsUpd ++ regsGlb

/-- Whether a family has a register at an offset. -/
def RegFam.covers (r : RegFam) (off : Nat) : Bool :=
  if off < r.base then false
  else
    let d := off - r.base
    let i := if r.s1 = 0 then 0 else min (d / r.s1) (r.n1 - 1)
    let e := d - r.s1 * i
    let j := if r.s2 = 0 then 0 else min (e / r.s2) (r.n2 - 1)
    e == r.s2 * j

/-- First index of an offset in its family. -/
def RegFam.idx (r : RegFam) (off : Nat) : Nat :=
  if r.s1 = 0 then (if r.s2 = 0 then 0 else (off - r.base) / r.s2) else (off - r.base) / r.s1

/-- Second index of an offset in its family. -/
def RegFam.idx2 (r : RegFam) (off : Nat) : Nat :=
  if r.s2 = 0 then 0 else (off - r.base - r.s1 * (if r.s1 = 0 then 0 else (off - r.base) / r.s1)) / r.s2

/-- The family that defines an offset, if any (R10). -/
def regAt (off : Nat) : Option RegFam := regMap.find? fun r => r.covers off

/-- A register word with a value placed in each field. -/
def placeFields (fs : List RegField) (v : RegField → Nat) : Nat :=
  fs.foldl (fun a f => withField a f.hi f.lo (v f)) 0

/-- The reset value of the register at an offset, 0 where no map defines it (R10, R14). -/
def regReset (off : Nat) : W32 :=
  match regAt off with
  | none => 0
  | some r => BitVec.ofNat 32 (placeFields r.fields (·.rst))

end Sys2Proof.Machine
end

