-- ==== Sys2Proof/Machine/Mem.lean ====
section
/-! DEFINITION. Addressed byte stores of the part: the out-of-band exchange window (R487) and a transport's cartridge
memory image (R281). A store lists (address, byte) pairs with strictly rising addresses and no zero byte: a byte that
is not listed reads as zero. -/

namespace Sys2Proof.Machine

open Sys2Proof

/-- A byte store in its canonical form. -/
abbrev Mem := List Host.Cell

/-- What a byte that is not listed reads as (DESIGN CHOICE, log entry 6). -/
def Mem.blank : Byte := 0

/-- One byte of a store. -/
def Mem.get (m : Mem) (a : Nat) : Byte :=
  match m with
  | [] => Mem.blank
  | c :: m => if c.1 = a then c.2 else Mem.get m a

/-- Remove an address from a store. -/
def Mem.erase (m : Mem) (a : Nat) : Mem :=
  match m with
  | [] => []
  | c :: m => if c.1 = a then m else c :: Mem.erase m a

/-- List a byte at an address, in order. -/
def Mem.insert (m : Mem) (a : Nat) (b : Byte) : Mem :=
  match m with
  | [] => [(a, b)]
  | c :: m =>
    if a < c.1 then (a, b) :: c :: m
    else if a = c.1 then (a, b) :: m
    else c :: Mem.insert m a b

/-- Write one byte: the value an unlisted byte reads as removes the entry. -/
def Mem.set (m : Mem) (a : Nat) (b : Byte) : Mem :=
  if b = Mem.blank then Mem.erase m a else Mem.insert m a b

/-- Read `n` bytes from an address up. -/
def Mem.read (m : Mem) (a n : Nat) : Bytes := (List.range n).map fun i => Mem.get m (a + i)

/-- Write bytes from an address up. -/
def Mem.write (m : Mem) (a : Nat) : Bytes → Mem
  | [] => m
  | b :: bs => Mem.write (Mem.set m a b) (a + 1) bs

/-- The store that holds a string from address 0 and zero elsewhere. -/
def Mem.ofBytesAt (a : Nat) : Bytes → Mem
  | [] => []
  | b :: bs => if b = Mem.blank then Mem.ofBytesAt (a + 1) bs else (a, b) :: Mem.ofBytesAt (a + 1) bs

/-- The canonical form: addresses rise strictly and no entry is the blank value. -/
def Mem.wf : Mem → Bool
  | [] => true
  | [c] => decide (c.2 ≠ Mem.blank)
  | c :: d :: m => decide (c.1 < d.1) && decide (c.2 ≠ Mem.blank) && Mem.wf (d :: m)

end Sys2Proof.Machine
end

