-- ==== Sys2Proof/Machine/StData.lean ====
section
/-! DEFINITION. State of the data path: objects and the dedupe index (03), keys (05), digest contexts (06), groups and
their stripes (07), journals, rebuild and reshape (08), flash ports (09). -/

namespace Sys2Proof.Machine

open Sys2Proof

/-! ## Sward (03) -/

/-- A state of an index entry (R97). -/
inductive IdxSt where
  | prov
  | final
  | tomb
deriving DecidableEq, Repr

/-- An index entry (R96). `object` is KIND; `owner` is the command of the owning PUT while provisional; `since` the
tick at which it became a tombstone. -/
structure IdxEntry where
  key : Bytes
  object : Bool
  st : IdxSt
  count : Nat
  extent : Nat
  offset : Nat
  rlen : Nat
  owner : Nat
  since : Nat
deriving DecidableEq, Repr

/-- A bucket of five slots and a link (R95). -/
structure Bucket where
  next : Nat
  slots : List (Option IdxEntry)
deriving DecidableEq, Repr

/-- An empty bucket. -/
def Bucket.empty : Bucket := ⟨0, [none, none, none, none, none]⟩

/-- An entry of a recipe (R104). -/
structure RecEntry where
  fp : Bytes
  extent : Nat
  offset : Nat
  rlen : Nat
  tagBase : Nat
  blocks : Nat
  unindexed : Bool
  hit : Bool
  lastLen : Nat
deriving DecidableEq, Repr

/-- A committed object's record and recipe (R104). `dead` is the tick of its deletion or replacement, kept until
reclaimed (R110, R117). -/
structure ObjRec where
  dom : Nat
  tenant : Nat
  objId : Bytes
  mode : Nat
  length : Nat
  jseq : Nat
  tick : Nat
  extent : Nat
  entries : List RecEntry
  dead : Option Nat
deriving DecidableEq, Repr

/-- A chunk of a PUT that hit an entry of another PUT or a final entry, or that this PUT stores (R105): its place in
the recipe, its bytes, and the entry's owner it waits for (0 for a final entry). -/
structure PendRef where
  place : Nat
  fp : Bytes
  owner : Nat
deriving DecidableEq, Repr

/-- New blocks of a stripe that is not written whole, from a data-space block of a group on: of the open stripe, or for
the small-write path. -/
structure PartBlk where
  root : Nat
  block : Nat
  small : Bool
  bytes : Bytes
deriving DecidableEq, Repr

/-- A PUT in flight (R105 to R116). `segs` are its lanes with the bytes queued on each; `landing` the bytes of the
object received so far and `lastByte` the boundary at which the last came; `placed` whether its chunks have been through
the pass; `own` the fingerprints it inserted; `pend` its pending references; `stripes` the stripes it awaits and `parts`
its blocks outside them; `jseq` its journal sequence number, 0 until it has one. -/
structure PutRec where
  eid : Nat
  dom : Nat
  root : Nat
  tenant : Nat
  gen : Nat
  policy : Nat
  objId : Bytes
  mode : Nat
  flags : Nat
  replace : Bool
  length : Nat
  source : Nat
  conn : Nat
  token : Nat
  segs : List (Nat × Nat)
  landing : Bytes
  lastByte : Nat
  placed : Bool
  recipe : List RecEntry
  own : List Bytes
  pend : List PendRef
  hits : Nat
  stored : Nat
  stripes : List (Nat × Nat)
  parts : List PartBlk
  jseq : Nat
  rcpExt : Nat
deriving DecidableEq, Repr

/-- A tenant space: its salt, and the generations of the tenant table (R93, R158). -/
structure Tenant where
  salt : Bytes
  cur : Nat
  live : List Nat
deriving DecidableEq, Repr

/-- A policy (R119). -/
structure Policy where
  root : Nat
  mode : Nat
  flags : Nat
  tenant : Nat
deriving DecidableEq, Repr

/-- A TENANT_DESTROY or RETIRE under way: the commands and the objects being shipped that it waits for (link and
sequence number), and the generations it retires (R161). -/
structure Retire where
  eid : Nat
  tenant : Nat
  gens : List Nat
  waits : List Nat
  ships : List (Nat × Nat)
  destroy : Bool
deriving DecidableEq, Repr

/-! ## Bracken (05) -/

/-- Type of a key (R157). -/
inductive KeyTy where
  | xts128
  | xts256
  | gcm128
  | gcm256
deriving DecidableEq, Repr

/-- What a slot is bound to. -/
inductive KeyBind where
  | tenant (t gen : Nat)
  | conn (cid : Nat)
  | expert
deriving DecidableEq, Repr

/-- A key slot in use (R154, R155). -/
structure KeySlot where
  key : Bytes
  ty : KeyTy
  bind : KeyBind
deriving DecidableEq, Repr

/-! ## Thistle (06) -/

/-- States of a context (R172). -/
inductive CtxSt where
  | free
  | idle
  | open_
  | run
  | fault
deriving DecidableEq, Repr

/-- Code of a context state (R172). -/
def CtxSt.code : CtxSt → Nat
  | .free => 0
  | .idle => 1
  | .open_ => 2
  | .run => 3
  | .fault => 4

/-- A digest context: algorithm sampled at START, chaining value, bytes absorbed, the bytes of the digest registers,
compare flags, last cause, and the length and list entries (0 for no list) of the feed as GO started it. -/
structure Ctx where
  st : CtxSt
  alg : Alg
  h : List Nat
  count : Nat
  digest : Bytes
  eq : Bool
  ne : Bool
  cause : Nat
  len : Nat
  sg : Nat
deriving DecidableEq, Repr

/-- A context that is free and zeroed. -/
def Ctx.zero : Ctx := ⟨.free, .sha256, [], 0, [], false, false, 0, 0, 0⟩

/-! ## Tussock (07, 08) -/

/-- Group states (R190). -/
inductive GrpSt where
  | optimal
  | degraded
  | critical
  | failed
deriving DecidableEq, Repr

/-- Code of a group state (R188). -/
def GrpSt.code : GrpSt → Nat
  | .optimal => 0
  | .degraded => 1
  | .critical => 2
  | .failed => 3

/-- Leaf states (R188). -/
inductive LeafSt where
  | online
  | failed
  | missing
  | rebuilding
  | spare
deriving DecidableEq, Repr

/-- The RESHAPE field of a group (R236). `st`: 0 none, 1 data pass, 2 zero pass, 3 held; `heldIn` is the pass a held
reshape is in. -/
structure Reshape where
  st : Nat
  heldIn : Nat
  m : Nat
  k : Nat
  gen : Nat
  next : Nat
  stop : Nat
deriving DecidableEq, Repr

/-- No reshape. -/
def Reshape.none : Reshape := ⟨0, 0, 0, 0, 0, 0, 0⟩

/-- A group node with its member order; `lists` are the nodes of its member lists, `spares` the spare leaves attached
(R188, R214). -/
structure Group where
  parity : Bool
  m : Nat
  k : Nat
  suLog2 : Nat
  dom : Nat
  st : GrpSt
  free : Bool
  parent : Option Nat
  depth : Nat
  slot : Nat
  gen : Nat
  labelMib : Nat
  stripes : Nat
  dataBlocks : Nat
  serial : Nat
  members : List Nat
  lists : List Nat
  spares : List Nat
  reshape : Reshape
deriving DecidableEq, Repr

/-- A leaf node (R188, R227). -/
structure Leaf where
  st : LeafSt
  nsid : Nat
  parent : Nat
  slot : Nat
  fdom : Nat
  errs : Nat
  start : Nat
  count : Nat
  rbNext : Nat
  hold : Bool
  lost : Bool
deriving DecidableEq, Repr

/-- A node of tree memory (R188): group, member list of a group, leaf. Free nodes are not listed. -/
inductive Node where
  | group (g : Group)
  | list (g : Nat)
  | leaf (l : Leaf)
deriving DecidableEq, Repr

/-- A lost-list entry (R235). -/
structure LostEntry where
  group : Nat
  stripe : Nat
  rows : Nat
  units : Nat
  cause : Nat
  depth : Nat
deriving DecidableEq, Repr

/-- An extent in use: number, first data-space block, blocks, and how many records or recipes it holds (R196).
`onTape` is where commands from entry `moved` on read its records, and earlier ones the other place; `flash` whether its
flash copy is still held and `keep` whether it stays, `since` the boundary of its commit to tape, and `serial`, `dsn`, `off` its tape location
(R284 to R286). -/
structure Extent where
  num : Nat
  start : Nat
  blocks : Nat
  refs : Nat
  onTape : Bool
  moved : Nat
  flash : Bool
  keep : Bool
  since : Nat
  serial : Nat
  dsn : Nat
  off : Nat
deriving DecidableEq, Repr

/-- An extent on flash. -/
def Extent.make (num start blocks refs : Nat) : Extent := ⟨num, start, blocks, refs, false, 0, true, false, 0, 0, 0, 0⟩

/-- A stripe whose data is present or sealed and that awaits its member writes (R197, R198): its outermost group,
first data-space block, data, and from which byte on it is zero-filled. `acks` are the member writes outstanding once
issued. -/
structure StripeW where
  root : Nat
  block : Nat
  data : Bytes
  zeroFrom : Nat
  issued : Bool
  acks : List Nat
deriving DecidableEq, Repr

/-- A small write (R200): new blocks from a data-space block of a group on, and the journal record that carries them.
`stage`: 0 record not complete, 1 lock taken and member writes issued. -/
structure SmallW where
  id : Nat
  root : Nat
  block : Nat
  data : Bytes
  dom : Nat
  jseq : Nat
  stage : Nat
  acks : List Nat
deriving DecidableEq, Repr

/-- A run of data space being filled in order (R196, R198; log entry 17): the extent it belongs to (0 for recipes,
each of which takes an extent of its own), its byte range, the fill point, the bytes held since `spillLo`, whether
the open stripe has been sealed, and the tick at which it was opened. -/
structure OpenRun where
  ext : Nat
  stop : Nat
  fill : Nat
  spillLo : Nat
  spill : Bytes
  sealed_ : Bool
  openedAt : Nat
deriving DecidableEq, Repr

/-- What a tree holds beside its nodes: label epoch, the journal sequence number its labels reach, next extent number, extents and whether they have changed since
they were written, the open runs of records and of recipes, the lost list, and, of the slices whose labels were read when the tree was loaded, the
best epoch. -/
structure Tree where
  epoch : Nat
  labelSeq : Nat
  nextExt : Nat
  exts : List Extent
  extDirty : Bool
  recRun : Option OpenRun
  rcpRun : Option OpenRun
  lostList : List (Option LostEntry)
  seen : KMap Nat
deriving DecidableEq, Repr

/-- A tree as its group is created. -/
def Tree.fresh : Tree := ⟨0, 0, 16, [], false, none, none, [], []⟩

/-- A DOMAIN_MOVE under way (R215): `step` 2 draining, 3 sealing, 4 scanning, 5 writing labels. -/
structure DomMove where
  eid : Nat
  root : Nat
  src : Nat
  dst : Nat
  step : Nat
  waits : List Nat
deriving DecidableEq, Repr

/-- What follows a label write (R210). -/
inductive AfterLabel where
  /-- A command replies. -/
  | reply
  /-- GROUP_CREATE replies; a failed write drops the tree again (R211). -/
  | create
  /-- The next step of a DOMAIN_MOVE (R215). -/
  | move
  /-- Nothing waits. -/
  | upkeep
deriving DecidableEq, Repr

/-- A label write of a tree whose member writes are outstanding, the journal sequence number it reaches, and the command
that waits for it: first the images, then, with `blocks` set, the label blocks. -/
structure LabelW where
  root : Nat
  epoch : Nat
  seq : Nat
  blocks : Bool
  acks : List Nat
  failed : Bool
  eid : Nat
  after : AfterLabel
  result : Bytes
deriving DecidableEq, Repr

/-! ## Journal (R219 to R226) -/

/-- Types of journal records (R222). -/
inductive JTy where
  | commit
  | delete
  | reclaim
  | smallWrite
  | tree
  | indexMove
  | rebuild
  | step
  | lost
  | place
deriving DecidableEq, Repr

/-- State of a record: waiting for space or copies, issued, complete. Released records leave the list. -/
inductive JSt where
  | waiting
  | issued
  | complete
deriving DecidableEq, Repr

/-- Code of a record type (R222). -/
def JTy.code : JTy → Nat
  | .commit => 1
  | .delete => 2
  | .reclaim => 3
  | .smallWrite => 4
  | .tree => 5
  | .indexMove => 6
  | .rebuild => 7
  | .step => 8
  | .lost => 9
  | .place => 10

/-- A journal record (R222 to R224): the command that needs it (0 for none), its items, its blocks and the ring block
at which it starts, the member copies it was issued to and the acknowledgements it has, the tick and watermark it carries, and the
stripes that it still awaits: outermost group and first data-space block; `del` names the object a DELETE record is to
remove until it has (R109). -/
structure JRec where
  jseq : Nat
  ty : JTy
  eid : Nat
  items : List (Nat × Bytes)
  blocks : Nat
  pos : Nat
  st : JSt
  toA : Bool
  toB : Bool
  ackA : Bool
  ackB : Bool
  ackP : Bool
  since : Nat
  tick : Nat
  sdw : Nat
  need : List (Nat × Nat)
  del : Option (Nat × Bytes)
deriving DecidableEq, Repr

/-- A member copy of a domain's journal (R220, R225): its leaf, whether it takes records, whether it is being placed,
when it was lost, and the writes of its placement still outstanding. -/
structure JCopy where
  leaf : Option Nat
  valid : Bool
  placing : Bool
  lostAt : Nat
  acks : List Nat
deriving DecidableEq, Repr

/-- A copy on no leaf. -/
def JCopy.none : JCopy := ⟨Option.none, false, false, 0, []⟩

/-- The journal of a domain. `next` is the ring block the next record takes; `newB` the copy that is to replace copy B
under R221; `hdr` the header block written next; `imgSeq` the sequence number the metadata image reaches; `image` this
head's DDR copy of the journal of a domain the peer owns (R37, R358), and `peerTail` the tail the peer last gave for it
(R359). -/
structure Journal where
  epoch : Nat
  nextSeq : Nat
  next : Nat
  recs : List JRec
  a : JCopy
  b : JCopy
  newB : JCopy
  samefd : Bool
  sealing : Bool
  hdr : Nat
  imgSeq : Nat
  image : Mem
  peerTail : Nat
deriving DecidableEq, Repr

/-- An empty journal with no copies. -/
def Journal.empty : Journal := ⟨0, 1, 2, [], JCopy.none, JCopy.none, JCopy.none, false, false, 0, 0, [], 0⟩

/-- The data path. Tables that stand for NOR content: `tenants`, `hwk`. `dirty` lists the index
buckets changed since the metadata image was written (R482), by domain and number. -/
structure Data where
  index : KMap (KMap Bucket)
  objects : List ObjRec
  puts : List PutRec
  tenants : KMap Tenant
  policies : KMap Policy
  nextPolicy : Nat
  retires : List Retire
  dirty : List (Nat × Nat)
  slots : KMap KeySlot
  keyin : List W32
  hwk : Option Bytes
  sealKey : Bytes
  ctxs : KMap Ctx
  nodes : KMap Node
  trees : KMap Tree
  serial : Nat
  stripesW : List StripeW
  smalls : List SmallW
  nextSmall : Nat
  moves : List DomMove
  labels : List LabelW
  journals : KMap Journal
  passes : List Nat
deriving DecidableEq, Repr

/-- Nothing stored, no key loaded. -/
def Data.reset : Data where
  index := []
  objects := []
  puts := []
  tenants := []
  policies := []
  nextPolicy := 1
  retires := []
  dirty := []
  slots := []
  keyin := List.replicate 16 0
  hwk := none
  sealKey := []
  ctxs := []
  nodes := []
  trees := []
  serial := 1
  stripesW := []
  smalls := []
  nextSmall := 1
  moves := []
  labels := []
  journals := []
  passes := []

end Sys2Proof.Machine
end

