-- ==== Sys2Proof/Machine/StEvents.lean ====
section
/-! DEFINITION. State of Hedgerow (17) and Skylark (20). -/

namespace Sys2Proof.Machine

open Sys2Proof

/-- The route of a source, as HRW_SRC_ROUTE holds it. -/
structure Route where
  vector : Nat
  fn : Nat
  target : Nat
  msix : Bool
  prio : Nat
deriving DecidableEq, Repr

/-- A source's bits and route (R425, R437). `inService` is the target a claim put it in service at; `oldTarget` is the
target it was presented to before a retarget; `fallen` is the target and priority of an event that left its route, for
a fall-back target (R438) or because its route could not be read (R442); `asleepAt` is the boundary since which it has
waited for a sleeping target. -/
structure Src where
  pend : Bool
  mask : Bool
  level : Bool
  inService : Option Nat
  route : Route
  oldTarget : Option Nat
  fallen : Option (Nat × Nat)
  asleepAt : Option Nat
deriving DecidableEq, Repr

/-- A source at reset: masked, route zero (R425 and the maps). -/
def Src.reset : Src := ⟨false, true, false, none, ⟨0, 0, 0, false, 0⟩, none, none, none⟩

/-- An open batch (R433): the source of each edge counted, oldest first, and the COUNT and TIME in force when it
opened. -/
structure EdgeBatch where
  edges : List Nat
  count : Nat
  time : Nat
deriving DecidableEq, Repr

/-- A vector of a function: its moderation, open batch, PBA bit, mask bit and table entry (R430, R433). -/
structure Vec where
  count : Nat
  time : Nat
  batch : Option EdgeBatch
  pba : Bool
  mask : Bool
  addr : Nat
  data : Nat
deriving DecidableEq, Repr

/-- A vector at reset: COUNT 1, TIME 1 (the map); mask bit set and entry zero as PCI Express resets them. -/
def Vec.reset : Vec := ⟨1, 1, none, false, true, 0, 0⟩

/-- A function's power and interrupt state as PCI Express gives it (R430, R436, R438). -/
structure Fn where
  d3 : Bool
  msixEn : Bool
  fnMask : Bool
  bme : Bool
  pmeEn : Bool
  pmeStatus : Bool
  vfOn : Bool
deriving DecidableEq, Repr

/-- A function at reset. -/
def Fn.reset : Fn := ⟨false, false, false, false, false, false, false⟩

/-- An internal target (R426): a management core may be asleep. -/
structure Tgt where
  asleep : Bool
  wakeReq : Bool
  wakeSince : Nat
deriving DecidableEq, Repr

/-- A target at reset. -/
def Tgt.reset : Tgt := ⟨false, false, 0⟩

/-- Hedgerow. Vectors are keyed by function * 2048 + vector. -/
structure Hrw where
  srcs : KMap Src
  vecs : KMap Vec
  fns : KMap Fn
  tgts : KMap Tgt
  msgs : Nat
deriving DecidableEq, Repr

/-- Hedgerow at reset. -/
def Hrw.reset : Hrw := ⟨[], [], [], [], 0⟩

/-- An event on its way into Skylark (R492). -/
structure SklEv where
  block : Nat
  inst : Nat
  cause : Nat
  fold : Bool
  sev : Nat
  status : Nat
  detail : Nat
  source : Nat
  arg : Nat
deriving DecidableEq, Repr

/-- A record (R492). -/
structure SklRec where
  seq : Nat
  tick : Nat
  ev : SklEv
  preTick : Bool
  repeat_ : Nat
deriving DecidableEq, Repr

/-- A last word (R498). -/
structure LastWord where
  kind : Nat
  data : Nat
  tick : Nat
deriving DecidableEq, Repr

/-- Skylark. `lastAt` is the boundary count of the newest record's last occurrence; `bad` the SEQs whose record reads
uncorrectable; `reads` the SKL_READs running. -/
structure Skl where
  recs : List SklRec
  next : Nat
  oldest : Nat
  lost : Nat
  firstBlock : Nat
  full : Bool
  memFail : Bool
  lw : List LastWord
  lwLost : Nat
  queue : List SklEv
  lastAt : Nat
  tickLoaded : Bool
deriving DecidableEq, Repr

/-- Skylark at AON power-up: nothing held. -/
def Skl.reset : Skl := ⟨[], 0, 0, 0, 0, false, false, [], 0, [], 0, false⟩

end Sys2Proof.Machine
end

