-- ==== Sys2Proof/Machine/Params.lean ====
section
/-! DEFINITION. The Fold parameters: their names, ranges, defaults and attributes (02, R80 to R83, and the chapters
each row names). A parameter is known here by its place in this table; its 16-bit ID is a free value
(`Config.paramId`), since the manual lists no IDs. -/

namespace Sys2Proof.Machine

open Sys2Proof

/-- A Fold parameter: name, range, default, when it takes effect (R81 [1:0]), whether it may be persisted, the role
that sets it (R81 [4:3]), and whether it is tape-related, so that it exists only on the -T2 (R3). -/
structure ParInfo where
  name : String
  lo : Nat
  hi : Nat
  dflt : Nat
  eff : Nat
  persist : Bool
  role : Nat
  tape : Bool
deriving DecidableEq, Repr

/-- The attribute word (R81). -/
def ParInfo.attr (p : ParInfo) : Nat := p.eff + 4 * b2n p.persist + 8 * p.role

/-- The parameters in the order of their places. -/
def parTable : List ParInfo :=
  [ ⟨"FLD_ring_burst", 1, 64, 8, 0, true, 0, false⟩ /- R48 -/
  , ⟨"FLD_session_idle_s", 10, 86400, 600, 0, true, 0, false⟩ /- R72 -/
  , ⟨"DRV_wrr_client", 1, 15, 3, 0, true, 0, false⟩ /- R27 -/
  , ⟨"DRV_wrr_repl", 1, 15, 1, 0, true, 0, false⟩ /- R27 -/
  , ⟨"SWD_share_ingest", 10, 90, 50, 0, true, 0, false⟩ /- R39 -/
  , ⟨"SWD_split_bytes", 1048576, 67108864, 8388608, 1, true, 0, false⟩ /- R86 -/
  , ⟨"SWD_idx_buckets_log2", 16, 28, 26, 2, true, 0, false⟩ /- R94 -/
  , ⟨"SWD_put_idle_ms", 1, 60000, 1000, 0, true, 0, false⟩ /- R115 -/
  , ⟨"HTH_stripe_ways", 2, 8, 4, 0, true, 0, false⟩ /- R38 -/
  , ⟨"BRK_slot_cfg", 0, 1, 0, 2, true, 2, false⟩ /- R151 -/
  , ⟨"BRK_expert_slots", 0, 256, 64, 2, true, 0, false⟩ /- R154 -/
  , ⟨"TSK_seal_ms", 10, 60000, 1000, 0, true, 0, false⟩ /- R198 -/
  , ⟨"TSK_seal_jfill_pct", 50, 95, 75, 0, true, 0, false⟩ /- R198 -/
  , ⟨"TSK_jwait_ms", 100, 60000, 5000, 0, true, 0, false⟩ /- R224 -/
  , ⟨"TSK_auto_spare", 0, 1, 1, 0, true, 0, false⟩ /- R228 -/
  , ⟨"TSK_rebuild_mbs", 100, 20000, 2000, 0, true, 0, false⟩ /- R231 -/
  , ⟨"TSK_reshape_mbs", 100, 20000, 2000, 0, true, 0, false⟩ /- R239 -/
  , ⟨"FPT_bifurcation", 0, 2, 0, 2, true, 2, false⟩ /- R242 -/
  , ⟨"FPT_max_gts", 16, 64, 64, 2, true, 0, false⟩ /- R243 -/
  , ⟨"FPT_cmd_timeout_ms", 1000, 60000, 8000, 0, true, 0, false⟩ /- R250 -/ ] ++
  [ ⟨"FPT_insert_settle_ms", 100, 10000, 1000, 0, true, 0, false⟩ /- R252 -/
  , ⟨"WDR_rww_margin", 0, 255, 48, 0, true, 0, true⟩ /- R265 -/
  , ⟨"WDR_start_pct", 10, 90, 50, 0, true, 0, true⟩ /- R273 -/
  , ⟨"GLN_recal_force_s", 0, 3600, 1800, 0, true, 0, true⟩ /- R314 -/
  , ⟨"DRV_udp_port", 1024, 65535, 7208, 2, true, 0, false⟩ /- R365 -/
  , ⟨"DRV_ipv4_en", 0, 1, 0, 2, true, 0, false⟩ /- R365 -/
  , ⟨"DRV_rto_us", 10, 10000, 100, 0, true, 0, false⟩ /- R365 -/
  , ⟨"DRV_retry_max", 1, 15, 7, 0, true, 0, false⟩ /- R365 -/
  , ⟨"DRV_hb_timeout_us", 25, 45, 35, 0, true, 0, false⟩ /- R365 -/
  , ⟨"DRV_chain_tmo_ms", 1, 60000, 1000, 0, true, 0, false⟩ /- R365 -/
  , ⟨"DRV_repl_backlog", 65536, 16777216, 1048576, 2, true, 0, false⟩ /- R365 -/
  , ⟨"NET_mode_a", 0, 2, 0, 2, true, 2, false⟩ /- R367 -/
  , ⟨"NET_mode_b", 0, 2, 0, 2, true, 2, false⟩ /- R367 -/
  , ⟨"NET_media_a", 0, 2, 2, 2, true, 2, false⟩ /- R367 -/
  , ⟨"NET_media_b", 0, 2, 2, 2, true, 2, false⟩ /- R367 -/
  , ⟨"NET_vlan_a", 0, 4094, 0, 0, true, 0, false⟩ /- R368 -/
  , ⟨"NET_vlan_b", 0, 4094, 0, 0, true, 0, false⟩ /- R368 -/
  , ⟨"NET_mtu", 8296, 9216, 9000, 2, true, 0, false⟩ /- R369 -/
  , ⟨"NET_up_settle_ms", 1, 10000, 100, 0, true, 0, false⟩ /- R371 -/
  , ⟨"NET_fec_degrade", 1, 65535, 16, 0, true, 0, false⟩ /- R371 -/ ] ++
  [ ⟨"DHD_mode", 0, 1, 0, 2, true, 2, false⟩ /- R379 -/
  , ⟨"DHD_home", 0, 255, 15, 2, true, 0, false⟩ /- R380 -/
  , ⟨"DHD_wdt_ms", 2, 1000, 10, 0, true, 0, false⟩ /- R382 -/
  , ⟨"DHD_confirm_ticks", 1, 300, 3, 0, true, 0, false⟩ /- R388 -/
  , ⟨"DHD_fence_ms", 0, 1000, 20, 0, true, 0, false⟩ /- R388 -/
  , ⟨"DHD_failback_s", 1, 3600, 30, 0, true, 0, false⟩ /- R391 -/
  , ⟨"MEM_landing_gib", 1, 64, 8, 2, true, 0, false⟩ /- R409 -/
  , ⟨"MEM_read_gib", 1, 64, 8, 2, true, 0, false⟩ /- R409 -/
  , ⟨"MEM_spill_gib", 1, 32, 4, 2, true, 0, false⟩ /- R409 -/
  , ⟨"HRW_pf_vectors", 1, 2048, 512, 2, true, 0, false⟩ /- R430 -/
  , ⟨"HRW_vf_vectors", 1, 32, 16, 2, true, 0, false⟩ /- R430 -/
  , ⟨"HRW_wake_ms", 0, 60000, 1000, 0, true, 0, false⟩ /- R438 -/
  , ⟨"HRW_fn_fallback", 0, 15, 0, 0, true, 0, false⟩ /- R438 -/
  , ⟨"CRP_p1_en", 0, 1, 1, 0, true, 0, false⟩ /- R462 -/
  , ⟨"CRP_p1_idle_us", 10, 10000, 100, 0, true, 0, false⟩ /- R462 -/
  , ⟨"CRP_alarm_c", 70, 104, 100, 0, true, 0, false⟩ /- R547 -/
  , ⟨"FLD_bg_ddr_pct", 1, 25, 8, 1, true, 0, false⟩ /- R475 -/
  , ⟨"FLD_bg_drive_pct", 1, 25, 5, 1, true, 0, false⟩ /- R475 -/
  , ⟨"FLD_bg_idle_pct", 0, 50, 25, 1, true, 0, false⟩ /- R475 -/
  , ⟨"FLD_patrol_h", 1, 168, 24, 0, true, 0, false⟩ /- R478 -/ ] ++
  [ ⟨"FLD_verify_days", 1, 365, 30, 0, true, 0, false⟩ /- R479 -/
  , ⟨"FLD_tape_idle_s", 10, 86400, 600, 0, true, 0, true⟩ /- R480 -/
  , ⟨"FLD_tape_pass_warn", 1000, 1000000, 20000, 0, true, 0, true⟩ /- R308 -/
  , ⟨"FLD_smart_s", 60, 86400, 3600, 0, true, 0, false⟩ /- R481 -/
  , ⟨"FLD_wear_warn_pct", 50, 254, 90, 0, true, 0, false⟩ /- R481 -/
  , ⟨"FLD_oob_udp_port", 1024, 65535, 7209, 0, true, 0, false⟩ /- R485 -/
  , ⟨"FLD_oob_ip4", 0, 4294967295, 0, 2, true, 0, false⟩ /- R485 -/
  , ⟨"FLD_oob_ip6_0", 0, 4294967295, 0, 2, true, 0, false⟩ /- R485 -/
  , ⟨"FLD_oob_ip6_1", 0, 4294967295, 0, 2, true, 0, false⟩ /- R485 -/
  , ⟨"FLD_oob_ip6_2", 0, 4294967295, 0, 2, true, 0, false⟩ /- R485 -/
  , ⟨"FLD_oob_ip6_3", 0, 4294967295, 0, 2, true, 0, false⟩ /- R485 -/
  , ⟨"SKL_merge_ticks", 0, 3000, 3, 1, true, 0, false⟩ /- R495 -/
  , ⟨"UPD_att_por_skip", 0, 1, 1, 2, true, 2, false⟩ /- R524 -/
  , ⟨"NET_a_ip6_0", 0, 4294967295, 0, 2, true, 0, false⟩ /- R370 -/
  , ⟨"NET_a_ip6_1", 0, 4294967295, 0, 2, true, 0, false⟩ /- R370 -/
  , ⟨"NET_a_ip6_2", 0, 4294967295, 0, 2, true, 0, false⟩ /- R370 -/
  , ⟨"NET_a_ip6_3", 0, 4294967295, 0, 2, true, 0, false⟩ /- R370 -/
  , ⟨"NET_a_ip4", 0, 4294967295, 0, 2, true, 0, false⟩ /- R370 -/
  , ⟨"NET_a_gw6_0", 0, 4294967295, 0, 2, true, 0, false⟩ /- R370 -/
  , ⟨"NET_a_gw6_1", 0, 4294967295, 0, 2, true, 0, false⟩ /- R370 -/ ] ++
  [ ⟨"NET_a_gw6_2", 0, 4294967295, 0, 2, true, 0, false⟩ /- R370 -/
  , ⟨"NET_a_gw6_3", 0, 4294967295, 0, 2, true, 0, false⟩ /- R370 -/
  , ⟨"NET_a_gw4", 0, 4294967295, 0, 2, true, 0, false⟩ /- R370 -/
  , ⟨"NET_b_ip6_0", 0, 4294967295, 0, 2, true, 0, false⟩ /- R370 -/
  , ⟨"NET_b_ip6_1", 0, 4294967295, 0, 2, true, 0, false⟩ /- R370 -/
  , ⟨"NET_b_ip6_2", 0, 4294967295, 0, 2, true, 0, false⟩ /- R370 -/
  , ⟨"NET_b_ip6_3", 0, 4294967295, 0, 2, true, 0, false⟩ /- R370 -/
  , ⟨"NET_b_ip4", 0, 4294967295, 0, 2, true, 0, false⟩ /- R370 -/
  , ⟨"NET_b_gw6_0", 0, 4294967295, 0, 2, true, 0, false⟩ /- R370 -/
  , ⟨"NET_b_gw6_1", 0, 4294967295, 0, 2, true, 0, false⟩ /- R370 -/
  , ⟨"NET_b_gw6_2", 0, 4294967295, 0, 2, true, 0, false⟩ /- R370 -/
  , ⟨"NET_b_gw6_3", 0, 4294967295, 0, 2, true, 0, false⟩ /- R370 -/
  , ⟨"NET_b_gw4", 0, 4294967295, 0, 2, true, 0, false⟩ /- R370 -/ ]

/-! ## Places of the parameters -/

/-- FLD_ring_burst -/
abbrev Par.ringBurst : Nat := 0
/-- FLD_session_idle_s -/
abbrev Par.sessionIdleS : Nat := 1
/-- DRV_wrr_client -/
abbrev Par.wrrClient : Nat := 2
/-- DRV_wrr_repl -/
abbrev Par.wrrRepl : Nat := 3
/-- SWD_share_ingest -/
abbrev Par.shareIngest : Nat := 4
/-- SWD_split_bytes -/
abbrev Par.splitBytes : Nat := 5
/-- SWD_idx_buckets_log2 -/
abbrev Par.idxBucketsLog2 : Nat := 6
/-- SWD_put_idle_ms -/
abbrev Par.putIdleMs : Nat := 7
/-- HTH_stripe_ways -/
abbrev Par.stripeWays : Nat := 8
/-- BRK_slot_cfg -/
abbrev Par.slotCfg : Nat := 9
/-- BRK_expert_slots -/
abbrev Par.expertSlots : Nat := 10
/-- TSK_seal_ms -/
abbrev Par.sealMs : Nat := 11
/-- TSK_seal_jfill_pct -/
abbrev Par.sealJfillPct : Nat := 12
/-- TSK_jwait_ms -/
abbrev Par.jwaitMs : Nat := 13
/-- TSK_auto_spare -/
abbrev Par.autoSpare : Nat := 14
/-- TSK_rebuild_mbs -/
abbrev Par.rebuildMbs : Nat := 15
/-- TSK_reshape_mbs -/
abbrev Par.reshapeMbs : Nat := 16
/-- FPT_bifurcation -/
abbrev Par.bifurcation : Nat := 17
/-- FPT_max_gts -/
abbrev Par.maxGts : Nat := 18
/-- FPT_cmd_timeout_ms -/
abbrev Par.cmdTimeoutMs : Nat := 19
/-- FPT_insert_settle_ms -/
abbrev Par.insertSettleMs : Nat := 20
/-- WDR_rww_margin -/
abbrev Par.rwwMargin : Nat := 21
/-- WDR_start_pct -/
abbrev Par.startPct : Nat := 22
/-- GLN_recal_force_s -/
abbrev Par.recalForceS : Nat := 23
/-- DRV_udp_port -/
abbrev Par.udpPort : Nat := 24
/-- DRV_ipv4_en -/
abbrev Par.ipv4En : Nat := 25
/-- DRV_rto_us -/
abbrev Par.rtoUs : Nat := 26
/-- DRV_retry_max -/
abbrev Par.retryMax : Nat := 27
/-- DRV_hb_timeout_us -/
abbrev Par.hbTimeoutUs : Nat := 28
/-- DRV_chain_tmo_ms -/
abbrev Par.chainTmoMs : Nat := 29
/-- DRV_repl_backlog -/
abbrev Par.replBacklog : Nat := 30
/-- NET_mode_a -/
abbrev Par.netModeA : Nat := 31
/-- NET_mode_b -/
abbrev Par.netModeB : Nat := 32
/-- NET_media_a -/
abbrev Par.netMediaA : Nat := 33
/-- NET_media_b -/
abbrev Par.netMediaB : Nat := 34
/-- NET_vlan_a -/
abbrev Par.vlanA : Nat := 35
/-- NET_vlan_b -/
abbrev Par.vlanB : Nat := 36
/-- NET_mtu -/
abbrev Par.mtu : Nat := 37
/-- NET_up_settle_ms -/
abbrev Par.netUpSettleMs : Nat := 38
/-- NET_fec_degrade -/
abbrev Par.fecDegrade : Nat := 39
/-- DHD_mode -/
abbrev Par.dhdMode : Nat := 40
/-- DHD_home -/
abbrev Par.dhdHome : Nat := 41
/-- DHD_wdt_ms -/
abbrev Par.wdtMs : Nat := 42
/-- DHD_confirm_ticks -/
abbrev Par.confirmTicks : Nat := 43
/-- DHD_fence_ms -/
abbrev Par.fenceMs : Nat := 44
/-- DHD_failback_s -/
abbrev Par.failbackS : Nat := 45
/-- MEM_landing_gib -/
abbrev Par.landingGib : Nat := 46
/-- MEM_read_gib -/
abbrev Par.readGib : Nat := 47
/-- MEM_spill_gib -/
abbrev Par.spillGib : Nat := 48
/-- HRW_pf_vectors -/
abbrev Par.pfVectors : Nat := 49
/-- HRW_vf_vectors -/
abbrev Par.vfVectors : Nat := 50
/-- HRW_wake_ms -/
abbrev Par.wakeMs : Nat := 51
/-- HRW_fn_fallback -/
abbrev Par.fnFallback : Nat := 52
/-- CRP_p1_en -/
abbrev Par.p1En : Nat := 53
/-- CRP_p1_idle_us -/
abbrev Par.p1IdleUs : Nat := 54
/-- CRP_alarm_c -/
abbrev Par.alarmC : Nat := 55
/-- FLD_bg_ddr_pct -/
abbrev Par.bgDdrPct : Nat := 56
/-- FLD_bg_drive_pct -/
abbrev Par.bgDrivePct : Nat := 57
/-- FLD_bg_idle_pct -/
abbrev Par.bgIdlePct : Nat := 58
/-- FLD_patrol_h -/
abbrev Par.patrolH : Nat := 59
/-- FLD_verify_days -/
abbrev Par.verifyDays : Nat := 60
/-- FLD_tape_idle_s -/
abbrev Par.tapeIdleS : Nat := 61
/-- FLD_tape_pass_warn -/
abbrev Par.tapePassWarn : Nat := 62
/-- FLD_smart_s -/
abbrev Par.smartS : Nat := 63
/-- FLD_wear_warn_pct -/
abbrev Par.wearWarnPct : Nat := 64
/-- FLD_oob_udp_port -/
abbrev Par.oobUdpPort : Nat := 65
/-- FLD_oob_ip4 -/
abbrev Par.oobIp4 : Nat := 66
/-- FLD_oob_ip6_0 -/
abbrev Par.oobIp60 : Nat := 67
/-- FLD_oob_ip6_1 -/
abbrev Par.oobIp61 : Nat := 68
/-- FLD_oob_ip6_2 -/
abbrev Par.oobIp62 : Nat := 69
/-- FLD_oob_ip6_3 -/
abbrev Par.oobIp63 : Nat := 70
/-- SKL_merge_ticks -/
abbrev Par.mergeTicks : Nat := 71
/-- UPD_att_por_skip -/
abbrev Par.attPorSkip : Nat := 72
/-- NET_a_ip6_0 -/
abbrev Par.netAIp60 : Nat := 73
/-- NET_a_ip6_1 -/
abbrev Par.netAIp61 : Nat := 74
/-- NET_a_ip6_2 -/
abbrev Par.netAIp62 : Nat := 75
/-- NET_a_ip6_3 -/
abbrev Par.netAIp63 : Nat := 76
/-- NET_a_ip4 -/
abbrev Par.netAIp4 : Nat := 77
/-- NET_a_gw6_0 -/
abbrev Par.netAGw60 : Nat := 78
/-- NET_a_gw6_1 -/
abbrev Par.netAGw61 : Nat := 79
/-- NET_a_gw6_2 -/
abbrev Par.netAGw62 : Nat := 80
/-- NET_a_gw6_3 -/
abbrev Par.netAGw63 : Nat := 81
/-- NET_a_gw4 -/
abbrev Par.netAGw4 : Nat := 82
/-- NET_b_ip6_0 -/
abbrev Par.netBIp60 : Nat := 83
/-- NET_b_ip6_1 -/
abbrev Par.netBIp61 : Nat := 84
/-- NET_b_ip6_2 -/
abbrev Par.netBIp62 : Nat := 85
/-- NET_b_ip6_3 -/
abbrev Par.netBIp63 : Nat := 86
/-- NET_b_ip4 -/
abbrev Par.netBIp4 : Nat := 87
/-- NET_b_gw6_0 -/
abbrev Par.netBGw60 : Nat := 88
/-- NET_b_gw6_1 -/
abbrev Par.netBGw61 : Nat := 89
/-- NET_b_gw6_2 -/
abbrev Par.netBGw62 : Nat := 90
/-- NET_b_gw6_3 -/
abbrev Par.netBGw63 : Nat := 91
/-- NET_b_gw4 -/
abbrev Par.netBGw4 : Nat := 92

/-- What is known of the parameter at a place. -/
def parInfo (p : Nat) : ParInfo := parTable.getD p ⟨"", 0, 0, 0, 3, false, 3, false⟩

/-- Values a range alone does not describe: steps of 1 MiB (R86), and the three rates of FPT_max_gts (R243). -/
def parValueOk (p v : Nat) : Bool :=
  let i := parInfo p
  i.lo ≤ v && v ≤ i.hi
    && (p != Par.splitBytes || v % 1048576 == 0)
    && (p != Par.maxGts || v == 16 || v == 32 || v == 64)

end Sys2Proof.Machine
end

