-- ==== Sys2Proof/Machine/StEzlin.lean ====
section
/-! DEFINITION. State of rings, queues, sessions, engine instances, expert queues and Fold parameters (02), and of the
out-of-band listing of what the part has sent. -/

namespace Sys2Proof.Machine

open Sys2Proof

/-! ## What the part has sent -/

/-- Something the part sends out or does at a pin, oldest first in `State.out`. -/
inductive Tx where
  /-- A posted write to host memory: function (0xFF for ring 1,023's own port), address, bytes. -/
  | hostWrite (fn addr : Nat) (data : Bytes)
  /-- The data of a completed BAR0 read: offset and word. -/
  | readData (off val : Nat)
  /-- A PCIe completion with Unsupported Request. -/
  | unsupported (off : Nat)
  /-- An MSI-X message: function, vector, address, data. -/
  | msix (fn vec addr data : Nat)
  /-- A PM_PME message of a function, or a PME_TO_Ack. -/
  | pme (fn : Nat)
  | pmeToAck
  /-- A completion of a configuration write held back until messages have left (R436). -/
  | cfgDone (fn : Nat)
  /-- A wake request line of a management core. -/
  | coreWake (core : Nat)
  /-- A drive command: command number, namespace, LBA, blocks, and the data and unit tags written. -/
  | nvme (cid nsn lba n : Nat) (data : Bytes) (tags : Bytes)
  /-- Another NVMe command by name: Abort, controller reset, SMART, Dataset Management. -/
  | nvmeAdmin (what : String) (port arg : Nat)
  /-- A GRMP packet: path, subport, connection, remote address, UDP source and destination ports, and the sealed
  packet. -/
  | grmp (path sub cid : Nat) (addr : Bytes) (sport dport : Nat) (packet : Bytes)
  /-- A frame Fold answers on a network path or the out-of-band port. -/
  | frame (port : Nat) (kind : String) (data : Bytes)
  /-- A datagram on the out-of-band port. -/
  | oob (kind : Nat) (data : Bytes)
  /-- An SMBus answer. -/
  | smbus (data : Bytes)
  /-- A level driven on a named pin: 1 asserted or high as the pin's own sense. -/
  | pin (name : String) (idx : Nat) (level : Bool)
  /-- A pulse on a heartbeat line. -/
  | pulse (name : String)
  /-- A frame to a transport's actuator link or reel controller. -/
  | actuator (transport word : Nat)
  | reel (transport : Nat) (frame : Bytes)
  /-- Channel bits for one track frame, or a tape command, of a transport. -/
  | tape (transport : Nat) (what : String) (arg : Nat) (data : Bytes)
  /-- A write to NOR. -/
  | nor (what : String) (data : Bytes)
deriving DecidableEq, Repr

/-! ## Rings (R41 to R60) -/

/-- Why a ring is waiting for its outstanding commands. -/
inductive Drain where
  | delete
  | reset
  | admin
deriving DecidableEq, Repr

/-- A submission ring. Function 255 stands for ring 1,023, which belongs to no function. `err` is the error cause
while the ring is in Error, else 0; `drains` what waits for the ring's outstanding commands, with the command that
asked for it. -/
structure Sq where
  fn : Nat
  slot : Nat
  base : Nat
  log2 : Nat
  tail : Nat
  head : Nat
  err : Nat
  cq : Nat
  drains : List (Drain × Nat)
deriving DecidableEq, Repr

/-- A reply on its way: its command, ring, tag and content (R56). `fin` marks a final reply; `ok` is whether the host
link takes the write. -/
structure Reply where
  eid : Nat
  ring : Nat
  seq : Nat
  tag : Nat
  status : Nat
  detail : Nat
  result : Bytes
  fin : Bool
  noint : Bool
  ok : Bool
deriving DecidableEq, Repr

/-- A completion ring. `needReset` lists the bound rings still to be reset since its failure (R47). -/
structure Cq where
  base : Nat
  log2 : Nat
  wp : Nat
  head : Nat
  unread : Nat
  phase : Bool
  usable : Bool
  vector : Nat
  needReset : List Nat
  held : List Reply
deriving DecidableEq, Repr

/-- A command held from its consumption until its final reply has been written (R49). `owned` is the mask of domains
this head owned at consumption (R113), `role` the role of its session, `gen` the current generation of the tenant a PUT names then (R160), `found` the recipe extent
of the object a GET names then (R117), `snap` Skylark as it stood then for an SKL_READ (R499). -/
structure Entry where
  eid : Nat
  ring : Nat
  fn : Nat
  hw : Bool
  pkt : Bytes
  blk : Bytes
  at_ : Nat
  pended : Bool
  begun : Bool
  replyOk : Bool
  owned : Nat
  role : Nat
  gen : Nat
  found : Option Nat
  snap : Option Skl
deriving DecidableEq, Repr

/-- A nonce and where it is valid (R64). -/
structure Nonce where
  fn : Nat
  ring : Nat
  value : Bytes
  at_ : Nat
deriving DecidableEq, Repr

/-- An open session, or one past its close point (R62, R72, R73). -/
structure Session where
  fn : Nat
  role : Nat
  lastUse : Nat
  prov : Bool
  closing : Bool
  closeEid : Option Nat
  waits : List Nat
deriving DecidableEq, Repr

/-- A held ACCESS_DENIED reply of a failed proof (R69). -/
structure HeldDenied where
  eid : Nat
  ring : Nat
  role : Nat
  until_ : Nat
deriving DecidableEq, Repr

/-! ## Engine instances (R30 to R33, R75 to R79) -/

/-- The control states of an instance. -/
inductive Ctl where
  | basic
  | handing
  | expert
  | returning
deriving DecidableEq, Repr

/-- Code of a control state in ENGINE_QUERY and XSTATUS (R560). -/
def Ctl.code : Ctl → Nat
  | .basic => 0
  | .handing => 1
  | .expert => 2
  | .returning => 3

/-- An engine instance: its control state, the holding session and its function, when and for which command handover
began, the commands that wait for its return or its disable drain, and the disable state. -/
structure Inst where
  ctl : Ctl
  holder : Nat
  holderFn : Nat
  t0 : Nat
  enterEid : Nat
  retEids : List Nat
  disabled : Bool
  disabling : Bool
  disEids : List Nat
  enQueued : Bool
deriving DecidableEq, Repr

/-- An instance in Basic, enabled and idle. -/
def Inst.idle : Inst := ⟨.basic, 0, 0xFF, 0, 0, [], false, false, [], false⟩

/-- An expert queue pair (R561). `unread` is its own count of unread completions (R59). `bound`, `count` and the wait
fields serve Drover's queues (R362, R364): the session a queue is bound to, its COUNT, and the descriptor taken from
the ring that waits for another queue's count. -/
structure Xq where
  en : Bool
  sqLog2 : Nat
  cqLog2 : Nat
  sqHead : Nat
  tail : Nat
  cqWp : Nat
  unread : Nat
  phase : Bool
  halt : Bool
  bound : Option Nat
  count : Nat
  waiting : Bool
  waitSince : Nat
  desc : Bytes
deriving DecidableEq, Repr

/-- An expert queue that is not enabled. -/
def Xq.off : Xq := ⟨false, 0, 0, 0, 0, 0, 0, true, false, none, 0, false, 0, []⟩

/-- A batch of parameter values (place, value, PERSIST) that waits for a boundary (R82). -/
structure Batch where
  eid : Nat
  entries : List (Nat × Nat × Bool)
  result : Bytes
deriving DecidableEq, Repr

/-- Rings, queues, sessions, instances and parameters. The arbiter's place (R48): `lastWin` the ring of the last
round-robin turn, `turn` the packets it may still take in it, `first0` and `first1023` whether rings 0 and 1,023 have
had their packet before the coming turn, `blocked` the rings whose next packet was found to wait for queue room or a
fence (R49, R50) since an entry last freed. -/
structure Ez where
  sqs : KMap Sq
  cqs : KMap Cq
  nextCq : Nat
  nextEid : Nat
  queue : List Entry
  lastWin : Nat
  turn : Nat
  first0 : Bool
  first1023 : Bool
  blocked : List Nat
  nonces : List Nonce
  sessions : KMap Session
  issued : List Nat
  ended : List (Nat × Nat)
  roleKeys : KMap Bytes
  authFail : List Nat
  backoff : List Nat
  denied : List HeldDenied
  inst : KMap Inst
  xqs : KMap Xq
  par : KMap Nat
  parStored : KMap Nat
  parNor : KMap Nat
  parExit : KMap Nat
  setNow : List (Nat × Nat)
  setNext : List (Nat × Nat)
  batchNow : List Batch
  batchNext : List Batch
deriving DecidableEq, Repr

/-- No ring but those of reset, no session, every instance in Basic. -/
def Ez.reset : Ez where
  sqs := []
  cqs := []
  nextCq := 0
  nextEid := 1
  queue := []
  lastWin := 0
  turn := 0
  first0 := false
  first1023 := false
  blocked := []
  nonces := []
  sessions := []
  issued := []
  ended := []
  roleKeys := []
  authFail := [0, 0, 0, 0]
  backoff := [0, 0, 0, 0]
  denied := []
  inst := []
  xqs := []
  par := []
  parStored := []
  parNor := []
  parExit := []
  setNow := []
  setNext := []
  batchNow := []
  batchNext := []

end Sys2Proof.Machine
end

