-- ==== Sys2Proof/Machine/StHead.lean ====
section
/-! DEFINITION. State of the flash ports (09) and of dual-head operation (15). -/

namespace Sys2Proof.Machine

open Sys2Proof

/-! ## Flash ports (09) -/

/-- What a drive command is for, so that its completion reaches its work. -/
inductive Why where
  /-- Member write of a stripe of a tree, by its first data-space block. -/
  | stripe (root block : Nat)
  /-- Member write of a small write. -/
  | small (id : Nat)
  /-- Label write of a tree at an epoch. -/
  | label (root epoch : Nat)
  /-- Journal record to copy A (false) or B (true) of a domain. -/
  | journal (dom : Nat) (b : Bool) (jseq : Nat)
  /-- Ring blocks and header written to a replacement copy. -/
  | copy (dom : Nat) (b : Bool)
  /-- Units written by a rebuild pass or a reshape, which hold a range of a group's data space locked until they are
  written (R203, R230, R238). -/
  | step (group lo n : Nat)
  /-- A repair, a header, a lost list, a cleared label: nothing waits for it. -/
  | upkeep (node : Nat)
deriving DecidableEq, Repr

/-- An outstanding drive command (R250) with the data and unit tags it writes. `stage`: 0 running, 1 Abort
issued. `retried` marks the one retry of a failed write, `held` a write that waits for its domain's fence
(R388). -/
structure NvCmd where
  cid : Nat
  port : Nat
  nsn : Nat
  lba : Nat
  n : Nat
  write : Bool
  why : Why
  at_ : Nat
  stage : Nat
  stageAt : Nat
  retried : Bool
  held : Bool
  dom : Nat
  data : Bytes
  tags : Bytes
deriving DecidableEq, Repr

/-- A bound namespace number (R248): identifier, presence, format and size. -/
structure Ns where
  nguid : Bytes
  present : Bool
  qualified : Bool
  mset : Bool
  port : Nat
  lbas : Nat
  anaOk : Bool
deriving DecidableEq, Repr

/-- A flash port (R243, R251, R252): link, containment, presence. `removed` marks leaves to be made MISSING at the next
boundary, `resetting` a controller whose reset has not been answered. -/
structure Port where
  speed : Nat
  width : Nat
  flit : Bool
  dpc : Bool
  present : Bool
  removed : Bool
  resetting : Bool
deriving DecidableEq, Repr

/-- A port with its link down. -/
def Port.down : Port := ⟨0, 0, false, false, false, false, false⟩

/-- The flash ports. `ns` is held in NOR. -/
structure Fpt where
  ns : KMap Ns
  full : Bool
  ports : KMap Port
  cmds : List NvCmd
  nextCid : Nat
deriving DecidableEq, Repr

/-- No namespace bound, every link down. -/
def Fpt.reset : Fpt := ⟨[], false, [], [], 0⟩

/-! ## Dual-head operation (15) -/

/-- Head states (R377). -/
inductive HSt where
  | booting
  | joining
  | active
  | alone
  | isolated
deriving DecidableEq, Repr

/-- Code of a head state (R377). -/
def HSt.code : HSt → Nat
  | .booting => 0
  | .joining => 1
  | .active => 2
  | .alone => 3
  | .isolated => 4

/-- The head state of a code. -/
def HSt.ofCode : Nat → HSt
  | 1 => .joining
  | 2 => .active
  | 3 => .alone
  | 4 => .isolated
  | _ => .booting

/-- Domain states (R378). -/
inductive DSt where
  | unowned
  | claiming
  | loading
  | owned
  | releasing
  | fenced
deriving DecidableEq, Repr

/-- Code of a domain state (R378). -/
def DSt.code : DSt → Nat
  | .unowned => 0
  | .claiming => 1
  | .loading => 2
  | .owned => 3
  | .releasing => 4
  | .fenced => 5

/-- A domain as this head holds it. `pulled`: this head pulls its HLK line low. `taken`: held by takeover. `claimAt` is
when its claim began, `toPeer` whether a release hands it to the peer and `given` that the HANDOVER has gone, `relWaits` the commands admitted before its release point,
`fenceUntil` the boundary before which member writes wait (R388), `idxLoad` whether the index region loads, `handed` that
the peer handed it over. -/
structure Dom where
  st : DSt
  pulled : Bool
  taken : Bool
  claimAt : Nat
  toPeer : Bool
  given : Bool
  relWaits : List Nat
  fenceUntil : Nat
  idxLoad : Bool
  handed : Bool
deriving DecidableEq, Repr

/-- A domain at reset: UNOWNED. -/
def Dom.reset : Dom := ⟨.unowned, false, false, 0, false, false, [], 0, false, false⟩

/-- A DOMAIN_CLAIM or DOMAIN_RELEASE waiting for its domains: those still awaited, and whether any was refused. -/
structure DomCmd where
  eid : Nat
  waits : List Nat
  refused : Bool
deriving DecidableEq, Repr

/-- Dual-head operation. `peer` to `peerHome` are what the peer last reported, `peerSeen` whether it has. `homeOver` is
the home set that replaces DHD_home (R380). `silent` counts the boundaries in a row without a witness; `modeBad`, `homeBad`
and `lineBad` mark what has been latched and still holds. `renewTicks` are the sequence and boundary of this head's
renewals, `grants` the boundary of the last renewal granted for each domain. `joined` marks that JOIN has been sent, or
answered; `health` the check bits last sent, or received; `resynced` the domains whose image is complete; `holdStart` when
the hold-off began; `failing` a failback under way. `lastKick` is the watchdog's last kick. -/
structure Dhd where
  armed : Bool
  hst : HSt
  peer : HSt
  peerMode : Nat
  peerOwned : Nat
  peerHome : Nat
  peerSeen : Bool
  homeOver : Option Nat
  doms : List Dom
  claims : List DomCmd
  releases : List DomCmd
  silent : Nat
  modeBad : Bool
  homeBad : Bool
  lineBad : Bool
  renewSeq : Nat
  renewTicks : List (Nat × Nat)
  grantSeq : Nat
  granting : Nat
  grants : KMap Nat
  joined : Bool
  health : Nat
  peerDigest : Option Bytes
  resynced : Nat
  holdStart : Option Nat
  failing : Bool
  lastKick : Nat
  selftestOk : Bool
deriving DecidableEq, Repr

/-- Not armed, nothing owned. -/
def Dhd.reset : Dhd where
  armed := false
  hst := .booting
  peer := .booting
  peerMode := 0
  peerOwned := 0
  peerHome := 0
  peerSeen := false
  homeOver := none
  doms := List.replicate 8 Dom.reset
  claims := []
  releases := []
  silent := 0
  modeBad := false
  homeBad := false
  lineBad := false
  renewSeq := 0
  renewTicks := []
  grantSeq := 0
  granting := 0
  grants := []
  joined := false
  health := 0
  peerDigest := none
  resynced := 0
  holdStart := none
  failing := false
  lastKick := 0
  selftestOk := false

end Sys2Proof.Machine
end

