-- ==== Sys2Proof/Machine/StNet.lean ====
section
/-! DEFINITION. State of Drover (13) and of the network ports (14). -/

namespace Sys2Proof.Machine

open Sys2Proof

/-! ## Drover (13) -/

/-- A connection's state (R341). -/
inductive ConnSt where
  | opening
  | established
  | closed
  | error
deriving DecidableEq, Repr

/-- Code of a connection state (R341). -/
def ConnSt.code : ConnSt → Nat
  | .opening => 0
  | .established => 1
  | .closed => 2
  | .error => 3

/-- A packet of the GRMP header's fields and its payload (R338). -/
structure Pkt where
  op : Nat
  flags : Nat
  code : Nat
  dcid : Nat
  psn : Nat
  apsn : Nat
  txc : Nat
  key : Nat
  offset : Nat
  len : Nat
  payload : Bytes
deriving DecidableEq, Repr

/-- Who an operation of a connection belongs to. -/
inductive OpFor where
  /-- An expert queue's descriptor: queue, software tag. -/
  | desc (q tag : Nat)
  /-- A READ_RESP stream to the other end, from the space of a key. -/
  | resp (key : Nat)
  /-- A GET's delivery: its command, and the status, detail and result it replies with. -/
  | get (eid st dt : Nat) (res : Bytes)
  /-- A journal record's peer copy. -/
  | mirror (dom jseq : Nat)
  /-- A message of Fold. -/
  | fold
deriving DecidableEq, Repr

/-- An outstanding operation: its first and last PSN, and for a read the bytes wanted and got and where they go. -/
structure DOp where
  who : OpFor
  lastPsn : Nat
  read : Bool
  firstPsn : Nat
  want : Nat
  got : Nat
  laddr : Nat
deriving DecidableEq, Repr

/-- A packet parked for an evicted connection, with its arrival port and stamp (R350, R353). -/
structure Parked where
  port : Nat
  stamp : Nat
  pkt : Pkt
deriving DecidableEq, Repr

/-- A connection. It transmits on subport `sub` of path `path` (R346, R373). `lastUsed` orders evictions (R349); `refusedBusy` is the PSN refused with STATE_BUSY (R350);
`resendBusy` is the PSN from which a resend is due 2 µs after STATE_BUSY or FULL; `unacked` are the packets transmitted
and not acknowledged, `txq` those that wait, with their PSNs; `msg` is the message being received and `inbox` those
received whole and not yet taken (R359). -/
structure Conn where
  kind : Nat
  st : ConnSt
  home : Nat
  path : Nat
  sub : Nat
  ipv : Nat
  xq : Nat
  tenant : Nat
  rport : Nat
  rcid : Nat
  saltTx : Bytes
  saltRx : Bytes
  maxMsg : Nat
  addrA : Bytes
  addrB : Bytes
  slot : Nat
  txPsn : Nat
  rxPsn : Nat
  txc : Nat
  unacked : List Pkt
  sinceAck : Nat
  nakSent : Bool
  retries : Nat
  resendBusy : Option Nat
  refusedBusy : Option Nat
  ops : List DOp
  txq : List Pkt
  msg : Bytes
  msgKey : Nat
  inbox : List Bytes
  resident : Bool
  fetching : Bool
  lastUsed : Nat
  parked : List Parked
  closeEid : Nat
  closing : Bool
deriving DecidableEq, Repr

/-- A space table entry (R352, R357). `live` is false once freed: the tag is kept for refusals. `revokedAt` is the stamp
of the revoke point. -/
structure Space where
  tag : Nat
  kind : Nat
  access : Nat
  tenant : Nat
  conn : Option Nat
  fn : Nat
  base : Nat
  length : Nat
  live : Bool
  revokedAt : Option Nat
  revokeEid : Nat
  bound : Option Nat
deriving DecidableEq, Repr

/-- A path (R346 to R348): whether heartbeats prove it, their sequences, and the run of valid ones. -/
structure Path where
  live : Bool
  txSeq : Nat
  rxSeq : Option Nat
  run : Nat
deriving DecidableEq, Repr

/-- An object or delete waiting to be shipped (R361). -/
structure Ship where
  dom : Nat
  tenant : Nat
  objId : Bytes
  jseq : Nat
  delete : Bool
  sent : Bool
  retries : Nat
  retryAt : Option Nat
deriving DecidableEq, Repr

/-- A replication link (R360). -/
structure RepLink where
  policy : Nat
  conn : Nat
  deletes : Bool
  remote : Nat
  backlog : List Ship
  overflow : Bool
deriving DecidableEq, Repr

/-- Drover. -/
structure Drv where
  conns : KMap Conn
  spaces : KMap Space
  freed : List Nat
  paths : List Path
  links : KMap RepLink
  useClock : Nat
  msgSeq : Nat
  offers : List (Nat × Ship)
deriving DecidableEq, Repr

/-- No connection, no space; paths not proven. -/
def Drv.reset : Drv where
  conns := []
  spaces := []
  freed := []
  paths := [⟨false, 0, none, 0⟩, ⟨false, 0, none, 0⟩]
  links := []
  useClock := 0
  msgSeq := 0
  offers := []

/-! ## Network ports (14) -/

/-- A network port: when each subport's link became stable or came up (boundary), and the frames Fold answered within
the present second (R369). -/
structure NPort where
  upSince : KMap Nat
  answered : Nat
  second : Nat
deriving DecidableEq, Repr

/-- The two ports, and the peer's heartbeat line: valid pulses in a row, and whether an edge has come since reset
(R375). -/
structure Net where
  ports : List NPort
  pulses : Nat
  edge : Bool
deriving DecidableEq, Repr

/-- Every subport down. -/
def Net.reset : Net := ⟨[⟨[], 0, 0⟩, ⟨[], 0, 0⟩], 0, false⟩

end Sys2Proof.Machine
end

