-- ==== Sys2Proof/Machine/StPart.lean ====
section
/-! DEFINITION. State of memory and Heather (16), clocks, resets and power (18), Fold's own work (19), update and
attestation (21), package and thermal (22). What a register shows lives in the register bank; this is the rest. -/

namespace Sys2Proof.Machine

open Sys2Proof

/-! ## Memory (16) -/

/-- A MEM_FILL queued or running (R407). -/
structure Fill where
  eid : Nat
  base : Nat
  gib : Nat
  pattern : Nat
  running : Bool
deriving DecidableEq, Repr

/-- A merge buffer entry (R404): port, address of the word, byte mask. -/
structure Merge where
  port : Nat
  word : Nat
  mask : Nat
deriving DecidableEq, Repr

/-- An entry of the uncorrectable list (R478). -/
structure UeEntry where
  addr : Nat
  region : Nat
  tick : Nat
deriving DecidableEq, Repr

/-- The regions as placed (R409): the parameters in force when they were. -/
structure Placed where
  log2 : Nat
  slotCfg : Nat
  landing : Nat
  read : Nat
  spill : Nat
deriving DecidableEq, Repr

/-- DDR: granules recorded since the last loss of content, fills in order, placement, merge buffers (oldest first), poisoned
words, the uncorrectable list, and the boundary of the last retrain (R400). -/
structure MemSt where
  granules : List Nat
  fills : List Fill
  placed : Option Placed
  merges : List Merge
  poison : List Nat
  ues : List UeEntry
  retrainAt : Option Nat
deriving DecidableEq, Repr

/-- DDR untrained, nothing written. -/
def MemSt.reset : MemSt := ⟨[], [], none, [], [], [], none⟩

/-- A preload under way (R417): its command, way, first line, lines, whether it locks. -/
structure HJob where
  eid : Nat
  way : Nat
  lo : Nat
  lines : Nat
  lock : Bool
deriving DecidableEq, Repr

/-- Heather: the lines that preloads have put in place, as tags keyed by way × 65,536 + set (what traffic puts there is
outside the model, log entry 33); invalidates that wait or run, in order; the disables a clean answers; whether an invalidate
has been consumed since the last disable; preloads. -/
structure Hth where
  lines : KMap Nat
  invs : List Nat
  disables : List Nat
  invSince : Bool
  jobs : List HJob
deriving DecidableEq, Repr

/-- Heather at reset: disabled. Its random tags are never looked up before an invalidate (R414). -/
def Hth.reset : Hth := ⟨[], [], [], false, []⟩

/-! ## Clocks, resets, power (18, 22) -/

/-- Why the device is held in cold reset, or how far it has come out (R457, R534, R548). -/
inductive BootSt where
  /-- AON up, waiting for SOC_PG. -/
  | waitSoc
  /-- CORE_PWR_EN raised, or waiting to be raised again, CORE_PG awaited. -/
  | waitCore
  /-- CORE_PG present, SYS_RESET_N low. -/
  | held
  /-- Boot sequence running: READY awaited. -/
  | booting
  /-- READY. -/
  | ready
  /-- A thermal trip lasts. -/
  | tripped
  /-- Neither image slot passed. -/
  | bootFail
  /-- No power. -/
  | off
deriving DecidableEq, Repr

/-- Clocks, resets and power. `warmEnd` is the boundary by which a warm reset that runs has ended; `trans` the step of a
P2 transition: 0 none, 1 entering since `p2At`, 2 leaving; `held` a held request; `gated` the blocks gated in P1, by code
and instance; `stopped` the clocks that an unplanned stop or a loss of lock holds; `discards` the entries each Stile
crossing has discarded (R451); `cgFell` that CORE_PG fell since the last boot. -/
structure Crp where
  boot : BootSt
  warmEnd : Option Nat
  trans : Nat
  p2At : Nat
  held : Option Nat
  corePwrEn : Bool
  corePg : Bool
  socPg : Bool
  sysRstN : Bool
  linkUp : Bool
  gated : List (Nat × Nat)
  stopped : List Nat
  discards : KMap Nat
  cgFell : Bool
deriving DecidableEq, Repr

/-- Clocks and power as the power-on reset leaves them. -/
def Crp.reset : Crp where
  boot := .waitSoc
  warmEnd := none
  trans := 0
  p2At := 0
  held := none
  corePwrEn := false
  corePg := false
  socPg := false
  sysRstN := false
  linkUp := false
  gated := []
  stopped := []
  discards := []
  cgFell := false

/-- Sensors: the last samples in 1/16 °C of sensors 0 to 11, and of FE0 and FE1 as 12 and 13; how many samples in a row
each has read 115 °C or more; the boundary since which sensor 0 reads below 95 °C; and the activity class: the band CORE_IMON
reads, the ticks it has been there, and the class (R312). -/
structure Thermal where
  temps : KMap Int
  hot : KMap Nat
  coolSince : Option Nat
  band : Nat
  bandRun : Nat
  cls : Nat
deriving DecidableEq, Repr

/-- No sample taken. -/
def Thermal.reset : Thermal := ⟨[], [], none, 0, 0, 0⟩

/-! ## Fold (19) -/

/-- A telemetry configuration (R483). -/
structure TelCfg where
  addr : Nat
  log2 : Nat
  fn : Nat
  divider : Nat
deriving DecidableEq, Repr

/-- A packet consumed from ring 1,023, with the datagram's XID, its entry and the reply held for it (R487). -/
structure HeldOob where
  pkt : Bytes
  xid : Nat
  eid : Nat
  reply : Option Bytes
deriving DecidableEq, Repr

/-- The metadata image of a domain (R482): its group, the extents of its chain in order and those that continue the
header's list, the header writes, the IMG_JSEQ on its way to flash, and the stage: 0 nothing outstanding, 1 buckets, 2 the
header; `whole` that the chain holds a full image, `short` that the group had no space for the chain. -/
structure Image where
  root : Nat
  chain : List Nat
  conts : List Nat
  writes : Nat
  pend : Nat
  stage : Nat
  whole : Bool
  short : Bool
deriving DecidableEq, Repr

/-- Fold's own work. `ckpt` is the tick checkpoint in NOR (R472); `core` the boundary of each core's last check-in and
`trapped` the cores that do not run; `patrolPos` the words the patrol pass has read; `verifyAt` the group and block at which
verify stands in each domain, `verifyNext` the ranges of blocks verified ahead of it; `tel` the telemetry ring in force,
`telNext` the one of the next boundary, `telDue` a snapshot to be written; `counts` the cumulative counts of R484: eight byte
counts, PUTs, GETs, chunks, hits, parity rewrites, and then uncorrectable reads; `shadow` what the boundary latched of them,
the uncorrectable reads and each channel's corrected words of the tick; `imon` the tick's VDD_CORE current in mA; `heldOob` the
packets consumed from ring 1,023 with the replies held for them, `oobQ` those that wait, with their XIDs. -/
structure Fld where
  ckpt : Nat
  core : List Nat
  trapped : List Nat
  patrolPos : Nat
  patrolPass : Nat
  verifyAt : KMap (Nat × Nat)
  verifyNext : List (Nat × Nat × Nat)
  tel : Option TelCfg
  telNext : Option TelCfg
  telSeq : Nat
  telCnt : Nat
  telDue : Bool
  decLate : Bool
  imon : Nat
  counts : List Nat
  shadow : List Nat
  smart : KMap Nat
  smartWarned : List Nat
  heldOob : List HeldOob
  oobQ : List (Bytes × Nat)
  window : Mem
  oobAnswered : Nat
  oobSecond : Nat
  images : KMap Image
deriving DecidableEq, Repr

/-- Fold at reset. -/
def Fld.reset : Fld where
  ckpt := 0
  core := List.replicate 8 0
  trapped := []
  patrolPos := 0
  patrolPass := 0
  verifyAt := []
  verifyNext := []
  tel := none
  telNext := none
  telSeq := 0
  telCnt := 0
  telDue := false
  decLate := false
  imon := 0
  counts := List.replicate 14 0
  shadow := List.replicate 30 0
  smart := []
  smartWarned := []
  heldOob := []
  oobQ := []
  window := []
  oobAnswered := 0
  oobSecond := 0
  images := []

/-! ## Update and attestation (21) -/

/-- Slot states (R516). -/
inductive SlotSt where
  | empty
  | receiving
  | complete
  | verified
  | active
  | trial
  | invalid
deriving DecidableEq, Repr

/-- Code of a slot state (R516). -/
def SlotSt.code : SlotSt → Nat
  | .empty => 0
  | .receiving => 1
  | .complete => 2
  | .verified => 3
  | .active => 4
  | .trial => 5
  | .invalid => 6

/-- An image slot in NOR: its state, the pieces stored, and those whose bit of the update record is set (R505, R512, R513).
A slot that holds the image the part was delivered with, whose content the manual does not give, lists no piece. -/
structure Slot where
  st : SlotSt
  pieces : KMap Bytes
  bits : List Nat
deriving DecidableEq, Repr

/-- Fuses (R506). -/
structure Fuses where
  hwType : Nat
  unitId : Bytes
  digests : List Bytes
  floor : Nat
  seed : Bytes
  ident : Bytes
  burnt : List Nat
  mac : Nat
deriving DecidableEq, Repr

/-- Fuses of the modelled part: the type code of R1 and zeros elsewhere (DESIGN CHOICE, log entry 3). -/
def Fuses.reset : Fuses :=
  ⟨0x8610, zeros 16, [zeros 32, zeros 32, zeros 32, zeros 32], 0, zeros 32, zeros 16, [], 0⟩

/-- Slots, selector with the trial boot attempts left, attestation index (R505, R512, R518, R524): `reserve` is R, absent
while it is invalid, `warned` that R525 has warned; `nowAt` when a command with NOW replied, `selftest` that a trial image
waits for its self-test. -/
structure Upd where
  slots : List Slot
  active : Nat
  attempts : Nat
  reserve : Option Nat
  warned : Bool
  nowAt : Option Nat
  selftest : Bool
deriving DecidableEq, Repr

/-- Slot 0 selected, slot 1 empty (DESIGN CHOICE, log entry 3). -/
def Upd.reset : Upd where
  slots := [⟨.active, [], []⟩, ⟨.empty, [], []⟩]
  active := 0
  attempts := 0
  reserve := none
  warned := false
  nowAt := none
  selftest := false

end Sys2Proof.Machine
end

