-- ==== Sys2Proof/Machine/StTape.lean ====
section
/-! DEFINITION. State of a tape transport: Windrow (10), Gleaner (11), servo and transport control (12). What a
register of WDR_, GLN_ or GLN_SRV_ shows lives in the register bank; this is the rest. -/

namespace Sys2Proof.Machine

open Sys2Proof

/-! ## Jobs (R282 to R288, R315) -/

/-- What a job does. -/
inductive JobKind where
  | migrate
  | recall
  | verify
  | calibrate
deriving DecidableEq, Repr

/-- An entry of a migrate or recall job still to be done: its index in the block, extent ID or host address, length,
tape location (SERIAL, DSN, offset), and the journal record that is to move its extent back to flash. -/
structure TEntry where
  idx : Nat
  id : Nat
  len : Nat
  serial : Nat
  dsn : Nat
  off : Nat
  jseq : Option Nat
deriving DecidableEq, Repr

/-- A job. `eid` is 0 for Fold's own verify pass. `first` and `last` are the data sets written
(2^32 while there is none), or those a verify reads; `nOk` and `nBad` the entries committed and skipped, recalled and failed, or the data sets read and the records
failed; `nC3` and `nLost` the data sets of a verify that needed C3 and that were lost; `fail` the first failed entry
with its status and detail; `mode` and `wraps` those of a calibration. -/
structure TJob where
  eid : Nat
  kind : JobKind
  host : Bool
  flush : Bool
  keep : Bool
  deep : Bool
  locAddr : Nat
  entries : List TEntry
  first : Nat
  last : Nat
  nOk : Nat
  nBad : Nat
  nC3 : Nat
  nLost : Nat
  fail : Option (Nat × Nat × Nat)
  badZones : Nat
  mode : Nat
  wraps : Nat
  abort : Bool
deriving DecidableEq, Repr

/-! ## Writing (R253 to R279) -/

/-- A tape record in the payload stream that is not committed: its sequence number, the job and the entry it carries
(no entry for PAD), its extent or the host address that receives its location, whether it is a host record and whether
its flash copy stays, the payload positions of its header and of its end, the data set and offset of its header, the
data sets that hold bytes of it, and the journal record that is to move its extent to tape. -/
structure TRec where
  rseq : Nat
  eid : Nat
  pad : Bool
  host : Bool
  keep : Bool
  id : Nat
  locAddr : Nat
  lo : Nat
  hi : Nat
  dsn : Nat
  off : Nat
  sets : List Nat
  jseq : Option Nat
deriving DecidableEq, Repr

/-- A frame written and not yet reported: its codeword (157 times its sub data set plus its index), its track, the copy
number of its data set, and the rewrite area it lies in, counted from its data set's last copy (0 for none). -/
structure OutFrame where
  cw : Nat
  track : Nat
  copy : Nat
  area : Nat
deriving DecidableEq, Repr

/-- A codeword that failed verify and waits for a rewrite (R266): its data set, itself, and the track of its last
copy. -/
structure PendRw where
  dsn : Nat
  cw : Nat
  track : Nat
deriving DecidableEq, Repr

/-- A data set kept until it and every earlier one have a passing copy of every codeword (R268). `kind` is that of the
frame header (R263); `arrays` its 64 sub data sets, with the trailer of copy 0; `wrap` and `zone` where its last copy
began; `areas` the rewrite areas since its last copy; `passed` the codewords with a passing copy; `frames` those
written and not yet reported; `budget` its rewrite frames. -/
structure WSet where
  dsn : Nat
  kind : Nat
  copy : Nat
  wrap : Nat
  zone : Nat
  arrays : List Bytes
  passed : List Nat
  frames : List OutFrame
  budget : Nat
  areas : Nat
deriving DecidableEq, Repr

/-- The C3 group being written (R261): the DSN of its first data set, its data sets, the accumulators of P0 and P1 over
the 64 sub data sets, and whether P0 has been written. -/
structure C3Group where
  first : Nat
  n : Nat
  p0 : List Bytes
  p1 : List Bytes
  p0Out : Bool
deriving DecidableEq, Repr

/-- What a writer does once the data at hand is written: go on, turn onto the next wrap (R277), stop (R276), end a
FLUSH job or an unload with EOD (R278, R334), or nothing more until the cartridge memory is updated. -/
inductive WPlan where
  | go
  | turn
  | stop
  | flush
  | eodOut
deriving DecidableEq, Repr

/-! ## Reading (R280, R286, R300 to R307) -/

/-- A codeword decoded from tape: data set, kind, place, write pass, its 960 information bytes, and the
bits corrected. -/
structure RWord where
  dsn : Nat
  kind : Nat
  sds : Nat
  cwi : Nat
  wp : Nat
  info : Bytes
  corr : Nat
deriving DecidableEq, Repr

/-- A data set restored from tape: its kind, payload, the offset of the first record header in it, and whether C3 was
needed. -/
structure RSet where
  kind : Nat
  payload : Bytes
  firstRec : Nat
  c3 : Bool
deriving DecidableEq, Repr

/-- A frame in the recovery queue (R306): its identity, whether sync mark 2 framed it, and its captured bits. -/
structure RecFrame where
  track : Nat
  dsn : Nat
  kind : Nat
  sds : Nat
  cwi : Nat
  wp : Nat
  sm2 : Bool
  bits : Bytes
deriving DecidableEq, Repr

/-- What a header confirmed at a slot on a track says (R301): DSN, WP, KIND, COPY, REW. -/
structure Ident where
  track : Nat
  slot : Nat
  dsn : Nat
  wp : Nat
  kind : Nat
  copy : Nat
  rew : Bool
deriving DecidableEq, Repr

/-- A zone table entry (R308). The taps are 12-bit and OFFSET and ASYM 8-bit two's complement words. -/
structure ZEntry where
  taps : List (BitVec 12)
  gain : Nat
  offset : BitVec 8
  asym : BitVec 8
  src : Nat
  mse : Nat
deriving DecidableEq, Repr

/-- The default entry (R308): TAP7 512, GAIN 96. -/
def ZEntry.dflt : ZEntry :=
  ⟨[0, 0, 0, 0, 0, 0, 0, 512, 0, 0, 0, 0, 0, 0, 0, 0], 96, 0, 0, 0, 0⟩

/-- A track: lock, elastic buffer fill, the zone and wrap of the entry in force, the entry as loaded and as adapted,
the position of the last sync mark 1 found, the prediction for the next after a miss, the slot of the last frame,
whether its current frame is erased, the words of GLN_TARGET, GLN_LOOP, GLN_ADAPT, GLN_SYNC, GLN_REC and GLN_WPC in
force, whether adaptation is widened, whether it has recentred since reset, and the zone whose entry its next preamble
loads. -/
structure Trk where
  lock : Bool
  fill : Nat
  zone : Nat
  wrap : Nat
  loaded : ZEntry
  cur : ZEntry
  lastSm1 : Option Nat
  predict : Option Nat
  slot : Nat
  erased : Bool
  regs : List W32
  widened : Bool
  centred : Bool
  nextZone : Option (Nat × Nat)
deriving DecidableEq, Repr

/-- A track at reset: the settings are the registers' reset values. -/
def Trk.reset : Trk :=
  ⟨false, 32, 0, 0, ZEntry.dflt, ZEntry.dflt, none, none, 0, false,
    [0x00C30410, 0x0040C673, 0x4002CAAC, 0x00000823, 0x000304C1, 0x4], false, false, none⟩

/-! ## Mount and motion (R318 to R335) -/

/-- Where a mount or unload stands. -/
inductive MountSt where
  | none
  | loading
  | acquiring
  | calibrating
  | recovering
  | mounted
  | finishing
  | rewinding
  | unloading
  | faulted
deriving DecidableEq, Repr

/-- The transport. -/
structure Tape where
  -- mounting: the command that mounts or unloads, its final status, when the load began, the mount count, flags
  mst : MountSt
  mountEid : Nat
  unloadEid : Nat
  endSt : Nat × Nat
  since : Nat
  mountCount : Nat
  readOnly : Bool
  blank : Bool
  recovered : Bool
  noAccept : Nat
  cm : Mem
  -- jobs
  job : Option TJob
  queue : List TJob
  -- writing: payload not yet in a data set and its position, records, the wrap targeted and that of the append point,
  -- the table entries not yet in the cartridge memory
  stream : Bytes
  streamLo : Nat
  recs : List TRec
  inputEnded : Bool
  inRate : List Nat
  inNow : Nat
  nextDsn : Nat
  nextRseq : Nat
  wp : Nat
  wrap : Nat
  apWrap : Nat
  dir : KMap Nat
  wraps : KMap (Nat × Nat)
  sets : List WSet
  cur : Option Nat
  group : Option C3Group
  pend : List PendRw
  copies : List Nat
  redo : List Nat
  rwLast : List (Nat × Nat)
  plan : WPlan
  appended : Bool
  placed : Bool
  shortSince : Option Nat
  fillers : Nat
  badAhead : Bool
  inhibit : Option Nat
  -- reading
  words : List RWord
  got : KMap RSet
  lost : List Nat
  recQ : List RecFrame
  rereads : Nat
  captured : Nat
  idents : List Ident
  -- calibration
  zones : KMap ZEntry
  calRes : KMap ZEntry
  tracks : KMap Trk
  staleSince : Option Nat
  recalRun : Bool
  paused : Bool
  -- servo
  goodRun : Nat
  badRun : Nat
  okRun : Nat
  integ : Int
  ePrev : Int
  u : Int
  coarse : Bool
  lastWord : Option (Nat × Nat)
  travel : Nat
  -- reels: the command sent, speed now and asked for in units of 0.5 mm/s (positive toward LAD_END), the change per
  -- setpoint frame, the last status frame
  cmd : Nat
  speed : Int
  goal : Int
  rate : Nat
  tensionOk : Bool
  reelFault : Bool
  radii : Nat × Nat
  statusAt : Nat
  -- background
  zonePass : List Nat
  passWarned : Bool
  idleSince : Nat
  bgDsn : Nat
deriving DecidableEq, Repr

/-- A transport with no cartridge, at rest. -/
def Tape.reset : Tape where
  mst := .none
  mountEid := 0
  unloadEid := 0
  endSt := (0, 0)
  since := 0
  mountCount := 0
  readOnly := false
  blank := false
  recovered := false
  noAccept := 0
  cm := []
  job := none
  queue := []
  stream := []
  streamLo := 0
  recs := []
  inputEnded := false
  inRate := []
  inNow := 0
  nextDsn := 0
  nextRseq := 0
  wp := 0
  wrap := 0
  apWrap := 0
  dir := []
  wraps := []
  sets := []
  cur := none
  group := none
  pend := []
  copies := []
  redo := []
  rwLast := []
  plan := .go
  appended := false
  placed := false
  shortSince := none
  fillers := 0
  badAhead := false
  inhibit := none
  words := []
  got := []
  lost := []
  recQ := []
  rereads := 0
  captured := 0
  idents := []
  zones := []
  calRes := []
  tracks := []
  staleSince := none
  recalRun := false
  paused := false
  goodRun := 0
  badRun := 0
  okRun := 0
  integ := 0
  ePrev := 0
  u := 0
  coarse := false
  lastWord := none
  travel := 0
  cmd := 1
  speed := 0
  goal := 0
  rate := 0
  tensionOk := false
  reelFault := false
  radii := (0, 0)
  statusAt := 0
  zonePass := List.replicate 64 0
  passWarned := false
  idleSince := 0
  bgDsn := 0

/-- The tape is at rest (R446). -/
def Tape.still (x : Tape) : Bool := x.speed == 0 && x.goal == 0

end Sys2Proof.Machine
end

