-- ==== Sys2Proof/Machine/State.lean ====
section
/-! DEFINITION. The state of the FV-8610: every register, table, queue and mode the manual gives it, and the queue of
the commands that wait. -/

namespace Sys2Proof.Machine

open Sys2Proof

/-- What the part is: -T2 or -T0 (R1, R3), and its HEAD_ID strap (R2). -/
structure Part where
  t2 : Bool
  headB : Bool
deriving DecidableEq, Repr

/-- The modelled part: a -T2 strapped as head A (DESIGN CHOICE, log entry 3). -/
def Part.reset : Part := ⟨true, false⟩

/-- The state. `regs` is the register bank: it lists the words that differ from their reset values (R14, R551);
`staged` and `latched` are the halves of R11 by the offset of the pair; `clk` counts the tick boundaries since AON
power-up (log entry 1); `fresh` the draws of the random source (log entry 2); `out` what the part has sent, oldest
first (log entry 4); `pending` the commands that wait, first in first out. -/
structure State where
  part : Part
  regs : KMap W32
  staged : KMap W32
  latched : KMap W32
  ez : Ez
  data : Data
  hrw : Hrw
  skl : Skl
  fpt : Fpt
  dhd : Dhd
  mem : MemSt
  hth : Hth
  crp : Crp
  thm : Thermal
  fld : Fld
  fuses : Fuses
  upd : Upd
  drv : Drv
  net : Net
  tape0 : Tape
  tape1 : Tape
  clk : Nat
  fresh : Nat
  out : List Tx
  pending : List Instr
deriving DecidableEq, Repr

/-- A step never ends in a fault: the manual gives every command of the table an effect, or says that it has none. -/
inductive Fault where
deriving DecidableEq, Repr

/-- Why a step is refused. -/
inductive Refusal where
  /-- Raised by a dispatch arm whose command has no meaning yet, with its mnemonic. Safe: the run stops. -/
  | notModelled (mnemonic : String)
deriving DecidableEq, Repr

/-- The machine right after the power-on reset: every field at its reset value, no command waiting. -/
def State.reset : State where
  part := Part.reset
  regs := []
  staged := []
  latched := []
  ez := Ez.reset
  data := Data.reset
  hrw := Hrw.reset
  skl := Skl.reset
  fpt := Fpt.reset
  dhd := Dhd.reset
  mem := MemSt.reset
  hth := Hth.reset
  crp := Crp.reset
  thm := Thermal.reset
  fld := Fld.reset
  fuses := Fuses.reset
  upd := Upd.reset
  drv := Drv.reset
  net := Net.reset
  tape0 := Tape.reset
  tape1 := Tape.reset
  clk := 0
  fresh := 0
  out := []
  pending := []

end Sys2Proof.Machine
end

