-- ==== Sys2Proof/Machine/Ops.lean ====
section
/-! DEFINITION. Operations every block shares: register fields, counters, what the part sends, free values, Fold
parameters, events and error latches, Skylark's queue. -/

namespace Sys2Proof.Machine

open Sys2Proof

/-! ## The register bank (R9 to R14) -/

/-- The word the bank holds at an offset. -/
def State.reg (s : State) (off : Nat) : W32 := KMap.getD s.regs off (regReset off)

/-- Set a word of the bank. A word equal to its reset value is not listed. -/
def State.setReg (s : State) (off : Nat) (v : W32) : State :=
  { s with regs := if v = regReset off then KMap.del s.regs off else KMap.put s.regs off v }

/-- Bits `hi` to `lo` of a word of the bank. -/
def State.rf (s : State) (off hi lo : Nat) : Nat := fieldOf (s.reg off).toNat hi lo

/-- Set bits `hi` to `lo` of a word of the bank. -/
def State.setRf (s : State) (off hi lo v : Nat) : State :=
  s.setReg off (BitVec.ofNat 32 (withField (s.reg off).toNat hi lo v))

/-- One bit of a word of the bank. -/
def State.rbit (s : State) (off i : Nat) : Bool := s.rf off i i == 1

/-- Set or clear one bit of a word of the bank. -/
def State.setRbit (s : State) (off i : Nat) (b : Bool) : State := s.setRf off i i (b2n b)

/-- Add to a field that saturates at all ones. -/
def State.bump (s : State) (off hi lo n : Nat) : State :=
  s.setRf off hi lo (satAdd (2 ^ (hi + 1 - lo) - 1) (s.rf off hi lo) n)

/-- The 64-bit value of a register pair (R11). -/
def State.pair (s : State) (lo : Nat) : Nat := (s.reg lo).toNat + 2 ^ 32 * (s.reg (lo + 4)).toNat

/-- Set a register pair. -/
def State.setPair (s : State) (lo v : Nat) : State :=
  (s.setReg lo (BitVec.ofNat 32 v)).setReg (lo + 4) (BitVec.ofNat 32 (v / 2 ^ 32))

/-- Add to a 64-bit count. -/
def State.addPair (s : State) (lo n : Nat) : State := s.setPair lo ((s.pair lo + n) % 2 ^ 64)

/-! ## What the part sends, time, free values -/

/-- Send something. -/
def State.emit (s : State) (t : Tx) : State := { s with out := s.out ++ [t] }

/-- Send several things, in order. -/
def State.emits (s : State) (ts : List Tx) : State := { s with out := s.out ++ ts }

/-- Draw bytes from the random source (R63, R64, R93, R152). -/
def State.drawn (s : State) (n : Nat) : Bytes := (List.range n).map fun i => Config.random s.fresh i

/-- Move the random source on. -/
def State.nextDraw (s : State) : State := { s with fresh := s.fresh + 1 }

/-- A number the manual does not state: one value per draw, entry and arguments (the entry is that of the log). -/
def State.unstated (s : State) (entry : Nat) (args : List Nat) : Nat := Config.unstated entry (s.fresh :: args)

/-- Tick boundaries in a number of milliseconds: three ticks last exactly 1 ms (R471). -/
def msTicks (ms : Nat) : Nat := 3 * ms

/-- FLD_TICK (R472). -/
def State.tick (s : State) : Nat := s.pair Reg.fldTickLo

/-- The power state shown (R461): 2 while the CORE island is off. -/
def State.inP2 (s : State) : Bool := s.rf Reg.crpStatus 1 0 == 2

/-- Fold has booted (R42). -/
def State.ready (s : State) : Bool := s.rbit Reg.fldStatus 0

/-! ## Fold parameters (R80 to R83) -/

/-- The default of a parameter at its place. DHD_home's default depends on the head (R36). -/
def State.parDefault (s : State) (p : Nat) : Nat :=
  if p = Par.dhdHome then (if s.part.headB then 0xF0 else 0x0F) else (parInfo p).dflt

/-- The value of a parameter in force. -/
def State.par (s : State) (p : Nat) : Nat := KMap.getD s.ez.par p (s.parDefault p)

/-! ## Update helpers for the large parts of the state -/

/-- Change the Ezlin part. -/
def State.onEz (s : State) (f : Ez → Ez) : State := { s with ez := f s.ez }
/-- Change the data path. -/
def State.onData (s : State) (f : Data → Data) : State := { s with data := f s.data }
/-- Change Hedgerow. -/
def State.onHrw (s : State) (f : Hrw → Hrw) : State := { s with hrw := f s.hrw }
/-- Change Skylark. -/
def State.onSkl (s : State) (f : Skl → Skl) : State := { s with skl := f s.skl }
/-- Change the flash ports. -/
def State.onFpt (s : State) (f : Fpt → Fpt) : State := { s with fpt := f s.fpt }
/-- Change dual-head operation. -/
def State.onDhd (s : State) (f : Dhd → Dhd) : State := { s with dhd := f s.dhd }
/-- Change DDR. -/
def State.onMem (s : State) (f : MemSt → MemSt) : State := { s with mem := f s.mem }
/-- Change Heather. -/
def State.onHth (s : State) (f : Hth → Hth) : State := { s with hth := f s.hth }
/-- Change clocks and power. -/
def State.onCrp (s : State) (f : Crp → Crp) : State := { s with crp := f s.crp }
/-- Change Fold's own work. -/
def State.onFld (s : State) (f : Fld → Fld) : State := { s with fld := f s.fld }
/-- Add to a cumulative 64-bit count of R484. -/
def State.tally (s : State) (i n : Nat) : State :=
  s.onFld fun f => { f with counts := f.counts.set i ((f.counts.getD i 0 + n) % 2 ^ 64) }

/-- Change update and attestation. -/
def State.onUpd (s : State) (f : Upd → Upd) : State := { s with upd := f s.upd }
/-- Change Drover. -/
def State.onDrv (s : State) (f : Drv → Drv) : State := { s with drv := f s.drv }

/-- A transport. -/
def State.tape (s : State) (t : Nat) : Tape := if t = 0 then s.tape0 else s.tape1

/-- Change a transport. -/
def State.onTape (s : State) (t : Nat) (f : Tape → Tape) : State :=
  if t = 0 then { s with tape0 := f s.tape0 } else { s with tape1 := f s.tape1 }

/-! ## Hedgerow: edges and levels (R423 to R425, R430, R433, R438) -/

/-- Level sources (R423). -/
def srcIsLevel (n : Nat) : Bool := (0x500 ≤ n && n < 0x600) || (0x620 ≤ n && n < 0x630)

/-- Sources that exist: those from 0x630 on are never pending (R423). -/
def srcExists (n : Nat) : Bool := decide (n < 0x630)

/-- Sources served while the CORE island is off (R440). -/
def srcInP2 (n : Nat) : Bool := decide (n < 0x400) || (0x600 ≤ n && n < 0x630)

/-- A source. -/
def State.src (s : State) (n : Nat) : Src := KMap.getD s.hrw.srcs n Src.reset

/-- Set a source; one at its reset value is not listed. -/
def State.setSrc (s : State) (n : Nat) (x : Src) : State :=
  s.onHrw fun h => { h with srcs := if x = Src.reset then KMap.del h.srcs n else KMap.put h.srcs n x }

/-- A vector of a function. -/
def State.vec (s : State) (fn v : Nat) : Vec := KMap.getD s.hrw.vecs (fn * 2048 + v) Vec.reset

/-- Set a vector. -/
def State.setVec (s : State) (fn v : Nat) (x : Vec) : State :=
  s.onHrw fun h =>
    { h with vecs := if x = Vec.reset then KMap.del h.vecs (fn * 2048 + v) else KMap.put h.vecs (fn * 2048 + v) x }

/-- A function's power and interrupt state. -/
def State.fn (s : State) (f : Nat) : Fn := KMap.getD s.hrw.fns f Fn.reset

/-- Set a function's power and interrupt state. -/
def State.setFn (s : State) (f : Nat) (x : Fn) : State :=
  s.onHrw fun h => { h with fns := if x = Fn.reset then KMap.del h.fns f else KMap.put h.fns f x }

/-- A target. -/
def State.tgt (s : State) (t : Nat) : Tgt := KMap.getD s.hrw.tgts t Tgt.reset

/-- Set a target. -/
def State.setTgt (s : State) (t : Nat) (x : Tgt) : State :=
  s.onHrw fun h => { h with tgts := if x = Tgt.reset then KMap.del h.tgts t else KMap.put h.tgts t x }

/-- A function's vectors sleep while it is in D3hot or its MSI-X Enable or Bus Master Enable is 0 (R438). -/
def Fn.asleep (f : Fn) : Bool := f.d3 || !f.msixEn || !f.bme

/-- Count an edge in the batch of a vector, opening one under the moderation in force (R433). -/
def Vec.countEdge (v : Vec) (n : Nat) : Vec :=
  match v.batch with
  | none => { v with batch := some ⟨[n], max 1 v.count, max 1 v.time⟩ }
  | some b => { v with batch := some { b with edges := b.edges ++ [n] } }

/-- Ask a function to wake: PM_PME from D3hot where PME_En is set (R438). -/
def State.wakeFn (s : State) (f : Nat) : State :=
  let x := s.fn f
  if x.d3 && x.pmeEn && !x.pmeStatus then (s.setFn f { x with pmeStatus := true }).emit (.pme f) else s

/-- Ask an internal target to wake: a core's wake line (R438). Host polling targets never sleep (R426). -/
def State.wakeTgt (s : State) (t : Nat) : State :=
  let x := s.tgt t
  if t < 8 && x.asleep && !x.wakeReq then
    (s.setTgt t { x with wakeReq := true, wakeSince := s.clk }).emit (.coreWake t)
  else s

/-- Deliver an edge of an unmasked source: count it toward its vector's batch, or wake its target if that sleeps. A
source routed to an awake internal target is presented by its pending bit alone (R426). -/
def State.deliver (s : State) (n : Nat) : State :=
  let x := s.src n
  if x.route.msix then
    if (s.fn x.route.fn).asleep then
      (s.setSrc n { x with asleepAt := some (x.asleepAt.getD s.clk) }).wakeFn x.route.fn
    else s.setVec x.route.fn x.route.vector ((s.vec x.route.fn x.route.vector).countEdge n)
  else if x.route.target < 8 && (s.tgt x.route.target).asleep then
    (s.setSrc n { x with asleepAt := some (x.asleepAt.getD s.clk) }).wakeTgt x.route.target
  else s

/-- A rising edge of a source (R424): it sets the pending bit, and an unmasked source is delivered. A source that
does not exist, or that cannot latch while the CORE island is off, changes nothing. -/
def State.edge (s : State) (n : Nat) : State :=
  if !srcExists n || (s.inP2 && !srcInP2 n) then s
  else
    let x := s.src n
    let s := s.setSrc n { x with pend := true }
    if x.mask then s else s.deliver n

/-- The level of a level source (R424): an edge when it rises. -/
def State.setLevel (s : State) (n : Nat) (b : Bool) : State :=
  let x := s.src n
  let s' := s.setSrc n { x with level := b }
  if b && !x.level then s'.edge n else s'

/-- The source of the level event of a register or a named condition: Fold assigns the numbers of 0x500 to 0x5FF
(R423; log entry 7). -/
def eventSrc (k : Nat) : Nat := 0x500 + Config.eventNo k % 256

/-- Raise the event of a field whose bits stay set until software clears them: its level rises, or, where it is high already,
another edge comes. -/
def State.raise (s : State) (k : Nat) : State :=
  if (s.src (eventSrc k)).level then s.edge (eventSrc k) else s.setLevel (eventSrc k) true

/-- Raise an event that has no level of its own to hold: its source rises and falls again (log entry 12). -/
def State.event (s : State) (k : Nat) : State := (s.setLevel (eventSrc k) true).setLevel (eventSrc k) false

/-! ## Skylark's queue (R492, R494) -/

/-- Count a lost event (R494, R496, R497): the block of the first is kept. -/
def Skl.lose (k : Skl) (block : Nat) : Skl :=
  { k with lost := satAdd 0xFFFF k.lost 1, firstBlock := if k.lost = 0 then block else k.firstBlock }

/-- Queue an event for Skylark; one that finds the queue of 64 full is lost and counted. -/
def State.record (s : State) (e : SklEv) : State :=
  s.onSkl fun k => if k.queue.length < 64 then { k with queue := k.queue ++ [e] } else k.lose e.block

/-- The severity of an event, which the manual leaves open for all but the CLEAR record (log entry 11). -/
def sevOf (block cause : Nat) : Nat := Config.unstated 11 [block, cause] % 4

/-- A Fold event of a block about an instance, with an argument (R492). -/
def State.sklFold (s : State) (block inst cause arg : Nat) : State :=
  s.record ⟨block, inst, cause, true, sevOf block cause, 0, 0, 0xFFFF, arg⟩

/-- A hardware event of a block about an instance, with an argument. -/
def State.sklHw (s : State) (block inst cause arg : Nat) : State :=
  s.record ⟨block, inst, cause, false, sevOf block cause, 0, 0, 0xFFFF, arg⟩

/-- A Fold event that carries a failed command's status. -/
def State.sklStatus (s : State) (block inst cause status detail arg : Nat) : State :=
  s.record ⟨block, inst, cause, true, sevOf block cause, status, detail, 0xFFFF, arg⟩

/-- Write a last word (R498): the first four are kept, further ones counted. -/
def State.lastWord (s : State) (kind dat : Nat) : State :=
  let w : LastWord := ⟨kind, dat % 2 ^ 13, s.tick % 2 ^ 16⟩
  s.onSkl fun k =>
    if k.lw.length < 4 then { k with lw := k.lw ++ [w] } else { k with lwLost := satAdd 0xFF k.lwLost 1 }

/-! ## Error registers -/

/-- Where an ERR register keeps its instance, CAUSE and MORE; VALID is bit 31. -/
structure ErrReg where
  off : Nat
  ih : Nat
  il : Nat
  ch : Nat
  cl : Nat
  mh : Nat
  ml : Nat
deriving DecidableEq, Repr

/-- Latch an error: the first is kept with its instance and cause and raises the register's level event, further ones
count in MORE up to 255. -/
def State.latch (s : State) (r : ErrReg) (inst cause : Nat) : State :=
  if s.rbit r.off 31 then s.bump r.off r.mh r.ml 1
  else
    ((((s.setRf r.off r.ih r.il inst).setRf r.off r.ch r.cl cause).setRf r.off r.mh r.ml 0).setRbit r.off 31
      true).setLevel (eventSrc r.off) true

/-- FLD_RING_ERR. -/
def errRing : ErrReg := ⟨Reg.fldRingErr, 9, 0, 15, 12, 23, 16⟩
/-- SWD_ERR. -/
def errSwd : ErrReg := ⟨Reg.swdErr, 3, 0, 7, 4, 15, 8⟩
/-- GRS_ERR. -/
def errGrs : ErrReg := ⟨Reg.grsErr, 4, 0, 11, 8, 19, 12⟩
/-- BRK_ERR. -/
def errBrk : ErrReg := ⟨Reg.brkErr, 2, 0, 11, 8, 19, 12⟩
/-- THS_ERR. -/
def errThs : ErrReg := ⟨Reg.thsErr, 4, 0, 11, 8, 19, 12⟩
/-- TSK_ERR. -/
def errTsk : ErrReg := ⟨Reg.tskErr, 2, 0, 11, 8, 19, 12⟩
/-- FPT_ERR. -/
def errFpt : ErrReg := ⟨Reg.fptErr, 3, 0, 11, 8, 19, 12⟩
/-- WDR_ERR of a transport (it names no instance: its low bits are reserved). -/
def errWdr (t : Nat) : ErrReg := ⟨Reg.wdrErr t, 11, 8, 11, 8, 19, 12⟩
/-- GLN_ERR of a transport. -/
def errGln (t : Nat) : ErrReg := ⟨Reg.glnErr t, 5, 0, 11, 8, 19, 12⟩
/-- GLN_SRV_ERR of a transport. -/
def errSrv (t : Nat) : ErrReg := ⟨Reg.glnSrvErr t, 11, 8, 11, 8, 19, 12⟩
/-- DRV_ERR. -/
def errDrv : ErrReg := ⟨Reg.drvErr, 15, 0, 19, 16, 27, 20⟩
/-- NET_ERR: PORT and SUB as one field, port in bit 0. -/
def errNet : ErrReg := ⟨Reg.netErr, 3, 0, 11, 8, 19, 12⟩
/-- DHD_ERR. -/
def errDhd : ErrReg := ⟨Reg.dhdErr, 2, 0, 11, 8, 19, 12⟩
/-- MEM_ERR. -/
def errMem : ErrReg := ⟨Reg.memErr, 4, 0, 11, 8, 19, 12⟩
/-- HRW_ERR. -/
def errHrw : ErrReg := ⟨Reg.hrwErr, 11, 0, 15, 12, 23, 16⟩
/-- UPD_ERR. -/
def errUpd : ErrReg := ⟨Reg.updErr, 9, 0, 15, 12, 23, 16⟩

/-- The ERR registers that an offset may name when VALID is cleared by a write (R12). -/
def errRegs : List ErrReg :=
  [errRing, errSwd, errGrs, errBrk, errThs, errTsk, errFpt, errWdr 0, errWdr 1, errGln 0, errGln 1, errSrv 0,
    errSrv 1, errDrv, errNet, errDhd, errMem, errHrw, errUpd]

end Sys2Proof.Machine
end

