-- ==== Sys2Proof/Machine/Ezlin.lean ====
section
/-! DEFINITION. Ezlin: the packet's fields, the checks of R54, the queues of consumed commands, and the writing of
replies (R45 to R59). -/

namespace Sys2Proof.Machine

open Sys2Proof

/-! ## Status codes (R15) -/

/-- OK. -/
abbrev St.ok : Nat := 0x0000
/-- PENDING. -/
abbrev St.pending : Nat := 0x0001
/-- LENGTH_SHORT. -/
abbrev St.lengthShort : Nat := 0x0010
/-- LENGTH_LONG. -/
abbrev St.lengthLong : Nat := 0x0011
/-- NO_SPACE. -/
abbrev St.noSpace : Nat := 0x0012
/-- LENGTH_LIMIT. -/
abbrev St.lengthLimit : Nat := 0x0013
/-- CHECK_MISMATCH. -/
abbrev St.checkMismatch : Nat := 0x0020
/-- UNCORRECTABLE. -/
abbrev St.uncorrectable : Nat := 0x0021
/-- STRIPE_LOST. -/
abbrev St.stripeLost : Nat := 0x0022
/-- MEDIA_ERROR. -/
abbrev St.mediaError : Nat := 0x0023
/-- SESSION_REQUIRED. -/
abbrev St.sessionRequired : Nat := 0x0030
/-- ACCESS_DENIED. -/
abbrev St.accessDenied : Nat := 0x0031
/-- KEY_REVOKED. -/
abbrev St.keyRevoked : Nat := 0x0032
/-- ROLE_CONFLICT. -/
abbrev St.roleConflict : Nat := 0x0033
/-- BUSY. -/
abbrev St.busy : Nat := 0x0040
/-- ENABLE_QUEUED. -/
abbrev St.enableQueued : Nat := 0x0041
/-- NOT_INVALIDATED. -/
abbrev St.notInvalidated : Nat := 0x0042
/-- INVALID_OPCODE. -/
abbrev St.invalidOpcode : Nat := 0x0050
/-- INVALID_PARAM. -/
abbrev St.invalidParam : Nat := 0x0051
/-- TIMEOUT. -/
abbrev St.timeout : Nat := 0x0060
/-- ABORTED. -/
abbrev St.aborted : Nat := 0x0061
/-- PATH_DOWN. -/
abbrev St.pathDown : Nat := 0x0062
/-- INTERNAL. -/
abbrev St.internal : Nat := 0x00F0

/-! ## The packet (R51, R52) -/

/-- OPCODE. -/
def pktOp (p : Bytes) : Nat := leAt p 0 2
/-- FLAGS. -/
def pktFlags (p : Bytes) : Nat := leAt p 2 2
/-- SEQ. -/
def pktSeq (p : Bytes) : Nat := leAt p 4 2
/-- SESSION_TAG. -/
def pktTag (p : Bytes) : Nat := leAt p 8 4
/-- HANDLE. -/
def pktHandle (p : Bytes) : Nat := leAt p 12 8
/-- PARAMS. -/
def pktParams (p : Bytes) : Bytes := slice p 20 40
/-- A flag of FLAGS. -/
def pktFlag (p : Bytes) (i : Nat) : Bool := bitAt (pktFlags p) i

/-- The parameter area of a command: its block when FLAGS.PBLK is set, else PARAMS (R43). -/
def Entry.area (e : Entry) : Bytes := if pktFlag e.pkt 0 then e.blk else pktParams e.pkt

/-- A little-endian field of the parameter area. -/
def Entry.p (e : Entry) (lo n : Nat) : Nat := leAt e.area lo n

/-- OPCODE of a queued command. -/
def Entry.op (e : Entry) : Nat := pktOp e.pkt

/-- HANDLE of a queued command. -/
def Entry.h (e : Entry) : Nat := pktHandle e.pkt

/-- SESSION_TAG of a queued command. -/
def Entry.tag (e : Entry) : Nat := pktTag e.pkt

/-! ## Sessions as the checks see them (R60 to R63, R67) -/

/-- The session a packet's tag names for a function: open, not past its close point, and of that function. -/
def State.sessionFor (s : State) (fn tag : Nat) : Option Session :=
  match KMap.get? s.ez.sessions tag with
  | none => none
  | some x => if x.fn == fn && !x.closing then some x else none

/-- Whether a session's role permits an opcode's Roles column (R60, R62). A provisioning session issues only
ROLE_KEY_SET, SESSION_CLOSE and the Any opcodes (R67). -/
def rolePermits (x : Session) (o : OpSpec) : Bool :=
  if x.prov then o.roles == .any || o.code == 0x0005
  else
    match o.roles with
    | .n => true
    | .any => true
    | .op => x.role == 2 || x.role == 3
    | .ex => x.role == 3
    | .mn => x.role == 4
    | .opMn => x.role == 2 || x.role == 3 || x.role == 4
    | .perParam => true

/-- Detail of SESSION_REQUIRED (R63). -/
def State.tagDetail (s : State) (fn tag : Nat) : Nat :=
  let closing := match KMap.get? s.ez.sessions tag with
    | some x => x.fn == fn && x.closing
    | none => false
  if closing || (s.ez.ended.contains (tag, fn) && s.ez.issued.contains tag) then 0x0202 else 0x0201

/-! ## The checks of R54 -/

/-- Opcodes refused until DDR is initialised (R406). -/
def needsDdr (c : Nat) : Bool :=
  (0x0101 ≤ c && c ≤ 0x0131) || (0x0201 ≤ c && c ≤ 0x0212) || c / 256 == 0x10 || c / 256 == 0x20
    || (0x3001 ≤ c && c ≤ 0x3006) || c == 0x5003 || c == 0x5004 || c == 0x5005 || c == 0x5007
    || c == 0x6005 || c == 0x6010 || c == 0x6011

/-- Opcodes served in P2 (R465). -/
def servedInP2 (c : Nat) : Bool :=
  [0x0001, 0x0003, 0x0004, 0x0010, 0x0011, 0x0012, 0x0013, 0x6001, 0x6002, 0x6003, 0x6012, 0x3007, 0x7001, 0x7002,
    0x7F01, 0x7F02].contains c

/-- Step 6 of R54: the parameter block (R53, and R487 on ring 1,023). -/
def checkBlock (ring : Nat) (o : OpSpec) (pkt : Bytes) (blk : Fetch) : Option (Nat × Nat) :=
  let ps := pktParams pkt
  if !pktFlag pkt 0 then (if needsBlock o ps then some (St.invalidParam, 0x0103) else none)
  else
    let adr := leAt ps 0 8
    let len := leAt ps 8 4
    if adr % 64 != 0 || len % 64 != 0 || len < 64 || len > 65536 then some (St.invalidParam, 0x0103)
    else if ring == 1023 && adr + len > 0x100000 then some (St.invalidParam, 0x1E01)
    else
      match blk with
      | .ok b => if len < minBlock o b then some (St.invalidParam, 0x0103) else none
      | _ => some (St.invalidParam, 0x0108)

/-- Step 7 of R54: reserved fields of the packet and of its parameter area are zero. -/
def State.checkReserved (s : State) (o : OpSpec) (pkt blk : Bytes) : Bool :=
  let pb := pktFlag pkt 0
  let a := if pb then blk.take (dataFrom o blk.length) else pktParams pkt
  pktFlags pkt / 32 == 0 && leAt pkt 6 2 == 0
    && reservedZero (handleField o a) 0 (slice pkt 12 8)
    && (o.roles != .n || pktTag pkt == 0)
    && (!pb || allZero (slice pkt 32 28))
    && reservedZero (areaFields o pb (s.par Par.slotCfg) a) 0 a

/-- The checks of R54 before an opcode's own, in order: the status and detail of the first that fails. -/
def State.checkPacket (s : State) (ring fn : Nat) (pkt : Bytes) (blk : Fetch) : Option (Nat × Nat) :=
  if pktFlag pkt 1 && crc32c (pkt.take 60) != leAt pkt 60 4 then some (St.invalidParam, 0x0101)
  else
    match opOf (pktOp pkt) with
    | none => some (St.invalidOpcode, 0x0001)
    | some o =>
      if !s.part.t2 && o.code / 256 == 0x20 then some (St.invalidOpcode, 0x0002)
      else
        let ses := s.sessionFor fn (pktTag pkt)
        if o.roles != .n && ses.isNone then some (St.sessionRequired, s.tagDetail fn (pktTag pkt))
        else if ring == 1023 && o.roles != .n
            && (o.code == 0x0005 || !(ses.any fun x => x.role == 1 || x.role == 4)) then
          some (St.accessDenied, 0x0304)
        else if o.roles != .n && !(ses.any fun x => rolePermits x o) then some (St.accessDenied, 0x0301)
        else
          match checkBlock ring o pkt blk with
          | some r => some r
          | none =>
            let b := match blk with
              | .ok b => if pktFlag pkt 0 then padTo b (min (leAt (pktParams pkt) 8 4) 65536) else []
              | _ => []
            if !s.checkReserved o pkt b then some (St.invalidParam, 0x0102)
            else if (s.inP2 || s.crp.trans == 1) && !servedInP2 o.code then some (St.busy, 0x1D04)
            else if !s.rbit Reg.memStatus 1 && needsDdr o.code then some (St.busy, 0x1B01)
            else none

/-! ## Rings -/

/-- A submission ring. -/
def State.sq (s : State) (r : Nat) : Option Sq := KMap.get? s.ez.sqs r

/-- Set a submission ring. -/
def State.setSq (s : State) (r : Nat) (q : Sq) : State := s.onEz fun z => { z with sqs := KMap.put z.sqs r q }

/-- A completion ring. -/
def State.cq (s : State) (c : Nat) : Option Cq := KMap.get? s.ez.cqs c

/-- Set a completion ring. -/
def State.setCq (s : State) (c : Nat) (q : Cq) : State := s.onEz fun z => { z with cqs := KMap.put z.cqs c q }

/-- The rings bound to a completion ring, lowest first. -/
def State.boundRings (s : State) (c : Nat) : List Nat :=
  (s.ez.sqs.filter fun p => p.2.cq == c).map (·.1)

/-- Whether a ring has outstanding commands. -/
def State.outstanding (s : State) (r : Nat) : Bool := s.ez.queue.any fun e => e.ring == r

/-- Put a ring into Error with a cause (R47); a ring already there keeps its cause. -/
def State.ringErr (s : State) (r cause : Nat) : State :=
  let s := match s.sq r with
    | none => s
    | some q => if q.err == 0 then s.setSq r { q with err := cause } else s
  s.latch errRing r cause

/-- Put several rings into Error. -/
def State.ringErrs (s : State) (rs : List Nat) (cause : Nat) : State := rs.foldl (fun s r => s.ringErr r cause) s

/-! ## Replies (R56, R57, R59) -/

/-- The 32 bytes of a reply. -/
def replyBytes (r : Reply) (sqHead : Nat) (phase : Bool) : Bytes :=
  leBytes 2 r.status ++ leBytes 2 r.detail ++ leBytes 2 r.seq ++ leBytes 2 r.ring ++ leBytes 2 sqHead
    ++ leBytes 1 (b2n phase) ++ [0] ++ leBytes 4 r.tag ++ padTo r.result 16

/-- Free a command's queue entry and let the rings that waited for room or a fence be looked at again. -/
def State.freeEntry (s : State) (eid : Nat) : State :=
  s.onEz fun z => { z with queue := z.queue.filter (fun e => e.eid != eid), blocked := [] }

/-- An Ezlin datagram of the out-of-band port (R486). -/
def oobDatagram (ty xid woff : Nat) (body : Bytes) : Bytes :=
  [1, byteOf ty] ++ leBytes 2 body.length ++ leBytes 4 xid ++ leBytes 4 woff ++ body

/-- Send a reply of ring 1,023 as a datagram and hold it with its packet (R487). -/
def State.oobReply (s : State) (r : Reply) (body : Bytes) : State :=
  let hit := s.fld.heldOob.find? fun h => h.eid == r.eid
  let xid := (hit.map (·.xid)).getD 0
  (s.onFld fun f =>
    { f with heldOob := f.heldOob.map fun h => if h.eid == r.eid then { h with reply := some body } else h }).emit
    (.oob 2 (oobDatagram 2 xid 0 body))

/-- Write a reply into its completion ring, which is usable and not full. A write the host link refuses is not
retried: the completion ring becomes unusable and every ring bound to it enters Error (R47). -/
def State.commitReply (s : State) (q : Sq) (c : Cq) (r : Reply) : State :=
  let s := if r.fin then s.freeEntry r.eid else s
  if r.ring == 1023 then s.oobReply r (replyBytes r q.head c.phase)
  else if !r.ok then
    let rs := s.boundRings q.cq
    (s.setCq q.cq { c with usable := false, needReset := rs }).ringErrs rs 3
  else
    let size := 2 ^ c.log2
    let wrap := c.wp + 1 == size
    let s := s.emit (.hostWrite q.fn (c.base + 32 * c.wp) (replyBytes r q.head c.phase))
    let s := s.setCq q.cq
      { c with wp := if wrap then 0 else c.wp + 1, phase := if wrap then !c.phase else c.phase, unread := c.unread + 1 }
    if r.noint then s else s.edge r.ring

/-- Write, hold or lose a reply (R47, R59). -/
def State.reply (s : State) (r : Reply) : State :=
  match s.sq r.ring with
  | none => if r.fin then s.freeEntry r.eid else s
  | some q =>
    match s.cq q.cq with
    | none => if r.fin then s.freeEntry r.eid else s
    | some c =>
      if !c.usable then (if r.fin then s.freeEntry r.eid else s)
      else if r.ring != 1023 && (!c.held.isEmpty || c.unread ≥ 2 ^ c.log2) then
        s.setCq q.cq { c with held := c.held ++ [r] }
      else s.commitReply q c r

/-- Write as many held replies as a completion ring has room for, in order. -/
def State.releaseHeld (c : Nat) : Nat → State → State
  | 0, s => s
  | n + 1, s =>
    match s.cq c with
    | none => s
    | some q =>
      match q.held with
      | [] => s
      | r :: rest =>
        if !q.usable then
          State.releaseHeld c n (if r.fin then (s.setCq c { q with held := rest }).freeEntry r.eid
            else s.setCq c { q with held := rest })
        else if q.unread ≥ 2 ^ q.log2 then s
        else
          match s.sq r.ring with
          | none => State.releaseHeld c n (s.setCq c { q with held := rest })
          | some k => State.releaseHeld c n ((s.setCq c { q with held := rest }).commitReply k
              { q with held := rest } r)

/-- The reply of a command with a status, detail and result. -/
def Entry.reply (e : Entry) (fin : Bool) (st dt : Nat) (res : Bytes) : Reply :=
  { eid := e.eid, ring := e.ring, seq := pktSeq e.pkt, tag := e.tag, status := st, detail := dt, result := res,
    fin := fin, noint := fin && pktFlag e.pkt 3, ok := e.replyOk }

/-- The final reply of a command. -/
def State.final (s : State) (e : Entry) (st dt : Nat) (res : Bytes) : State := s.reply (e.reply true st dt res)

/-- A final reply with no result. -/
def State.fail (s : State) (e : Entry) (st dt : Nat) : State := s.final e st dt []

/-- The final reply where the manual gives an outcome no status: its status and detail are free values (log entry
22). -/
def State.failSilent (s : State) (e : Entry) (k : Nat) : State :=
  s.final e (s.unstated 22 [k, 0] % 65536) (s.unstated 22 [k, 1] % 65536) []

/-- The final reply OK. -/
def State.okReply (s : State) (e : Entry) (res : Bytes) : State := s.final e St.ok 0 res

/-- Whether a full completion ring already holds a command's final reply (R59). -/
def State.finalHeld (s : State) (eid : Nat) : Bool :=
  s.ez.cqs.any fun c => c.2.held.any fun r => r.fin && r.eid == eid

/-- A PENDING reply, unless the command is the hardware state machine's, carries NOPEND or has had one (R58). -/
def State.pendReply (s : State) (e : Entry) : State :=
  if e.hw || e.pended || pktFlag e.pkt 4 then s
  else
    (s.onEz fun z => { z with queue := z.queue.map fun x => if x.eid == e.eid then { x with pended := true } else x }).reply
      (e.reply false St.pending 0 [])

/-! ## The queues (R49, R50) -/

/-- A consumed command by its entry. -/
def State.entry (s : State) (eid : Nat) : Option Entry := s.ez.queue.find? fun e => e.eid == eid

/-- The final reply of a command named by its entry, if it is still held. -/
def State.finalOf (s : State) (eid st dt : Nat) (res : Bytes) : State :=
  match s.entry eid with
  | none => s
  | some e => s.final e st dt res

/-- Whether a command starts now: it has the opcode, has not begun, and every earlier command of its queue has begun
(R50). -/
def State.startable (s : State) (eid code : Nat) : Option Entry :=
  match s.entry eid with
  | none => none
  | some e =>
    if e.op == code && !e.begun && s.ez.queue.all (fun x => x.hw != e.hw || x.begun || decide (e.eid ≤ x.eid)) then some e
    else none

/-- Mark a command begun. -/
def State.markBegun (s : State) (eid : Nat) : State :=
  s.onEz fun z => { z with queue := z.queue.map fun x => if x.eid == eid then { x with begun := true } else x }

/-- Run a command's own step if it starts now and satisfies a test. -/
def State.cmdIf (s : State) (eid code : Nat) (p : Entry → Bool) (f : State → Entry → State) : State :=
  match s.startable eid code with
  | none => s
  | some e => if p e then f (s.markBegun eid) e else s

/-- Run a command's own step (step 9 of R54) if it starts now. -/
def State.cmd (s : State) (eid code : Nat) (f : State → Entry → State) : State :=
  match s.startable eid code with
  | none => s
  | some e => f (s.markBegun eid) e

/-- The commands consumed before a point and not yet replied to, that satisfy a test. -/
def State.admitted (s : State) (p : Entry → Bool) : List Nat := (s.ez.queue.filter p).map (·.eid)

/-- None of the commands of a list is still held. -/
def State.allDone (s : State) (eids : List Nat) : Bool := eids.all fun i => (s.entry i).isNone

end Sys2Proof.Machine
end

