-- ==== Sys2Proof/Machine/Rings.lean ====
section
/-! DEFINITION. Rings: doorbells, the admin ring, the consumption arbiter, RING_ opcodes and PENDING replies (R41 to
R50, R58, R59, R557, R558). -/

namespace Sys2Proof.Machine

open Sys2Proof

/-! ## Doorbells (R44 to R47, R59) -/

/-- Ring 0 is enabled exactly while FLD_ADM_CTRL.EN is 1; every other ring is from its creation. -/
def State.ringOn (s : State) (r : Nat) : Bool := r != 0 || s.rbit Reg.fldAdmCtrl 0

/-- The ring whose doorbells a function's BAR0 holds at a slot: ring `slot` of the physical function, or the ring at
the slot of a virtual function (R44). Ring 1,023 has none. -/
def State.doorbellRing (s : State) (fn slot : Nat) : Option Nat :=
  (s.ez.sqs.find? fun p => p.1 != 1023 && p.2.fn == fn && (if fn = 0 then p.1 == slot else p.2.slot == slot)).map (·.1)

/-- A submission tail write (R45): a value beyond the ring is ignored and puts the ring into Error. -/
def State.tailDoorbell (s : State) (r : Nat) (q : Sq) (v : Nat) : State :=
  if v ≥ 2 ^ q.log2 then s.ringErr r 1 else s.setSq r { q with tail := v }

/-- A completion head write (R46, R59): a value beyond the ring makes it unusable and puts every ring bound to it into
Error; otherwise replies are released and held replies written. -/
def State.headDoorbell (s : State) (ci : Nat) (c : Cq) (v : Nat) : State :=
  let size := 2 ^ c.log2
  if v ≥ size then
    let rs := s.boundRings ci
    State.releaseHeld ci c.held.length ((s.setCq ci { c with usable := false, needReset := rs }).ringErrs rs 1)
  else
    State.releaseHeld ci c.held.length (s.setCq ci { c with head := v, unread := (c.wp + size - v) % size })

/-- SQ_TAIL_DOORBELL (R44, R45). -/
def execSqTailDoorbell (fn slot : Nat) (val : W32) (s : State) : Host.Outcome State Fault Refusal :=
  .next <|
    match s.doorbellRing fn slot with
    | none => s
    | some r =>
      match s.sq r with
      | none => s
      | some q => if s.ringOn r then s.tailDoorbell r q (fieldOf val.toNat 15 0) else s

/-- CQ_HEAD_DOORBELL (R44, R46, R59). -/
def execCqHeadDoorbell (fn slot : Nat) (val : W32) (s : State) : Host.Outcome State Fault Refusal :=
  .next <|
    match s.doorbellRing fn slot with
    | none => s
    | some r =>
      match s.sq r with
      | none => s
      | some q =>
        match s.cq q.cq with
        | none => s
        | some c => if s.ringOn r || s.outstanding r then s.headDoorbell q.cq c (fieldOf val.toNat 15 0) else s

/-! ## Creating, resetting and freeing rings -/

/-- A completion ring as it is created or reset (R47, R57). -/
def Cq.fresh (base log2 vector : Nat) : Cq :=
  { base := base, log2 := log2, wp := 0, head := 0, unread := 0, phase := true, usable := true, vector := vector,
    needReset := [], held := [] }

/-- Note that a ring bound to a completion ring has been reset or freed: once every ring bound to it since its failure
has been, it is usable again (R47). -/
def Cq.repaired (c : Cq) (r : Nat) : Cq :=
  let left := c.needReset.filter (· != r)
  { c with needReset := left, usable := c.usable || left.isEmpty }

/-- Reset a ring without outstanding commands (R47): its index and tail return to 0, and a completion ring it does not
share is reset with it. Packets that wait at the out-of-band port go with ring 1,023's index. -/
def State.resetRing (s : State) (r : Nat) : State :=
  match s.sq r with
  | none => s
  | some q =>
    let s := s.setSq r { q with head := 0, tail := 0, err := 0 }
    let s := if r = 1023 then s.onFld fun f => { f with oobQ := [] } else s
    match s.cq q.cq with
    | none => s
    | some c => s.setCq q.cq (if s.boundRings q.cq == [r] then Cq.fresh c.base c.log2 c.vector else c.repaired r)

/-- Free a ring (R558): its ID and slot, its completion ring with the last ring bound to that, and its source, which
returns to its reset route with its pending bit clear (R441). -/
def State.freeRing (s : State) (r : Nat) : State :=
  match s.sq r with
  | none => s
  | some q =>
    let s := (s.onEz fun z => { z with sqs := KMap.del z.sqs r }).setSrc r Src.reset
    if (s.boundRings q.cq).isEmpty then s.onEz fun z => { z with cqs := KMap.del z.cqs q.cq }
    else
      match s.cq q.cq with
      | none => s
      | some c => s.setCq q.cq (c.repaired r)

/-- The bases and sizes FLD_ADM_ gives ring 0: its submission base, completion base and sizes. -/
def State.admSqBase (s : State) : Nat := s.pair Reg.fldAdmSqBaseLo
/-- Ring 0's completion base. -/
def State.admCqBase (s : State) : Nat := s.pair Reg.fldAdmCqBaseLo

/-- Put ring 0 into service from FLD_ADM_ (R42). It keeps its completion ring where other rings share that. -/
def State.startRing0 (s : State) : State :=
  let n := s.rf Reg.fldAdmCtrl 8 4
  let m := s.rf Reg.fldAdmCtrl 16 12
  match s.sq 0 with
  | none =>
    let c := s.ez.nextCq
    ((s.onEz fun z => { z with nextCq := z.nextCq + 1 }).setCq c (Cq.fresh s.admCqBase m 0xFFFF)).setSq 0
      ⟨0, 0, s.admSqBase, n, 0, 0, 0, c, []⟩
  | some q =>
    let s := s.setSq 0 { q with base := s.admSqBase, log2 := n, tail := 0, head := 0, err := 0, drains := [] }
    match s.cq q.cq with
    | none => s
    | some c =>
      s.setCq q.cq (if s.boundRings q.cq == [0] then Cq.fresh s.admCqBase m 0xFFFF else c.repaired 0)

/-- What ends when a ring has no outstanding commands: a deletion, a reset, or ring 0's reset through EN. -/
def State.endDrain (r : Nat) (s : State) (d : Drain × Nat) : State :=
  match d.1 with
  | .delete => (s.freeRing r).finalOf d.2 St.ok 0 []
  | .reset => (s.resetRing r).finalOf d.2 St.ok 0 []
  | .admin => if s.rbit Reg.fldAdmCtrl 0 then s.startRing0 else s.resetRing r

/-- End the drains of a ring that has no outstanding commands (R47). -/
def State.drainDone (s : State) (r : Nat) : State :=
  match s.sq r with
  | none => s
  | some q =>
    if q.drains.isEmpty || s.outstanding r then s
    else q.drains.foldl (State.endDrain r) (s.setSq r { q with drains := [] })

/-- Make a ring wait for its outstanding commands for a reason. -/
def State.addDrain (s : State) (r : Nat) (d : Drain) (eid : Nat) : State :=
  match s.sq r with
  | none => s
  | some q => (s.setSq r { q with drains := q.drains ++ [(d, eid)] }).drainDone r

/-- RING_DRAIN_COMPLETE (R47, R558). -/
def execRingDrainComplete (ring : Nat) (s : State) : Host.Outcome State Fault Refusal := .next (s.drainDone ring)

/-! ## The admin ring (R42, R47) -/

/-- A size field outside 4 to 16 (R41). -/
def badLog2 (n : Nat) : Bool := decide (n < 4) || decide (n > 16)

/-- Store the size fields of a write of FLD_ADM_CTRL. -/
def State.admSizes (s : State) (v : Nat) : State :=
  (s.setRf Reg.fldAdmCtrl 8 4 (fieldOf v 8 4)).setRf Reg.fldAdmCtrl 16 12 (fieldOf v 16 12)

/-- ADM_CTRL_ENABLE (R42): no effect while READY is 0 or EN is 1; a size outside 4 to 16 leaves EN at 0 and latches
BAD_SIZE. -/
def execAdmCtrlEnable (val : W32) (s : State) : Host.Outcome State Fault Refusal :=
  .next <|
    if !s.ready || s.rbit Reg.fldAdmCtrl 0 then s
    else
      let s := s.admSizes val.toNat
      if badLog2 (s.rf Reg.fldAdmCtrl 8 4) || badLog2 (s.rf Reg.fldAdmCtrl 16 12) then s.latch errRing 0 4
      else
        let s := s.setRbit Reg.fldAdmCtrl 0 true
        if (s.sq 0).any (fun q => !q.drains.isEmpty) then s else s.startRing0

/-- ADM_CTRL_DISABLE (R47): clearing EN resets ring 0 after its outstanding commands; with EN already 0 the sizes are
stored. -/
def execAdmCtrlDisable (val : W32) (s : State) : Host.Outcome State Fault Refusal :=
  .next <|
    if s.rbit Reg.fldAdmCtrl 0 then (s.setRbit Reg.fldAdmCtrl 0 false).addDrain 0 .admin 0 else s.admSizes val.toNat

/-! ## Consumption (R48 to R50, R59) -/

/-- Whether a ring has a packet the arbiter may take: it is enabled and not in Error or draining, has unconsumed
packets (those of ring 1,023 wait at the out-of-band port), its completion ring is not full, and its next packet was not
found to wait. -/
def State.ringReady (s : State) (r : Nat) : Bool :=
  match s.sq r with
  | none => false
  | some q =>
    match s.cq q.cq with
    | none => false
    | some c =>
      s.ringOn r && q.err == 0 && q.drains.isEmpty && (if r == 1023 then !s.fld.oobQ.isEmpty else q.head != q.tail)
        && !s.ez.blocked.contains r
        && (r == 1023 || (c.held.isEmpty && decide (c.unread < 2 ^ c.log2)))

/-- The next ready general ring after the last winner (R48). -/
def State.nextRing (s : State) : Option Nat :=
  let rs := (s.ez.sqs.map (·.1)).filter fun r => r != 0 && r != 1023 && s.ringReady r
  match rs.find? fun r => decide (s.ez.lastWin < r) with
  | some r => some r
  | none => rs.head?

/-- The arbiter's choice and its place afterwards (R48): the rest of a turn; else ring 0 and ring 1,023 once each before
the turn that comes, if one does; else the next turn. -/
def State.arbitrate (s : State) : Option (Nat × Ez) :=
  let z := s.ez
  let coming := s.nextRing.isSome
  if z.turn != 0 && s.ringReady z.lastWin then some (z.lastWin, { z with turn := z.turn - 1 })
  else if !z.first0 && s.ringReady 0 then some (0, { z with turn := 0, first0 := coming || s.ringReady 1023 })
  else if !z.first1023 && s.ringReady 1023 then
    some (1023, { z with turn := 0, first0 := z.first0 && coming, first1023 := coming })
  else
    match s.nextRing with
    | some r =>
      some (r, { z with lastWin := r, turn := s.par Par.ringBurst - 1, first0 := false, first1023 := false })
    | none =>
      if s.ringReady 0 then some (0, { z with turn := 0, first0 := s.ringReady 1023, first1023 := false })
      else if s.ringReady 1023 then some (1023, { z with turn := 0, first0 := false, first1023 := false })
      else none

/-- The domains this head owns now, as a mask. -/
def State.ownedMask (s : State) : Nat := bitsWhere 8 fun d => (s.dhd.doms.getD d Dom.reset).st == .owned

/-- The current generation of a tenant space (R158, R160). -/
def State.genOf (s : State) (tenant : Nat) : Nat := ((KMap.get? s.data.tenants tenant).map (·.cur)).getD 0

/-- A committed object in the domains of a list, the first in order (R117; log entry 18). -/
def State.objectIn (s : State) (doms : List Nat) (tenant : Nat) (id : Bytes) : Option ObjRec :=
  doms.findSome? fun d =>
    s.data.objects.find? fun o => o.dom == d && o.tenant == tenant && o.objId == id && o.dead.isNone

/-- The domains this head owns. -/
def State.ownedDoms (s : State) : List Nat :=
  (List.range 8).filter fun d => (s.dhd.doms.getD d Dom.reset).st == .owned

/-- Restart the idle period of the session a packet's tag names (R72). -/
def State.touch (s : State) (fn tag : Nat) : State :=
  match s.sessionFor fn tag with
  | none => s
  | some x => s.onEz fun z => { z with sessions := KMap.put z.sessions tag { x with lastUse := s.clk } }

/-- Whether the hardware state machine executes an opcode (R49, R60). -/
def isHwOp (op : Nat) : Bool := (opOf op).any (·.hw)

/-- Room in a queue (R49). -/
def State.queueRoom (s : State) (hw : Bool) : Bool :=
  decide ((s.ez.queue.filter fun e => e.hw == hw).length < if hw then 4096 else 1024)

/-- The entry of a packet consumed now. -/
def State.newEntry (s : State) (r fn : Nat) (pkt : Bytes) (blk : Fetch) (ok : Bool) : Entry :=
  let b := match blk with
    | .ok b => if pktFlag pkt 0 then padTo b (min (leAt (pktParams pkt) 8 4) 65536) else []
    | _ => []
  let area := if pktFlag pkt 0 then b else pktParams pkt
  let get := pktOp pkt == 0x0111 || pktOp pkt == 0x0112
  { eid := s.ez.nextEid
    ring := r
    fn := fn
    hw := isHwOp (pktOp pkt)
    pkt := pkt
    blk := b
    at_ := s.clk
    pended := false
    begun := false
    replyOk := ok
    owned := s.ownedMask
    role := ((s.sessionFor fn (pktTag pkt)).map (·.role)).getD 0
    gen := s.genOf (leAt area 24 2)
    found := if get then (s.objectIn s.ownedDoms (leAt area 16 2) (area.take 16)).map (·.extent) else none
    snap := if pktOp pkt == 0x7F01 then some s.skl else none }

/-- Hand a ring's next packet to its queue and judge it by the checks of R54 before its own: the first that fails
replies at once. A ring's last packet ends its turn (R48). -/
def State.enqueue (s : State) (r : Nat) (q : Sq) (pkt : Bytes) (blk : Fetch) (ok : Bool) : State :=
  let e := s.newEntry r q.fn pkt blk ok
  let bad := s.checkPacket r q.fn pkt blk
  let s := (s.setSq r { q with head := (q.head + 1) % 2 ^ q.log2 }).touch q.fn (pktTag pkt)
  let left := if (q.head + 1) % 2 ^ q.log2 == q.tail then 0 else s.ez.turn
  let s := s.onEz fun z => { z with nextEid := z.nextEid + 1, queue := z.queue ++ [e], turn := left }
  match bad with
  | some (st, dt) => s.fail e st dt
  | none => s

/-- Consume a ring's next packet unless its queue is full or its fence is not met (R49, R50): the ring then waits, and
its turn is over (R48). -/
def State.consumeFrom (s : State) (z : Ez) (r : Nat) (q : Sq) (pkt : Bytes) (blk : Fetch) (ok : Bool) : State :=
  if !s.queueRoom (isHwOp (pktOp pkt)) || (pktFlag pkt 2 && s.outstanding r) then
    s.onEz fun y => { y with blocked := y.blocked ++ [r], turn := 0 }
  else ({ s with ez := z }).enqueue r q pkt blk ok

/-- The parameter block of a packet of ring 1,023, if it has one: an offset into the exchange window (R487). No block is
longer than 65,536 bytes (R53). -/
def State.windowBlock (s : State) (pkt : Bytes) : Fetch :=
  .ok (if pktFlag pkt 0 then Mem.read s.fld.window (leAt (pktParams pkt) 0 8) (min (leAt (pktParams pkt) 8 4) 65536) else [])

/-- Consume the packet at the front of ring 1,023's queue, and hold it for its reply; one consumed before is not run
again (R487). -/
def State.consumeOob (s : State) (z : Ez) (q : Sq) : State :=
  match s.fld.oobQ with
  | [] => s
  | (pkt, xid) :: rest =>
    match s.fld.heldOob.find? fun h => h.pkt == pkt with
    | some h =>
      let s := (s.onFld fun f => { f with oobQ := rest }).setSq 1023 { q with head := (q.head + 1) % 2 ^ q.log2 }
      (match h.reply with
      | some b => s.emit (.oob 2 (oobDatagram 2 xid 0 b))
      | none => s)
    | none =>
    let s' := s.onFld fun f =>
      { f with oobQ := rest, heldOob := (f.heldOob ++ [HeldOob.mk pkt xid s.ez.nextEid none]).drop (f.heldOob.length + 1 - 256) }
    let t := s'.consumeFrom z 1023 q pkt (s.windowBlock pkt) true
    if t.ez.nextEid == s.ez.nextEid then s.onEz fun y => { y with blocked := t.ez.blocked } else t

/-- PACKET_CONSUME (R47 to R50): the arbiter takes the next packet. A packet whose fetch fails is not consumed and puts
its ring into Error. -/
def execPacketConsume (pkt blk : Fetch) (replyOk : Bool) (s : State) : Host.Outcome State Fault Refusal :=
  .next <|
    match s.arbitrate with
    | none => s
    | some (r, z) =>
      match s.sq r with
      | none => s
      | some q =>
        if r = 1023 then s.consumeOob z q
        else
          match pkt with
          | .ok p => s.consumeFrom z r q (padTo p 64) blk replyOk
          | _ => ({ s with ez := z }).ringErr r 2

/-- PENDING_REPLY (R58): a Fold command of 1 ms, three boundaries, without a final reply; none follows a final reply that a
full completion ring holds (R17, R59; DEDUCED, log entry 89). -/
def execPendingReply (eid : Nat) (s : State) : Host.Outcome State Fault Refusal :=
  .next <|
    match s.entry eid with
    | none => s
    | some e => if s.clk < e.at_ + msTicks 1 || s.finalHeld eid then s else s.pendReply e

/-! ## RING_ opcodes (R43, R44, R557, R558) -/

/-- The MSI-X table size of a function (R430). -/
def State.tableSize (s : State) (fn : Nat) : Nat := if fn = 0 then s.par Par.pfVectors else s.par Par.vfVectors

/-- A command carried by a ring of a virtual function. -/
def Entry.ofVf (e : Entry) : Bool := decide (1 ≤ e.fn) && decide (e.fn ≤ 63)

/-- Check 1 of R557. -/
def State.ringParamsBad (s : State) (e : Entry) : Bool :=
  let share := e.p 18 2
  let fn := e.p 22 1
  badLog2 (e.p 16 1) || (share == 0xFFFF && badLog2 (e.p 17 1)) || e.p 0 8 % 4096 != 0
    || (share == 0xFFFF && e.p 8 8 % 4096 != 0)
    || fn > 63 || (fn != 0 && !(s.fn fn).vfOn) || (e.ofVf && e.fn != fn)
    || (share != 0xFFFF && (share == 1023 || !(s.sq share).any fun q => q.fn == fn))

/-- The route of a ring's source (R432): VECTOR of its function, masked where it is 0xFFFF. -/
def ringSrc (fn vector : Nat) : Src :=
  if vector == 0xFFFF then { Src.reset with route := ⟨0, fn, 0, true, 0⟩ }
  else { Src.reset with mask := false, route := ⟨vector, fn, 0, true, 0⟩ }

/-- The rings of a function. -/
def State.fnRings (s : State) (fn : Nat) : KMap Sq := s.ez.sqs.filter fun p => p.2.fn == fn

/-- Create a ring (R43, R44, R557) and reply its ID and doorbell offset. -/
def State.createRing (s : State) (e : Entry) (r : Nat) : State :=
  let fn := e.p 22 1
  let share := e.p 18 2
  let k := if fn = 0 then r else (lowestFree ((s.fnRings fn).map (·.2.slot)) 0 64).getD 0
  let c := if share == 0xFFFF then s.ez.nextCq else ((s.sq share).map (·.cq)).getD 0
  let s := if share == 0xFFFF then
      (s.onEz fun z => { z with nextCq := z.nextCq + 1 }).setCq c (Cq.fresh (e.p 8 8) (e.p 17 1) (e.p 20 2))
    else s
  let s := s.setSq r ⟨fn, k, e.p 0 8, e.p 16 1, 0, 0, 0, c, []⟩
  let s := s.setSrc r (ringSrc fn (((s.cq c).map (·.vector)).getD 0xFFFF))
  s.okReply e (leBytes 2 r ++ [0, 0] ++ leBytes 4 (if fn = 0 then 0x20000 + 8 * r else 8 * k))

/-- RING_CREATE (R557). -/
def execRingCreate (eid : Nat) (s : State) : Host.Outcome State Fault Refusal :=
  .next <| s.cmd eid 0x0010 fun s e =>
    let fn := e.p 22 1
    let v := e.p 20 2
    if s.ringParamsBad e then s.fail e St.invalidParam 0x0103
    else if v != 0xFFFF && s.tableSize fn ≤ v then s.fail e St.invalidParam 0x1C02
    else if fn != 0 && 64 ≤ (s.fnRings fn).length then s.fail e St.busy 0x0504
    else
      match lowestFree (s.ez.sqs.map (·.1)) 1 1022 with
      | none => s.fail e St.busy 0x0503
      | some r => s.createRing e r

/-- A ring a command may not name (R558). -/
def State.ringUnknown (s : State) (e : Entry) : Bool :=
  match s.sq (e.p 0 2) with
  | none => e.p 0 2 != 0
  | some q => e.ofVf && q.fn != e.fn

/-- RING_DELETE (R558). -/
def execRingDelete (eid : Nat) (s : State) : Host.Outcome State Fault Refusal :=
  .next <| s.cmd eid 0x0011 fun s e =>
    let r := e.p 0 2
    if s.ringUnknown e || r == 0 || r == 1023 || r == e.ring then s.fail e St.invalidParam 0x0103
    else s.addDrain r .delete eid

/-- RING_RESET (R47, R558). -/
def execRingReset (eid : Nat) (s : State) : Host.Outcome State Fault Refusal :=
  .next <| s.cmd eid 0x0012 fun s e =>
    let r := e.p 0 2
    if s.ringUnknown e || r == 0 || r == e.ring then s.fail e St.invalidParam 0x0103
    else s.addDrain r .reset eid

/-- RESULT of RING_QUERY (R558). -/
def State.ringResult (s : State) (q : Sq) (c : Cq) : Bytes :=
  leBytes 2 q.head ++ leBytes 2 q.tail ++ leBytes 1 q.err ++ leBytes 1 q.fn ++ leBytes 1 q.log2 ++ leBytes 1 c.log2
    ++ leBytes 2 c.wp ++ leBytes 1 (b2n c.phase) ++ leBytes 1 (b2n c.usable)
    ++ leBytes 2 ((s.boundRings q.cq).headD 0) ++ leBytes 2 c.vector

/-- RING_QUERY (R558). Ring 0 exists also before it was first enabled. -/
def execRingQuery (eid : Nat) (s : State) : Host.Outcome State Fault Refusal :=
  .next <| s.cmd eid 0x0013 fun s e =>
    if s.ringUnknown e || (e.ofVf && e.p 0 2 == 0) then s.fail e St.invalidParam 0x0103
    else
      match s.sq (e.p 0 2) with
      | none => s.okReply e (s.ringResult ⟨0, 0, 0, 0, 0, 0, 0, 0, []⟩ (Cq.fresh 0 0 0xFFFF))
      | some q =>
        match s.cq q.cq with
        | none => s.okReply e (s.ringResult q (Cq.fresh 0 0 0xFFFF))
        | some c => s.okReply e (s.ringResult q c)

end Sys2Proof.Machine
end

