-- ==== Sys2Proof/Machine/Hedgerow.lean ====
section
/-! DEFINITION. Hedgerow: claiming, masks, MSI-X vectors and their moderation, retargeting, sleeping targets (R423 to
R442). -/

namespace Sys2Proof.Machine

open Sys2Proof

/-! ## Presentation and claiming (R426 to R429) -/

/-- A target that is asleep; host polling targets never are (R426, R438). -/
def State.tgtAsleep (s : State) (t : Nat) : Bool := decide (t < 8) && (s.tgt t).asleep

/-- THRESH of a target. -/
def State.thresh (s : State) (t : Nat) : Nat := s.rf (Reg.hrwTnCfg t) 3 0

/-- The internal target at which a source is presented, and its priority there, if it is (R426, R437, R438, R442). -/
def State.presentedAt (s : State) (x : Src) : Option (Nat × Nat) :=
  if !x.pend || x.mask || x.inService.isSome then none
  else
    match x.fallen with
    | some (t, p) => if s.tgtAsleep t then none else some (t, p)
    | none =>
      match x.oldTarget with
      | some t => some (t, x.route.prio)
      | none =>
        if x.route.msix || s.tgtAsleep x.route.target || x.route.prio ≤ s.thresh x.route.target then none
        else some (x.route.target, x.route.prio)

/-- The sources presented at a target with their priorities, lowest number first. -/
def State.presented (s : State) (t : Nat) : List (Nat × Nat) :=
  s.hrw.srcs.filterMap fun e =>
    match s.presentedAt e.2 with
    | some (u, p) => if u = t then some (e.1, p) else none
    | none => none

/-- The source of the highest priority, and among equals the first of the list. -/
def highest : List (Nat × Nat) → Option Nat
  | [] => none
  | x :: xs => some (xs.foldl (fun b y => if b.2 < y.2 then y else b) x).1

/-- A BAR0 access reaches the registers of a target only if it is a host polling target (R426). -/
def tgtReached (t : Nat) (mgmt : Bool) : Bool := mgmt || decide (8 ≤ t)

/-- A claim that finds a source: it is in service and no longer pending. -/
def Src.claimed (x : Src) (t : Nat) : Src :=
  { x with pend := false, inService := some t, fallen := none, oldTarget := none, asleepAt := none }

/-- HRW_CLAIM (R426, R427). -/
def execHrwClaim (target : Fin 16) (mgmt : Bool) (s : State) : Host.Outcome State Fault Refusal :=
  .next <|
    let t := target.val
    if !tgtReached t mgmt then s.emit (.readData (Reg.hrwTnClaim t) 0)
    else
      match highest (s.presented t) with
      | none => (s.bump Reg.hrwCntEvents 15 0 1).emit (.readData (Reg.hrwTnClaim t) 0x1000)
      | some n => (s.setSrc n ((s.src n).claimed t)).emit (.readData (Reg.hrwTnClaim t) n)

/-- HRW_COMPLETE (R428): a level source that is still high is pending again. -/
def execHrwComplete (target : Fin 16) (val : W32) (mgmt : Bool) (s : State) : Host.Outcome State Fault Refusal :=
  .next <|
    let t := target.val
    let n := fieldOf val.toNat 11 0
    let x := s.src n
    if !tgtReached t mgmt then s
    else if x.inService == some t then
      let s := s.setSrc n { x with inService := none }
      if srcIsLevel n && x.level then s.edge n else s
    else s.latch errHrw n 1

/-! ## Pending and mask bits (R425, R429) -/

/-- The engine instance of an expert source, as code × 256 + instance. -/
def expertOf (n : Nat) : Option Nat :=
  if 0x400 ≤ n && n < 0x410 then some (0x100 + (n - 0x400))
  else if 0x410 ≤ n && n < 0x420 then some (0x200 + (n - 0x410))
  else if 0x420 ≤ n && n < 0x430 then some (0x300 + (n - 0x420))
  else if 0x430 ≤ n && n < 0x438 then some (0x400 + (n - 0x430))
  else if 0x438 ≤ n && n < 0x440 then some (0x600 + (n - 0x438))
  else if 0x440 ≤ n && n < 0x442 then some (0x700 + (n - 0x440))
  else if 0x450 ≤ n && n < 0x470 then some (0x500 + (n - 0x450))
  else none

/-- An engine instance, by code × 256 + instance. -/
def State.inst (s : State) (k : Nat) : Inst := KMap.getD s.ez.inst k Inst.idle

/-- An expert queue, by code × 256 + instance, or 0x800 + q for Drover's. -/
def State.xq (s : State) (k : Nat) : Xq := KMap.getD s.ez.xqs k Xq.off

/-- The sources a BAR0 write may touch (R425): rings bound to the physical function, and the expert ranges of instances
and queues held in Expert. -/
def State.srcByHost (s : State) (n : Nat) : Bool :=
  if n < 0x3FF then (s.sq n).any fun q => q.fn == 0
  else if 0x480 ≤ n && n < 0x4C0 then (s.xq (0x800 + (n - 0x480))).bound.isSome
  else
    match expertOf n with
    | some k => (s.inst k).ctl == .expert
    | none => false

/-- Apply a change to each source whose bit is set in a write of word `k`; a bit a BAR0 write may not touch is ignored
and latches cause 0x1. -/
def State.eachSrc (s : State) (k : Nat) (val : W32) (mgmt : Bool) (f : State → Nat → State) : State :=
  ((List.range 32).filter fun i => val.getLsbD i).foldl
    (fun s i =>
      let n := 32 * k + i
      if !mgmt && !s.srcByHost n then s.latch errHrw n 1 else if srcExists n then f s n else s) s

/-- HRW_PEND_SET (R425): setting a pending bit counts as an edge. -/
def execHrwPendSet (word : Fin 128) (val : W32) (mgmt : Bool) (s : State) : Host.Outcome State Fault Refusal :=
  .next (s.eachSrc word.val val mgmt fun s n => s.edge n)

/-- HRW_PEND_CLR (R429): a presented source is withdrawn. -/
def execHrwPendClr (word : Fin 128) (val : W32) (mgmt : Bool) (s : State) : Host.Outcome State Fault Refusal :=
  .next (s.eachSrc word.val val mgmt fun s n =>
    s.setSrc n { s.src n with pend := false, fallen := none, oldTarget := none, asleepAt := none })

/-- Take a source's edges out of the open batch of the vector it is routed to; a batch left empty closes. -/
def State.dropEdges (s : State) (n : Nat) : State :=
  let x := s.src n
  if !x.route.msix then s
  else
    let v := s.vec x.route.fn x.route.vector
    match v.batch with
    | none => s
    | some b =>
      let left := b.edges.filter (· != n)
      s.setVec x.route.fn x.route.vector { v with batch := if left.isEmpty then none else some { b with edges := left } }

/-- HRW_MASK_SET (R425, R429, R434): a masked source is withdrawn and its edges no longer count, and it stays
pending. -/
def execHrwMaskSet (word : Fin 128) (val : W32) (mgmt : Bool) (s : State) : Host.Outcome State Fault Refusal :=
  .next (s.eachSrc word.val val mgmt fun s n => (s.dropEdges n).setSrc n { s.src n with mask := true })

/-- Unmask a source: if it is pending it presents and counts. -/
def State.unmask (s : State) (n : Nat) : State :=
  let x := s.src n
  if !x.mask then s
  else
    let s := s.setSrc n { x with mask := false }
    if x.pend && x.fallen.isNone then s.deliver n else s

/-- HRW_MASK_CLR (R425). -/
def execHrwMaskClr (word : Fin 128) (val : W32) (mgmt : Bool) (s : State) : Host.Outcome State Fault Refusal :=
  .next (s.eachSrc word.val val mgmt State.unmask)

/-- SOURCE_EDGE (R424, R442): the edge of a pulse source, or the level of a level source rising. A source whose route
reads uncorrectable goes to target 0 at PRIO 15, with cause 0x4 and a record. -/
def execSourceEdge (src : Nat) (routeOk : Bool) (s : State) : Host.Outcome State Fault Refusal :=
  .next <|
    if routeOk || !srcExists src then (if srcIsLevel src then s.setLevel src true else s.edge src)
    else
      let x := s.src src
      if srcIsLevel src && x.level then s
      else
        let s := s.setSrc src { x with pend := true, level := srcIsLevel src, fallen := some (0, 15) }
        ((s.latch errHrw src 4).sklHw 0x04 0xFF 4 src).wakeTgt 0

/-! ## MSI-X messages (R430, R433, R434, R436) -/

/-- Whether a message of a vector is masked. -/
def State.vecMasked (s : State) (fn v : Nat) : Bool := (s.vec fn v).mask || (s.fn fn).fnMask

/-- Send a vector's message: the pending bits of the unmasked sources routed to it clear (R432). -/
def State.sendMsg (s : State) (fn v : Nat) : State :=
  let x := s.vec fn v
  let s := s.setVec fn v { x with batch := none, pba := false }
  let s := s.onHrw fun h =>
    { h with srcs := h.srcs.map fun e =>
        if e.2.route.msix && e.2.route.fn == fn && e.2.route.vector == v && !e.2.mask && e.2.fallen.isNone then
          (e.1, { e.2 with pend := false, asleepAt := none })
        else e }
  (s.addPair Reg.hrwCntMsgLo 1).emit (.msix fn v x.addr x.data)

/-- Commit a vector's open batch: the message is sent, or its PBA bit is set where it is masked. A sleeping function's
batch stays open. -/
def State.commitBatch (s : State) (fn v : Nat) : State :=
  if (s.vec fn v).batch.isNone || (s.fn fn).asleep then s
  else if s.vecMasked fn v then s.setVec fn v { s.vec fn v with batch := none, pba := true }
  else s.sendMsg fn v

/-- BATCH_COUNT_REACHED (R433). -/
def execBatchCountReached (fn vec : Nat) (s : State) : Host.Outcome State Fault Refusal :=
  .next (if (s.vec fn vec).batch.any fun b => decide (b.count ≤ b.edges.length) then s.commitBatch fn vec else s)

/-- BATCH_TIMER_EXPIRY (R433): the batch's timer has run TIME. -/
def execBatchTimerExpiry (fn vec : Nat) (s : State) : Host.Outcome State Fault Refusal := .next (s.commitBatch fn vec)

/-- HRW_MOD (R433, R431): it applies to the next batch. -/
def execHrwMod (fn vec : Nat) (val : W32) (s : State) : Host.Outcome State Fault Refusal :=
  .next <|
    if s.tableSize fn ≤ vec then s
    else s.setVec fn vec { s.vec fn vec with count := fieldOf val.toNat 15 0, time := fieldOf val.toNat 31 16 }

/-- The vectors of a function that hold a batch or a PBA bit. -/
def State.vecsOf (s : State) (fn : Nat) : List Nat :=
  (s.hrw.vecs.filter fun e => e.1 / 2048 == fn).map fun e => e.1 % 2048

/-- Send the messages held in a function's PBA whose vectors are no longer masked. -/
def State.sendPba (s : State) (fn : Nat) : State :=
  (s.vecsOf fn).foldl
    (fun s v => if (s.vec fn v).pba && !s.vecMasked fn v && !(s.fn fn).asleep then s.sendMsg fn v else s) s

/-- MSIX_VECTOR_UNMASK (R430): a vector's mask bit, or the Function Mask, clears. -/
def execMsixVectorUnmask (fn : Nat) (vec : Option Nat) (s : State) : Host.Outcome State Fault Refusal :=
  .next <|
    match vec with
    | some v => (s.setVec fn v { s.vec fn v with mask := false }).sendPba fn
    | none => (s.setFn fn { s.fn fn with fnMask := false }).sendPba fn

/-- Commit every open batch of a function. -/
def State.commitFn (s : State) (fn : Nat) : State := (s.vecsOf fn).foldl (fun s v => s.commitBatch fn v) s

/-- PMCSR_D3HOT (R436): the write completes only after the messages. -/
def execPmcsrD3hot (fn : Nat) (pmeEn : Bool) (s : State) : Host.Outcome State Fault Refusal :=
  .next <|
    let s := s.commitFn fn
    (s.setFn fn { s.fn fn with d3 := true, pmeEn := pmeEn }).emit (.cfgDone fn)

/-- PME_TURN_OFF (R436): every function's messages before PME_TO_Ack. -/
def execPmeTurnOff (s : State) : Host.Outcome State Fault Refusal :=
  .next (((List.range 64).foldl State.commitFn s).emit .pmeToAck)

/-! ## Retargeting and sleeping targets (R437 to R439) -/

/-- The route a write of HRW_SRC_ROUTE carries. -/
def routeOf (v : Nat) : Route :=
  ⟨fieldOf v 10 0, fieldOf v 16 11, fieldOf v 20 17, fieldOf v 21 21 == 1, fieldOf v 25 22⟩

/-- Apply a route to a source (R437): an event presented at an internal target stays claimable there; the edges in the
open batch of the old vector and other unpresented events move. -/
def State.retarget (s : State) (n : Nat) (r : Route) : State :=
  let x := s.src n
  let shown := (s.presentedAt x).isSome
  let counted := x.route.msix &&
    ((s.vec x.route.fn x.route.vector).batch.any fun b => b.edges.contains n)
  let moved := if x.route.msix then
      (((s.vec x.route.fn x.route.vector).batch.map fun b => (b.edges.filter (· == n)).length).getD 0)
    else 0
  let s := s.dropEdges n
  let old := if !shown then none
    else match x.oldTarget with
      | some t => some t
      | none => if x.fallen.isSome || x.route.target = r.target && !r.msix then none else some x.route.target
  let s := s.setSrc n { x with route := r, oldTarget := old, asleepAt := none }
  if shown then s
  else if counted then (List.range (if r.msix then moved else 1)).foldl (fun s _ => s.deliver n) s
  else if x.pend && !x.mask && x.inService.isNone && x.fallen.isNone then s.deliver n
  else s

/-- HRW_SRC_ROUTE (R424, R425, R437), for the source HRW_SRC_SEL selects. -/
def execHrwSrcRoute (val : W32) (mgmt : Bool) (s : State) : Host.Outcome State Fault Refusal :=
  .next <|
    let n := s.rf Reg.hrwSrcSel 11 0
    let r := routeOf val.toNat
    if (!mgmt && !s.srcByHost n) || (srcIsLevel n && r.msix) then s.latch errHrw n 1
    else if !srcExists n then s
    else s.retarget n r

/-- RETARGET_WITHDRAW (R437): 1,024 MGMT cycles have passed since the retarget. -/
def execRetargetWithdraw (src : Nat) (s : State) : Host.Outcome State Fault Refusal :=
  .next <|
    let x := s.src src
    if x.oldTarget.isNone then s
    else
      let s := s.setSrc src { x with oldTarget := none }
      if x.pend && !x.mask && x.inService.isNone then s.deliver src else s

/-- Send an event to its fall-back target (R438). -/
def State.fallBack (s : State) (n t : Nat) : State :=
  let x := s.src n
  let s := s.setSrc n { x with fallen := some (t, x.route.prio), asleepAt := none }
  let s := if x.route.msix then s.setVec x.route.fn x.route.vector { s.vec x.route.fn x.route.vector with pba := false }
    else s
  ((s.bump Reg.hrwCntEvents 31 16 1).latch errHrw n 2).wakeTgt t

/-- WAKE_DEADLINE_EXPIRY (R438). -/
def execWakeDeadlineExpiry (src : Nat) (s : State) : Host.Outcome State Fault Refusal :=
  .next <|
    let x := s.src src
    match x.asleepAt with
    | none => s
    | some t0 =>
      if !x.pend || x.fallen.isSome then s
      else if x.route.msix then
        let ms := s.par Par.wakeMs
        if ms != 0 && (s.fn x.route.fn).asleep && decide (t0 + msTicks ms ≤ s.clk) then
          s.fallBack src (s.par Par.fnFallback)
        else s
      else if s.tgtAsleep x.route.target then s.fallBack src (s.rf (Reg.hrwTnCfg x.route.target) 7 4)
      else s

/-- Deliver the events that waited for a target. -/
def State.deliverWaiting (s : State) (p : Src → Bool) : State :=
  (s.hrw.srcs.filter fun e => e.2.asleepAt.isSome && p e.2).foldl
    (fun s e =>
      let s := s.setSrc e.1 { s.src e.1 with asleepAt := none }
      if e.2.pend && !e.2.mask && e.2.fallen.isNone then s.deliver e.1 else s) s

/-- TARGET_WAKE (R438, R439): a core leaves its low-power wait, or a function is in D0 with MSI-X Enable and Bus Master
Enable set. A virtual function so configured is one that SR-IOV has enabled (log entry 14). -/
def execTargetWake (core : Bool) (target : Nat) (s : State) : Host.Outcome State Fault Refusal :=
  .next <|
    if core then
      (s.setTgt target { s.tgt target with asleep := false, wakeReq := false }).deliverWaiting
        fun x => !x.route.msix && x.route.target == target
    else
      ((s.setFn target { s.fn target with d3 := false, msixEn := true, bme := true, pmeStatus := false, vfOn := true
          }).deliverWaiting fun x => x.route.msix && x.route.fn == target).sendPba target

end Sys2Proof.Machine
end

