-- ==== Sys2Proof/Machine/Skylark.lean ====
section
/-! DEFINITION. Skylark: accepting events, the record memory, SKL_READ, SKL_CLEAR and the record registers (R492 to
R503). -/

namespace Sys2Proof.Machine

open Sys2Proof

/-! ## Records (R492, R495) -/

/-- FLAGS of a record. -/
def SklRec.flags (r : SklRec) : Nat := b2n r.preTick + 2 * b2n r.ev.fold + 4 * (r.ev.sev % 4)

/-- A string of 30 bytes closed by its RCRC. -/
def withRcrc (bs : Bytes) : Bytes := bs ++ leBytes 2 (crc16 bs)

/-- The 32 bytes of a record. -/
def SklRec.bytes (r : SklRec) : Bytes :=
  withRcrc (leBytes 4 r.seq ++ leBytes 8 r.tick ++ leBytes 1 r.ev.block ++ leBytes 1 r.ev.inst ++ leBytes 1 r.ev.cause
    ++ leBytes 1 r.flags ++ leBytes 2 r.ev.status ++ leBytes 2 r.ev.detail ++ leBytes 2 r.ev.source
    ++ leBytes 2 r.repeat_ ++ leBytes 6 r.ev.arg)

/-- A record that reads uncorrectable, as it is delivered (R499). -/
def unreadableRec (seq : Nat) : Bytes := withRcrc (leBytes 4 seq ++ zeros 11 ++ [0x10] ++ zeros 14)

/-- Signed difference of two sequence numbers modulo 2^32 is below 0 (R501). -/
def seqBelow (a b : Nat) : Bool := decide (2 ^ 31 ≤ (a + 2 ^ 32 - b % 2 ^ 32) % 2 ^ 32)

/-- Whether an event is merged into a record (R495): the same fields, at most SKL_merge_ticks after its last
occurrence. -/
def State.merges (s : State) (e : SklEv) (r : SklRec) : Bool :=
  s.par Par.mergeTicks != 0 && decide (s.clk ≤ s.skl.lastAt + s.par Par.mergeTicks) && r.ev == e
    && r.preTick == !s.skl.tickLoaded

/-- The record memory failed at the slot of a record (R496). -/
def State.sklMemFail (s : State) (seq : Nat) : State :=
  let s := s.lastWord 1 (seq % 8192)
  if s.skl.memFail then s
  else (s.onSkl fun k => { k with memFail := true }).setLevel (eventSrc (Reg.sklStatus + 1)) true

/-- Merge an event into the newest record. -/
def Skl.merge (k : Skl) (r : SklRec) (clk : Nat) : Skl :=
  { k with recs := k.recs.dropLast ++ [{ r with repeat_ := satAdd 0xFFFF r.repeat_ 1 }], lastAt := clk }

/-- Make a record of an event (R493, R497); the 8,192nd held sets FULL. -/
def State.sklWrite (s : State) (e : SklEv) : State :=
  let r : SklRec := ⟨s.skl.next, s.tick, e, !s.skl.tickLoaded, 0⟩
  let s := s.onSkl fun k => { k with recs := k.recs ++ [r], next := (k.next + 1) % 2 ^ 32, lastAt := s.clk }
  if s.skl.recs.length < 8192 then s
  else (s.onSkl fun k => { k with full := true }).setLevel (eventSrc Reg.sklStatus) true

/-- Accept an event (R494 to R497). -/
def State.sklAccept (s : State) (e : SklEv) (memOk : Bool) : State :=
  if s.skl.memFail then s.onSkl fun k => k.lose e.block
  else
    match s.skl.recs.getLast? with
    | some r =>
      if s.merges e r then
        let s := s.onSkl fun k => k.merge r s.clk
        if memOk then s else s.sklMemFail r.seq
      else if s.skl.full then s.onSkl fun k => k.lose e.block
      else
        let s := s.sklWrite e
        if memOk then s else s.sklMemFail (r.seq + 1)
    | none =>
      let n := s.skl.next
      let s := s.sklWrite e
      if memOk then s else s.sklMemFail n

/-- SKYLARK_RECORD (R494): the next event of the queue; `memOk` is whether the record reads back. -/
def execSkylarkRecord (memOk : Bool) (s : State) : Host.Outcome State Fault Refusal :=
  .next <|
    match s.skl.queue with
    | [] => s
    | e :: rest => (s.onSkl fun k => { k with queue := rest }).sklAccept e memOk

/-! ## Reading (R499, R500) -/

/-- Deliver bytes to a command's destination: host memory of its function, or the exchange window (R487). -/
def State.deliverTo (s : State) (e : Entry) (addr : Nat) (data : Bytes) : State :=
  if e.ring == 1023 then s.onFld fun f => { f with window := Mem.write f.window addr data }
  else s.emit (.hostWrite e.fn addr data)

/-- A range of bytes that goes beyond the exchange window, for a command of ring 1,023 (R487). -/
def Entry.outside (e : Entry) (addr len : Nat) : Bool := e.ring == 1023 && decide (0x100000 < addr + len)

/-- The records an SKL_READ delivers, of Skylark as it stood (R499). -/
def Skl.selected (k : Skl) (start max : Nat) : List SklRec :=
  (k.recs.filter fun r => !seqBelow r.seq start).take max

/-- RESULT of SKL_READ (R499). With no record delivered the manual states no first SEQ (log entry 15). -/
def State.sklResult (s : State) (k : Skl) (start : Nat) (rs : List SklRec) : Bytes :=
  leBytes 4 (match rs with
    | r :: _ => r.seq
    | [] => s.unstated 15 [start])
    ++ leBytes 4 rs.length ++ leBytes 4 k.next ++ leBytes 2 s.skl.lost
    ++ leBytes 1 (b2n s.skl.full + 2 * b2n s.skl.memFail + 4 * b2n (seqBelow start k.oldest)) ++ [0]

/-- SKL_READ (R499): `bad` are the records that read uncorrectable. -/
def execSklRead (eid : Nat) (bad : List Nat) (destOk : Bool) (s : State) : Host.Outcome State Fault Refusal :=
  .next <| s.cmd eid 0x7F01 fun s e =>
    let k := e.snap.getD s.skl
    let start := e.p 0 4
    let max := e.p 4 4
    let dst := e.p 8 8
    if max < 1 || 8192 < max || dst % 32 != 0 then s.fail e St.invalidParam 0x1F02
    else
      let rs := k.selected start max
      if e.outside dst (32 * rs.length) then s.fail e St.invalidParam 0x1E01
      else
        let hurt := rs.filter fun r => bad.contains r.seq
        let s := hurt.foldl (fun s r => s.sklMemFail r.seq) s
        let body := rs.flatMap fun r => if bad.contains r.seq then unreadableRec r.seq else r.bytes
        if !destOk then s.fail e St.invalidParam 0x1F02
        else (s.deliverTo e dst body).okReply e (s.sklResult k start rs)

/-- The eight words SKL_REC_k show. -/
def State.setRecRegs (s : State) (bs : Bytes) : State :=
  (List.range 8).foldl (fun s k => s.setReg (Reg.sklRecK k) (BitVec.ofNat 32 (leAt bs (4 * k) 4))) s

/-- SKL_RSEL (R500): `readOk` is whether the record reads correctly. -/
def execSklRsel (val : W32) (readOk : Bool) (s : State) : Host.Outcome State Fault Refusal :=
  .next <|
    let s := s.setReg Reg.sklRsel val
    match s.skl.recs.find? fun r => r.seq == val.toNat with
    | none => (s.setReg Reg.sklRstat 0).setRecRegs (zeros 32)
    | some r =>
      if readOk then (s.setReg Reg.sklRstat 1).setRecRegs r.bytes
      else ((s.setReg Reg.sklRstat 3).setRecRegs (unreadableRec r.seq)).sklMemFail r.seq

/-! ## Clearing (R501, R502) -/

/-- The CLEAR record's event (R502). -/
def clearEvent (e : Entry) (through lost : Nat) : SklEv :=
  ⟨0x30, if e.ring == 1023 then 0xFF else e.fn, 0x01, true, 0, 0, 0, 0xFFFF, through + 2 ^ 32 * (lost % 2 ^ 16)⟩

/-- Free the records up to a sequence number and queue the CLEAR record ahead of every other event. -/
def State.sklFree (s : State) (e : Entry) (through : Nat) : State :=
  let keep := s.skl.recs.filter fun r => seqBelow through r.seq
  let freed := decide (keep.length < s.skl.recs.length)
  if seqBelow through s.skl.oldest then s
  else
    let s := s.onSkl fun k => { k with recs := keep, oldest := (through + 1) % 2 ^ 32 }
    if freed then
      (s.onSkl fun k =>
        { k with lost := 0, firstBlock := 0, full := false, queue := clearEvent e through k.lost :: k.queue }).setLevel
        (eventSrc Reg.sklStatus) false
    else s

/-- SKL_CLEAR (R501): it waits for every SKL_READ consumed before it. -/
def execSklClear (eid : Nat) (s : State) : Host.Outcome State Fault Refusal :=
  .next <|
    s.cmdIf eid 0x7F02 (fun e => s.ez.queue.all fun x => x.op != 0x7F01 || decide (e.eid < x.eid)) fun s e =>
      let through := e.p 0 4
      if !seqBelow through s.skl.next then s.fail e St.invalidParam 0x1F01
      else if s.skl.memFail then s.fail e St.mediaError 0x1F01
      else (s.sklFree e through).okReply e []

end Sys2Proof.Machine
end

