-- ==== Sys2Proof/Machine/Engines.lean ====
section
/-! DEFINITION. Engine instances and expert queues: handover, return, disable and enable, and the common rules of the
queues (R30 to R33, R75 to R79, R560, R561). -/

namespace Sys2Proof.Machine

open Sys2Proof

/-! ## Instances (R75) -/

/-- Key of an instance. -/
def instKey (code i : Nat) : Nat := code * 256 + i

/-- Instances of a block code that exist on the part. -/
def State.instCount (s : State) (code : Nat) : Nat :=
  match code with
  | 1 => 16
  | 2 => 16
  | 3 => 16
  | 4 => 8
  | 5 => 32
  | 6 => 8
  | 7 => if s.part.t2 then 2 else 0
  | _ => 0

/-- An instance that exists on the part (R560). -/
def State.instExists (s : State) (code i : Nat) : Bool := decide (i < s.instCount code)

/-- An instance eligible for expert control (R75): Thistle contexts 0 to 3 are not. -/
def State.eligible (s : State) (code i : Nat) : Bool := s.instExists code i && (code != 5 || decide (4 ≤ i))

/-- Set an instance. -/
def State.setInst (s : State) (k : Nat) (x : Inst) : State := s.onEz fun z => { z with inst := KMap.put z.inst k x }

/-- Set an expert queue. -/
def State.setXq (s : State) (k : Nat) (x : Xq) : State := s.onEz fun z => { z with xqs := KMap.put z.xqs k x }

/-- An instance in Basic that is not disabled, which the basic data path may use (R31, R79). -/
def State.basicFree (s : State) (k : Nat) : Bool := (s.inst k).ctl == .basic && !(s.inst k).disabled && !(s.inst k).disabling

/-- Whether some instance of a block serves the basic level (R31). -/
def State.anyBasic (s : State) (code : Nat) : Bool :=
  (List.range (s.instCount code)).any fun i => s.basicFree (instKey code i)

/-- The ownership domain of a tree. -/
def State.rootDom (s : State) (root : Nat) : Nat :=
  match KMap.get? s.data.nodes root with
  | some (.group g) => g.dom
  | _ => 8

/-- The Tussock instance of a domain takes new work of the basic level (R30, R31, R79). -/
def State.tskFree (s : State) (d : Nat) : Bool := s.basicFree (instKey 6 d)

/-- Basic work an instance still has (log entry 92): the PUTs of a lane; the PUTs, stripe, small and label writes, journal
records and copies on their way of a domain; the job of a transport. The other blocks' work is done within the command that
needs it. -/
def State.basicWork (s : State) (k : Nat) : Bool :=
  let i := k % 256
  match k / 256 with
  | 1 => s.data.puts.any fun p => p.segs.any fun x => x.1 == i
  | 6 =>
    let j := KMap.getD s.data.journals i Journal.empty
    s.data.puts.any (·.dom == i) || (s.data.stripesW.any fun w => s.rootDom w.root == i) || s.data.smalls.any (·.dom == i)
      || (s.data.labels.any fun w => s.rootDom w.root == i) || j.recs.any (·.st != .complete)
      || [j.a, j.b, j.newB].any fun c => c.placing && !c.acks.isEmpty
  | 7 => (s.tape i).job.isSome
  | _ => false

/-! ## Expert queues (R561) -/

/-- Base of a queue's eight registers. -/
def xqBase (k : Nat) : Nat :=
  let i := k % 256
  match k / 256 with
  | 1 => Reg.swdLnXqBaseLo i
  | 2 => Reg.grsXqBaseLo i
  | 3 => Reg.grsXqBaseLo (16 + i)
  | 4 => Reg.brkXqBaseLo i
  | 6 => Reg.tskXqBaseLo i
  | 7 => Reg.wdrXqBaseLo i
  | _ => Reg.drvXqBaseLo i

/-- The error register of a queue's block, and the queue's instance there. -/
def xqErr (k : Nat) : ErrReg × Nat :=
  let i := k % 256
  match k / 256 with
  | 1 => (errSwd, i)
  | 2 => (errGrs, i)
  | 3 => (errGrs, 16 + i)
  | 4 => (errBrk, i)
  | 6 => (errTsk, i)
  | 7 => (errWdr i, 0)
  | _ => (errDrv, i)

/-- The Hedgerow source of a queue's completions (R423). -/
def xqSrc (k : Nat) : Nat :=
  let i := k % 256
  match k / 256 with
  | 1 => 0x400 + i
  | 2 => 0x410 + i
  | 3 => 0x420 + i
  | 4 => 0x430 + i
  | 6 => 0x438 + i
  | 7 => 0x440 + i
  | _ => 0x480 + i

/-- The keys of every expert queue. -/
def xqKeys : List Nat :=
  (List.range 16).map (instKey 1) ++ (List.range 16).map (instKey 2) ++ (List.range 16).map (instKey 3)
    ++ (List.range 8).map (instKey 4) ++ (List.range 8).map (instKey 6) ++ (List.range 2).map (instKey 7)
    ++ (List.range 64).map (instKey 8)

/-- The queue and the register within it that an offset names. -/
def xqAt (off : Nat) : Option (Nat × Nat) :=
  match xqKeys.find? fun k => decide (xqBase k ≤ off) && decide (off < xqBase k + 0x20) with
  | some k => some (k, off - xqBase k)
  | none => none

/-- A queue whose registers accept writes: its instance is in Expert, or it is bound (R362, R561). -/
def State.xqHeld (s : State) (k : Nat) : Bool :=
  if k / 256 = 8 then (s.xq k).bound.isSome else (s.inst k).ctl == .expert

/-- Latch an error of a queue's block. -/
def State.xqLatch (s : State) (k cause : Nat) : State := s.latch (xqErr k).1 (xqErr k).2 cause

/-- A queue as it starts: empty, at phase 1, not halted; Drover's COUNT is 0 (log entry 16). -/
def Xq.start (x : Xq) (n m : Nat) : Xq := { Xq.off with bound := x.bound, en := true, sqLog2 := n, cqLog2 := m }

/-- XQ_ENABLE (R561). -/
def execXqEnable (off : Nat) (val : W32) (s : State) : Host.Outcome State Fault Refusal :=
  .next <|
    match xqAt off with
    | none => s
    | some (k, _) =>
      let n := fieldOf val.toNat 8 4
      let m := fieldOf val.toNat 16 12
      if !s.xqHeld k then s.xqLatch k 1
      else if (s.xq k).en then s
      else if badLog2 n || badLog2 m then (s.setXq k { s.xq k with sqLog2 := n, cqLog2 := m }).xqLatch k 4
      else s.setXq k ((s.xq k).start n m)

/-- XQ_DISABLE (R561). -/
def execXqDisable (off : Nat) (val : W32) (s : State) : Host.Outcome State Fault Refusal :=
  .next <|
    match xqAt off with
    | none => s
    | some (k, _) =>
      if !s.xqHeld k then s.xqLatch k 1
      else if (s.xq k).en then s.setXq k { s.xq k with en := false, halt := false, waiting := false, desc := [] }
      else s.setXq k { s.xq k with sqLog2 := fieldOf val.toNat 8 4, cqLog2 := fieldOf val.toNat 16 12 }

/-- XQ_TAIL_WRITE (R121, R561): a value beyond the queue is ignored (log entry 16). -/
def execXqTailWrite (off : Nat) (val : W32) (s : State) : Host.Outcome State Fault Refusal :=
  .next <|
    match xqAt off with
    | none => s
    | some (k, _) =>
      let v := fieldOf val.toNat 15 0
      if !s.xqHeld k then s.xqLatch k 1
      else if (s.xq k).en && decide (v < 2 ^ (s.xq k).sqLog2) then s.setXq k { s.xq k with tail := v }
      else s

/-- XCQ_HEAD_WRITE (R59, R561): entries before the head are free again, which ends a stall. -/
def execXcqHeadWrite (off : Nat) (val : W32) (s : State) : Host.Outcome State Fault Refusal :=
  .next <|
    match xqAt off with
    | none => s
    | some (k, _) =>
      let v := fieldOf val.toNat 15 0
      let x := s.xq k
      let size := 2 ^ x.cqLog2
      if !s.xqHeld k then s.xqLatch k 1
      else if x.en && decide (v < size) then s.setXq k { x with unread := (x.cqWp + size - v) % size }
      else s

/-- A queue whose completion queue is full stalls. -/
def Xq.stall (x : Xq) : Bool := x.en && decide (2 ^ x.cqLog2 ≤ x.unread)

/-- A queue starts its next descriptor: held and enabled, not halted or stalled, its instance not disabled, with a
descriptor submitted. -/
def State.xqReady (s : State) (k : Nat) : Bool :=
  let x := s.xq k
  s.xqHeld k && x.en && !x.halt && !x.stall && (k / 256 == 8 || !(s.inst k).disabled) && x.sqHead != x.tail

/-- How an expert descriptor ended: status, detail, the 64-bit number and the last word of its completion, and whether
an uncorrectable read halts the queue. -/
structure XRes where
  st : Nat
  dt : Nat
  len : Nat
  extra : Nat
  halt : Bool
deriving DecidableEq, Repr

/-- A descriptor refused or failed with nothing written. -/
def XRes.fail (st dt : Nat) : XRes := ⟨st, dt, 0, 0, false⟩

/-- The 32 bytes of an expert completion. -/
def xcqBytes (id : Nat) (r : XRes) (phase : Bool) : Bytes :=
  leBytes 2 r.st ++ leBytes 2 r.dt ++ leBytes 4 id ++ leBytes 8 r.len ++ leBytes 1 (b2n phase) ++ zeros 3
    ++ leBytes 4 r.extra ++ zeros 8

/-- The function in whose memory a queue lies: that of the holding session, and the physical function for Drover. -/
def State.xqFn (s : State) (k : Nat) : Nat := if k / 256 = 8 then 0 else (s.inst k).holderFn

/-- Write a completion and raise the queue's source; a failed write loses it and latches cause 0x3. -/
def State.xqComplete (s : State) (k id : Nat) (r : XRes) (ok : Bool) : State :=
  let x := s.xq k
  if !ok then s.xqLatch k 3
  else
    let base := s.pair (xqBase k + 0x10)
    let wrap := x.cqWp + 1 == 2 ^ x.cqLog2
    ((s.emit (.hostWrite (s.xqFn k) (base + 32 * x.cqWp) (xcqBytes id r x.phase))).setXq k
      { x with cqWp := if wrap then 0 else x.cqWp + 1, phase := if wrap then !x.phase else x.phase,
               unread := x.unread + 1 }).edge (xqSrc k)

/-- Move a queue past its next descriptor. -/
def State.xqAdvance (s : State) (k : Nat) : State :=
  let x := s.xq k
  s.setXq k { x with sqHead := (x.sqHead + 1) % 2 ^ x.sqLog2 }

/-- Run a queue's next descriptor: a failed fetch latches cause 0x2 and leaves it. -/
def State.xqRun (s : State) (k : Nat) (desc : Fetch) (cqOk : Bool) (f : State → Bytes → State × XRes) : State :=
  if !s.xqReady k then s
  else
    match desc with
    | .ok b =>
      let d := padTo b 64
      let (t, r) := f s d
      let t := (t.xqAdvance k).xqComplete k (leAt d 4 4) r cqOk
      if r.halt then (t.setXq k { t.xq k with halt := true }).xqLatch k 5 else t
    | _ => s.xqLatch k 2

/-! ## Handover and return (R32, R76 to R78) -/

/-- The target of an engine command. -/
def Entry.target (e : Entry) : Nat := instKey (e.p 0 1) (e.p 1 1)

/-- Whether an engine command names an instance it may (R560): one that exists for a query, else an eligible one. -/
def State.targetOk (s : State) (e : Entry) (query : Bool) : Bool :=
  if query then s.instExists (e.p 0 1) (e.p 1 1) else s.eligible (e.p 0 1) (e.p 1 1)

/-- ENGINE_EXPERT_ENTER (R76, R77). -/
def execEngineExpertEnter (eid : Nat) (s : State) : Host.Outcome State Fault Refusal :=
  .next <| s.cmd eid 0x4001 fun s e =>
    let k := e.target
    let x := s.inst k
    if !s.targetOk e false then s.fail e St.invalidParam 0x0107
    else
      match x.ctl with
      | .basic =>
        (s.setInst k { x with ctl := .handing, holder := e.tag, holderFn := e.fn, t0 := s.clk, enterEid := eid
          }).pendReply e
      | .handing => s.fail e St.roleConflict 0x0403
      | _ => s.fail e St.roleConflict 0x0401

/-- HANDOVER_DRAIN_COMPLETE (R76). A Thistle context enters Expert in FREE, zeroed (R182). -/
def execHandoverDrainComplete (code inst : Nat) (s : State) : Host.Outcome State Fault Refusal :=
  .next <|
    let k := instKey code inst
    let x := s.inst k
    if x.ctl == .handing && !s.basicWork k then
      let s := s.setInst k { x with ctl := .expert, enterEid := 0 }
      let s := if code = 5 then s.onData fun d => { d with ctxs := KMap.put d.ctxs inst Ctx.zero } else s
      s.finalOf x.enterEid St.ok 0 []
    else s

/-- HANDOVER_TIMEOUT (R32, R76): 100 ms, 300 boundaries, have passed and basic work is left. -/
def execHandoverTimeout (code inst : Nat) (s : State) : Host.Outcome State Fault Refusal :=
  .next <|
    let k := instKey code inst
    let x := s.inst k
    if x.ctl == .handing && s.basicWork k && decide (x.t0 + msTicks 100 ≤ s.clk) then
      (s.setInst k { x with ctl := .basic, holder := 0, holderFn := 0xFF, enterEid := 0 }).finalOf x.enterEid
        St.timeout 0 []
    else s

/-- Begin the return of an instance that is not in Basic (R32, R77, R78): a handover is aborted, an instance in Expert
starts no further descriptor. -/
def State.beginReturn (s : State) (k : Nat) (eids : List Nat) : State :=
  let x := s.inst k
  match x.ctl with
  | .basic => s
  | .handing =>
    let s := (s.setInst k { x with ctl := .basic, holder := 0, holderFn := 0xFF, enterEid := 0 }).finalOf x.enterEid
      St.aborted 0 []
    eids.foldl (fun s i => s.finalOf i St.ok 0 []) s
  | _ => s.setInst k { x with ctl := .returning, retEids := x.retEids ++ eids }

/-- ENGINE_EXPERT_RETURN (R77, R78). -/
def execEngineExpertReturn (eid : Nat) (s : State) : Host.Outcome State Fault Refusal :=
  .next <| s.cmd eid 0x4002 fun s e =>
    let k := e.target
    let x := s.inst k
    if !s.targetOk e false then s.fail e St.invalidParam 0x0107
    else if x.ctl == .basic then s.okReply e []
    else if x.holder != e.tag then s.fail e St.roleConflict 0x0401
    else s.beginReturn k [eid]

/-- Write ABORTED completions for descriptors, as long as the completion queue has room (log entry 16). -/
def State.abortDescs (s : State) (k : Nat) (descs : List Bytes) (ok : Bool) : State :=
  descs.foldl
    (fun s d => if (s.xq k).stall then s else (s.xqAdvance k).xqComplete k (leAt d 4 4) (XRes.fail St.aborted 0) ok) s

/-- Descriptors submitted to a queue and not started. -/
def Xq.waitingDescs (x : Xq) : Nat := (x.tail + 2 ^ x.sqLog2 - x.sqHead) % 2 ^ x.sqLog2

/-- The instance is in Basic again, and the RETURNs that waited reply OK. -/
def State.endReturn (s : State) (k : Nat) : State :=
  let x := s.inst k
  let s := (s.setInst k { x with ctl := .basic, holder := 0, holderFn := 0xFF, retEids := [] }).setXq k Xq.off
  x.retEids.foldl (fun s i => s.finalOf i St.ok 0 []) s

/-! ## Disable and enable (R79, R560) -/

/-- The disable drain of an instance ends: it stops, the DISABLEs reply OK, and a queued enable takes effect. -/
def State.endDisable (s : State) (k : Nat) : State :=
  let x := s.inst k
  if x.disabling && !s.basicWork k then
    x.disEids.foldl (fun s i => s.finalOf i St.ok 0 [])
      (s.setInst k { x with disabled := !x.enQueued, disabling := false, enQueued := false, disEids := [] })
  else s

/-- ENGINE_DISABLE (R79). -/
def execEngineDisable (eid : Nat) (s : State) : Host.Outcome State Fault Refusal :=
  .next <| s.cmd eid 0x4004 fun s e =>
    let k := e.target
    let x := s.inst k
    if !s.targetOk e false then s.fail e St.invalidParam 0x0107
    else if x.ctl != .basic then s.fail e St.roleConflict 0x0401
    else if x.disabled then s.okReply e []
    else (s.setInst k { x with disabling := true, disEids := x.disEids ++ [eid] }).endDisable k

/-- DISABLE_DRAIN_COMPLETE (R79). -/
def execDisableDrainComplete (code inst : Nat) (s : State) : Host.Outcome State Fault Refusal :=
  .next (s.endDisable (instKey code inst))

/-- ENGINE_ENABLE (R79). -/
def execEngineEnable (eid : Nat) (s : State) : Host.Outcome State Fault Refusal :=
  .next <| s.cmd eid 0x4005 fun s e =>
    let k := e.target
    let x := s.inst k
    if !s.targetOk e false then s.fail e St.invalidParam 0x0107
    else if x.disabling then
      if x.enQueued then s.fail e St.busy 0x0505
      else (s.setInst k { x with enQueued := true }).fail e St.enableQueued 0x0601
    else (s.setInst k { x with disabled := false }).okReply e []

/-- ENGINE_QUERY (R560). -/
def execEngineQuery (eid : Nat) (s : State) : Host.Outcome State Fault Refusal :=
  .next <| s.cmd eid 0x4003 fun s e =>
    let x := s.inst e.target
    if !s.targetOk e true then s.fail e St.invalidParam 0x0107
    else s.okReply e ([byteOf x.ctl.code, byteOf (b2n x.disabled + 2 * b2n x.disabling + 4 * b2n x.enQueued),
      byteOf (if x.ctl == .basic then 0xFF else x.holderFn)])

end Sys2Proof.Machine
end

