-- ==== Sys2Proof/Machine/Sessions.lean ====
section
/-! DEFINITION. Sessions: nonces, proofs and back-off, opening, renewing, closing, expiry, role keys (R61 to R73,
R559). -/

namespace Sys2Proof.Machine

open Sys2Proof

/-! ## Nonces (R64) -/

/-- Boundaries for which a nonce is valid: 10 s. -/
def nonceTicks : Nat := msTicks 10000

/-- Remove the nonce of a function and ring. -/
def State.dropNonce (s : State) (fn ring : Nat) : State :=
  s.onEz fun z => { z with nonces := z.nonces.filter fun n => !(n.fn == fn && n.ring == ring) }

/-- SESSION_NONCE (R64). -/
def execSessionNonce (eid : Nat) (s : State) : Host.Outcome State Fault Refusal :=
  .next <| s.cmd eid 0x0001 fun s e =>
    let v := s.drawn 16
    let s := (s.nextDraw.dropNonce e.fn e.ring).onEz fun z => { z with nonces := z.nonces ++ [⟨e.fn, e.ring, v, s.clk⟩] }
    s.okReply e v

/-- The valid nonce of a function and ring. -/
def State.nonce (s : State) (fn ring : Nat) : Option Nonce :=
  s.ez.nonces.find? fun n => n.fn == fn && n.ring == ring && decide (s.clk < n.at_ + nonceTicks)

/-- NONCE_EXPIRY (R64). -/
def execNonceExpiry (fn ring : Nat) (s : State) : Host.Outcome State Fault Refusal :=
  .next (if (s.nonce fn ring).isSome then s else s.dropNonce fn ring)

/-! ## Opening (R62 to R71, R559) -/

/-- The 36-byte message of a proof (R65). -/
def State.proofMsg (s : State) (nonce : Bytes) (role : Nat) (e : Entry) : Bytes :=
  nonce ++ leBytes 1 role ++ leBytes 1 (if e.ring == 1023 then 0xFF else e.fn) ++ leBytes 2 e.ring ++ s.fuses.unitId

/-- The provisioning state in which any proof opens a Maintainer session on ring 0 (R67). -/
def State.provOpen (s : State) (e : Entry) (role : Nat) : Bool :=
  !s.rbit Reg.fldStatus 1 && role == 4 && e.ring == 0 && e.fn == 0

/-- A tag of the random source that is not in use and not among the last 4,096 issued (R63). -/
def State.newTag (s : State) : Nat :=
  let used := s.ez.issued ++ s.ez.sessions.map (·.1)
  let cand := (List.range 8192).map fun i => leVal ((List.range 4).map fun j => Config.random s.fresh (4 * i + j))
  match cand.find? fun t => t != 0 && !used.contains t with
  | some t => t
  | none => (lowestFree used 1 8192).getD 1

/-- The back-off delay of the n-th consecutive failure, in boundaries (R69). -/
def backoffTicks (n : Nat) : Nat := msTicks (1000 * min (2 ^ (n - 1)) 256)

/-- Open a session (R65): a new tag, the role's failures forgotten, the idle timeout in RESULT. -/
def State.openSession (s : State) (e : Entry) (role : Nat) (prov : Bool) : State :=
  let t := s.newTag
  let s := s.nextDraw.onEz fun z =>
    { z with
      sessions := KMap.put z.sessions t ⟨e.fn, role, s.clk, prov, false, none, []⟩
      issued := (z.issued ++ [t]).drop (z.issued.length + 1 - 4096)
      authFail := z.authFail.set (role - 1) 0 }
  s.reply { e.reply true St.ok 0 (leBytes 4 (s.par Par.sessionIdleS)) with tag := t }

/-- Count a failed proof and hold its reply back (R69, R70). -/
def State.failProof (s : State) (e : Entry) (role : Nat) : State :=
  let n := satAdd 255 (s.ez.authFail.getD (role - 1) 0) 1
  let until_ := e.at_ + backoffTicks n
  s.onEz fun z =>
    { z with
      authFail := z.authFail.set (role - 1) n
      backoff := z.backoff.set (role - 1) until_
      denied := z.denied ++ [⟨e.eid, e.ring, role, until_⟩] }

/-- Steps 4 to 8 of R559, with the nonce used up. -/
def State.judgeOpen (s : State) (e : Entry) (role : Nat) (nonce : Bytes) : State :=
  let prov := s.provOpen e role
  let key := KMap.get? s.ez.roleKeys role
  let until_ := s.ez.backoff.getD (role - 1) 0
  if key.isNone && !prov then s.fail e St.accessDenied 0x0305
  else if e.at_ < until_ then s.final e St.busy 0x0501 (leBytes 4 (ceilDiv (until_ - e.at_) 3))
  else if role == 4 && s.ez.sessions.any (fun p => p.2.role == 4) then s.fail e St.roleConflict 0x0402
  else if 256 ≤ s.ez.sessions.length then s.fail e St.busy 0x0502
  else if prov || slice e.area 8 32 == hmac256 (key.getD []) (s.proofMsg nonce role e) then s.openSession e role prov
  else s.failProof e role

/-- SESSION_OPEN (R559). -/
def execSessionOpen (eid : Nat) (s : State) : Host.Outcome State Fault Refusal :=
  .next <| s.cmd eid 0x0002 fun s e =>
    let role := e.p 0 1
    if role < 1 || 4 < role then s.fail e St.invalidParam 0x0105
    else if e.ring == 1023 && !(role == 1 || role == 4) then s.fail e St.accessDenied 0x0304
    else
      match s.nonce e.fn e.ring with
      | none => s.fail e St.accessDenied 0x0303
      | some n => (s.dropNonce e.fn e.ring).judgeOpen e role n.value

/-- BACKOFF_EXPIRY (R69): the held ACCESS_DENIED is written. -/
def execBackoffExpiry (eid : Nat) (s : State) : Host.Outcome State Fault Refusal :=
  .next <|
    match s.ez.denied.find? fun d => d.eid == eid with
    | none => s
    | some d =>
      if d.until_ ≤ s.clk then
        (s.onEz fun z => { z with denied := z.denied.filter fun x => x.eid != eid }).finalOf eid St.accessDenied 0x0302 []
      else s

/-! ## Renewing, closing, expiry (R72, R73) -/

/-- SESSION_RENEW (R72): the packet itself has restarted the idle period. -/
def execSessionRenew (eid : Nat) (s : State) : Host.Outcome State Fault Refusal :=
  .next <| s.cmd eid 0x0003 fun s e => s.okReply e []

/-- Abort the outstanding descriptors of a Drover queue and unbind it (R362): those started on a connection complete
ABORTED. -/
def State.unbindXq (s : State) (k : Nat) : State :=
  let q := k % 256
  let tags := s.drv.conns.flatMap fun c => c.2.ops.filterMap fun o =>
    match o.who with
    | .desc j tag => if j = q then some tag else none
    | _ => none
  let x := s.xq k
  let tags := if x.waiting then tags ++ [leAt x.desc 4 4] else tags
  let s := s.onDrv fun d =>
    { d with conns := KMap.mapV d.conns fun _ c => { c with ops := c.ops.filter fun o =>
        match o.who with
        | .desc j _ => j != q
        | _ => true } }
  (tags.foldl (fun s t => if (s.xq k).stall then s else s.xqComplete k t (XRes.fail St.aborted 0) true) s).setXq k Xq.off

/-- Return what a session holds: engine instances (R32, R73) and Drover queues (R362). -/
def State.releaseHoldings (s : State) (tag : Nat) : State :=
  let ks := (s.ez.inst.filter fun p => p.2.ctl != .basic && p.2.holder == tag).map (·.1)
  let qs := (s.ez.xqs.filter fun p => p.1 / 256 == 8 && p.2.bound == some tag).map (·.1)
  qs.foldl State.unbindXq (ks.foldl (fun s k => s.beginReturn k []) s)

/-- Remember an ended session and drop it (R63). -/
def State.endSession (s : State) (tag : Nat) (x : Session) : State :=
  s.onEz fun z =>
    { z with
      sessions := KMap.del z.sessions tag
      ended := (z.ended.filter fun p => z.issued.contains p.1) ++ [(tag, x.fn)] }

/-- Finish a close once every command admitted before its close point has replied. -/
def State.finishClose (s : State) (tag : Nat) : State :=
  match KMap.get? s.ez.sessions tag with
  | none => s
  | some x =>
    match x.closeEid with
    | none => s
    | some eid => if s.allDone x.waits then (s.endSession tag x).finalOf eid St.ok 0 [] else s

/-- SESSION_CLOSE (R73): the close point. -/
def execSessionClose (eid : Nat) (s : State) : Host.Outcome State Fault Refusal :=
  .next <| s.cmd eid 0x0004 fun s e =>
    match KMap.get? s.ez.sessions e.tag with
    | none => s.okReply e []
    | some x =>
      let waits := s.admitted fun y => y.tag == e.tag && y.fn == e.fn && y.eid != eid
      if x.closing then s.okReply e []
      else
        let x' := { x with closing := true, closeEid := some eid, waits := waits }
        ((s.onEz fun z => { z with sessions := KMap.put z.sessions e.tag x' }).releaseHoldings e.tag).finishClose e.tag

/-- SESSION_CLOSE_COMPLETE (R73). -/
def execSessionCloseComplete (eid : Nat) (s : State) : Host.Outcome State Fault Refusal :=
  .next <|
    match s.ez.sessions.find? fun p => p.2.closeEid == some eid with
    | none => s
    | some p => s.finishClose p.1

/-- SESSION_EXPIRY (R72, R73): the session has been idle for FLD_session_idle_s. -/
def execSessionExpiry (tag : Nat) (s : State) : Host.Outcome State Fault Refusal :=
  .next <|
    match KMap.get? s.ez.sessions tag with
    | none => s
    | some x =>
      if !x.closing && decide (x.lastUse + msTicks (1000 * s.par Par.sessionIdleS) ≤ s.clk) then
        (s.endSession tag x).releaseHoldings tag
      else s

/-- ROLE_KEY_SET (R67, R68): `norOk` is whether the NOR write succeeds. A Maintainer key ends the provisioning
state. -/
def execRoleKeySet (eid : Nat) (norOk : Bool) (s : State) : Host.Outcome State Fault Refusal :=
  .next <| s.cmd eid 0x0005 fun s e =>
    let role := e.p 0 1
    if role < 1 || 4 < role then s.fail e St.invalidParam 0x0105
    else if !norOk then s.fail e St.mediaError 0
    else
      let s := s.onEz fun z => { z with roleKeys := KMap.put z.roleKeys role (slice e.area 8 32) }
      (if role == 4 then s.setRbit Reg.fldStatus 1 true else s).okReply e []

end Sys2Proof.Machine
end

