-- ==== Sys2Proof/Machine/Grmp.lean ====
section
/-! DEFINITION. GRMP packets, connections and their transmission: header, cipher, sequence, acknowledgement, paths,
residency (R337 to R351), and how an operation of a connection ends. -/

namespace Sys2Proof.Machine

open Sys2Proof

/-! ## The packet (R337 to R339) -/

/-- The 40 header bytes, in network byte order. -/
def Pkt.hdr (p : Pkt) : Bytes :=
  [1, byteOf p.op, byteOf p.flags, byteOf p.code] ++ beBytes 4 p.dcid ++ beBytes 4 p.psn ++ beBytes 4 p.apsn
    ++ beBytes 8 p.txc ++ beBytes 4 p.key ++ beBytes 8 p.offset ++ beBytes 4 p.len

/-- Operations (R338). -/
abbrev Grmp.write : Nat := 1
/-- READ_REQ. -/
abbrev Grmp.readReq : Nat := 2
/-- READ_RESP. -/
abbrev Grmp.readResp : Nat := 3
/-- SEND. -/
abbrev Grmp.send : Nat := 4
/-- ACK. -/
abbrev Grmp.ack : Nat := 5
/-- NAK. -/
abbrev Grmp.nak : Nat := 6
/-- HEARTBEAT. -/
abbrev Grmp.heartbeat : Nat := 7
/-- HELLO. -/
abbrev Grmp.hello : Nat := 8
/-- CLOSE. -/
abbrev Grmp.close : Nat := 9

/-- An operation whose packets take a PSN. -/
def Grmp.sequenced (op : Nat) : Bool := op != Grmp.ack && op != Grmp.nak && op != Grmp.heartbeat

/-- A packet of a connection before it is numbered and sent. -/
def Pkt.make (op flags key offset len : Nat) (payload : Bytes) : Pkt := ⟨op, flags, 0, 0, 0, 0, 0, key, offset, len, payload⟩

/-- The packets of a transfer: up to 8,192 bytes each; the last carries ACKREQ, and LAST where the transfer ends its
stream (R338, R344). -/
def cutPkts (op key off : Nat) (data : Bytes) (last : Bool) : List Pkt :=
  let ps := if data.isEmpty then [[]] else pieces 8192 data
  ps.zipIdx.map fun (b, i) =>
    let final := i + 1 == ps.length
    Pkt.make op (if final then b2n last + 2 else 0) key (off + 8192 * i) b.length b

/-- The header fields of a received packet that is well formed (R337, R338), with its sealed payload and tag. -/
def parseGrmp (b : Bytes) : Option (Pkt × Bytes × Bytes) :=
  let be := fun lo n => beVal (slice b lo n)
  let op := be 1 1
  let pay := (b.drop 40).take (b.length - 56)
  let len := be 36 4
  if b.length < 56 || 8248 < b.length || be 0 1 != 1 || op < 1 || 9 < op || 8 ≤ be 2 1 || (op != Grmp.nak && be 3 1 != 0) then
    none
  else if (if op = Grmp.readReq then len < 1 || 2 ^ 30 < len || !pay.isEmpty else len != pay.length) then none
  else
    some (⟨op, be 2 1, be 3 1, be 4 4, be 8 4, be 12 4, be 16 8, be 24 4, be 28 8, len, []⟩, pay, b.drop (b.length - 16))

/-- Sum of 16-bit words, folded, as the Internet checksum takes it. -/
def netSum (bs : Bytes) : Nat :=
  let t := (pieces 2 bs).foldl (fun a w => a + beVal (padTo w 2)) 0
  let t := t % 65536 + t / 65536
  t % 65536 + t / 65536

/-- A UDP datagram of an address pair: its ports and payload, where its checksum is right; a zero checksum counts on
IPv4 only (R337). -/
def udpIn (v4 : Bool) (addrs udp : Bytes) : Option (Nat × Nat × Bytes) :=
  let len := beVal (slice udp 4 2)
  let sum := beVal (slice udp 6 2)
  let pseudo := addrs ++ beBytes 4 len ++ beBytes 4 17
  if udp.length < 8 || len != udp.length then none
  else if !(v4 && sum == 0) && netSum (pseudo ++ udp) != 0xFFFF then none
  else some (beVal (udp.take 2), beVal (slice udp 2 2), udp.drop 8)

/-- The UDP payload of an IP packet without extension headers, options or fragmentation (R337). -/
def State.ipIn (s : State) (f : Bytes) : Option Bytes :=
  let be := fun lo n => beVal (slice f lo n)
  if be 0 1 / 16 = 6 then
    if be 6 1 = 17 && be 4 2 + 40 = f.length then (udpIn false (slice f 8 32) (f.drop 40)).map (·.2.2) else none
  else if be 0 1 = 0x45 && s.par Par.ipv4En = 1 then
    if be 9 1 = 17 && be 2 2 = f.length && be 6 2 % 0x4000 = 0 then
      (udpIn true (slice f 12 8) (f.drop 20)).map (·.2.2)
    else none
  else none

/-! ## Paths and subports (R346, R371 to R374) -/

/-- A network port. -/
def State.nport (s : State) (p : Nat) : NPort := s.net.ports.getD p ⟨[], 0, 0⟩

/-- A subport that is up. -/
def State.subUp (s : State) (p sub : Nat) : Bool := (KMap.get? (s.nport p).upSince sub).isSome

/-- Subports of a port's mode (R367). -/
def State.subCount (s : State) (p : Nat) : Nat :=
  match s.par (if p = 0 then Par.netModeA else Par.netModeB) with
  | 0 => 1
  | 1 => 2
  | _ => 8

/-- A port's link is up while one of its subports is (R372). -/
def State.linkUp (s : State) (p : Nat) : Bool := !(s.nport p).upSince.isEmpty

/-- A connection. -/
def State.conn (s : State) (c : Nat) : Option Conn := KMap.get? s.drv.conns c

/-- Set a connection. -/
def State.setConn (s : State) (c : Nat) (x : Conn) : State := s.onDrv fun d => { d with conns := KMap.put d.conns c x }

/-- CID 0 is ESTABLISHED: heartbeats are sent and awaited. -/
def State.peerUp (s : State) : Bool :=
  match s.conn 0 with
  | some x => x.st == .established
  | none => false

/-- A path is up: its port's link is, and, while heartbeats are exchanged, they prove it (R346; log entry 19). -/
def State.pathUp (s : State) (p : Nat) : Bool :=
  s.linkUp p && (!s.peerUp || (s.drv.paths.getD p ⟨false, 0, none, 0⟩).live)

/-- The subport a connection transmits on: its home, or the next upward that is up (R373). -/
def State.subFor (s : State) (p c : Nat) : Nat :=
  let n := s.subCount p
  (((List.range n).map fun i => (c + i) % n).find? fun i => s.subUp p i).getD (c % n)

/-- The subport heartbeats go out on (R374). -/
def State.subLow (s : State) (p : Nat) : Nat := ((List.range 8).find? fun i => s.subUp p i).getD 0

/-! ## Transmission -/

/-- The key of a connection. -/
def State.connKey (s : State) (x : Conn) : Bytes := ((KMap.get? s.data.slots x.slot).map (·.key)).getD []

/-- Number the header of a packet and send it: TXC rises by 1, APSN is the highest PSN received in order (R339,
R344). -/
def State.sendOn (s : State) (c : Nat) (x : Conn) (path sub : Nat) (p : Pkt) : State :=
  let p := { p with dcid := x.rcid, apsn := (x.rxPsn + 2 ^ 32 - 1) % 2 ^ 32, txc := x.txc, flags := p.flags % 4 + 4 * path }
  let h := p.hdr
  let r := gcmEnc (s.connKey x) (x.saltTx ++ beBytes 8 x.txc) h p.payload
  ((s.tally 7 p.payload.length).setConn c { x with txc := x.txc + 1, sinceAck := 0 }).emit
    (.grmp path sub c (if path = 0 then x.addrA else x.addrB) (49152 + x.rcid % 16384) (s.par Par.udpPort)
      (h ++ r.1 ++ r.2))

/-- Send a packet on a connection's current path. -/
def State.send (s : State) (c : Nat) (p : Pkt) : State :=
  match s.conn c with
  | none => s
  | some x => s.sendOn c x x.path x.sub p

/-- Send an ACK. -/
def State.sendAck (s : State) (c : Nat) : State := s.send c (Pkt.make Grmp.ack 0 0 0 0 [])

/-- Send a NAK for a PSN (R338), counted where DRV_CNT_NAK counts it. -/
def State.sendNak (s : State) (c psn code : Nat) : State :=
  let s := if code = 1 || code = 7 then s.bump Reg.drvCntNak 15 0 1
    else if code = 3 then s.bump Reg.drvCntNak 31 16 1 else s
  s.send c { Pkt.make Grmp.nak 0 0 0 0 [] with psn := psn, code := code }

/-- Transmit waiting packets while fewer than 4,096 are unacknowledged (R344). HELLO goes first and alone until the
connection is ESTABLISHED (R340). -/
def State.pump (c : Nat) : Nat → State → State
  | 0, s => s
  | n + 1, s =>
    match s.conn c with
    | none => s
    | some x =>
      match x.txq with
      | [] => s
      | p :: rest =>
        if 4096 ≤ x.unacked.length || (x.st != .established && p.op != Grmp.hello && p.op != Grmp.close) then s
        else State.pump c n ((s.setConn c { x with txq := rest, unacked := x.unacked ++ [p] }).send c p)

/-- Transmit what a connection may. -/
def State.flush (s : State) (c : Nat) : State := s.pump c 4096

/-! ## Residency (R349, R350) -/

/-- A connection pinned on die. -/
def Conn.pinned (x : Conn) (c : Nat) : Bool :=
  c == 0 || !x.unacked.isEmpty || !x.parked.isEmpty || !x.ops.isEmpty || x.fetching

/-- Resident connections. -/
def State.residents (s : State) : KMap Conn := KMap.keep s.drv.conns fun _ x => x.resident

/-- Evict the unpinned state least recently used, of equally old the lowest ID, while more than 4,096 are resident. -/
def State.evict (s : State) : State :=
  if s.residents.length ≤ 4096 then s
  else
    let best := (s.residents.filter fun e => !e.2.pinned e.1).foldl
      (fun (b : Option (Nat × Conn)) e => match b with
        | none => some e
        | some f => if e.2.lastUsed < f.2.lastUsed then some e else some f) none
    match best with
    | none => s
    | some (c, x) => (s.setConn c { x with resident := false }).bump Reg.drvCntState 31 16 1

/-- Use a connection: its state is on die, and the latest used. -/
def State.useConn (s : State) (c : Nat) : State :=
  match s.conn c with
  | none => s
  | some x =>
    let s := s.onDrv fun d => { d with useClock := d.useClock + 1 }
    let s := if x.resident then s else s.bump Reg.drvCntState 15 0 1
    (s.setConn c { x with resident := true, fetching := false, lastUsed := s.drv.useClock }).evict

/-! ## Operations -/

/-- Why an operation submitted to a connection is refused at once: it is closed or in error, or no path is up (R342,
R345, R346). -/
def State.connRefuses (s : State) (x : Conn) : Option (Nat × Nat) :=
  if x.st == .closed || x.closing then some (St.aborted, 0x1901)
  else if x.st == .error then some (St.timeout, 0x1901)
  else if !s.pathUp 0 && !s.pathUp 1 then some (St.pathDown, 0x1901)
  else none

/-- Submit an operation's packets: they take their PSNs in order and go out as the window allows (R344, R351). -/
def State.submit (s : State) (c : Nat) (who : OpFor) (read : Bool) (want laddr : Nat) (pkts : List Pkt) : State :=
  let s := s.useConn c
  match s.conn c with
  | none => s
  | some x =>
    let n := pkts.length
    let ps := pkts.zipIdx.map fun (p, i) => { p with psn := (x.txPsn + i) % 2 ^ 32 }
    let op : DOp :=
      { who := who, lastPsn := (x.txPsn + n - 1) % 2 ^ 32, read := read, firstPsn := x.txPsn, want := want, got := 0,
        laddr := laddr }
    (s.setConn c { x with txPsn := (x.txPsn + n) % 2 ^ 32, txq := x.txq ++ ps, ops := x.ops ++ [op] }).flush c

/-- PSN `a` is at or before `b`, modulo 2^32 (R344). -/
def psnLe (a b : Nat) : Bool := decide ((b + 2 ^ 32 - a) % 2 ^ 32 < 2 ^ 31)

/-- A descriptor of a Drover queue completes (R363, R364): OK raises the queue's COUNT, anything else halts it. -/
def State.drvComplete (s : State) (q tag len st dt : Nat) : State :=
  let k := instKey 8 q
  let x := s.xq k
  let x := if st = St.ok then { x with count := (x.count + 1) % 2 ^ 32 } else { x with halt := true }
  (s.setXq k x).xqComplete k tag ⟨st, dt, len, x.count, false⟩ true

/-- The peer's copy of a record is acknowledged (R223, R358). -/
def State.ackPeer (s : State) (dom jseq : Nat) : State :=
  s.onData fun d =>
    { d with journals := KMap.upd d.journals dom fun j =>
        { j with recs := j.recs.map fun r => if r.jseq == jseq then { r with ackP := true } else r } }

/-- An operation of a connection ends with a status and detail. -/
def State.opEnd (s : State) (o : DOp) (st dt : Nat) : State :=
  match o.who with
  | .desc q tag => s.drvComplete q tag (if st = St.ok then o.want else o.got) st dt
  | .resp _ => s
  | .get eid gst gdt res => if st = St.ok then s.finalOf eid gst gdt res else s.finalOf eid st dt res
  | .mirror d j => if st = St.ok then s.ackPeer d j else s
  | .fold => s

/-- End every operation of a list. -/
def State.opsEnd (s : State) (os : List DOp) (st dt : Nat) : State := os.foldl (fun s o => s.opEnd o st dt) s

/-- Take an acknowledgement of every PSN up to `apsn`: what it covers is dropped, operations it finishes end OK, and
waiting packets go out (R344). -/
def State.takeAck (s : State) (c apsn : Nat) : State :=
  match s.conn c with
  | none => s
  | some x =>
    let left := x.unacked.filter fun p => !psnLe p.psn apsn
    if left.length = x.unacked.length then s
    else
      let sent := fun (o : DOp) => psnLe o.lastPsn apsn && !(x.txq.any fun p => p.psn == o.lastPsn)
      let done := x.ops.filter fun o => !o.read && sent o
      let s := s.setConn c { x with unacked := left, retries := 0, ops := x.ops.filter fun o => o.read || !sent o }
      (s.opsEnd done St.ok 0).flush c

/-- Resend every unacknowledged packet from a PSN on (R344, R345). -/
def State.resendFrom (s : State) (c : Nat) (p : Pkt → Bool) : State :=
  match s.conn c with
  | none => s
  | some x =>
    let ps := x.unacked.filter p
    ps.foldl (fun s p => s.send c p) (s.bump Reg.drvCntRetx 15 0 ps.length)

/-- Connections on a path that is down move to the other where that is up, and begin to resend (R346, R347). -/
def State.switchPath (s : State) (p : Nat) : State :=
  if !s.pathUp (1 - p) then s
  else
    let cs := (s.drv.conns.filter fun e => e.2.path == p).map (·.1)
    let s := s.onDrv fun d => { d with conns := KMap.mapV d.conns fun c x =>
      if x.path == p then { x with path := 1 - p, sub := s.subFor (1 - p) c } else x }
    cs.foldl (fun s c => s.resendFrom c fun _ => true) (if cs.isEmpty then s else s.bump Reg.drvCntPath 15 0 1)

/-- The peer messages of Fold: a SEND on CID 0 with the header of R359. -/
def State.peerMsg (s : State) (ty : Nat) (body : Bytes) : State :=
  match s.conn 0 with
  | none => s
  | some x =>
    if (s.connRefuses x).isSome then s
    else
      let seq := s.drv.msgSeq
      let msg := [byteOf ty, 0, 0, 0] ++ beBytes 4 body.length ++ beBytes 8 seq ++ body
      (s.onDrv fun d => { d with msgSeq := d.msgSeq + 1 }).submit 0 .fold false msg.length 0
        (cutPkts Grmp.send (seq % 2 ^ 32) 0 msg true)

/-- A message of Fold on a replication connection, with the same header. -/
def State.replMsg (s : State) (c ty : Nat) (body : Bytes) : State :=
  match s.conn c with
  | none => s
  | some x =>
    if (s.connRefuses x).isSome then s
    else
      let seq := s.drv.msgSeq
      let msg := [byteOf ty, 0, 0, 0] ++ beBytes 4 body.length ++ beBytes 8 seq ++ body
      (s.onDrv fun d => { d with msgSeq := d.msgSeq + 1 }).submit c .fold false msg.length 0
        (cutPkts Grmp.send (seq % 2 ^ 32) 0 msg true)

end Sys2Proof.Machine
end

