-- ==== Sys2Proof/Machine/Tree.lean ====
section
/-! DEFINITION. Trees of groups: nodes and their bytes, geometry, the walker, unit tags, member states (R188 to R195,
R206, R209, R227, R237). -/

namespace Sys2Proof.Machine

open Sys2Proof

/-! ## Nodes -/

/-- "None" of a node index. -/
abbrev noNode : Nat := 0xFFFFFFFF

/-- A node of tree memory. -/
def State.node (s : State) (i : Nat) : Option Node := KMap.get? s.data.nodes i

/-- A group node of a table. -/
def groupIn (t : KMap Node) (i : Nat) : Option Group :=
  match KMap.get? t i with
  | some (.group g) => some g
  | _ => none

/-- A leaf node of a table. -/
def leafIn (t : KMap Node) (i : Nat) : Option Leaf :=
  match KMap.get? t i with
  | some (.leaf l) => some l
  | _ => none

/-- A group. -/
def State.group? (s : State) (i : Nat) : Option Group := groupIn s.data.nodes i

/-- A leaf. -/
def State.leaf? (s : State) (i : Nat) : Option Leaf := leafIn s.data.nodes i

/-- Set a node. -/
def State.setNode (s : State) (i : Nat) (n : Node) : State :=
  s.onData fun d => { d with nodes := KMap.put d.nodes i n }

/-- The group a handle names: node index in bytes 0 to 3, SERIAL in bytes 4 to 7 (R188). -/
def State.groupOf (s : State) (h : Nat) : Option (Nat × Group) :=
  match s.group? (h % 2 ^ 32) with
  | some g => if g.serial = h / 2 ^ 32 then some (h % 2 ^ 32, g) else none
  | none => none

/-- The handle of a group. -/
def handleOf (i : Nat) (g : Group) : Nat := i + 2 ^ 32 * g.serial

/-- An outermost group: no parent and FREE clear (R188). -/
def Group.outermost (g : Group) : Bool := g.parent.isNone && !g.free

/-- A tree's description. -/
def State.tree (s : State) (root : Nat) : Tree := KMap.getD s.data.trees root Tree.fresh

/-- Set a tree's description. -/
def State.setTree (s : State) (root : Nat) (t : Tree) : State :=
  s.onData fun d => { d with trees := KMap.put d.trees root t }

/-- The outermost or free group above a node. -/
def rootIn (t : KMap Node) : Nat → Nat → Nat
  | 0, i => i
  | n + 1, i =>
    match KMap.get? t i with
    | some (.group g) => (match g.parent with
      | some p => rootIn t n p
      | none => i)
    | some (.leaf l) => rootIn t n l.parent
    | some (.list g) => rootIn t n g
    | none => i

/-- The outermost or free group above a node. -/
def State.rootOf (s : State) (i : Nat) : Nat := rootIn s.data.nodes (s.data.nodes.length + 1) i

/-- The nodes of a tree in image order (R209): a group, its member lists, its members depth-first in member order. -/
def bodyIn (t : KMap Node) : Nat → Nat → List Nat
  | 0, _ => []
  | n + 1, i =>
    match KMap.get? t i with
    | some (.group g) => i :: g.lists ++ g.members.flatMap (bodyIn t n)
    | some (.leaf _) => [i]
    | _ => []

/-- The groups of a tree, top first. -/
def State.treeGroups (s : State) (root : Nat) : List Nat :=
  (bodyIn s.data.nodes (s.data.nodes.length + 1) root).filter fun i => (s.group? i).isSome

/-- The spares of a tree. -/
def State.treeSpares (s : State) (root : Nat) : List Nat :=
  (s.treeGroups root).flatMap fun i => ((s.group? i).map (·.spares)).getD []

/-- Every node of a tree in image order, spares last. -/
def State.treeNodes (s : State) (root : Nat) : List Nat :=
  bodyIn s.data.nodes (s.data.nodes.length + 1) root ++ s.treeSpares root

/-- The leaves of a tree, spares last. -/
def State.treeLeaves (s : State) (root : Nat) : List (Nat × Leaf) :=
  (s.treeNodes root).filterMap fun i => (s.leaf? i).map fun l => (i, l)

/-- The outermost and free groups. -/
def State.roots (s : State) : List (Nat × Group) :=
  s.data.nodes.filterMap fun e =>
    match e.2 with
    | .group g => if g.parent.isNone then some (e.1, g) else none
    | _ => none

/-- Blocks of the label area of a slice of a tree (R191). -/
def State.labelBlocks (s : State) (root : Nat) : Nat := 256 * ((s.group? root).map (·.labelMib)).getD 0

/-- A slice that carries a journal slot (R219): blocks from the start of its label area to the slot. -/
def slotOff (labelBlks : Nat) : Option Nat := if 32768 ≤ labelBlks then some (labelBlks - 16384) else none

/-! ## Geometry (R191, R194, R237) -/

/-- A geometry: layout, M, K, blocks per stripe unit, layout generation. -/
structure Geo where
  parity : Bool
  m : Nat
  k : Nat
  b : Nat
  gen : Nat
deriving DecidableEq, Repr

/-- Data blocks of a stripe. -/
def Geo.d (q : Geo) : Nat := if q.parity then q.m * q.b else q.b

/-- Members. -/
def Geo.n (q : Geo) : Nat := q.m + q.k

/-- Blocks per stripe unit. -/
def Group.unit (g : Group) : Nat := 2 ^ (g.suLog2 - 12)

/-- The geometry of LAYOUT_GEN. -/
def Group.oldGeo (g : Group) : Geo := ⟨g.parity, g.m, g.k, g.unit, g.gen⟩

/-- The geometry a reshape goes to. -/
def Group.newGeo (g : Group) : Geo := ⟨g.parity, g.reshape.m, g.reshape.k, g.unit, g.reshape.gen⟩

/-- The geometry in force at a data-space block. -/
def Group.geoAt (g : Group) (blk : Nat) : Geo :=
  if g.reshape.st != 0 && blk < g.reshape.next * g.newGeo.d then g.newGeo else g.oldGeo

/-- The geometry in force at a stripe as members hold it. -/
def Group.geoOfStripe (g : Group) (stripe : Nat) : Geo :=
  if g.reshape.st != 0 && stripe < g.reshape.next then g.newGeo else g.oldGeo

/-- The member that holds unit `u` (data, then parity) of a stripe. -/
def Geo.memberOf (q : Geo) (stripe u : Nat) : Nat := if q.parity then (u + stripe) % q.n else u

/-- The unit number a member holds in a stripe: its UNIT of the unit tag. -/
def Geo.unitOn (q : Geo) (stripe pos : Nat) : Nat :=
  if q.parity then (pos + q.n - stripe % q.n) % q.n else 0

/-- Blocks a member offers (R194). -/
def State.memberBlocks (s : State) (labelBlks b i : Nat) : Nat :=
  match s.node i with
  | some (.leaf l) => (l.count - labelBlks) / b * b
  | some (.group g) => g.dataBlocks / b * b
  | _ => 0

/-- Stripes of a member order (R194). -/
def State.stripesOf (s : State) (labelBlks b : Nat) (members : List Nat) : Nat :=
  match members.map fun i => s.memberBlocks labelBlks b i / b with
  | [] => 0
  | x :: xs => xs.foldl min x

/-! ## Member states (R190, R227) -/

/-- A leaf a stripe of its group may be read from and written to. -/
def Leaf.up (l : Leaf) (stripe : Nat) : Bool :=
  l.st == .online || (l.st == .rebuilding && decide (stripe < l.rbNext))

/-- A slice that takes writes at all. -/
def Leaf.present (l : Leaf) : Bool := l.st == .online || l.st == .rebuilding || l.st == .spare

/-- The state of a group from how many of its members are unavailable. -/
def grpStateOf (f k : Nat) : GrpSt :=
  if f = 0 then .optimal else if f < k then .degraded else if f = k then .critical else .failed

/-- The members of a group that are unavailable for its state. -/
def lostMembers (t : KMap Node) (g : Group) : Nat :=
  (g.members.filter fun i =>
    match KMap.get? t i with
    | some (.leaf l) => l.st != .online
    | some (.group h) => h.st == .failed
    | _ => true).length

/-- Recompute the state of a node and of its ancestors. -/
def restateUp : Nat → KMap Node → Nat → KMap Node
  | 0, t, _ => t
  | n + 1, t, i =>
    match KMap.get? t i with
    | some (.group g) =>
      let t := KMap.put t i (.group { g with st := grpStateOf (lostMembers t g) g.k })
      (match g.parent with
      | some p => restateUp n t p
      | none => t)
    | some (.leaf l) => restateUp n t l.parent
    | _ => t

/-- Recompute the states above a node. -/
def State.restate (s : State) (i : Nat) : State :=
  s.onData fun d => { d with nodes := restateUp (d.nodes.length + 1) d.nodes i }

/-! ## Node bytes (R188, R227, R236) -/

/-- Close 62 bytes with their NCRC. -/
def withNcrc (bs : Bytes) : Bytes := bs ++ leBytes 2 (crc16 bs)

/-- The index of an optional node. -/
def nodeNo (o : Option Nat) : Nat := o.getD noNode

/-- Bytes 44 to 61 of a group node. -/
def Reshape.bytes (r : Reshape) : Bytes :=
  leBytes 1 r.st ++ leBytes 1 r.m ++ leBytes 1 r.k ++ leBytes 1 (if r.st = 0 then 0 else r.m + r.k) ++ leBytes 2 r.gen
    ++ leBytes 6 r.next ++ leBytes 6 r.stop

/-- A group node. -/
def Group.bytes (g : Group) : Bytes :=
  withNcrc ([1, byteOf (b2n g.parity + 128 * b2n g.free), byteOf g.m, byteOf g.k, byteOf g.suLog2, byteOf g.dom,
      byteOf g.st.code, byteOf (g.m + g.k)]
    ++ leBytes 4 (nodeNo g.parent) ++ leBytes 4 (g.lists.headD noNode) ++ leBytes 3 g.depth ++ leBytes 1 g.slot
    ++ leBytes 2 g.gen ++ leBytes 2 (if g.parent.isNone then g.labelMib else 0) ++ leBytes 8 g.stripes
    ++ leBytes 8 g.dataBlocks ++ leBytes 4 g.serial ++ g.reshape.bytes)

/-- Code of a leaf state (R188). -/
def LeafSt.code : LeafSt → Nat
  | .online => 0
  | .failed => 1
  | .missing => 2
  | .rebuilding => 3
  | .spare => 4

/-- A leaf node. -/
def Leaf.bytes (l : Leaf) : Bytes :=
  withNcrc ([2, byteOf l.st.code] ++ leBytes 2 l.nsid ++ leBytes 4 l.parent ++ leBytes 1 l.slot ++ [0]
    ++ leBytes 2 l.fdom ++ leBytes 4 l.errs ++ leBytes 8 l.start ++ leBytes 8 l.count
    ++ (if l.st == .rebuilding then leBytes 6 l.rbNext ++ leBytes 1 (b2n l.hold + 2 * b2n l.lost) ++ [0] else zeros 8)
    ++ zeros 22)

/-- Member list node `k` of a group: twelve members and the next list. -/
def listBytes (g : Group) (k : Nat) : Bytes :=
  let ms := (g.members.drop (12 * k)).take 12
  withNcrc ([3, byteOf ms.length, 0, 0] ++ leBytes 4 (g.lists.getD (k + 1) noNode)
    ++ padTo (ms.flatMap (leBytes 4)) 48 ++ zeros 6)

/-- The 64 bytes of a node. -/
def State.nodeBytes (s : State) (i : Nat) : Bytes :=
  match s.node i with
  | some (.group g) => g.bytes
  | some (.leaf l) => l.bytes
  | some (.list gi) =>
    (match s.group? gi with
    | some g => listBytes g (g.lists.findIdx (· == i))
    | none => zeros 64)
  | none => zeros 64

/-! ## Unit tags (R206) -/

/-- A unit tag: 4,096 bytes, ADDR, GEN, UNIT, FLAGS. -/
def unitTag (blk : Bytes) (addr gen unit flags : Nat) : Bytes :=
  let t := leBytes 4 (crc32c blk) ++ leBytes 6 addr ++ leBytes 2 gen ++ leBytes 1 unit ++ leBytes 1 flags
  t ++ leBytes 2 (crc16 t)

/-- The unit tag of block `i` of a label area. -/
def labelTag (blk : Bytes) (i gen : Nat) : Bytes := unitTag blk i gen 0xFF 4

/-! ## Writes of stripes through every level (R191, R192, R197) -/

/-- A data block on its way down: its bytes, whether it is written, and its ZERO and lost marks. -/
structure Blk where
  data : Bytes
  touched : Bool
  zero : Bool
  lost : Bool
deriving DecidableEq, Repr

/-- A block written to a leaf, with its unit tag. -/
structure LeafWr where
  leaf : Nat
  nsid : Nat
  lba : Nat
  data : Bytes
  tag : Bytes
deriving DecidableEq, Repr

/-- The blocks of parity unit `j` over the data units of a stripe: a row is written where a data block of it is. -/
def parityBlks (b j : Nat) (units : List (List Blk)) : List Blk :=
  let bytes := parityUnit (4096 * b) j (units.map fun u => u.flatMap (·.data))
  (pieces 4096 bytes).zipIdx.map fun (p, i) => ⟨p, units.any fun u => (u.getD i ⟨[], false, false, false⟩).touched, false, false⟩

/-- The units of a stripe in unit order: data, then parity; a mirror has its one unit on every member. -/
def Geo.units (q : Geo) (blks : List Blk) : List (List Blk) :=
  if q.parity then
    let us := cuts q.b blks
    us ++ (List.range q.k).map fun j => parityBlks q.b j us
  else List.replicate q.n blks

/-- The member writes of the data blocks of whole stripes of a group, from a data-space block of it on. -/
def stripeWrites (t : KMap Node) (labelBlks : Nat) : Nat → Nat → Nat → List Blk → List LeafWr
  | 0, _, _, _ => []
  | n + 1, gi, off, blks =>
    match groupIn t gi with
    | none => []
    | some g =>
      let q := g.geoAt off
      (cuts q.d blks).zipIdx.flatMap fun (sb, k) =>
        let stripe := off / q.d + k
        ((q.units sb).zipIdx).flatMap fun (ub, u) =>
          match g.members[q.memberOf stripe u]? with
          | none => []
          | some mi =>
            match KMap.get? t mi with
            | some (.leaf l) =>
              if l.up stripe then
                (ub.zipIdx.filter fun x => x.1.touched).map fun (x, row) =>
                  let at_ := stripe * q.b + row
                  let unit := if q.parity then u else 0
                  ⟨mi, l.nsid, l.start + labelBlks + at_, x.data,
                    unitTag x.data at_ q.gen (if x.lost then 0xFE else unit)
                      (b2n (q.parity && decide (q.m ≤ u)) + 2 * b2n x.zero)⟩
              else []
            | some (.group _) => stripeWrites t labelBlks n mi (stripe * q.b) ub
            | _ => []

/-- The member writes of data blocks of a tree. -/
def State.writesOf (s : State) (root off : Nat) (blks : List Blk) : List LeafWr :=
  stripeWrites s.data.nodes (s.labelBlocks root) (s.data.nodes.length + 1) root off blks

/-- Bytes as data blocks that are written; blocks from `zeroFrom` bytes on are zero-filled space. -/
def blksOf (bs : Bytes) (zeroFrom : Nat) : List Blk :=
  (pieces 4096 bs).zipIdx.map fun (p, i) => ⟨padTo p 4096, true, decide (zeroFrom ≤ 4096 * i), false⟩

/-! ## The walker (R195, R218) -/

/-- One level of a walk: node, member position, unit, and the offset in the member, or the LBA at the leaf. -/
structure WalkStep where
  node : Nat
  pos : Nat
  unit : Nat
  off : Nat
  nsid : Option Nat
deriving DecidableEq, Repr

/-- The walk for a data-space block: one step per group level, the last at the leaf. -/
def walkIn (t : KMap Node) (labelBlks : Nat) : Nat → Nat → Nat → List WalkStep
  | 0, _, _ => []
  | n + 1, gi, blk =>
    match groupIn t gi with
    | none => []
    | some g =>
      let q := g.geoAt blk
      let stripe := blk / q.d
      let r := blk % q.d
      let u := r / q.b
      let pos := q.memberOf stripe u
      let off := stripe * q.b + r % q.b
      match g.members[pos]? with
      | none => []
      | some mi =>
        match KMap.get? t mi with
        | some (.leaf l) => [⟨mi, pos, u, l.start + labelBlks + off, some l.nsid⟩]
        | some (.group _) => ⟨mi, pos, u, off, none⟩ :: walkIn t labelBlks n mi off
        | _ => []

/-- The leaf that holds an LBA of a namespace, past its label area, with the offset within the member. -/
def State.leafAt (s : State) (nsn lba : Nat) : Option (Nat × Leaf × Nat) :=
  s.data.nodes.findSome? fun e =>
    match e.2 with
    | .leaf l =>
      let off := l.start + s.labelBlocks (s.rootOf e.1)
      if l.nsid = nsn && off ≤ lba && lba < l.start + l.count then some (e.1, l, lba - off) else none
    | _ => none

/-! ## Labels (R209, R210, R219) -/

/-- Blocks of an image. -/
def imageBlocks (nodes : Nat) : Nat := ceilDiv nodes 64

/-- Whether the images of a tree of so many nodes fit the label area, before the journal slot where there is one. -/
def imageFits (labelMib nodes : Nat) : Bool :=
  decide (2 + 2 * imageBlocks nodes ≤ (slotOff (256 * labelMib)).getD (256 * labelMib))

/-- The image of a tree, padded to whole blocks. -/
def State.image (s : State) (root : Nat) : Bytes :=
  let ns := s.treeNodes root
  padTo (ns.flatMap s.nodeBytes) (4096 * imageBlocks ns.length)

/-- The label block of a slice. -/
def State.labelBlock (s : State) (root leaf epoch : Nat) : Bytes :=
  let ns := s.treeNodes root
  let body := ([1] : Bytes) ++ zeros 7 ++ leBytes 8 (match s.group? root with
      | some g => handleOf root g
      | none => 0)
    ++ leBytes 8 epoch ++ leBytes 4 leaf ++ leBytes 4 ns.length ++ leBytes 4 (crc32c (ns.flatMap s.nodeBytes))
  let b := padTo body 4092
  b ++ leBytes 4 (crc32c b)

/-- Layout generation of a leaf's parent group. -/
def State.leafGen (s : State) (l : Leaf) : Nat := ((s.group? l.parent).map (·.gen)).getD 1

end Sys2Proof.Machine
end

