-- ==== Sys2Proof/Machine/Drives.lean ====
section
/-! DEFINITION. Drive commands: issuing the member writes of a tree, and what a write's end does to the work it
belongs to (R243 to R247, R250). -/

namespace Sys2Proof.Machine

open Sys2Proof

/-- A domain as this head holds it. -/
def State.dom (s : State) (d : Nat) : Dom := s.dhd.doms.getD d Dom.reset

/-- Set a domain. -/
def State.setDom (s : State) (d : Nat) (x : Dom) : State := s.onDhd fun h => { h with doms := h.doms.set d x }

/-- This head owns a domain (R186): commands of it are accepted. -/
def State.owns (s : State) (d : Nat) : Bool := (s.dom d).st == .owned

/-- This head may issue drive writes of a domain: it owns it, releases it, or replays it (R35, R387, R388). -/
def State.mayWrite (s : State) (d : Nat) : Bool :=
  let x := (s.dom d).st
  x == .owned || x == .releasing || x == .loading

/-- A namespace. -/
def State.nsOf (s : State) (nsn : Nat) : Option Ns := KMap.get? s.fpt.ns nsn

/-- A namespace that can be reached: present, and not Inaccessible or lost (R247). -/
def Ns.usable (n : Ns) : Bool := n.present && n.anaOk

/-- Ports of the split in force (R242). -/
def State.portCount (s : State) : Nat := 16 / 2 ^ min 2 (s.par Par.bifurcation)

/-- A flash port. -/
def State.port (s : State) (p : Nat) : Port := KMap.getD s.fpt.ports p Port.down

/-- Set a flash port. -/
def State.setPort (s : State) (p : Nat) (x : Port) : State := s.onFpt fun f => { f with ports := KMap.put f.ports p x }

/-- Contiguous blocks of one leaf: leaf, namespace, first LBA, blocks, data, unit tags. -/
structure Xfer where
  leaf : Nat
  nsid : Nat
  lba : Nat
  n : Nat
  data : Bytes
  tags : Bytes
deriving DecidableEq, Repr

/-- Add a block to a list of transfers: to the last one of its leaf that it continues, else as one of its own. -/
def addBlock (xs : List Xfer) (w : LeafWr) : List Xfer :=
  if xs.any fun x => x.leaf == w.leaf && x.lba + x.n == w.lba then
    xs.map fun x =>
      if x.leaf == w.leaf && x.lba + x.n == w.lba then
        { x with n := x.n + 1, data := x.data ++ w.data, tags := x.tags ++ w.tag }
      else x
  else xs ++ [⟨w.leaf, w.nsid, w.lba, 1, w.data, w.tag⟩]

/-- The transfers of a list of blocks. -/
def xfersOf (ws : List LeafWr) : List Xfer := ws.foldl addBlock []

/-- Issue a Write with FUA: one to a namespace that cannot be reached is not issued (R201, R251); while the domain's
fence lasts it is held (R388). -/
def State.driveWrite (s : State) (dom : Nat) (why : Why) (x : Xfer) : State × List Nat :=
  match s.nsOf x.nsid with
  | none => (s, [])
  | some ns =>
    if !ns.usable || !s.mayWrite dom then (s, [])
    else
      let cid := s.fpt.nextCid
      let held := decide (s.clk < (s.dom dom).fenceUntil)
      let c : NvCmd :=
        { cid := cid, port := ns.port, nsn := x.nsid, lba := x.lba, n := x.n, write := true, why := why, at_ := s.clk,
          stage := 0, stageAt := 0, retried := false, held := held, dom := dom, data := x.data, tags := x.tags }
      let s := s.onFpt fun f => { f with nextCid := cid + 1, cmds := f.cmds ++ [c] }
      let s := s.tally 2 (4096 * x.n)
      (if held then s else s.emit (.nvme cid x.nsid x.lba x.n x.data x.tags), [cid])

/-- Issue the writes of a list of blocks together. -/
def State.driveWrites (s : State) (dom : Nat) (why : Why) (ws : List LeafWr) : State × List Nat :=
  (xfersOf ws).foldl (fun (s, cs) x => let r := s.driveWrite dom why x; (r.1, cs ++ r.2)) (s, [])

/-- Blocks of a leaf's label area from an index on, tagged as label blocks (R206). -/
def State.labelWr (s : State) (i : Nat) (l : Leaf) (idx : Nat) (data : Bytes) : List LeafWr :=
  (pieces 4096 data).zipIdx.map fun (b, k) => ⟨i, l.nsid, l.start + idx + k, b, labelTag b (idx + k) (s.leafGen l)⟩

end Sys2Proof.Machine
end

