-- ==== Sys2Proof/Machine/Journal.lean ====
section
/-! DEFINITION. The in-flight journal: records and their bytes, copies, issuing, acknowledgement; and the label writes
of a tree (R209, R210, R219 to R226, R358). -/

namespace Sys2Proof.Machine

open Sys2Proof

/-! ## Records (R222) -/

/-- The journal of a domain. -/
def State.journal (s : State) (d : Nat) : Journal := KMap.getD s.data.journals d Journal.empty

/-- Set a journal. -/
def State.setJournal (s : State) (d : Nat) (j : Journal) : State :=
  s.onData fun x => { x with journals := KMap.put x.journals d j }

/-- Change a record of a journal. -/
def State.onRec (s : State) (d jseq : Nat) (f : JRec → JRec) : State :=
  let j := s.journal d
  s.setJournal d { j with recs := j.recs.map fun r => if r.jseq == jseq then f r else r }

/-- Blocks of the ring. -/
abbrev ringBlocks : Nat := 16382

/-- Bytes of items that one part of a record holds after its header. -/
abbrev partBytes : Nat := 4096 * 4096 - 64

/-- The items of a record, each with its header and padded to 8 bytes. -/
def itemBytes (items : List (Nat × Bytes)) : Bytes :=
  items.flatMap fun (c, b) => leBytes 2 c ++ leBytes 4 b.length ++ [0, 0] ++ padTo b (roundUp b.length 8)

/-- The parts of a record's items: one at least. -/
def recParts (items : List (Nat × Bytes)) : List Bytes :=
  let b := itemBytes items
  if b.isEmpty then [[]] else pieces partBytes b

/-- Blocks of a record with all its parts. -/
def recBlocks (items : List (Nat × Bytes)) : Nat :=
  (recParts items).foldl (fun n p => n + ceilDiv (64 + p.length) 4096) 0

/-- A part of a record: header, items, zeros to whole blocks. -/
def partOf (d epoch : Nat) (r : JRec) (more : Bool) (body : Bytes) : Bytes :=
  let n := ceilDiv (64 + body.length) 4096
  let body := padTo body (4096 * n - 64)
  let h := [1, byteOf r.ty.code, byteOf d, byteOf (b2n more)] ++ leBytes 4 n ++ leBytes 8 r.jseq ++ leBytes 8 r.sdw
    ++ leBytes 4 epoch ++ leBytes 4 (crc32c body) ++ leBytes 8 r.tick ++ zeros 22
  h ++ leBytes 2 (crc16 h) ++ body

/-- The bytes of a record in its ring blocks. -/
def recBytes (d epoch : Nat) (r : JRec) : Bytes :=
  let ps := recParts r.items
  ps.zipIdx.flatMap fun (p, i) => partOf d epoch r (decide (i + 1 < ps.length)) p

/-- The stripe durable watermark: every COMMIT record up to it has all its stripe writes acknowledged. -/
def Journal.sdw (j : Journal) : Nat :=
  (j.recs.filter fun r => r.ty == .commit && !r.need.isEmpty).foldl (fun m r => min m (r.jseq - 1)) (j.nextSeq - 1)

/-- Ring blocks held by unreleased records. -/
def Journal.used (j : Journal) : Nat := (j.recs.filter fun r => r.st != .waiting).foldl (fun n r => n + r.blocks) 0

/-- Journal fill in percent (TSK_Dn_STAT.JFILL). -/
def Journal.fill (j : Journal) : Nat := j.used * 100 / ringBlocks

/-- Ring block number `k` on from a ring block. -/
def ringAt (pos k : Nat) : Nat := 2 + (pos - 2 + k) % ringBlocks

/-- The copy header (R222). -/
def Journal.header (d : Nat) (j : Journal) : Bytes :=
  let (seq, blk) := match j.recs with
    | r :: _ => (r.jseq, r.pos)
    | [] => (j.nextSeq, j.next)
  let b := padTo ([1, byteOf d, 0, 0] ++ leBytes 4 j.epoch ++ leBytes 8 seq ++ leBytes 4 blk) 4092
  b ++ leBytes 4 (crc32c b)

/-! ## Copies (R219 to R221) -/

/-- First block of the journal slot in a leaf's label area. -/
def State.slotOf (s : State) (i : Nat) : Option Nat := slotOff (s.labelBlocks (s.rootOf i))

/-- Blocks of a copy, ring blocks from a position on. -/
def State.copyWr (s : State) (leaf pos : Nat) (data : Bytes) : List LeafWr :=
  match s.leaf? leaf, s.slotOf leaf with
  | some l, some off => (pieces 4096 data).zipIdx.flatMap fun (b, k) => s.labelWr leaf l (off + ringAt pos k) b
  | _, _ => []

/-- A header block of a copy. -/
def State.hdrWr (s : State) (leaf k : Nat) (data : Bytes) : List LeafWr :=
  match s.leaf? leaf, s.slotOf leaf with
  | some l, some off => s.labelWr leaf l (off + k) data
  | _, _ => []

/-- A copy that takes records: VALID, its slice ONLINE. -/
def State.copyOk (s : State) (c : JCopy) : Bool :=
  c.valid && (c.leaf.any fun i => (s.leaf? i).any fun l => l.st == .online)

/-- The leaves that hold copies. -/
def State.copyLeaves (s : State) : List Nat :=
  s.data.journals.flatMap fun e => [e.2.a, e.2.b, e.2.newB].filterMap (·.leaf)

/-- The slices eligible for a copy of a domain (R220), lowest node first. -/
def State.eligibleLeaves (s : State) (d : Nat) : List (Nat × Leaf) :=
  s.data.nodes.filterMap fun e =>
    match e.2 with
    | .leaf l =>
      if l.st == .online && s.rootDom (s.rootOf e.1) == d && (s.slotOf e.1).isSome && !s.copyLeaves.contains e.1
          && ((s.group? (s.rootOf e.1)).any (·.outermost)) then some (e.1, l)
      else none
    | _ => none

/-- The slice for the copy beside one on a leaf of failure domain `fd`: of another failure domain, or under R221 the
lowest. -/
def otherCopy (es : List (Nat × Leaf)) (fd : Nat) : Option (Nat × Leaf) :=
  match es.find? fun e => e.2.fdom != fd with
  | some e => some e
  | none => es.head?

/-! ## Issuing (R223, R225, R358) -/

/-- The peer's copy is wanted: the peer runs (R223). -/
def State.peerCounts (s : State) : Bool := s.dhd.armed && s.dhd.hst != .alone

/-- The peer's copy of a record is waited for: the peer runs, and the heads are not ISOLATED (R388; log entry 91). -/
def State.peerCopyWanted (s : State) : Bool := s.peerCounts && s.dhd.hst != .isolated

/-- Mirror ring blocks to the peer (R358). -/
def State.mirror (s : State) (d jseq pos : Nat) (data : Bytes) : State :=
  if (s.conn 0).isNone then s
  else
    let key := 0x80000000 + d
    let first := 4096 * (16384 - pos)
    let pkts := if data.length ≤ first then cutPkts Grmp.write key (4096 * pos) data true
      else cutPkts Grmp.write key (4096 * pos) (data.take first) false ++ cutPkts Grmp.write key 8192 (data.drop first) true
    s.submit 0 (.mirror d jseq) false data.length 0 pkts

/-- Change a copy of a domain: 0 A, 1 B, 2 the new B. -/
def State.onCopy (s : State) (d which : Nat) (f : JCopy → JCopy) : State :=
  let j := s.journal d
  s.setJournal d (match which with
    | 0 => { j with a := f j.a }
    | 1 => { j with b := f j.b }
    | _ => { j with newB := f j.newB })

/-- A copy of a domain. -/
def Journal.copy (j : Journal) : Nat → JCopy
  | 0 => j.a
  | 1 => j.b
  | _ => j.newB

/-- Write ring blocks to a copy that is being placed (R225). -/
def State.copyFill (s : State) (d which pos : Nat) (data : Bytes) : State :=
  let c := (s.journal d).copy which
  match c.leaf with
  | some i =>
    if c.placing then
      let (s, cs) := s.driveWrites d (.copy d (which != 0)) (s.copyWr i pos data)
      s.onCopy d which fun c => { c with acks := c.acks ++ cs }
    else s
  | none => s

/-- Write ring blocks to every copy that is being placed. -/
def State.toPlacing (s : State) (d pos : Nat) (data : Bytes) : State :=
  [0, 1, 2].foldl (fun s w => s.copyFill d w pos data) s

/-- Issue a record: it takes its ring blocks and goes to the member copies that take records and to the peer. -/
def State.issueRec (s : State) (d : Nat) (r : JRec) : State :=
  let j := s.journal d
  let toA := s.copyOk j.a
  let toB := s.copyOk j.b
  let r := { r with pos := j.next, st := JSt.issued, toA := toA, toB := toB }
  let data := recBytes d j.epoch r
  let s := s.setJournal d { j with next := ringAt j.next r.blocks, recs := j.recs.map fun x => if x.jseq == r.jseq then r else x }
  let s := if toA then (s.driveWrites d (.journal d false r.jseq) (s.copyWr (j.a.leaf.getD 0) r.pos data)).1 else s
  let s := if toB then (s.driveWrites d (.journal d true r.jseq) (s.copyWr (j.b.leaf.getD 0) r.pos data)).1 else s
  let s := s.toPlacing d r.pos data
  s.mirror d r.jseq r.pos data

/-- A record that need not wait for two copies: TREE and PLACE while there is none, PLACE while one is left (R223,
R225). -/
def State.issuesNow (s : State) (j : Journal) (r : JRec) : Bool :=
  let a := s.copyOk j.a
  let b := s.copyOk j.b
  (a && b) || (r.ty == .place) || (r.ty == .tree && !a && !b)

/-- Issue waiting records in order while copies and ring space allow it. -/
def State.issueLoop (d : Nat) : Nat → State → State
  | 0, s => s
  | n + 1, s =>
    let j := s.journal d
    match j.recs.find? fun r => r.st == .waiting && s.issuesNow j r with
    | none => s
    | some r => if ringBlocks < j.used + r.blocks then s else State.issueLoop d n (s.issueRec d r)

/-- Issue what a domain's journal may. -/
def State.issueWaiting (s : State) (d : Nat) : State := State.issueLoop d ((s.journal d).recs.length + 1) s

/-- Make a record of a domain: it takes the next JSEQ and is issued as soon as it may (R106, R222 to R225). -/
def State.makeRec (s : State) (d : Nat) (ty : JTy) (eid : Nat) (items : List (Nat × Bytes)) (need : List (Nat × Nat)) :
    State × Nat :=
  let j := s.journal d
  let r : JRec :=
    { jseq := j.nextSeq, ty := ty, eid := eid, items := items, blocks := recBlocks items, pos := 0, st := .waiting,
      toA := false, toB := false, ackA := false, ackB := false, ackP := false, since := s.clk, tick := s.tick,
      sdw := j.sdw, need := need, del := none }
  ((s.setJournal d { j with nextSeq := j.nextSeq + 1, recs := j.recs ++ [r] }).issueWaiting d, j.nextSeq)

/-- A record of no command. -/
def State.note (s : State) (d : Nat) (ty : JTy) (items : List (Nat × Bytes)) : State := (s.makeRec d ty 0 items []).1

/-- Every copy a record was issued to has acknowledged it, and two have, or none is there (R223). -/
def State.recAcked (s : State) (r : JRec) : Bool :=
  let two := r.ty == .tree || r.ty == .place || (r.toA && r.toB)
  r.st == .issued && two && (!r.toA || r.ackA) && (!r.toB || r.ackB) && (r.ackP || !s.peerCopyWanted)

/-- The acknowledgement of a member copy. -/
def State.ackCopy (s : State) (d : Nat) (b : Bool) (jseq : Nat) : State :=
  s.onRec d jseq fun r => if b then { r with ackB := true } else { r with ackA := true }

/-- Drop a record that is never to complete. -/
def State.dropRec (s : State) (d jseq : Nat) : State :=
  let j := s.journal d
  s.setJournal d { j with recs := j.recs.filter fun r => r.jseq != jseq }

/-- Write the copy header, alternately to blocks 0 and 1 (R222). -/
def State.writeHeader (s : State) (d : Nat) : State :=
  let j := s.journal d
  let h := j.header d
  let s := s.setJournal d { j with hdr := 1 - j.hdr }
  [j.a, j.b].foldl
    (fun s c => if s.copyOk c then (s.driveWrites d (.upkeep 0) (s.hdrWr (c.leaf.getD 0) j.hdr h)).1 else s) s

/-! ## Items -/

/-- NODE item (R222). -/
def State.nodeItem (s : State) (i : Nat) : Nat × Bytes := (6, leBytes 4 i ++ zeros 4 ++ s.nodeBytes i)

/-! ## Labels (R210) -/

/-- The slices of a tree that take label writes. -/
def State.labelLeaves (s : State) (root : Nat) : List (Nat × Leaf) := (s.treeLeaves root).filter fun e => e.2.present

/-- Remove a label write. -/
def State.dropLabel (s : State) (root epoch : Nat) : State :=
  s.onData fun d => { d with labels := d.labels.filter fun w => !(w.root == root && w.epoch == epoch) }

/-- Zeroed label blocks: both copies of the label are invalid (R211, R212). -/
def State.clearLabels (s : State) (ls : List (Nat × Leaf)) (dom : Nat) : State :=
  ls.foldl (fun s e => (s.driveWrites dom (.upkeep e.1) (s.labelWr e.1 e.2 0 (zeros 8192))).1) s

/-- Free every node of a tree. -/
def State.dropTree (s : State) (root : Nat) : State :=
  let ns := s.treeNodes root
  s.onData fun d => { d with nodes := KMap.keep d.nodes fun i _ => !ns.contains i, trees := KMap.del d.trees root }

/-- What follows a label write that has ended. -/
def State.afterLabel (s : State) (w : LabelW) : State :=
  let t := s.tree w.root
  let s := if (s.group? w.root).isSome then s.setTree w.root { t with labelSeq := max t.labelSeq w.seq } else s
  match w.after with
  | .reply => s.finalOf w.eid St.ok 0 w.result
  | .create =>
    if w.failed then
      ((s.clearLabels (s.treeLeaves w.root) (s.rootDom w.root)).dropTree w.root).finalOf w.eid St.mediaError 0x1502 []
    else s.finalOf w.eid St.ok 0 w.result
  | .move => s
  | .upkeep => s

/-- Move a label write on once its writes have ended: images first, then the label blocks, then what follows. -/
def State.stepLabel (s : State) (w : LabelW) : State :=
  if !w.acks.isEmpty then s
  else if w.blocks then (s.dropLabel w.root w.epoch).afterLabel w
  else
    let dom := s.rootDom w.root
    let (s, cs) := (s.labelLeaves w.root).foldl
      (fun (s, cs) e =>
        let r := s.driveWrites dom (.label w.root w.epoch)
          (s.labelWr e.1 e.2 (w.epoch % 2) (s.labelBlock w.root e.1 w.epoch))
        (r.1, cs ++ r.2)) (s, [])
    let w := { w with blocks := true, acks := cs }
    let s := s.onData fun d =>
      { d with labels := d.labels.map fun x => if x.root == w.root && x.epoch == w.epoch then w else x }
    if cs.isEmpty then (s.dropLabel w.root w.epoch).afterLabel w else s

/-- Write EPOCH + 1 to every available slice of a tree (R210). -/
def State.writeLabels (s : State) (root : Nat) (eid : Nat) (after : AfterLabel) (result : Bytes) : State :=
  let t := s.tree root
  let epoch := t.epoch + 1
  let s := s.setTree root { t with epoch := epoch }
  let dom := s.rootDom root
  let img := s.image root
  let at_ := 2 + (epoch % 2) * imageBlocks (s.treeNodes root).length
  let (s, cs) := (s.labelLeaves root).foldl
    (fun (s, cs) e =>
      let r := s.driveWrites dom (.label root epoch) (s.labelWr e.1 e.2 at_ img)
      (r.1, cs ++ r.2)) (s, [])
  let w : LabelW := ⟨root, epoch, (s.journal dom).nextSeq - 1, false, cs, false, eid, after, result⟩
  (s.onData fun d => { d with labels := d.labels ++ [w] }).stepLabel w

/-- A tree has label writes outstanding. -/
def State.labelling (s : State) (root : Nat) : Bool := s.data.labels.any fun w => w.root == root

/-! ## Changes of a member's state (R190, R210) -/

/-- A node and the groups above it. -/
def upIn (t : KMap Node) : Nat → Nat → List Nat
  | 0, i => [i]
  | n + 1, i =>
    match KMap.get? t i with
    | some (.group g) => (match g.parent with
      | some p => i :: upIn t n p
      | none => [i])
    | some (.leaf l) => i :: upIn t n l.parent
    | _ => [i]

/-- A node and the groups above it. -/
def State.upFrom (s : State) (i : Nat) : List Nat := upIn s.data.nodes (s.data.nodes.length + 1) i

/-- One TREE record of changed nodes, and the label write of their tree (R186, R210), while this head owns the
domain. -/
def State.treeChange (s : State) (root : Nat) (nodes : List Nat) : State :=
  let d := s.rootDom root
  if s.mayWrite d then (s.note d .tree (nodes.map s.nodeItem)).writeLabels root 0 .upkeep [] else s

/-- Put leaves of one tree into a state: the groups above are restated in the same record. -/
def State.leavesTo (s : State) (root : Nat) (is : List Nat) (st : LeafSt) : State :=
  let s := is.foldl
    (fun s i => match s.leaf? i with
      | some l => (s.setNode i (.leaf { l with st := st, rbNext := 0, hold := false, lost := false })).restate l.parent
      | none => s) s
  if is.isEmpty then s else s.treeChange root (is.flatMap s.upFrom).eraseDups

/-- A leaf fails (R250). -/
def State.leafFail (s : State) (i : Nat) : State :=
  match s.leaf? i with
  | some l => if l.st == .failed then s else s.leavesTo (s.rootOf i) [i] .failed
  | none => s

end Sys2Proof.Machine
end

