-- ==== Sys2Proof/Machine/Index.lean ====
section
/-! DEFINITION. The dedupe index of a domain: buckets, lookup, insertion, counts (R94 to R101, R107 to R111). -/

namespace Sys2Proof.Machine

open Sys2Proof

/-- b in force (R94). -/
def State.idxB (s : State) : Nat := s.par Par.idxBucketsLog2

/-- A bucket of a domain's index. -/
def State.bucket (s : State) (d n : Nat) : Bucket := KMap.getD (KMap.getD s.data.index d []) n Bucket.empty

/-- Set a bucket; it is written to the metadata image at the next tick (R482). -/
def State.setBucket (s : State) (d n : Nat) (b : Bucket) : State :=
  s.onData fun x =>
    { x with index := KMap.put x.index d (KMap.put (KMap.getD x.index d []) n b),
             dirty := if x.dirty.contains (d, n) then x.dirty else x.dirty ++ [(d, n)] }

/-- The home bucket of a key (R98). -/
def State.home (s : State) (key : Bytes) : Nat := leVal (key.take 8) % 2 ^ s.idxB

/-- The buckets of a chain from one on. -/
def State.chainFrom (s : State) (d : Nat) : Nat → Nat → List Nat
  | 0, _ => []
  | f + 1, n =>
    let b := s.bucket d n
    n :: if b.next = 0 then [] else State.chainFrom s d f b.next

/-- The chain of a key. -/
def State.chain (s : State) (d : Nat) (key : Bytes) : List Nat :=
  s.chainFrom d ((KMap.getD s.data.index d []).length + 1) (s.home key)

/-- The places of a chain's slots: bucket and slot number. -/
def places (ns : List Nat) : List (Nat × Nat) := ns.flatMap fun n => (List.range 5).map fun i => (n, i)

/-- A slot. -/
def State.slotAt (s : State) (d : Nat) (p : Nat × Nat) : Option IdxEntry := (s.bucket d p.1).slots.getD p.2 none

/-- Set a slot. -/
def State.setSlot (s : State) (d : Nat) (p : Nat × Nat) (e : Option IdxEntry) : State :=
  let b := s.bucket d p.1
  s.setBucket d p.1 { b with slots := b.slots.set p.2 e }

/-- The place of the first entry of a chain that satisfies a test. -/
def State.findPlace (s : State) (d : Nat) (key : Bytes) (p : IdxEntry → Bool) : Option (Nat × Nat) :=
  (places (s.chain d key)).find? fun x => (s.slotAt d x).any fun e => e.key == key && p e

/-- A lookup matches a provisional or final entry of the same kind (R98). -/
def IdxEntry.live (e : IdxEntry) (object : Bool) : Bool := e.object == object && e.st != .tomb

/-- Look an entry up. -/
def State.lookup (s : State) (d : Nat) (key : Bytes) (object : Bool) : Option IdxEntry :=
  (s.findPlace d key (·.live object)).bind (s.slotAt d)

/-- The lowest overflow bucket that no chain uses (log entry 20). -/
def State.freeOverflow (s : State) (d : Nat) : Option Nat :=
  lowestFree ((KMap.getD s.data.index d []).map fun e => e.2.next) (2 ^ s.idxB) (min (2 ^ (s.idxB - 3)) ((KMap.getD s.data.index d []).length + 1))

/-- Insert an entry into the first empty slot of its chain, linking an overflow bucket where there is none (R99). -/
def State.insertIdx (s : State) (d : Nat) (e : IdxEntry) : Option State :=
  let ch := s.chain d e.key
  match (places ch).find? fun p => (s.slotAt d p).isNone with
  | some p => some (s.setSlot d p (some e))
  | none =>
    match s.freeOverflow d with
    | none => none
    | some n =>
      let last := ch.getLastD 0
      let s := s.setBucket d last { s.bucket d last with next := n }
      some (s.setBucket d n { Bucket.empty with slots := (some e) :: [none, none, none, none] })

/-- Change the first entry of a key that satisfies a test. -/
def State.updIdx (s : State) (d : Nat) (key : Bytes) (p : IdxEntry → Bool) (f : IdxEntry → Option IdxEntry) : State :=
  match s.findPlace d key p with
  | none => s
  | some x => s.setSlot d x ((s.slotAt d x).bind f)

/-- Counts saturate at 2^29 - 1 (R100). -/
abbrev maxCount : Nat := 2 ^ 29 - 1

/-- Add references to an entry (R100, R107); one on a tombstone makes it final again with COUNT 1 (R111). -/
def IdxEntry.addRefs (e : IdxEntry) (n : Nat) : IdxEntry :=
  if e.st == .tomb then { e with st := .final, count := min maxCount n }
  else if e.count = maxCount then e else { e with count := min maxCount (e.count + n) }

/-- Take a reference from an entry; at 0 it becomes a tombstone (R100, R109). -/
def IdxEntry.dropRef (e : IdxEntry) (tick : Nat) : IdxEntry :=
  if e.count = maxCount then e
  else if e.count ≤ 1 then { e with count := 0, st := .tomb, since := tick }
  else { e with count := e.count - 1 }

/-- Code of an entry's state (R97). -/
def IdxSt.code : IdxSt → Nat
  | .prov => 1
  | .final => 2
  | .tomb => 3

/-- The 48 bytes of an entry (R96): while provisional, the owner's lane, ring and SEQ. -/
def IdxEntry.bytes (e : IdxEntry) (lane ring seq : Nat) : Bytes :=
  e.key
    ++ (if e.st == .prov then leBytes 1 lane ++ leBytes 2 ring ++ leBytes 2 seq ++ zeros 7
        else leBytes 8 e.extent ++ leBytes 3 e.offset ++ leBytes 1 e.rlen)
    ++ leBytes 4 (e.count % 2 ^ 29 + 2 ^ 29 * b2n e.object + 2 ^ 30 * e.st.code)

/-- An entry as it stands, with its owner's lane, ring and SEQ. -/
def State.idxBytes (s : State) (e : IdxEntry) : Bytes :=
  let lane := ((s.data.puts.find? fun p => p.eid == e.owner).bind fun p => p.segs.head?.map (·.1)).getD 0
  match s.entry e.owner with
  | some x => e.bytes lane x.ring (pktSeq x.pkt)
  | none => e.bytes lane 0 0

/-- The 256 bytes of a bucket (R95). -/
def State.bucketBytes (s : State) (b : Bucket) : Bytes :=
  leBytes 4 b.next ++ leBytes 1 (bitsWhere 5 fun i => (b.slots.getD i none).isSome) ++ zeros 11
    ++ b.slots.flatMap fun o => match o with
      | some e => s.idxBytes e
      | none => zeros 48

/-- The entries of a domain's index with their places. -/
def State.idxAll (s : State) (d : Nat) : List ((Nat × Nat) × IdxEntry) :=
  (KMap.getD s.data.index d []).flatMap fun e =>
    (e.2.slots.zipIdx.filterMap fun (o, i) => o.map fun x => ((e.1, i), x))

/-- The key of an object entry (R96). -/
def objKey (salt id : Bytes) : Bytes := sha256 (salt ++ id)

/-- The salt of a tenant. -/
def State.salt (s : State) (t : Nat) : Bytes := ((KMap.get? s.data.tenants t).map (·.salt)).getD []

end Sys2Proof.Machine
end

