-- ==== Sys2Proof/Machine/Space.lean ====
section
/-! DEFINITION. Data space: extents, open runs, full stripes, seals and small writes (R196 to R203). -/

namespace Sys2Proof.Machine

open Sys2Proof

/-! ## Extents and runs (R196; log entry 17) -/

/-- An extent ID: group node and extent number. -/
def extId (root num : Nat) : Nat := root * 2 ^ 44 + num

/-- The outermost group of an extent ID. -/
def extRoot (id : Nat) : Nat := id / 2 ^ 44

/-- An extent by its ID. -/
def State.extent (s : State) (id : Nat) : Option Extent :=
  (s.tree (extRoot id)).exts.find? fun e => e.num == id % 2 ^ 44

/-- The block runs of a tree that are taken: extents, and what is left of the open runs. -/
def Tree.taken (t : Tree) : List (Nat × Nat) :=
  (t.exts.filter (·.flash)).map (fun e => (e.start, e.start + e.blocks))
    ++ [t.recRun, t.rcpRun].filterMap fun r => r.map fun x => (x.spillLo / 4096, ceilDiv x.stop 4096)

/-- The lowest whole-stripe run of free blocks of a group: its first block and its length, at most `max` blocks. -/
def Tree.freeRun (t : Tree) (g : Group) (max : Nat) : Option (Nat × Nat) :=
  let d := g.oldGeo.d
  let used := t.taken
  let cands := roundUp 16 d :: used.map fun u => roundUp u.2 d
  let fits := cands.filterMap fun c =>
    let gap := (used.filter fun u => c < u.2).foldl (fun m u => min m (u.1 - c)) (g.dataBlocks - c)
    let n := min (max / d * d) (gap / d * d)
    if n = 0 then none else some (c, n)
  fits.foldl (fun b c => match b with
    | none => some c
    | some x => if c.1 < x.1 then some c else some x) none

/-- A run opened at a block, for an extent number. -/
def OpenRun.at (ext start blocks : Nat) : OpenRun := ⟨ext, 4096 * (start + blocks), 4096 * start, 4096 * start, [], false, 0⟩

/-- What appending to a run leaves: the run, the stripes it completes, and the blocks for the small-write path. -/
structure Appended where
  run : OpenRun
  fulls : List (Nat × Bytes)
  smalls : List (Nat × Bytes)
deriving DecidableEq, Repr

/-- Settle the bytes held by a run: complete stripes leave it; past a fill point, or where a stripe began under another
geometry, blocks go the small-write way. -/
def settle (g : Group) : Nat → Appended → Appended
  | 0, a => a
  | n + 1, a =>
    let r := a.run
    let d := (g.geoAt (r.spillLo / 4096)).d
    let lo := r.spillLo / 4096 / d * d
    let hi := 4096 * (lo + d)
    let stop := r.spillLo + r.spill.length
    if r.spillLo = 4096 * lo && !r.sealed_ then
      if hi ≤ stop then
        settle g n { a with
          run := { r with spillLo := hi, spill := r.spill.drop (hi - r.spillLo) }
          fulls := a.fulls ++ [(lo, r.spill.take (hi - r.spillLo))] }
      else a
    else
      let new := r.spill.take (hi - r.spillLo)
      let sm := if new.isEmpty then a.smalls else a.smalls ++ [(r.spillLo / 4096, padTo new (roundUp new.length 4096))]
      if hi ≤ stop then
        settle g n { a with run := { r with spillLo := hi, spill := r.spill.drop (hi - r.spillLo), sealed_ := false }, smalls := sm }
      else
        let keep := stop / 4096 * 4096
        { a with run := { r with spillLo := keep, spill := r.spill.drop (keep - r.spillLo), sealed_ := true }, smalls := sm }

/-- Append bytes to a run. -/
def OpenRun.append (r : OpenRun) (g : Group) (now : Nat) (new : Bytes) : Appended :=
  let r' := { r with fill := r.fill + new.length, spill := r.spill ++ new, openedAt := if r.spill.isEmpty then now else r.openedAt }
  settle g (new.length / 4096 + 3) ⟨r', [], []⟩

/-- The new blocks that stay in a run's open stripe, from byte `from_` of the data space on. -/
def OpenRun.rest (r : OpenRun) (from_ : Nat) : Option (Nat × Bytes) :=
  if r.sealed_ || r.spill.isEmpty || r.spillLo + r.spill.length ≤ from_ then none
  else
    let lo := max (from_ / 4096 * 4096) r.spillLo
    let b := r.spill.drop (lo - r.spillLo)
    some (lo / 4096, padTo b (roundUp b.length 4096))

/-- A stripe whose blocks are all present, waiting for its member writes (R197). -/
def State.addStripe (s : State) (root block : Nat) (data : Bytes) (zeroFrom : Nat) : State :=
  s.onData fun d => { d with stripesW := d.stripesW ++ [⟨root, block, data, zeroFrom, false, []⟩] }

/-- Seal a run's open stripe: the unfilled blocks are zero (R198). -/
def State.sealRun (s : State) (root : Nat) (g : Group) (r : OpenRun) : State × OpenRun :=
  if r.sealed_ || r.spill.isEmpty then (s, r)
  else
    let n := 4096 * (g.geoAt (r.spillLo / 4096)).d
    let stop := r.spillLo + r.spill.length
    let keep := stop / 4096 * 4096
    (s.addStripe root (r.spillLo / 4096) (padTo r.spill n) r.spill.length,
      { r with spillLo := keep, spill := r.spill.drop (keep - r.spillLo), sealed_ := true })

/-- The records run or the recipes run of a tree. -/
def Tree.run (t : Tree) (rcp : Bool) : Option OpenRun := if rcp then t.rcpRun else t.recRun

/-- Set a run. -/
def Tree.setRun (t : Tree) (rcp : Bool) (r : OpenRun) : Tree :=
  if rcp then { t with rcpRun := some r } else { t with recRun := some r }

/-- The run for `n` more bytes: the open one where it has room, else a new one; what the old one left open is sealed. -/
def State.runFor (s : State) (root : Nat) (g : Group) (rcp : Bool) (n : Nat) : Option (State × OpenRun) :=
  let t := s.tree root
  match (t.run rcp).filter fun r => decide (r.fill + n ≤ r.stop) with
  | some r => some (s, r)
  | none =>
    let want := if rcp then max (g.oldGeo.d) (roundUp (ceilDiv n 4096) g.oldGeo.d) else 65536
    match t.freeRun g want with
    | none => none
    | some (start, blocks) =>
      if 4096 * blocks < n then none
      else
        let s := match t.run rcp with
          | some r => let (s, r) := s.sealRun root g r; s.setTree root ((s.tree root).setRun rcp r)
          | none => s
        let t := s.tree root
        if rcp then some (s, OpenRun.at 0 start blocks)
        else
          some (s.setTree root { t with nextExt := t.nextExt + 1, extDirty := true, exts := t.exts ++ [Extent.make t.nextExt start blocks 0] },
            OpenRun.at t.nextExt start blocks)

/-- What a placement gives: the byte of the data space it starts at, the stripes it completed or lies open in, and its
blocks that are not in a complete stripe. -/
structure Spot where
  at_ : Nat
  ext : Nat
  stripes : List (Nat × Nat)
  parts : List PartBlk
deriving DecidableEq, Repr

/-- Append bytes to a tree's run of records or recipes (R196, R197). -/
def State.place (s : State) (root : Nat) (rcp : Bool) (data : Bytes) : Option (State × Spot) :=
  match s.group? root with
  | none => none
  | some g =>
    match s.runFor root g rcp data.length with
    | none => none
    | some (s, r) =>
      let a := r.append g s.clk data
      let s := a.fulls.foldl (fun s f => s.addStripe root f.1 f.2 f.2.length) s
      let parts := a.smalls.map (fun x => (⟨root, x.1, true, x.2⟩ : PartBlk))
        ++ (match a.run.rest r.fill with
          | some x => [(⟨root, x.1, false, x.2⟩ : PartBlk)]
          | none => [])
      some (s.setTree root ((s.tree root).setRun rcp a.run), ⟨r.fill, r.ext, a.fulls.map fun f => (root, f.1), parts⟩)

/-- Count one more record in an extent. -/
def State.holdExt (s : State) (root num : Nat) : State :=
  let t := s.tree root
  s.setTree root { t with exts := t.exts.map fun e => if e.num == num then { e with refs := e.refs + 1 } else e }

/-- One record or recipe of an extent is reclaimed: the extent is freed with the last thing it holds (R196). -/
def State.freeExt (s : State) (id : Nat) : State :=
  let root := extRoot id
  let num := id % 2 ^ 44
  let t := s.tree root
  let cur := (t.recRun.map (·.ext)) == some num
  let es := t.exts.map fun e => if e.num == num then { e with refs := e.refs - 1 } else e
  s.setTree root { t with exts := es.filter fun e => !(e.num == num && e.refs == 0 && !cur), extDirty := true }

/-- A recipe takes an extent of its own (R104, R196). -/
def State.placeRecipe (s : State) (root : Nat) (data : Bytes) : Option (State × Nat × Spot) :=
  let data := padTo data (roundUp data.length 4096)
  match s.place root true data with
  | none => none
  | some (s, sp) =>
    let t := s.tree root
    let e := Extent.make t.nextExt (sp.at_ / 4096) (data.length / 4096) 1
    some (s.setTree root { t with nextExt := t.nextExt + 1, extDirty := true, exts := t.exts ++ [e] }, extId root e.num, sp)

/-- The bytes of an extent table entry, which the manual does not lay out (log entry 21). -/
def Extent.bytes (e : Extent) : Bytes := Config.unstatedBytes 21 [e.num, e.start, e.blocks, e.refs, b2n e.onTape, e.serial, e.dsn, e.off] 32

/-- EXTENT item (R222) of an extent. -/
def Extent.item (root : Nat) (e : Extent) : Nat × Bytes := (7, leBytes 8 (extId root e.num) ++ e.bytes)

/-! ## Journal items of stripes (R222) -/

/-- DCHK of a stripe: CRC-32C over the GUARDs of its data blocks. -/
def dchk (data : Bytes) : Nat := crc32c ((pieces 4096 data).flatMap fun b => leBytes 4 (crc32c b))

/-- Handle of the group at a node. -/
def State.handle (s : State) (i : Nat) : Nat := ((s.group? i).map (handleOf i)).getD 0

/-- STRIPE item of a complete stripe. -/
def State.stripeItem (s : State) (w : StripeW) : Nat × Bytes :=
  match s.group? w.root with
  | none => (5, [])
  | some g =>
    let q := g.geoAt w.block
    (5, leBytes 8 (handleOf w.root g) ++ leBytes 8 (w.block / q.d) ++ leBytes 4 (dchk w.data) ++ leBytes 2 q.gen ++ [0, 0])

/-- DATA items of blocks: one for each unit they touch. -/
def State.dataItems (s : State) (p : PartBlk) : List (Nat × Bytes) :=
  match s.group? p.root with
  | none => []
  | some g =>
    let bs := (pieces 4096 p.bytes).zipIdx.map fun (b, i) => (p.block + i, b)
    let q := g.geoAt p.block
    let units := (bs.map fun x => x.1 / q.b).eraseDups
    units.map fun u =>
      let us := bs.filter fun x => x.1 / q.b == u
      (4, leBytes 8 (handleOf p.root g) ++ leBytes 8 (u * q.b / q.d) ++ leBytes 4 (2 ^ (u * q.b % q.d / q.b))
        ++ leBytes 8 (bitsWhere 64 fun r => us.any fun x => x.1 % q.b == r) ++ leBytes 2 q.gen ++ [0, 0]
        ++ us.flatMap (·.2))

/-! ## Writing stripes (R197, R203) -/

/-- Stripes written at every level by a whole stripe of a group. -/
def stripeTally (t : KMap Node) : Nat → Nat → Nat → Nat → Nat
  | 0, _, _, _ => 0
  | n + 1, gi, off, len =>
    match groupIn t gi with
    | none => 0
    | some g =>
      let q := g.geoAt off
      let k := len / q.d
      k + (List.range k).foldl (fun a i =>
        a + g.members.foldl (fun a m => a + stripeTally t n m ((off / q.d + i) * q.b) q.b) 0) 0

/-- Rows written at every level by touched blocks of a group, given as offsets from a block on. -/
def rowTally (t : KMap Node) : Nat → Nat → List Nat → Nat
  | 0, _, _ => 0
  | n + 1, gi, offs =>
    match groupIn t gi with
    | none => 0
    | some g =>
      let rows := (offs.map fun o => let q := g.geoAt o; (o / q.d, o % q.d % q.b)).eraseDups
      rows.length + g.members.zipIdx.foldl (fun a (m, pos) =>
        let mine := offs.filterMap fun o =>
          let q := g.geoAt o
          let st := o / q.d
          let u := q.unitOn st pos
          if !q.parity || u = o % q.d / q.b || q.m ≤ u then some (st * q.b + o % q.d % q.b) else none
        if mine.isEmpty then a else a + rowTally t n m mine.eraseDups) 0

/-- The data-space block of the outermost group above a group that a block of it lies in, or, where it is part of a
parity unit, the first block of that stripe. -/
def liftIn (t : KMap Node) : Nat → Nat → Nat → Nat
  | 0, _, blk => blk
  | n + 1, gi, blk =>
    match groupIn t gi with
    | none => blk
    | some g =>
      match g.parent with
      | none => blk
      | some p =>
        match groupIn t p with
        | none => blk
        | some h =>
          let q := h.geoOfStripe (blk / h.unit)
          let u := q.unitOn (blk / q.b) g.slot
          liftIn t n p (blk / q.b * q.d + (if q.parity && q.m ≤ u then 0 else u * q.b + blk % q.b))

/-- The block of the outermost group for a block of a group of its tree. -/
def State.lift (s : State) (gi blk : Nat) : Nat := liftIn s.data.nodes (s.data.nodes.length + 1) gi blk

/-- A range of a group's data space as blocks of the outermost group: one block stands for a range within a unit. -/
def State.liftRange (s : State) (root gi lo n : Nat) : Nat × Nat := if gi = root then (lo, lo + n) else (s.lift gi lo, s.lift gi lo + 1)

/-- The range of a group's data space that a reshape step with a checkpoint under way has locked (R238). -/
def State.ckptRange (s : State) (gi : Nat) (g : Group) : Option (Nat × Nat) :=
  let d := g.newGeo.d
  let mine := fun (x : Nat × Bytes) => x.1 == 9 && leAt x.2 0 8 == handleOf gi g && leAt x.2 8 8 == g.reshape.next && leAt x.2 16 1 == 1
  if g.reshape.st == 1 && (s.journal g.dom).recs.any fun r => r.items.any mine then some (g.reshape.next * d, d) else none

/-- The ranges of the outermost data space that rebuild passes and reshapes hold locked in a tree. -/
def State.stepLocks (s : State) (root : Nat) : List (Nat × Nat) :=
  (s.fpt.cmds.filterMap fun c =>
    match c.why with
    | .step gi lo n => if s.rootOf gi = root then some (s.liftRange root gi lo n) else none
    | _ => none)
  ++ (s.treeGroups root).filterMap fun gi => (s.group? gi).bind fun g =>
    (s.ckptRange gi g).map fun x => s.liftRange root gi x.1 x.2

/-- Member writes of a stripe of a tree are outstanding. -/
def State.stripeBusy (s : State) (root lo d : Nat) : Bool :=
  (s.data.stripesW.any fun w => w.root == root && w.issued && w.block == lo)
    || s.data.smalls.any fun w => w.root == root && w.stage == 1 && decide (w.block < lo + d)
        && decide (lo < w.block + w.data.length / 4096)

/-- A stripe of a tree is locked: member writes of it are outstanding, or a pass or a reshape holds it (R203). -/
def State.locked (s : State) (root block : Nat) : Bool :=
  match s.group? root with
  | none => false
  | some g =>
    let q := g.geoAt block
    let lo := block / q.d * q.d
    s.stripeBusy root lo q.d || (s.stepLocks root).any fun x => decide (x.1 < lo + q.d) && decide (lo < x.2)

/-- A stripe's member writes are all acknowledged: what waited for it goes on. -/
def State.stripeDone (s : State) (root block : Nat) : State :=
  s.onData fun d =>
    { d with
      stripesW := d.stripesW.filter fun w => !(w.root == root && w.block == block && w.issued)
      puts := d.puts.map fun p => { p with stripes := p.stripes.filter fun x => x != (root, block) }
      journals := KMap.mapV d.journals fun _ j =>
        { j with recs := j.recs.map fun r => { r with need := r.need.filter fun x => x != (root, block) } } }

/-- The entries of a tree's lost list that a whole stripe of the outermost group covers are removed by a LOST record
(R234). -/
def State.unlose (s : State) (root block : Nat) : State :=
  match s.group? root with
  | none => s
  | some g =>
    let q := g.geoAt block
    let t := s.tree root
    let hit := fun (e : LostEntry) => e.group == handleOf root g && e.stripe == block / q.d
    if t.lostList.any fun o => o.any hit then
      let s := s.setTree root { t with lostList := t.lostList.map fun o => if o.any hit then none else o }
      s.note (s.rootDom root) .lost [(8, leBytes 8 (handleOf root g) ++ leBytes 8 (block / q.d) ++ zeros 16)]
    else s

/-- Issue every member write of a complete stripe together. -/
def State.issueStripe (s : State) (w : StripeW) : State :=
  let dom := s.rootDom w.root
  let ws := s.writesOf w.root w.block (blksOf w.data w.zeroFrom)
  let n := s.data.nodes.length + 1
  let s := s.addPair Reg.tskCntFullLo (stripeTally s.data.nodes n w.root w.block (w.data.length / 4096))
  let s := s.unlose w.root w.block
  let (s, cs) := s.driveWrites dom (.stripe w.root w.block) ws
  let s := s.onData fun d =>
    { d with stripesW := d.stripesW.map fun x => if x.root == w.root && x.block == w.block && !x.issued then { x with issued := true, acks := cs } else x }
  if cs.isEmpty then s.stripeDone w.root w.block else s

/-- FULL_STRIPE_WRITE (R197): the stripe from a data-space block on has all its blocks and is not locked. -/
def execFullStripeWrite (root block : Nat) (s : State) : Host.Outcome State Fault Refusal :=
  .next <|
    match s.data.stripesW.find? fun w => w.root == root && w.block == block && !w.issued with
    | none => s
    | some w => if s.locked root block || !s.mayWrite (s.rootDom root) then s else s.issueStripe w

/-! ## Seals (R198) -/

/-- A domain whose open stripes are to be sealed now: it is being released, a tree of it moves, or its journal is
filled (R198). -/
def State.sealsNow (s : State) (root : Nat) : Bool :=
  (s.dom (s.rootDom root)).st == .releasing || s.data.moves.any fun m => m.root == root && m.step == 3

/-- Seal the open stripe at a block of a tree, once its Tussock instance takes new work (R30). -/
def State.sealAt (s : State) (root block : Nat) (p : OpenRun → Bool) : State :=
  match s.group? root with
  | none => s
  | some g =>
    [false, true].foldl (fun s rcp =>
      match (s.tree root).run rcp with
      | some r =>
        if s.tskFree (s.rootDom root) && r.spillLo / 4096 = block && p r then
          let (s, r) := s.sealRun root g r
          s.setTree root ((s.tree root).setRun rcp r)
        else s
      | none => s) s

/-- STRIPE_SEAL (R198): the stripe has been open for TSK_seal_ms, or its domain or tree is to be drained. -/
def execStripeSeal (root block : Nat) (s : State) : Host.Outcome State Fault Refusal :=
  .next (s.sealAt root block fun r => s.sealsNow root || decide (r.openedAt + msTicks (s.par Par.sealMs) ≤ s.clk))

/-- The open stripes of a domain's trees: when each was opened, its tree and its block. -/
def State.openStripes (s : State) (d : Nat) : List (Nat × Nat × Nat) :=
  s.data.trees.flatMap fun e =>
    if s.rootDom e.1 = d then
      [e.2.recRun, e.2.rcpRun].filterMap fun o => o.bind fun r =>
        if r.sealed_ || r.spill.isEmpty then none else some (r.openedAt, e.1, r.spillLo / 4096)
    else []

/-- The journal of a domain is so full that stripes are sealed. -/
def State.journalFull (s : State) (d : Nat) : Bool := decide (s.par Par.sealJfillPct ≤ (s.journal d).fill)

/-- JOURNAL_FILL_SEAL (R198): the stripe open longest is sealed; below the level sealing ends. -/
def execJournalFillSeal (dom : Fin 8) (s : State) : Host.Outcome State Fault Refusal :=
  .next <|
    let s := s.setJournal dom { s.journal dom with sealing := s.journalFull dom }
    if !s.journalFull dom then s
    else
      let oldest := (s.openStripes dom).foldl (fun b x => match b with
        | none => some x
        | some y => if x.1 < y.1 then some x else some y) none
      match oldest with
      | none => s
      | some (_, root, block) => s.sealAt root block fun _ => true

/-! ## Small writes (R200 to R202) -/

/-- Queue a small write whose blocks a journal record carries. -/
def State.addSmall (s : State) (dom jseq : Nat) (p : PartBlk) : State :=
  s.onData fun d =>
    { d with nextSmall := d.nextSmall + 1, smalls := d.smalls ++ [⟨d.nextSmall, p.root, p.block, p.bytes, dom, jseq, 0, []⟩] }

/-- The record of a small write is complete, or carries none (the metadata image, R482). -/
def State.smallReady (s : State) (w : SmallW) : Bool :=
  w.jseq == 0 || (s.journal w.dom).recs.all fun r => r.jseq != w.jseq || r.st == .complete

/-- The first and last block of the stripes that a small write touches. -/
def State.smallSpan (s : State) (w : SmallW) : Nat × Nat :=
  match s.group? w.root with
  | none => (0, 0)
  | some g =>
    let last := w.block + w.data.length / 4096 - 1
    let q := g.geoAt w.block
    let r := g.geoAt last
    (w.block / q.d * q.d, last / r.d * r.d + r.d)

/-- The data blocks of the stripes touched, with the new blocks in place and marked. -/
def patchBlks (lo : Nat) (old : Bytes) (n block : Nat) (new : Bytes) : List Blk :=
  (List.range n).map fun i =>
    let b := lo + i
    let touched := block ≤ b && b < block + new.length / 4096
    ⟨if touched then slice new (4096 * (b - block)) 4096 else padTo (slice old (4096 * i) 4096) 4096, touched, false, false⟩

/-- SMALL_WRITE (R200): the lock is taken, the old blocks are read (`old`, the data blocks of the stripes touched, as
read or reconstructed), the parity of every level is computed and every member write is issued together. A write whose
stripes are locked, whose record is not complete, that an earlier one of the stripe precedes, or whose group is FAILED
waits. -/
def execSmallWrite (id : Nat) (old : Fetch) (s : State) : Host.Outcome State Fault Refusal :=
  .next <|
    match s.data.smalls.find? fun w => w.id == id && w.stage == 0 with
    | none => s
    | some w =>
      match s.group? w.root, old with
      | some g, .ok old =>
        let (lo, hi) := s.smallSpan w
        let before := s.data.smalls.any fun x => x.root == w.root && decide (x.id < id)
          && decide (x.block < hi) && decide (lo < x.block + x.data.length / 4096)
        let busy := s.locked w.root w.block || s.locked w.root (hi - 1)
          || s.data.stripesW.any fun x => x.root == w.root && decide (lo ≤ x.block) && decide (x.block < hi)
        if !s.smallReady w || before || busy || g.st == .failed || !s.mayWrite w.dom then s
        else
          let blks := patchBlks lo old (hi - lo) w.block w.data
          let offs := (List.range (w.data.length / 4096)).map fun i => w.block + i
          let s := s.addPair Reg.tskCntRmwLo (rowTally s.data.nodes (s.data.nodes.length + 1) w.root offs)
          let (s, cs) := s.driveWrites w.dom (.small id) (s.writesOf w.root lo blks)
          s.onData fun d =>
            { d with smalls := d.smalls.map fun x => if x.id == id then { x with stage := 1, acks := cs } else x }
      | _, _ => s

/-- SMALL_WRITE_DONE (R200): every member write is acknowledged. -/
def execSmallWriteDone (id : Nat) (s : State) : Host.Outcome State Fault Refusal :=
  .next <|
    match s.data.smalls.find? fun w => w.id == id with
    | none => s
    | some w =>
      if w.stage == 1 && w.acks.isEmpty then s.onData fun d => { d with smalls := d.smalls.filter fun x => x.id != id } else s

end Sys2Proof.Machine
end

