-- ==== Sys2Proof/Machine/Record.lean ====
section
/-! DEFINITION. Stored chunk records and recipes: forming a record from a chunk and opening one with every check of the
read-back path (R24, R102 to R104, R118, R147, R160, R161). -/

namespace Sys2Proof.Machine

open Sys2Proof

/-! ## Keys (R158 to R161) -/

/-- The slot of a tenant's generation. -/
def State.tenantSlot (s : State) (t gen : Nat) : Option (Nat × KeySlot) :=
  s.data.slots.find? fun e => e.2.bind == .tenant t gen

/-- The key a command may use for a generation: one retired before its consumption, or gone from the tenant table, is
revoked; one not loaded is missing (R160, R161). -/
def State.genKey (s : State) (eid t gen : Nat) : Except (Nat × Nat) Bytes :=
  let live := ((KMap.get? s.data.tenants t).map (·.live)).getD []
  if !live.contains gen || s.data.retires.any fun r => r.tenant == t && r.gens.contains gen && decide (r.eid < eid) then
    .error (St.keyRevoked, 0x1301)
  else
    match s.tenantSlot t gen with
    | none => .error (St.keyRevoked, 0x1302)
    | some (_, k) => .ok k.key

/-! ## Forming a record (R102, R103) -/

/-- ENC_LEN of a chunk. -/
def encLen (blocks pay : Nat) : Nat := max 512 (roundUp (16 * blocks + pay) 16)

/-- Bytes in the last block of a chunk. -/
def lastLen (blks : List Bytes) : Nat := (blks.getLastD []).length

/-- The clear header of a record. -/
def recHeader (blocks last pay gen owner enc : Nat) (fp : Bytes) (tagBase : Nat) : Bytes :=
  let h := [1, byteOf blocks] ++ leBytes 2 last ++ leBytes 4 pay ++ leBytes 2 gen ++ leBytes 2 owner ++ leBytes 4 enc
    ++ fp.take 8 ++ leBytes 6 tagBase
  h ++ leBytes 2 (crc16 h)

/-- A stored chunk record from a chunk's blocks and its Gorse frame. -/
def storedRecord (key : Bytes) (gen owner : Nat) (fp : Bytes) (blks : List Bytes) (tagBase : Nat) (frame : Bytes) : Bytes :=
  let enc := encLen blks.length frame.length
  let clear := padTo (checkFields blks tagBase gen owner ++ frame) enc
  recHeader blks.length (lastLen blks) frame.length gen owner enc fp tagBase ++ xtsEnc key (fp.take 16) clear

/-! ## Opening a record (R118) -/

/-- The blocks of a chunk against their check fields, in order. -/
def checkBlocks (cfs : Bytes) (tagBase gen owner : Nat) : Nat → List Bytes → Option Nat
  | _, [] => none
  | i, b :: bs =>
    match checkFieldErr b (slice cfs (16 * i) 16) (tagBase + i) gen owner with
    | some d => some d
    | none => checkBlocks cfs tagBase gen owner (i + 1) bs

/-- Open a record for a command: header, key, Gorse, check fields, in the order of R118. -/
def State.openRecord (s : State) (eid tenant : Nat) (fp rec_ : Bytes) : Except (Nat × Nat) Bytes :=
  let h := rec_.take 30
  let gen := leAt rec_ 8 2
  let blocks := leAt rec_ 1 1
  if leAt rec_ 30 2 != crc16 h then .error (St.checkMismatch, 0x1104)
  else
    match s.genKey eid tenant gen with
    | .error x => .error x
    | .ok key =>
      let clear := xtsDec key (fp.take 16) (slice rec_ 32 (leAt rec_ 12 4))
      let frame := slice clear (16 * blocks) (leAt rec_ 4 4)
      match gorseDecompress none frame with
      | .error g => .error (St.checkMismatch, g.detail)
      | .ok chunk =>
        if chunk.length != 4096 * (blocks - 1) + leAt rec_ 2 2 then .error (St.checkMismatch, GorseErr.lengths.detail)
        else
          match checkBlocks clear (leAt rec_ 24 6) gen tenant 0 (pieces 4096 chunk) with
          | some d => .error (St.checkMismatch, d)
          | none => .ok chunk

/-- A failure that the reconstruction retry of R24 answers. -/
def retries (x : Nat × Nat) : Bool := x.1 == St.checkMismatch

/-- What a read of a record's blocks gave (R207): unreadable and not reconstructed, or uncorrectable (R120). -/
def State.openFetch (s : State) (eid tenant : Nat) (fp : Bytes) (f : Fetch) : Except (Nat × Nat) Bytes :=
  match f with
  | .ok b => s.openRecord eid tenant fp b
  | .failed => .error (St.stripeLost, 0x1501)
  | .uncorrectable => .error (St.uncorrectable, 0x1501)

/-! ## Recipes (R104) -/

/-- The 64 bytes of an object record. -/
def objRecord (id : Bytes) (tenant mode length chunks jseq tick : Nat) : Bytes :=
  let b := padTo id 16 ++ leBytes 2 tenant ++ [byteOf mode, 0] ++ leBytes 8 length ++ leBytes 4 chunks ++ leBytes 8 jseq
    ++ leBytes 8 tick ++ zeros 14
  b ++ leBytes 2 (crc16 b)

/-- The 64 bytes of a recipe entry. -/
def RecEntry.bytes (e : RecEntry) : Bytes :=
  padTo e.fp 32 ++ leBytes 8 e.extent ++ leBytes 3 e.offset ++ leBytes 1 e.rlen ++ leBytes 6 e.tagBase
    ++ [byteOf e.blocks, byteOf (b2n e.unindexed + 2 * b2n e.hit)] ++ leBytes 2 e.lastLen ++ zeros 10

/-- A recipe: object record and entries. -/
def recipeBytes (id : Bytes) (tenant mode length jseq tick : Nat) (es : List RecEntry) : Bytes :=
  objRecord id tenant mode length es.length jseq tick ++ es.flatMap RecEntry.bytes

/-- The data-space blocks of a record on a tree: first and last. -/
def State.recBlocksAt (s : State) (e : RecEntry) : Nat × Nat :=
  match s.extent e.extent with
  | none => (0, 0)
  | some x =>
    let lo := 4096 * x.start + 16 * e.offset
    (lo / 4096, (lo + 512 * e.rlen - 1) / 4096)

/-- Data-space blocks of a group that a lost-list entry names (R235). -/
def LostEntry.covers (l : LostEntry) (q : Geo) (blk : Nat) : Bool :=
  blk / q.d == l.stripe && bitAt l.units (blk % q.d / q.b) && bitAt l.rows (blk % q.d % q.b)

/-- A walk passes a block on the lost list of its tree (R234). -/
def State.blockLost (s : State) (root blk : Nat) : Bool :=
  let gs := (root, blk) :: ((walkIn s.data.nodes (s.labelBlocks root) (s.data.nodes.length + 1) root blk).filter
    fun w => w.nsid.isNone).map fun w => (w.node, w.off)
  gs.any fun (i, b) =>
    match s.group? i with
    | none => false
    | some g => (s.tree root).lostList.any fun o => o.any fun l => l.group == handleOf i g && l.covers (g.geoAt b) b

/-- A record has a block in a lost row. -/
def State.recLost (s : State) (e : RecEntry) : Bool :=
  let (lo, hi) := s.recBlocksAt e
  (List.range (hi + 1 - lo)).any fun k => s.blockLost (extRoot e.extent) (lo + k)

end Sys2Proof.Machine
end

