-- ==== Sys2Proof/Machine/Ingest.lean ====
section
/-! DEFINITION. The pass of an object: lanes, chunks, lookups, records, the journal record, commit and failure (R21 to
R23, R85 to R116). -/

namespace Sys2Proof.Machine

open Sys2Proof

/-! ## PUTs in flight -/

/-- A PUT in flight. -/
def State.put (s : State) (eid : Nat) : Option PutRec := s.data.puts.find? fun p => p.eid == eid

/-- Set a PUT that is in flight. -/
def State.setPut (s : State) (p : PutRec) : State :=
  s.onData fun d => { d with puts := d.puts.map fun x => if x.eid == p.eid then p else x }

/-- Bytes queued on a lane's ingest side. -/
def State.laneLoad (s : State) (n : Nat) : Nat :=
  s.data.puts.foldl (fun a p => p.segs.foldl (fun a x => if x.1 = n then a + x.2 else a) a) 0

/-- The Basic lane with the fewest bytes queued, beside those already assigned (R86). -/
def State.pickLane (s : State) (segs : List (Nat × Nat)) : Option Nat :=
  let load := fun n => s.laneLoad n + segs.foldl (fun a x => if x.1 = n then a + x.2 else a) 0
  ((List.range 16).filter fun n => s.basicFree (instKey 1 n)).foldl
    (fun b n => match b with
      | none => some n
      | some m => if load n < load m then some n else some m) none

/-- The lanes of an object's segments of SWD_split_bytes (R86). -/
def State.assignLanes (s : State) (split : Nat) : Nat → Nat → List (Nat × Nat) → List (Nat × Nat)
  | 0, _, segs => segs
  | f + 1, left, segs =>
    match s.pickLane segs with
    | none => segs
    | some n =>
      let k := min split left
      if left ≤ split then segs ++ [(n, k)] else State.assignLanes s split f (left - k) (segs ++ [(n, k)])

/-- The tree of a PUT moves: the target domain whose index is searched too (R215). -/
def State.moveTarget (s : State) (d : Nat) : Option Nat := (s.data.moves.find? fun m => m.src == d && m.step == 4).map (·.dst)

/-- Look a chunk up in a domain, and in the target of a move that scans it. -/
def State.lookupChunk (s : State) (d : Nat) (fp : Bytes) : Option IdxEntry :=
  match s.lookup d fp false with
  | some e => some e
  | none => (s.moveTarget d).bind fun t => s.lookup t fp false

/-! ## Storing a chunk (R102 to R106) -/

/-- Count a frame of the basic path in Gorse's counters. -/
def State.countFrame (s : State) (orig frame stored : Nat) : State :=
  ((s.addPair Reg.grsCntInLo orig).addPair Reg.grsCntOutLo frame).bump Reg.grsCntEvents 15 0 stored

/-- Compress, encrypt and place a chunk; its recipe entry takes the location. -/
def State.storeChunk (s : State) (p : PutRec) (i tagBase : Nat) (fp : Bytes) (blks : List Bytes) (unindexed : Bool) :
    State × PutRec × Option (Nat × Nat) :=
  match s.tenantSlot p.tenant p.gen with
  | none => (s, p, some (St.keyRevoked, 0x1302))
  | some (_, k) =>
    let orig := blks.flatten
    let (frame, st) := gorseCompress (!bitAt p.flags 1) none orig
    let s := s.countFrame orig.length frame.length st
    let rec_ := storedRecord k.key p.gen p.tenant fp blks tagBase frame
    match s.place p.root false rec_ with
    | none => (s, p, some (St.noSpace, 0x1503))
    | some (s, sp) =>
      let base := ((s.extent (extId p.root sp.ext)).map (·.start)).getD 0
      let e : RecEntry :=
        { fp := fp, extent := extId p.root sp.ext, offset := (sp.at_ - 4096 * base) / 16, rlen := ceilDiv rec_.length 512,
          tagBase := tagBase, blocks := blks.length, unindexed := unindexed, hit := false, lastLen := lastLen blks }
      (s.holdExt p.root sp.ext,
        { p with recipe := p.recipe.set i e, stored := p.stored + rec_.length, stripes := p.stripes ++ sp.stripes,
                 parts := p.parts ++ sp.parts }, none)

/-- The recipe entry of a hit. -/
def hitEntry (fp : Bytes) (extent offset rlen tagBase : Nat) (blks : List Bytes) : RecEntry :=
  { fp := fp, extent := extent, offset := offset, rlen := rlen, tagBase := tagBase, blocks := blks.length,
    unindexed := false, hit := true, lastLen := lastLen blks }

/-- A mismatch of byte-compare mode (R116): a Skylark record, and the stripes that hold the stored record are queued for
verify ahead of its schedule (R479). -/
def State.compareFail (s : State) (p : PutRec) (e : RecEntry) : State :=
  let (lo, hi) := s.recBlocksAt e
  (s.sklStatus 0x08 ((p.segs.head?.map (·.1)).getD 0xFF) 0 St.checkMismatch 0x1105 e.extent).onFld fun f =>
    { f with verifyNext := f.verifyNext ++ [(extRoot e.extent, lo, hi + 1)] }

/-- Compare a chunk with the stored record that a hit's recipe entry names (R116). -/
def State.compare (s : State) (p : PutRec) (i : Nat) (fp : Bytes) (blks : List Bytes) (f : Fetch) :
    State × Option (Nat × Nat) :=
  match s.openFetch p.eid p.tenant fp f with
  | .error x => (s, some x)
  | .ok b =>
    if b == blks.flatten then (s, none)
    else
      match p.recipe[i]? with
      | some e => (s.compareFail p e, some (St.checkMismatch, 0x1105))
      | none => (s, some (St.checkMismatch, 0x1105))

/-- Where a PUT's own copy of a fingerprint lies. -/
def PutRec.ownEntry (p : PutRec) (fp : Bytes) : Option RecEntry := p.recipe.find? fun e => e.fp == fp && !e.hit && !e.unindexed

/-- Send one chunk of a PUT on its way (R99, R105): a hit records a pending reference, a miss is inserted as
provisional and stored. `cmp` are the reads of byte-compare mode still to be used. -/
def State.dispatchChunk (s : State) (p : PutRec) (i tagBase : Nat) (fp : Bytes) (blks : List Bytes) (cmp : List Fetch) :
    State × PutRec × List Fetch × Option (Nat × Nat) :=
  let store := fun (s : State) (p : PutRec) (un : Bool) =>
    let (s, p, err) := s.storeChunk p i tagBase fp blks un
    (s, p, cmp, err)
  if !bitAt p.flags 0 then store s p true
  else
    match s.lookupChunk p.dom fp with
    | none =>
      (match s.insertIdx p.dom ⟨fp, false, .prov, 0, 0, 0, 0, p.eid, 0⟩ with
      | none => store s p true
      | some s => store s { p with own := p.own ++ [fp] } false)
    | some e =>
      if e.st == .prov then
        if e.owner = p.eid then
          match p.ownEntry fp with
          | some o => (s, { p with hits := p.hits + 1, recipe := p.recipe.set i (hitEntry fp o.extent o.offset o.rlen tagBase blks) }, cmp, none)
          | none => (s, p, cmp, none)
        else
          (s, { p with hits := p.hits + 1, pend := p.pend ++ [⟨i, fp, e.owner⟩],
                       recipe := p.recipe.set i (hitEntry fp 0 0 0 tagBase blks) }, cmp, none)
      else
        let p := { p with hits := p.hits + 1, pend := p.pend ++ [⟨i, fp, 0⟩],
                          recipe := p.recipe.set i (hitEntry fp e.extent e.offset e.rlen tagBase blks) }
        if bitAt p.flags 2 then
          let (s, err) := s.compare p i fp blks (cmp.headD .failed)
          (s, p, cmp.drop 1, err)
        else (s, p, cmp, none)

/-- Send the chunks of a PUT on their way, in object order; the first failure stops. -/
def State.dispatchAll (s : State) (p : PutRec) (salt : Bytes) : List (List Bytes) → Nat → Nat → List Fetch →
    State × PutRec × Option (Nat × Nat)
  | [], _, _, _ => (s, p, none)
  | c :: cs, i, tagBase, cmp =>
    match s.dispatchChunk p i tagBase (fingerprint salt c.flatten) c cmp with
    | (s, p, _, some x) => (s, p, some x)
    | (s, p, cmp, none) => State.dispatchAll s p salt cs (i + 1) (tagBase + c.length) cmp

/-! ## Failure (R22, R23, R114) -/

/-- Return a PUT's window to IDLE (R355). -/
def State.unbindWindow (s : State) (eid : Nat) : State :=
  s.onDrv fun d => { d with spaces := KMap.mapV d.spaces fun _ x => if x.bound == some eid then { x with bound := none } else x }

/-- Count LENGTH_SHORT and LENGTH_LONG completions. -/
def State.countLen (s : State) (st : Nat) : State :=
  if st = St.lengthShort then s.bump Reg.swdCntLenerr 15 0 1
  else if st = St.lengthLong then s.bump Reg.swdCntLenerr 31 16 1 else s

/-- The end of a PUT is answered: by its reply, or, for an object received by replication, by DONE (R361). -/
def State.putAnswer (s : State) (p : PutRec) (st dt : Nat) (res : Bytes) : State :=
  if p.source = 4 then s.replMsg p.conn 0x23 (leBytes 2 st ++ leBytes 2 dt) else s.finalOf p.eid st dt res

/-- Drop what a PUT holds: its provisional entries, its space, its record if it is not issued, its window and lanes. -/
def State.putDrop (s : State) (p : PutRec) : State :=
  let s := p.own.foldl (fun s fp => s.updIdx p.dom fp (fun e => !e.object && e.st == .prov && e.owner == p.eid) fun _ => none) s
  let s := (p.recipe.filter fun e => !e.hit && e.rlen != 0).foldl (fun s e => s.freeExt e.extent) s
  let s := if p.rcpExt = 0 then s else s.freeExt p.rcpExt
  let j := s.journal p.dom
  let s := if p.jseq = 0 then s else
    s.setJournal p.dom { j with recs := (j.recs.filter fun r => !(r.jseq == p.jseq && r.st == .waiting)).map fun r =>
      if r.jseq == p.jseq then { r with need := [] } else r }
  let s := s.onData fun d => { d with puts := d.puts.filter fun x => x.eid != p.eid
                                      smalls := d.smalls.filter fun w => !(w.jseq == p.jseq && p.jseq != 0 && w.dom == p.dom && w.stage == 0) }
  s.unbindWindow p.eid

/-! ## The journal record (R106) -/

/-- References that PUTs with a number have still to add to an entry of a domain. -/
def State.refsAhead (s : State) (d : Nat) (fp : Bytes) : Nat :=
  (s.data.puts.filter fun p => p.dom == d && p.jseq != 0).foldl (fun n p => n + (p.pend.filter fun r => r.fp == fp).length) 0

/-- Chunks of a PUT that carry a fingerprint of its own. -/
def PutRec.ownCount (p : PutRec) (fp : Bytes) : Nat := (p.recipe.filter fun e => e.fp == fp).length

/-- The object entry of a PUT. -/
def State.objEntry (s : State) (p : PutRec) : IdxEntry :=
  let n := ceilDiv (64 + 64 * p.recipe.length) 4096
  ⟨objKey (s.salt p.tenant) p.objId, true, .final, 0, p.rcpExt, 0, if n < 256 then n else 0, 0, 0⟩

/-- The entry of a PUT's own fingerprint as its commit makes it (R107). -/
def PutRec.ownFinal (p : PutRec) (fp : Bytes) : Option IdxEntry :=
  (p.ownEntry fp).map fun e => ⟨fp, false, .final, min maxCount (p.ownCount fp), e.extent, e.offset, e.rlen, 0, 0⟩

/-- IDX items: every entry as it stands after the change (R222). -/
def State.idxItems (s : State) (p : PutRec) : List (Nat × Bytes) :=
  let own := p.own.filterMap p.ownFinal
  let refs := (p.pend.map (·.fp)).eraseDups.filterMap fun fp =>
    (s.lookupChunk p.dom fp).map fun e => e.addRefs (s.refsAhead p.dom fp + (p.pend.filter fun r => r.fp == fp).length)
  (own ++ refs ++ [s.objEntry p]).map fun e => (3, e.bytes 0 0 0)

/-- The first blocks of the stripes in which a PUT's open blocks lie. -/
def State.openNeeds (s : State) (ps : List PartBlk) : List (Nat × Nat) :=
  (ps.filter fun p => !p.small).filterMap fun p => (s.group? p.root).map fun g =>
    let q := g.geoAt p.block
    (p.root, p.block / q.d * q.d)

/-- A PUT whose chunks are placed, and which awaits no owner, takes its journal sequence number: the recipe is placed
and the COMMIT record made (R104, R106). -/
def State.takeSeq (s : State) (p : PutRec) : State × PutRec × Option (Nat × Nat) :=
  let jseq := (s.journal p.dom).nextSeq
  let rcp := recipeBytes p.objId p.tenant p.mode p.length jseq s.tick p.recipe
  match s.placeRecipe p.root rcp with
  | none => (s, p, some (St.noSpace, 0x1503))
  | some (s, ext, sp) =>
    let p := { p with rcpExt := ext, jseq := jseq, stripes := p.stripes ++ sp.stripes, parts := p.parts ++ sp.parts }
    let whole := sp.parts.isEmpty
    let recipeItem : Nat × Bytes :=
      (2, if whole then leBytes 8 ext ++ leBytes 3 0 ++ leBytes 1 (s.objEntry p).rlen else p.recipe.flatMap RecEntry.bytes)
    let stripes := s.data.stripesW.filter fun w => p.stripes.contains (w.root, w.block)
    let exts := ((p.recipe.filter fun e => !e.hit).map (·.extent) ++ [ext]).eraseDups
    let items := [(1, rcp.take 64), recipeItem] ++ s.idxItems p ++ p.parts.flatMap s.dataItems ++ stripes.map s.stripeItem
      ++ exts.filterMap fun x => (s.extent x).map (Extent.item (extRoot x))
    let need := (p.stripes ++ s.openNeeds p.parts).eraseDups
    let (s, n) := s.makeRec p.dom .commit p.eid items need
    ((p.parts.filter (·.small)).foldl (fun s x => s.addSmall p.dom n x) s, p, none)

/-- A PUT awaits no other PUT. -/
def PutRec.free (p : PutRec) : Bool := p.placed && p.jseq == 0 && p.pend.all fun r => r.owner == 0

/-! ## Deletion (R109, R112) -/

/-- Remove a committed object: its entry goes, each indexed chunk loses a reference, its recipe and unindexed records
wait to be reclaimed. -/
def State.removeObject (s : State) (o : ObjRec) : State :=
  let key := objKey (s.salt o.tenant) o.objId
  let s := s.updIdx o.dom key (fun e => e.object && e.extent == o.extent) fun _ => none
  let s := (o.entries.filter fun e => !e.unindexed).foldl
    (fun s e => s.updIdx o.dom e.fp (fun x => !x.object && x.st == .final && x.extent == e.extent && x.offset == e.offset)
      fun x => some (x.dropRef s.clk)) s
  s.onData fun d => { d with objects := d.objects.map fun x => if x.extent == o.extent then { x with dead := some s.clk } else x }

/-! ## Replication's backlog (R361) -/

/-- Add an object or a delete to the backlogs of the links of a policy; a link whose backlog is full overflows. -/
def State.ship (s : State) (policy : Nat) (x : Ship) : State :=
  let max := s.par Par.replBacklog
  let hits := s.drv.links.filter fun e => e.2.policy == policy && !e.2.overflow && (!x.delete || e.2.deletes)
  hits.foldl (fun s e =>
    let n := e.2.backlog.length
    let l := { e.2 with backlog := e.2.backlog ++ [x], overflow := decide (max ≤ n + 1) }
    let s := s.onDrv fun d => { d with links := KMap.put d.links e.1 l }
    if l.overflow then s.event (Reg.drvStatus + 0x100 + e.1) else s) s

/-! ## Commit (R21, R107, R112) -/

/-- Nothing of a domain with an earlier number is still to be applied (R107). -/
def State.commitTurn (s : State) (d jseq : Nat) : Bool :=
  (s.data.puts.all fun p => p.dom != d || p.jseq == 0 || decide (jseq ≤ p.jseq))
    && (s.journal d).recs.all fun r => r.del.isNone || decide (jseq ≤ r.jseq)

/-- Apply a PUT's references and entries, or say why it commits nothing (R99, R107, R112). -/
def State.applyPut (s : State) (p : PutRec) : Except (Nat × Nat) State :=
  let old := s.objectIn [p.dom] p.tenant p.objId
  if old.isSome && !p.replace then .error (St.invalidParam, 0x1103)
  else
    let s1 := match old with
      | some o => s.removeObject o
      | none => s
    match s1.insertIdx p.dom (s.objEntry p) with
    | none => .error (St.noSpace, 0x1101)
    | some s =>
      let s := p.own.foldl (fun s fp => s.updIdx p.dom fp (fun e => !e.object && e.st == .prov && e.owner == p.eid)
        fun _ => p.ownFinal fp) s
      let s := p.pend.foldl (fun s r =>
        match p.recipe[r.place]? with
        | none => s
        | some e =>
          let hit := fun (x : IdxEntry) => !x.object && x.st != .prov && x.extent == e.extent && x.offset == e.offset
          let d := if (s.findPlace p.dom r.fp hit).isSome then p.dom else (s.moveTarget p.dom).getD p.dom
          s.updIdx d r.fp hit fun x => some (x.addRefs 1)) s
      let o : ObjRec := ⟨p.dom, p.tenant, p.objId, p.mode, p.length, p.jseq, s.tick, p.rcpExt, p.recipe, none⟩
      .ok (s.onData fun d => { d with objects := d.objects ++ [o] })

/-- A committed PUT's owned entries are final: the recipes that waited on them take their locations (R105). -/
def PutRec.resolve (w p : PutRec) : PutRec :=
  w.pend.foldl (fun w r =>
    if r.owner = p.eid then
      match p.ownEntry r.fp, w.recipe[r.place]? with
      | some o, some e => { w with recipe := w.recipe.set r.place { e with extent := o.extent, offset := o.offset, rlen := o.rlen } }
      | _, _ => w
    else w) w

/-- The chunk of a PUT at a place of its recipe, cut again from its landing buffer (R22). -/
def PutRec.chunkAt (p : PutRec) (i : Nat) : List Bytes :=
  match p.recipe[i]? with
  | none => []
  | some e => (((pieces 4096 p.landing).drop e.tagBase).take e.blocks)

/-- Fail a PUT, and then every PUT that its failure fails: a hit on one of its provisional entries turns into a miss in
the PUT that waited (R22, R23); one that replication receives has not the chunk's bytes, and its source is to try again
(R361). `fuel` bounds the PUTs in flight. -/
def State.failPut : Nat → State → PutRec → Nat → Nat → State
  | 0, s, p, st, dt => ((s.putDrop p).countLen st).putAnswer p st dt []
  | f + 1, s, p, st, dt =>
    let s := ((s.putDrop p).countLen st).putAnswer p st dt []
    let waiting := (s.data.puts.filter fun w => w.pend.any fun r => r.owner == p.eid).map (·.eid)
    waiting.foldl
      (fun s i => match s.put i with
        | none => s
        | some w =>
          let mine := w.pend.filter fun r => r.owner == p.eid
          let w := { w with pend := w.pend.filter (fun r => r.owner != p.eid), hits := w.hits - mine.length }
          if w.source = 4 then State.failPut f s w St.busy 0x1101
          else
          let (s, w, err) := mine.foldl
            (fun (a : State × PutRec × Option (Nat × Nat)) r =>
              match a with
              | (s, w, some x) => (s, w, some x)
              | (s, w, none) =>
                let (s, w, _, err) := s.dispatchChunk w r.place ((w.recipe[r.place]?.map (·.tagBase)).getD 0) r.fp (w.chunkAt r.place) []
                (s, w, err)) (s, w, none)
          let s := s.setPut w
          match err with
          | some (st, dt) => State.failPut f s w st dt
          | none =>
            if w.free then
              let (s, w, err) := s.takeSeq w
              let s := s.setPut w
              match err with
              | some (st, dt) => State.failPut f s w st dt
              | none => s
            else s) s

/-- End a PUT with a status (R23). -/
def State.endPut (s : State) (eid st dt : Nat) : State :=
  match s.put eid with
  | none => s
  | some p => State.failPut (s.data.puts.length + 1) s p st dt

/-- Let a PUT that awaits nothing more take its number. -/
def State.advancePut (s : State) (eid : Nat) : State :=
  match s.put eid with
  | none => s
  | some p =>
    if !p.free then s
    else
      let (s, p, err) := s.takeSeq p
      let s := s.setPut p
      match err with
      | some (st, dt) => s.endPut eid st dt
      | none => s

/-- The PUTs that waited on a committed one go on; under byte-compare the stored record is compared first (R116). -/
def State.resumeWaiters (s : State) (p : PutRec) (cmp : List Fetch) : State :=
  let waiting := (s.data.puts.filter fun w => w.pend.any fun r => r.owner == p.eid).map (·.eid)
  (waiting.foldl
    (fun (a : State × List Fetch) i =>
      match a.1.put i with
      | none => a
      | some w =>
        let mine := w.pend.filter fun r => r.owner == p.eid
        let w := w.resolve p
        let w := { w with pend := w.pend.map fun r => if r.owner == p.eid then { r with owner := 0 } else r }
        let (s, cmp, err) := mine.foldl
          (fun (b : State × List Fetch × Option (Nat × Nat)) r =>
            match b with
            | (s, cmp, some x) => (s, cmp, some x)
            | (s, cmp, none) =>
              if bitAt w.flags 2 then
                let (s, err) := s.compare w r.place r.fp (w.chunkAt r.place) (cmp.headD .failed)
                (s, cmp.drop 1, err)
              else (s, cmp, none)) (a.1, a.2, none)
        let s := s.setPut w
        match err with
        | some (st, dt) => (s.endPut i st dt, cmp)
        | none => (s.advancePut i, cmp)) (s, cmp)).1

/-- Apply a DELETE record whose turn has come (R107, R109): a named object that is gone completes INVALID_PARAM. -/
def State.applyDelete (s : State) (d : Nat) (r : JRec) : State :=
  match r.del with
  | none => s
  | some (t, id) =>
    let s := s.onRec d r.jseq fun x => { x with del := none }
    match s.objectIn [d] t id with
    | none => s.finalOf r.eid St.invalidParam 0x1104 []
    | some o => (s.removeObject o).finalOf r.eid St.ok 0 []

/-- Apply every DELETE record that is complete and whose turn has come. -/
def State.applyDeletes (d : Nat) : Nat → State → State
  | 0, s => s
  | n + 1, s =>
    match (s.journal d).recs.find? fun r => r.del.isSome && r.st == .complete && s.commitTurn d r.jseq with
    | none => s
    | some r => State.applyDeletes d n (s.applyDelete d r)

/-- The policy's links ship a committed object (R361). -/
def State.shipPut (s : State) (p : PutRec) : State :=
  s.ship p.policy ⟨p.dom, p.tenant, p.objId, p.jseq, false, false, 0, none⟩

/-- Commit a PUT whose stripes are written and whose record is complete, in its turn (R21, R107). -/
def State.commitPut (s : State) (p : PutRec) (cmp : List Fetch) : State :=
  match s.applyPut p with
  | .error (st, dt) => s.endPut p.eid st dt
  | .ok s =>
    let n := p.recipe.length
    let s := (s.addPair Reg.swdCntChunksLo n).addPair Reg.swdCntHitsLo p.hits
    let s := ((s.tally 8 1).tally 10 n).tally 11 p.hits
    let s := s.onData fun d => { d with puts := d.puts.filter fun x => x.eid != p.eid }
    let s := (s.unbindWindow p.eid).putAnswer p St.ok 0 (leBytes 4 n ++ leBytes 4 p.hits ++ leBytes 8 p.stored)
    let s := s.shipPut p
    State.applyDeletes p.dom ((s.journal p.dom).recs.length + 1) (s.resumeWaiters p cmp)

/-- PUT_COMMIT (R21): `cmp` are the reads of byte-compare mode for the PUTs that waited on this one. -/
def execPutCommit (eid : Nat) (cmp : List Fetch) (s : State) : Host.Outcome State Fault Refusal :=
  .next <|
    match s.put eid with
    | none => s
    | some p =>
      let complete := (s.journal p.dom).recs.all fun r => r.jseq != p.jseq || r.st == .complete
      if p.jseq == 0 || !p.stripes.isEmpty || !complete || !s.commitTurn p.dom p.jseq || !s.mayWrite p.dom then s
      else s.commitPut p cmp

/-! ## The commands (R85, R86, R113 to R115, R119, R120) -/

/-- The checks of a PUT before its data (R31, R113, R115, R119, R158, R199, R215). -/
def State.putJudge (s : State) (e : Entry) : Except (Nat × Nat) (Policy × Group) :=
  let t := e.p 24 2
  if 3 < e.p 26 1 then .error (St.invalidParam, 0x1107)
  else if 2 ^ 36 < e.p 16 8 then .error (St.lengthLimit, 0x1101)
  else
    match KMap.get? s.data.policies e.h with
    | none => .error (St.invalidParam, 0x1102)
    | some pol =>
      if (KMap.get? s.data.tenants t).isNone then .error (St.invalidParam, 0x1101)
      else if pol.tenant != 0xFFFF && pol.tenant != t then .error (St.invalidParam, 0x1102)
      else
        match s.group? pol.root with
        | none => .error (St.invalidParam, 0x1102)
        | some g =>
          if !bitAt e.owned g.dom then .error (St.busy, 0x1101)
          else if s.data.moves.any fun m => m.root == pol.root && decide (m.eid < e.eid) then .error (St.busy, 0x1502)
          else if !s.mayWrite g.dom then .error (St.aborted, 0x1A01)
          else if !s.basicFree (instKey 6 g.dom) || !s.anyBasic 1 || !s.anyBasic 2 || !s.anyBasic 4 then
            .error (St.roleConflict, 0x0401)
          else if e.gen = 0 || (s.tenantSlot t e.gen).isNone then .error (St.keyRevoked, 0x1302)
          else if g.st == .failed then .error (St.mediaError, 0x1501)
          else .ok (pol, g)

/-- Run the pass over the bytes of a PUT that are all there. -/
def State.runPass (s : State) (eid : Nat) (cmp : List Fetch) : State :=
  match s.put eid with
  | none => s
  | some p =>
    let cs := chunksOf p.mode p.landing
    let p := { p with placed := true, recipe := cs.map fun c => hitEntry [] 0 0 0 0 c }
    let (s, p, err) := s.dispatchAll p (s.salt p.tenant) cs 0 0 cmp
    let s := s.setPut p
    match err with
    | some (st, dt) => s.endPut eid st dt
    | none => s.advancePut eid

/-- The record of a PUT as it starts. -/
def State.newPut (s : State) (e : Entry) (pol : Policy) (g : Group) (fixed : Bool) : PutRec :=
  { eid := e.eid, dom := g.dom, root := pol.root, tenant := e.p 24 2, gen := e.gen, policy := e.h, objId := e.area.take 16
    mode := if fixed then 0 else pol.mode, flags := pol.flags, replace := bitAt (e.p 27 1) 0, length := e.p 16 8
    source := e.p 26 1, conn := e.p 28 4, token := e.p 32 4
    segs := s.assignLanes (s.par Par.splitBytes) (e.p 16 8 / 2 ^ 20 + 1) (e.p 16 8) []
    landing := [], lastByte := s.clk, placed := false, recipe := [], own := [], pend := [], hits := 0, stored := 0
    stripes := [], parts := [], jseq := 0, rcpExt := 0 }

/-- Start a PUT with its bytes. -/
def State.startPut (s : State) (p : PutRec) (data : Bytes) (cmp : List Fetch) : State :=
  ((s.tally 0 data.length).onData fun d => { d with puts := d.puts ++ [{ p with landing := data }] }).runPass p.eid cmp

/-- The INGEST window a PUT names, and why it may not (R355). -/
def State.windowFor (s : State) (p : PutRec) : Except (Nat × Nat) Nat :=
  let i := p.token / 2 ^ 18
  match KMap.get? s.drv.spaces i with
  | none => .error (St.invalidParam, 0x1902)
  | some x =>
    if x.tag != p.token % 2 ^ 18 || !x.live || x.revokedAt.isSome || x.kind != 1 || x.conn != some p.conn then .error (St.invalidParam, 0x1902)
    else if x.bound.isSome then .error (St.busy, 0x1901)
    else .ok i

/-- Bytes a scatter-gather list names. -/
def sgBytes (list : Bytes) : Nat := (pieces 16 list).foldl (fun n b => n + leAt b 8 4) 0

/-- Start a PUT from its source (R114, R355). -/
def State.putData (s : State) (e : Entry) (p : PutRec) (list src : Fetch) (cmp : List Fetch) : State :=
  let end_ := fun st dt => (s.countLen st).fail e st dt
  match p.source with
  | 3 =>
    let have_ := e.blk.drop 64
    if have_.length < p.length then end_ St.lengthShort 0x1102
    else if p.length + 64 ≤ have_.length then end_ St.lengthLong 0x1101
    else s.startPut p (have_.take p.length) cmp
  | 2 =>
    (match s.windowFor p with
    | .error (st, dt) => s.fail e st dt
    | .ok i =>
      let s := s.onDrv fun d => { d with spaces := KMap.upd d.spaces i fun x => { x with bound := some p.eid } }
      let s := s.onData fun d => { d with puts := d.puts ++ [p] }
      s)
  | 1 =>
    (match list, src with
    | .ok l, .ok b =>
      if sgBytes (l.take (16 * e.p 36 4)) < p.length then end_ St.lengthShort 0x1102 else s.startPut p (padTo b p.length) cmp
    | .ok l, _ => if sgBytes (l.take (16 * e.p 36 4)) < p.length then end_ St.lengthShort 0x1102 else s.failSilent e 1
    | _, _ => s.failSilent e 1)
  | _ =>
    match src with
    | .ok b => s.startPut p (padTo b p.length) cmp
    | _ => s.failSilent e 1

/-- A PUT of any form: checks, then its data. -/
def State.putCmd (s : State) (e : Entry) (fixed : Bool) (list src : Fetch) (cmp : List Fetch) : State :=
  match s.putJudge e with
  | .error (st, dt) => s.fail e st dt
  | .ok (pol, g) => s.putData e (s.newPut e pol g fixed) list src cmp

/-- PUT (R21, R114): `cmp` are the reads of byte-compare mode, one for each hit on a final entry in order. -/
def execPut (eid : Nat) (list src : Fetch) (cmp : List Fetch) (s : State) : Host.Outcome State Fault Refusal :=
  .next <| s.cmd eid 0x0101 fun s e => s.putCmd e false list src cmp

/-- PUT_INLINE (R114). -/
def execPutInline (eid : Nat) (list src : Fetch) (cmp : List Fetch) (s : State) : Host.Outcome State Fault Refusal :=
  .next <| s.cmd eid 0x0102 fun s e => s.putCmd e false list src cmp

/-- PUT_FIXED (R91). -/
def execPutFixed (eid : Nat) (list src : Fetch) (cmp : List Fetch) (s : State) : Host.Outcome State Fault Refusal :=
  .next <| s.cmd eid 0x0103 fun s e => s.putCmd e true list src cmp

/-- PUT_IDLE_TIMEOUT (R115): no byte has come for SWD_put_idle_ms. -/
def execPutIdleTimeout (eid : Nat) (s : State) : Host.Outcome State Fault Refusal :=
  .next <|
    match s.put eid with
    | none => s
    | some p =>
      if p.source == 2 && !p.placed && decide (p.lastByte + msTicks (s.par Par.putIdleMs) ≤ s.clk) then
        s.endPut eid St.timeout 0x1101
      else s

end Sys2Proof.Machine
end

