-- ==== Sys2Proof/Machine/ReadBack.lean ====
section
/-! DEFINITION. GET, GET_RANGE, DELETE_REF, OBJECT_STAT, policies and reclamation (R109, R110, R117 to R120, R285,
R356). -/

namespace Sys2Proof.Machine

open Sys2Proof

/-! ## GET and GET_RANGE -/

/-- Where a GET delivers: host memory, a list of host pieces, or a connection. -/
inductive Dest where
  | host (addr len : Nat)
  | list (ps : List (Nat × Nat))
  | conn (cid max : Nat)
deriving DecidableEq, Repr

/-- Bytes a destination takes. -/
def Dest.len : Dest → Nat
  | .host _ n => n
  | .list ps => ps.foldl (fun a p => a + p.2) 0
  | .conn _ n => n

/-- The pieces of a scatter-gather list. -/
def sgPieces (l : Bytes) : List (Nat × Nat) := (pieces 16 l).map fun b => (leAt b 0 8, leAt b 8 4)

/-- The destination a GET names, or why it has none. -/
def State.getDest (s : State) (e : Entry) (list : Fetch) : Except (Nat × Nat) (Option Dest) :=
  match e.p 18 1 with
  | 0 => .ok (some (.host (e.p 32 8) (e.h / 2 ^ 32)))
  | 1 =>
    match list with
    | .ok l => .ok (some (.list (sgPieces l)))
    | _ => .ok none
  | _ =>
    match s.conn (e.p 32 4) with
    | none => .error (St.invalidParam, 0x1902)
    | some x => match s.connRefuses x with
      | some r => .error r
      | none => .ok (some (.conn (e.p 32 4) x.maxMsg))

/-- Deliver bytes to a list of host pieces. -/
def State.scatter (s : State) (e : Entry) : List (Nat × Nat) → Bytes → State
  | [], _ => s
  | (a, n) :: ps, b => if b.isEmpty then s else State.scatter (s.deliverTo e a (b.take n)) e ps (b.drop n)

/-- A chunk of an object with the offset of its first byte and its length. -/
structure Piece where
  entry : RecEntry
  off : Nat
  len : Nat
deriving DecidableEq, Repr

/-- The chunks of a recipe with their offsets. -/
def partsFrom : Nat → List RecEntry → List Piece
  | _, [] => []
  | off, e :: es =>
    let n := 4096 * (e.blocks - 1) + e.lastLen
    ⟨e, off, n⟩ :: partsFrom (off + n) es

/-- A chunk's extent is on tape for a command (R284, R285). -/
def State.recOnTape (s : State) (eid : Nat) (e : RecEntry) : Bool :=
  (s.extent e.extent).any fun x => if decide (eid < x.moved) then !x.onTape else x.onTape

/-- Open the chunks a GET needs, in order, up to the first that fails; one whose checks fail is tried again with its
blocks reconstructed from other members (R24). -/
def State.openParts (s : State) (eid tenant : Nat) : List Piece → List Fetch → List Fetch → Bytes → Bytes × Option (Nat × Nat)
  | [], _, _, out => (out, none)
  | p :: ps, recs, again, out =>
    let f := recs.headD .failed
    if s.recOnTape eid p.entry then (out, some (St.mediaError, 0x1604))
    else if s.recLost p.entry then (out, some (St.stripeLost, 0x1502))
    else
      match s.openFetch eid tenant p.entry.fp f with
      | .ok b => State.openParts s eid tenant ps (recs.drop 1) again (out ++ b)
      | .error x =>
        if retries x then
          match s.openFetch eid tenant p.entry.fp (again.headD f) with
          | .ok b => State.openParts s eid tenant ps (recs.drop 1) (again.drop 1) (out ++ b)
          | .error y => (out, some y)
        else (out, some x)

/-- Deliver what a GET opened, and reply (R119, R356). `lo` and `n` are the range wanted, `base` the offset of the first
byte opened. -/
def State.deliverGet (s : State) (e : Entry) (o : ObjRec) (d : Dest) (lo n base : Nat) (r : Bytes × Option (Nat × Nat)) :
    State :=
  let body := (r.1.drop (lo - base)).take n
  let (st, dt) := r.2.getD (St.ok, 0)
  let res := leBytes 8 body.length ++ leBytes 8 o.length
  let s := (s.tally 1 body.length).tally 9 (b2n r.2.isNone)
  match d with
  | .host a _ => (s.deliverTo e a body).final e st dt res
  | .list ps => (s.scatter e ps body).final e st dt res
  | .conn c _ =>
    let id := (e.ring * 65536 + pktSeq e.pkt) % 2 ^ 32
    let tail := beBytes 2 st ++ beBytes 2 dt ++ zeros 4 ++ beBytes 8 body.length
    let ps := (if body.isEmpty then [] else cutPkts Grmp.send id 0 body false) ++ [Pkt.make Grmp.send 3 id body.length 16 tail]
    s.submit c (.get e.eid st dt res) false body.length 0 ps

/-- A GET of a range, with the checks of R119 and R120 in order. -/
def State.getCmd (s : State) (e : Entry) (ranged : Bool) (list : Fetch) (recs again : List Fetch) (destOk : Bool) : State :=
  let t := e.p 16 2
  if 2 < e.p 18 1 || (ranged && e.p 28 4 = 0) then s.fail e St.invalidParam 0x1107
  else if (KMap.get? s.data.tenants t).isNone then s.fail e St.invalidParam 0x1101
  else
    match e.found.bind fun k => s.data.objects.find? fun o => o.extent == k with
    | none => s.fail e St.invalidParam 0x1104
    | some o =>
      let lo := if ranged then e.p 20 8 else 0
      let n := if ranged then e.p 28 4 else o.length
      if o.length < lo + n then s.fail e St.invalidParam 0x1105
      else if !s.mayWrite o.dom then s.fail e St.aborted 0x1A01
      else if !s.anyBasic 1 || !s.anyBasic 3 || !s.anyBasic 4 || !s.basicFree (instKey 6 o.dom) then
        s.fail e St.roleConflict 0x0401
      else
        match s.getDest e list with
        | .error (st, dt) => s.fail e st dt
        | .ok none => s.failSilent e 2
        | .ok (some d) =>
          if d.len < n then s.fail e St.noSpace 0x1102
          else if (match d with
              | .host a _ => e.outside a n
              | _ => false) then s.fail e St.invalidParam 0x1E01
          else if !destOk then s.failSilent e 3
          else
            let ps := (partsFrom 0 o.entries).filter fun p => decide (p.off < lo + n) && decide (lo < p.off + p.len)
            s.deliverGet e o d lo n ((ps.head?.map (·.off)).getD lo) (s.openParts e.eid t ps recs again [])

/-- GET (R117, R119): `recs` are the stored records as Tussock read them, one for each chunk, and `again` those read
once more by reconstruction. -/
def execGet (eid : Nat) (list : Fetch) (recs again : List Fetch) (destOk : Bool) (s : State) :
    Host.Outcome State Fault Refusal :=
  .next <| s.cmd eid 0x0111 fun s e => s.getCmd e false list recs again destOk

/-- GET_RANGE (R119). -/
def execGetRange (eid : Nat) (list : Fetch) (recs again : List Fetch) (destOk : Bool) (s : State) :
    Host.Outcome State Fault Refusal :=
  .next <| s.cmd eid 0x0112 fun s e => s.getCmd e true list recs again destOk

/-! ## DELETE_REF and OBJECT_STAT -/

/-- IDX items of a delete: each indexed chunk's entry, and the emptied object entry, as they stand after it. -/
def State.deleteItems (s : State) (o : ObjRec) : List (Nat × Bytes) :=
  let chunks := o.entries.filterMap fun e =>
    if e.unindexed then none
    else (s.lookupChunk o.dom e.fp).map fun x => (3, (x.dropRef s.clk).bytes 0 0 0)
  chunks ++ [(3, objKey (s.salt o.tenant) o.objId ++ zeros 16)]

/-- Start the deletion of an object for a command (0 for none). -/
def State.startDelete (s : State) (eid : Nat) (o : ObjRec) : State :=
  let rec_ := objRecord o.objId o.tenant o.mode o.length o.entries.length o.jseq o.tick
  let (s, n) := s.makeRec o.dom .delete eid ((1, rec_) :: s.deleteItems o) []
  s.onRec o.dom n fun r => { r with del := some (o.tenant, o.objId) }

/-- The domains of a mask. -/
def domsOf (mask : Nat) : List Nat := (List.range 8).filter fun d => bitAt mask d

/-- The links that ship an object's delete are those of the policies of its tenant in its domain's trees (R361). -/
def State.shipDelete (s : State) (o : ObjRec) : State :=
  let pols := (s.data.policies.filter fun p => s.rootDom p.2.root == o.dom && (p.2.tenant == o.tenant || p.2.tenant == 0xFFFF)).map (·.1)
  pols.foldl (fun s p => s.ship p ⟨o.dom, o.tenant, o.objId, o.jseq, true, false, 0, none⟩) s

/-- DELETE_REF (R109). -/
def execDeleteRef (eid : Nat) (s : State) : Host.Outcome State Fault Refusal :=
  .next <| s.cmd eid 0x0121 fun s e =>
    let t := e.p 16 2
    if (KMap.get? s.data.tenants t).isNone then s.fail e St.invalidParam 0x1101
    else
      match s.objectIn (domsOf e.owned) t (e.area.take 16) with
      | none => s.fail e St.invalidParam 0x1104
      | some o =>
        if s.data.moves.any fun m => m.root == extRoot o.extent && decide (m.eid < eid) then s.fail e St.busy 0x1502
        else if !s.mayWrite o.dom then s.fail e St.aborted 0x1A01
        else if !s.basicFree (instKey 6 o.dom) then s.fail e St.roleConflict 0x0401
        else (s.startDelete eid o).shipDelete o

/-- OBJECT_STAT (R108). -/
def execObjectStat (eid : Nat) (s : State) : Host.Outcome State Fault Refusal :=
  .next <| s.cmd eid 0x0131 fun s e =>
    if (KMap.get? s.data.tenants (e.p 16 2)).isNone then s.fail e St.invalidParam 0x1101
    else
      match s.objectIn (domsOf e.owned) (e.p 16 2) (e.area.take 16) with
      | none => s.fail e St.invalidParam 0x1104
      | some o => s.okReply e (leBytes 8 o.length ++ leBytes 4 o.entries.length ++ leBytes 4 o.jseq)

/-! ## Policies (R119) -/

/-- POLICY_CREATE: MODE, TENANT, GROUP, outermost, in that order. -/
def execPolicyCreate (eid : Nat) (s : State) : Host.Outcome State Fault Refusal :=
  .next <| s.cmd eid 0x0211 fun s e =>
    let t := e.p 10 2
    if 3 < e.p 8 1 then s.fail e St.invalidParam 0x1107
    else if t != 0xFFFF && (KMap.get? s.data.tenants t).isNone then s.fail e St.invalidParam 0x1101
    else
      match s.groupOf (e.p 0 8) with
      | none => s.fail e St.invalidParam 0x1504
      | some (i, g) =>
        if !g.outermost then s.fail e St.invalidParam 0x150B
        else
          let h := s.data.nextPolicy
          (s.onData fun d => { d with nextPolicy := h + 1, policies := KMap.put d.policies h ⟨i, e.p 8 1, e.p 9 1, t⟩ }).okReply
            e (leBytes 8 h)

/-- POLICY_DESTROY. -/
def execPolicyDestroy (eid : Nat) (s : State) : Host.Outcome State Fault Refusal :=
  .next <| s.cmd eid 0x0212 fun s e =>
    if (KMap.get? s.data.policies e.h).isNone then s.fail e St.invalidParam 0x1102
    else (s.onData fun d => { d with policies := KMap.del d.policies e.h }).okReply e []

/-! ## Reclamation (R110, R284) -/

/-- A command that may still use what was freed at a boundary: a PUT, GET, GET_RANGE or DELETE_REF consumed at or
before it. -/
def State.usersSince (s : State) (at_ : Nat) : Bool :=
  s.ez.queue.any fun e => [0x0101, 0x0102, 0x0103, 0x0111, 0x0112, 0x0121].contains e.op && decide (e.at_ ≤ at_)

/-- TOMBSTONE_RECLAIM (R110, R284): tombstones, deleted objects, and flash copies of extents on tape whose time has
come. The record of it waits for a Tussock instance that takes new work (R30). -/
def execTombstoneReclaim (dom : Fin 8) (s : State) : Host.Outcome State Fault Refusal :=
  .next <|
    let d : Nat := dom
    let tombs := (s.idxAll d).filter fun x => x.2.st == .tomb && !s.usersSince x.2.since
    let dead := s.data.objects.filter fun o => o.dom == d && o.dead.any fun k => !s.usersSince k
    let gone := s.data.trees.flatMap fun e => if s.rootDom e.1 = d then
        (e.2.exts.filter fun x => x.onTape && x.flash && !x.keep && !s.usersSince x.since).map fun x => (e.1, x.num) else []
    if !s.owns d || !s.tskFree d || (tombs.isEmpty && dead.isEmpty && gone.isEmpty) then s
    else
      let s := tombs.foldl (fun s x => (s.setSlot d x.1 none).freeExt x.2.extent) s
      let s := dead.foldl (fun s o => (o.entries.filter (·.unindexed)).foldl (fun s e => s.freeExt e.extent) (s.freeExt o.extent)) s
      let s := gone.foldl (fun s x => let t := s.tree x.1
        s.setTree x.1 { t with exts := t.exts.map fun e => if e.num = x.2 then { e with flash := false } else e }) s
      let s := s.onData fun y => { y with objects := y.objects.filter fun o => !(dead.any fun z => z.extent == o.extent) }
      s.note d .reclaim (tombs.map fun x => (3, x.2.key ++ zeros 16))

end Sys2Proof.Machine
end

