-- ==== Sys2Proof/Machine/Keys.lean ====
section
/-! DEFINITION. Bracken: tenant spaces, the key store, and the cores' expert descriptors (R93, R143 to R165). -/

namespace Sys2Proof.Machine

open Sys2Proof

/-! ## Slots (R151, R154, R155) -/

/-- Set a key slot. -/
def State.setSlotKey (s : State) (i : Nat) (k : KeySlot) : State :=
  s.onData fun d => { d with slots := KMap.put d.slots i k }

/-- Empty the key slots that satisfy a test: they are zeroized. -/
def State.emptySlots (s : State) (p : Nat → KeySlot → Bool) : State :=
  s.onData fun d => { d with slots := KMap.keep d.slots fun i k => !p i k }

/-- Slots of the configuration in force. -/
def State.slotTotal (s : State) : Nat := if s.par Par.slotCfg = 1 then 65536 else 1024

/-- Expert slots in force: the highest-numbered. -/
def State.slotExpert (s : State) : Nat := s.par Par.expertSlots

/-- An expert slot. -/
def State.expertSlot (s : State) (i : Nat) : Bool := decide (s.slotTotal ≤ i + s.slotExpert) && decide (i < s.slotTotal)

/-- The key store takes keys in clear (configuration 1, R151). -/
def State.clearKeys (s : State) : Bool := s.par Par.slotCfg == 1

/-- The lowest free slot that Fold may assign. -/
def State.freeSlot (s : State) : Option Nat :=
  lowestFree (s.data.slots.map (·.1)) 0 (s.slotTotal - s.slotExpert)

/-- Code of a key type in blobs and in BRK_KEYLOAD. -/
def KeyTy.ofCode : Nat → Option KeyTy
  | 0 => some .xts128
  | 1 => some .xts256
  | 2 => some .gcm128
  | 3 => some .gcm256
  | _ => none

/-- Bytes of a key (R157). -/
def KeyTy.len : KeyTy → Nat
  | .xts128 => 32
  | .xts256 => 64
  | .gcm128 => 16
  | .gcm256 => 32

/-- Whether a type is of the XTS mode. -/
def KeyTy.xts : KeyTy → Bool
  | .xts128 => true
  | .xts256 => true
  | .gcm128 => false
  | .gcm256 => false

/-- An XTS key whose halves are equal is refused (R146). -/
def KeyTy.halvesEqual (ty : KeyTy) (key : Bytes) : Bool :=
  ty.xts && key.take (ty.len / 2) == slice key (ty.len / 2) (ty.len / 2)

/-- Unwrap a blob under the head wrapping key and check its binding (R156, R157); a failed check is counted. `ty` is
the type asked for, none where the blob's own type decides. -/
def State.unwrapKey (s : State) (blob : Bytes) (ty : Option KeyTy) (tenant gen : Nat) :
    State × Except (Nat × Nat) (KeyTy × Bytes) :=
  match s.data.hwk with
  | none => (s, .error (St.invalidParam, 0x1304))
  | some hwk =>
    match kwUnwrap hwk blob with
    | none => (s.bump Reg.brkCntEvents 15 0 1, .error (St.checkMismatch, 0x1301))
    | some p =>
      match KeyTy.ofCode (leAt p 0 1) with
      | none => (s, .error (St.checkMismatch, 0x1302))
      | some t =>
        if p.length != 8 + t.len || (ty.any fun x => x != t) || leAt p 2 2 != tenant || leAt p 4 2 != gen then
          (s, .error (St.checkMismatch, 0x1302))
        else if t.halvesEqual (p.drop 8) then (s, .error (St.invalidParam, 0x1302))
        else (s, .ok (t, p.drop 8))

/-- A key as a command brings it, in the form of the configuration in force: wrapped or clear (R151, R157). -/
def State.takeKey (s : State) (form : Nat) (field : Bytes) (ty : KeyTy) (tenant gen : Nat) :
    State × Except (Nat × Nat) Bytes :=
  if form = 0 then
    match s.unwrapKey (field.take (ty.len + 16)) (some ty) tenant gen with
    | (s, .error x) => (s, .error x)
    | (s, .ok (_, k)) => (s, .ok k)
  else
    let k := field.take ty.len
    if ty.halvesEqual k then (s, .error (St.invalidParam, 0x1302)) else (s, .ok k)

/-! ## Tenant spaces (R93, R119) -/

/-- A tenant space. -/
def State.tenant (s : State) (t : Nat) : Option Tenant := KMap.get? s.data.tenants t

/-- Set a tenant space. -/
def State.setTenant (s : State) (t : Nat) (x : Tenant) : State :=
  s.onData fun d => { d with tenants := KMap.put d.tenants t x }

/-- TENANT_CREATE (R93, R119). -/
def execTenantCreate (eid : Nat) (s : State) : Host.Outcome State Fault Refusal :=
  .next <| s.cmd eid 0x0201 fun s e =>
    let t := e.p 0 2
    if 16383 < t then s.fail e St.invalidParam 0x1107
    else if (s.tenant t).isSome then s.fail e St.invalidParam 0x1108
    else if pktFlag e.pkt 0 then (s.setTenant t ⟨slice e.blk 64 64, 0, []⟩).okReply e []
    else (s.nextDraw.setTenant t ⟨s.drawn 64, 0, []⟩).okReply e []

/-- Commands that name a tenant space, with the offset of the number in their parameters. -/
def tenantField (op : Nat) : Option Nat :=
  if [0x0101, 0x0102, 0x0103].contains op then some 24
  else if [0x0111, 0x0112, 0x0121, 0x0131].contains op then some 16
  else if op == 0x0203 then some 0
  else none

/-- A command that can use a tenant's keys (R161): a PUT, GET or DELETE_REF of the space, a recall, a deep verify. -/
def Entry.usesKeys (e : Entry) (t : Nat) : Bool :=
  (e.op != 0x0203 && e.op != 0x0131 && (tenantField e.op).any fun o => e.p o 2 == t) || e.op == 0x2004
    || (e.op == 0x2005 && bitAt (e.p 8 1) 0)

/-- The retire point of some generations of a tenant (R161): what the command waits for is fixed here. -/
def State.beginRetire (s : State) (e : Entry) (t : Nat) (gens : List Nat) (destroy : Bool) : State :=
  let own := s.admitted fun x => decide (x.eid < e.eid) && (x.usesKeys t || (destroy && (tenantField x.op).any fun o => x.p o 2 == t))
  let rcv := (s.data.puts.filter fun p => p.source == 4 && p.tenant == t).map (·.eid)
  let ships := s.drv.links.flatMap fun l => (l.2.backlog.filter fun x => x.sent && x.tenant == t).map fun x => (l.1, x.jseq)
  s.onData fun d => { d with retires := d.retires ++ [⟨e.eid, t, gens, own ++ rcv, ships, destroy⟩] }

/-- What a retire waits for has ended. -/
def State.retireReady (s : State) (r : Retire) : Bool :=
  (r.waits.all fun i => (s.entry i).isNone && (s.put i).isNone)
    && r.ships.all fun x => !(((KMap.get? s.drv.links x.1).map (·.backlog)).getD []).any fun b => b.sent && b.jseq == x.2

/-- RESULT of TENANT_KEY_SET: current generation, oldest live one, number of live ones. -/
def Tenant.result (x : Tenant) : Bytes :=
  leBytes 2 x.cur ++ leBytes 2 ((x.live.min?).getD 0) ++ [byteOf x.live.length]

/-- End a retire: its slots are zeroized and its generations leave the tenant table; a destroyed space is forgotten
(R119, R161). -/
def State.endRetire (s : State) (r : Retire) : State :=
  let s := s.emptySlots fun _ k => match k.bind with
    | .tenant t g => t == r.tenant && r.gens.contains g
    | _ => false
  let s := s.onData fun d => { d with retires := d.retires.filter fun x => x.eid != r.eid }
  match s.tenant r.tenant with
  | none => s.finalOf r.eid St.ok 0 []
  | some x =>
    if r.destroy then
      (s.onData fun d => { d with tenants := KMap.del d.tenants r.tenant }).finalOf r.eid St.ok 0 []
    else
      let x := { x with live := x.live.filter fun g => !r.gens.contains g }
      (s.setTenant r.tenant x).finalOf r.eid St.ok 0 x.result

/-- End a command's retire if nothing is left to wait for. -/
def State.tryRetire (s : State) (eid : Nat) : State :=
  match s.data.retires.find? fun r => r.eid == eid with
  | none => s
  | some r => if s.retireReady r then s.endRetire r else s

/-- TENANT_DESTROY (R119). -/
def execTenantDestroy (eid : Nat) (s : State) : Host.Outcome State Fault Refusal :=
  .next <| s.cmd eid 0x0202 fun s e =>
    let t := e.p 0 2
    match s.tenant t with
    | none => s.fail e St.invalidParam 0x1101
    | some x =>
      let held := (s.data.objects.any fun o => o.tenant == t && o.dead.isNone) || (s.data.policies.any fun p => p.2.tenant == t)
        || (s.drv.conns.any fun c => c.2.kind == 1 && c.2.tenant == t) || s.drv.spaces.any fun c => c.2.live && c.2.tenant == t
      if held then s.fail e St.invalidParam 0x1106
      else (s.beginRetire e t x.live true).tryRetire eid

/-! ## TENANT_KEY_SET (R158 to R161) -/

/-- NEW and RELOAD: the key is taken, checked and put into a free slot; NEW makes it current just before its reply. A
RELOAD of a generation that is loaded only checks the key. -/
def State.keyLoad (s : State) (e : Entry) (t : Nat) (x : Tenant) (gen : Nat) (new : Bool) : State :=
  match s.takeKey (e.p 3 1) (slice e.area 64 80) .xts256 t gen with
  | (s, .error (st, dt)) => s.fail e st dt
  | (s, .ok k) =>
    if (s.tenantSlot t gen).isSome then s.okReply e x.result
    else
      match s.freeSlot with
      | none => s.fail e St.noSpace 0x1301
      | some i =>
        let x := if new then { x with cur := gen, live := x.live ++ [gen] } else x
        ((s.setSlotKey i ⟨k, .xts256, .tenant t gen⟩).setTenant t x).okReply e x.result

/-- TENANT_KEY_SET (R159). -/
def execTenantKeySet (eid : Nat) (s : State) : Host.Outcome State Fault Refusal :=
  .next <| s.cmd eid 0x0203 fun s e =>
    let op := e.p 2 1
    let form := e.p 3 1
    let gen := e.p 4 2
    if 2 < op || 1 < form then s.fail e St.invalidParam 0x1301
    else
      match s.tenant (e.p 0 2) with
      | none => s.fail e St.invalidParam 0x1306
      | some x =>
        if form != b2n s.clearKeys then s.fail e St.invalidParam 0x1305
        else if (if op = 0 then gen != x.cur + 1 else !x.live.contains gen) || (op == 2 && gen == x.cur) then
          s.fail e St.invalidParam 0x1303
        else if op == 0 && decide (4 ≤ x.live.length) then s.fail e St.noSpace 0x1302
        else if op = 2 then (s.beginRetire e (e.p 0 2) [gen] false).tryRetire eid
        else s.keyLoad e (e.p 0 2) x gen (op == 0)

/-- RETIRE_COMPLETE (R119, R161): every admitted command has completed. -/
def execRetireComplete (eid : Nat) (s : State) : Host.Outcome State Fault Refusal := .next (s.tryRetire eid)

/-! ## BRK_KEYLOAD (R156) -/

/-- The bytes of BRK_KEYIN. -/
def State.keyinBytes (s : State) : Bytes := s.data.keyin.flatMap fun w => leBytes 4 w.toNat

/-- Set BRK_KEYSTAT.RESULT. -/
def State.keyResult (s : State) (r : Nat) : State := s.setRf Reg.brkKeystat 3 1 r

/-- A GO that is dropped: cause 0x6, RESULT 0x1. -/
def State.keyRefused (s : State) : State := (s.keyResult 1).latch errBrk 0 6

/-- Some core is in Expert. -/
def State.coreExpert (s : State) : Bool := (List.range 8).any fun i => (s.inst (instKey 4 i)).ctl == .expert

/-- A GO with its SLOT and TYPE: an HWK load while not provisioned, or a load or zeroize of an expert slot in
configuration 1 while a core is in Expert. -/
def State.keyGo (s : State) (slot ty : Nat) : State :=
  if ty = 4 then
    if s.rbit Reg.fldStatus 1 then s.keyRefused
    else (s.onData fun d => { d with hwk := some (s.keyinBytes.take 32) }).keyResult 0
  else if !s.clearKeys || !s.coreExpert || !s.expertSlot slot then s.keyRefused
  else if ty = 7 then (s.emptySlots fun i _ => i == slot).keyResult 0
  else
    match KeyTy.ofCode ty with
    | none => s.keyRefused
    | some t =>
      let k := s.keyinBytes.take t.len
      if t.halvesEqual k then s.keyResult 3 else (s.setSlotKey slot ⟨k, t, .expert⟩).keyResult 0

/-- A write of BRK_KEYLOAD: SLOT and TYPE are kept, and a GO runs; BRK_KEYIN clears after it. -/
def State.keyloadWrite (s : State) (val : W32) : State :=
  let v := val.toNat
  let s := (s.setRf Reg.brkKeyload 15 0 (fieldOf v 15 0)).setRf Reg.brkKeyload 18 16 (fieldOf v 18 16)
  if bitAt v 31 then (s.keyGo (fieldOf v 15 0) (fieldOf v 18 16)).onData fun d => { d with keyin := List.replicate 16 0 } else s

/-- KEYLOAD_KEY: GO with the type of a key. -/
def execKeyloadKey (val : W32) (s : State) : Host.Outcome State Fault Refusal :=
  .next (if bitAt val.toNat 31 && decide (fieldOf val.toNat 18 16 < 4) then s.keyloadWrite val else s)

/-- KEYLOAD_HWK (R156). -/
def execKeyloadHwk (val : W32) (s : State) : Host.Outcome State Fault Refusal :=
  .next (if bitAt val.toNat 31 && fieldOf val.toNat 18 16 == 4 then s.keyloadWrite val else s)

/-- KEYLOAD_ZEROIZE (R155). -/
def execKeyloadZeroize (val : W32) (s : State) : Host.Outcome State Fault Refusal :=
  .next (if bitAt val.toNat 31 && fieldOf val.toNat 18 16 == 7 then s.keyloadWrite val else s)

/-- KEY_SLOT_FAULT (R160): an uncorrectable error empties the slot, makes a Skylark record and fails the PUTs that use
its key. -/
def execKeySlotFault (slot : Nat) (s : State) : Host.Outcome State Fault Refusal :=
  .next <|
    match KMap.get? s.data.slots slot with
    | none => s
    | some k =>
      let s := ((s.emptySlots fun i _ => i == slot).bump Reg.brkCntEvents 31 16 1).sklHw 0x0D 0 0 slot
      let hit := s.data.puts.filter fun p => p.jseq == 0 && k.bind == .tenant p.tenant p.gen
      hit.foldl (fun s p => s.endPut p.eid St.uncorrectable 0x1302) s

/-! ## Expert descriptors of every engine (R79, R561) -/

/-- Run a queue's next descriptor for one operation code: the step of another valid code leaves it to its own row. -/
def State.xqOp (s : State) (k : Nat) (desc : Fetch) (cqOk : Bool) (op : Nat) (ops : List Nat)
    (f : State → Bytes → State × XRes) : State :=
  match desc with
  | .ok b => if leAt b 0 1 != op && ops.contains (leAt b 0 1) then s else s.xqRun k desc cqOk f
  | _ => s.xqRun k desc cqOk f

/-- A descriptor whose source read ends in an error completion, for which the manual gives no status: its status and
detail are free values (log entry 22). -/
def State.xrSilent (s : State) (k : Nat) : XRes := XRes.fail (s.unstated 22 [k, 2] % 65536) (s.unstated 22 [k, 3] % 65536)

/-- Bytes `lo` to `lo + n - 1` of a descriptor are zero. -/
def zeroAt (d : Bytes) (lo n : Nat) : Bool := allZero (slice d lo n)

/-- Write to the memory of the function that holds a queue. -/
def State.xqWrite (s : State) (k addr : Nat) (data : Bytes) : State :=
  if data.isEmpty then s else s.emit (.hostWrite (s.xqFn k) addr data)

/-! ## Bracken's descriptors (R164) -/

/-- Operation codes of a core: UNWRAP in configuration 0 only. -/
def State.brkOps (s : State) : List Nat := if s.clearKeys then [1, 2, 3, 4] else [1, 2, 3, 4, 5]

/-- The descriptor's own checks and its slot. -/
def State.brkJudge (s : State) (d : Bytes) : Option (Nat × Nat) :=
  let op := leAt d 0 1
  let gcm := op == 3 || op == 4
  if !s.brkOps.contains op || !zeroAt d 1 1 || (gcm && !zeroAt d 60 4) then some (St.invalidParam, 0x1301)
  else if !s.expertSlot (leAt d 2 2) then some (St.accessDenied, 0x1301)
  else none

/-- The key of a descriptor's slot, of the mode its operation needs. -/
def State.brkKey (s : State) (d : Bytes) (xts : Bool) : Option Bytes :=
  match KMap.get? s.data.slots (leAt d 2 2) with
  | none => none
  | some k => if k.ty.xts == xts then some k.key else none

/-- A source as a job reads it: its bytes, or how the job ends (R164). -/
def State.brkSrc (s : State) (k : Nat) (f : Fetch) (n : Nat) : Except XRes Bytes :=
  match f with
  | .ok b => .ok (padTo b n)
  | .uncorrectable => .error { XRes.fail St.uncorrectable 0x1301 with halt := true }
  | .failed => .error (s.xrSilent k)

/-- An XTS job. -/
def State.brkXts (s : State) (k : Nat) (enc : Bool) (src : Fetch) (d : Bytes) : State × XRes :=
  let n := leAt d 16 8
  match s.brkJudge d with
  | some (st, dt) => (s, XRes.fail st dt)
  | none =>
    match s.brkKey d true with
    | none => (s, XRes.fail St.keyRevoked 0x1302)
    | some key =>
      if n < 512 || 16777216 < n || n % 16 != 0 then (s, XRes.fail St.lengthLimit 0x1301)
      else
        match s.brkSrc k src n with
        | .error r => (s, r)
        | .ok b =>
          (s.xqWrite k (leAt d 24 8) (if enc then xtsEnc key (slice d 48 16) b else xtsDec key (slice d 48 16) b),
            ⟨St.ok, 0, n, 0, false⟩)

/-- BRK_XTS_ENCRYPT (R146, R164). -/
def execBrkXtsEncrypt (inst : Fin 8) (desc src : Fetch) (cqOk : Bool) (s : State) : Host.Outcome State Fault Refusal :=
  .next (s.xqOp (instKey 4 inst) desc cqOk 1 s.brkOps fun s d => s.brkXts (instKey 4 inst) true src d)

/-- BRK_XTS_DECRYPT (R146, R164). -/
def execBrkXtsDecrypt (inst : Fin 8) (desc src : Fetch) (cqOk : Bool) (s : State) : Host.Outcome State Fault Refusal :=
  .next (s.xqOp (instKey 4 inst) desc cqOk 2 s.brkOps fun s d => s.brkXts (instKey 4 inst) false src d)

/-- The checks and reads of a GCM job: key, source with the tag where it decrypts, additional data. -/
def State.brkGcmIn (s : State) (k : Nat) (extra : Nat) (src aad : Fetch) (d : Bytes) : Except XRes (Bytes × Bytes × Bytes) :=
  match s.brkJudge d with
  | some (st, dt) => .error (XRes.fail st dt)
  | none =>
    match s.brkKey d false with
    | none => .error (XRes.fail St.keyRevoked 0x1302)
    | some key =>
      if 2 ^ 36 - 32 < leAt d 16 8 then .error (XRes.fail St.lengthLimit 0x1302)
      else if 2 ^ 32 < leAt d 40 8 then .error (XRes.fail St.lengthLimit 0x1303)
      else
        match s.brkSrc k aad (leAt d 40 8), s.brkSrc k src (leAt d 16 8 + extra) with
        | .error r, _ => .error r
        | _, .error r => .error r
        | .ok a, .ok b => .ok (key, b, a)

/-- BRK_GCM_ENCRYPT (R148, R164): the tag follows the output. -/
def execBrkGcmEncrypt (inst : Fin 8) (desc src aad : Fetch) (cqOk : Bool) (s : State) : Host.Outcome State Fault Refusal :=
  .next <|
    let k := instKey 4 inst
    s.xqOp k desc cqOk 3 s.brkOps fun s d =>
      match s.brkGcmIn k 0 src aad d with
      | .error r => (s, r)
      | .ok (key, b, a) =>
        let (ct, tag) := gcmEnc key (slice d 48 12) a b
        (s.xqWrite k (leAt d 24 8) (ct ++ tag), ⟨St.ok, 0, leAt d 16 8 + 16, 0, false⟩)

/-- BRK_GCM_DECRYPT (R150, R164): a wrong tag leaves zeros at the destination. -/
def execBrkGcmDecrypt (inst : Fin 8) (desc src aad : Fetch) (cqOk : Bool) (s : State) : Host.Outcome State Fault Refusal :=
  .next <|
    let k := instKey 4 inst
    s.xqOp k desc cqOk 4 s.brkOps fun s d =>
      let n := leAt d 16 8
      match s.brkGcmIn k 16 src aad d with
      | .error r => (s, r)
      | .ok (key, b, a) =>
        match gcmDec key (slice d 48 12) a (b.take n) (b.drop n) with
        | some p => (s.xqWrite k (leAt d 24 8) p, ⟨St.ok, 0, n, 0, false⟩)
        | none =>
          ((s.xqWrite k (leAt d 24 8) (zeros n)).bump Reg.brkCntEvents 15 0 1, XRes.fail St.checkMismatch 0x1303)

/-- BRK_UNWRAP (R156, R157, R164): a blob into an expert slot, bound to TENANT 0xFFFF and GEN 0. -/
def execBrkUnwrap (inst : Fin 8) (desc src : Fetch) (cqOk : Bool) (s : State) : Host.Outcome State Fault Refusal :=
  .next <|
    let k := instKey 4 inst
    s.xqOp k desc cqOk 5 s.brkOps fun s d =>
      match s.brkJudge d with
      | some (st, dt) => (s, XRes.fail st dt)
      | none =>
        match s.brkSrc k src (leAt d 16 8) with
        | .error r => (s, r)
        | .ok b =>
          match s.unwrapKey b none 0xFFFF 0 with
          | (s, .error (st, dt)) => (s, XRes.fail st dt)
          | (s, .ok (ty, key)) => (s.setSlotKey (leAt d 2 2) ⟨key, ty, .expert⟩, ⟨St.ok, 0, 0, 0, false⟩)

end Sys2Proof.Machine
end

