-- ==== Sys2Proof/Machine/Thistle.lean ====
section
/-! DEFINITION. Thistle: digest contexts, their actions, feeds and faults (R166 to R184). -/

namespace Sys2Proof.Machine

open Sys2Proof

/-- A context. -/
def State.ctx (s : State) (n : Nat) : Ctx := KMap.getD s.data.ctxs n Ctx.zero

/-- Set a context. -/
def State.setCtx (s : State) (n : Nat) (c : Ctx) : State := s.onData fun d => { d with ctxs := KMap.put d.ctxs n c }

/-- A context that BAR0 reaches: its instance is in Expert (R169). -/
def State.ctxHost (s : State) (n : Nat) : Bool := (s.inst (instKey 5 n)).ctl == .expert

/-- The Hedgerow source of a context (R423). -/
def ctxSrc (n : Nat) : Nat := 0x450 + n

/-- Zero a context's expect registers. -/
def State.zeroExpect (s : State) (n : Nat) : State :=
  (List.range 16).foldl (fun s j => s.setReg (Reg.thsCnExpectK n j) 0) s

/-- Zero a context and put it into a state: RESET and RELEASE (R173). -/
def State.zeroCtx (s : State) (n : Nat) (st : CtxSt) : State :=
  (s.setCtx n { Ctx.zero with st := st, cause := (s.ctx n).cause }).zeroExpect n

/-- THS_CLAIM (R170): the lowest context in Expert and FREE. -/
def execThsClaim (s : State) : Host.Outcome State Fault Refusal :=
  .next <|
    match (List.range 32).find? fun n => s.ctxHost n && (s.ctx n).st == .free with
    | none => s.emit (.readData Reg.thsClaim 0x00400000)
    | some n => (s.setCtx n { s.ctx n with st := .idle }).emit (.readData Reg.thsClaim n)

/-- A refused action latches cause 0x6 and changes no state (R172). -/
def State.refuseCtx (s : State) (n : Nat) : State := (s.setCtx n { s.ctx n with cause := 6 }).latch errThs n 6

/-- A write of THS_Cn_CTRL with one action bit: outside Expert it is dropped (R169); the RW fields are kept; more than
one action bit, or an action the context does not accept, is refused (R172, R173). -/
def State.ctxAct (s : State) (n : Nat) (val : W32) (bit : Nat) (f : State → Option State) : State :=
  let v := val.toNat
  if !bitAt v bit then s
  else if !s.ctxHost n then s.latch errThs n 1
  else
    let c := Reg.thsCnCtrl n
    let s := ((s.setRf c 1 0 (fieldOf v 1 0)).setRf c 7 7 (fieldOf v 7 7)).setRf c 14 8 (fieldOf v 14 8)
    if ([2, 3, 4, 5, 6].filter fun i => bitAt v i).length != 1 then s.refuseCtx n
    else
      match f s with
      | none => s.refuseCtx n
      | some t => t

/-- The algorithm of an ALG code. -/
def Alg.ofCode : Nat → Option Alg
  | 0 => some .sha256
  | 1 => some .sha384
  | 2 => some .sha512
  | _ => none

/-- THS_START (R173). -/
def execThsStart (ctx : Fin 32) (val : W32) (s : State) : Host.Outcome State Fault Refusal :=
  .next <| s.ctxAct ctx val 2 fun s =>
    let c := s.ctx ctx
    match Alg.ofCode (fieldOf val.toNat 1 0) with
    | none => none
    | some a =>
      if c.st == .idle || c.st == .open_ then
        some (s.setCtx ctx { c with st := .open_, alg := a, h := a.iv, count := 0, eq := false, ne := false })
      else none

/-- THS_GO (R174, R175): LEN is a multiple of the block size, not 0 and at most 0xFFFF_FF80; a list has an entry. -/
def execThsGo (ctx : Fin 32) (val : W32) (s : State) : Host.Outcome State Fault Refusal :=
  .next <| s.ctxAct ctx val 3 fun s =>
    let c := s.ctx ctx
    let len := (s.reg (Reg.thsCnLen ctx)).toNat
    let sg := bitAt val.toNat 7
    let n := s.rf (Reg.thsCnSgcnt ctx) 15 0
    if c.st != .open_ || len == 0 || len % c.alg.block != 0 || decide (0xFFFFFF80 < len) || (sg && n == 0) then none
    else some (s.setCtx ctx { c with st := .run, eq := false, ne := false, len := len, sg := if sg then n else 0 })

/-- THS_RESET (R172, R173); of a running context it takes effect at the block boundary (log entry 23). -/
def execThsReset (ctx : Fin 32) (val : W32) (s : State) : Host.Outcome State Fault Refusal :=
  .next <| s.ctxAct ctx val 5 fun s =>
    let st := (s.ctx ctx).st
    if st == .open_ || st == .run || st == .fault then some (s.zeroCtx ctx .idle) else none

/-- THS_RELEASE (R172, R173). -/
def execThsRelease (ctx : Fin 32) (val : W32) (s : State) : Host.Outcome State Fault Refusal :=
  .next <| s.ctxAct ctx val 6 fun s => if (s.ctx ctx).st == .free then none else some (s.zeroCtx ctx .free)

/-- Why a feed faults, if it does: the cause of R175. `list` is the scatter-gather list and `data` the bytes read up to
the end of the feed or the fault. -/
def Ctx.feedCause (c : Ctx) (list data : Fetch) : Option Nat :=
  let read := fun f => match f with
    | .uncorrectable => some 4
    | .failed => some 5
    | .ok _ => none
  if c.sg = 0 then read data
  else
    match list with
    | .ok l =>
      let have_ := ((pieces 16 (padTo l (16 * c.sg))).foldl (fun n e => n + leAt e 8 4) 0)
      (read data).or (if have_ < c.len then some 2 else if c.len < have_ then some 3 else none)
    | f => read f

/-- FEED_COMPLETE (R177). -/
def execFeedComplete (ctx : Fin 32) (list data : Fetch) (s : State) : Host.Outcome State Fault Refusal :=
  .next <|
    let c := s.ctx ctx
    match data, c.st == .run && (c.feedCause list data).isNone with
    | .ok b, true =>
      let h := shaFeed c.alg c.h (padTo b c.len)
      (s.setCtx ctx { c with st := .open_, h := h, count := c.count + c.len, digest := shaDigest c.alg h }).edge (ctxSrc ctx)
    | _, _ => s

/-- A context faults (R176): it is zeroed, its event is raised and its cause latched; causes 0x4 and 0x7 make a Skylark
record (R181). -/
def State.faultCtx (s : State) (n cause : Nat) : State :=
  let c := s.ctx n
  let s := s.setCtx n { c with st := .fault, h := [], count := 0, digest := [], cause := cause }
  let s := ((s.edge (ctxSrc n)).latch errThs n cause).bump Reg.thsCntEvents 15 0 1
  if cause = 4 || cause = 7 then s.sklHw 0x0E n cause 0 else s

/-- The command Fold uses a reserved context for (R168): a session proof, an image verification, a report. -/
def State.foldUser (s : State) (n : Nat) : Option Entry :=
  let op := match n with
    | 0 => 0x0002
    | 1 => 0x7003
    | _ => 0x7010
  s.ez.queue.find? fun e => (s.startable e.eid op).isSome

/-- A fault of a context that Fold uses ends the command that uses it (R181, R183). -/
def State.foldFault (s : State) (n cause st : Nat) : State :=
  match s.foldUser n with
  | none => s
  | some e => ((s.faultCtx n cause).zeroCtx n .free |>.markBegun e.eid).fail e st 0x1401

/-- FEED_FAULT (R175, R176); of a context that Fold uses, an uncorrectable read fails its command (R183). -/
def execFeedFault (ctx : Fin 32) (list data : Fetch) (s : State) : Host.Outcome State Fault Refusal :=
  .next <|
    let c := s.ctx ctx
    if ctx.val < 3 then (if data = .uncorrectable then s.foldFault ctx 4 St.uncorrectable else s)
    else
      match c.st == .run, c.feedCause list data with
      | true, some k => s.faultCtx ctx k
      | _, _ => s

/-- THS_COMPARE (R180, R181): `agree` is whether the two comparators agree. Through the management side a disagreement
is that of Fold's compare on context 0. -/
def execThsCompare (ctx : Fin 32) (val : W32) (agree mgmt : Bool) (s : State) : Host.Outcome State Fault Refusal :=
  .next <|
    if mgmt then (if ctx.val = 0 && !agree then s.foldFault 0 7 St.internal else s)
    else s.ctxAct ctx val 4 fun s =>
      let c := s.ctx ctx
      let n := fieldOf val.toNat 14 8
      let want := (List.range 16).flatMap fun j => leBytes 4 (s.reg (Reg.thsCnExpectK ctx j)).toNat
      let same := (padTo c.digest 64).take n == want.take n
      if c.st != .open_ || n == 0 || decide (c.alg.outLen < n) then none
      else if !agree then some ((s.setCtx ctx { c with eq := true, ne := true }).faultCtx ctx 7)
      else
        let s := s.setCtx ctx { c with eq := same, ne := !same }
        some (if same then s else s.bump Reg.thsCntEvents 31 16 1)

end Sys2Proof.Machine
end

