-- ==== Sys2Proof/Machine/Lanes.lean ====
section
/-! DEFINITION. The expert descriptors of Sward's lanes (R121) and of Gorse's instances (R135 to R142). -/

namespace Sys2Proof.Machine

open Sys2Proof

/-! ## Sward lanes (R121) -/

/-- Operation codes of a lane. -/
abbrev swdOps : List Nat := [1, 2, 3]

/-- The descriptor's own checks (log entry 24): operation, reserved bytes, chunk mode, tenant space. -/
def State.swdJudge (s : State) (d : Bytes) : Option (Nat × Nat) :=
  if !swdOps.contains (leAt d 0 1) || !zeroAt d 52 12 || (leAt d 0 1 == 1 && decide (3 < leAt d 1 1)) then
    some (St.invalidParam, 0x1107)
  else if (s.tenant (leAt d 2 2)).isNone then some (St.invalidParam, 0x1101)
  else none

/-- Records written and source bytes consumed of a lane's completion. -/
def swdLen (recs used : Nat) : Nat := recs + 2 ^ 32 * used

/-- A source as a lane reads it: an uncorrectable read halts the queue (R411); the manual gives it no detail value, and a
failed read no status at all (log entry 22). -/
def State.swdSrc (s : State) (k : Nat) (f : Fetch) (n : Nat) : Except XRes Bytes :=
  match f with
  | .ok b => .ok (padTo b n)
  | .uncorrectable => .error ⟨St.uncorrectable, s.unstated 22 [k, 3] % 65536, 0, 0, true⟩
  | .failed => .error (s.xrSilent k)

/-- The 48-byte record of a chunk. -/
def chunkRec (off : Nat) (blks : List Bytes) (fp : Bytes) : Bytes :=
  leBytes 8 off ++ [byteOf blks.length, 0] ++ leBytes 2 (lastLen blks) ++ zeros 4 ++ fp

/-- The records of chunks, their check fields and the bytes consumed, while the output has room. -/
def chunkOut (salt : Bytes) (dlen gen owner : Nat) : Nat → Nat → List (List Bytes) → Bytes × Bytes × Nat × Bool
  | off, _, [] => ([], [], off, true)
  | off, tag, c :: cs =>
    if dlen < 48 then ([], [], off, false)
    else
      let r := chunkOut salt (dlen - 48) gen owner (off + c.flatten.length) (tag + c.length) cs
      (chunkRec off c (fingerprint salt c.flatten) ++ r.1, checkFields c tag gen owner ++ r.2.1, r.2.2.1, r.2.2.2)

/-- SWD_CHUNK: a record for each chunk, and its check fields (R88 to R92). -/
def execSwdChunk (lane : Fin 16) (desc src : Fetch) (cqOk : Bool) (s : State) : Host.Outcome State Fault Refusal :=
  .next <|
    let k := instKey 1 lane
    s.xqOp k desc cqOk 1 swdOps fun s d =>
      match s.swdJudge d with
      | some (st, dt) => (s, XRes.fail st dt)
      | none =>
        match s.swdSrc k src (leAt d 16 8) with
        | .error r => (s, r)
        | .ok b =>
          let t := leAt d 2 2
          let (recs, cfs, used, all) := chunkOut (s.salt t) (leAt d 32 4) (leAt d 42 2) t 0 (leAt d 36 6) (chunksOf (leAt d 1 1) b)
          let s := (s.xqWrite k (leAt d 24 8) recs).xqWrite k (leAt d 44 8) cfs
          (s, ⟨if all then St.ok else St.noSpace, if all then 0 else 0x1102, swdLen (recs.length / 48) used, 0, false⟩)

/-- The domain of a tenant's index: that of the group of its policy, the lowest handle that names it (log entry 24). -/
def State.tenantDom (s : State) (t : Nat) : Option Nat :=
  (s.data.policies.find? fun p => p.2.tenant == t).map fun p => s.rootDom p.2.root

/-- SWD_LOOKUP: a copy of the entry of each fingerprint, or zeros (R98). -/
def execSwdLookup (lane : Fin 16) (desc src : Fetch) (cqOk : Bool) (s : State) : Host.Outcome State Fault Refusal :=
  .next <|
    let k := instKey 1 lane
    s.xqOp k desc cqOk 2 swdOps fun s d =>
      match s.swdJudge d, s.tenantDom (leAt d 2 2) with
      | some (st, dt), _ => (s, XRes.fail st dt)
      | none, none => (s, XRes.fail St.invalidParam 0x1102)
      | none, some dom =>
        if !s.owns dom then (s, XRes.fail St.busy 0x1101)
        else
          match s.swdSrc k src (leAt d 16 8) with
          | .error r => (s, r)
          | .ok b =>
            let fps := (pieces 32 b).filter fun f => f.length == 32
            let n := min fps.length (leAt d 32 4 / 48)
            let out := (fps.take n).flatMap fun f => ((s.lookup dom f false).map s.idxBytes).getD (zeros 48)
            (s.xqWrite k (leAt d 24 8) out,
              ⟨if n < fps.length then St.noSpace else St.ok, if n < fps.length then 0x1102 else 0, swdLen n (32 * n), 0, false⟩)

/-- Blocks that pass their check fields before the first that fails, and how that one fails. -/
def verifyBlocks (cfs : Bytes) (tag gen owner : Nat) : Nat → List Bytes → Nat × Option Nat
  | i, [] => (i, none)
  | i, b :: bs =>
    match checkFieldErr b (slice cfs (16 * i) 16) (tag + i) gen owner with
    | some dt => (i, some dt)
    | none => verifyBlocks cfs tag gen owner (i + 1) bs

/-- SWD_VERIFY: blocks against their check fields, in the order of R118. -/
def execSwdVerify (lane : Fin 16) (desc src fields : Fetch) (cqOk : Bool) (s : State) :
    Host.Outcome State Fault Refusal :=
  .next <|
    let k := instKey 1 lane
    s.xqOp k desc cqOk 3 swdOps fun s d =>
      match s.swdJudge d with
      | some (st, dt) => (s, XRes.fail st dt)
      | none =>
        let n := leAt d 16 8
        match s.swdSrc k src n, s.swdSrc k fields (16 * ceilDiv n 4096) with
        | .error r, _ => (s, r)
        | _, .error r => (s, r)
        | .ok b, .ok cf =>
          let (i, bad) := verifyBlocks cf (leAt d 36 6) (leAt d 42 2) (leAt d 2 2) 0 (blocksOf b)
          match bad with
          | none => (s, ⟨St.ok, 0, swdLen 0 n, 0, false⟩)
          | some dt => (s, ⟨St.checkMismatch, dt, swdLen 0 (min n (4096 * i)), 0, false⟩)

/-! ## Gorse instances (R135 to R142) -/

/-- The descriptor's own checks (R140, R141). -/
def grsJudge (d : Bytes) (op : Nat) : Option (Nat × Nat) :=
  let fl := leAt d 1 1
  let hist := bitAt fl 0 || bitAt fl 1
  if leAt d 0 1 != op || 7 < fl || (op == 2 && bitAt fl 2) || !zeroAt d 2 2 || !zeroAt d 48 16
      || (hist && leAt d 40 8 % 64 != 0) then some (St.invalidParam, 0x1201)
  else if 2 ^ 36 < leAt d 16 8 then some (St.lengthLimit, 0x1201)
  else none

/-- A source or image as a job reads it (R140): an uncorrectable read halts the queue and raises an event. -/
def State.grsSrc (s : State) (k : Nat) (f : Fetch) : Except XRes Bytes :=
  match f with
  | .ok b => .ok b
  | .uncorrectable => .error { XRes.fail St.uncorrectable 0x1201 with halt := true }
  | .failed => .error (s.xrSilent k)

/-- A restored history: the history, and the bytes and CRC of the chain so far (R136, R137). -/
structure Hist where
  bytes : Bytes
  chain : Nat
  crc : Nat

/-- Read and check the state image of a job with HIST_IN (R136): an image that fails is `none` of its history. -/
def State.grsHist (s : State) (k : Nat) (d : Bytes) (hist : Fetch) : Except XRes (Option Hist) :=
  if !bitAt (leAt d 1 1) 0 then .ok none
  else
    match s.grsSrc k hist with
    | .error r => .error r
    | .ok img =>
      match gorseImageHist (padTo img 65600) with
      | none => .error (XRes.fail St.checkMismatch GorseErr.image.detail)
      | some h => .ok (some ⟨h, leAt img 8 8, leAt img 16 4⟩)

/-- Combine a chain's CRC with the CRC of what follows: the bits of CRC-32C of the concatenation, computed by carrying
the first CRC over the following bytes. -/
def crcChain (crc : Nat) (bs : Bytes) : Nat :=
  ((bs.foldl crc32cByte (BitVec.ofNat 32 crc ^^^ 0xFFFFFFFF#32)) ^^^ 0xFFFFFFFF#32).toNat

/-- Write the state image of a job with HIST_OUT that completed OK (R135, R136). -/
def State.grsImageOut (s : State) (k : Nat) (d : Bytes) (h : Option Hist) (orig : Bytes) : State :=
  if !bitAt (leAt d 1 1) 1 then s
  else
    let old := (h.map (·.bytes)).getD []
    let all := old ++ orig
    let img := gorseImage (all.drop (all.length - 65536)) ((h.map (·.chain)).getD 0 + orig.length)
      (crcChain ((h.map (·.crc)).getD 0) orig)
    s.xqWrite k (leAt d 40 8) img

/-- Count a failed check of Gorse. -/
def State.grsMismatch (s : State) (dt : Nat) : State × XRes :=
  (s.bump Reg.grsCntEvents 31 16 1, XRes.fail St.checkMismatch dt)

/-- GRS_COMPRESS (R131, R132, R136, R139). -/
def execGrsCompress (inst : Fin 16) (desc src hist : Fetch) (cqOk : Bool) (s : State) :
    Host.Outcome State Fault Refusal :=
  .next <|
    let k := instKey 2 inst
    s.xqRun k desc cqOk fun s d =>
      match grsJudge d 1 with
      | some (st, dt) => (s, XRes.fail st dt)
      | none =>
        match s.grsHist k d hist, s.grsSrc k src with
        | .error r, _ => if r.st == St.checkMismatch then s.grsMismatch r.dt else (s, r)
        | _, .error r => (s, r)
        | .ok h, .ok b =>
          let orig := padTo b (leAt d 16 8)
          let (frame, st) := gorseCompress (bitAt (leAt d 1 1) 2) (h.map (·.bytes)) orig
          if leAt d 32 8 < frame.length then (s, XRes.fail St.noSpace 0x1201)
          else
            let s := (s.countFrame orig.length frame.length st).xqWrite k (leAt d 24 8) frame
            (s.grsImageOut k d h orig, ⟨St.ok, 0, frame.length, crc32c orig, false⟩)

/-- GRS_DECOMPRESS (R134, R136, R137, R139): a frame with CONT clear ignores a restored history. -/
def execGrsDecompress (inst : Fin 16) (desc src hist : Fetch) (cqOk : Bool) (s : State) :
    Host.Outcome State Fault Refusal :=
  .next <|
    let k := instKey 3 inst
    s.xqRun k desc cqOk fun s d =>
      match grsJudge d 2 with
      | some (st, dt) => (s, XRes.fail st dt)
      | none =>
        match s.grsHist k d hist, s.grsSrc k src with
        | .error r, _ => if r.st == St.checkMismatch then s.grsMismatch r.dt else (s, r)
        | _, .error r => (s, r)
        | .ok h, .ok b =>
          let frame := padTo b (leAt d 16 8)
          match gorseHeaderCheck (h.map (·.bytes)) frame with
          | some e => s.grsMismatch e.detail
          | none =>
            if leAt d 32 8 < gorseOrigLen frame then (s, XRes.fail St.noSpace 0x1202)
            else
              match gorseDecompress (h.map (·.bytes)) frame with
              | .error e => s.grsMismatch e.detail
              | .ok orig =>
                let s := s.xqWrite k (leAt d 24 8) orig
                (s.grsImageOut k d h orig, ⟨St.ok, 0, orig.length, crc32c orig, false⟩)

end Sys2Proof.Machine
end

