-- ==== Sys2Proof/Machine/Groups.lean ====
section
/-! DEFINITION. Group commands: creation, destruction, query, spares and moves between domains (R211 to R216). -/

namespace Sys2Proof.Machine

open Sys2Proof

/-! ## Checks (R31, R186, R211) -/

/-- A tree that moves (R215). -/
def State.moving (s : State) (root : Nat) : Bool := s.data.moves.any fun m => m.root == root

/-- A rebuild pass or a reshape runs in a tree. -/
def State.treeBusy (s : State) (root : Nat) : Bool :=
  ((s.treeLeaves root).any fun e => e.2.st == .rebuilding) || (s.treeGroups root).any fun i =>
    (s.group? i).any fun g => g.reshape.st != 0

/-- Why a group command on a tree of a domain is refused: the domain not owned, its instance not in Basic, the tree
moving (log entry 25 for the order). -/
def State.groupGate (s : State) (dom : Nat) (root : Option Nat) : Option (Nat × Nat) :=
  if !s.owns dom then some (St.busy, 0x1501)
  else if !s.basicFree (instKey 6 dom) then some (St.roleConflict, 0x0401)
  else if root.any s.moving then some (St.busy, 0x1502)
  else none

/-- Run a group command on the group its handle names. -/
def State.onGroup (s : State) (e : Entry) (f : State → Nat → Group → State) : State :=
  match s.groupOf e.h with
  | none => s.fail e St.invalidParam 0x1504
  | some (i, g) =>
    match s.groupGate g.dom (some (s.rootOf i)) with
    | some (st, dt) => s.fail e st dt
    | none => f s i g

/-- A member entry of 32 bytes. -/
structure Member where
  kind : Nat
  nsid : Nat
  fdom : Nat
  start : Nat
  count : Nat
deriving DecidableEq, Repr

/-- Read a member entry. -/
def memberOf (b : Bytes) : Member := ⟨leAt b 0 1, leAt b 2 2, leAt b 4 2, leAt b 8 8, leAt b 16 8⟩

/-- A slice overlaps one of tree memory. -/
def State.overlaps (s : State) (m : Member) : Bool :=
  s.data.nodes.any fun e => match e.2 with
    | .leaf l => l.nsid == m.nsid && decide (m.start < l.start + l.count) && decide (l.start < m.start + m.count)
    | _ => false

/-- Slices of one list that overlap each other. -/
def slicesClash : List Member → Bool
  | [] => false
  | m :: ms =>
    (ms.any fun x => x.nsid == m.nsid && decide (m.start < x.start + x.count) && decide (x.start < m.start + m.count))
      || slicesClash ms

/-- The slice checks of R211: `lab` is whether the slice carries a valid label of another tree. -/
def State.sliceBad (s : State) (m : Member) (labelBlks b : Nat) (lab : Bool) : Bool :=
  !((s.nsOf m.nsid).any fun n => n.usable && n.qualified) || m.start % 256 != 0 || m.count % 256 != 0
    || decide (m.count < labelBlks + b) || s.overlaps m || lab

/-- The namespaces a member reaches. -/
def State.memberNs (s : State) (m : Member) : List Nat :=
  if m.kind = 0 then [m.nsid]
  else
    match s.groupOf m.start with
    | some (i, _) => (s.treeLeaves i).map fun e => e.2.nsid
    | none => []

/-- A member group breaks R193, is not free, or lies in another domain. -/
def State.groupBad (s : State) (m : Member) (b dom : Nat) : Bool :=
  match s.groupOf m.start with
  | some (_, g) => !g.free || g.dom != dom || b % g.oldGeo.d != 0
  | none => false

/-- Whether a list repeats an element. -/
def repeats : List Nat → Bool
  | [] => false
  | x :: xs => xs.contains x || repeats xs

/-- Nodes of tree memory in use. -/
def State.nodesFree (s : State) : Nat := 1048576 - s.data.nodes.length

/-- The lowest free node indices. -/
def freeNodes (used : List Nat) : Nat → Nat → Nat → List Nat
  | 0, _, _ => []
  | _, _, 0 => []
  | fuel + 1, i, n + 1 =>
    if used.contains i then freeNodes used fuel (i + 1) (n + 1) else i :: freeNodes used fuel (i + 1) n

/-- `n` free nodes, lowest first. -/
def State.takeNodes (s : State) (n : Nat) : List Nat :=
  freeNodes (s.data.nodes.map (·.1)) (s.data.nodes.length + n) 0 n

/-! ## GROUP_CREATE (R193, R194, R209 to R211) -/

/-- What GROUP_CREATE is given. -/
structure Create where
  parity : Bool
  m : Nat
  k : Nat
  suLog2 : Nat
  dom : Nat
  labelMib : Nat
  free : Bool
  members : List Member
deriving DecidableEq, Repr

/-- Header values out of range (R188, R211). -/
def createRange (e : Entry) : Bool :=
  let lay := e.p 0 1
  let m := e.p 1 1
  let k := e.p 2 1
  decide (1 < lay) || (if lay = 1 then m < 2 || 32 < m || k < 1 || 4 < k else m != 1 || k < 1 || 3 < k)
    || e.p 5 1 != m + k || decide (e.p 3 1 < 14) || decide (18 < e.p 3 1) || decide (7 < e.p 4 1)

/-- The member entries of a block, from byte 64 on. -/
def Entry.members (e : Entry) (n : Nat) : List Member := (List.range n).map fun i => memberOf (slice e.area (64 + 32 * i) 32)

/-- The label size of a tree: that of its first member group, else the command's (R211). -/
def State.createLabel (s : State) (e : Entry) (ms : List Member) : Nat :=
  match (ms.find? fun m => m.kind == 1).bind fun m => s.groupOf m.start with
  | some (_, g) => g.labelMib
  | none => e.p 6 2

/-- Judge members for a group of unit `b` in a domain: the cases of R211 in the order of its table. `labs` says of each
slice whether it carries another tree's label. -/
def State.judgeMembers (s : State) (ms : List Member) (labs : List Bool) (labelBlks b dom : Nat) : Option (Nat × Nat) :=
  let slices := (ms.zipIdx).filter fun x => x.1.kind == 0
  let groups := ms.filter fun m => m.kind == 1
  if ms.any fun m => decide (1 < m.kind) then some (St.invalidParam, 0x1508)
  else if (slices.any fun x => s.sliceBad x.1 labelBlks b (labs.getD x.2 false)) || slicesClash (slices.map (·.1)) then
    some (St.invalidParam, 0x1502)
  else if groups.any fun m => s.groupBad m b dom then some (St.invalidParam, 0x1503)
  else if groups.any fun m => (s.groupOf m.start).isNone then some (St.invalidParam, 0x1504)
  else if repeats (ms.flatMap fun m => (s.memberNs m).eraseDups) || repeats (groups.map (·.start)) then
    some (St.invalidParam, 0x1507)
  else none

/-- Nodes of the trees of member groups. -/
def State.memberNodes (s : State) (ms : List Member) : Nat :=
  (ms.filter fun m => m.kind == 1).foldl (fun n m => n + (s.treeNodes (m.start % 2 ^ 32)).length) 0

/-- Judge GROUP_CREATE. -/
def State.judgeCreate (s : State) (e : Entry) (labs : List Bool) : Except (Nat × Nat) Create :=
  if createRange e then .error (St.invalidParam, 0x1501)
  else if e.area.length < 64 + 32 * e.p 5 1 then .error (St.invalidParam, 0x0103)
  else
    let ms := e.members (e.p 5 1)
    let lab := s.createLabel e ms
    let b := 2 ^ (e.p 3 1 - 12)
    let fresh := 1 + ceilDiv (e.p 5 1) 12 + (ms.filter fun m => m.kind == 0).length
    if lab < 1 || 256 < lab then .error (St.invalidParam, 0x1501)
    else
      match s.groupGate (e.p 4 1) none with
      | some x => .error x
      | none =>
        match s.judgeMembers ms labs (256 * lab) b (e.p 4 1) with
        | some x => .error x
        | none =>
          if s.nodesFree < fresh then .error (St.noSpace, 0x1501)
          else if !imageFits lab (fresh + s.memberNodes ms) then .error (St.noSpace, 0x1502)
          else .ok ⟨e.p 0 1 == 1, e.p 1 1, e.p 2 1, e.p 3 1, e.p 4 1, lab, bitAt (e.p 8 1) 0, ms⟩

/-- Put a member group below a parent: its slot, depths and label size, and no longer free. -/
def State.adopt (s : State) (i parent slot depth labelMib : Nat) : State :=
  let gs := s.treeGroups i
  let s := gs.foldl
    (fun s j => match s.group? j with
      | some g => s.setNode j (.group { g with depth := g.depth + depth })
      | none => s) s
  match s.group? i with
  | some g => (s.setNode i (.group { g with parent := some parent, slot := slot, free := false, labelMib := labelMib })).onData
      fun d => { d with trees := KMap.del d.trees i }
  | none => s

/-- Take members into a group from a position on: slices get the given nodes. Answers the member nodes in order. -/
def State.takeMembers (s : State) (gi depth labelMib : Nat) : List Member → List Nat → Nat → State × List Nat
  | [], _, _ => (s, [])
  | m :: ms, ns, slot =>
    if m.kind = 0 then
      match ns with
      | [] => (s, [])
      | n :: ns =>
        let l : Leaf := ⟨.online, m.nsid, gi, slot, m.fdom, 0, m.start, m.count, 0, false, false⟩
        let r := State.takeMembers (s.setNode n (.leaf l)) gi depth labelMib ms ns (slot + 1)
        (r.1, n :: r.2)
    else
      let i := m.start % 2 ^ 32
      let r := State.takeMembers (s.adopt i gi slot (depth + 1) labelMib) gi depth labelMib ms ns (slot + 1)
      (r.1, i :: r.2)

/-- Create the nodes of a group (R188): group, member lists, slices, on the lowest free nodes. -/
def State.buildGroup (s : State) (c : Create) : State × Nat :=
  let n := c.members.length
  let lists := ceilDiv n 12
  let ns := s.takeNodes (1 + lists + n)
  let gi := ns.headD 0
  let ls := (ns.drop 1).take lists
  let serial := s.data.serial
  let g0 : Group :=
    { parity := c.parity, m := c.m, k := c.k, suLog2 := c.suLog2, dom := c.dom, st := .optimal, free := c.free, parent := none,
      depth := 0, slot := 0xFF, gen := 1, labelMib := c.labelMib, stripes := 0, dataBlocks := 0, serial := serial,
      members := [], lists := ls, spares := [], reshape := Reshape.none }
  let s := (s.setNode gi (.group g0)).onData fun d => { d with serial := serial + 1 }
  let s := ls.foldl (fun s i => s.setNode i (.list gi)) s
  let (s, mem) := s.takeMembers gi 0 c.labelMib c.members (ns.drop (1 + lists)) 0
  let g := { g0 with members := mem }
  let stripes := s.stripesOf (256 * c.labelMib) g.unit mem
  let s := s.setNode gi (.group { g with stripes := stripes, dataBlocks := stripes * g.oldGeo.d })
  ((s.setTree gi Tree.fresh).restate gi, gi)

/-- GROUP_CREATE (R211): the reply follows the label writes. -/
def execGroupCreate (eid : Nat) (lab : List Bool) (s : State) : Host.Outcome State Fault Refusal :=
  .next <| s.cmd eid 0x1001 fun s e =>
    match s.judgeCreate e lab with
    | .error (st, dt) => s.fail e st dt
    | .ok c =>
      let (s, gi) := s.buildGroup c
      match s.group? gi with
      | none => s
      | some g =>
        (s.note c.dom .tree ((s.treeNodes gi).map s.nodeItem)).writeLabels gi eid .create
          (leBytes 8 (handleOf gi g) ++ leBytes 8 g.dataBlocks)

/-! ## GROUP_DESTROY, GROUP_QUERY, MEMBER_ATTACH -/

/-- GROUP_DESTROY (R212). -/
def execGroupDestroy (eid : Nat) (s : State) : Host.Outcome State Fault Refusal :=
  .next <| s.cmd eid 0x1002 fun s e => s.onGroup e fun s i g =>
    if g.parent.isSome || (s.data.policies.any fun p => p.2.root == i) || !(s.tree i).exts.isEmpty then
      s.fail e St.invalidParam 0x1505
    else
      let ns := s.treeNodes i
      let s := (s.clearLabels (s.treeLeaves i) g.dom).dropTree i
      (s.note g.dom .tree (ns.map s.nodeItem)).okReply e []

/-- GROUP_QUERY (R213). -/
def execGroupQuery (eid : Nat) (s : State) : Host.Outcome State Fault Refusal :=
  .next <| s.cmd eid 0x1003 fun s e => s.onGroup e fun s _ g =>
    s.okReply e ([byteOf g.st.code, byteOf (b2n g.parity), byteOf g.m, byteOf g.k, byteOf g.suLog2, byteOf g.dom,
      byteOf (lostMembers s.data.nodes g), 0] ++ leBytes 8 g.dataBlocks)

/-- Issue a Dataset Management with an access attribute over blocks of a leaf's slice (R481). -/
def State.dsm (s : State) (l : Leaf) (attr lba n : Nat) : State :=
  match s.nsOf l.nsid with
  | some ns => s.emit (.nvmeAdmin "Dataset Management" ns.port (attr + 2 ^ 8 * n + 2 ^ 40 * (l.start + lba)))
  | none => s

/-- The largest U among a group's slices (R214). -/
def State.largestU (s : State) (g : Group) (labelBlks : Nat) : Nat :=
  g.members.foldl (fun u i => if (s.leaf? i).isSome then max u (s.memberBlocks labelBlks g.unit i) else u) 0

/-- MEMBER_ATTACH (R214): `lab` is whether the slice carries another tree's label. -/
def execMemberAttach (eid : Nat) (lab : Bool) (s : State) : Host.Outcome State Fault Refusal :=
  .next <| s.cmd eid 0x1004 fun s e => s.onGroup e fun s i g =>
    let m := memberOf e.area
    let root := s.rootOf i
    let lb := s.labelBlocks root
    if m.kind != 0 then s.fail e St.invalidParam 0x1508
    else if s.sliceBad m lb g.unit lab || decide ((m.count - lb) / g.unit * g.unit < s.largestU g lb) then
      s.fail e St.invalidParam 0x1502
    else if s.nodesFree < 1 then s.fail e St.noSpace 0x1501
    else if !imageFits (lb / 256) ((s.treeNodes root).length + 1) then s.fail e St.noSpace 0x1502
    else
      let n := (s.takeNodes 1).headD 0
      let l : Leaf := ⟨.spare, m.nsid, i, 0xFF, m.fdom, 0, m.start, m.count, 0, false, false⟩
      let s := (s.setNode n (.leaf l)).setNode i (.group { g with spares := g.spares ++ [n] })
      ((s.note g.dom .tree [s.nodeItem n, s.nodeItem i]).writeLabels root eid .reply []).dsm l 2 0 lb

/-! ## DOMAIN_MOVE (R215) -/

/-- A consumed command that works on a tree: a PUT on its policies, a GET or DELETE of an object of it, a group command
on it. -/
def State.onTree (s : State) (root : Nat) (x : Entry) : Bool :=
  if [0x0101, 0x0102, 0x0103].contains x.op then (KMap.get? s.data.policies x.h).any fun p => p.root == root
  else if [0x0111, 0x0112, 0x0121].contains x.op then
    (s.objectIn (domsOf x.owned) (x.p 16 2) (x.area.take 16)).any fun o => extRoot o.extent == root
  else if x.op / 256 == 0x10 then (s.groupOf x.h).any fun g => s.rootOf g.1 == root
  else false

/-- Change a move. -/
def State.onMove (s : State) (eid : Nat) (f : DomMove → DomMove) : State :=
  s.onData fun d => { d with moves := d.moves.map fun m => if m.eid == eid then f m else m }

/-- A move at a step. -/
def State.moveAt (s : State) (eid step : Nat) : Option DomMove := s.data.moves.find? fun m => m.eid == eid && m.step == step

/-- DOMAIN_MOVE (R215): the move point. -/
def execDomainMove (eid : Nat) (s : State) : Host.Outcome State Fault Refusal :=
  .next <| s.cmd eid 0x100A fun s e =>
    let dst := e.p 0 1
    match s.groupOf e.h with
    | none => s.fail e St.invalidParam 0x1504
    | some (i, g) =>
      if !g.outermost then s.fail e St.invalidParam 0x150B
      else if 7 < dst then s.fail e St.invalidParam 0x1501
      else
        match (s.groupGate g.dom (some i)).or (s.groupGate dst none) with
        | some (st, dt) => s.fail e st dt
        | none =>
          if g.dom = dst then s.fail e St.invalidParam 0x1501
          else if s.treeBusy i then s.fail e St.busy 0x1502
          else
            let ws := s.admitted fun x => decide (x.eid < eid) && s.onTree i x
            (s.onData fun d => { d with moves := d.moves ++ [⟨eid, i, g.dom, dst, 2, ws⟩] }).pendReply e

/-- DOMAIN_MOVE_DRAINED: what was admitted before the move point has completed. -/
def execDomainMoveDrained (eid : Nat) (s : State) : Host.Outcome State Fault Refusal :=
  .next <|
    match s.moveAt eid 2 with
    | none => s
    | some m => if s.allDone m.waits then s.onMove eid fun m => { m with step := 3 } else s

/-- Nothing of a tree's stripes is open or outstanding. -/
def State.treeQuiet (s : State) (root : Nat) : Bool :=
  let t := s.tree root
  let closed := fun (r : OpenRun) => r.sealed_ || r.spill.isEmpty
  (t.recRun.all closed) && (t.rcpRun.all closed) && (s.data.stripesW.all fun w => w.root != root)
    && s.data.smalls.all fun w => w.root != root

/-- DOMAIN_MOVE_SEALED: every stripe of the tree is sealed and written. -/
def execDomainMoveSealed (eid : Nat) (s : State) : Host.Outcome State Fault Refusal :=
  .next <|
    match s.moveAt eid 3 with
    | none => s
    | some m => if s.treeQuiet m.root then s.onMove eid fun m => { m with step := 4 } else s

/-- Move one entry of the index to the target region, with a record in both domains. -/
def State.moveEntry (s : State) (m : DomMove) (x : (Nat × Nat) × IdxEntry) : State :=
  match s.insertIdx m.dst x.2 with
  | none => s
  | some t =>
    let it := (3, x.2.bytes 0 0 0)
    ((t.setSlot m.src x.1 none).note m.src .indexMove [it]).note m.dst .indexMove [it]

/-- DOMAIN_MOVE_SCAN_DONE: the entries of the tree, and the objects they name, are in the target domain; DOMAIN is
rewritten in every group of the tree and its labels are written. -/
def execDomainMoveScanDone (eid : Nat) (s : State) : Host.Outcome State Fault Refusal :=
  .next <|
    match s.moveAt eid 4 with
    | none => s
    | some m =>
      let s := ((s.idxAll m.src).filter fun x => extRoot x.2.extent == m.root).foldl (fun s x => s.moveEntry m x) s
      let s := s.onData fun d =>
        { d with objects := d.objects.map fun o => if o.dom == m.src && extRoot o.extent == m.root then { o with dom := m.dst } else o }
      let gs := s.treeGroups m.root
      let s := gs.foldl
        (fun s i => match s.group? i with
          | some g => s.setNode i (.group { g with dom := m.dst })
          | none => s) s
      let items := gs.map s.nodeItem
      let s := ((s.note m.src .tree items).note m.dst .tree items).onMove eid fun m => { m with step := 5 }
      s.writeLabels m.root eid .move []

/-- A full metadata image of the source domain stands in a group that stays there (R482). -/
def State.imageMoved (s : State) (m : DomMove) : Bool :=
  (s.roots.all fun e => e.2.dom != m.src || e.1 == m.root)
    || (KMap.get? s.fld.images m.src).all fun x => x.root != m.root && x.whole

/-- DOMAIN_MOVE_LABELS_DONE: the final reply. -/
def execDomainMoveLabelsDone (eid : Nat) (s : State) : Host.Outcome State Fault Refusal :=
  .next <|
    match s.moveAt eid 5 with
    | none => s
    | some m =>
      if s.labelling m.root || !s.imageMoved m then s
      else (s.onData fun d => { d with moves := d.moves.filter fun x => x.eid != eid }).finalOf eid St.ok 0 []

end Sys2Proof.Machine
end

