-- ==== Sys2Proof/Machine/Copies.lean ====
section
/-! DEFINITION. The journal's records as they complete and are released, and the placement of its copies (R219 to R225,
R233, R235). -/

namespace Sys2Proof.Machine

open Sys2Proof

/-! ## The lost list on flash (R235) -/

/-- A lost-list entry; a free one is zero. -/
def LostEntry.bytes (e : LostEntry) : Bytes :=
  let b := leBytes 8 e.group ++ leBytes 8 e.stripe ++ leBytes 8 e.rows ++ leBytes 4 e.units ++ [byteOf e.cause, byteOf e.depth]
  b ++ leBytes 2 (crc16 b)

/-- The bytes of a lost list. -/
def lostBytes (es : List (Option LostEntry)) : Bytes := es.flatMap fun o => (o.map LostEntry.bytes).getD (zeros 32)

/-- First block of the lost area of a tree's slices, and its blocks. -/
def State.lostArea (s : State) (root : Nat) : Nat × Nat :=
  let lo := 2 + 2 * imageBlocks (s.treeNodes root).length
  let lb := s.labelBlocks root
  (lo, (slotOff lb).getD lb - lo)

/-- Write a tree's lost list to every available slice. -/
def State.writeLost (s : State) (root : Nat) : State :=
  let dom := s.rootDom root
  let b := lostBytes (s.tree root).lostList
  let b := padTo b (4096 * max 1 (ceilDiv b.length 4096))
  (s.labelLeaves root).foldl
    (fun s e => (s.driveWrites dom (.upkeep e.1) (s.labelWr e.1 e.2 (s.lostArea root).1 b)).1) s

/-! ## Completion and release (R223, R224) -/

/-- The tree of the nodes or the group that an item names, if it still stands. -/
def State.itemRoot (s : State) (x : Nat × Bytes) : Option Nat :=
  let i := leAt x.2 0 4
  if (x.1 = 6 || x.1 = 8 || x.1 = 9) && (s.node i).isSome then some (s.rootOf i) else none

/-- JOURNAL_RECORD_COMPLETE (R223): every copy has acknowledged the record. A LOST record's entries are then written
(R235); a DELETE takes effect in its turn. -/
def execJournalRecordComplete (dom : Fin 8) (jseq : Nat) (s : State) : Host.Outcome State Fault Refusal :=
  .next <|
    match (s.journal dom).recs.find? fun r => r.jseq == jseq with
    | none => s
    | some r =>
      if !s.recAcked r then s
      else
        let s := (s.onRec dom jseq fun r => { r with st := .complete }).issueWaiting dom
        let s := if r.ty == .lost then (r.items.filterMap s.itemRoot).eraseDups.foldl State.writeLost s else s
        State.applyDeletes dom ((s.journal dom).recs.length + 1) s

/-- Every effect of a record is on flash outside the journal (R224): its data in written stripes, its nodes and
progress in labels, its index, object and extent changes in the domain's metadata image. -/
def State.recOnFlash (s : State) (d : Nat) (r : JRec) : Bool :=
  let j := s.journal d
  r.st == .complete && r.need.isEmpty && r.del.isNone
    && (s.data.smalls.all fun w => !(w.dom == d && w.jseq == r.jseq))
    && (s.data.puts.all fun p => !(p.dom == d && p.jseq == r.jseq))
    && ((r.items.all fun x => ! [1, 2, 3, 7].contains x.1) || decide (r.jseq ≤ j.imgSeq))
    && r.items.all fun x => (x.1 != 6 && x.1 != 9) || ((s.itemRoot x).all fun root => decide (r.jseq ≤ (s.tree root).labelSeq))

/-- JOURNAL_RELEASE (R224): the oldest record is released and the tail advances over it. -/
def execJournalRelease (dom : Fin 8) (jseq : Nat) (s : State) : Host.Outcome State Fault Refusal :=
  .next <|
    match (s.journal dom).recs with
    | r :: _ =>
      if r.jseq == jseq && s.recOnFlash dom r then
        let s := ((s.dropRec dom jseq).writeHeader dom).issueWaiting dom
        s.setJournal dom { s.journal dom with sealing := (s.journal dom).sealing && s.journalFull dom }
      else s
    | [] => s

/-- End the command that needs a record with a status: it commits nothing (R224, R225). -/
def State.failRec (s : State) (d : Nat) (r : JRec) (st dt : Nat) : State :=
  if r.eid = 0 then s
  else if (s.put r.eid).isSome then (s.endPut r.eid st dt).dropRec d r.jseq
  else (s.dropRec d r.jseq).finalOf r.eid st dt []

/-- Boundaries of TSK_jwait_ms. -/
def State.jwait (s : State) : Nat := msTicks (s.par Par.jwaitMs)

/-- JOURNAL_SPACE_TIMEOUT (R224): a record has waited for ring space for TSK_jwait_ms. -/
def execJournalSpaceTimeout (dom : Fin 8) (jseq : Nat) (s : State) : Host.Outcome State Fault Refusal :=
  .next <|
    match (s.journal dom).recs.find? fun r => r.jseq == jseq && r.st == .waiting with
    | none => s
    | some r =>
      if s.issuesNow (s.journal dom) r && decide (r.since + s.jwait ≤ s.clk) then s.failRec dom r St.noSpace 0x1505 else s

/-! ## Copies (R220, R221, R225) -/

/-- The event and the Skylark record of a copy of a domain. -/
def State.copyEvent (s : State) (d : Nat) (b : Bool) (leaf : Nat) : State :=
  (s.event (if b then Reg.tskDnJcopyB d else Reg.tskDnJcopyA d)).sklHw 0x10 d 0 leaf

/-- JOURNAL_COPY_LOST (R225, step 1): the slice of a copy has left ONLINE; a failed write to it does that too. -/
def execJournalCopyLost (dom : Fin 8) (b : Bool) (s : State) : Host.Outcome State Fault Refusal :=
  .next <|
    let j := s.journal dom
    let c := if b then j.b else j.a
    let online := fun (c : JCopy) => c.leaf.any fun i => (s.leaf? i).any fun l => l.st == .online
    if c.valid && !online c then
      let f := fun (c : JCopy) => { c with valid := false, lostAt := s.clk }
      (s.onCopy dom (b2n b) f).copyEvent dom b (c.leaf.getD 0)
    else if b && j.newB.leaf.isSome && !online j.newB then s.onCopy dom 2 fun _ => JCopy.none
    else s

/-- The failure domain of a leaf. -/
def State.fdomOf (s : State) (i : Nat) : Nat := ((s.leaf? i).map (·.fdom)).getD 0

/-- Place a copy on a leaf (R225, steps 2 and 3): a PLACE record, then the live ring blocks and a header. -/
def State.placeCopy (s : State) (d which leaf : Nat) : State :=
  let s := s.onCopy d which fun c => { c with leaf := some leaf, valid := false, placing := false, acks := [] }
  let s := s.note d .place [(10, [byteOf (b2n (which != 0)), 0, 0, 0] ++ leBytes 4 leaf)]
  let s := s.onCopy d which fun c => { c with placing := true }
  let j := s.journal d
  let s := (j.recs.filter fun r => r.st != .waiting).foldl (fun s r => s.copyFill d which r.pos (recBytes d j.epoch r)) s
  let (s, cs) := s.driveWrites d (.copy d (which != 0)) (s.hdrWr leaf j.hdr (j.header d))
  let s := s.onCopy d which fun c => { c with acks := c.acks ++ cs }
  match s.leaf? leaf, s.slotOf leaf with
  | some l, some off => s.dsm l 4 off 16384
  | _, _ => s

/-- Set or clear SAMEFD as the failure domains of the copies have it; when it sets an event is raised and a record made
(R221). -/
def State.checkFd (s : State) (d : Nat) : State :=
  let j := s.journal d
  match j.a.leaf, j.b.leaf with
  | some a, some b =>
    let same := s.fdomOf a == s.fdomOf b
    let s := s.setJournal d { j with samefd := same }
    if same && !j.samefd then s.copyEvent d true b else s
  | _, _ => s

/-- A copy that is to be placed: not valid, and not on its way to a slice that is ONLINE. -/
def State.copyMissing (s : State) (c : JCopy) : Bool :=
  !c.valid && !(c.placing && c.leaf.any fun i => (s.leaf? i).any fun l => l.st == .online)

/-- JOURNAL_COPY_PLACE (R220, R221, R225): at a tick boundary missing copies are placed, one beside the survivor or
both together. A Tussock instance that takes no new work places none (R30). -/
def execJournalCopyPlace (dom : Fin 8) (s : State) : Host.Outcome State Fault Refusal :=
  .next <|
    let d : Nat := dom
    let j := s.journal d
    let ma := s.copyMissing j.a
    let mb := s.copyMissing j.b
    if !s.mayWrite d || !s.tskFree d || !(ma || mb) then s
    else
      let forget := fun (miss : Bool) (c : JCopy) => if miss then { c with leaf := none, placing := false, acks := [] } else c
      let t := s.setJournal d { j with a := forget ma j.a, b := forget mb j.b }
      let es := t.eligibleLeaves d
      if ma && mb then
        match es with
        | a :: rest =>
          (match otherCopy rest a.2.fdom with
          | some b => ((t.placeCopy d 0 a.1).placeCopy d 1 b.1).checkFd d
          | none => s)
        | [] => s
      else
        let live := (if ma then j.b else j.a).leaf.getD 0
        match otherCopy es (s.fdomOf live) with
        | some x => (t.placeCopy d (if ma then 0 else 1) x.1).checkFd d
        | none => s

/-- JOURNAL_COPY_VALID (R225, step 4): the writes of a placement are acknowledged; the copy takes records, has those
that wait, and issuing resumes. A new copy B takes the place of the old one (R221). -/
def execJournalCopyValid (dom : Fin 8) (b : Bool) (s : State) : Host.Outcome State Fault Refusal :=
  .next <|
    let d : Nat := dom
    let j := s.journal d
    let which := if b then (if j.newB.placing then 2 else 1) else 0
    let c := j.copy which
    if !c.placing || !c.acks.isEmpty then s
    else
      let c := { c with valid := true, placing := false, lostAt := 0 }
      let recs := j.recs.map fun r =>
        if r.st != .issued then r else if b then { r with toB := true, ackB := true } else { r with toA := true, ackA := true }
      let j := { j with recs := recs }
      let j := match which with
        | 0 => { j with a := c }
        | 1 => { j with b := c }
        | _ => { j with b := c, newB := JCopy.none, samefd := false }
      (s.setJournal d j).issueWaiting d

/-- JOURNAL_COPY_TIMEOUT (R221, R225): two copies are still not there after TSK_jwait_ms, counted from the loss of a
copy, or from the moment a record was needed where there was none. -/
def execJournalCopyTimeout (dom : Fin 8) (s : State) : Host.Outcome State Fault Refusal :=
  .next <|
    let d : Nat := dom
    let j := s.journal d
    if s.copyOk j.a && s.copyOk j.b then s
    else
      let t0 := max j.a.lostAt j.b.lostAt
      let late := fun (r : JRec) =>
        let base := if t0 != 0 && decide (r.since ≤ t0 + s.jwait) then t0 else r.since
        r.st != .complete && r.eid != 0 && decide (base + s.jwait ≤ s.clk)
      (j.recs.filter late).foldl (fun s r => s.failRec d r St.mediaError 0x1503) s

/-- SAMEFD_REPLACE (R221): at a tick boundary a slice of another failure domain is there for copy B. -/
def execSamefdReplace (dom : Fin 8) (s : State) : Host.Outcome State Fault Refusal :=
  .next <|
    let d : Nat := dom
    let j := s.journal d
    if !j.samefd || !s.copyOk j.a || !s.copyOk j.b || j.newB.leaf.isSome || !s.mayWrite d || !s.tskFree d then s
    else
      match (s.eligibleLeaves d).find? fun e => e.2.fdom != s.fdomOf (j.a.leaf.getD 0) with
      | some x => s.placeCopy d 2 x.1
      | none => s

end Sys2Proof.Machine
end

