-- ==== Sys2Proof/Machine/Load.lean ====
section
/-! DEFINITION. Loading trees from their labels at bring-up (R188, R209, R210). -/

namespace Sys2Proof.Machine

open Sys2Proof

/-- A group node from its 64 bytes; member order, list nodes and spares come from the nodes around it. -/
def readGroup (b : Bytes) : Group :=
  let f := fun lo n => leAt b lo n
  let idx := fun n => if n = noNode then Option.none else some n
  { parity := bitAt (f 1 1) 0, m := f 2 1, k := f 3 1, suLog2 := f 4 1, dom := f 5 1
    st := match f 6 1 with
      | 0 => .optimal
      | 1 => .degraded
      | 2 => .critical
      | _ => .failed
    free := bitAt (f 1 1) 7, parent := idx (f 8 4), depth := f 16 3, slot := f 19 1, gen := f 20 2, labelMib := f 22 2
    stripes := f 24 8, dataBlocks := f 32 8, serial := f 40 4, members := [], lists := [], spares := []
    reshape := ⟨f 44 1, if f 44 1 = 3 then 1 else 0, f 45 1, f 46 1, f 48 2, f 50 6, f 56 6⟩ }

/-- A leaf node from its 64 bytes. -/
def readLeaf (b : Bytes) : Leaf :=
  let f := fun lo n => leAt b lo n
  let rb := f 1 1 == 3
  { st := match f 1 1 with
      | 0 => .online
      | 1 => .failed
      | 2 => .missing
      | 3 => .rebuilding
      | _ => .spare
    nsid := f 2 2, parent := f 4 4, slot := f 8 1, fdom := f 10 2, errs := f 12 4, start := f 16 8, count := f 24 8
    rbNext := if rb then f 32 6 else 0, hold := rb && bitAt (f 38 1) 0, lost := rb && bitAt (f 38 1) 1 }

/-- List nodes of a group from a node index on: their indices and the members they hold. -/
def readLists : Nat → List Bytes → List Nat × List Nat
  | _, [] => ([], [])
  | i, b :: bs =>
    let r := readLists (leAt b 4 4) bs
    (i :: r.1, (List.range (min 12 (leAt b 1 1))).map (fun k => leAt b (8 + 4 * k) 4) ++ r.2)

/-- The nodes of a tree from its image, from the node with a given index on (R209): what is read, and the rest. -/
def readTree : Nat → Nat → List Bytes → Option (List (Nat × Node) × List Bytes)
  | 0, _, _ => none
  | _ + 1, _, [] => none
  | n + 1, i, b :: rest =>
    if leAt b 0 1 = 2 then some ([(i, .leaf (readLeaf b))], rest)
    else if leAt b 0 1 = 1 then
      let cnt := ceilDiv (leAt b 7 1) 12
      let ls := readLists (leAt b 12 4) (rest.take cnt)
      let g := { readGroup b with lists := ls.1, members := ls.2 }
      ls.2.foldl
        (fun acc m => match acc with
          | none => none
          | some (ns, rest) => (readTree n m rest).map fun r => (ns ++ r.1, r.2))
        (some ((i, .group g) :: ls.1.map (fun k => (k, Node.list i)), rest.drop cnt))
    else none

/-- A label block that is valid, with its image: root, serial, epoch, leaf, nodes (R209, R210). -/
def labelValid (l : Label) : Option (Nat × Nat × Nat × Nat × List Bytes) :=
  let b := l.block
  let n := leAt b 28 4
  let img := l.image.take (64 * n)
  if b.length = 4096 && leAt b 0 1 = 1 && leAt b 4092 4 = crc32c (b.take 4092) && img.length = 64 * n && leAt b 32 4 = crc32c img then
    some (leAt b 8 4, leAt b 12 4, leAt b 16 8, leAt b 24 4, pieces 64 img)
  else none

/-- The nodes of a tree with its spares, which take the lowest free indices (log entry 30). -/
def placeSpares (t : KMap Node) (rest : List Bytes) : KMap Node :=
  rest.foldl
    (fun t b =>
      let l := readLeaf b
      match lowestFree (t.map (·.1)) 0 (t.length + 1) with
      | some i =>
        let t := KMap.put t i (.leaf l)
        KMap.upd t l.parent fun n => match n with
          | .group g => .group { g with spares := g.spares ++ [i] }
          | x => x
      | none => t) t

/-- Slices whose best epoch is older than their tree's are MISSING (R210). -/
def State.dropOld (s : State) (root : Nat) : State :=
  let t := s.tree root
  (t.seen.filter fun e => e.2 < t.epoch).foldl
    (fun s e => match s.leaf? e.1 with
      | some l =>
        if l.st == .online || l.st == .rebuilding then
          (s.setNode e.1 (.leaf { l with st := .missing, rbNext := 0, hold := false, lost := false })).restate l.parent
        else s
      | none => s) s

/-- Load a tree from a label, unless it is loaded at that epoch or a later one (R210). -/
def State.loadLabel (s : State) (l : Label) : State :=
  match labelValid l with
  | none => s
  | some (root, serial, epoch, leaf, img) =>
    let old := (s.group? root).filter fun g => g.serial == serial && g.parent.isNone
    let t := if old.isSome then s.tree root else Tree.fresh
    let seen := KMap.put t.seen leaf (max epoch (KMap.getD t.seen leaf 0))
    if old.isSome && decide (epoch ≤ t.epoch) then (s.setTree root { t with seen := seen }).dropOld root
    else
      match readTree (img.length + 1) root img with
      | none => s
      | some (ns, rest) =>
        let s := if old.isSome then s.dropTree root else s
        let nodes := placeSpares (ns.foldl (fun t n => KMap.put t n.1 n.2) s.data.nodes) rest
        ((s.onData fun d => { d with nodes := nodes, serial := max d.serial (serial + 1) }).setTree root
          { t with epoch := epoch, seen := seen }).dropOld root

/-- The domain a label's tree lies in. -/
def labelDom (l : Label) : Option Nat := (labelValid l).bind fun x => x.2.2.2.2.head?.map fun b => (readGroup b).dom

end Sys2Proof.Machine
end

