-- ==== Sys2Proof/Machine/Expert.lean ====
section
/-! DEFINITION. Unit tags as they are checked, member reads, and the expert descriptors of Tussock (R189, R206, R207,
R217, R218, R234). -/

namespace Sys2Proof.Machine

open Sys2Proof

/-! ## Unit tags of member reads (R206, R207) -/

/-- Bytes 4 to 12 of the unit tag of a leaf's block: offset in the member, generation, unit. -/
def State.tagWant (s : State) (l : Leaf) (off : Nat) : Bytes :=
  match s.group? l.parent with
  | none => []
  | some g =>
    let stripe := off / g.unit
    let q := g.geoOfStripe stripe
    leBytes 6 off ++ leBytes 2 q.gen ++ leBytes 1 (q.unitOn stripe l.slot)

/-- A unit tag as it is found: right, marked lost (UNIT 0xFE), or wrong. -/
inductive TagSays where
  | right
  | lost
  | wrong
deriving DecidableEq, Repr

/-- Check a block against its unit tag: TCRC, GUARD, ADDR, GEN, UNIT. -/
def tagSays (want blk tag : Bytes) : TagSays :=
  if tag.length != 16 || leAt tag 14 2 != crc16 (tag.take 14) || leAt tag 0 4 != crc32c blk
      || slice tag 4 8 != want.take 8 then .wrong
  else if slice tag 12 1 == want.drop 8 then .right
  else if slice tag 12 1 == [0xFE] then .lost
  else .wrong

/-- Whether ADDR of TSK_CNT_TAGERR, and not GUARD, counts a block whose unit tag is wrong: the first check that fails
decides, in R207's order TCRC, GUARD, then ADDR, GEN and UNIT (log entry 94). -/
def tagErrIsAddr (blk tag : Bytes) : Bool :=
  tag.length != 16 || leAt tag 14 2 != crc16 (tag.take 14) || leAt tag 0 4 == crc32c blk

/-- Count a block that fails its unit tag, or that the drive could not read, in ERRS of its slice and in TSK_CNT_TAGERR
(`addr` chooses the half), with a Skylark record (R207, step 3; log entry 94). -/
def State.tagFailed (s : State) (i : Nat) (l : Leaf) (addr : Bool) : State :=
  ((s.setNode i (.leaf { l with errs := satAdd 0xFFFFFFFF l.errs 1 })).bump Reg.tskCntTagerr (if addr then 31 else 15)
    (if addr then 16 else 0) 1).sklHw 0x10 (s.rootDom (s.rootOf i)) 0 i

/-- A block of the data space of a group that the lost list of its tree names (R234, R235). -/
def State.listedLost (s : State) (root gi blk : Nat) : Bool :=
  match s.group? gi with
  | none => false
  | some g =>
    let q := g.geoAt blk
    let r := blk % q.d
    (s.tree root).lostList.any fun o => o.any fun e =>
      e.group == handleOf gi g && e.stripe == blk / q.d && bitAt e.units (r / q.b) && bitAt e.rows (r % q.b)

/-- Write a reconstructed block back in place under its tag: a repair that nothing waits for (R207, step 2). -/
def State.repairBlk (s : State) (i : Nat) (l : Leaf) (off : Nat) (blk : Bytes) : State :=
  match s.group? l.parent with
  | none => s
  | some g =>
    let stripe := off / g.unit
    let q := g.geoOfStripe stripe
    let u := q.unitOn stripe l.slot
    let tag := unitTag blk off q.gen u (b2n (q.parity && decide (q.m ≤ u)))
    let root := s.rootOf i
    let w : LeafWr := ⟨i, l.nsid, l.start + s.labelBlocks root + off, blk, tag⟩
    (s.driveWrites (s.rootDom root) (.upkeep i) [w]).1

/-- A node fails its NCRC (R189): the walk stops, the cause is latched, a Skylark record made and the command ended. The
tree that Fold then reloads from its labels is the one that stands. -/
def State.ncrcFail (s : State) (d eid : Nat) : State :=
  ((s.latch errTsk d 6).sklHw 0x10 d 6 0).finalOf eid St.internal 0x1501 []

/-- MEMBER_READ_COMPLETE (R189, R207, R234): blocks of a leaf from an LBA on, as a member read returned them with their
unit tags; `recon` are the blocks as reconstructed where that can be done, and `eid` the command that reads, if one
does. A block that is lost ends the read STRIPE_LOST with 0x1502, one that cannot be reconstructed with 0x1501. -/
def execMemberReadComplete (nsn lba : Nat) (readOk : Bool) (data tags : Bytes) (recon : Option Bytes) (eid : Nat)
    (nodeOk : Bool) (s : State) : Host.Outcome State Fault Refusal :=
  .next <|
    match s.leafAt nsn lba with
    | none => s
    | some (i, _, off) =>
      let root := s.rootOf i
      if !nodeOk then s.ncrcFail (s.rootDom root) eid
      else
        (List.range (data.length / 4096)).foldl
          (fun s k =>
            match s.leaf? i with
            | none => s
            | some l =>
              let blk := slice data (4096 * k) 4096
              match if readOk then tagSays (s.tagWant l (off + k)) blk (slice tags (16 * k) 16) else .wrong with
              | .right => s
              | .lost => s.finalOf eid St.stripeLost 0x1502 []
              | .wrong =>
                let s := s.tagFailed i l (readOk && tagErrIsAddr blk (slice tags (16 * k) 16))
                match recon with
                | some r => s.repairBlk i l (off + k) (padTo (slice r (4096 * k) 4096) 4096)
                | none => s.finalOf eid St.stripeLost 0x1501 []) s

/-! ## Expert descriptors (R218) -/

/-- A buffer as an instance reads it: padded to the bytes it needs, or how the descriptor ends. -/
def State.tskSrc (s : State) (k : Nat) (f : Fetch) (n : Nat) : Except XRes Bytes :=
  match f with
  | .ok b => .ok (padTo b n)
  | .failed => .error (s.xrSilent k)
  | .uncorrectable => .error { XRes.fail St.uncorrectable 0x1501 with halt := true }

/-- Read several buffers in order up to the first that fails. -/
def State.tskSrcs (s : State) (k n : Nat) : List Fetch → Except XRes (List Bytes)
  | [] => .ok []
  | f :: fs =>
    match s.tskSrc k f n with
    | .error r => .error r
    | .ok b => (s.tskSrcs k n fs).map fun bs => b :: bs

/-- A descriptor that breaks the rules of R218. -/
def tskBad : XRes := XRes.fail St.invalidParam 0x1506

/-- The checks of ENCODE and DECODE: operation, M, K, LEN, ERASE, reserved bytes. -/
def tskCodeOk (d : Bytes) : Bool :=
  let op := leAt d 0 1
  let m := leAt d 1 1
  let k := leAt d 2 1
  let n := leAt d 16 8
  (op == 1 || op == 2) && decide (2 ≤ m ∧ m ≤ 32 ∧ 1 ≤ k ∧ k ≤ 4) && n % 64 == 0 && decide (64 ≤ n ∧ n ≤ 262144)
    && zeroAt d 3 1 && zeroAt d 60 4
    && (op == 1 || (decide (leAt d 24 8 < 2 ^ (m + k)) && decide (((List.range 36).filter (bitAt (leAt d 24 8))).length ≤ k)))

/-- Write units of a descriptor to the buffers its list names. -/
def State.tskStore (s : State) (k : Nat) (list : Bytes) (us : List (Nat × Bytes)) : State :=
  us.foldl (fun s x => s.xqWrite k (leAt list (8 * x.1) 8) x.2) s

/-- TSK_ENCODE (R192, R218): `srcs` are the list and the M data buffers. -/
def execTskEncode (inst : Fin 8) (desc : Fetch) (srcs : List Fetch) (cqOk : Bool) (s : State) :
    Host.Outcome State Fault Refusal :=
  .next <|
    let k := instKey 6 inst
    s.xqOp k desc cqOk 1 [1, 2, 3, 4] fun s d =>
      if !tskCodeOk d then (s, tskBad)
      else
        let m := leAt d 1 1
        let n := leAt d 16 8
        match s.tskSrc k (srcs.headD .failed) (8 * (m + leAt d 2 1)), s.tskSrcs k n ((srcs.drop 1).take m) with
        | .error r, _ => (s, r)
        | _, .error r => (s, r)
        | .ok list, .ok us =>
          let ps := parityEncode n (leAt d 2 1) (us ++ List.replicate (m - us.length) (zeros n))
          (s.tskStore k list (ps.zipIdx.map fun (p, j) => (m + j, p)), ⟨St.ok, 0, n * ps.length, 0, false⟩)

/-- TSK_DECODE (R192, R218): `srcs` are the list and the M + K buffers; those erased are not read. -/
def execTskDecode (inst : Fin 8) (desc : Fetch) (srcs : List Fetch) (cqOk : Bool) (s : State) :
    Host.Outcome State Fault Refusal :=
  .next <|
    let k := instKey 6 inst
    s.xqOp k desc cqOk 2 [1, 2, 3, 4] fun s d =>
      if !tskCodeOk d then (s, tskBad)
      else
        let m := leAt d 1 1
        let kk := leAt d 2 1
        let n := leAt d 16 8
        let erased := (List.range (m + kk)).filter (bitAt (leAt d 24 8))
        let bufs := (List.range (m + kk)).map fun i =>
          if erased.contains i then Fetch.ok [] else (srcs.drop 1).getD i .failed
        match s.tskSrc k (srcs.headD .failed) (8 * (m + kk)), s.tskSrcs k n bufs with
        | .error r, _ => (s, r)
        | _, .error r => (s, r)
        | .ok list, .ok us =>
          let known := us.zipIdx.map fun (u, i) => if erased.contains i then none else some u
          let ds := (parityDecode n m known).getD []
          let all := ds ++ parityEncode n kk ds
          (s.tskStore k list (erased.map fun i => (i, all.getD i [])), ⟨St.ok, 0, n * erased.length, 0, false⟩)

/-- The group a WALK or READ names, or why it may not (R186, R218): the group exists, its domain is owned and is that of
the instance, and the blocks lie in its data space. -/
def State.tskGroup (s : State) (inst : Nat) (d : Bytes) (n : Nat) : Except XRes (Nat × Group) :=
  match s.groupOf (leAt d 32 8) with
  | none => .error (XRes.fail St.invalidParam 0x1504)
  | some (i, g) =>
    if !s.owns g.dom then .error (XRes.fail St.busy 0x1501)
    else if g.dom != inst || decide (g.dataBlocks < leAt d 40 8 + n) then .error tskBad
    else .ok (i, g)

/-- The record of one level of a walk (R218; log entry 26). -/
def WalkStep.bytes (w : WalkStep) : Bytes :=
  leBytes 4 w.node ++ leBytes 1 w.pos ++ leBytes 1 w.unit ++ leBytes 2 (w.nsid.getD 0) ++ leBytes 8 w.off

/-- The walk of a block of a group, which may be a member (R195). -/
def State.walk (s : State) (gi blk : Nat) : List WalkStep :=
  walkIn s.data.nodes (s.labelBlocks (s.rootOf gi)) (s.data.nodes.length + 1) gi blk

/-- TSK_WALK (R195, R218): `srcs` are not read. -/
def execTskWalk (inst : Fin 8) (desc : Fetch) (_srcs : List Fetch) (cqOk : Bool) (s : State) :
    Host.Outcome State Fault Refusal :=
  .next <|
    let k := instKey 6 inst
    s.xqOp k desc cqOk 3 [1, 2, 3, 4] fun s d =>
      if leAt d 0 1 != 3 || !zeroAt d 3 1 || !zeroAt d 60 4 then (s, tskBad)
      else
        match s.tskGroup inst d 1 with
        | .error r => (s, r)
        | .ok (i, _) =>
          let out := (s.walk i (leAt d 40 8)).flatMap WalkStep.bytes
          (s.xqWrite k (leAt d 52 8) out, ⟨St.ok, 0, out.length, 0, false⟩)

/-- One block of an expert READ: its 4,096 bytes, or how the descriptor ends (R207, R216, R234). The fetch is the block
with its unit tag. -/
def State.tskBlock (s : State) (gi blk : Nat) (f : Fetch) : Except XRes Bytes :=
  match f with
  | .uncorrectable => .error { XRes.fail St.uncorrectable 0x1501 with halt := true }
  | .failed => .error (XRes.fail St.stripeLost 0x1501)
  | .ok b =>
    let b := padTo b 4112
    match (s.walk gi blk).getLast? with
    | none => .error (XRes.fail St.stripeLost 0x1501)
    | some w =>
      match s.leaf? w.node with
      | none => .error (XRes.fail St.stripeLost 0x1501)
      | some l =>
        if s.listedLost (s.rootOf gi) gi blk then .error (XRes.fail St.stripeLost 0x1502)
        else
          let off := w.off - l.start - s.labelBlocks (s.rootOf gi)
          match tagSays (s.tagWant l off) (b.take 4096) (b.drop 4096) with
          | .right => .ok (b.take 4096)
          | .lost => .error (XRes.fail St.stripeLost 0x1502)
          | .wrong => .error (XRes.fail St.checkMismatch 0x1501)

/-- Blocks of an expert READ in order up to the first that fails. -/
def State.tskBlocks (s : State) (gi : Nat) : Nat → List Fetch → Except XRes Bytes
  | _, [] => .ok []
  | blk, f :: fs =>
    match s.tskBlock gi blk f with
    | .error r => .error r
    | .ok b => (s.tskBlocks gi (blk + 1) fs).map fun bs => b ++ bs

/-- TSK_READ (R218): `srcs` are the blocks in order, each with its unit tag. Nothing is reconstructed. -/
def execTskRead (inst : Fin 8) (desc : Fetch) (srcs : List Fetch) (cqOk : Bool) (s : State) :
    Host.Outcome State Fault Refusal :=
  .next <|
    let k := instKey 6 inst
    s.xqOp k desc cqOk 4 [1, 2, 3, 4] fun s d =>
      let n := leAt d 48 4
      if leAt d 0 1 != 4 || !zeroAt d 3 1 || !zeroAt d 60 4 || n = 0 || decide (64 < n) then (s, tskBad)
      else
        match s.tskGroup inst d n with
        | .error r => (s, r)
        | .ok (i, _) =>
          let fs := (List.range n).map fun x => srcs.getD x .failed
          match s.tskBlocks i (leAt d 40 8) fs with
          | .error r => (s, r)
          | .ok out => (s.xqWrite k (leAt d 52 8) out, ⟨St.ok, 0, out.length, 0, false⟩)

end Sys2Proof.Machine
end

