-- ==== Sys2Proof/Machine/Rebuild.lean ====
section
/-! DEFINITION. Replacement of members, the rebuild pass, lost rows and the lost list (R227 to R235). -/

namespace Sys2Proof.Machine

open Sys2Proof

/-! ## Replacement (R228, R229) -/

/-- The failure domains of a group's available members. -/
def State.liveFdoms (s : State) (g : Group) : List Nat :=
  g.members.filterMap fun i => (s.leaf? i).bind fun l => if l.st == .online then some l.fdom else none

/-- The spares of a group that qualify for a leaf of a group: large enough, on a namespace that can be reached. -/
def State.fitSpares (s : State) (g : Group) (labelBlks : Nat) (owner : Nat) : List (Nat × Leaf) :=
  ((s.group? owner).map (·.spares)).getD [] |>.filterMap fun i => (s.leaf? i).bind fun l =>
    if l.st == .spare && ((s.nsOf l.nsid).any Ns.usable)
        && decide (s.largestU g labelBlks ≤ s.memberBlocks labelBlks g.unit i) then some (i, l) else none

/-- The leaf of the lowest node index. -/
def lowestNode : List (Nat × Leaf) → Option Nat
  | [] => none
  | x :: xs => some (xs.foldl (fun m y => min m y.1) x.1)

/-- The spare for a leaf of a group (R228): of the group and then of each ancestor, first of a failure domain of its
own. -/
def State.spareFor (s : State) (gi : Nat) (g : Group) : Option Nat :=
  let lb := s.labelBlocks (s.rootOf gi)
  let live := s.liveFdoms g
  (s.upFrom gi).findSome? fun owner =>
    let es := s.fitSpares g lb owner
    (lowestNode (es.filter fun e => !live.contains e.2.fdom)).or (lowestNode es)

/-- A spare takes the slot of a leaf of a group, REBUILDING from stripe 0; the old leaf's node is freed. Answers the
nodes changed. -/
def State.takeSpare (s : State) (gi old new : Nat) : State × List Nat :=
  match s.group? gi, s.leaf? old, s.leaf? new with
  | some g, some l, some n =>
    let owner := n.parent
    let s := match s.group? owner with
      | some o => s.setNode owner (.group { o with spares := o.spares.filter (· != new) })
      | none => s
    let g := (s.group? gi).getD g
    let s := s.setNode gi (.group { g with members := g.members.map fun i => if i == old then new else i })
    let s := s.setNode new (.leaf { n with st := .rebuilding, parent := gi, slot := l.slot, rbNext := 0, hold := false, lost := false })
    let s := (s.onData fun d => { d with nodes := KMap.del d.nodes old, passes := (gi :: d.passes).eraseDups }).restate gi
    (s, (new :: old :: owner :: g.lists ++ s.upFrom gi).eraseDups)
  | _, _, _ => (s, [])

/-- AUTO_SPARE_REPLACE (R228, R229): at a tick boundary a FAILED or MISSING leaf of a domain this head owns. Without a
qualifying spare an event is raised. -/
def execAutoSpareReplace (leaf : Nat) (s : State) : Host.Outcome State Fault Refusal :=
  .next <|
    match s.leaf? leaf with
    | none => s
    | some l =>
      let root := s.rootOf leaf
      if (l.st != .failed && l.st != .missing) || s.par Par.autoSpare != 1 || !s.owns (s.rootDom root) then s
      else
        match s.group? l.parent with
        | none => s
        | some g =>
          match s.spareFor l.parent g with
          | none => s.event (Reg.tskTree + 0x1000)
          | some n =>
            let (s, ns) := s.takeSpare l.parent leaf n
            s.treeChange root ns

/-- MEMBER_REPLACE (R229). -/
def execMemberReplace (eid : Nat) (s : State) : Host.Outcome State Fault Refusal :=
  .next <| s.cmd eid 0x1005 fun s e => s.onGroup e fun s gi g =>
    let root := s.rootOf gi
    let lb := s.labelBlocks root
    let named := e.p 4 4
    let force := bitAt (e.p 1 1) 0
    match g.members[e.p 0 1]?.bind fun i => (s.leaf? i).map fun l => (i, l) with
    | none => s.fail e St.invalidParam 0x1508
    | some (i, l) =>
      let fits := (s.treeSpares root).contains named
        && decide (s.largestU g lb ≤ s.memberBlocks lb g.unit named)
      if named != noNode && !fits then s.fail e St.invalidParam 0x1508
      else if (l.st == .online || l.st == .rebuilding) && !force then s.fail e St.invalidParam 0x150A
      else
        match if named != noNode then some named else s.spareFor gi g with
        | none => s.fail e St.noSpace 0x1504
        | some n =>
          let s := if l.st == .online then s.leafFail i else s
          let (s, ns) := s.takeSpare gi i n
          (s.note g.dom .tree (ns.map s.nodeItem)).writeLabels root eid .reply []

/-! ## The pass (R230 to R232) -/

/-- The leaves of a group that are REBUILDING. -/
def State.rebuilding (s : State) (g : Group) : List (Nat × Leaf) :=
  g.members.filterMap fun i => (s.leaf? i).bind fun l => if l.st == .rebuilding then some (i, l) else none

/-- A REBUILD record of leaves' progress, with the label write that lets it be released (R224, R232). -/
def State.rebuildRec (s : State) (gi : Nat) : State :=
  match s.group? gi with
  | none => s
  | some g =>
    let root := s.rootOf gi
    let items := (s.rebuilding g).map fun e => s.nodeItem e.1
    if items.isEmpty then s else (s.note g.dom .rebuild items).writeLabels root 0 .upkeep []

/-- Stop the pass of a group at a stripe boundary (R232). -/
def State.stopPass (s : State) (gi : Nat) : State :=
  if s.data.passes.contains gi then
    (s.onData fun d => { d with passes := d.passes.filter (· != gi) }).rebuildRec gi
  else s

/-- MEMBER_REBUILD (R229): 0 runs or resumes, 1 holds. -/
def execMemberRebuild (eid : Nat) (s : State) : Host.Outcome State Fault Refusal :=
  .next <| s.cmd eid 0x1006 fun s e => s.onGroup e fun s gi g =>
    let ls := s.rebuilding g
    if 1 < e.p 0 1 then s.fail e St.invalidParam 0x0105
    else
      match ls.map fun x => x.2.rbNext with
      | [] => s.fail e St.invalidParam 0x150A
      | x :: xs =>
        let res := leBytes 8 (xs.foldl min x) ++ leBytes 8 g.stripes
        let hold := e.p 0 1 == 1
        let t := ls.foldl (fun s x => s.setNode x.1 (.leaf { x.2 with hold := hold })) s
        let t := if hold then (t.onData fun d => { d with passes := d.passes.filter (· != gi) }).rebuildRec gi else t
        t.okReply e res

/-- The order in which passes start: remaining redundancy, depth, node (R231). -/
def State.passKey (s : State) (gi : Nat) (g : Group) : Nat :=
  ((g.k + 64 - lostMembers s.data.nodes g) * 2 ^ 24 + g.depth) * 2 ^ 20 + gi

/-- The groups of a domain with a leaf to be rebuilt and not held. -/
def State.wantPass (s : State) (d : Nat) : List (Nat × Group) :=
  s.data.nodes.filterMap fun e =>
    match e.2 with
    | .group g => if g.dom == d && (s.rebuilding g).any fun x => !x.2.hold then some (e.1, g) else none
    | _ => none

/-- A pass of a group may run: it runs, or fewer than four of its domain run and it is the next in order. -/
def State.passMay (s : State) (gi : Nat) (g : Group) : Bool :=
  let want := s.wantPass g.dom
  let running := want.filter fun x => s.data.passes.contains x.1
  (running.any fun x => x.1 == gi) && decide ((running.filter fun x => s.passKey x.1 x.2 < s.passKey gi g).length < 4)
    || (decide (running.length < 4) && (want.filter fun x => !s.data.passes.contains x.1).all fun x =>
      decide (s.passKey gi g ≤ s.passKey x.1 x.2))

/-- The units of a row of a stripe that can be had, in unit order: read, and on a member that is available there. -/
def State.rowUnits (s : State) (g : Group) (q : Geo) (stripe row : Nat) (units : List (List Fetch)) : List (Option Bytes) :=
  (List.range (if q.parity then q.n else 1)).map fun u =>
    let get := fun (pos : Nat) =>
      let up := match g.members[pos]?.bind s.node with
        | some (.leaf l) => l.up stripe
        | some (.group _) => true
        | _ => false
      match (units.getD pos []).getD row .failed with
      | .ok b => if up then some (padTo b 4096) else none
      | _ => none
    if q.parity then get (q.memberOf stripe u) else (List.range q.n).findSome? get

/-- The data blocks of a row, one for each data unit, if its erasures allow it. -/
def rowData (q : Geo) (us : List (Option Bytes)) : Option (List Bytes) :=
  if q.parity then parityDecode 4096 q.m us else (us.headD none).map fun b => [b]

/-- Data units of a row that cannot be had. -/
def rowLost (q : Geo) (us : List (Option Bytes)) : List Nat :=
  (List.range (if q.parity then q.m else 1)).filter fun u => (us.getD u none).isNone

/-- Data blocks in data order from rows of a stripe: unit by unit, row by row. -/
def stripeOf (q : Geo) (rows : List (List Blk)) : List Blk :=
  (List.range (q.d / q.b)).flatMap fun u => rows.map fun r => r.getD u ⟨zeros 4096, false, false, false⟩

/-- Merge a lost row into a tree's lost list: the entry of its stripe, or the lowest free position; a full list takes no
more (R235). -/
def mergeLost (cap : Nat) (es : List (Option LostEntry)) (e : LostEntry) : List (Option LostEntry) :=
  let same := fun (o : Option LostEntry) => o.any fun x => x.group == e.group && x.stripe == e.stripe
  if es.any same then
    es.map fun o => if same o then
      o.map fun x => { x with rows := x.rows ||| e.rows, units := x.units ||| e.units, cause := x.cause ||| e.cause }
    else o
  else
    match es.findIdx? Option.isNone with
    | some i => es.set i (some e)
    | none => if es.length < cap then es ++ [some e] else es

/-- Entries a tree's lost list can hold: 128 for each block of the lost area. -/
def State.lostCap (s : State) (root : Nat) : Nat := 128 * (s.lostArea root).2

/-- Note lost rows: a LOST record, the list, the count and a Skylark record for each row (R233). -/
def State.noteLost (s : State) (root : Nat) (e : LostEntry) : State :=
  let rows := ((List.range 64).filter (bitAt e.rows)).length
  let t := s.tree root
  let s := s.setTree root { t with lostList := mergeLost (s.lostCap root) t.lostList e }
  let d := s.rootDom root
  let s := (s.note d .lost [(8, e.bytes)]).bump Reg.tskCntLost 15 0 rows
  (List.range rows).foldl (fun s _ => s.sklHw 0x10 d 0 root) s

/-- Why data of a stripe was lost: [0] a member not available, [1] an unreadable block. -/
def State.lostCause (s : State) (g : Group) (stripe : Nat) (units : List (List Fetch)) : Nat :=
  let ups := g.members.zipIdx.map fun (i, pos) => ((s.leaf? i).all fun (l : Leaf) => l.up stripe, pos)
  b2n (ups.any fun x => !x.1) + 2 * b2n (ups.any fun x => x.1 && (units.getD x.2 []).any fun f => match f with
    | .ok _ => false
    | _ => true)

/-- Write a whole stripe of the outermost group with its lost blocks zeroed: every available unit, at every level, and
the lost-list entry (R233). `blks` are its data blocks in order, those lost absent. -/
def State.writeLostStripe (s : State) (root gi stripe cause : Nat) (blks : List (Option Bytes)) : State :=
  match s.group? root with
  | none => s
  | some g =>
    let q := g.geoOfStripe stripe
    let off := stripe * q.d
    let miss := (List.range q.d).filter fun i => (blks.getD i none).isNone
    let bs := (List.range q.d).map fun i =>
      let gone := (blks.getD i none).isNone
      (⟨(blks.getD i none).getD (zeros 4096), true, false, gone || s.listedLost root root (off + i)⟩ : Blk)
    let e : LostEntry := ⟨handleOf root g, stripe, bitsWhere 64 fun r => miss.any fun i => i % q.b == r,
      bitsWhere 32 fun u => miss.any fun i => i / q.b == u, cause, 0⟩
    let s := if miss.isEmpty then s else s.noteLost root e
    (s.driveWrites g.dom (.step gi (if gi = root then off else 0) (if gi = root then q.d else 1)) (s.writesOf root off bs)).1

/-- The leaves of a step: rebuilding, not held, not past the stripe. -/
def State.stepLeaves (s : State) (g : Group) (stripe : Nat) : List (Nat × Leaf) :=
  (s.rebuilding g).filter fun x => !x.2.hold && decide (x.2.rbNext ≤ stripe)

/-- Advance the leaves of a step past a stripe, and mark them where a row was lost. -/
def State.passOn (s : State) (ls : List (Nat × Leaf)) (stripe : Nat) (lost : Bool) : State :=
  ls.foldl (fun s x => s.setNode x.1 (.leaf { x.2 with rbNext := stripe + 1, lost := x.2.lost || lost })) s

/-- What follows a step: leaves at the end become ONLINE, progress is recorded every 1,024 stripes, and a pass without
a leaf ends. -/
def State.passNext (s : State) (gi : Nat) (ls : List (Nat × Leaf)) (stripe : Nat) : State :=
  match s.group? gi with
  | none => s
  | some g =>
    let s :=
      if g.stripes ≤ stripe + 1 then s.leavesTo (s.rootOf gi) (ls.map (·.1)) .online
      else if (stripe + 1) % 1024 = 0 then s.rebuildRec gi
      else s
    let left := ((s.group? gi).map s.rebuilding).getD []
    if left.isEmpty then s.onData fun d => { d with passes := d.passes.filter (· != gi) } else s

/-- A step of a pass on one stripe (R230). `units` are the blocks of each member, row by row, with their unit tags found
right; `up` the parent's unit that holds the stripe, as recovered there; `above` the data blocks of the outermost
group's stripe where recovery failed at every level. -/
def State.rebuildAt (s : State) (gi : Nat) (g : Group) (stripe : Nat) (units : List (List Fetch))
    (up : Option (List Bytes)) (above : List Fetch) : State :=
  let root := s.rootOf gi
  let lb := s.labelBlocks root
  let q := g.geoOfStripe stripe
  let off := stripe * q.d
  let ls := s.stepLeaves g stripe
  let rows := (List.range q.b).map fun r => s.rowUnits g q stripe r units
  let data := rows.map (rowData q)
  let fuel := s.data.nodes.length + 1
  if data.all Option.isSome then
    let s := s.passOn ls stripe false
    let blks := stripeOf q (data.zipIdx.map fun (o, r) => (o.getD []).zipIdx.map fun (b, u) =>
      (⟨b, true, false, s.listedLost root gi (off + u * q.b + r)⟩ : Blk))
    let ws := (stripeWrites s.data.nodes lb fuel gi off blks).filter fun w => ls.any fun x => x.1 == w.leaf
    ((s.driveWrites g.dom (.step gi off q.d) ws).1).passNext gi ls stripe
  else
    match g.parent, up with
    | some p, some unit =>
      let pb := ((s.group? p).map Group.unit).getD q.d
      let s := s.passOn ls stripe false
      let lo := off / pb * pb
      let blks := (List.range pb).map fun i => (⟨padTo (unit.getD i []) 4096, true, false, false⟩ : Blk)
      ((s.driveWrites g.dom (.step gi lo pb) (stripeWrites s.data.nodes lb fuel gi lo blks)).1).passNext gi ls stripe
    | none, _ =>
      let cause := s.lostCause g stripe units
      let s := s.passOn ls stripe true
      let blks := (List.range q.d).map fun i =>
        match data.getD (i % q.b) none with
        | some us => us[i / q.b]?
        | none => if (rowLost q (rows.getD (i % q.b) [])).contains (i / q.b) then none
          else if q.parity then (rows.getD (i % q.b) []).getD (i / q.b) none else none
      (s.writeLostStripe root gi stripe cause blks).passNext gi ls stripe
    | some _, none =>
      let cause := s.lostCause g stripe units
      let s := s.passOn ls stripe true
      let rq := (s.group? root).map fun h => h.geoAt (s.lift gi off)
      let blks := above.map fun f => match f with
        | .ok b => some (padTo b 4096)
        | _ => none
      (s.writeLostStripe root gi (s.lift gi off / (rq.map (·.d)).getD 1) cause blks).passNext gi ls stripe

/-- REBUILD_STEP (R230, R231): the next stripe of a group's pass, under its lock. -/
def execRebuildStep (group : Nat) (units : List (List Fetch)) (up : Option (List Bytes)) (above : List Fetch) (s : State) :
    Host.Outcome State Fault Refusal :=
  .next <|
    match s.group? group with
    | none => s
    | some g =>
      let go := (s.rebuilding g).filter fun x => !x.2.hold
      match go.map fun x => x.2.rbNext with
      | [] => s
      | x :: xs =>
        let stripe := xs.foldl min x
        let q := g.geoOfStripe stripe
        if !s.passMay group g || !s.owns g.dom || !s.basicFree (instKey 6 g.dom)
            || s.locked (s.rootOf group) (s.lift group (stripe * q.d)) then s
        else
          let s := s.onData fun d => { d with passes := (group :: d.passes).eraseDups }
          s.rebuildAt group g stripe units up above

/-! ## LOST_LIST_READ (R235) -/

/-- The used entries of a list from a position on, with their positions. -/
def usedLost (es : List (Option LostEntry)) (first : Nat) : List (Nat × LostEntry) :=
  (es.zipIdx.filterMap fun (o, i) => o.map fun e => (i, e)).filter fun x => decide (first ≤ x.1)

/-- A tree's lost list is full. -/
def State.lostFull (s : State) (root : Nat) : Bool :=
  let es := (s.tree root).lostList
  !es.isEmpty && decide (s.lostCap root ≤ es.length) && es.all Option.isSome

/-- LOST_LIST_READ (R235): `destOk` is whether the host memory takes the entries. -/
def execLostListRead (eid : Nat) (destOk : Bool) (s : State) : Host.Outcome State Fault Refusal :=
  .next <| s.cmd eid 0x1009 fun s e => s.onGroup e fun s gi g =>
    let addr := e.p 8 8
    let max := e.p 4 4
    if !g.outermost then s.fail e St.invalidParam 0x150B
    else if addr % 64 != 0 || max = 0 || decide (65536 < max) then s.fail e St.invalidParam 0x0105
    else
      let used := usedLost (s.tree gi).lostList (e.p 0 4)
      let out := used.take max
      let next := match used[max]? with
        | some x => x.1
        | none => 0xFFFFFFFF
      let bs := out.flatMap fun x => x.2.bytes
      if e.outside addr bs.length then s.fail e St.invalidParam 0x1E01
      else if !destOk then s.failSilent e 3
      else (s.deliverTo e addr bs).okReply e (leBytes 4 out.length ++ leBytes 4 next ++ [byteOf (b2n (s.lostFull gi))])

end Sys2Proof.Machine
end

