-- ==== Sys2Proof/Machine/Flash.lean ====
section
/-! DEFINITION. The flash ports: completions, timeouts, removal, insertion and namespace numbers (R242 to R252). -/

namespace Sys2Proof.Machine

open Sys2Proof

/-! ## The end of a drive write (R247, R250) -/

/-- Remove an acknowledgement from a copy. -/
def JCopy.acked (c : JCopy) (cid : Nat) : JCopy := { c with acks := c.acks.filter (· != cid) }

/-- A drive command is no longer outstanding. -/
def State.dropCmd (s : State) (cid : Nat) : State := s.onFpt fun f => { f with cmds := f.cmds.filter fun c => c.cid != cid }

/-- A member write has ended, acknowledged or not: the work it belongs to no longer waits for it. A copy of a journal
record counts as acknowledged once all its writes have been. -/
def State.writeEnd (s : State) (c : NvCmd) (ok : Bool) : State :=
  let s := s.dropCmd c.cid
  match c.why with
  | .stripe root block =>
    let hit := fun (w : StripeW) => w.root == root && w.block == block && w.issued
    let s := s.onData fun d =>
      { d with stripesW := d.stripesW.map fun w => if hit w then { w with acks := w.acks.filter (· != c.cid) } else w }
    if s.data.stripesW.any fun w => hit w && w.acks.isEmpty then s.stripeDone root block else s
  | .small id =>
    s.onData fun d =>
      { d with smalls := d.smalls.map fun w => if w.id == id then { w with acks := w.acks.filter (· != c.cid) } else w }
  | .label root epoch =>
    (match s.data.labels.find? fun w => w.root == root && w.epoch == epoch with
    | none => s
    | some w =>
      let w := { w with acks := w.acks.filter (· != c.cid), failed := w.failed || !ok }
      (s.onData fun d =>
        { d with labels := d.labels.map fun x => if x.root == root && x.epoch == epoch then w else x }).stepLabel w)
  | .journal dom b jseq =>
    let j := s.journal dom
    if ok && s.copyOk (if b then j.b else j.a) && !(s.fpt.cmds.any fun x => x.why == c.why) then s.ackCopy dom b jseq else s
  | .copy dom _ =>
    let j := s.journal dom
    s.setJournal dom { j with a := j.a.acked c.cid, b := j.b.acked c.cid, newB := j.newB.acked c.cid }
  | .step _ _ _ => s
  | .upkeep _ => s

/-- The leaf whose slice holds an LBA of a namespace. -/
def State.sliceAt (s : State) (nsn lba : Nat) : Option Nat :=
  s.data.nodes.findSome? fun e =>
    match e.2 with
    | .leaf l => if l.nsid = nsn && l.start ≤ lba && lba < l.start + l.count then some e.1 else none
    | _ => none

/-- Latch an error of a port and record it. -/
def State.fptErr (s : State) (port cause arg : Nat) : State := (s.latch errFpt port cause).sklFold 0x1D port cause arg

/-- A write has failed for good: its leaf fails, the cause is latched (R250). -/
def State.loseWrite (s : State) (c : NvCmd) (cause : Nat) : State :=
  let s := (s.fptErr c.port cause c.nsn).writeEnd c false
  match s.sliceAt c.nsn c.lba with
  | some i => s.leafFail i
  | none => s

/-- Change a drive command. -/
def State.onCmd (s : State) (cid : Nat) (f : NvCmd → NvCmd) : State :=
  s.onFpt fun x => { x with cmds := x.cmds.map fun c => if c.cid == cid then f c else c }

/-- A write has failed: it is retried once, then lost (R250). -/
def State.writeFailed (s : State) (c : NvCmd) : State :=
  if c.retried then s.loseWrite c 2
  else
    ((s.onCmd c.cid fun c => { c with retried := true, stage := 0, at_ := s.clk }).bump (Reg.fptCnt c.port) 31 16 1).emit
      (.nvme c.cid c.nsn c.lba c.n c.data c.tags)

/-- An outstanding drive command that has been issued. -/
def State.cmdOf (s : State) (cid : Nat) : Option NvCmd := s.fpt.cmds.find? fun c => c.cid == cid && !c.held

/-- NVME_COMPLETION (R247, R250): `status` is the NVMe status of a write, 0 for success; code type 2 is a media error,
and 0x800 says that the controller shows CSTS.CFS. A completion shows that its controller is ready. -/
def execNvmeCompletion (cid status : Nat) (s : State) : Host.Outcome State Fault Refusal :=
  .next <|
    match s.cmdOf cid with
    | none => s
    | some c =>
      if status = 0 then (s.setPort c.port { s.port c.port with resetting := false }).writeEnd c true
      else if bitAt status 11 then s.loseWrite c 3
      else if fieldOf status 10 8 = 2 then s.loseWrite c 2
      else s.writeFailed c

/-- NVME_COMMAND_TIMEOUT (R250, step 1): outstanding for FPT_cmd_timeout_ms: Abort. -/
def execNvmeCommandTimeout (cid : Nat) (s : State) : Host.Outcome State Fault Refusal :=
  .next <|
    match s.cmdOf cid with
    | none => s
    | some c =>
      if c.stage = 0 && decide (c.at_ + msTicks (s.par Par.cmdTimeoutMs) ≤ s.clk) then
        ((((s.onCmd cid fun c => { c with stage := 1, stageAt := s.clk }).emit (.nvmeAdmin "Abort" c.port cid)).bump
          (Reg.fptCnt c.port) 15 0 1)).fptErr c.port 1 c.nsn
      else s

/-- ABORT_TIMEOUT (R250, step 2): the Abort is not answered within 1,000 ms: the controller is reset, and every
command outstanding on it counts as failed. A port is one controller. -/
def execAbortTimeout (cid : Nat) (s : State) : Host.Outcome State Fault Refusal :=
  .next <|
    match s.cmdOf cid with
    | none => s
    | some c =>
      if c.stage = 1 && decide (c.stageAt + msTicks 1000 ≤ s.clk) then
        let s := (s.setPort c.port { s.port c.port with resetting := true }).emit (.nvmeAdmin "controller reset" c.port 0)
        (s.fpt.cmds.filter fun x => x.port == c.port && !x.held).foldl (fun s x => s.writeFailed x) s
      else s

/-! ## Leaves of a port (R250 to R252) -/

/-- The namespaces behind a port. -/
def State.nsBehind (s : State) (p : Nat) : List Nat := (s.fpt.ns.filter fun e => e.2.port == p).map (·.1)

/-- The trees of which a leaf satisfies a test, in domains this head writes, with those leaves. -/
def State.leavesWhere (s : State) (p : Leaf → Bool) : List (Nat × List Nat) :=
  (s.roots.map (·.1)).filterMap fun root =>
    let ls := ((s.treeLeaves root).filter fun e => p e.2).map (·.1)
    if ls.isEmpty || !s.mayWrite (s.rootDom root) then none else some (root, ls)

/-- Leaves on absent namespaces become MISSING, one TREE record for each tree (R251; log entry 27). -/
def State.markMissing (s : State) (nss : List Nat) : State :=
  (s.leavesWhere fun l => nss.contains l.nsid && (l.st == .online || l.st == .rebuilding)).foldl
    (fun s x => s.leavesTo x.1 x.2 .missing) s

/-- MISSING leaves on namespaces that are back become REBUILDING from stripe 0, without a spare (R252). -/
def State.markBack (s : State) (nss : List Nat) : State :=
  (s.leavesWhere fun l => nss.contains l.nsid && l.st == .missing).foldl
    (fun s x =>
      let gs := x.2.filterMap fun i => (s.leaf? i).map (·.parent)
      (s.leavesTo x.1 x.2 .rebuilding).onData fun d => { d with passes := (d.passes ++ gs).eraseDups }) s

/-- Change the presence of namespaces. -/
def State.setPresent (s : State) (nss : List Nat) (b : Bool) : State :=
  s.onFpt fun f => { f with ns := KMap.mapV f.ns fun i n => if nss.contains i then { n with present := b } else n }

/-- CONTROLLER_READY_TIMEOUT (R250, step 3): CSTS.RDY has not returned: what is outstanding has failed, and every leaf
on the controller's namespaces becomes MISSING. -/
def execControllerReadyTimeout (port : Fin 16) (s : State) : Host.Outcome State Fault Refusal :=
  .next <|
    let x := s.port port
    if !x.resetting then s
    else
      let nss := s.nsBehind port
      let s := (s.setPort port { x with resetting := false }).setPresent nss false
      ((s.fpt.cmds.filter fun c => c.port == port.val).foldl (fun s c => s.writeEnd c false) s).markMissing nss

/-! ## Removal and errors (R243, R251) -/

/-- Set a bit of FPT_EVT: one that sets raises the port's event. -/
def State.portEvt (s : State) (p bit : Nat) : State :=
  if s.rbit (Reg.fptEvt p) bit then s else (s.setRbit (Reg.fptEvt p) bit true).raise (Reg.fptEvt p)

/-- Contain a port: its commands end with a path error, its namespaces are absent, and its leaves are MISSING at the next
boundary. -/
def State.contain (s : State) (p : Nat) (gone : Bool) : State :=
  let x := s.port p
  let s := s.setPort p { Port.down with dpc := true, present := x.present && !gone, removed := true }
  let s := s.setPresent (s.nsBehind p) false
  (s.fpt.cmds.filter fun c => c.port == p).foldl (fun s c => s.writeEnd c false) s

/-- DPC_TRIGGER (R251): the device has gone, or its link has dropped. -/
def execDpcTrigger (port : Fin 16) (gone : Bool) (s : State) : Host.Outcome State Fault Refusal :=
  .next <|
    if (s.port port).dpc then s
    else
      let seen := (s.port port).present
      let s := (s.contain port gone).portEvt port 4
      if gone && seen then s.portEvt port 5 else s

/-- PORT_ERROR (R243): [0] correctable, [1] non-fatal, [2] fatal, [3] ECRC, as FPT_EVT numbers them. A fatal error
triggers DPC. -/
def execPortError (port : Fin 16) (cause : Nat) (s : State) : Host.Outcome State Fault Refusal :=
  .next <|
    if 3 < cause then s
    else
      let s := s.portEvt port cause
      if cause = 2 && !(s.port port).dpc then s.contain port false else s

/-- MISSING_MARK (R251): at the tick boundary after a removal, or a link drop. -/
def execMissingMark (port : Fin 16) (s : State) : Host.Outcome State Fault Refusal :=
  .next <|
    let x := s.port port
    if x.removed then (s.setPort port { x with removed := false }).markMissing (s.nsBehind port) else s

/-- DPC_RELEASE (R251): the presence detect reads empty, or the link has retrained. -/
def execDpcRelease (port : Fin 16) (s : State) : Host.Outcome State Fault Refusal :=
  .next (s.setPort port { s.port port with dpc := false })

/-! ## Insertion and namespace numbers (R244, R247 to R249, R252) -/

/-- This head makes new bindings: head A, or the head that runs alone (R249). -/
def State.binds (s : State) : Bool := !s.part.headB || !s.peerCounts

/-- Bytes of the namespace table as NOR keeps them: number and identifier of each. -/
def Fpt.table (f : Fpt) : Bytes := f.ns.flatMap fun e => leBytes 2 e.1 ++ padTo e.2.nguid 16

/-- The number of an identifier. -/
def State.nsNumber (s : State) (nguid : Bytes) : Option Nat := (s.fpt.ns.find? fun e => e.2.nguid == nguid).map (·.1)

/-- Bind an identifier to the lowest free number, keep it in NOR and tell the peer (R248, R249). -/
def State.bindNs (s : State) (port : Nat) (nguid : Bytes) : State :=
  match lowestFree (s.fpt.ns.map (·.1)) 0 1024 with
  | some n =>
    let s := s.onFpt fun f => { f with ns := KMap.put f.ns n ⟨nguid, false, false, false, port, 0, true⟩ }
    let s := s.emit (.nor "namespace table" s.fpt.table)
    if s.peerCounts then s.peerMsg 2 (leBytes 2 n ++ zeros 6 ++ padTo nguid 16) else s
  | none => (s.onFpt fun f => { f with full := true }).fptErr port 4 0

/-- Take in a namespace that is found: an unbound one is bound where this head binds; a bound one is present. -/
def State.foundNs (s : State) (port : Nat) (x : Inserted) : State :=
  let id := padTo x.nguid 16
  let s := if (s.nsNumber id).isNone && s.binds then s.bindNs port id else s
  match s.nsNumber id with
  | some n => s.onFpt fun f => { f with ns := KMap.put f.ns n ⟨id, true, x.qualified, x.mset, port, x.lbas, x.ana != 3 && x.ana != 4⟩ }
  | none => s

/-- INSERTION_SETTLED (R244, R248, R252): presence has been stable for FPT_insert_settle_ms; the port is enumerated, its
controller set up, and the namespaces found on it bound. A removal not yet acted on comes first. Trees of domains that
this head does not hold are loaded from the labels found (R210). -/
def execInsertionSettled (port : Fin 16) (nss : List Inserted) (speed width : Nat) (flit : Bool) (s : State) :
    Host.Outcome State Fault Refusal :=
  .next <|
    let p : Nat := port
    let x := s.port p
    if x.removed || x.dpc || decide (s.portCount ≤ p) then s
    else
      let s := s.setPort p ⟨speed % 4, width % 32, flit, false, true, false, false⟩
      let s := if x.present then s else s.portEvt p 5
      let s := s.emits [.nvmeAdmin "CC.EN" p 1, .nvmeAdmin "Set Features Host Identifier" p 0x81,
        .nvmeAdmin "Set Features Number of Queues" p 16]
      let s := nss.foldl (fun s n => s.foundNs p n) s
      let s := s.markBack (nss.filterMap fun n => (s.nsNumber (padTo n.nguid 16)).filter fun i => (s.nsOf i).any Ns.usable)
      (nss.flatMap (·.labels)).foldl (fun s l => if (labelDom l).all s.mayWrite then s else s.loadLabel l) s

/-- ANA_CHANGE (R247): the ANA state of a namespace through this head's controller; 3 Inaccessible and 4 Persistent Loss
count as absent. -/
def execAnaChange (nsn : Nat) (state : Nat) (s : State) : Host.Outcome State Fault Refusal :=
  .next <|
    match s.nsOf nsn with
    | none => s
    | some n =>
      let ok := state != 3 && state != 4
      let t := s.onFpt fun f => { f with ns := KMap.put f.ns nsn { n with anaOk := ok } }
      if !ok then t.markMissing [nsn] else if n.present then t.markBack [nsn] else t

/-- NS_UNBIND (R248): on a tick, the number of an absent namespace that no leaf refers to. -/
def execNsUnbind (nsn : Nat) (s : State) : Host.Outcome State Fault Refusal :=
  .next <|
    match s.nsOf nsn with
    | none => s
    | some n =>
      if n.present || s.data.nodes.any fun e => match e.2 with
        | .leaf l => l.nsid == nsn
        | _ => false then s
      else
        let s := s.onFpt fun f => { f with ns := KMap.del f.ns nsn, full := false }
        s.emit (.nor "namespace table" s.fpt.table)

end Sys2Proof.Machine
end

