-- ==== Sys2Proof/Machine/Ddr.lean ====
section
/-! DEFINITION. DDR: placement of the regions (R409), errors, and merge buffers (R401 to R405). -/

namespace Sys2Proof.Machine

open Sys2Proof

/-! ## Where the regions lie (R409) -/

/-- A region as placed: code, address, bytes. -/
structure Region where
  code : Nat
  base : Nat
  size : Nat
deriving DecidableEq, Repr

/-- Lay regions (code, bytes) out upwards from an address. -/
def layOut : Nat → List (Nat × Nat) → List Region
  | _, [] => []
  | a, (c, n) :: xs => ⟨c, a, n⟩ :: layOut (a + n) xs

/-- The regions of a placement on a part with a capacity in GiB. -/
def Placed.regions (p : Placed) (t2 : Bool) (gib : Nat) : List Region :=
  let mib := 2 ^ 20
  let g := 2 ^ 30
  let small := [(0x01, 512 * mib), (0x02, 64 * mib), (0x03, (if p.slotCfg = 1 then 39 else 34) * mib)] ++
    (if t2 then [(0x04, 88 * mib), (0x05, 88 * mib)] else [])
  let big := ((List.range 8).map fun d => (0x10 + d, g * ceilDiv (2 ^ p.log2 * 288) g)) ++
    [(0x20, g * p.landing), (0x21, g * p.read), (0x22, g * p.spill)] ++
    (if t2 then [(0x30, 8 * g), (0x31, 8 * g)] else [])
  let used := g + (big.map (·.2)).sum
  layOut 0 small ++ layOut g big ++ [⟨0x3F, used, g * gib - used⟩]

/-- The regions as they lie. -/
def State.regions (s : State) : List Region :=
  match s.mem.placed with
  | none => []
  | some p => p.regions s.part.t2 (s.rf Reg.memStatus 27 16)

/-- A region by its code. -/
def State.region (s : State) (code : Nat) : Option Region := s.regions.find? fun r => r.code == code

/-- The code of the region an address lies in; 0 for none. -/
def State.regionAt (s : State) (addr : Nat) : Nat :=
  ((s.regions.find? fun r => decide (r.base ≤ addr ∧ addr < r.base + r.size)).map (·.code)).getD 0

/-- Place the regions under the parameters in force (R409). -/
def State.placeRegions (s : State) : State :=
  let p : Placed :=
    ⟨s.par Par.idxBucketsLog2, s.par Par.slotCfg, s.par Par.landingGib, s.par Par.readGib, s.par Par.spillGib⟩
  s.onMem fun m => { m with placed := some p }

/-! ## Errors (R403, R411) -/

/-- The channel, and memory port, of an address (R397). -/
def chanOf (addr : Nat) : Nat := addr / 128 % 16

/-- Latch MEM_ERR: the address goes with the error that is kept. -/
def State.memLatch (s : State) (port cause addr : Nat) : State :=
  let first := !s.rbit Reg.memErr 31
  let s := s.latch errMem port cause
  if first then (s.setReg Reg.memUeAddrLo (BitVec.ofNat 32 (addr / 8 * 8))).setRf Reg.memUeAddrHi 8 0 (addr / 2 ^ 32)
  else s

/-- Count an uncorrectable read of a port. -/
def State.countUe (s : State) (port : Nat) : State :=
  if port < 16 then s.bump (Reg.memChUe port) 15 0 1 else s.bump Reg.memSramEcc 31 16 1

/-- Write a word poisoned (R403). -/
def State.poisonWord (s : State) (word : Nat) : State :=
  s.onMem fun m => { m with poison := if m.poison.contains word then m.poison else word :: m.poison }

/-- An uncorrectable or POISON read (R411): a poisoned word makes no further record. -/
def State.ueRead (s : State) (port addr : Nat) (poison : Bool) : State :=
  let s := ((s.memLatch port (if poison then 2 else 1) addr).countUe port).tally 13 1
  if poison then s else s.sklHw 0x14 port 1 addr

/-! ## Merge buffers (R404) -/

/-- Drain an entry: with bytes missing the word is read first, and where that read is uncorrectable (`bad`) the word is
written poisoned and cause 0x3 is latched. -/
def State.drainMerge (s : State) (m : Merge) (bad : Bool) : State :=
  let s := s.onMem fun x => { x with merges := x.merges.filter (· != m) }
  if m.mask != 0xFF && bad then
    ((s.poisonWord m.word).memLatch m.port 3 m.word).sklHw 0x14 m.port 3 m.word
  else s

/-- Write some bytes of a word of DDR: a whole word discards its entry and clears its poison; a part merges into the
entry, or takes one, the oldest draining first where the buffer of 32 is full. -/
def State.wordWrite (s : State) (word mask : Nat) : State :=
  let port := chanOf word
  let here := s.mem.merges.find? fun m => m.word == word
  let full := s.mem.merges.filter fun m => m.port == port
  let mask := ((here.map (·.mask)).getD 0) ||| mask
  if mask = 0xFF then
    s.onMem fun x => { x with merges := x.merges.filter (fun m => m.word != word), poison := x.poison.filter (· != word) }
  else
    match here, full with
    | some _, _ => s.onMem fun x => { x with merges := x.merges.map fun m => if m.word == word then { m with mask := mask } else m }
    | none, f :: _ =>
      let s := if full.length < 32 then s else s.drainMerge f (s.mem.poison.contains f.word)
      s.onMem fun x => { x with merges := x.merges ++ [⟨port, word, mask⟩] }
    | none, [] => s.onMem fun x => { x with merges := x.merges ++ [⟨port, word, mask⟩] }

/-- The mask of the bytes of a word that lie in a range. -/
def wordMask (word addr n : Nat) : Nat := bitsWhere 8 fun i => decide (addr ≤ word + i ∧ word + i < addr + n)

/-- Write a range of bytes of DDR: its first and last words may be partial; the words between are whole. -/
def State.ddrWrite (s : State) (addr n : Nat) : State :=
  if n = 0 then s
  else
    let w0 := addr / 8 * 8
    let w1 := (addr + n - 1) / 8 * 8
    let s := s.onMem fun x =>
      { x with merges := x.merges.filter (fun m => !(w0 < m.word && m.word < w1)), poison := x.poison.filter (fun w => !(w0 < w && w < w1)) }
    let s := s.wordWrite w0 (wordMask w0 addr n)
    if w1 = w0 then s else s.wordWrite w1 (wordMask w1 addr n)

/-- MERGE_DRAIN (R404): an entry drains; `old` is the read of its word, which matters only while bytes are missing. -/
def execMergeDrain (port : Fin 17) (word : Nat) (old : Fetch) (s : State) : Host.Outcome State Fault Refusal :=
  .next <|
    match s.mem.merges.find? fun m => m.port == port.val && m.word == word with
    | none => s
    | some m => s.drainMerge m (s.mem.poison.contains word || !(match old with | .ok _ => true | _ => false))

end Sys2Proof.Machine
end

