-- ==== Sys2Proof/Machine/Drover.lean ====
section
/-! DEFINITION. Drover: connections, spaces, received packets, timers, expert queues (R337 to R359, R362 to R366). -/

namespace Sys2Proof.Machine

open Sys2Proof

/-! ## Connections as they end (R342, R345) -/

/-- Change a connection. -/
def State.onConn (s : State) (c : Nat) (f : Conn → Conn) : State :=
  match s.conn c with
  | some x => s.setConn c (f x)
  | none => s

/-- A shipped object failed (R361): it is tried again at each of the next three boundaries and then dropped, with a
Skylark record and an event. -/
def State.shipFailed (s : State) (link : Nat) (x : Ship) : State :=
  match KMap.get? s.drv.links link with
  | none => s
  | some l =>
    if l.backlog.all (· != x) then s
    else if 3 ≤ x.retries then
      let s := s.onDrv fun d => { d with links := KMap.put d.links link { l with backlog := l.backlog.filter (· != x) } }
      (s.sklFold (Reg.drvStatus / 0x10000 % 256) link 0 x.jseq).event (Reg.drvStatus + 0x200 + link)
    else
      s.onDrv fun d => { d with links := KMap.put d.links link { l with backlog := l.backlog.map fun y =>
        if y == x then { y with sent := false, retries := y.retries + 1, retryAt := some (s.clk + 1) } else y } }

/-- The connection of a link. -/
def State.linkConn (s : State) (link : Nat) : Nat := ((KMap.get? s.drv.links link).map (·.conn)).getD 0

/-- The objects offered on a connection that ends fail (R345, R361). -/
def State.failOffers (s : State) (c : Nat) : State :=
  let os := s.drv.offers.filter fun o => s.linkConn o.1 == c
  let s := s.onDrv fun d => { d with offers := d.offers.filter fun o => !os.contains o }
  os.foldl (fun s o => s.shipFailed o.1 o.2) s

/-- What rests on a connection that ends fails: the PUTs whose windows are bound to it (R342, R345), the objects it
receives by replication and those it offers. -/
def State.failWindows (s : State) (c st dt : Nat) : State :=
  let es := s.drv.spaces.filterMap fun e => if e.2.conn == some c then e.2.bound else none
  let rs := (s.data.puts.filter fun p => p.source == 4 && p.conn == c && !p.placed).map (·.eid)
  ((es ++ rs).foldl (fun s e => s.endPut e st dt) s).failOffers c

/-- Free the entry of a space: its tag is kept for refusals (R352, R357). -/
def State.freeSpace (s : State) (i : Nat) : State :=
  s.onDrv fun d =>
    { d with spaces := KMap.upd d.spaces i fun x => { x with live := false, revokedAt := some (x.revokedAt.getD d.useClock), bound := none }
             freed := d.freed ++ [i] }

/-- Revoke and free the live spaces that satisfy a test. A SPACE_REVOKE that runs replies OK. -/
def State.dropSpaces (s : State) (p : Space → Bool) : State :=
  (s.drv.spaces.filter fun e => e.2.live && p e.2).foldl
    (fun s e =>
      let s := match e.2.bound with
        | some eid => s.endPut eid St.keyRevoked 0x1901
        | none => s
      (s.freeSpace e.1).finalOf e.2.revokeEid St.ok 0 []) s

/-- Finish a CONN_CLOSE once nothing of the connection is unacknowledged: CLOSE is sent, its spaces and key go, and the
command replies (R342). -/
def State.finishConn (s : State) (c : Nat) : State :=
  match s.conn c with
  | none => s
  | some x =>
    if !x.closing || (x.st == .established && !(x.unacked.isEmpty && x.txq.isEmpty)) then s
    else
      let s := s.setConn c { x with ops := [] }
      let s := s.opsEnd x.ops St.aborted 0x1901
      let s := if x.st == .established then s.send c { Pkt.make Grmp.close 2 0 0 0 [] with psn := x.txPsn } else s
      let s := s.failWindows c St.aborted 0x1901
      let s := s.dropSpaces fun y => y.conn == some c
      let s := s.emptySlots fun i k => i == x.slot && k.bind == .conn c
      (s.onDrv fun d => { d with conns := KMap.del d.conns c }).finalOf x.closeEid St.ok 0 []

/-- A connection enters ERROR: its operations and the PUTs bound to it end with a status (R345, R349). -/
def State.connError (s : State) (c st dt cause : Nat) : State :=
  match s.conn c with
  | none => s
  | some x =>
    let s := s.setConn c { x with st := .error, unacked := [], txq := [], ops := [], parked := [], fetching := false }
    (((s.opsEnd x.ops st dt).failWindows c st dt).latch errDrv c cause).finishConn c

/-- A received CLOSE: CLOSED, and its outstanding operations are aborted (R342). -/
def State.connClosed (s : State) (c : Nat) : State :=
  match s.conn c with
  | none => s
  | some x =>
    ((s.setConn c { x with st := .closed, unacked := [], txq := [], ops := [] }).opsEnd x.ops St.aborted 0x1901).finishConn c

/-! ## The commands (R340 to R342, R352, R357) -/

/-- CONN_OPEN's parameters out of range (R340). -/
def State.connBad (s : State) (e : Entry) : Bool :=
  let kind := e.p 0 1
  let ipv := e.p 2 1
  let xq := e.p 3 1
  let zero := fun lo => allZero (if ipv = 4 then slice e.area (lo + 12) 4 else slice e.area lo 16)
  decide (2 < kind) || (ipv != 6 && !(ipv == 4 && s.par Par.ipv4En == 1)) || (decide (63 < xq) && xq != 0xFF)
    || decide (e.p 20 8 < 4096) || decide (2 ^ 36 < e.p 20 8) || zero 64 || zero 80
    || (kind == 0 && (s.tenant (e.p 4 2)).isNone) || (kind == 2 && (s.conn 0).isSome)
    || (kind == 2 && e.p 28 4 != 0) || decide (65535 < e.p 28 4) || (kind != 2 && e.p 28 4 != 0 && (s.conn (e.p 28 4)).isSome)

/-- The ID of a connection to be opened. -/
def State.connId (s : State) (e : Entry) : Option Nat :=
  if e.p 0 1 = 2 then some 0
  else if e.p 28 4 != 0 then some (e.p 28 4)
  else lowestFree (s.drv.conns.map (·.1)) 1 65535

/-- A path to send on: the home path, or the other where only that is up (R346). -/
def State.pathFor (s : State) (home : Nat) : Nat := if !s.pathUp home && s.pathUp (1 - home) then 1 - home else home

/-- A connection as CONN_OPEN makes it: HELLO takes PSN 0 (R344). -/
def State.newConn (s : State) (e : Entry) (c slot : Nat) : Conn :=
  let kind := e.p 0 1
  let home := if kind = 2 then 0 else e.p 1 1 % 2
  { kind := kind, st := .opening, home := home, path := s.pathFor home, sub := s.subFor (s.pathFor home) c
    ipv := e.p 2 1, xq := e.p 3 1, tenant := e.p 4 2
    rport := e.p 6 2, rcid := e.p 8 4, saltTx := slice e.area 12 4, saltRx := slice e.area 16 4, maxMsg := e.p 20 8
    addrA := slice e.area 64 16, addrB := slice e.area 80 16, slot := slot, txPsn := 1, rxPsn := 0, txc := 0
    unacked := [Pkt.make Grmp.hello 2 0 0 0 []], sinceAck := 0, nakSent := false, retries := 0, resendBusy := none
    refusedBusy := none, ops := [], txq := [], msg := [], msgKey := 0, inbox := [], resident := false, fetching := false
    lastUsed := 0, parked := [], closeEid := 0, closing := false }

/-- Bind an expert queue to the Expert session that first names it (R362). -/
def State.bindXq (s : State) (e : Entry) : State :=
  let k := instKey 8 (e.p 3 1)
  if e.p 3 1 = 0xFF || e.role != 3 || (s.xq k).bound.isSome then s
  else s.setXq k { s.xq k with bound := some e.tag }

/-- CONN_OPEN (R340, R362). -/
def execConnOpen (eid : Nat) (s : State) : Host.Outcome State Fault Refusal :=
  .next <| s.cmd eid 0x3001 fun s e =>
    if e.area.length < 192 then s.fail e St.invalidParam 0x0103
    else if s.connBad e then s.fail e St.invalidParam 0x1901
    else if e.p 3 1 != 0xFF && (s.xq (instKey 8 (e.p 3 1))).bound.any (· != e.tag) then s.fail e St.roleConflict 0x0401
    else
      match s.connId e with
      | none => s.fail e St.noSpace 0x1901
      | some c =>
        match s.takeKey (b2n s.clearKeys) (slice e.area 96 48) .gcm256 0xFFFF 0 with
        | (s, .error (st, dt)) => s.fail e st dt
        | (s, .ok k) =>
          match s.freeSlot with
          | none => s.fail e St.noSpace 0x1301
          | some i =>
            let s := ((s.setSlotKey i ⟨k, .gcm256, .conn c⟩).bindXq e).setConn c (s.newConn e c i)
            ((s.useConn c).send c (Pkt.make Grmp.hello 2 0 0 0 [])).okReply e (leBytes 4 c)

/-- CONN_CLOSE (R342): the close point. What has not begun to transmit is aborted; the rest runs on. -/
def execConnClose (eid : Nat) (s : State) : Host.Outcome State Fault Refusal :=
  .next <| s.cmd eid 0x3002 fun s e =>
    let c := e.h % 2 ^ 32
    if c = 0 then s.fail e St.invalidParam 0x1901
    else
      match s.conn c with
      | none => s.fail e St.invalidParam 0x1902
      | some x =>
        if x.closing then s.fail e St.invalidParam 0x1902
        else
          let started := fun (o : DOp) => x.st == .established && !(x.txq.any fun p => p.psn == o.firstPsn)
          let lo := x.ops.filter started
          let keep := fun (p : Pkt) => x.st == .established && lo.any fun o => psnLe o.firstPsn p.psn && psnLe p.psn o.lastPsn
          let txq := x.txq.filter keep
          let y := { x with closing := true, closeEid := eid, parked := [], fetching := false, ops := lo, txq := txq,
                            txPsn := (x.txPsn + 2 ^ 32 - (x.txq.length - txq.length)) % 2 ^ 32 }
          ((s.setConn c y).opsEnd (x.ops.filter fun o => !started o) St.aborted 0x1901).finishConn c

/-- CONN_QUERY (R341). -/
def execConnQuery (eid : Nat) (s : State) : Host.Outcome State Fault Refusal :=
  .next <| s.cmd eid 0x3003 fun s e =>
    match s.conn (e.h % 2 ^ 32) with
    | none => s.fail e St.invalidParam 0x1902
    | some x =>
      s.okReply e ([byteOf x.st.code, byteOf x.kind, byteOf x.path, byteOf (b2n x.resident)] ++ leBytes 4 x.unacked.length
        ++ leBytes 8 x.txc)

/-- SPACE_CREATE's parameters at fault (R352). -/
def State.spaceBad (s : State) (e : Entry) : Bool :=
  let kind := e.p 0 1
  let conn := e.p 4 4
  let any := conn == 0xFFFFFFFF
  decide (1 < kind) || (kind == 0 && (e.p 1 1 == 0 || decide (3 < e.p 1 1))) || (kind == 1 && e.p 1 1 != 1)
    || (s.tenant (e.p 2 2)).isNone || (kind == 1 && any)
    || (!any && !(s.conn conn).any fun x => x.kind == 0 && x.tenant == e.p 2 2)
    || (kind == 0 && (decide (e.p 16 8 < 4096) || decide (2 ^ 40 < e.p 16 8)))

/-- The entry a new space takes: one never used, lowest first, else the one freed longest ago (R352). -/
def Drv.spaceEntry (d : Drv) : Option Nat := (lowestFree (d.spaces.map (·.1)) 0 16384).or d.freed.head?

/-- SPACE_CREATE (R352): the tag is random and differs from the entry's last. -/
def execSpaceCreate (eid : Nat) (s : State) : Host.Outcome State Fault Refusal :=
  .next <| s.cmd eid 0x3004 fun s e =>
    if s.spaceBad e then s.fail e St.invalidParam 0x1901
    else
      match s.drv.spaceEntry with
      | none => s.fail e St.noSpace 0x1902
      | some i =>
        let r := leVal (s.drawn 4)
        let tag := match KMap.get? s.drv.spaces i with
          | some x => (x.tag + 1 + r % (2 ^ 18 - 1)) % 2 ^ 18
          | none => r % 2 ^ 18
        let x : Space :=
          { tag := tag, kind := e.p 0 1, access := e.p 1 1, tenant := e.p 2 2
            conn := if e.p 4 4 = 0xFFFFFFFF then none else some (e.p 4 4), fn := e.fn, base := e.p 8 8, length := e.p 16 8
            live := true, revokedAt := none, revokeEid := 0, bound := none }
        (s.nextDraw.onDrv fun d => { d with spaces := KMap.put d.spaces i x, freed := d.freed.filter (· != i) }).okReply e
          (leBytes 4 (i * 2 ^ 18 + tag))

/-- SPACE_REVOKE (R357): the revoke point. -/
def execSpaceRevoke (eid : Nat) (s : State) : Host.Outcome State Fault Refusal :=
  .next <| s.cmd eid 0x3005 fun s e =>
    let i := e.p 0 4 / 2 ^ 18
    match KMap.get? s.drv.spaces i with
    | none => s.fail e St.invalidParam 0x1902
    | some x =>
      if x.tag != e.p 0 4 % 2 ^ 18 || !x.live then s.fail e St.invalidParam 0x1902
      else if x.revokedAt.isSome then s.fail e St.busy 0x1902
      else
        s.onDrv fun d =>
          { d with useClock := d.useClock + 1
                   spaces := KMap.put d.spaces i { x with revokedAt := some (d.useClock + 1), revokeEid := eid } }

/-- Work of a space admitted before its revoke point: parked packets that name it, and reads being answered (R357). -/
def State.spaceBusy (s : State) (key : Nat) (x : Space) : Bool :=
  s.drv.conns.any fun c =>
    (c.2.parked.any fun p => p.pkt.key == key && decide (p.stamp < x.revokedAt.getD 0)) || c.2.ops.any fun o =>
      match o.who with
      | .resp k => k == key
      | _ => false

/-- REVOKE_COMPLETE (R357, step 4): admitted work is done. -/
def execRevokeComplete (eid : Nat) (s : State) : Host.Outcome State Fault Refusal :=
  .next <|
    match s.drv.spaces.find? fun e => e.2.live && e.2.revokeEid == eid && eid != 0 with
    | none => s
    | some (i, x) =>
      if s.spaceBusy (i * 2 ^ 18 + x.tag) x then s
      else
        let s := match x.bound with
          | some p => s.endPut p St.keyRevoked 0x1901
          | none => s
        (s.freeSpace i).finalOf eid St.ok 0 []

/-! ## Received packets (R337 to R356) -/

/-- Receive a packet for the row of one operation (R337 to R339): a malformed one, or one that names no connection, is
dropped and counted, and so is one whose tag fails. A packet of another operation is the matter of its own row. -/
def State.rx (s : State) (frame : Bytes) (op : Nat) (f : State → Nat → Pkt → State) : State :=
  match (s.ipIn frame).bind parseGrmp with
  | none => s.bump Reg.drvCntRx 31 16 1
  | some (p, ct, tag) =>
    if p.op != op then s
    else
      match s.conn p.dcid with
      | none => s.bump Reg.drvCntRx 31 16 1
      | some x =>
        match gcmDec (s.connKey x) (x.saltRx ++ beBytes 8 p.txc) p.hdr ct tag with
        | none => s.bump Reg.drvCntRx 15 0 1
        | some pt => f (s.tally 6 pt.length) p.dcid { p with payload := pt }

/-- What is done with the packet that is due: a NAK code, if it is refused, and its effect. -/
abbrev Verdict_ : Type := Option Nat × (State → State)

/-- Check a WRITE or READ_REQ against its space (R353): the NAK, or the entry. `stamp` is the packet's arrival. -/
def State.spaceJudge (s : State) (c stamp : Nat) (p : Pkt) : Except Nat (Nat × Space) :=
  let i := p.key / 2 ^ 18
  let bit := if p.op = Grmp.write then 0 else 1
  match KMap.get? s.drv.spaces i, s.conn c with
  | some x, some k =>
    if x.tag != p.key % 2 ^ 18 then .error 4
    else if k.kind != 0 || k.tenant != x.tenant || (x.conn.any (· != c)) then .error 4
    else if x.revokedAt.any fun r => decide (r ≤ stamp) then .error 3
    else if !bitAt x.access bit then .error 4
    else if x.kind == 0 && decide (x.length < p.offset + p.len) then .error 4
    else .ok (i, x)
  | _, _ => .error 4

/-- Bytes that landing buffers hold. -/
def State.landed (s : State) : Nat := s.data.puts.foldl (fun n p => n + p.landing.length) 0

/-- Bytes of landing buffers (R409). -/
def State.landingRoom (s : State) : Nat := 2 ^ 30 * ((s.mem.placed.map (·.landing)).getD (s.par Par.landingGib))

/-- A WRITE to an INGEST window (R114, R355). -/
def State.windowWrite (s : State) (x : Space) (p : Pkt) (cmp : List Fetch) : Verdict_ :=
  match x.bound.bind s.put with
  | none => (some 5, id)
  | some w =>
    if w.placed then (some 5, id)
    else if w.length < p.offset + p.len then (some 5, fun s => s.endPut w.eid St.lengthLong 0x1101)
    else if p.offset != w.landing.length then (some 5, fun s => s.endPut w.eid St.invalidParam 0x1903)
    else if s.landingRoom < s.landed + p.len then (some 7, id)
    else
      (none, fun s =>
        let w := { w with landing := w.landing ++ p.payload, lastByte := s.clk }
        let s := (s.tally 0 p.payload.length).setPut w
        if !bitAt p.flags 0 then s
        else if w.landing.length < w.length then s.endPut w.eid St.lengthShort 0x1101
        else s.runPass w.eid cmp)

/-- A WRITE into the peer's journal image (R358): refused for a domain this head owns, but not while the overlap of a
lease lasts (R391). -/
def State.mirrorWrite (s : State) (p : Pkt) : Verdict_ :=
  let d := p.key - 0x80000000
  if p.key < 0x80000000 || 7 < d then (some 4, id)
  else if s.owns d && (s.par Par.dhdMode == 0 || s.dhd.hst != .alone) then (some 4, fun s => s.sklHw 0x18 0 0 d)
  else (none, fun s =>
    (s.setJournal d { s.journal d with image := Mem.write (s.journal d).image p.offset p.payload }).ddrWrite
      (d * 2 ^ 26 + p.offset) p.payload.length)

/-- A received WRITE. -/
def State.takeWrite (s : State) (c stamp : Nat) (p : Pkt) (cmp : List Fetch) : Verdict_ :=
  if c = 0 then s.mirrorWrite p
  else
    match s.spaceJudge c stamp p with
    | .error n => (some n, id)
    | .ok (_, x) =>
      if x.kind = 1 then s.windowWrite x p cmp
      else (none, fun s => if p.payload.isEmpty then s else s.emit (.hostWrite x.fn (x.base + p.offset) p.payload))

/-- A received READ_REQ (R354): `mem` is what the read of the space gave. -/
def State.takeRead (s : State) (c stamp : Nat) (p : Pkt) (mem : Fetch) : Verdict_ :=
  match s.spaceJudge c stamp p with
  | .error n => (some n, id)
  | .ok _ =>
    (none, fun s =>
      let data := match mem with
        | .ok b => padTo b p.len
        | _ => Config.unstatedBytes 22 [s.fresh] p.len
      s.submit c (.resp p.key) false p.len 0 (cutPkts Grmp.readResp p.psn 0 data true))

/-- A received READ_RESP: data of an outstanding read, in offset order, to the physical function's memory. -/
def State.takeResp (s : State) (c : Nat) (p : Pkt) : State :=
  match s.conn c with
  | none => s
  | some x =>
    match x.ops.find? fun o => o.read && o.firstPsn == p.key with
    | none => s
    | some o =>
      if p.offset != o.got then s
      else
        let o2 := { o with got := o.got + p.payload.length }
        let s := if p.payload.isEmpty then s else s.emit (.hostWrite 0 (o.laddr + o.got) p.payload)
        if bitAt p.flags 0 then
          (s.setConn c { x with ops := x.ops.filter fun y => !(y.read && y.firstPsn == p.key) }).opEnd o2 St.ok 0
        else s.setConn c { x with ops := x.ops.map fun y => if y.read && y.firstPsn == p.key then o2 else y }

/-- The message types of Fold on a kind of connection (R359, R361). -/
def msgKnown (kind ty : Nat) : Bool := if kind = 2 then ty == 1 || ty == 2 || ty / 16 == 1 else decide (0x20 ≤ ty ∧ ty ≤ 0x24)

/-- A received part of a message (R356): refused on a client connection; a whole message is handed to Fold. -/
def State.takeSend (s : State) (c : Nat) (p : Pkt) : Verdict_ :=
  match s.conn c with
  | none => (some 6, id)
  | some x =>
    if x.kind = 0 || x.maxMsg < p.offset + p.len then (some 6, id)
    else
      (none, fun s => s.onConn c fun x =>
        let cur := if p.offset = 0 then [] else if x.msgKey = p.key && x.msg.length = p.offset then x.msg else []
        let ok := p.offset == cur.length
        let m := cur ++ p.payload
        if !ok then { x with msg := [] }
        else if bitAt p.flags 0 then
          { x with msg := [], msgKey := 0, inbox := if msgKnown x.kind (leAt m 0 1) then x.inbox ++ [m] else x.inbox }
        else { x with msg := m, msgKey := p.key })

/-- A connection is ESTABLISHED (R340): what waited goes out. On the peer connection both paths whose links are up are
taken as up, and the issued records without the peer's acknowledgement are sent (R223, R358). -/
def State.establish (s : State) (c : Nat) : State :=
  let s := (s.onConn c fun x => { x with st := .established }).flush c
  if c != 0 then s
  else
    let s := s.onDrv fun d => { d with paths := d.paths.zipIdx.map fun (p, i) => { p with live := s.linkUp i } }
    s.data.journals.foldl
      (fun s e => (e.2.recs.filter fun r => r.st == .issued && !r.ackP).foldl
        (fun s r => s.mirror e.1 r.jseq r.pos (recBytes e.1 e.2.epoch r)) s) s

/-- What is done with the packet that is due, by its operation. -/
def State.takePkt (s : State) (c stamp : Nat) (p : Pkt) (mem : Fetch) (cmp : List Fetch) : Verdict_ :=
  if p.op = Grmp.write then s.takeWrite c stamp p cmp
  else if p.op = Grmp.readReq then s.takeRead c stamp p mem
  else if p.op = Grmp.readResp then (none, fun s => s.takeResp c p)
  else if p.op = Grmp.send then s.takeSend c p
  else if p.op = Grmp.hello then (none, fun s => s.establish c)
  else (none, fun s => s.connClosed c)

/-- A PSN is consumed by its packet's end (R338). -/
def consumes : Option Nat → Bool
  | some 1 => false
  | some 2 => false
  | some 7 => false
  | _ => true

/-- Acknowledge a packet that was taken: at once with ACKREQ, else after 16 (R344). -/
def State.ackDue (s : State) (c : Nat) (p : Pkt) : State :=
  match s.conn c with
  | none => s
  | some x =>
    if bitAt p.flags 1 || 16 ≤ x.sinceAck + 1 then s.sendAck c else s.setConn c { x with sinceAck := x.sinceAck + 1 }

/-- Take a sequenced packet of a resident connection by its PSN (R344, R350): the one that is due is judged; a duplicate
is acknowledged; one ahead is refused, once for each gap, or STATE_BUSY while a refused PSN is still to come. -/
def State.sequenced (s : State) (c stamp : Nat) (p : Pkt) (mem : Fetch) (cmp : List Fetch) : State :=
  match s.conn c with
  | none => s
  | some x =>
    if x.st == .closed || x.st == .error || (x.st == .opening && p.op != Grmp.hello) then s
    else if p.psn = x.rxPsn then
      let (v, eff) := s.takePkt c stamp p mem cmp
      if !consumes v then s.sendNak c p.psn (v.getD 7)
      else
        let s := s.onConn c fun x => { x with rxPsn := (x.rxPsn + 1) % 2 ^ 32, nakSent := false, refusedBusy := none }
        let s := eff s
        match v with
        | some n => s.sendNak c p.psn n
        | none => s.ackDue c p
    else if psnLe p.psn ((x.rxPsn + 2 ^ 32 - 1) % 2 ^ 32) then (s.bump Reg.drvCntRetx 31 16 1).sendAck c
    else if x.refusedBusy.isSome then s.sendNak c p.psn 1
    else if x.nakSent then s
    else (s.setConn c { x with nakSent := true }).sendNak c p.psn 2

/-- Bytes a parked packet takes in a park buffer, in units of 64. -/
def Parked.units (p : Parked) : Nat := ceilDiv (56 + p.pkt.payload.length) 64

/-- Units of 64 bytes in use in a port's park buffer. -/
def State.parkFill (s : State) (port : Nat) : Nat :=
  s.drv.conns.foldl (fun n c => (c.2.parked.filter fun p => p.port == port).foldl (fun n p => n + p.units) n) 0

/-- Park a packet of an evicted connection and ask for its state, or refuse it STATE_BUSY (R350). -/
def State.park (s : State) (c port : Nat) (x : Conn) (p : Pkt) : State :=
  let k : Parked := ⟨port, s.drv.useClock + 1, p⟩
  let room := decide (s.parkFill port + k.units ≤ 32768) && x.refusedBusy.all (· == p.psn)
  if room then
    (s.onDrv fun d => { d with useClock := d.useClock + 1 }).setConn c
      { x with parked := x.parked ++ [k], fetching := true, refusedBusy := none }
  else (s.setConn c { x with refusedBusy := some (x.refusedBusy.getD p.psn), fetching := true }).sendNak c p.psn 1

/-- Receive a sequenced packet (R344, R349, R350). -/
def State.rxSeq (s : State) (port c : Nat) (p : Pkt) (mem : Fetch) (cmp : List Fetch) : State :=
  match s.conn c with
  | none => s
  | some x =>
    if x.closing && x.st != .established then s
    else if !x.resident || !x.parked.isEmpty then s.park c port x p
    else
      let s := s.useConn c
      ((s.takeAck c p.apsn).sequenced c s.drv.useClock p mem cmp).finishConn c

/-- GRMP_WRITE (R353 to R355, R358): `cmp` are the reads of byte-compare mode of a PUT whose input it ends. -/
def execGrmpWrite (port : Fin 2) (frame : Bytes) (cmp : List Fetch) (s : State) : Host.Outcome State Fault Refusal :=
  .next <| s.rx frame Grmp.write fun s c p => s.rxSeq port c p .failed cmp

/-- GRMP_READ_REQ (R354): `mem` is what a read of the space's memory gave. -/
def execGrmpReadReq (port : Fin 2) (frame : Bytes) (mem : Fetch) (s : State) : Host.Outcome State Fault Refusal :=
  .next <| s.rx frame Grmp.readReq fun s c p => s.rxSeq port c p mem []

/-- GRMP_READ_RESP (R338). -/
def execGrmpReadResp (port : Fin 2) (frame : Bytes) (s : State) : Host.Outcome State Fault Refusal :=
  .next <| s.rx frame Grmp.readResp fun s c p => s.rxSeq port c p .failed []

/-- GRMP_SEND (R356, R359). -/
def execGrmpSend (port : Fin 2) (frame : Bytes) (s : State) : Host.Outcome State Fault Refusal :=
  .next <| s.rx frame Grmp.send fun s c p => s.rxSeq port c p .failed []

/-- GRMP_HELLO (R340). -/
def execGrmpHello (port : Fin 2) (frame : Bytes) (s : State) : Host.Outcome State Fault Refusal :=
  .next <| s.rx frame Grmp.hello fun s c p => s.rxSeq port c p .failed []

/-- GRMP_CLOSE (R342). -/
def execGrmpClose (port : Fin 2) (frame : Bytes) (s : State) : Host.Outcome State Fault Refusal :=
  .next <| s.rx frame Grmp.close fun s c p => s.rxSeq port c p .failed []

/-- GRMP_ACK (R344). -/
def execGrmpAck (_port : Fin 2) (frame : Bytes) (s : State) : Host.Outcome State Fault Refusal :=
  .next <| s.rx frame Grmp.ack fun s c p => (s.takeAck c p.apsn).finishConn c

/-- How an operation ends whose packet a final NAK refuses (R338, R363). -/
def nakStatus (code : Nat) : Option (Nat × Nat) :=
  if code = 3 then some (St.keyRevoked, 0x1901)
  else if code = 4 then some (St.accessDenied, 0x1901)
  else if code = 5 then some (St.aborted, 0x1903)
  else if code = 6 then some (St.aborted, 0x1902)
  else none

/-- A received NAK (R338, R344, R345). -/
def State.takeNak (s : State) (c : Nat) (p : Pkt) : State :=
  let s := s.takeAck c p.apsn
  match s.conn c with
  | none => s
  | some x =>
    match nakStatus p.code with
    | some (st, dt) =>
      let hit := fun (o : DOp) => psnLe o.firstPsn p.psn && psnLe p.psn o.lastPsn
      ((s.setConn c { x with ops := x.ops.filter fun o => !hit o }).opsEnd (x.ops.filter hit) st dt).takeAck c p.psn
    | none =>
      if p.code = 2 then s.resendFrom c fun _ => true
      else if p.code = 1 || p.code = 7 then
        if x.unacked.any fun q => q.psn == p.psn then s.setConn c { x with resendBusy := some p.psn } else s
      else s

/-- GRMP_NAK (R338). -/
def execGrmpNak (_port : Fin 2) (frame : Bytes) (s : State) : Host.Outcome State Fault Refusal :=
  .next <| s.rx frame Grmp.nak fun s c p => (s.takeNak c p).finishConn c

/-! ## Timers (R340, R344 to R347, R350) -/

/-- HELLO_TIMER (R340): 1 ms has passed; an OPENING connection sends its HELLO again. -/
def execHelloTimer (cid : Nat) (s : State) : Host.Outcome State Fault Refusal :=
  .next <|
    match s.conn cid with
    | some x => if x.st == .opening then s.send cid (Pkt.make Grmp.hello 2 0 0 0 []) else s
    | none => s

/-- ACK_TIMER (R344): 2 µs have passed since a packet that is not acknowledged yet. -/
def execAckTimer (cid : Nat) (s : State) : Host.Outcome State Fault Refusal :=
  .next <|
    match s.conn cid with
    | some x => if x.sinceAck = 0 then s else s.sendAck cid
    | none => s

/-- RETRANSMIT_TIMEOUT (R345, R346): DRV_rto_us has passed without progress. The last of DRV_retry_max puts the
connection into ERROR; the third moves a client or replication connection to the other path. -/
def execRetransmitTimeout (cid : Nat) (s : State) : Host.Outcome State Fault Refusal :=
  .next <|
    match s.conn cid with
    | none => s
    | some x =>
      if x.st != .established || x.unacked.isEmpty then s
      else
        let n := x.retries + 1
        if s.par Par.retryMax ≤ n then s.connError cid St.timeout 0x1901 6
        else
          let path := if n = 3 && cid != 0 && s.pathUp (1 - x.path) then 1 - x.path else x.path
          (s.setConn cid { x with retries := n, path := path, sub := if path = x.path then x.sub else s.subFor path cid }).resendFrom cid fun _ => true

/-- BUSY_RESEND (R345): 2 µs after STATE_BUSY or FULL; it does not count as a retry. -/
def execBusyResend (cid : Nat) (s : State) : Host.Outcome State Fault Refusal :=
  .next <|
    match s.conn cid with
    | none => s
    | some x =>
      match x.resendBusy with
      | none => s
      | some n => (s.setConn cid { x with resendBusy := none }).resendFrom cid fun p => psnLe n p.psn

/-- A path. -/
def State.pathSt (s : State) (p : Nat) : Path := s.drv.paths.getD p ⟨false, 0, none, 0⟩

/-- Set a path. -/
def State.setPath (s : State) (p : Nat) (x : Path) : State := s.onDrv fun d => { d with paths := d.paths.set p x }

/-- HEARTBEAT_TIMEOUT (R347): no valid heartbeat on a path for DRV_hb_timeout_us. -/
def execHeartbeatTimeout (path : Fin 2) (s : State) : Host.Outcome State Fault Refusal :=
  .next <|
    let x := s.pathSt path
    if s.peerUp && x.live then
      ((s.setPath path { x with live := false, run := 0 }).bump Reg.drvCntPath 31 16 1).switchPath path
    else s

/-- PATH_RETURN (R346): the path has carried 100 consecutive valid heartbeats; connections with nothing unacknowledged
return to it as their home. -/
def execPathReturn (path : Fin 2) (s : State) : Host.Outcome State Fault Refusal :=
  .next <|
    if s.pathUp path && decide (100 ≤ (s.pathSt path).run) then
      s.onDrv fun d =>
        { d with conns := KMap.mapV d.conns fun c x =>
            if x.home == path.val && x.path != path.val && x.unacked.isEmpty then { x with path := path.val, sub := s.subFor path c }
            else x }
    else s

/-- The packets parked for a connection, in arrival order. -/
def State.unpark (c : Nat) : List Parked → List Fetch → List Fetch → State → State
  | [], _, _, s => s
  | k :: ks, mem, cmp, s =>
    let s := s.takeAck c k.pkt.apsn
    let due := (s.conn c).any fun x => x.rxPsn == k.pkt.psn
    let isRead := k.pkt.op == Grmp.readReq && due
    let ends := k.pkt.op == Grmp.write && due
    let s := s.sequenced c k.stamp k.pkt (if isRead then mem.headD .failed else .failed) (if ends then cmp else [])
    State.unpark c ks (if isRead then mem.drop 1 else mem) cmp s

/-- STATE_FETCH_COMPLETE (R349, R350): the state is on die, where a slot can be had; what was parked is processed. `mem`
are the reads of its READ_REQs in order. -/
def execStateFetchComplete (cid : Nat) (mem cmp : List Fetch) (s : State) : Host.Outcome State Fault Refusal :=
  .next <|
    match s.conn cid with
    | none => s
    | some x =>
      let full := decide (4096 ≤ s.residents.length) && s.residents.all fun e => e.2.pinned e.1
      if !x.fetching || full then s
      else
        let s := (s.setConn cid { x with parked := [] }).useConn cid
        (State.unpark cid x.parked mem cmp s).finishConn cid

/-! ## Messages of the peer (R249, R359) -/

/-- Take the first message of a connection if it is of a type: its body. -/
def State.takeMsg (s : State) (c ty : Nat) (f : State → Bytes → State) : State :=
  match s.conn c with
  | none => s
  | some x =>
    match x.inbox with
    | [] => s
    | m :: ms => if leAt m 0 1 = ty then f (s.setConn c { x with inbox := ms }) (m.drop 16) else s

/-- PEER_RELEASE_MSG (R359): the peer's journal tails. -/
def execPeerReleaseMsg (cid : Nat) (s : State) : Host.Outcome State Fault Refusal :=
  .next <| s.takeMsg cid 1 fun s b =>
    (List.range 8).foldl (fun s d => s.setJournal d { s.journal d with peerTail := leAt b (8 * d) 8 }) s

/-- NSBIND (R249): a binding the peer made. -/
def execNsbind (cid : Nat) (s : State) : Host.Outcome State Fault Refusal :=
  .next <| s.takeMsg cid 2 fun s b =>
    let n := leAt b 0 2
    let id := slice b 8 16
    let keep := KMap.keep s.fpt.ns fun i x => i == n || x.nguid != id
    let s := s.onFpt fun f => { f with ns := match KMap.get? keep n with
      | some x => if x.nguid == id then keep else KMap.put keep n ⟨id, false, false, false, 0, 0, true⟩
      | none => KMap.put keep n ⟨id, false, false, false, 0, 0, true⟩ }
    s.emit (.nor "namespace table" (s.fpt.ns.flatMap fun e => leBytes 2 e.1 ++ padTo e.2.nguid 16))

/-! ## Expert queues (R362 to R364) -/

/-- Descriptors of a queue that run on a connection. -/
def State.drvRunning (s : State) (q : Nat) : Nat :=
  s.drv.conns.foldl (fun n c => n + (c.2.ops.filter fun o => match o.who with
    | .desc j _ => j == q
    | _ => false).length) 0

/-- A queue's completion queue has room for one more descriptor beside those that run. -/
def State.drvRoom (s : State) (q : Nat) : Bool :=
  let x := s.xq (instKey 8 q)
  decide (x.unread + s.drvRunning q < 2 ^ x.cqLog2)

/-- A descriptor's own checks (R363): it breaks none, and its connection names the queue. -/
def State.drvOk (s : State) (q : Nat) (d : Bytes) : Bool :=
  decide (1 ≤ leAt d 0 1 ∧ leAt d 0 1 ≤ 3) && decide (leAt d 1 1 < 4) && decide (leAt d 2 1 < 64) && zeroAt d 3 1 && zeroAt d 44 20
    && decide (1 ≤ leAt d 32 8 ∧ leAt d 32 8 ≤ 2 ^ 30) && (s.conn (leAt d 8 4)).any fun x => x.xq == q

/-- A descriptor's wait is met (R364). -/
def State.drvMet (s : State) (d : Bytes) : Bool :=
  let n := (s.xq (instKey 8 (leAt d 2 1))).count
  !bitAt (leAt d 1 1) 0 || decide ((n + 2 ^ 32 - leAt d 40 4) % 2 ^ 32 < 2 ^ 31)

/-- Start a descriptor on its connection (R363, R364): `src` is the data it sends. -/
def State.drvStart (s : State) (q : Nat) (d : Bytes) (src : Fetch) : State :=
  let tag := leAt d 4 4
  let c := leAt d 8 4
  let len := leAt d 32 8
  let last := bitAt (leAt d 1 1) 1
  let go := fun (s : State) (read : Bool) (ps : List Pkt) => s.submit c (.desc q tag) read len (leAt d 16 8) ps
  match s.conn c with
  | none => s.drvComplete q tag 0 St.invalidParam 0x1904
  | some x =>
    match s.connRefuses x with
    | some (st, dt) => s.drvComplete q tag 0 st dt
    | none =>
      if leAt d 0 1 = 2 then go s true [Pkt.make Grmp.readReq 2 (leAt d 12 4) (leAt d 24 8) len []]
      else
        match src with
        | .ok b => go s false (cutPkts (if leAt d 0 1 = 1 then Grmp.write else Grmp.send) (leAt d 12 4) (leAt d 24 8) (padTo b len) last)
        | .failed =>
          let r := s.xrSilent (instKey 8 q)
          s.drvComplete q tag 0 (if r.st = St.ok then St.internal else r.st) r.dt
        | .uncorrectable => (s.drvComplete q tag 0 St.uncorrectable 0x1901).latch errDrv c 5

/-- The next descriptor of a queue, for the row of one operation. -/
def State.drvDesc (s : State) (q op : Nat) (desc src : Fetch) : State :=
  let k := instKey 8 q
  let x := s.xq k
  if !s.xqReady k || x.waiting || !s.drvRoom q then s
  else
    match desc with
    | .ok b =>
      let d := padTo b 64
      if leAt d 0 1 != op && decide (1 ≤ leAt d 0 1 ∧ leAt d 0 1 ≤ 3) then s
      else
        let s := s.xqAdvance k
        if !s.drvOk q d then s.drvComplete q (leAt d 4 4) 0 St.invalidParam 0x1904
        else if !s.drvMet d then s.setXq k { s.xq k with waiting := true, waitSince := s.clk, desc := d }
        else s.drvStart q d src
    | _ => s.xqLatch k 2

/-- DRV_WRITE (R363). -/
def execDrvWrite (q : Fin 64) (desc src : Fetch) (s : State) : Host.Outcome State Fault Refusal :=
  .next (s.drvDesc q 1 desc src)

/-- DRV_READ (R363). -/
def execDrvRead (q : Fin 64) (desc src : Fetch) (s : State) : Host.Outcome State Fault Refusal :=
  .next (s.drvDesc q 2 desc src)

/-- DRV_SEND (R363). -/
def execDrvSend (q : Fin 64) (desc src : Fetch) (s : State) : Host.Outcome State Fault Refusal :=
  .next (s.drvDesc q 3 desc src)

/-- CHAIN_WAIT_SATISFIED (R364): the awaited count has been reached; `src` is the data the descriptor sends. -/
def execChainWaitSatisfied (q : Fin 64) (src : Fetch) (s : State) : Host.Outcome State Fault Refusal :=
  .next <|
    let k := instKey 8 q
    let x := s.xq k
    if x.waiting && s.drvMet x.desc then (s.setXq k { x with waiting := false, desc := [] }).drvStart q x.desc src else s

/-- CHAIN_TIMEOUT (R364): a descriptor has waited for DRV_chain_tmo_ms. -/
def execChainTimeout (q : Fin 64) (s : State) : Host.Outcome State Fault Refusal :=
  .next <|
    let k := instKey 8 q
    let x := s.xq k
    if x.waiting && decide (x.waitSince + msTicks (s.par Par.chainTmoMs) ≤ s.clk) then
      (s.setXq k { x with waiting := false, desc := [] }).drvComplete q (leAt x.desc 4 4) 0 St.timeout 0x1902
    else s

/-- DRV_XCOUNT (R362, R364): software sets the count of a bound queue. -/
def execDrvXcount (q : Fin 64) (val : W32) (s : State) : Host.Outcome State Fault Refusal :=
  .next <|
    let k := instKey 8 q
    if (s.xq k).bound.isNone then s.xqLatch k 1 else s.setXq k { s.xq k with count := val.toNat }

end Sys2Proof.Machine
end

