-- ==== Sys2Proof/Machine/Network.lean ====
section
/-! DEFINITION. The network ports: subports and paths (R371 to R373), the frames Fold answers (R368 to R370), the
heartbeat lines (R375), PATH_STATUS (R376). -/

namespace Sys2Proof.Machine

open Sys2Proof

/-! ## Subports and paths (R371 to R373) -/

/-- Change a network port. -/
def State.onNport (s : State) (p : Nat) (f : NPort → NPort) : State :=
  { s with net := { s.net with ports := s.net.ports.set p (f (s.nport p)) } }

/-- Move the connections of a path that transmit on a subport that is down, and resend from their oldest
unacknowledged packet (R373). -/
def State.moveSubs (s : State) (p : Nat) : State :=
  let cs := (s.drv.conns.filter fun e => e.2.path == p && !s.subUp p e.2.sub).map (·.1)
  let s := s.onDrv fun d =>
    { d with conns := KMap.mapV d.conns fun c x => if cs.contains c then { x with sub := s.subFor p c } else x }
  cs.foldl (fun s c => s.resendFrom c fun _ => true) s

/-- A port's last subport is down: its path is down at that moment (R372). -/
def State.portDown (s : State) (p : Nat) : State :=
  (s.setPath p { s.pathSt p with live := false, run := 0 }).switchPath p

/-- SUBPORT_DOWN (R371 to R373). -/
def execSubportDown (port : Fin 2) (sub : Fin 8) (fec : Bool) (s : State) : Host.Outcome State Fault Refusal :=
  .next <|
    let p : Nat := port
    if !s.subUp p sub then s
    else
      let s := s.onNport p fun n => { n with upSince := KMap.del n.upSince sub }
      let s := ((s.latch errNet (p + 2 * sub) (if fec then 2 else 1)).bump (Reg.netCntLink p) 15 0 1).event (Reg.netCntLink p)
      if s.linkUp p then s.moveSubs p else s.portDown p

/-- SUBPORT_UP (R371): the subport has been stable for NET_up_settle_ms. Connections that had no subport to go to resend
on it; those of a path that is down come to it. -/
def execSubportUp (port : Fin 2) (sub : Fin 8) (s : State) : Host.Outcome State Fault Refusal :=
  .next <|
    let p : Nat := port
    if s.subCount p ≤ sub || s.subUp p sub then s
    else
      let s := (s.onNport p fun n => { n with upSince := KMap.put n.upSince sub s.clk }).moveSubs p
      if s.pathUp p && !s.pathUp (1 - p) then s.switchPath (1 - p) else s

/-- SUBPORT_RETURN (R373): a subport has been up for 1 ms; its connections with nothing unacknowledged return to it. -/
def execSubportReturn (port : Fin 2) (sub : Fin 8) (s : State) : Host.Outcome State Fault Refusal :=
  .next <|
    let p : Nat := port
    match KMap.get? (s.nport p).upSince sub with
    | none => s
    | some t =>
      if s.clk < t + msTicks 1 then s
      else
        s.onDrv fun d => { d with conns := KMap.mapV d.conns fun c x =>
          if x.path == p && c % s.subCount p == sub.val && x.unacked.isEmpty then { x with sub := sub } else x }

/-! ## Frames (R368 to R370) -/

/-- A path's IPv6 address. -/
def State.ip6 (s : State) (p : Nat) : Bytes :=
  (if p = 0 then [Par.netAIp60, Par.netAIp61, Par.netAIp62, Par.netAIp63]
    else [Par.netBIp60, Par.netBIp61, Par.netBIp62, Par.netBIp63]).flatMap fun k => beBytes 4 (s.par k)

/-- A path's IPv4 address. -/
def State.ip4 (s : State) (p : Nat) : Bytes := beBytes 4 (s.par (if p = 0 then Par.netAIp4 else Par.netBIp4))

/-- The MAC address of a subport (R370). -/
def State.mac (s : State) (p sub : Nat) : Bytes := beBytes 6 (s.fuses.mac + 8 * p + sub)

/-- Drop a frame and count it in NET_CNT_DROP.OTHER. -/
def State.dropFrame (s : State) (p : Nat) : State := s.bump (Reg.netCntDrop p) 31 16 1

/-- Answer a frame within 1,000 frames per second of its path (R369). -/
def State.answer (s : State) (p : Nat) (kind : String) (data : Bytes) : State :=
  let n := s.nport p
  let sec := s.clk / msTicks 1000
  let done := if n.second = sec then n.answered else 0
  if 1000 ≤ done then s.dropFrame p
  else (s.onNport p fun n => { n with answered := done + 1, second := sec }).emit (.frame p kind data)

/-- An ICMPv6 message for an address of a path, whole and with a right checksum: type and body. -/
def icmp6 (f : Bytes) : Option (Nat × Bytes) :=
  let msg := f.drop 40
  let pseudo := slice f 8 32 ++ beBytes 4 msg.length ++ beBytes 4 58
  if leAt f 0 1 / 16 = 6 && leAt f 6 1 = 58 && beVal (slice f 4 2) = msg.length && decide (8 ≤ msg.length)
      && netSum (pseudo ++ msg) == 0xFFFF then
    some (leAt f 40 1, msg.drop 4)
  else none

/-- NEIGHBOUR_DISCOVERY (R369, R370): a solicitation of the path's address is answered with the subport's MAC address. -/
def execNeighbourDiscovery (port : Fin 2) (sub : Fin 8) (frame : Bytes) (s : State) : Host.Outcome State Fault Refusal :=
  .next <|
    if s.par Par.mtu < frame.length then s.dropFrame port
    else
      match icmp6 frame with
      | some (135, b) =>
        let target := slice b 4 16
        if leAt frame 7 1 = 255 && target == s.ip6 port && !allZero target then
          s.answer port "neighbour advertisement" (slice frame 8 16 ++ target ++ s.mac port sub)
        else s
      | some (t, _) => if 133 ≤ t && t ≤ 137 then s else s.dropFrame port
      | none => s.dropFrame port

/-- ECHO_REQUEST (R369): the identifier, sequence and data go back. -/
def execEchoRequest (port : Fin 2) (_sub : Fin 8) (frame : Bytes) (s : State) : Host.Outcome State Fault Refusal :=
  .next <|
    if s.par Par.mtu < frame.length then s.dropFrame port
    else
      match icmp6 frame with
      | some (128, b) =>
        if slice frame 24 16 == s.ip6 port then s.answer port "echo reply" (slice frame 8 16 ++ b) else s
      | _ => s.dropFrame port

/-- ARP_REQUEST (R369): while IPv4 is enabled, a request for the path's address is answered with the subport's MAC
address. -/
def execArpRequest (port : Fin 2) (sub : Fin 8) (frame : Bytes) (s : State) : Host.Outcome State Fault Refusal :=
  .next <|
    if s.par Par.ipv4En != 1 || frame.length < 28 || s.par Par.mtu < frame.length
        || frame.take 6 != [0, 1, 8, 0, 6, 4] then s.dropFrame port
    else if slice frame 6 2 == [0, 1] && slice frame 24 4 == s.ip4 port && !allZero (s.ip4 port) then
      s.answer port "arp reply" ([0, 1, 8, 0, 6, 4, 0, 2] ++ s.mac port sub ++ s.ip4 port ++ slice frame 8 10)
    else s

/-- UNEXPECTED_FRAME (R368, R369). -/
def execUnexpectedFrame (port : Fin 2) (fcs : Bool) (s : State) : Host.Outcome State Fault Refusal :=
  .next (if fcs then s.bump (Reg.netCntDrop port) 15 0 1 else s.dropFrame port)

/-! ## The heartbeat lines (R375) -/

/-- The name of a head's heartbeat line. -/
def hbtLine (b : Bool) : String := if b then "HBT_B" else "HBT_A"

/-- HBT_PULSE (R375): 10 µs have passed. -/
def execHbtPulse (s : State) : Host.Outcome State Fault Refusal :=
  .next (if s.ready then s.emit (.pulse (hbtLine s.part.headB)) else s)

/-- NET_STATUS.HBT_IN. -/
def State.hbtIn (s : State) : Bool := s.rbit Reg.netStatus 2

/-- HBT_EDGE (R375): a falling edge on the peer's line; `widthOk` is whether the pulse lasts 0.5 µs to 2 µs. -/
def execHbtEdge (widthOk : Bool) (s : State) : Host.Outcome State Fault Refusal :=
  .next <|
    let n := if widthOk then s.net.pulses + 1 else 0
    let s := { s with net := { s.net with edge := true, pulses := min n 3 } }
    let s := s.setRbit Reg.netHbt 16 false
    if 3 ≤ n then s.setRbit Reg.netStatus 2 true else s

/-- HBT_IN clears, with an event. -/
def State.hbtLost (s : State) : State :=
  let s := { s with net := { s.net with pulses := 0 } }
  if s.hbtIn then (s.setRbit Reg.netStatus 2 false).event Reg.netHbt else s

/-- HBT_TIMEOUT (R375): AGE has reached DRV_hb_timeout_us. -/
def execHbtTimeout (s : State) : Host.Outcome State Fault Refusal := .next s.hbtLost

/-- HBT_STUCK (R375): the peer's line has been low for more than 3 µs. -/
def execHbtStuck (s : State) : Host.Outcome State Fault Refusal :=
  .next (if s.rbit Reg.netHbt 16 then s else ((s.setRbit Reg.netHbt 16 true).latch errNet 0 4).hbtLost)

/-! ## PATH_STATUS (R376) -/

/-- Subports of a port that are up, as a mask. -/
def State.subMask (s : State) (p : Nat) : Nat := bitsWhere 8 fun i => s.subUp p i

/-- DRV_HB's age of a path: a count of microseconds (log entry 19), all ones before any heartbeat. -/
def State.hbAge (s : State) (p : Nat) : Nat :=
  if (s.pathSt p).rxSeq.isNone then 0xFFFF else s.unstated 19 [p] % 2 ^ 16

/-- NET_HBT.AGE: a count of microseconds (log entry 19), all ones before any edge. -/
def State.hbtAge (s : State) : Nat := if s.net.edge then s.unstated 19 [2] % 2 ^ 16 else 0xFFFF

/-- PATH_STATUS (R376). -/
def execPathStatus (eid : Nat) (s : State) : Host.Outcome State Fault Refusal :=
  .next <| s.cmd eid 0x3007 fun s e =>
    s.okReply e ([byteOf (b2n (s.pathUp 0)), byteOf (b2n (s.pathUp 1)), byteOf (s.subMask 0), byteOf (s.subMask 1),
      byteOf (s.par Par.netModeA + 4 * s.par Par.netModeB), byteOf (b2n s.hbtIn + 2 * b2n (s.rbit Reg.netHbt 16)), 0, 0]
      ++ leBytes 2 (s.hbAge 0) ++ leBytes 2 (s.hbAge 1) ++ leBytes 2 s.hbtAge ++ [0, 0])

end Sys2Proof.Machine
end

