-- ==== Sys2Proof/Machine/Heads.lean ====
section
/-! DEFINITION. Dual-head operation (15): domains claimed, released, fenced and handed over; heartbeats (R348) and
leases; the witnesses, takeover and failback. -/

namespace Sys2Proof.Machine

open Sys2Proof

/-! ## Domains (R378 to R381) -/

/-- A state in which a head holds a domain (R378). -/
def DSt.held (x : DSt) : Bool := x == .loading || x == .owned || x == .releasing

/-- Domains this head holds, as a mask. -/
def State.heldMask (s : State) : Nat := bitsWhere 8 fun d => (s.dom d).st.held

/-- The home set in force (R380). -/
def State.homeSet (s : State) : Nat := s.dhd.homeOver.getD (s.par Par.dhdHome)

/-- Lease mode (R379). -/
def State.lease (s : State) : Bool := s.par Par.dhdMode == 1

/-- The outermost groups of a domain. -/
def State.domRoots (s : State) (d : Nat) : List Nat := (s.roots.filter fun e => e.2.dom == d).map (·.1)

/-- The metadata group of a domain (R482): its outermost group of the lowest node index. While a move takes a tree of it
away, another takes the image over before step 5 ends. -/
def State.metaRoot (s : State) (d : Nat) : Option Nat :=
  let rs := s.domRoots d
  let stay := rs.filter fun r => s.data.moves.all fun m => !(m.root == r && m.src == d && decide (4 ≤ m.step))
  ((if stay.isEmpty then rs else stay).mergeSort (· ≤ ·)).head?

/-- Drive or release an HLK line. -/
def State.hlk (s : State) (d : Nat) (b : Bool) : State :=
  (s.setDom d { s.dom d with pulled := b }).emit (.pin "HLK" d b)

/-- Release the line of a domain if it is pulled. -/
def State.hlkFree (s : State) (d : Nat) : State := if (s.dom d).pulled then s.hlk d false else s

/-- A DOMAIN_CLAIM ends once none of its domains is awaited (R386). -/
def State.claimEnd (s : State) (c : DomCmd) : State :=
  if c.waits.isEmpty then
    (s.onDhd fun h => { h with claims := h.claims.filter (·.eid != c.eid) }).finalOf c.eid
      (if c.refused then St.busy else St.ok) (if c.refused then 0x1A01 else 0) []
  else s

/-- The claim of a domain has ended, in LOADING's end or in failure. -/
def State.claimStep (s : State) (d : Nat) (ok : Bool) : State :=
  let s := s.onDhd fun h =>
    { h with claims := h.claims.map fun c =>
        if c.waits.contains d then { c with waits := c.waits.filter (· != d), refused := c.refused || !ok } else c }
  s.dhd.claims.foldl (fun s c => s.claimEnd c) s

/-- A DOMAIN_RELEASE ends once none of its domains is awaited (R387). -/
def State.releaseEnd (s : State) (c : DomCmd) : State :=
  if c.waits.isEmpty then
    (s.onDhd fun h => { h with releases := h.releases.filter (·.eid != c.eid) }).finalOf c.eid
      (if c.refused then St.busy else St.ok) (if c.refused then 0x1A02 else 0) []
  else s

/-- The release of a domain has ended. -/
def State.releaseStep (s : State) (d : Nat) (ok : Bool) : State :=
  let s := s.onDhd fun h =>
    { h with releases := h.releases.map fun c =>
        if c.waits.contains d then { c with waits := c.waits.filter (· != d), refused := c.refused || !ok } else c }
  s.dhd.releases.foldl (fun s c => s.releaseEnd c) s

/-- A claim fails: the domain is UNOWNED, its line released. -/
def State.failClaim (s : State) (d : Nat) : State :=
  let s := s.hlkFree d
  (s.setDom d Dom.reset).claimStep d false

/-- Count in DHD_CNT. -/
def State.dhdCount (s : State) (lo : Nat) : State := s.bump Reg.dhdCnt (lo + 7) lo 1

/-- The heads are ACTIVE again: a failback has completed (R392). -/
def State.failbackDone (s : State) : State :=
  (s.onDhd fun h => { h with hst := .active, failing := false, joined := false, holdStart := none, resynced := 0 }).dhdCount 8

/-- LOADING ends: the domain is OWNED (R388, R392). Leaves on absent namespaces are MISSING from now on, and a domain the
peer handed over is answered with CLAIMED. -/
def State.ownDomain (s : State) (d : Nat) : State :=
  let x := s.dom d
  let s := s.setDom d { x with st := .owned, handed := false }
  let gone := (s.data.nodes.filterMap fun e => match e.2 with
    | .leaf l => if (s.nsOf l.nsid).any Ns.usable || s.rootDom (s.rootOf e.1) != d then none else some l.nsid
    | _ => none).eraseDups
  let s := (s.markMissing gone).claimStep d true
  let s := if x.handed then s.peerMsg 0x12 (byteOf d :: zeros 7) else s
  if s.dhd.hst == .joining && s.homeSet % 256 == bitsWhere 8 fun d => bitAt s.homeSet d && s.owns d then s.failbackDone else s

/-- A claim has succeeded: LOADING, with an expert-held Tussock instance returned and the fence set (R33, R388, R389;
log entry 28). A domain without a tree is OWNED at once (R556). -/
def State.enterLoading (s : State) (d : Nat) : State :=
  let x := s.dom d
  let fence := if x.taken then s.clk + msTicks (s.par Par.fenceMs) + (if s.lease then 12 else 0) else 0
  let s := s.setDom d { x with st := .loading, fenceUntil := fence, idxLoad := true }
  let k := instKey 6 d
  let s := if (s.inst k).ctl == .basic then s else (s.beginReturn k []).sklFold 0x10 d 0 0
  if (s.domRoots d).isEmpty then (s.setDom d { s.dom d with idxLoad := false }).ownDomain d else s

/-- Begin the claim of a domain (R381, R386, R388): in lease mode it succeeds at once unless the peer is asked for a
grant. -/
def State.startClaim (s : State) (d : Nat) (taken handed : Bool) : State :=
  let s := (s.hlkFree d).setDom d { Dom.reset with st := .claiming, taken := taken, claimAt := s.clk, handed := handed }
  let ask := !taken && !handed && (s.dhd.peer == .active || s.dhd.peer == .joining)
  if s.lease && !ask then s.enterLoading d else s

/-- HLK_PULL (R381): the line has read high for 2 µs. On head B `probe` is whether it reads high at tp + 1.25 µs. -/
def execHlkPull (dom : Fin 8) (probe : Bool) (s : State) : Host.Outcome State Fault Refusal :=
  .next <|
    let d : Nat := dom
    let x := s.dom d
    if x.st != .claiming || x.pulled || s.lease then s
    else
      let s := s.hlk d true
      if !s.part.headB then s
      else
        let s := s.hlk d false
        if probe then s.hlk d true else (s.failClaim d).dhdCount 16

/-- HLK_READBACK (R381): the line at tp + 2 µs. -/
def execHlkReadback (dom : Fin 8) (low : Bool) (s : State) : Host.Outcome State Fault Refusal :=
  .next <|
    let d : Nat := dom
    let x := s.dom d
    if x.st != .claiming || !x.pulled then s
    else if low then s.enterLoading d
    else (s.failClaim d).latch errDhd d 2

/-- A domain that a DOMAIN_CLAIM waits for. -/
def State.commanded (s : State) (d : Nat) : Bool := s.dhd.claims.any fun c => c.waits.contains d

/-- CLAIM_WAIT_TIMEOUT (R381): a commanded claim has waited 1 ms on a low line. -/
def execClaimWaitTimeout (dom : Fin 8) (s : State) : Host.Outcome State Fault Refusal :=
  .next <|
    let x := s.dom dom
    if x.st == .claiming && !x.pulled && !s.lease && s.commanded dom && decide (x.claimAt + msTicks 1 ≤ s.clk) then
      s.failClaim dom
    else s

/-- LEASE_GRANT_TIMEOUT (R386): no grant for 3 ms. -/
def execLeaseGrantTimeout (dom : Fin 8) (s : State) : Host.Outcome State Fault Refusal :=
  .next <|
    let x := s.dom dom
    if x.st == .claiming && s.lease && s.commanded dom && decide (x.claimAt + msTicks 3 ≤ s.clk) then s.failClaim dom else s

/-- A domain a DOMAIN_CLAIM may claim: the peer does not hold it, the modes agree, and a joining head claims nothing else
(R379, R386, R392). -/
def State.claimable (s : State) (d : Nat) : Bool :=
  ((s.dom d).st == .unowned || (s.dom d).st == .fenced) && !bitAt s.dhd.peerOwned d && !s.dhd.modeBad
    && s.dhd.hst != .joining && !(s.dom d).given

/-- DOMAIN_CLAIM (R386): the domains the peer holds are refused, the others go ahead. -/
def execDomainClaim (eid : Nat) (s : State) : Host.Outcome State Fault Refusal :=
  .next <| s.cmd eid 0x6010 fun s e =>
    let s := if bitAt (e.p 1 1) 0 then s.onDhd fun h => { h with armed := true } else s
    let ds := (List.range 8).filter fun d => bitAt (e.p 0 1) d && !s.owns d
    let new := ds.filter fun d => s.claimable d
    let waits := ds.filter fun d => s.claimable d || (s.dom d).st == .claiming || (s.dom d).st == .loading
    let c : DomCmd := ⟨eid, waits, waits.length != ds.length⟩
    let s := (s.onDhd fun h => { h with claims := h.claims ++ [c] }).pendReply e
    new.foldl (fun s d => s.startClaim d false false) (s.claimEnd c)

/-! ## Release (R387) -/

/-- The release point of a domain: passes stop, admitted commands run on. -/
def State.startRelease (s : State) (d : Nat) (toPeer : Bool) : State :=
  let roots := s.domRoots d
  let waits := s.admitted fun x => roots.any fun r => s.onTree r x
  let s := s.setDom d { s.dom d with st := .releasing, toPeer := toPeer, given := false, relWaits := waits }
  (roots.flatMap s.treeGroups).foldl (fun s g => s.stopPass g) s

/-- DOMAIN_RELEASE (R387). A domain not owned is skipped. -/
def execDomainRelease (eid : Nat) (s : State) : Host.Outcome State Fault Refusal :=
  .next <| s.cmd eid 0x6011 fun s e =>
    let toPeer := bitAt (e.p 1 1) 0
    if toPeer && !(s.dhd.peer == .active || s.dhd.peer == .joining) then s.fail e St.busy 0x1A02
    else
      let ds := (List.range 8).filter fun d => bitAt (e.p 0 1) d
      let new := ds.filter s.owns
      let c : DomCmd := ⟨eid, ds.filter fun d => s.owns d || (s.dom d).st == .releasing || (s.dom d).given, false⟩
      let s := s.onDhd fun h => { h with releases := h.releases ++ [c] }
      new.foldl (fun s d => s.startRelease d toPeer) (s.releaseEnd c)

/-- A released domain is drained: admitted commands are done, stripes sealed and written, the journal empty and the
metadata image written (R387, steps 2 and 3). -/
def State.drained (s : State) (d : Nat) : Bool :=
  let roots := s.domRoots d
  s.allDone (s.dom d).relWaits && s.data.puts.all (·.dom != d) && roots.all (fun r => s.treeQuiet r && !s.labelling r && !(s.tree r).extDirty)
    && s.data.moves.all (fun m => m.src != d && m.dst != d) && (s.journal d).recs.isEmpty && s.data.dirty.all (·.1 != d)

/-- DOMAIN_RELEASE_DRAINED (R387, steps 4 and 5). -/
def execDomainReleaseDrained (dom : Fin 8) (s : State) : Host.Outcome State Fault Refusal :=
  .next <|
    let d : Nat := dom
    let x := s.dom d
    if x.st != .releasing || !s.drained d then s
    else
      let s := (s.hlkFree d).setDom d { Dom.reset with given := x.toPeer }
      if !x.toPeer then s.releaseStep d true
      else
        let j := s.journal d
        s.peerMsg 0x11 ([byteOf d, 0, 0, 0] ++ leBytes 4 j.epoch ++ leBytes 8 (j.nextSeq - 1))

/-- The next home domain of the joining head is released to it; with none left the failback is complete (R392). -/
def State.failbackNext (s : State) : State :=
  let home := (List.range 8).filter fun d => bitAt s.dhd.peerHome d
  if !s.dhd.failing || home.any (fun d => (s.dom d).st == .releasing || (s.dom d).given) then s
  else
    match home.find? s.owns with
    | some d => s.startRelease d true
    | none => s.failbackDone

/-- HANDOVER (R387): the domain is claimed without a fence; its journal goes on from the final JSEQ. -/
def execHandover (s : State) : Host.Outcome State Fault Refusal :=
  .next <| s.takeMsg 0 0x11 fun s b =>
    let d := leAt b 0 1
    if 7 < d || s.dhd.modeBad || !((s.dom d).st == .unowned || (s.dom d).st == .fenced) then s
    else
      let j := s.journal d
      let s := s.setJournal d
        { Journal.empty with epoch := leAt b 4 4, nextSeq := leAt b 8 8 + 1, image := j.image, peerTail := j.peerTail }
      (s.onDhd fun h => { h with peerOwned := setBitTo h.peerOwned d false }).startClaim d false true

/-- CLAIMED (R387): the release of the domain is complete. -/
def execClaimed (s : State) : Host.Outcome State Fault Refusal :=
  .next <| s.takeMsg 0 0x12 fun s b =>
    let d := leAt b 0 1
    if 7 < d || !(s.dom d).given then s
    else
      let s := (s.setDom d { s.dom d with given := false }).onDhd fun h => { h with peerOwned := setBitTo h.peerOwned d true }
      (s.releaseStep d true).failbackNext

/-! ## Fencing (R384, R390) -/

/-- The commands of a domain that have not committed end ABORTED. -/
def State.abortDom (s : State) (d : Nat) : State :=
  let s := (s.data.puts.filter (·.dom == d)).foldl (fun s p => s.endPut p.eid St.aborted 0x1A01) s
  let s := ((s.journal d).recs.filter fun r => r.eid != 0 && r.st != .complete).foldl
    (fun s r => (s.dropRec d r.jseq).finalOf r.eid St.aborted 0x1A01 []) s
  let ls := s.data.labels.filter fun w => w.eid != 0 && s.rootDom w.root == d
  let s := s.onData fun x => { x with labels := x.labels.map fun w => if ls.contains w then { w with eid := 0, after := .upkeep } else w }
  let s := ls.foldl (fun s w => s.finalOf w.eid St.aborted 0x1A01 []) s
  let ms := s.data.moves.filter fun m => m.src == d || m.dst == d
  let s := s.onData fun x => { x with moves := x.moves.filter fun m => !(m.src == d || m.dst == d) }
  ms.foldl (fun s m => s.finalOf m.eid St.aborted 0x1A01 []) s

/-- A held domain is fenced. -/
def State.fence (s : State) (d : Nat) : State :=
  let s := s.hlkFree d
  ((((s.setDom d { s.dom d with st := .fenced }).dhdCount 24).abortDom d).claimStep d false).releaseStep d true

/-- The lease of a domain is current (R384): its last granted renewal, or its claim, is no more than 11 ticks ago. -/
def State.leaseCurrent (s : State) (d : Nat) : Bool :=
  let r := max (KMap.getD s.dhd.grants d 0) (s.dom d).claimAt
  decide (s.clk ≤ r + 11)

/-- LEASE_RENEW (R384): three ticks have passed since the last renewal. -/
def execLeaseRenew (s : State) : Host.Outcome State Fault Refusal :=
  .next <|
    let due := s.dhd.renewTicks.all fun r => decide (r.2 + 3 ≤ s.clk)
    if !s.dhd.armed || !s.lease || !due then s
    else
      s.onDhd fun h =>
        { h with renewSeq := (h.renewSeq + 1) % 2 ^ 32
                 renewTicks := (h.renewTicks.filter fun r => decide (s.clk ≤ r.2 + 12)) ++ [((h.renewSeq + 1) % 2 ^ 32, s.clk)] }

/-- LEASE_LAPSE (R384): at a boundary a held domain's lease is not current. A head that runs alone has no lease to lose. -/
def execLeaseLapse (dom : Fin 8) (s : State) : Host.Outcome State Fault Refusal :=
  .next <|
    if s.dhd.armed && s.lease && s.dhd.hst != .alone && (s.dom dom).st.held && !s.leaseCurrent dom then s.fence dom else s

/-- FENCE_EXPIRY (R388): member writes of a taken domain start. -/
def execFenceExpiry (dom : Fin 8) (s : State) : Host.Outcome State Fault Refusal :=
  .next <|
    let d : Nat := dom
    let x := s.dom d
    if x.fenceUntil = 0 || s.clk < x.fenceUntil then s
    else
      let s := s.setDom d { x with fenceUntil := 0 }
      let cs := s.fpt.cmds.filter fun c => c.held && c.dom == d
      let s := s.onFpt fun f => { f with cmds := f.cmds.map fun c =>
        if c.held && c.dom == d then { c with held := false, at_ := s.clk } else c }
      s.emits (cs.map fun c => .nvme c.cid c.nsn c.lba c.n c.data c.tags)

/-! ## Heartbeats (R348, R379, R380, R383, R384, R390) -/

/-- The payload of a heartbeat (R348, R383). -/
def State.hbPayload (s : State) (path : Nat) : Bytes :=
  let renew := if s.lease then s.heldMask + bitsWhere 8 fun d => (s.dom d).st == .claiming else 0
  [byteOf (b2n s.part.headB), byteOf path, byteOf (s.dhd.hst.code + 128 * s.par Par.dhdMode), byteOf s.heldMask] ++ zeros 4
    ++ leBytes 8 s.tick ++ [byteOf renew, byteOf s.dhd.granting, byteOf s.homeSet, 0]
    ++ leBytes 4 s.dhd.renewSeq ++ leBytes 4 s.dhd.grantSeq ++ zeros 4

/-- HEARTBEAT_TRANSMIT (R348, R374): 10 µs have passed; one heartbeat on each path whose link is up. -/
def execHeartbeatTransmit (s : State) : Host.Outcome State Fault Refusal :=
  .next <|
    if !s.peerUp then s
    else
      [0, 1].foldl
        (fun s p => match s.conn 0 with
          | some x =>
            if s.linkUp p then
              let h := s.pathSt p
              let pkt := { Pkt.make Grmp.heartbeat 0 0 0 32 (s.hbPayload p) with psn := h.txSeq }
              (s.setPath p { h with txSeq := (h.txSeq + 1) % 2 ^ 32 }).sendOn 0 x p (s.subLow p) pkt
            else s
          | none => s) s

/-- The peer's home set (R380): where the sets overlap or leave a domain uncovered, head B takes the complement. -/
def State.peerHomeSet (s : State) (home : Nat) : State :=
  let own := s.par Par.dhdHome
  let s := s.onDhd fun h => { h with peerHome := home }
  if !s.part.headB then s
  else if home + own = 255 && (List.range 8).all fun d => bitAt home d != bitAt own d then
    s.onDhd fun h => { h with homeBad := false, homeOver := none }
  else
    let t := s.onDhd fun h => { h with homeBad := true, homeOver := some (255 - home % 256) }
    if s.dhd.homeBad then t else (t.latch errDhd 0 5).event Reg.dhdHoldoff

/-- The peer's interlock mode (R379). -/
def State.peerModeIs (s : State) (mode : Nat) : State :=
  let bad := mode != s.par Par.dhdMode
  let t := s.onDhd fun h => { h with peerMode := mode, modeBad := bad }
  if bad && !s.dhd.modeBad then (t.latch errDhd 0 4).event Reg.dhdStatus else t

/-- The peer reports a domain held that this head holds too (R390): head B yields. -/
def State.conflict (s : State) (d : Nat) : State :=
  if s.part.headB && bitAt s.dhd.peerOwned d && (s.dom d).st.held then
    (((s.fence d).peerMsg 0x15 (byteOf d :: zeros 7)).latch errDhd d 6).sklFold 0x32 d 6 0
  else s

/-- The lease fields of a heartbeat (R383, R384): what this head grants, and what it is granted. -/
def State.takeLease (s : State) (b : Bytes) : State :=
  if !s.lease then s
  else
    let renew := leAt b 16 1
    let grant := leAt b 17 1
    let at_ := (s.dhd.renewTicks.find? fun r => r.1 == leAt b 24 4).map (·.2)
    let s := s.onDhd fun h =>
      { h with granting := if h.hst == .alone then 0 else bitsWhere 8 fun d => bitAt renew d && !bitAt s.heldMask d
               grantSeq := if psnLe h.grantSeq (leAt b 20 4) then leAt b 20 4 else h.grantSeq
               grants := match at_ with
                 | none => h.grants
                 | some r => (List.range 8).foldl (fun g d => if bitAt grant d then KMap.put g d (max r (KMap.getD g d 0)) else g) h.grants }
    (List.range 8).foldl
      (fun s d =>
        let x := s.dom d
        if at_.isNone || !bitAt grant d then s
        else if x.st == .claiming then s.enterLoading d
        else if x.st == .fenced && s.leaseCurrent d && !bitAt s.dhd.peerOwned d then s.setDom d { x with st := .owned }
        else s) s

/-- A valid heartbeat on a path. -/
def State.takeBeat (s : State) (path : Nat) (p : Pkt) : State :=
  let b := p.payload
  let x := s.pathSt path
  let s := s.setPath path { x with live := true, rxSeq := some p.psn, run := min 100 (x.run + 1) }
  let s := if s.pathUp path && !s.pathUp (1 - path) then s.switchPath (1 - path) else s
  let s := s.onDhd fun h =>
    { h with peer := HSt.ofCode (leAt b 2 1 % 128), peerOwned := leAt b 3 1, peerSeen := true }
  let s := ((s.peerModeIs (leAt b 2 1 / 128)).peerHomeSet (leAt b 18 1)).takeLease b
  (List.range 8).foldl (fun s d => s.conflict d) s

/-- GRMP_HEARTBEAT (R348): on CID 0, with a sequence above the last accepted on its path. -/
def execGrmpHeartbeat (_port : Fin 2) (frame : Bytes) (s : State) : Host.Outcome State Fault Refusal :=
  .next <| s.rx frame Grmp.heartbeat fun s c p =>
    let path := p.flags / 4 % 2
    let newer := (s.pathSt path).rxSeq.all fun n => psnLe n p.psn && n != p.psn
    if c != 0 || !s.peerUp || !newer || p.payload.length != 32 then s else (s.takeAck 0 p.apsn).takeBeat path p

/-! ## Witnesses and takeover (R377, R388) -/

/-- A network witness: heartbeats prove a path. -/
def State.witness (s : State) (p : Nat) : Bool := s.peerUp && s.linkUp p && (s.pathSt p).live

/-- The digest of the tenant table's live generations (R393). -/
def State.tenantDigest (s : State) : Bytes :=
  sha256 (s.data.tenants.flatMap fun t => leBytes 2 t.1 ++ (t.2.live.mergeSort (· ≤ ·)).flatMap (leBytes 2))

/-- The failback health checks of R391, check i in bit i - 1. -/
def State.healthBits (s : State) : Nat :=
  let h := s.dhd
  b2n (s.ready && h.selftestOk) + 2 * b2n (s.rbit Reg.memStatus 1 && s.rbit Reg.hthStatus 0)
    + 4 * b2n (s.witness 0 && s.witness 1 && s.hbtIn) + 8 * b2n h.peerDigest.isSome
    + 16 * b2n (h.peerDigest == some s.tenantDigest)
    + 32 * b2n (h.peerDigest.isSome && (List.range 8).all fun d => !bitAt h.peerOwned d || bitAt h.resynced d)

/-- Send JOIN (R393). -/
def State.sendJoin (s : State) (bits : Nat) : State :=
  s.peerMsg 0x10 ([byteOf s.dhd.hst.code, byteOf (s.par Par.dhdMode), byteOf s.homeSet, byteOf bits] ++ zeros 4 ++ s.tenantDigest)

/-- A joining head's checks at a boundary (R391; log entry 29): JOIN goes out as it begins and as its bits change. -/
def State.joinTick (s : State) : State :=
  let bits := s.healthBits
  let h := s.dhd
  let hold := if bits = 63 then some (h.holdStart.getD s.clk) else none
  let t := s.onDhd fun h => { h with health := bits, holdStart := hold, joined := h.joined || s.peerUp }
  if s.peerUp && (!h.joined || h.health != bits) then t.sendJoin bits else t

/-- Judge the witnesses at a tick boundary (R377, R388, R555). -/
def State.judgeHead (s : State) : State :=
  let a := s.witness 0
  let b := s.witness 1
  let l := s.hbtIn
  let fault := s.dhd.armed && (a || b) && !l
  let s := if fault && !s.dhd.lineBad then (s.latch errDhd 0 3).event Reg.dhdHlk else s
  let s := s.onDhd fun h => { h with silent := if a || b || l then 0 else h.silent + 1, lineBad := fault }
  let h := s.dhd
  let net := a || b
  let new :=
    if !h.armed then h.hst
    else
      match h.hst with
      | .booting | .isolated | .active =>
        if net && h.peerSeen && h.peer == .alone then .joining
        else if !net && l then .isolated
        else if h.hst == .isolated && net then .active
        else if h.hst == .booting && a && b && l && h.peerSeen && (h.peer == .active || h.peer == .booting) then .active
        else h.hst
      | x => x
  let s := s.onDhd fun h => { h with hst := new }
  if new == .joining then s.joinTick else s

/-- PEER_FAILED (R388): every witness has been silent at DHD_confirm_ticks boundaries in a row. -/
def execPeerFailed (s : State) : Host.Outcome State Fault Refusal :=
  .next <|
    if !s.dhd.armed || s.dhd.hst == .alone || s.dhd.silent < s.par Par.confirmTicks then s
    else
      let s := (s.onDhd fun h =>
        { h with hst := .alone, peer := .booting, peerOwned := 0, peerSeen := false, granting := 0, joined := false,
                 failing := false, holdStart := none, peerDigest := none, resynced := 0, health := 0 }).dhdCount 0
      let given := (List.range 8).filter fun d => (s.dom d).given
      let s := given.foldl (fun s d => (s.setDom d { s.dom d with given := false }).releaseStep d false) s
      if s.dhd.modeBad then s
      else
        (List.range 8).foldl
          (fun s d =>
            let x := s.dom d
            if x.st == .unowned || x.st == .fenced then s.startClaim d true false
            else if x.st == .claiming then
              let s := s.setDom d { x with taken := true, handed := false, claimAt := s.clk }
              if s.lease then s.enterLoading d else s
            else s) s

/-! ## Failback (R390 to R393) -/

/-- YIELD (R390): head B has given up a domain. -/
def execYield (s : State) : Host.Outcome State Fault Refusal :=
  .next <| s.takeMsg 0 0x15 fun s b => s.onDhd fun h => { h with peerOwned := setBitTo h.peerOwned (leAt b 0 1) false }

/-- Resynchronise the peer's image of a domain (R391, check 6): its live ring blocks, between RESYNC and RESYNC_DONE. -/
def State.resync (s : State) (d : Nat) : State :=
  let j := s.journal d
  let s := s.peerMsg 0x13 ([byteOf d, 0, 0, 0] ++ leBytes 4 j.used)
  let s := (j.recs.filter fun r => r.st != .waiting).foldl (fun s r => s.mirror d r.jseq r.pos (recBytes d j.epoch r)) s
  s.peerMsg 0x14 ([byteOf d, 0, 0, 0] ++ leBytes 8 ((j.recs.head?.map (·.jseq)).getD j.nextSeq))

/-- JOIN (R391, R393). A head that runs alone answers a joining peer that has not its namespace table with the table, the
images of its domains, and a JOIN of its own, and times the hold-off while every check passes. -/
def execJoin (s : State) : Host.Outcome State Fault Refusal :=
  .next <| s.takeMsg 0 0x10 fun s b =>
    let bits := leAt b 3 1
    let s := s.onDhd fun h => { h with peer := HSt.ofCode (leAt b 0 1), peerDigest := some (slice b 8 32) }
    let s := (s.peerModeIs (leAt b 1 1)).peerHomeSet (leAt b 2 1)
    if s.dhd.hst != .alone then s
    else
      let hold := if bits % 64 = 63 then some (s.dhd.holdStart.getD s.clk) else none
      let s := s.onDhd fun h => { h with health := bits, holdStart := hold }
      if bitAt bits 3 then s
      else
        let s := s.fpt.ns.foldl (fun s e => s.peerMsg 2 (leBytes 2 e.1 ++ zeros 6 ++ padTo e.2.nguid 16)) s
        let s := ((List.range 8).filter fun d => (s.dom d).st.held).foldl (fun s d => s.resync d) s
        s.sendJoin 0

/-- RESYNC (R391): the image of a domain is written anew. -/
def execResync (s : State) : Host.Outcome State Fault Refusal :=
  .next <| s.takeMsg 0 0x13 fun s b =>
    let d := leAt b 0 1
    if 7 < d then s
    else (s.setJournal d { s.journal d with image := [] }).onDhd fun h => { h with resynced := setBitTo h.resynced d false }

/-- RESYNC_DONE (R391). -/
def execResyncDone (s : State) : Host.Outcome State Fault Refusal :=
  .next <| s.takeMsg 0 0x14 fun s b =>
    let d := leAt b 0 1
    if 7 < d then s
    else (s.setJournal d { s.journal d with peerTail := leAt b 4 8 }).onDhd fun h => { h with resynced := setBitTo h.resynced d true }

/-- Seconds of the hold-off remaining, 0 outside JOINING (R391; log entry 29). -/
def State.holdSecs (s : State) : Nat :=
  if s.dhd.hst != .joining then 0
  else
    match s.dhd.holdStart with
    | none => s.par Par.failbackS
    | some t => ceilDiv (t + msTicks 1000 * s.par Par.failbackS - s.clk) (msTicks 1000)

/-- FAILBACK_HOLDOFF_EXPIRY (R392): the head that runs alone releases the joining head's home domains, one at a time. -/
def execFailbackHoldoffExpiry (s : State) : Host.Outcome State Fault Refusal :=
  .next <|
    match s.dhd.holdStart with
    | none => s
    | some t =>
      if s.dhd.hst != .alone || s.dhd.failing || s.clk < t + msTicks 1000 * s.par Par.failbackS then s
      else (s.onDhd fun h => { h with failing := true }).failbackNext

/-- HEAD_STATUS (R394). -/
def execHeadStatus (eid : Nat) (s : State) : Host.Outcome State Fault Refusal :=
  .next <| s.cmd eid 0x6012 fun s e =>
    s.okReply e ([byteOf s.dhd.hst.code, byteOf s.dhd.peer.code, byteOf s.heldMask, byteOf s.homeSet, byteOf s.dhd.peerOwned,
      byteOf (s.par Par.dhdMode + 2 * b2n s.dhd.armed), 0, 0] ++ leBytes 4 s.holdSecs ++ leBytes 4 (s.reg Reg.dhdCnt).toNat)

end Sys2Proof.Machine
end

