-- ==== Sys2Proof/Machine/Reshape.lean ====
section
/-! DEFINITION. On-line reshape (R236 to R240). -/

namespace Sys2Proof.Machine

open Sys2Proof

/-- The changes R236 permits, and a group that may be reshaped at all. -/
def reshapeOk (g : Group) (m k : Nat) : Bool :=
  let grow := decide (m + k > g.m + g.k)
  let shape :=
    if g.parity then
      if g.parent.isSome then m == g.m && decide (g.k < k) && decide (k ≤ 4)
      else decide (g.m ≤ m ∧ m ≤ 32 ∧ g.k ≤ k ∧ k ≤ 4)
    else m == g.m && decide (g.k < k) && decide (k ≤ 3)
  shape && grow && decide (g.gen < 0xFFFF)

/-- Judge the members added to a group: the checks of R211, their size, and the namespaces the group already reaches
(R236, R240). -/
def State.judgeAdded (s : State) (gi : Nat) (g : Group) (ms : List Member) (labs : List Bool) : Option (Nat × Nat) :=
  let lb := s.labelBlocks (s.rootOf gi)
  let need := g.stripes * g.unit
  let small := fun (m : Member) => m.kind == 0 && decide ((m.count - lb) / g.unit * g.unit < need)
  let smallG := fun (m : Member) => m.kind == 1 && (s.groupOf m.start).any fun x => decide (x.2.dataBlocks / g.unit * g.unit < need)
  let have_ := g.members.flatMap fun i =>
    match s.node i with
    | some (.leaf l) => [l.nsid]
    | some (.group _) => (s.treeLeaves i).map fun e => e.2.nsid
    | _ => []
  match s.judgeMembers ms labs lb g.unit g.dom with
  | some x => some x
  | none =>
    if ms.any small then some (St.invalidParam, 0x1502)
    else if ms.any smallG then some (St.invalidParam, 0x1503)
    else if ms.any fun m => (s.memberNs m).any have_.contains then some (St.invalidParam, 0x1507)
    else none

/-- Start a reshape: the added members take the positions after the old ones. -/
def State.beginReshape (s : State) (gi : Nat) (g : Group) (m k : Nat) (ms : List Member) : State :=
  let lab := s.labelBlocks (s.rootOf gi) / 256
  let lists := ceilDiv (m + k) 12 - g.lists.length
  let ns := s.takeNodes (lists + ms.length)
  let s := (ns.take lists).foldl (fun s i => s.setNode i (.list gi)) s
  let (s, mem) := s.takeMembers gi g.depth lab ms (ns.drop lists) g.members.length
  let geo : Geo := ⟨g.parity, m, k, g.unit, g.gen + 1⟩
  s.setNode gi (.group { g with
    members := g.members ++ mem, lists := g.lists ++ ns.take lists
    reshape := ⟨1, 0, m, k, g.gen + 1, 0, ceilDiv g.dataBlocks geo.d⟩ })

/-- RESHAPE_START (R236, R240): `lab` is whether each added slice carries another tree's label. It replies after the
label write. -/
def execReshapeStart (eid : Nat) (lab : List Bool) (s : State) : Host.Outcome State Fault Refusal :=
  .next <| s.cmd eid 0x1007 fun s e => s.onGroup e fun s gi g =>
    let m := e.p 0 1
    let k := e.p 1 1
    let ms := e.members (e.p 2 1)
    let root := s.rootOf gi
    let fresh := ceilDiv (m + k) 12 - g.lists.length + (ms.filter fun m => m.kind == 0).length
    if e.area.length < 64 + 32 * e.p 2 1 then s.fail e St.invalidParam 0x0103
    else if !reshapeOk g m k || m + k != g.m + g.k + ms.length then s.fail e St.invalidParam 0x1509
    else
      match s.judgeAdded gi g ms lab with
      | some (st, dt) => s.fail e st dt
      | none =>
        if g.st != .optimal then s.fail e St.busy 0x1503
        else if s.treeBusy root then s.fail e St.busy 0x1502
        else if s.nodesFree < fresh then s.fail e St.noSpace 0x1501
        else if !imageFits (s.labelBlocks root / 256) ((s.treeNodes root).length + fresh + s.memberNodes ms) then
          s.fail e St.noSpace 0x1502
        else
          let s := s.beginReshape gi g m k ms
          match s.group? gi with
          | none => s
          | some h =>
            let ns := (h.members.drop g.members.length).flatMap s.treeNodes
            (s.note g.dom .tree ((gi :: h.lists ++ ns).map s.nodeItem)).writeLabels root eid .reply
              (leBytes 2 h.reshape.gen ++ zeros 6 ++ leBytes 8 h.reshape.stop)

/-- Set the RESHAPE field of a group. -/
def State.setReshape (s : State) (gi : Nat) (f : Reshape → Reshape) : State :=
  match s.group? gi with
  | some g => s.setNode gi (.group { g with reshape := f g.reshape })
  | none => s

/-- Hold a reshape, and write the labels (R240). -/
def State.holdReshape (s : State) (gi : Nat) : State :=
  (s.setReshape gi fun r => { r with st := 3, heldIn := r.st }).writeLabels (s.rootOf gi) 0 .upkeep []

/-- A STEP record of a group: with the data of a checkpoint, or advancing past a stripe (R222, R238). -/
def State.stepRec (s : State) (gi : Nat) (g : Group) (a : Nat) (ckpt : Option Bytes) : State :=
  s.note g.dom .step [(9, leBytes 8 (handleOf gi g) ++ leBytes 8 a ++ leBytes 1 (b2n ckpt.isSome) ++ zeros 7 ++ ckpt.getD [])]

/-- The checkpoint record of a group's next step, if it has been made. -/
def State.ckptOf (s : State) (gi : Nat) (g : Group) : Option JRec :=
  (s.journal g.dom).recs.find? fun r => r.items.any fun x =>
    x.1 == 9 && leAt x.2 0 8 == handleOf gi g && leAt x.2 8 8 == g.reshape.next && leAt x.2 16 1 == 1

/-- A data-space block of a group that its tree's lost list names in the old layout. -/
def State.oldLost (s : State) (root gi : Nat) (g : Group) (blk : Nat) : Bool :=
  let q := g.oldGeo
  (s.tree root).lostList.any fun o => o.any fun e =>
    e.group == handleOf gi g && e.stripe == blk / q.d && decide (g.reshape.next ≤ e.stripe)
      && bitAt e.units (blk % q.d / q.b) && bitAt e.rows (blk % q.b)

/-- Replace the lost-list entries of the rows a step migrated by entries in the new layout (R240). -/
def State.moveLost (s : State) (root gi : Nat) (g : Group) (lost : List Nat) : State :=
  let a := g.reshape.next
  let q := g.newGeo
  let old := g.oldGeo
  let t := s.tree root
  let gone := fun (e : LostEntry) => e.group == handleOf gi g && decide (a ≤ e.stripe) && decide ((e.stripe + 1) * old.d ≤ (a + 1) * q.d)
  let drop := (t.lostList.filterMap id).filter gone
  if lost.isEmpty && drop.isEmpty then s
  else
    let es := t.lostList.map fun o => if o.any gone then none else o
    let e : LostEntry := ⟨handleOf gi g, a, bitsWhere 64 fun r => lost.any fun i => i % q.b == r,
      bitsWhere 32 fun u => lost.any fun i => i / q.b == u, ((drop.head?.map (·.cause)).getD 1), g.depth⟩
    let es := if lost.isEmpty then es else mergeLost (s.lostCap root) es e
    let items := (drop.map fun e => ((8, leBytes 8 e.group ++ leBytes 8 e.stripe ++ zeros 16) : Nat × Bytes))
      ++ if lost.isEmpty then [] else [(8, e.bytes)]
    (s.setTree root { t with lostList := es }).note g.dom .lost items

/-- Write new stripe `a` of a group: all its units, of a mirror those of the added members; then advance the boundary
(R238). -/
def State.writeStep (s : State) (gi : Nat) (g : Group) (blks : List Blk) : State :=
  let root := s.rootOf gi
  let a := g.reshape.next
  let q := g.newGeo
  let s := s.setReshape gi fun r => { r with next := a + 1, st := if r.st == 1 && r.stop ≤ a + 1 then 2 else r.st }
  let ws := stripeWrites s.data.nodes (s.labelBlocks root) (s.data.nodes.length + 1) gi (a * q.d) blks
  let new := (g.members.drop (g.m + g.k)).flatMap s.treeNodes
  let ws := if g.parity then ws else ws.filter fun w => new.contains w.leaf
  let s := ((s.driveWrites g.dom (.step gi (a * q.d) q.d) ws).1).stepRec gi g a none
  if (a + 1) % 1024 = 0 then s.writeLabels root 0 .upkeep [] else s

/-- A reshape of a group may take a step: its domain is owned and its instance in Basic. -/
def State.mayReshape (s : State) (g : Group) : Bool := s.owns g.dom && s.basicFree (instKey 6 g.dom)

/-- The blocks of the next step are locked by other work: member writes of the stripes that hold them, or of the last
step, are outstanding. -/
def State.stepBlocked (s : State) (gi : Nat) (g : Group) : Bool :=
  let root := s.rootOf gi
  let a := g.reshape.next
  let d := g.newGeo.d
  let busy := fun (blk : Nat) =>
    match s.group? root with
    | none => false
    | some r =>
      let b := s.lift gi blk
      let q := r.geoAt b
      s.stripeBusy root (b / q.d * q.d) q.d
  ((List.range d).any fun i => busy (a * d + i)) || s.fpt.cmds.any fun c =>
    match c.why with
    | .step x _ _ => x == gi
    | _ => false

/-- RESHAPE_STEP (R238): `old` are the blocks of the next new stripe as read in the old layout, reconstructed where
needed. A step that needs a checkpoint first makes its record and waits until that is complete. A group that is not
OPTIMAL holds the reshape (R240). -/
def execReshapeStep (group : Nat) (old : Fetch) (s : State) : Host.Outcome State Fault Refusal :=
  .next <|
    match s.group? group, old with
    | some g, .ok bytes =>
      let a := g.reshape.next
      let q := g.newGeo
      let d := g.oldGeo.d
      if g.reshape.st != 1 || !s.mayReshape g || s.stepBlocked group g then s
      else if g.st != .optimal then s.holdReshape group
      else
        let data := (List.range q.d).map fun i =>
          if a * q.d + i < g.dataBlocks then padTo (slice bytes (4096 * i) 4096) 4096 else zeros 4096
        let go := fun (s : State) =>
          let root := s.rootOf group
          let blks := data.zipIdx.map fun (b, i) =>
            (⟨b, true, decide (g.dataBlocks ≤ a * q.d + i), s.oldLost root group g (a * q.d + i)⟩ : Blk)
          let lost := (List.range q.d).filter fun i => s.oldLost root group g (a * q.d + i)
          (s.moveLost root group g lost).writeStep group g blks
        if g.parity && decide (a * q.d < a * d + d) then
          match s.ckptOf group g with
          | none => s.stepRec group g a (some data.flatten)
          | some r => if r.st == .complete then go s else s
        else go s
    | _, _ => s

/-- RESHAPE_ZERO_STEP (R239): the next stripe of the zero pass. -/
def execReshapeZeroStep (group : Nat) (s : State) : Host.Outcome State Fault Refusal :=
  .next <|
    match s.group? group with
    | none => s
    | some g =>
      if g.reshape.st != 2 || decide (g.stripes ≤ g.reshape.next) || !s.mayReshape g then s
      else if g.st != .optimal then s.holdReshape group
      else s.writeStep group g (List.replicate g.newGeo.d ⟨zeros 4096, true, true, false⟩)

/-- RESHAPE_COMPLETE (R239): at the end of the zero pass the new geometry takes effect. -/
def execReshapeComplete (group : Nat) (s : State) : Host.Outcome State Fault Refusal :=
  .next <|
    match s.group? group with
    | none => s
    | some g =>
      if g.reshape.st != 2 || decide (g.reshape.next < g.stripes) || !s.mayReshape g then s
      else
        let root := s.rootOf group
        let stripes := s.stripesOf (s.labelBlocks root) g.unit g.members
        let h := { g with
          m := g.reshape.m, k := g.reshape.k, gen := g.reshape.gen, stripes := stripes
          dataBlocks := stripes * g.newGeo.d, reshape := Reshape.none }
        (((s.setNode group (.group h)).restate group).treeChange root (s.upFrom group)).event (Reg.tskBg + 0x1000)

/-- RESHAPE_RESUME (R240): at a tick boundary at which the group is OPTIMAL again. -/
def execReshapeResume (group : Nat) (s : State) : Host.Outcome State Fault Refusal :=
  .next <|
    match s.group? group with
    | none => s
    | some g =>
      if g.reshape.st == 3 && g.st == .optimal && s.mayReshape g then s.setReshape group fun r => { r with st := r.heldIn, heldIn := 0 }
      else s

/-- RESHAPE_QUERY (R240). -/
def execReshapeQuery (eid : Nat) (s : State) : Host.Outcome State Fault Refusal :=
  .next <| s.cmd eid 0x1008 fun s e => s.onGroup e fun s _ g =>
    let r := g.reshape
    s.okReply e ([byteOf r.st, byteOf r.m, byteOf r.k, 0] ++ leBytes 6 r.next ++ leBytes 6 r.stop)

end Sys2Proof.Machine
end

