-- ==== Sys2Proof/Machine/Replay.lean ====
section
/-! DEFINITION. Replay of a domain's journal and loading of its index, as it is taken, claimed or handed over (R226, R388,
R389). -/

namespace Sys2Proof.Machine

open Sys2Proof

/-! ## Records as read (R222) -/

/-- A record that has been read: its place, bytes and fields. -/
structure RepRec where
  pos : Nat
  bytes : Bytes
  jseq : Nat
  ty : Nat
  sdw : Nat
  epoch : Nat
  tick : Nat
  items : List (Nat × Bytes)
deriving DecidableEq, Repr

/-- The bodies of a record's parts joined, if every part is valid and the chain complete. -/
def readParts (d : Nat) : Nat → Bytes → Option Bytes
  | 0, _ => none
  | n + 1, b =>
    let len := 4096 * leAt b 4 4
    let body := slice b 64 (len - 64)
    if leAt b 0 1 != 1 || leAt b 2 1 != d || len < 4096 || b.length < len || leAt b 62 2 != crc16 (b.take 62)
        || leAt b 28 4 != crc32c body then none
    else if bitAt (leAt b 3 1) 0 then (readParts d n (b.drop len)).map (body ++ ·)
    else some body

/-- The items of a record. -/
def readItems : Nat → Bytes → List (Nat × Bytes)
  | 0, _ => []
  | n + 1, b =>
    if leAt b 0 2 = 0 then []
    else
      let len := leAt b 2 4
      (leAt b 0 2, slice b 8 len) :: readItems n (b.drop (8 + roundUp len 8))

/-- A valid record of a domain. -/
def readRec (d : Nat) (x : Nat × Bytes) : Option RepRec :=
  let b := x.2
  (readParts d (b.length / 4096) b).map fun body =>
    ⟨x.1, b, leAt b 8 8, leAt b 1 1, leAt b 16 8, leAt b 24 4, leAt b 32 8, readItems (body.length / 8) body⟩

/-- The epoch and tail of the valid header with the greater pair (R222). -/
def bestHeader (d : Nat) (hs : List Bytes) : Option (Nat × Nat) :=
  (hs.filter fun h => h.length == 4096 && leAt h 0 1 == 1 && leAt h 1 1 == d && leAt h 4092 4 == crc32c (h.take 4092)).foldl
    (fun best h =>
      let x := (leAt h 4 4, leAt h 8 8)
      match best with
      | none => some x
      | some y => if y.1 < x.1 || (y.1 == x.1 && decide (y.2 < x.2)) then some x else some y) none

/-- Bytes of the peer-side copy at the ring blocks of a record. -/
def imageAt (m : Mem) (pos n : Nat) : Bytes :=
  let first := 4096 * (16384 - pos)
  if n ≤ first then Mem.read m (4096 * pos) n else Mem.read m (4096 * pos) first ++ Mem.read m 8192 (n - first)

/-- A word of those ring blocks of the peer-side copy of a domain is poisoned, so that reading them fails (R403). -/
def State.imageBad (s : State) (d pos n : Nat) : Bool :=
  let first := 4096 * (16384 - pos)
  s.mem.poison.any fun w =>
    let a := w - d * 2 ^ 26
    decide (d * 2 ^ 26 ≤ w) &&
      (decide (4096 * pos ≤ a ∧ a < 4096 * pos + min n first) || decide (8192 ≤ a ∧ a < 8192 + (n - first)))

/-- The complete records of a domain, in JSEQ order (R226): valid, of the header's epoch and not before its tail,
identical on both member copies, and, where the peer's copy is there, present in it. -/
def State.completeRecs (s : State) (d : Nat) (l : Loaded) : List RepRec :=
  match bestHeader d l.heads with
  | none => []
  | some (epoch, tail) =>
    let img := (s.journal d).image
    let inPeer := fun (x : Nat × Bytes) =>
      match l.peer with
      | some ps => ps.contains x
      | none => img.isEmpty || (imageAt img x.1 x.2.length == x.2 && !s.imageBad d x.1 x.2.length)
    let xs := l.ringA.filter fun x => l.ringB.contains x && inPeer x
    ((xs.filterMap (readRec d)).filter fun r => r.epoch == epoch && decide (tail ≤ r.jseq)).mergeSort fun a b => a.jseq ≤ b.jseq

/-- STRIPE items of a record. -/
def RepRec.stripes (r : RepRec) : List Bytes := (r.items.filter (·.1 == 5)).map (·.2)

/-- The stripe check (R226): the COMMIT records above the highest SDW whose stripes all match their DCHK stay, each with
the data that was read. -/
def checkRecs (sdw : Nat) : List RepRec → List Fetch → List (RepRec × List (Bytes × Bytes))
  | [], _ => []
  | r :: rs, fs =>
    if r.ty = 1 && sdw < r.jseq then
      let its := r.stripes
      let pairs := its.zipIdx.filterMap fun (it, i) =>
        match fs.getD i .failed with
        | .ok b => if dchk b = leAt it 16 4 then some (it, b) else none
        | _ => none
      let rest := checkRecs sdw rs (fs.drop its.length)
      if pairs.length = its.length then (r, pairs) :: rest else rest
    else (r, []) :: checkRecs sdw rs fs

/-! ## Applying records -/

/-- The geometry of a layout generation of a group (R202). -/
def Group.geoOf (g : Group) (gen : Nat) : Geo := if gen = g.gen then g.oldGeo else g.newGeo

/-- Where the data blocks of a range of a tree lie: leaf and LBA of each. -/
def State.dataPlaces (s : State) (root off n : Nat) : List (Nat × Nat) :=
  (List.range n).filterMap fun i =>
    (walkIn s.data.nodes (s.labelBlocks root) (s.data.nodes.length + 1) root (off + i)).getLast?.map fun w => (w.node, w.off)

/-- Rewrite the parity of a checked stripe at every level (R226). -/
def State.reparity (s : State) (d : Nat) (x : Bytes × Bytes) : State :=
  match s.groupOf (leAt x.1 0 8) with
  | none => s
  | some (gi, g) =>
    let q := g.geoOf (leAt x.1 20 2)
    let off := leAt x.1 8 8 * q.d
    let data := s.dataPlaces gi off q.d
    let ws := (s.writesOf gi off (blksOf x.2 x.2.length)).filter fun w => !data.contains (w.leaf, w.lba)
    (s.driveWrites d (.upkeep 0) ws).1

/-- An index entry from its 48 bytes. -/
def readIdx (b : Bytes) (tick : Nat) : IdxEntry :=
  let w := leAt b 44 4
  { key := b.take 32, object := bitAt w 29
    st := match w / 2 ^ 30 with
      | 1 => .prov
      | 2 => .final
      | _ => .tomb
    count := w % 2 ^ 29, extent := leAt b 32 8, offset := leAt b 40 3, rlen := leAt b 43 1, owner := 0, since := tick }

/-- Put an entry into a domain's index as it stands after a change. -/
def State.putIdx (s : State) (d : Nat) (e : IdxEntry) : State :=
  match s.findPlace d e.key fun x => x.object == e.object with
  | some p => s.setSlot d p (some e)
  | none => (s.insertIdx d e).getD s

/-- A bucket from its 256 bytes: a provisional entry of the image is of a PUT that never committed. -/
def readBucket (b : Bytes) : Bucket :=
  ⟨leAt b 0 4, (List.range 5).map fun i =>
    let e := readIdx (slice b (16 + 48 * i) 48) 0
    if bitAt (leAt b 4 1) i && e.st != .prov then some e else none⟩

/-- A recipe entry from its 64 bytes. -/
def readRecEntry (b : Bytes) : RecEntry :=
  let f := leAt b 51 1
  { fp := b.take 32, extent := leAt b 32 8, offset := leAt b 40 3, rlen := leAt b 43 1, tagBase := leAt b 44 6
    blocks := leAt b 50 1, unindexed := bitAt f 0, hit := bitAt f 1, lastLen := leAt b 52 2 }

/-- An object from its recipe (R104). -/
def readRecipe (d ext : Nat) (b : Bytes) : ObjRec :=
  { dom := d, tenant := leAt b 16 2, objId := b.take 16, mode := leAt b 18 1, length := leAt b 20 8, jseq := leAt b 32 8
    tick := leAt b 40 8, extent := ext, entries := ((pieces 64 (b.drop 64)).take (leAt b 28 4)).map readRecEntry, dead := none }

/-- An extent from what was read of it. -/
def readExt (x : ExtImg) : Extent :=
  { Extent.make x.num x.start x.blocks x.refs with onTape := x.onTape, flash := !x.onTape, serial := x.serial, dsn := x.dsn, off := x.off }

/-- An object or delete of a replication backlog (R482). -/
def readShip (d : Nat) (b : Bytes) : Ship := ⟨d, leAt b 16 2, b.take 16, leAt b 24 8, leAt b 19 1 == 2, false, 0, none⟩

/-- Put an extent into the extent table of its tree; one that holds nothing is free. -/
def State.putExt (s : State) (x : ExtImg) : State :=
  let t := s.tree x.root
  let es := t.exts.filter fun e => e.num != x.num
  s.setTree x.root
    { t with exts := if x.refs = 0 then es else es ++ [readExt x], nextExt := max t.nextExt (x.num + 1), extDirty := true }

/-- NODE items of a record: leaves and groups as they stand, a group's members from the list nodes of the record where
they are all there. A node of zeros is free. -/
def State.putNode (s : State) (items : List (Nat × Bytes)) (x : Bytes) : State :=
  let i := leAt x 0 4
  let b := slice x 8 64
  let ty := leAt b 0 1
  let listOf := fun (k : Nat) => (items.find? fun y => y.1 == 6 && leAt y.2 0 4 == k && leAt y.2 8 1 == 3).map fun y => slice y.2 8 64
  if ty = 2 then s.setNode i (.leaf (readLeaf b))
  else if ty = 1 then
    let old := s.group? i
    let n := ceilDiv (leAt b 7 1) 12
    let idx := (List.range n).foldl (fun (acc : List Nat) _ => match acc.getLast? with
      | none => [leAt b 12 4]
      | some k => acc ++ [((listOf k).map fun y => leAt y 4 4).getD noNode]) []
    let bs := idx.filterMap listOf
    let g := { readGroup b with members := (old.map (·.members)).getD [], lists := (old.map (·.lists)).getD [], spares := (old.map (·.spares)).getD [] }
    if bs.length = n then
      let s := s.setNode i (.group { g with lists := idx, members := (readLists (leAt b 12 4) bs).2 })
      idx.foldl (fun s k => s.setNode k (.list i)) s
    else s.setNode i (.group g)
  else if ty = 0 then s.onData fun dt => { dt with nodes := KMap.del dt.nodes i }
  else s

/-- A LOST item: an entry of a tree's lost list, or, with no rows, the removal of its stripe's entry. -/
def State.putLost (s : State) (b : Bytes) : State :=
  match s.groupOf (leAt b 0 8) with
  | none => s
  | some (gi, _) =>
    let root := s.rootOf gi
    let t := s.tree root
    let e : LostEntry := ⟨leAt b 0 8, leAt b 8 8, leAt b 16 8, leAt b 24 4, leAt b 28 1, leAt b 29 1⟩
    let es := t.lostList.map fun o => if o.any fun x => x.group == e.group && x.stripe == e.stripe then none else o
    s.setTree root { t with lostList := if e.rows = 0 then es else mergeLost (s.lostCap root) es e }

/-- A STEP item (R238): a checkpoint's data is written in the new layout; the boundary advances. -/
def State.putStep (s : State) (d : Nat) (b : Bytes) : State :=
  match s.groupOf (leAt b 0 8) with
  | none => s
  | some (gi, g) =>
    let a := leAt b 8 8
    let q := g.newGeo
    let s := if leAt b 16 1 = 0 then s
      else
        let blks := blksOf (slice b 24 (4096 * q.d)) (4096 * q.d)
        (s.driveWrites d (.upkeep 0) (stripeWrites s.data.nodes (s.labelBlocks (s.rootOf gi)) (s.data.nodes.length + 1) gi (a * q.d) blks)).1
    s.setReshape gi fun r => if r.next ≤ a then { r with next := a + 1, st := if r.st == 1 && r.stop ≤ a + 1 then 2 else r.st } else r

/-- A DATA item: its blocks go the small-write path, under the layout generation it names (R202). -/
def State.putBlocks (s : State) (d : Nat) (b : Bytes) : State :=
  match s.groupOf (leAt b 0 8) with
  | none => s
  | some (gi, g) =>
    let q := g.geoOf (leAt b 28 2)
    let at_ := (List.range 32).flatMap fun u =>
      if bitAt (leAt b 16 4) u then (List.range 64).filterMap fun r =>
        if bitAt (leAt b 20 8) r then some (leAt b 8 8 * q.d + u * q.b + r) else none
      else []
    at_.zipIdx.foldl (fun s x => s.addSmall d 0 ⟨gi, x.1, true, slice b (32 + 4096 * x.2) 4096⟩) s

/-- Apply one item of a record. IDX items up to the JSEQ of the metadata image are already in it (R389). -/
def State.applyItem (s : State) (d : Nat) (l : Loaded) (r : RepRec) (x : Nat × Bytes) : State :=
  match x.1 with
  | 3 => if r.jseq ≤ l.imgSeq then s else (pieces 48 x.2).foldl (fun s b => s.putIdx d (readIdx b r.tick)) s
  | 4 => s.putBlocks d x.2
  | 6 => s.putNode r.items x.2
  | 7 => (l.news.filter fun e => (Extent.item e.root (readExt e)).2 == x.2).foldl (fun s e => s.putExt e) s
  | 8 => s.putLost x.2
  | 9 => s.putStep d x.2
  | 10 => s.onCopy d (leAt x.2 0 1) fun _ => ⟨some (leAt x.2 4 4), true, false, 0, []⟩
  | _ => s

/-- Apply a complete record: checked stripes get their parity, then its items in order. -/
def State.applyRec (s : State) (d : Nat) (l : Loaded) (x : RepRec × List (Bytes × Bytes)) : State :=
  x.1.items.foldl (fun s it => s.applyItem d l x.1 it) (x.2.foldl (fun s p => s.reparity d p) s)

/-- The recipe a COMMIT record carries beside its object record, by the extent its object entry names. -/
def RepRec.recipe (r : RepRec) : Option (Nat × Bytes) :=
  let obj := (r.items.find? (·.1 == 1)).map (·.2)
  let rcp := (r.items.find? (·.1 == 2)).map (·.2)
  let ext := (r.items.filter (·.1 == 3)).findSome? fun x =>
    ((pieces 48 x.2).map fun b => readIdx b 0).findSome? fun e => if e.object && e.st == .final then some e.extent else none
  match obj, rcp, ext with
  | some o, some b, some x => if b.length = 12 then none else some (x, o ++ b)
  | _, _, _ => none

/-- A lost-list entry from its 32 bytes; zeros are a free one. -/
def readLost (b : Bytes) : Option LostEntry :=
  if allZero b then none else some ⟨leAt b 0 8, leAt b 8 8, leAt b 16 8, leAt b 24 4, leAt b 28 1, leAt b 29 1⟩

/-- The metadata image of a domain takes the place of what this head held of it. -/
def State.loadImage (s : State) (d : Nat) (l : Loaded) : State :=
  let s := s.onData fun x =>
    { x with index := KMap.put x.index d (l.buckets.foldl (fun m b => KMap.put m b.1 (readBucket b.2)) [])
             dirty := x.dirty.filter (·.1 != d), objects := x.objects.filter (·.dom != d) }
  let s := (s.domRoots d).foldl (fun s r => s.setTree r
    { s.tree r with exts := [], nextExt := 16, recRun := none, rcpRun := none, lostList := [] }) s
  let s := l.exts.foldl (fun s x => s.putExt x) s
  let s := (s.domRoots d).foldl (fun s r => s.setTree r { s.tree r with extDirty := false }) s
  let s := l.lost.foldl (fun s x => s.setTree x.1 { s.tree x.1 with lostList := (pieces 32 x.2).map readLost }) s
  let img := (s.metaRoot d).filter (fun _ => !l.chain.isEmpty)
  let s := s.onFld fun f =>
    { f with verifyAt := KMap.put f.verifyAt d l.verifyAt
             images := match img with
               | some r => KMap.put f.images d ⟨r, l.chain, [], l.imgWrites, l.imgSeq, 0, true, false⟩
               | none => KMap.del f.images d }
  s.onDrv fun v => { v with links := KMap.mapV v.links fun k x =>
    { x with backlog := x.backlog.filter (·.dom != d) ++ (l.backlogs.filter fun b => leAt b 18 1 == k).map (readShip d) } }

/-- The objects of a domain are those its index names. -/
def State.loadObjects (s : State) (d : Nat) (rcps : List (Nat × Bytes)) : State :=
  let os := (s.idxAll d).filterMap fun x =>
    if x.2.object && x.2.st == .final then (rcps.find? (·.1 == x.2.extent)).map fun r => readRecipe d r.1 r.2 else none
  s.onData fun dt => { dt with objects := dt.objects ++ os }

/-- Load a domain and replay its journal (R226, R388, R389). The journal of a domain handed over is empty and goes on;
otherwise every copy restarts empty with JEPOCH + 1. -/
def State.replay (s : State) (d : Nat) (l : Loaded) : State :=
  let s := l.labels.foldl (fun s x => s.loadLabel x) s
  let s := s.loadImage d l
  let recs := s.completeRecs d l
  let done := checkRecs (recs.foldl (fun m r => max m r.sdw) 0) recs l.stripes
  let copy := fun (i : Option Nat) => if i.isSome then (⟨i, true, false, 0, []⟩ : JCopy) else JCopy.none
  let j := s.journal d
  let s := s.setJournal d { j with a := copy l.leafA, b := copy l.leafB, imgSeq := l.imgSeq }
  let s := done.foldl (fun s x => s.applyRec d l x) s
  let s := s.loadObjects d (done.filterMap (fun x => x.1.recipe) ++ l.recipes)
  if (s.dom d).handed then s
  else
    let top := recs.foldl (fun m r => max m r.jseq) (((bestHeader d l.heads).map fun h => h.2 - 1).getD 0)
    let j := s.journal d
    (s.setJournal d { Journal.empty with epoch := ((bestHeader d l.heads).map (·.1)).getD 0 + 1, nextSeq := top + 1, a := j.a, b := j.b,
                                         imgSeq := l.imgSeq }).writeHeader d

/-- REPLAY_COMPLETE (R226, R388): `load` is what flash and the peer hold of the domain; without it what this head holds
stands. -/
def execReplayComplete (dom : Fin 8) (load : Option Loaded) (s : State) : Host.Outcome State Fault Refusal :=
  .next <|
    let d : Nat := dom
    if (s.dom d).st != .loading then s
    else
      match load with
      | none => s.ownDomain d
      | some l => (s.replay d l).ownDomain d

/-- INDEX_LOAD_COMPLETE (R389). -/
def execIndexLoadComplete (dom : Fin 8) (s : State) : Host.Outcome State Fault Refusal :=
  .next (s.setDom dom { s.dom dom with idxLoad := false })

end Sys2Proof.Machine
end

