-- ==== Sys2Proof/Machine/Image.lean ====
section
/-! DEFINITION. The metadata image of a domain and the extent tables of its trees, as Fold writes them at every tick
(R196, R482). -/

namespace Sys2Proof.Machine

open Sys2Proof

/-- Buckets of an index region: the home buckets and the overflow buckets (R94). -/
def State.imgBuckets (s : State) : Nat := 2 ^ s.idxB + 2 ^ (s.idxB - 3)

/-- The replication backlogs of a domain as the image holds them; a zero entry ends them. -/
def State.backlogBytes (s : State) (d : Nat) : Bytes :=
  (s.drv.links.flatMap fun l => (l.2.backlog.filter (·.dom == d)).flatMap fun x =>
    padTo x.objId 16 ++ leBytes 2 x.tenant ++ [byteOf l.1, if x.delete then 2 else 1] ++ zeros 4 ++ leBytes 8 x.jseq) ++ zeros 32

/-- Bytes of a chain that the image of a domain needs. -/
def State.imageLen (s : State) (d : Nat) : Nat := 8192 + 256 * s.imgBuckets + (s.backlogBytes d).length

/-- The extents of a chain. -/
def State.chainExts (s : State) (ids : List Nat) : List Extent := ids.filterMap s.extent

/-- The data-space block of block `n` of a chain. -/
def chainBlock : List Extent → Nat → Option Nat
  | [], _ => none
  | x :: xs, n => if n < x.blocks then some (x.start + n) else chainBlock xs (n - x.blocks)

/-- Take an extent of at most `want` blocks for the image. -/
def State.takeExt (s : State) (d root want : Nat) : Option (State × Nat) :=
  match s.group? root with
  | none => none
  | some g =>
    let t := s.tree root
    match t.freeRun g (min 65536 (roundUp want g.oldGeo.d)) with
    | none => none
    | some (start, n) =>
      let e := Extent.make t.nextExt start n 1
      let s := s.setTree root { t with nextExt := t.nextExt + 1, extDirty := true, exts := t.exts ++ [e] }
      some (s.note d .reclaim [Extent.item root e], extId root e.num)

/-- Lengthen a chain to what the image needs; without space it stays as it is. -/
def State.growChain (d : Nat) : Nat → State → Image → State × Image × Bool
  | 0, s, x => (s, x, false)
  | n + 1, s, x =>
    let have_ := (s.chainExts x.chain).foldl (fun a e => a + e.blocks) 0
    let need := ceilDiv (s.imageLen d) 4096
    if need ≤ have_ then
      if 508 < x.chain.length && x.conts.isEmpty then
        match s.takeExt d x.root 1 with
        | none => (s, x, false)
        | some (s, i) => (s, { x with conts := [i] }, true)
      else (s, x, true)
    else
      match s.takeExt d x.root (need - have_) with
      | none => (s, x, false)
      | some (s, i) => State.growChain d n s { x with chain := x.chain ++ [i] }

/-- The header of an image. -/
def State.imageHeader (s : State) (d : Nat) (x : Image) : Bytes :=
  let ids := if x.chain.length ≤ 508 then x.chain else x.chain.take 507 ++ x.conts.take 1
  let h := [1, byteOf d, byteOf s.idxB] ++ zeros 5 ++ leBytes 8 x.pend ++ leBytes 8 x.writes
    ++ leBytes 4 (x.chain.length + x.conts.length) ++ padTo (ids.flatMap (leBytes 8)) 4064
  h ++ leBytes 4 (crc32c h)

/-- The highest number up to which every record's changes are in DDR. -/
def State.appliedSeq (s : State) (d : Nat) : Nat :=
  let j := s.journal d
  let open_ := ((s.data.puts.filter fun p => p.dom == d && p.jseq != 0).map (·.jseq))
    ++ (j.recs.filter fun r => r.st != .complete || r.del.isSome).map (·.jseq)
  open_.foldl (fun m n => min m (n - 1)) (j.nextSeq - 1)

/-- Blocks of a chain to be written: each with its number in the chain and its bytes. -/
def State.imageBlocks (s : State) (d : Nat) : List (Nat × Bytes) :=
  let changed := ((s.data.dirty.filter (·.1 == d)).map fun x => x.2 / 16).eraseDups
  let bs := changed.map fun k => (2 + k, (List.range 16).flatMap fun i => s.bucketBytes (s.bucket d (16 * k + i)))
  let b := s.backlogBytes d
  let backs := if s.drv.links.isEmpty then [] else
    (pieces 4096 (padTo b (roundUp b.length 4096))).zipIdx.map fun y => (2 + s.imgBuckets / 16 + y.2, y.1)
  bs ++ backs

/-- Write the changed extent tables of a domain's trees; the manual does not lay the table out (log entry 21). -/
def State.writeExts (s : State) (d : Nat) : State :=
  ((s.domRoots d).filter fun r => (s.tree r).extDirty).foldl (fun s r =>
    let b := (((s.tree r).exts).flatMap Extent.bytes).take 65536
    (s.setTree r { s.tree r with extDirty := false }).addSmall d 0 ⟨r, 0, true, padTo b (max 4096 (roundUp b.length 4096))⟩) s

/-- Set a domain's image. -/
def State.setImage (s : State) (d : Nat) (x : Image) : State := s.onFld fun f => { f with images := KMap.put f.images d x }

/-- Write a block of a domain's chain. -/
def State.writeChain (s : State) (d : Nat) (x : Image) (b : Nat × Bytes) : State :=
  match chainBlock (s.chainExts x.chain) b.1 with
  | none => s
  | some k => s.addSmall d 0 ⟨x.root, k, true, b.2⟩

/-- The header goes to the copy that the last write left alone. -/
def State.startHeader (s : State) (d : Nat) (x : Image) : State :=
  let x := { x with writes := x.writes + 1, stage := 2 }
  (s.writeChain d x (x.writes % 2, s.imageHeader d x)).setImage d x

/-- The changed buckets, tables and backlogs go out; the header follows them. -/
def State.startImage (s : State) (d : Nat) (x : Image) : State :=
  let (s, x, ok) := State.growChain d 1024 s x
  if !ok then
    let s := if x.short then s else (s.sklFold 0x01 d 0 0).event (Reg.fldBgStat + 0x100 + d)
    s.setImage d { x with short := true, stage := 0 }
  else
    let x := { x with pend := s.appliedSeq d, stage := 1, short := false }
    let s := (s.imageBlocks d).foldl (fun s b => s.writeChain d x b) s
    let s := match x.conts.head?.bind s.extent with
      | none => s
      | some e => s.addSmall d 0 ⟨x.root, e.start, true, padTo ((x.chain.drop 507).flatMap (leBytes 8)) 4096⟩
    let s := (s.writeExts d).onData fun y => { y with dirty := y.dirty.filter (·.1 != d) }
    if s.data.smalls.any fun w => w.dom == d && w.jseq == 0 then s.setImage d x else s.startHeader d x

/-- A domain's image at a tick (R482), while its Tussock instance takes new work (R30). An image whose group is no longer the
metadata group is written anew, whole. -/
def State.imageTick (s : State) (d : Nat) : State :=
  match s.metaRoot d with
  | none => s
  | some root =>
    if !((s.dom d).st == .owned || (s.dom d).st == .releasing) || !s.tskFree d || s.data.smalls.any (fun w => w.dom == d && w.jseq == 0) then s
    else
      match KMap.get? s.fld.images d with
      | some x =>
        if x.root != root then
          let s := (x.chain ++ x.conts).foldl (fun s e => s.freeExt e) s
          let s := s.onData fun y => { y with dirty := y.dirty.filter (·.1 != d) ++ ((KMap.getD y.index d []).map fun b => (d, b.1)) }
          s.startImage d ⟨root, [], [], x.writes, 0, 0, false, false⟩
        else if x.stage = 1 then s.startHeader d x
        else if x.stage = 2 then
          let s := s.setJournal d { s.journal d with imgSeq := max (s.journal d).imgSeq x.pend }
          s.startImage d { x with stage := 0, whole := true }
        else s.startImage d x
      | none => s.startImage d ⟨root, [], [], 0, 0, 0, false, false⟩

end Sys2Proof.Machine
end

