-- ==== Sys2Proof/Machine/Memory.lean ====
section
/-! DEFINITION. The memory and Heather commands (16). -/

namespace Sys2Proof.Machine

open Sys2Proof

/-! ## Filling DDR (R406 to R408) -/

/-- Installed memory in GiB. -/
def State.gib (s : State) : Nat := s.rf Reg.memStatus 27 16

/-- INIT_DONE. -/
def State.initDone (s : State) : Bool := s.rbit Reg.memStatus 1

/-- A fill touches a granule that holds part of a placed region (R408). -/
def State.fillHits (s : State) (f : Fill) : Bool :=
  s.initDone && s.regions.any fun r => r.code != 0x3F && decide (r.base < (f.base + f.gib) * 2 ^ 30) &&
    decide (f.base * 2 ^ 30 < r.base + r.size)

/-- Start the first fill that waits; one over a placed region is refused, and the next is looked at (R407, R408). -/
def State.startFill : Nat → State → State
  | 0, s => s
  | n + 1, s =>
    match s.mem.fills with
    | [] => s.setRbit Reg.memStatus 2 false
    | f :: fs =>
      if f.running then s
      else if s.fillHits f then
        State.startFill n ((s.onMem fun m => { m with fills := fs }).finalOf f.eid St.invalidParam 0x1B04 [])
      else (s.onMem fun m => { m with fills := { f with running := true } :: fs }).setRbit Reg.memStatus 2 true

/-- MEM_FILL (R406, R407): fills run one at a time in consumption order. -/
def execMemFill (eid : Nat) (s : State) : Host.Outcome State Fault Refusal :=
  .next <| s.cmd eid 0x5001 fun s e =>
    let g := 2 ^ 30
    let base := e.p 0 8
    let len := e.p 8 8
    if s.rbit Reg.memStatus 3 then s.fail e St.mediaError 0x1B01
    else if base % g ≠ 0 || len % g ≠ 0 || len = 0 || g * s.gib < base + len then s.fail e St.invalidParam 0x1B01
    else
      let s := s.onMem fun m => { m with fills := m.fills ++ [⟨eid, base / g, len / g, e.p 16 8, false⟩] }
      s.startFill (s.mem.fills.length + 1)

/-- Granules of a fill. -/
def Fill.granules (f : Fill) : List Nat := (List.range f.gib).map (f.base + ·)

/-- MEM_FILL_COMPLETE (R407): the fill that runs has written its range. INIT_DONE sets once every installed granule is
recorded, and the regions are placed (R409). -/
def execMemFillComplete (eid : Nat) (s : State) : Host.Outcome State Fault Refusal :=
  .next <|
    match s.mem.fills with
    | [] => s
    | f :: fs =>
      if !f.running || f.eid != eid then s
      else
        let old := s.mem.granules
        let gs := old ++ f.granules.filter fun n => !old.contains n
        let s := s.onMem fun m =>
          { m with
            fills := fs
            granules := gs
            poison := m.poison.filter fun w => !f.granules.contains (w / 2 ^ 30) }
        let s := if !s.initDone && gs.length = s.gib then (s.setRbit Reg.memStatus 1 true).placeRegions else s
        let s := s.finalOf eid St.ok 0 (leBytes 4 f.gib ++ leBytes 4 gs.length)
        s.startFill (s.mem.fills.length + 1)

/-! ## Retraining (R400) -/

/-- A channel's training set is stale. -/
def State.chStale (s : State) (n : Nat) : Bool := s.rbit (Reg.memChStat n) 18

/-- Record the temperature and class in force in a channel's training set. -/
def State.trainSet (s : State) (n : Nat) : State :=
  let w := Reg.memChStat n
  ((s.setRf w 7 0 (s.rf w 15 8)).setRf w 17 16 s.thm.cls).setRbit w 18 false

/-- CHANNEL_RETRAIN (R400): at a tick boundary, the lowest-numbered stale channel, one a boundary. -/
def execChannelRetrain (ch : Fin 16) (ok : Bool) (s : State) : Host.Outcome State Fault Refusal :=
  .next <|
    let lowest := (List.range 16).find? s.chStale
    if lowest != some ch.val || s.mem.retrainAt == some s.clk || !s.rbit Reg.memStatus 0 then s
    else
      let s := (s.onMem fun m => { m with retrainAt := some s.clk }).bump (Reg.memChUe ch) 31 16 1
      if ok then s.trainSet ch else s.memLatch ch 4 0

/-! ## Uncorrectable reads (R411) -/

/-- A command fails because of what it read. -/
def State.failRead (s : State) (eid st dt : Nat) : State :=
  if (s.put eid).isSome then s.endPut eid st dt else s.finalOf eid st dt []

/-- A management core traps. -/
def State.trapCore (s : State) (core : Nat) : State := s.setRbit Reg.fldCores (16 + core) true

/-- UNCORRECTABLE_READ (R411): ports 0 to 15 are channels, 16 management SRAM, 17 the stream buffers. -/
def execUncorrectableRead (port : Fin 18) (addr : Nat) (poison : Bool) (by_ : Reader) (s : State) :
    Host.Outcome State Fault Refusal :=
  .next <|
    let s := s.ueRead port addr poison
    match by_ with
    | .fetch core reloaded =>
      let s := s.trapCore core
      if reloaded then s else s.onFld fun f => { f with trapped := core.val :: f.trapped }
    | .load core eid => (s.trapCore core).failRead eid St.internal 0x1B01
    | .expert key =>
      if s.xqHeld key && (s.xq key).en then (s.xqLatch key 5).setXq key { s.xq key with halt := true } else s
    | .basic eid detail => s.failRead eid St.uncorrectable detail
    | .clean way set => s.onHth fun h => { h with lines := KMap.del h.lines (way.val * 65536 + set) }
    | .dirty => s.poisonWord (addr / 8 * 8)
    | .patrol =>
      let u : UeEntry := ⟨addr, s.regionAt addr, s.tick % 2 ^ 32⟩
      s.onMem fun m => { m with ues := (m.ues ++ [u]).take 64 }

/-! ## Heather: whole invalidate, enable, disable (R414 to R416) -/

/-- HTH_STATUS bits. -/
def State.hthEnabled (s : State) : Bool := s.rbit Reg.hthStatus 0
/-- CLEANING. -/
def State.hthCleaning (s : State) : Bool := s.rbit Reg.hthStatus 2

/-- Ways powered down, locked, stripe, busy. -/
def State.wayOff (s : State) (w : Nat) : Bool := s.rbit Reg.hthWays (16 + w)
/-- A locked way. -/
def State.wayLocked (s : State) (w : Nat) : Bool := s.rbit Reg.hthWays w
/-- A stripe way. -/
def State.wayStripe (s : State) (w : Nat) : Bool := s.rbit Reg.hthWaysUse w
/-- A busy way. -/
def State.wayBusy (s : State) (w : Nat) : Bool := s.rbit Reg.hthWaysUse (16 + w)

/-- GENERAL ways. -/
def State.generalWays (s : State) : List Nat :=
  (List.range 16).filter fun w => !(s.wayOff w || s.wayLocked w || s.wayStripe w)

/-- Heather is enabled: the stripe ways are the highest-numbered powered ways (R414). -/
def State.enableHeather (s : State) : State :=
  let on := (List.range 16).filter fun w => !s.wayOff w
  let st := on.drop (on.length - s.par Par.stripeWays)
  let s := s.setRf Reg.hthStatus 6 0 (1 + 8 * b2n (s.rbit Reg.hthStatus 3))
  (s.setRf Reg.hthStatus 11 8 st.length).setRf Reg.hthWaysUse 15 0 (bitsWhere 16 st.contains)

/-- Start the invalidate that waits, unless a clean runs. -/
def State.startInval (s : State) : State :=
  if s.hthCleaning || s.hth.invs.isEmpty then s else s.setRbit Reg.hthStatus 4 true

/-- HTH_INVALIDATE (R415): accepted while disabled, during a clean, or behind a queued enable. -/
def execHthInvalidate (eid : Nat) (s : State) : Host.Outcome State Fault Refusal :=
  .next <| s.cmd eid 0x5002 fun s e =>
    if s.hthEnabled then s.fail e St.invalidParam 0x1B03
    else (s.onHth fun h => { h with invs := h.invs ++ [eid], invSince := true }).startInval

/-- INVALIDATE_COMPLETE (R415): the invalidate that runs has written every tag invalid and cleared every lock. -/
def execInvalidateComplete (s : State) : Host.Outcome State Fault Refusal :=
  .next <|
    if !s.rbit Reg.hthStatus 4 then s
    else
      match s.hth.invs with
      | [] => s
      | eid :: rest =>
        let s := s.onHth fun h => { h with invs := rest, lines := [] }
        let s := ((s.setRf Reg.hthWays 15 0 0).setRbit Reg.hthStatus 3 true).setRbit Reg.hthStatus 4 (!rest.isEmpty)
        let s := s.finalOf eid St.ok 0 []
        if rest.isEmpty && s.rbit Reg.hthStatus 6 then s.enableHeather else s

/-- HTH_ENABLE (R415), decided in the order of its list. -/
def execHthEnable (eid : Nat) (s : State) : Host.Outcome State Fault Refusal :=
  .next <| s.cmd eid 0x5003 fun s e =>
    let clear (s : State) := s.setRbit Reg.hthStatus 5 false
    if s.hthEnabled then (clear s).okReply e []
    else if s.rbit Reg.hthStatus 6 then (clear s).fail e St.busy 0x1B02
    else if (s.hthCleaning || s.rbit Reg.hthStatus 4) && s.hth.invSince then
      ((clear s).setRbit Reg.hthStatus 6 true).fail e St.enableQueued 0x1B01
    else if !s.rbit Reg.hthStatus 3 then (s.setRbit Reg.hthStatus 5 true).fail e St.notInvalidated 0x1B01
    else s.enableHeather.okReply e []

/-- Disable Heather for a command (0 for none): INV_DONE clears, and a clean starts if it was enabled (R416). -/
def State.disableHeather (s : State) (eid : Nat) : State :=
  let s := (s.onHth fun h => { h with invSince := false }).setRbit Reg.hthStatus 3 false
  if s.hthEnabled || s.hthCleaning then
    let s := (s.setRbit Reg.hthStatus 0 false).setRbit Reg.hthStatus 2 true
    s.onHth fun h => { h with disables := h.disables ++ [eid] }
  else s.finalOf eid St.ok 0 []

/-- HTH_DISABLE (R416). -/
def execHthDisable (eid : Nat) (s : State) : Host.Outcome State Fault Refusal :=
  .next <| s.cmd eid 0x5004 fun s _ => s.disableHeather eid

/-- The clean has ended: DISABLED sets, the disables reply, an invalidate that waits runs (R415, R416). -/
def State.cleanDone (s : State) : State :=
  if !s.hthCleaning then s
  else
    let es := s.hth.disables
    let s := (s.setRbit Reg.hthStatus 2 false).setRbit Reg.hthStatus 1 true
    let s := s.onHth fun h => { h with disables := [] }
    (es.foldl (fun s e => s.finalOf e St.ok 0 []) s).startInval

/-! ## Locking, ranges, power (R417 to R420) -/

/-- The first line and the lines of a range of a region given as REGION, OFFSET and LENGTH, if it is right. -/
def State.hthRange (s : State) (e : Entry) : Option (Nat × Nat) :=
  let off := e.p 8 8
  let len := e.p 16 8
  match s.region (e.p 2 1) with
  | none => none
  | some r =>
    if off % 128 ≠ 0 || len % 128 ≠ 0 || r.size < off + len then none else some ((r.base + off) / 128, len / 128)

/-- A lock or a power-down of a way would leave fewer than 2 GENERAL ways. -/
def State.tooFew (s : State) (w : Nat) : Bool := decide ((s.generalWays.filter (· != w)).length < 2)

/-- HTH_PRELOAD_LOCK (R417, R418). -/
def execHthPreloadLock (eid : Nat) (s : State) : Host.Outcome State Fault Refusal :=
  .next <| s.cmd eid 0x5005 fun s e =>
    let w := e.p 0 1
    let unlock := bitAt (e.p 1 1) 1
    let lock := bitAt (e.p 1 1) 0 && !unlock
    let rng := s.hthRange e
    let bad := !unlock && (match rng with | none => true | some x => x.2 = 0 || 65536 < x.2)
    if !s.hthEnabled then s.fail e St.busy 0x1B03
    else if s.wayBusy w && w < 16 then s.fail e St.busy 0x1B02
    else if bad then s.fail e St.invalidParam 0x1B01
    else if 16 ≤ w || s.wayStripe w || s.wayOff w || (lock && !s.wayLocked w && s.tooFew w) then
      s.fail e St.invalidParam 0x1B02
    else if unlock then (s.setRbit Reg.hthWays w false).okReply e []
    else
      let x := rng.getD (0, 0)
      (s.onHth fun h => { h with jobs := h.jobs ++ [⟨eid, w, x.1, x.2, lock⟩] }).setRbit Reg.hthWaysUse (16 + w) true

/-- Put the lines of a preload into its way; a copy in another way moves (R417). -/
def HJob.fill (j : HJob) (t : KMap Nat) : KMap Nat :=
  (List.range j.lines).foldl (fun t i =>
    let l := j.lo + i
    let t := KMap.keep t fun k tag => !(k % 65536 == l % 65536 && tag == l / 65536)
    KMap.put t (j.way * 65536 + l % 65536) (l / 65536)) t

/-- PRELOAD_COMPLETE (R417): every line is in place. -/
def execPreloadComplete (eid : Nat) (s : State) : Host.Outcome State Fault Refusal :=
  .next <|
    match s.hth.jobs.find? fun j => j.eid == eid with
    | none => s
    | some j =>
      let s := s.onHth fun h => { h with jobs := h.jobs.filter fun k => k.eid != eid, lines := j.fill h.lines }
      ((s.setRbit Reg.hthWaysUse (16 + j.way) false).setRbit Reg.hthWays j.way j.lock).finalOf eid St.ok 0 []

/-- HTH_WAY_POWER (R420). -/
def execHthWayPower (eid : Nat) (s : State) : Host.Outcome State Fault Refusal :=
  .next <| s.cmd eid 0x5006 fun s e =>
    let w := e.p 0 1
    let on := e.p 1 1
    if 1 < on then s.fail e St.invalidParam 0x0105
    else if 16 ≤ w || s.wayStripe w || s.wayLocked w || (on = 0 && !s.wayOff w && s.tooFew w) then
      s.fail e St.invalidParam 0x1B02
    else if s.wayBusy w then s.fail e St.busy 0x1B02
    else
      let s := s.onHth fun h => { h with lines := KMap.keep h.lines fun k _ => k / 65536 != w }
      (s.setRbit Reg.hthWays (16 + w) (on = 0)).okReply e []

/-- Slots of locked ways whose lines lie in a range, of those preloads have filled. -/
def State.lockedIn (s : State) (lo n : Nat) : Nat :=
  (s.hth.lines.filter fun x =>
    let l := x.2 * 65536 + x.1 % 65536
    s.wayLocked (x.1 / 65536) && decide (lo ≤ l ∧ l < lo + n)).length

/-- HTH_RANGE_INVALIDATE (R419). Slots of locked ways that traffic filled before the lock may hold lines of the range
too: how many is a free value (log entry 33). -/
def execHthRangeInvalidate (eid : Nat) (s : State) : Host.Outcome State Fault Refusal :=
  .next <| s.cmd eid 0x5007 fun s e =>
    if !s.hthEnabled then s.okReply e []
    else
      match s.hthRange e with
      | none => s.fail e St.invalidParam 0x1B01
      | some (lo, n) =>
        let known := s.lockedIn lo n
        let slots := 65536 * ((List.range 16).filter s.wayLocked).length - (s.hth.lines.filter fun x => s.wayLocked (x.1 / 65536)).length
        let more := s.unstated 33 [lo, n] % (min slots (n - known) + 1)
        let s := s.nextDraw.bump Reg.hthCntEvents 31 16 (known + more)
        let s := s.onHth fun h =>
          { h with lines := KMap.keep h.lines fun k tag =>
              let l := tag * 65536 + k % 65536
              s.wayStripe (k / 65536) || !decide (lo ≤ l ∧ l < lo + n) }
        s.okReply e []

end Sys2Proof.Machine
end

