-- ==== Sys2Proof/Machine/ParamCmds.lean ====
section
/-! DEFINITION. The parameter commands (R80 to R83, R562, R410, R430) and the decision set they join. -/

namespace Sys2Proof.Machine

open Sys2Proof

/-! ## Parameters by name and ID (R80) -/

/-- The 16-bit ID of the parameter at a place (log entry 8). -/
def parId (p : Nat) : Nat := Config.paramId p % 65536

/-- Number of parameters. -/
def parCount : Nat := parTable.length

/-- The place of an ID. -/
def parOfId (id : Nat) : Option Nat := (List.range parCount).find? fun p => parId p == id

/-- The place of a name of 32 bytes, padded with zero bytes. -/
def parOfName (n : Bytes) : Option Nat := parTable.findIdx? fun i => padTo (ascii i.name) 32 == n

/-- A parameter that does not exist on this part variant (R3). -/
def State.parAbsent (s : State) (p : Nat) : Bool := !s.part.t2 && (parInfo p).tape

/-- PARAM_INFO (R3, R80). -/
def execParamInfo (eid : Nat) (s : State) : Host.Outcome State Fault Refusal :=
  .next <| s.cmd eid 0x6003 fun s e =>
    match parOfName (slice e.area 0 32) with
    | none => s.fail e St.invalidParam 0x0104
    | some p =>
      let i := parInfo p
      if s.parAbsent p then s.okReply e (leBytes 2 (parId p) ++ [0, 0] ++ leBytes 4 0x1B)
      else s.okReply e (leBytes 2 (parId p) ++ [0, 0] ++ leBytes 4 i.attr ++ leBytes 4 (s.parDefault p) ++ leBytes 4 i.hi)

/-- PARAM_GET (R3, R80). -/
def execParamGet (eid : Nat) (s : State) : Host.Outcome State Fault Refusal :=
  .next <| s.cmd eid 0x6001 fun s e =>
    match parOfId (e.p 0 2) with
    | none => s.fail e St.invalidParam 0x0104
    | some p =>
      let i := parInfo p
      if s.parAbsent p then s.okReply e (leBytes 4 0 ++ leBytes 4 0x1B)
      else s.okReply e (leBytes 4 (s.par p) ++ leBytes 4 i.attr ++ leBytes 4 i.lo ++ leBytes 4 i.hi)

/-! ## Checks of a value (R81, R410, R430) -/

/-- The value a parameter will have after the next warm reset: what an earlier setting stored, else the value in
force. -/
def State.parNext (s : State) (p : Nat) : Nat := KMap.getD s.ez.parStored p (s.par p)

/-- GiB the regions of R409 take under a choice of values. -/
def placementGib (t2 : Bool) (b landing read spill : Nat) : Nat :=
  1 + 8 * ceilDiv (2 ^ b * 288) (2 ^ 30) + landing + read + spill + (if t2 then 16 else 0)

/-- The status and detail where the configuration a value would cause does not fit (R81 step 6). `pre` holds the values
checked before it in the same batch. -/
def State.parFit (s : State) (pre : KMap Nat) (p v : Nat) : Option (Nat × Nat) :=
  let nx (q : Nat) : Nat := if q = p then v else KMap.getD pre q (s.parNext q)
  if p == Par.idxBucketsLog2 || p == Par.slotCfg || p == Par.landingGib || p == Par.readGib || p == Par.spillGib then
    if s.rf Reg.memStatus 27 16 <
        placementGib s.part.t2 (nx Par.idxBucketsLog2) (nx Par.landingGib) (nx Par.readGib) (nx Par.spillGib) then
      some (St.noSpace, 0x1B01)
    else none
  else if p == Par.pfVectors || p == Par.vfVectors then
    if 2048 < nx Par.pfVectors + 63 * nx Par.vfVectors then some (St.invalidParam, 0x1C01) else none
  else none

/-- The role of a session against the role a parameter asks for (R81). -/
def parRoleOk (need role : Nat) : Bool :=
  match need with
  | 0 => role == 2 || role == 3
  | 1 => role == 3
  | 2 => role == 4
  | _ => false

/-- Judge an entry (R81 steps 1 to 6): its place, or the status and detail of the first check that fails. A session of
the provisioning state sets nothing (R67). -/
def State.parJudge (s : State) (e : Entry) (pre : KMap Nat) (id flags v : Nat) : Except (Nat × Nat) Nat :=
  match parOfId id with
  | none => .error (St.invalidParam, 0x0104)
  | some p =>
    let i := parInfo p
    if s.parAbsent p then .error (St.invalidParam, 0x0109)
    else if i.eff == 3 || i.role == 3 then .error (St.invalidParam, 0x0106)
    else if !parRoleOk i.role e.role then .error (St.accessDenied, 0x0301)
    else if !parValueOk p v || (bitAt flags 0 && !i.persist) || (p == Par.attPorSkip && !bitAt flags 0) then
      .error (St.invalidParam, 0x0105)
    else
      match s.parFit pre p v with
      | some r => .error r
      | none => .ok p

/-! ## Applying values -/

/-- Blocks of the CORE island, whose parameters P2 holds back (R444, R465): SWD, HTH, BRK, TSK, FPT, WDR, GLN, DRV, NET
and MEM. -/
def parInCore (p : Nat) : Bool :=
  (2 ≤ p && p ≤ 39) || (46 ≤ p && p ≤ 48) || (73 ≤ p && p ≤ 92)

/-- Put a value in force. -/
def State.setPar (s : State) (p v : Nat) : State := s.onEz fun z => { z with par := KMap.put z.par p v }

/-- Store a value for the next warm reset. -/
def State.storePar (s : State) (p v : Nat) : State := s.onEz fun z => { z with parStored := KMap.put z.parStored p v }

/-- Persist a value in NOR (R83). -/
def State.persistPar (s : State) (p v : Nat) : State := s.onEz fun z => { z with parNor := KMap.put z.parNor p v }

/-- Apply a single value when its attribute says (R81, R465, R562). A value of a tick boundary joins the decision set
being built, before or after it is marked ready (log entry 13). UPD_att_por_skip waits for AON power-up in NOR alone
(R524). -/
def State.applySet (s : State) (p v : Nat) : State :=
  match (parInfo p).eff with
  | 0 =>
    if s.inP2 && parInCore p then s.onEz fun z => { z with parExit := KMap.put z.parExit p v } else s.setPar p v
  | 1 =>
    let early := s.unstated 13 [p] % 2 == 0
    s.nextDraw.onEz fun z =>
      if early then { z with setNow := z.setNow ++ [(p, v)] } else { z with setNext := z.setNext ++ [(p, v)] }
  | _ => if p == Par.attPorSkip then s else s.storePar p v

/-- A single PARAM_SET (R81, R83, R562). -/
def State.paramSetOne (s : State) (e : Entry) (norOk : Bool) : State :=
  let v := e.p 4 4
  match s.parJudge e [] (e.p 0 2) (e.p 2 2) v with
  | .error (st, dt) => s.fail e st dt
  | .ok p =>
    let persist := bitAt (e.p 2 2) 0
    if persist && !norOk then s.fail e St.mediaError 0
    else
      let s := (if persist then s.persistPar p v else s).applySet p v
      s.okReply e (leBytes 4 v ++ leBytes 4 (s.par p))

/-! ## Batches (R82) -/

/-- Entry `k` of a batch: ID, flags and value. -/
def Entry.batchEntry (e : Entry) (k : Nat) : Nat × Nat × Nat :=
  (e.p (64 + 8 * k) 2, e.p (64 + 8 * k + 2) 2, e.p (64 + 8 * k + 4) 4)

/-- Check the entries of a batch in order: the values, or the index, status and detail of the first that fails. -/
def State.batchJudge (s : State) (e : Entry) : Nat → Nat → KMap Nat → List (Nat × Nat × Bool) →
    Except (Nat × Nat × Nat) (List (Nat × Nat × Bool))
  | 0, _, _, acc => .ok acc
  | n + 1, k, pre, acc =>
    let (id, fl, v) := e.batchEntry k
    match s.parJudge e pre id fl v with
    | .error (st, dt) => .error (k, st, dt)
    | .ok p => s.batchJudge e n (k + 1) (KMap.put pre p v) (acc ++ [(p, v, bitAt fl 0)])

/-- Persist the entries of a batch that ask for it, and let it join the decision set (log entry 13). -/
def State.joinBatch (s : State) (b : Batch) : State :=
  let s := b.entries.foldl (fun s x => if x.2.2 then s.persistPar x.1 x.2.1 else s) s
  let early := s.unstated 13 [b.eid] % 2 == 0
  s.nextDraw.onEz fun z =>
    if early then { z with batchNow := z.batchNow ++ [b] } else { z with batchNext := z.batchNext ++ [b] }

/-- A PARAM_SET with a parameter block (R82): it replies after the boundary at which it was applied. -/
def State.paramSetBatch (s : State) (e : Entry) (norOk : Bool) : State :=
  let n := e.p 0 2
  if n < 1 || 256 < n then s.fail e St.invalidParam 0x0105
  else if e.area.length < 64 + 8 * n then s.fail e St.invalidParam 0x0103
  else
    match s.batchJudge e n 0 [] [] with
    | .error (k, st, dt) => s.final e st dt (leBytes 2 k)
    | .ok xs =>
      if xs.any (fun x => x.2.2) && !norOk then s.fail e St.mediaError 0
      else s.joinBatch ⟨e.eid, xs, leBytes 2 n⟩

/-- PARAM_SET (R81, R83, R562): `norOk` is whether the NOR write succeeds. -/
def execParamSet (eid : Nat) (norOk : Bool) (s : State) : Host.Outcome State Fault Refusal :=
  .next <| s.cmdIf eid 0x6002 (fun e => !pktFlag e.pkt 0) fun s e => s.paramSetOne e norOk

/-- PARAM_SET_BATCH (R82). -/
def execParamSetBatch (eid : Nat) (norOk : Bool) (s : State) : Host.Outcome State Fault Refusal :=
  .next <| s.cmdIf eid 0x6002 (fun e => pktFlag e.pkt 0) fun s e => s.paramSetBatch e norOk

/-- Apply one entry of a batch at its boundary: a value of the next warm reset is stored (R82). -/
def State.applyEntry (s : State) (x : Nat × Nat × Bool) : State :=
  if (parInfo x.1).eff == 2 then (if x.1 == Par.attPorSkip then s else s.storePar x.1 x.2.1)
  else if s.inP2 && parInCore x.1 then s.onEz fun z => { z with parExit := KMap.put z.parExit x.1 x.2.1 }
  else s.setPar x.1 x.2.1

/-- Apply the decision set that is ready (R82, R473): single values, then batches whole, which then reply OK. What
joined after it was marked ready is the next set. -/
def State.applyDecisions (s : State) : State :=
  let singles := s.ez.setNow
  let batches := s.ez.batchNow
  let s := s.onEz fun z =>
    { z with setNow := z.setNext, setNext := [], batchNow := z.batchNext, batchNext := [] }
  let s := singles.foldl (fun s x => s.applyEntry (x.1, x.2, false)) s
  let s := batches.foldl (fun s b => b.entries.foldl State.applyEntry s) s
  batches.foldl (fun s b => s.finalOf b.eid St.ok 0 b.result) s

end Sys2Proof.Machine
end

