-- ==== Sys2Proof/Machine/Lms.lean ====
section
/-! DEFINITION. Hash-based signatures of RFC 8554 in the parameter sets of R509 and R522: LM-OTS and LMS over SHA-256
with 32-byte hashes, and HSS of two levels. -/

namespace Sys2Proof.Machine

open Sys2Proof

/-- A parameter set: Winternitz width, checksum shift, LM-OTS type, LMS type, tree height. -/
structure LmsSet where
  w : Nat
  ls : Nat
  ots : Nat
  lms : Nat
  h : Nat
deriving DecidableEq, Repr

/-- Image signatures (R509): LMOTS_SHA256_N32_W8, LMS_SHA256_M32_H15. -/
def imageSet : LmsSet := ⟨8, 0, 4, 7, 15⟩

/-- Attestation signatures (R522): LMOTS_SHA256_N32_W4, LMS_SHA256_M32_H20. -/
def attestSet : LmsSet := ⟨4, 4, 3, 8, 20⟩

/-- Digits of the hash itself. -/
def LmsSet.digits (p : LmsSet) : Nat := 256 / p.w

/-- Chains of a one-time signature: the hash's digits and those of the 16-bit checksum that count. -/
def LmsSet.chains (p : LmsSet) : Nat := p.digits + (16 - p.ls) / p.w

/-- Bytes of a one-time signature. -/
def LmsSet.otsLen (p : LmsSet) : Nat := 36 + 32 * p.chains

/-- Bytes of a signature. -/
def LmsSet.sigLen (p : LmsSet) : Nat := 8 + p.otsLen + 32 * p.h

/-- Digit `i` of a string in width `w`, most significant first. -/
def lmsDigit (w i : Nat) (bs : Bytes) : Nat :=
  let per := 8 / w
  (leAt bs (i / per) 1 / 2 ^ (w * (per - 1 - i % per))) % 2 ^ w

/-- The checksum of a hash. -/
def LmsSet.cksm (p : LmsSet) (q : Bytes) : Nat :=
  ((List.range p.digits).foldl (fun a i => a + (2 ^ p.w - 1 - lmsDigit p.w i q)) 0) * 2 ^ p.ls % 65536

/-- The digits that a hash signs: its own and those of its checksum. -/
def LmsSet.coefs (p : LmsSet) (q : Bytes) : List Nat :=
  let bs := q ++ beBytes 2 (p.cksm q)
  (List.range p.chains).map fun i => lmsDigit p.w i bs

/-- The prefix of a hash for an index. -/
def lmsPre (ident : Bytes) (q : Nat) : Bytes := ident ++ beBytes 4 q

/-- `n` steps of a chain from step `j` on. -/
def lmsChain (ident : Bytes) (q i : Nat) : Nat → Nat → Bytes → Bytes
  | 0, _, x => x
  | n + 1, j, x => lmsChain ident q i n (j + 1) (sha256 (lmsPre ident q ++ beBytes 2 i ++ beBytes 1 j ++ x))

/-- The hash of a message under a randomizer. -/
def lmsHash (ident : Bytes) (q : Nat) (c msg : Bytes) : Bytes := sha256 (lmsPre ident q ++ beBytes 2 0x8181 ++ c ++ msg)

/-- A leaf of the tree from the ends of its chains. -/
def LmsSet.leafOf (p : LmsSet) (ident : Bytes) (q : Nat) (ends : List Bytes) : Bytes :=
  let k := sha256 (lmsPre ident q ++ beBytes 2 0x8080 ++ ends.flatten)
  sha256 (lmsPre ident (2 ^ p.h + q) ++ beBytes 2 0x8282 ++ k)

/-- An inner node from its children. -/
def lmsInner (ident : Bytes) (r : Nat) (a b : Bytes) : Bytes := sha256 (lmsPre ident r ++ beBytes 2 0x8383 ++ a ++ b)

/-- Climb from a node along a path to the root. -/
def lmsClimb (ident : Bytes) (r : Nat) (x : Bytes) : List Bytes → Bytes
  | [] => x
  | y :: ys =>
    lmsClimb ident (r / 2) (if r % 2 = 1 then lmsInner ident (r / 2) y x else lmsInner ident (r / 2) x y) ys

/-- An LMS signature of a message verifies under a public key of 56 bytes. -/
def LmsSet.verify (p : LmsSet) (pub msg sig : Bytes) : Bool :=
  let ident := slice pub 8 16
  let q := beVal (slice sig 0 4)
  let y := slice sig 40 (32 * p.chains)
  let path := pieces 32 (slice sig (8 + p.otsLen) (32 * p.h))
  let m := lmsHash ident q (slice sig 8 32) msg
  let ends := ((p.coefs m).zip (pieces 32 y)).zipIdx.map fun x =>
    lmsChain ident q x.2 (2 ^ p.w - 1 - x.1.1) x.1.1 x.1.2
  pub.length == 56 && beVal (slice pub 0 4) == p.lms && beVal (slice pub 4 4) == p.ots && sig.length == p.sigLen &&
    beVal (slice sig 4 4) == p.ots && beVal (slice sig (4 + p.otsLen) 4) == p.lms && decide (q < 2 ^ p.h) &&
    lmsClimb ident (2 ^ p.h + q) (p.leafOf ident q ends) path == slice pub 24 32

/-- An HSS signature of two levels verifies under a public key of 60 bytes (R509). -/
def hssVerify (pub msg sig : Bytes) : Bool :=
  let n := imageSet.sigLen
  let next := slice sig (4 + n) 56
  pub.length == 60 && beVal (slice pub 0 4) == 2 && sig.length == 4 + n + 56 + n && beVal (slice sig 0 4) == 1 &&
    imageSet.verify (slice pub 4 56) next (slice sig 4 n) && imageSet.verify next msg (slice sig (60 + n) n)

/-- The start of chain `i` of an index of a private key (RFC 8554, appendix A). -/
def lmsSecret (ident seed : Bytes) (q i : Nat) : Bytes := sha256 (lmsPre ident q ++ beBytes 2 i ++ [0xFF] ++ seed)

/-- The leaf of an index of a private key. -/
def LmsSet.leaf (p : LmsSet) (ident seed : Bytes) (q : Nat) : Bytes :=
  p.leafOf ident q ((List.range p.chains).map fun i => lmsChain ident q i (2 ^ p.w - 1) 0 (lmsSecret ident seed q i))

/-- Node `r` of the tree of a private key, `d` levels above the leaves. -/
def LmsSet.node (p : LmsSet) (ident seed : Bytes) : Nat → Nat → Bytes
  | 0, r => p.leaf ident seed (r - 2 ^ p.h)
  | d + 1, r => lmsInner ident r (p.node ident seed d (2 * r)) (p.node ident seed d (2 * r + 1))

/-- The public key of a private key. -/
def LmsSet.pub (p : LmsSet) (ident seed : Bytes) : Bytes :=
  beBytes 4 p.lms ++ beBytes 4 p.ots ++ ident ++ p.node ident seed p.h 1

/-- Sign a message with an index and a randomizer. -/
def LmsSet.sign (p : LmsSet) (ident seed c msg : Bytes) (q : Nat) : Bytes :=
  let m := lmsHash ident q c msg
  let y := (p.coefs m).zipIdx.map fun x => lmsChain ident q x.2 x.1 0 (lmsSecret ident seed q x.2)
  let path := (List.range p.h).map fun d => p.node ident seed d ((2 ^ p.h + q) / 2 ^ d ^^^ 1)
  beBytes 4 q ++ beBytes 4 p.ots ++ c ++ y.flatten ++ beBytes 4 p.lms ++ path.flatten

end Sys2Proof.Machine
end

