-- ==== Sys2Proof/Machine/Update.lean ====
section
/-! DEFINITION. Firmware images, their delivery and activation, the choice of the boot ROM, and attestation (21). -/

namespace Sys2Proof.Machine

open Sys2Proof

/-! ## Slots and images (R505 to R510) -/

/-- An image slot. -/
def State.slot (s : State) (i : Nat) : Slot := s.upd.slots.getD i ⟨.empty, [], []⟩

/-- Set an image slot. -/
def State.setSlotOf (s : State) (i : Nat) (x : Slot) : State := s.onUpd fun u => { u with slots := u.slots.set i x }

/-- The slot not selected for boot. -/
def State.inactive (s : State) : Nat := 1 - s.upd.active

/-- A slot that holds the image the part was delivered with (log entry 3). -/
def Slot.delivered (x : Slot) : Bool := x.pieces.isEmpty && x.st != .empty

/-- Bytes 0 to 33,023 of a slot's piece 0; those of the delivered image are not stated. -/
def State.slotHead (s : State) (i : Nat) : Bytes :=
  let x := s.slot i
  if x.delivered then Config.unstatedBytes 3 [i] 33024 else padTo (KMap.getD x.pieces 0 []) 33024

/-- PIECES of a header. -/
def imgPieces (h : Bytes) : Nat := leAt h 2 2
/-- SVN of a header. -/
def imgSvn (h : Bytes) : Nat := leAt h 16 4
/-- VERSION of a header. -/
def imgVersion (h : Bytes) : Bytes := slice h 8 8
/-- LOAD_LEN of a header. -/
def imgLoad (h : Bytes) : Nat := leAt h 36 4
/-- IMG_ID of an image from bytes 0 to 33,023 of its piece 0 (R507). -/
def imgId (h : Bytes) : Bytes := slice (sha256 h) 0 8

/-- Digest table entry of piece `k` (R507). -/
def imgDigest (h : Bytes) (k : Nat) : Bytes := slice h (256 + 32 * (k - 1)) 32

/-- Pieces of a slot that are stored. -/
def State.received (s : State) (i : Nat) : Nat :=
  let x := s.slot i
  if x.delivered then imgPieces (s.slotHead i) else x.bits.length

/-- Check 1 of R510: the header is as R507 and R508 require. -/
def imgFormOk (p : Bytes) : Bool :=
  let n := imgPieces p
  let l := imgLoad p
  leAt p 0 1 == 1 && leAt p 1 1 < 2 && 2 ≤ n && n ≤ 1024 && imgSvn p ≤ 64 && 4096 ≤ l && l ≤ 12582912 && l % 4096 == 0 &&
    decide (l ≤ 65536 * (n - 1)) && leAt p 40 4 == 3284 && leAt p 44 1 < 4 && allZero (slice p 45 3) &&
    allZero (slice p 108 148) && (bitAt (leAt p 1 1) 0 || allZero (slice p 20 16)) &&
    allZero (slice p (256 + 32 * (n - 1)) (33024 - (256 + 32 * (n - 1)))) && allZero (slice p 36308 29228)

/-- Check 2 of R510: the image is for this hardware type and unit. -/
def Fuses.imgForUs (f : Fuses) (p : Bytes) : Bool :=
  leAt p 4 4 == f.hwType && (!bitAt (leAt p 1 1) 0 || slice p 20 16 == f.unitId)

/-- Check 3 of R510: the key is permitted and the signature verifies. -/
def Fuses.imgSigned (f : Fuses) (p : Bytes) : Bool :=
  let d := f.digests.getD (leAt p 44 1) []
  !allZero d && sha256 (slice p 48 60) == d && hssVerify (slice p 48 60) (slice p 0 33024) (slice p 33024 3284)

/-- The checks of R510 over piece 0: the status and detail of the first that fails. -/
def Fuses.judgeImage (f : Fuses) (p : Bytes) : Option (Nat × Nat) :=
  if !imgFormOk p then some (St.invalidParam, 0x2002)
  else if !f.imgForUs p then some (St.invalidParam, 0x2003)
  else if !f.imgSigned p then some (St.checkMismatch, 0x2001)
  else if imgSvn p < f.floor then some (St.invalidParam, 0x2004)
  else none

/-- The slot is TRIAL: selected and not confirmed. -/
def State.trial (s : State) : Bool := (s.slot s.upd.active).st == .trial

/-! ## Delivery (R511 to R515) -/

/-- RESULT of UPD_PIECE. -/
def State.pieceResult (s : State) (dup : Bool) : Bytes :=
  let i := s.inactive
  let x := s.slot i
  let n := if x.st == .empty then 0 else imgPieces (s.slotHead i)
  leBytes 2 (s.received i) ++ leBytes 2 n ++
    [byteOf (b2n dup + 2 * b2n (x.st == .complete || x.st == .verified))]

/-- An update command's failure, latched in UPD_ERR with its piece. -/
def State.updFail (s : State) (e : Entry) (piece cause st dt : Nat) : State :=
  (s.latch errUpd piece cause).fail e st dt

/-- Piece 0 (R512): judged before anything is written, then taken as the inactive slot's state has it. -/
def State.pieceZero (s : State) (e : Entry) (d : Bytes) (norOk : Bool) : State :=
  let i := s.inactive
  let x := s.slot i
  let h := slice d 0 33024
  if imgId h != slice e.area 0 8 then s.fail e St.invalidParam 0x2001
  else
    match s.fuses.judgeImage d with
    | some (st, dt) =>
      if st = St.checkMismatch then s.updFail e 0 1 st dt else s.fail e st dt
    | none =>
      if s.trial then s.fail e St.busy 0x2002
      else
        let fresh := x.st == .empty || x.st == .invalid
        if !fresh && imgId (s.slotHead i) == imgId h then s.okReply e (s.pieceResult true)
        else if !fresh && !bitAt (e.p 10 1) 0 then s.fail e St.busy 0x2001
        else if !norOk then s.updFail e 0 3 St.mediaError 0x2001
        else
          let s := (s.setSlotOf i ⟨.receiving, [(0, d)], [0]⟩).emit (.nor "image piece" d)
          s.okReply e (s.pieceResult false)

/-- Piece 1 and up (R512, R513). -/
def State.pieceMore (s : State) (e : Entry) (k : Nat) (d : Bytes) (norOk : Bool) : State :=
  let i := s.inactive
  let x := s.slot i
  let h := s.slotHead i
  let going := x.st == .receiving || x.st == .complete || x.st == .verified
  if !going || imgId h != slice e.area 0 8 then s.fail e St.busy 0x2001
  else if imgPieces h ≤ k then s.fail e St.invalidParam 0x2001
  else if sha256 d != imgDigest h k then s.updFail e k 2 St.checkMismatch 0x2002
  else if x.delivered || x.bits.contains k then s.okReply e (s.pieceResult true)
  else if !norOk then s.updFail e k 3 St.mediaError 0x2001
  else
    let bits := k :: x.bits
    let st := if bits.length = imgPieces h then SlotSt.complete else x.st
    let s := (s.setSlotOf i ⟨st, KMap.put x.pieces k d, bits⟩).emit (.nor "image piece" d)
    s.okReply e (s.pieceResult false)

/-- UPD_PIECE (R511 to R513): `piece` is the read of the piece from host memory, `norOk` whether it is programmed and
reads back. -/
def execUpdPiece (eid : Nat) (piece : Fetch) (norOk : Bool) (s : State) : Host.Outcome State Fault Refusal :=
  .next <| s.cmd eid 0x7001 fun s e =>
    let addr := e.p 16 8
    let k := e.p 8 2
    if addr % 64 ≠ 0 || e.outside addr 65536 || 1024 ≤ k then s.fail e St.invalidParam 0x2001
    else
      let f := if e.ring == 1023 then .ok (Mem.read s.fld.window addr 65536) else piece
      match f with
      | .ok b =>
        let d := padTo b 65536
        if k = 0 then s.pieceZero e d norOk else s.pieceMore e k d norOk
      | _ => s.failSilent e 1

/-- UPD_STATUS (R526). -/
def execUpdStatus (eid : Nat) (s : State) : Host.Outcome State Fault Refusal :=
  .next <| s.cmd eid 0x7002 fun s e =>
    let i := s.inactive
    let h := s.slotHead i
    let none_ := (s.slot i).st == .empty
    s.okReply e ([byteOf s.upd.active, byteOf (s.slot 0).st.code, byteOf (s.slot 1).st.code,
      byteOf (b2n s.trial + 2 * b2n s.upd.warned + 4 * b2n (decide (2 ^ 20 ≤ s.rf Reg.updAttQ 20 0)))] ++
      leBytes 2 (s.received i) ++ leBytes 2 (if none_ then 0 else imgPieces h) ++
      (if none_ then zeros 8 else imgId h))

/-! ## Verification and activation (R516 to R520) -/

/-- UPD_VERIFY (R517): `bad` is the first piece that no longer reads back as its digest has it; piece 0 carries the
signature. -/
def execUpdVerify (eid : Nat) (bad : Option Nat) (s : State) : Host.Outcome State Fault Refusal :=
  .next <| s.cmd eid 0x7003 fun s e =>
    let i := s.inactive
    let x := s.slot i
    let h := s.slotHead i
    if x.st != .complete && x.st != .verified then s.fail e St.busy 0x2002
    else
      let judged := if bad == some 0 then some (St.checkMismatch, 0x2001)
        else if x.delivered then (if imgSvn h < s.fuses.floor then some (St.invalidParam, 0x2004) else none)
        else s.fuses.judgeImage (KMap.getD x.pieces 0 [])
      match judged with
      | some (st, dt) =>
        let s := s.setSlotOf i { x with st := .invalid }
        if st = St.checkMismatch then s.updFail e 0 1 st dt else s.fail e st dt
      | none =>
        match bad with
        | some k =>
          if k < imgPieces h then
            let s := s.setSlotOf i { x with st := .receiving, bits := x.bits.filter (· != k) }
            (s.latch errUpd k 2).final e St.checkMismatch 0x2003 (zeros 12 ++ leBytes 2 k)
          else (s.setSlotOf i { x with st := .verified }).okReply e (imgVersion h ++ leBytes 4 (imgSvn h))
        | none => (s.setSlotOf i { x with st := .verified }).okReply e (imgVersion h ++ leBytes 4 (imgSvn h))

/-- A domain is in LOADING to RELEASING. -/
def State.holdsDomain (s : State) : Bool :=
  s.dhd.doms.any fun d => d.st == .loading || d.st == .owned || d.st == .releasing

/-- NOW without FORCE while a domain is held is refused (R518). -/
def State.nowRefused (s : State) (fl : Nat) : Bool := bitAt fl 0 && !bitAt fl 1 && s.holdsDomain

/-- The reply of a command that may carry NOW: the warm reset follows 1 ms later (R518). -/
def State.nowReply (s : State) (e : Entry) (fl : Nat) : State :=
  let s := s.okReply e []
  if bitAt fl 0 then s.onUpd fun u => { u with nowAt := some s.clk } else s

/-- Raise the fused floor; a slot below it is INVALID (R518). -/
def State.sealFloor (s : State) : State :=
  let v := max s.fuses.floor (imgSvn (s.slotHead s.upd.active) % 128)
  let s := { s with fuses := { s.fuses with floor := v } }
  let i := s.inactive
  let x := s.slot i
  if x.st == .verified && decide (imgSvn (s.slotHead i) < v) then s.setSlotOf i { x with st := .invalid } else s

/-- Write the selector. -/
def State.selectSlot (s : State) (i attempts : Nat) : State :=
  (s.onUpd fun u => { u with active := i, attempts := attempts }).emit (.nor "selector" [byteOf i, byteOf attempts])

/-- UPD_ACTIVATE (R518). -/
def execUpdActivate (eid : Nat) (s : State) : Host.Outcome State Fault Refusal :=
  .next <| s.cmd eid 0x7004 fun s e =>
    let fl := e.p 0 1
    let i := s.inactive
    let x := s.slot i
    if bitAt fl 2 then
      if (s.slot s.upd.active).st != .active then s.fail e St.busy 0x2002
      else if s.nowRefused fl then s.fail e St.busy 0x2003
      else s.sealFloor.nowReply e fl
    else if x.st != .verified then s.fail e St.busy 0x2002
    else if s.nowRefused fl then s.fail e St.busy 0x2003
    else ((s.setSlotOf i { x with st := .trial }).selectSlot i 2).nowReply e fl

/-- UPD_FALLBACK (R520): the slot that was selected stays a valid fall-back target. -/
def execUpdFallback (eid : Nat) (s : State) : Host.Outcome State Fault Refusal :=
  .next <| s.cmd eid 0x7005 fun s e =>
    let fl := e.p 0 1
    let a := s.upd.active
    let i := s.inactive
    let x := s.slot i
    if x.st != .verified || decide (imgSvn (s.slotHead i) < s.fuses.floor) then s.fail e St.busy 0x2002
    else if s.nowRefused fl then s.fail e St.busy 0x2003
    else
      let s := (s.setSlotOf i { x with st := .active }).setSlotOf a { s.slot a with st := .verified }
      (s.selectSlot i 0).nowReply e fl

/-! ## The boot ROM (R519) -/

/-- A slot passes step 3: piece 0 under R510, and the pieces that LOAD_LEN covers. -/
def State.slotBoots (s : State) (i : Nat) : Bool :=
  let x := s.slot i
  let h := s.slotHead i
  if x.delivered then true
  else
    (s.fuses.judgeImage (KMap.getD x.pieces 0 [])).isNone &&
      (List.range (ceilDiv (imgLoad h) 65536)).all fun k => sha256 (KMap.getD x.pieces (k + 1) []) == imgDigest h (k + 1)

/-- Mark a slot INVALID at boot, with its cause. -/
def State.slotInvalid (s : State) (i cause : Nat) : State :=
  (s.setSlotOf i { s.slot i with st := .invalid }).latch errUpd 0 cause

/-- Step 3 on the selected slot, and step 4 on the other. `none` when neither passes. -/
def State.bootTry (s : State) : State × Bool :=
  let a := s.upd.active
  if s.slotBoots a then (s, true)
  else
    let s := s.slotInvalid a 5
    let b := 1 - a
    let ok := (s.slot b).st == .verified || (s.slot b).st == .active || (s.slot b).st == .trial
    if ok && s.slotBoots b then (s.selectSlot b s.upd.attempts, true)
    else ((if ok then s.slotInvalid b 5 else s), false)

/-- The boot ROM's choice of slot (R519, steps 1 to 4), and whether an image boots. -/
def State.bootSelect (s : State) : State × Bool :=
  let a := s.upd.active
  let s := if s.trial && s.upd.attempts == 0 then (s.slotInvalid a 4).selectSlot (1 - a) 0 else s
  let s := if s.trial then s.selectSlot s.upd.active (s.upd.attempts - 1) else s
  let r := s.bootTry
  let s := r.1.onUpd fun u => { u with selftest := r.1.trial }
  if r.2 then
    let a := s.upd.active
    (if (s.slot a).st == .verified then s.setSlotOf a { s.slot a with st := .active } else s, true)
  else (s.setRbit Reg.updStatus 2 true, false)

/-- TRIAL_SELFTEST (R519, step 5): once READY sets on a trial image, DIAG_SELFTEST of all units; it also satisfies health
check 1 of R391. -/
def execTrialSelftest (pass : Bool) (s : State) : Host.Outcome State Fault Refusal :=
  .next <|
    if !s.ready || !s.upd.selftest then s
    else
      let s := s.onUpd fun u => { u with selftest := false }
      if !pass then s.latch errUpd 0 4
      else
        let a := s.upd.active
        let b := 1 - a
        let s := (s.setSlotOf a { s.slot a with st := .active }).selectSlot a 0
        let s := if (s.slot b).st == .active then s.setSlotOf b { s.slot b with st := .verified } else s
        s.onDhd fun d => { d with selftestOk := true }

/-! ## Attestation (R522 to R525) -/

/-- Start of the lowest block of indices that is not burnt. -/
def Fuses.lowestBlock (f : Fuses) : Nat := ((lowestFree f.burnt 0 1024).getD 1024) * 1024

/-- The index after a reset that keeps AON power (R524). -/
def State.attestWarm (s : State) : State :=
  let q := s.rf Reg.updAttQ 20 0
  s.setRf Reg.updAttQ 20 0 (max q (s.upd.reserve.getD s.fuses.lowestBlock))

/-- The index at AON power-up (R524): `skip` is UPD_att_por_skip. -/
def State.attestPor (s : State) (skip : Bool) : State :=
  let low := s.fuses.lowestBlock
  let q := if skip then low else
    match s.upd.reserve, s.fuses.burnt.max? with
    | some r, some b => if b * 1024 ≤ r && r ≤ (b + 1) * 1024 then max r (b * 1024) else low
    | _, _ => low
  s.setRf Reg.updAttQ 20 0 q

/-- The 256-byte body of a report (R523). -/
def State.attestBody (s : State) (nonce : Bytes) (q : Nat) : Bytes :=
  let a := s.upd.active
  let h := s.slotHead a
  let b := s.inactive
  let other := if (s.slot b).st == .verified then sha256 (s.slotHead b) else zeros 32
  padTo ([0x01, byteOf (b2n s.trial + 2 * b2n (s.rbit Reg.fldStatus 1) + 4 * b2n s.upd.warned), byteOf a,
      byteOf (b2n s.part.headB)] ++ leBytes 4 s.fuses.hwType ++ s.fuses.unitId ++ imgVersion h ++ leBytes 4 (imgSvn h) ++
    leBytes 4 s.fuses.floor ++ sha256 h ++ other ++ nonce ++ leBytes 8 s.tick ++ leBytes 4 (s.reg Reg.crpRstCause).toNat ++
    leBytes 4 q ++ [byteOf s.dhd.hst.code, 0, 0, 0] ++ attestSet.pub s.fuses.ident s.fuses.seed) 256

/-- Make an index ready for use (R524): its block's fuse is burnt and the reservation reaches past it. -/
def State.guardIndex (s : State) (q : Nat) : State :=
  let k := q / 1024
  let s := if s.fuses.burnt.contains k then s else { s with fuses := { s.fuses with burnt := k :: s.fuses.burnt } }
  if (s.upd.reserve.map fun r => decide (q < r)) == some true then s
  else (s.onUpd fun u => { u with reserve := some (q + 64) }).emit (.nor "attestation reservation" (leBytes 4 (q + 64)))

/-- Spend an index (R525): the warning is given once. -/
def State.spendIndex (s : State) (q : Nat) : State :=
  let s := s.setRf Reg.updAttQ 20 0 (q + 1)
  if 943718 < q + 1 && !s.upd.warned then
    ((s.onUpd fun u => { u with warned := true }).event (Reg.updStatus + 3)).sklFold 0x33 0 0 (q + 1)
  else s

/-- ATTEST_REPORT (R523): the index is spent whether or not the report is then written. -/
def execAttestReport (eid : Nat) (destOk : Bool) (s : State) : Host.Outcome State Fault Refusal :=
  .next <| s.cmd eid 0x7010 fun s e =>
    let dest := e.p 32 8
    let q := s.rf Reg.updAttQ 20 0
    if dest % 64 ≠ 0 || e.outside dest 4096 then s.fail e St.invalidParam 0x2001
    else if 2 ^ 20 ≤ q then s.fail e St.noSpace 0x2001
    else
      let s := s.guardIndex q
      let body := s.attestBody (slice e.area 0 32) q
      let sig := attestSet.sign s.fuses.ident s.fuses.seed (s.drawn 32) body q
      let s := s.nextDraw.spendIndex q
      if e.ring == 1023 || destOk then (s.deliverTo e dest (body ++ sig)).okReply e []
      else s.fail e St.invalidParam 0x2001

end Sys2Proof.Machine
end

