-- ==== Sys2Proof/Machine/Resets.lean ====
section
/-! DEFINITION. Resets, power sequencing and power states (18), with what the board does to them (22). -/

namespace Sys2Proof.Machine

open Sys2Proof

/-! ## What a reset keeps (R467) -/

/-- The words of the register bank that a reset keeps, with the bits kept: the AON fields of R467, and through a warm reset
the words that describe DDR (log entry 34). -/
def keptWords (cold : Bool) : List (Nat × Nat) :=
  [(Reg.fldAuthFail, 0xFFFFFFFF), (Reg.crpRstCause, 0xFFFFFFFF), (Reg.crpCnt, 0xFFFFFFFF), (Reg.crpTherm, 0x4),
    (Reg.updAttQ, 0xFFFFFFFF)] ++
  (if cold then [] else (Reg.memStatus, 0xFFFFFFEB) :: (List.range 16).map fun n => (Reg.memChStat n, 0xFFFFFFFF))

/-- Carry a kept word into a state after a reset. -/
def State.keepWord (old s : State) (x : Nat × Nat) : State :=
  let r := (regReset x.1).toNat
  s.setReg x.1 (BitVec.ofNat 32 (((old.reg x.1).toNat &&& x.2) ||| (r &&& (0xFFFFFFFF - x.2))))

/-- The parameters in force after a reset (R81, R83, R467): a cold reset takes the persisted values, a warm reset what was
stored for it. UPD_att_por_skip keeps the value of the last AON power-up (R524). -/
def State.parAfter (s : State) (cold : Bool) : KMap Nat :=
  let z := s.ez
  let base := if cold then z.parNor else (z.parExit ++ z.parStored).foldl (fun t x => KMap.put t x.1 x.2) z.par
  match KMap.get? z.par Par.attPorSkip with
  | some v => KMap.put base Par.attPorSkip v
  | none => KMap.del base Par.attPorSkip

/-- The machine as a reset leaves it: what NOR, the fuses and the AON island hold is kept, and through a warm reset DDR's
initialisation and the configuration space. -/
def State.rebuilt (s : State) (cold : Bool) : State :=
  let b := State.reset
  let n : State :=
    { b with
      part := s.part
      fuses := s.fuses
      clk := s.clk
      fresh := s.fresh
      out := s.out
      pending := s.pending
      skl := { s.skl with tickLoaded := false }
      ez := { b.ez with
        roleKeys := s.ez.roleKeys
        authFail := s.ez.authFail
        backoff := s.ez.backoff
        nextEid := s.ez.nextEid
        par := s.parAfter cold
        parNor := s.ez.parNor }
      data := { b.data with tenants := s.data.tenants, hwk := s.data.hwk, sealKey := if cold then [] else s.data.sealKey }
      hrw := { b.hrw with fns := if cold then [] else s.hrw.fns }
      fpt := { b.fpt with ns := KMap.mapV s.fpt.ns (fun _ x => { x with present := false }), full := s.fpt.full }
      mem := if cold then b.mem
        else { b.mem with granules := s.mem.granules, placed := s.mem.placed, poison := s.mem.poison }
      crp := { s.crp with trans := 0, held := none, gated := [], discards := [], warmEnd := none }
      thm := { b.thm with hot := s.thm.hot, coolSince := s.thm.coolSince }
      fld := { b.fld with ckpt := s.fld.ckpt }
      upd := { s.upd with nowAt := none, selftest := false } }
  ((keptWords cold).foldl s.keepWord n).setRbit Reg.fldStatus 1 (s.rbit Reg.fldStatus 1)

/-- Skylark writes what its queue holds before the MGMT domain enters reset (log entry 35). -/
def State.sklDrain (s : State) : State :=
  s.skl.queue.foldl (fun s e => s.sklAccept e true) (s.onSkl fun k => { k with queue := [] })

/-- What is released at once (R458, R538): the HLK lines and the write gates. -/
def State.releasePins (s : State) : State :=
  let s := ((List.range 8).filter fun d => (s.dom d).pulled).foldl State.hlkFree s
  ((List.range 2).filter fun t => s.rbit (Reg.glnSrvWg t) 0).foldl (fun s t => s.emit (.pin "WG" t false)) s

/-- Count a reset's cause (CRP_RST_CAUSE), by its bit. -/
def State.resetCause (s : State) (bit : Nat) : State := (s.setRbit Reg.crpRstCause bit true).setRf Reg.crpRstCause 19 16 bit

/-- The FIFO crossings with a side that a reset covers, and their depths (R447 to R452). -/
def xingDepth (x : Nat) : Nat :=
  if x < 0x10 then 64 else if x = 0x10 then 32 else if x = 0x11 ∨ x = 0x12 then 256 else if x = 0x13 ∨ x = 0x14 then 128
  else if x = 0x15 ∨ x = 0x16 then 64 else if x = 0x17 ∨ x = 0x1C then 8 else if x = 0x18 ∨ x = 0x19 then 512 else 0

/-- The handshake of R451 discards what crossings hold: how many entries each does is a free value up to its depth (log
entry 32). -/
def State.discard (s : State) (xs : List Nat) : State :=
  (xs.foldl (fun s x =>
    let n := s.unstated 32 [x] % (xingDepth x + 1)
    s.onCrp fun c => { c with discards := KMap.put c.discards x (min 0xFFFF (KMap.getD c.discards x 0 + n)) }) s).nextDraw

/-- Every FIFO crossing has a side in CORE, MGMT or MEM. -/
def allXings : List Nat := List.range 0x1D |>.filter fun x => x != 0x1A && x != 0x1B

/-- The boot ROM chooses an image (R519); with none the head stays down. -/
def State.startBoot (s : State) : State :=
  let r := s.bootSelect
  if r.2 then r.1 else r.1.onCrp fun c => { c with boot := .bootFail, warmEnd := none }

/-- A warm reset from its request (R458), by its cause; one that a larger or an equal reset covers is absorbed (R456). It ends
within 250 ms, when is not stated (log entry 31). A head in P2 powers its CORE island again (R538). -/
def State.warmReset (s : State) (bit : Nat) : State :=
  if s.crp.boot != .ready && s.crp.boot != .bootFail then s
  else
    let s := s.releasePins.sklDrain
    let lift := !s.crp.corePwrEn
    let stop := s.clk + 1 + s.unstated 31 [] % 750
    let s := ((s.nextDraw.rebuilt false).resetCause bit).bump Reg.crpCnt 15 0 1
    let s := s.onCrp fun c => { c with boot := .booting, warmEnd := some stop, corePwrEn := true }
    let s := if lift then s.emit (.pin "CORE_PWR_EN" 0 true) else s
    (((s.setRbit Reg.crpStatus 3 true).discard allXings).attestWarm).startBoot

/-- A cold reset (R455, R457), by its cause, and where it leaves the boot. DDR content is lost. -/
def State.coldReset (s : State) (bit : Nat) (boot : BootSt) : State :=
  let s := (s.releasePins.sklDrain).emit (.pin "DDR_RESET_N" 0 false)
  let s := ((s.rebuilt true).resetCause bit).bump Reg.crpCnt 31 16 1
  let s := s.onData fun d => { d with sealKey := s.drawn 32 }
  let s := (s.nextDraw.discard allXings).onCrp fun c => { c with boot := boot, linkUp := false }
  let s := s.attestWarm
  if boot = .booting then (s.emit (.pin "DDR_RESET_N" 0 true)).startBoot else s

/-- Where a cold reset waits that is released as soon as power and SYS_RESET_N allow (R534, R537). -/
def Crp.coldWait (c : Crp) : BootSt :=
  if !c.socPg then .waitSoc else if !c.corePg then .waitCore else if !c.sysRstN then .held else .booting

/-- A cold reset that a request of the part itself starts: it runs from the end of the request. -/
def State.coldCommand (s : State) (bit : Nat) : State :=
  if s.crp.boot == .ready || s.crp.boot == .bootFail || s.crp.warmEnd.isSome then s.coldReset bit s.crp.coldWait else s

/-! ## READY -/

/-- Load FLD_TICK from its checkpoint, and write it as the new one (R472). -/
def State.loadTick (s : State) : State :=
  let t := (s.fld.ckpt + 2 ^ 22) % 2 ^ 64
  let s := (s.onFld fun f => { f with ckpt := t }).setPair Reg.fldTickLo t
  (s.onSkl fun k => { k with tickLoaded := true }).emit (.nor "tick checkpoint" (leBytes 8 t))

/-- Retrain every stale channel after self-refresh (R400, R458). -/
def State.retrainStale (s : State) : State :=
  ((List.range 16).filter s.chStale).foldl (fun s n => (s.trainSet n).bump (Reg.memChUe n) 31 16 1) s

/-- Ring 1,023 as it stands after every boot (R487): 256 packets, no function. -/
def State.openOob (s : State) : State :=
  (s.setCq (2 ^ 32) (Cq.fresh 0 8 0xFFFF)).setSq 1023 ⟨0xFF, 1023, 0, 8, 0, 0, 0, 2 ^ 32, []⟩

/-- Fold has booted: READY sets (R457, R458). After a warm reset the regions are placed again (R409). -/
def State.bootDone (s : State) : State :=
  let s := (s.loadTick.openOob).setRbit Reg.fldStatus 0 true
  let s := (s.setRbit Reg.crpStatus 3 false).setRf Reg.fldCores 7 0 0xFF
  let s := s.onFld fun f => { f with core := List.replicate 8 (max 1 s.clk) }
  let s := s.onDhd fun d => { d with lastKick := s.clk }
  let fell := s.crp.cgFell
  let s := s.onCrp fun c => { c with boot := .ready, warmEnd := none, cgFell := false }
  let s := if s.initDone then s.placeRegions else s
  if fell then s.sklFold 0x31 0 1 0 else s

/-- A warm reset ends at a boundary once its time is up and the CORE island has power (R458, step 6). -/
def State.warmTick (s : State) : State :=
  match s.crp.warmEnd with
  | none => s
  | some t => if t ≤ s.clk && s.crp.corePg then s.retrainStale.bootDone else s

/-- The boot ROM's test of a record memory that has failed (R503): `ok` is whether every word reads back. -/
def State.sklRetest (s : State) (ok : Bool) : State :=
  if !s.skl.memFail then s
  else if ok then
    s.onSkl fun k => { k with memFail := false, recs := [], oldest := k.next, full := false, lw := [], lwLost := 0 }
  else s.lastWord 1 0x1FFF

/-- A signed byte. -/
def byteOfInt (i : Int) : Nat := (i % 256).toNat

/-- DDR_TRAINING_COMPLETE (R399): cold training has ended, in whatever way; the last step of a cold reset. `failed` are the
channels that failed, `rate` in units of 100 MT/s, `gib` the capacity, `temp` the DIMM temperature recorded, and `sklOk` the
outcome of R503's test. -/
def execDdrTrainingComplete (failed : List (Fin 16)) (rate gib : Nat) (temp : Int) (sklOk : Bool) (s : State) :
    Host.Outcome State Fault Refusal :=
  .next <|
    if s.crp.boot != .booting || s.crp.warmEnd.isSome then s
    else
      let s := s.sklRetest sklOk
      let s := s.setReg Reg.memStatus (BitVec.ofNat 32
        (b2n failed.isEmpty + 8 * b2n (!failed.isEmpty) + 256 * (rate % 256) + 65536 * min gib 2048))
      let s := (List.range 16).foldl (fun s n =>
        (s.setRf (Reg.memChStat n) 15 8 (byteOfInt temp)).trainSet n) s
      let s := failed.foldl (fun s n => (s.memLatch n 4 0).sklHw 0x14 n 4 0) s
      s.bootDone

/-! ## The reset commands (R455 to R458) -/

/-- AON power-up (R534, step 1): what NOR, the fuses and the board hold is all there is. -/
def State.powerUp (s : State) : State :=
  let c := s.rebuilt true
  let skip := KMap.getD s.ez.parNor Par.attPorSkip (s.parDefault Par.attPorSkip) == 1
  let par := KMap.put s.ez.parNor Par.attPorSkip (b2n skip)
  let s := { c with
    regs := []
    clk := 0
    skl := Skl.reset
    crp := Crp.reset
    thm := Thermal.reset
    ez := { c.ez with authFail := [0, 0, 0, 0], backoff := [0, 0, 0, 0], par := par } }
  let s := s.setRbit Reg.fldStatus 1 (KMap.get? s.ez.roleKeys 4).isSome
  let s := s.onData fun d => { d with sealKey := s.drawn 32 }
  s.nextDraw.attestPor skip

/-- POWER_ON_RESET (R534, step 1): AON power has risen. -/
def execPowerOnReset (s : State) : Host.Outcome State Fault Refusal :=
  .next <| (s.releasePins.powerUp).emit (.pin "CORE_PWR_EN" 0 false)

/-- POWER_LOSS (R537): the rails have fallen. Nothing runs until AON power rises again. -/
def execPowerLoss (s : State) : Host.Outcome State Fault Refusal :=
  .next <| s.releasePins.powerUp.onCrp fun c => { c with boot := .off }

/-- COLD_RESET (R455, R457): SYS_RESET_N is low. -/
def execColdReset (s : State) : Host.Outcome State Fault Refusal :=
  .next <|
    let s := s.onCrp fun c => { c with sysRstN := false }
    match s.crp.boot with
    | .off | .waitSoc | .waitCore | .tripped => s
    | .held => s
    | _ => s.coldReset 1 .held

/-- SYS_RESET_N_RELEASE (R457, R534): the device leaves its reset at once if power is good. -/
def execSysResetNRelease (s : State) : Host.Outcome State Fault Refusal :=
  .next <|
    if s.crp.boot == .off then s
    else
      let s := s.onCrp fun c => { c with sysRstN := true }
      if s.crp.boot == .held then
        ((s.onCrp fun c => { c with boot := .booting }).emit (.pin "DDR_RESET_N" 0 true)).startBoot
      else s

/-- The key of a write of CRP_RESET. -/
def resetKey (v : Nat) : Bool := fieldOf v 15 8 == 0xC5

/-- CRP_RESET_WARM (R455, R458). -/
def execCrpResetWarm (val : W32) (s : State) : Host.Outcome State Fault Refusal :=
  .next <|
    let v := val.toNat
    if !resetKey v then s
    else if bitAt v 1 then s.coldCommand 2
    else if bitAt v 0 then s.warmReset 3
    else s

/-- CRP_RESET_COLD (R455, R457): with both bits set the larger is served (R456). -/
def execCrpResetCold (val : W32) (s : State) : Host.Outcome State Fault Refusal :=
  .next <|
    let v := val.toNat
    if resetKey v && bitAt v 1 then s.coldCommand 2
    else if resetKey v && bitAt v 0 then s.warmReset 3
    else s

/-- WATCHDOG_EXPIRY (R382): no kick has come for DHD_wdt_ms. -/
def execWatchdogExpiry (s : State) : Host.Outcome State Fault Refusal :=
  .next <|
    if !s.ready || s.clk < s.dhd.lastKick + msTicks (s.par Par.wdtMs) then s
    else
      let live := s.rf Reg.fldCores 7 0
      let s := (s.lastWord 2 live).sklHw 0x32 0 1 live
      (s.warmReset 4).latch errDhd 0 1

/-- ACTIVATE_RESET (R518): 1 ms after the reply of a command with NOW. -/
def execActivateReset (s : State) : Host.Outcome State Fault Refusal :=
  .next <|
    match s.upd.nowAt with
    | some t => if t + msTicks 1 ≤ s.clk then s.warmReset 3 else s
    | none => s

/-- TAG_PARITY_ERROR (R421): a clean entry of a general way is dropped; any other loses data whose address is unknown. -/
def execTagParityError (way : Fin 16) (set : Nat) (dirty : Bool) (s : State) : Host.Outcome State Fault Refusal :=
  .next <|
    if s.rbit Reg.hthStatus 1 then s
    else
      let s := s.bump Reg.hthCntEvents 15 0 1
      if !dirty && !s.wayLocked way && !s.wayStripe way then
        s.onHth fun h => { h with lines := KMap.del h.lines (way.val * 65536 + set) }
      else
        let slice := set % 16
        let s := ((s.latch errMem 18 5).sklHw 0x14 18 5 slice).lastWord 4 slice
        s.warmReset 5

/-! ## The host link and functions (R74, R343, R441, R459) -/

/-- Commands whose commit a function's reset cuts short: the PUTs and DELETE_REF. -/
def cutByFlr (e : Entry) : Bool := e.op == 0x0101 || e.op == 0x0102 || e.op == 0x0103 || e.op == 0x0121

/-- A PUT whose source is a GRMP window runs on (R74). -/
def fromWindow (e : Entry) : Bool := cutByFlr e && e.op != 0x0121 && e.p 26 1 == 2

/-- No reply is written any more for a function's commands: their replies go to a ring that is not there. -/
def State.muteFn (s : State) (fn : Nat) : State :=
  s.onEz fun z => { z with queue := z.queue.map fun e => if e.fn == fn && e.ring != 1023 then { e with ring := 65536 } else e }

/-- The uncommitted PUTs and deletes of a function fail (R23, R74). -/
def State.cutFn (s : State) (fn : Nat) : State :=
  let es := s.ez.queue.filter fun e => e.fn == fn && e.ring == 65536 && cutByFlr e && !fromWindow e
  es.foldl (fun s e =>
    if (s.put e.eid).isSome then (s.endPut e.eid St.aborted 0).freeEntry e.eid
    else if !e.begun then s.freeEntry e.eid
    else
      match s.data.journals.findSome? fun j =>
        (j.2.recs.find? fun r => r.eid == e.eid && r.st != .complete).map fun r => (j.1, r.jseq) with
      | some (d, q) => (s.dropRec d q).freeEntry e.eid
      | none => s) s

/-- A function's sessions end, with what they hold (R73, R74); those of ring 1,023 belong to no function. -/
def State.endSessionsOf (s : State) (fn : Nat) : State :=
  (s.ez.sessions.filter fun x => x.2.fn == fn).foldl (fun s x =>
    let s := (s.releaseHoldings x.1).endSession x.1 x.2
    match x.2.closeEid with
    | some e => s.freeEntry e
    | none => s) s

/-- A function's rings are deleted; ring 0 of the physical function is reset and disabled instead (R74, R441). -/
def State.dropRingsOf (s : State) (fn : Nat) : State :=
  let rs := (s.ez.sqs.filter fun x => x.2.fn == fn && x.1 != 1023).map (·.1)
  let waits := s.ez.sqs.flatMap fun x => if rs.contains x.1 then x.2.drains.map (·.2) else []
  let held := (s.ez.denied.filter fun h => rs.contains h.ring).map (·.eid)
  let s := s.onEz fun z => { z with
    denied := z.denied.filter (fun h => !rs.contains h.ring)
    nonces := z.nonces.filter fun n => n.fn != fn || n.ring == 1023 }
  let s := (rs.filter (· != 0)).foldl State.freeRing s
  let s := if fn = 0 then
      let s := match s.sq 0 with
        | some q => s.setSq 0 { q with drains := [] }
        | none => s
      ((s.resetRing 0).setRbit Reg.fldAdmCtrl 0 false).setSrc 0 { s.src 0 with pend := false }
    else s
  (waits ++ held).foldl State.freeEntry s

/-- A function's Hedgerow state is cleared (R441): MSI-X Enable clears, Function Mask and every vector mask set, the open
batches empty. -/
def State.clearHrwOf (s : State) (fn : Nat) : State :=
  let s := s.setFn fn { Fn.reset with fnMask := true, vfOn := (s.fn fn).vfOn }
  s.onHrw fun h =>
    { h with vecs := KMap.mapV h.vecs fun k v => if k / 2048 == fn then { v with batch := none, pba := false, mask := true } else v }

/-- The reset of a function's state (R74, R343, R441). The connections, the INGEST spaces and the data plane run on. -/
def State.resetFn (s : State) (fn : Nat) : State :=
  let s := ((s.muteFn fn).cutFn fn).endSessionsOf fn
  let s := s.dropSpaces fun y => y.kind == 0 && y.fn == fn
  (s.dropRingsOf fn).clearHrwOf fn

/-- FUNCTION_LEVEL_RESET (R74). -/
def execFunctionLevelReset (fn : Nat) (s : State) : Host.Outcome State Fault Refusal :=
  .next <| if 63 < fn then s else s.resetFn fn

/-- HOST_LINK_RESET (R459): the configuration space and every function; the data plane runs on. -/
def execHostLinkReset (s : State) : Host.Outcome State Fault Refusal :=
  .next <|
    match s.crp.boot with
    | .off | .waitSoc | .waitCore | .held | .tripped => s
    | _ =>
      let s := (List.range 64).foldl State.resetFn s
      let s := s.onHrw fun h => { h with fns := KMap.mapV h.fns fun _ f => { f with vfOn := false } }
      ((s.resetCause 8).discard [0x11]).onCrp fun c => { c with linkUp := false }

/-- PERST_N_RELEASE (R457): PCIH leaves reset and the link comes up. -/
def execPerstNRelease (s : State) : Host.Outcome State Fault Refusal :=
  .next <| if s.crp.boot == .off then s else s.onCrp fun c => { c with linkUp := true }

/-! ## Power sequencing (R534 to R537) -/

/-- Raise or drop CORE_PWR_EN. -/
def State.corePower (s : State) (b : Bool) : State :=
  (s.onCrp fun c => { c with corePwrEn := b }).emit (.pin "CORE_PWR_EN" 0 b)

/-- SOC_PG_RISE (R534, steps 2 and 3). -/
def execSocPgRise (s : State) : Host.Outcome State Fault Refusal :=
  .next <|
    if s.crp.boot != .waitSoc then s
    else (s.onCrp fun c => { c with socPg := true, boot := .waitCore }).corePower true

/-- CORE_PWR_EN_RETRY (R535): 100 ms after CORE_PWR_EN was dropped for want of CORE_PG at power-up. -/
def execCorePwrEnRetry (s : State) : Host.Outcome State Fault Refusal :=
  .next <| if s.crp.boot == .waitCore && !s.crp.corePwrEn then s.corePower true else s

/-- SOC_PG_FALL (R536): cold reset, CORE_PWR_EN drops, every open-drain output is released. -/
def execSocPgFall (s : State) : Host.Outcome State Fault Refusal :=
  .next <|
    if s.crp.boot == .off || !s.crp.socPg then s
    else ((s.coldReset 1 .waitSoc).onCrp fun c => { c with socPg := false, corePg := false }).corePower false

/-- CORE_PG_FALL (R537): with CORE_PWR_EN asserted and no P2 transition it acts as SYS_RESET_N does; the restart waits for
CORE_PG. -/
def execCorePgFall (s : State) : Host.Outcome State Fault Refusal :=
  .next <|
    if !s.crp.corePg then s
    else
      let s := s.onCrp fun c => { c with corePg := false }
      if !s.crp.corePwrEn || s.crp.trans != 0 then s
      else (s.coldReset 1 .waitCore).onCrp fun c => { c with cgFell := true }

/-! ## P1 (R462) -/

/-- The blocks that P1 gates, by block code and instance: lanes, compressors, decompressors, cores, hash cores, Tussock
instances, transports. -/
def State.gateable (s : State) : List (Nat × Nat) :=
  let all := fun (c n : Nat) => (List.range n).map fun i => (c, i)
  all 1 16 ++ all 2 16 ++ all 3 16 ++ all 4 8 ++ all 5 4 ++ all 6 8 ++ all 7 (s.instCount 7)

/-- A block has no work. A transport counts as empty only at rest. -/
def State.blockEmpty (s : State) (code i : Nat) : Bool :=
  if code = 5 then s.data.ctxs.all fun c => c.2.st != .run
  else
    let k := instKey code i
    !s.basicWork k && !(s.xqHeld k && s.xqReady k) && (code != 7 || (s.tape i).still)

/-- Show what is gated (CRP_STATUS). -/
def State.showGated (s : State) : State :=
  let s := s.setRf Reg.crpStatus 19 4 (bitsWhere 16 fun i => s.crp.gated.contains (1, i))
  if s.inP2 then s else s.setRf Reg.crpStatus 1 0 (b2n (s.gateable.all s.crp.gated.contains))

/-- BLOCK_IDLE_GATE (R462): a block has been empty for CRP_p1_idle_us. -/
def execBlockIdleGate (block inst : Nat) (s : State) : Host.Outcome State Fault Refusal :=
  .next <|
    if !s.ready || s.inP2 || s.par Par.p1En == 0 || !s.gateable.contains (block, inst) || s.crp.gated.contains (block, inst) ||
        !s.blockEmpty block inst then s
    else (s.onCrp fun c => { c with gated := (block, inst) :: c.gated }).showGated

/-- BLOCK_UNGATE (R462): work reaches a gated block. -/
def execBlockUngate (block inst : Nat) (s : State) : Host.Outcome State Fault Refusal :=
  .next <|
    if !s.crp.gated.contains (block, inst) then s
    else (s.onCrp fun c => { c with gated := c.gated.filter (· != (block, inst)) }).showGated

/-! ## P2 (R463 to R466) -/

/-- Show the result of a request (CRP_PSTATE_RES). -/
def State.pstateRes (s : State) (st dt : Nat) : State := s.setReg Reg.crpPstateRes (BitVec.ofNat 32 (st + 65536 * dt))

/-- Why entry to P2 is refused (R463). -/
def State.p2Refused (s : State) : Option Nat :=
  if s.holdsDomain then some 0x1D01
  else if (s.tape 0).mst != .none || (s.tape 1).mst != .none then some 0x1D02
  else if (s.ez.inst.any fun x => x.2.ctl != .basic) || !s.mem.fills.isEmpty || s.hthCleaning ||
      (s.data.nodes.any fun x => match x.2 with | .group g => g.reshape.st != 0 | _ => false) then some 0x1D03
  else none

/-- CLOSE goes out on every connection, as by CONN_CLOSE (R464, step 2). -/
def State.closeAll (s : State) : State :=
  (s.drv.conns.map (·.1)).foldl (fun s c =>
    (s.onConn c fun x => { x with closing := true, closeEid := 0, parked := [], fetching := false }).finishConn c) s

/-- Offsets of the registers of the CORE island (R444, R551): every block from SWD to GLN T1. -/
def inCoreIsland (off : Nat) : Bool := decide (0x80000 ≤ off ∧ off < 0x300000)

/-- The CORE island's content goes, apart from what R467 keeps: what DDR and NOR hold. -/
def State.dropCore (s : State) : State :=
  let b := State.reset
  let mem := s.reg Reg.memStatus
  let s := (s.drv.conns.map (·.1)).foldl (fun s c =>
    match s.conn c with
    | some x => (s.opsEnd x.ops St.aborted 0x1901).failWindows c St.aborted 0x1901
    | none => s) s
  let s := s.dropSpaces fun _ => true
  let keep := (List.range 16).map fun n => (Reg.memChStat n, s.reg (Reg.memChStat n))
  let s := { s with
    regs := s.regs.filter (fun x => !inCoreIsland x.1)
    staged := s.staged.filter (fun x => !inCoreIsland x.1)
    latched := s.latched.filter (fun x => !inCoreIsland x.1)
    drv := { b.drv with useClock := s.drv.useClock, msgSeq := s.drv.msgSeq }
    net := b.net
    hth := b.hth
    tape0 := b.tape0
    tape1 := b.tape1
    dhd := { b.dhd with lastKick := s.dhd.lastKick }
    fpt := { s.fpt with ns := KMap.mapV s.fpt.ns (fun _ x => { x with present := false }), ports := [], cmds := [] }
    data := { s.data with slots := [], keyin := b.data.keyin, ctxs := [] }
    ez := { s.ez with xqs := [] } }
  (keep.foldl (fun s x => s.setReg x.1 x.2) s).setReg Reg.memStatus mem

/-- Begin the exit from P2 (R466, step 1). -/
def State.p2Leave (s : State) : State :=
  ((s.onCrp fun c => { c with trans := 2 }).setRbit Reg.crpStatus 2 true).pstateRes St.pending 0 |>.corePower true

/-- The last step of the entry (R464, steps 4 and 5), once the clean has ended and the connections are gone or 1 ms has
passed. A held request follows. -/
def State.p2Try (s : State) : State :=
  if s.crp.trans != 1 || s.hthCleaning || (!s.drv.conns.isEmpty && decide (s.clk < s.crp.p2At + msTicks 1)) then s
  else
    let s := s.hrw.vecs.foldl (fun s x =>
      if x.2.batch.isSome && !s.vecMasked (x.1 / 2048) (x.1 % 2048) then s.commitBatch (x.1 / 2048) (x.1 % 2048) else s) s
    let held := s.crp.held
    let s := (s.dropCore.onCrp fun c => { c with trans := 0, held := none, gated := [] }).corePower false
    let s := ((s.setReg Reg.crpStatus 2#32).setRf Reg.crpPstate 4 2 0).pstateRes St.ok 0
    if held == some 0 then s.p2Leave else s

/-- A request for P2 with no transition running (R463, R464). -/
def State.p2Enter (s : State) : State :=
  if s.inP2 then s.pstateRes St.ok 0
  else
    match s.p2Refused with
    | some dt => s.pstateRes St.busy dt
    | none =>
      let s := (s.pstateRes St.pending 0).setRbit Reg.crpStatus 2 true
      let s := s.onCrp fun c => { c with trans := 1, p2At := s.clk }
      let s := s.closeAll
      (if s.hthEnabled then s.disableHeather 0 else s).p2Try

/-- A request while a transition runs is held, in place of any held before (R463). -/
def State.holdReq (s : State) (r : Nat) : State :=
  (s.onCrp fun c => { c with held := some r }).setRf Reg.crpPstate 4 2 (4 + r)

/-- A write of CRP_PSTATE by its REQ; 1 and 3 are ignored. -/
def State.pstateWrite (s : State) (val : W32) : State :=
  let r := fieldOf val.toNat 1 0
  if !s.ready || r = 1 || r = 3 then s
  else
    let s := s.setRf Reg.crpPstate 1 0 r
    if s.crp.trans != 0 then s.holdReq r
    else if r = 2 then s.p2Enter
    else if s.inP2 then s.p2Leave
    else s.pstateRes St.ok 0

/-- PSTATE_P2_REQUEST (R463, R464). -/
def execPstateP2Request (val : W32) (s : State) : Host.Outcome State Fault Refusal := .next <| s.pstateWrite val

/-- PSTATE_P0_REQUEST (R466). -/
def execPstateP0Request (val : W32) (s : State) : Host.Outcome State Fault Refusal := .next <| s.pstateWrite val

/-- An unmasked always-on source is pending (R440). -/
def State.wakePending (s : State) : Bool :=
  (List.range 16).any fun i => let x := s.src (0x620 + i); x.pend && !x.mask

/-- ALWAYS_ON_WAKE (R440, R466): WAKE_N is asserted while the host link is down (R538). -/
def execAlwaysOnWake (s : State) : Host.Outcome State Fault Refusal :=
  .next <|
    if !s.inP2 || s.crp.trans != 0 || !s.wakePending then s
    else (if s.crp.linkUp then s else s.emit (.pin "WAKE_N" 0 true)).p2Leave

/-- CLEAN_COMPLETE (R416): the clean of a disable has ended; an entry to P2 goes on. -/
def execCleanComplete (s : State) : Host.Outcome State Fault Refusal := .next <| s.cleanDone.p2Try

/-- The exit from P2 is complete (R466, steps 3 to 5). A held request follows. -/
def State.p2Done (s : State) : State :=
  let held := s.crp.held
  let s := s.onEz fun z => { z with par := z.parExit.foldl (fun t x => KMap.put t x.1 x.2) z.par, parExit := [] }
  let s := (List.range 16).foldl (fun s n => (s.trainSet n).bump (Reg.memChUe n) 31 16 1) s
  let s := (s.onCrp fun c => { c with trans := 0, held := none }).onDhd fun d => { d with selftestOk := true }
  let s := ((s.setReg Reg.crpStatus 0).setRf Reg.crpPstate 4 2 0).pstateRes St.ok 0
  let s := (s.discard (allXings.filter fun x => x != 0x17)).onFld fun f => { f with core := max 1 s.clk :: List.replicate 7 0 }
  if held == some 2 then s.p2Enter else s

/-- CORE_PG_RISE (R534, R466): the CORE island has power. -/
def execCorePgRise (s : State) : Host.Outcome State Fault Refusal :=
  .next <|
    if !s.crp.corePwrEn || s.crp.corePg then s
    else
      let s := s.onCrp fun c => { c with corePg := true }
      if s.crp.trans = 2 then s.p2Done
      else if s.crp.boot == .waitCore then
        if s.crp.sysRstN then
          ((s.onCrp fun c => { c with boot := .booting }).emit (.pin "DDR_RESET_N" 0 true)).startBoot
        else s.onCrp fun c => { c with boot := .held }
      else s

/-- CORE_PG_TIMEOUT (R535, R466): 10 ms after CORE_PWR_EN rose. The exit from P2 does not retry. -/
def execCorePgTimeout (s : State) : Host.Outcome State Fault Refusal :=
  .next <|
    if !s.crp.corePwrEn || s.crp.corePg then s
    else
      let s := s.corePower false
      if s.crp.trans = 2 then
        let held := s.crp.held
        let s := s.onCrp fun c => { c with trans := 0, held := none }
        let s := ((s.setRbit Reg.crpStatus 2 false).setRf Reg.crpPstate 4 2 0).pstateRes St.internal 0x1D05
        let s := s.sklStatus 0x31 0 0 St.internal 0x1D05 0
        if held == some 0 then s.p2Leave else s
      else s

/-! ## Clocks (R454) -/

/-- Ports whose links a clock domain's fault takes down, and what is treated as down with it. -/
def State.clockDown (s : State) (dom : Nat) : State :=
  match dom with
  | 4 => (s.fpt.ports.map (·.1)).foldl (fun s p => if (s.port p).present then s.contain p false else s) s
  | 5 => (s.onNport 0 fun x => { x with upSince := [] }).portDown 0
  | 6 => (s.onNport 1 fun x => { x with upSince := [] }).portDown 1
  | _ => s

/-- A clock that is stopped by design (R444). -/
def State.stopsByDesign (s : State) (dom : Nat) : Bool :=
  match dom with
  | 1 | 9 => false
  | 3 => !s.crp.linkUp
  | 7 | 8 => s.inP2 || (s.tape (dom - 7)).mst == .none || (s.tape (dom - 7)).still
  | _ => s.inP2

/-- CLOCK_FAULT (R454): an unplanned stop of 10 µs or more, or a loss of PLL lock; `stopped` tells which. -/
def execClockFault (dom : Fin 10) (stopped : Bool) (s : State) : Host.Outcome State Fault Refusal :=
  .next <|
    if !s.ready || s.stopsByDesign dom then s
    else
      let s := (s.setRbit Reg.crpClkStat (16 + dom) true).raise (Reg.crpClkStat + dom)
      let s := s.sklHw 0x31 dom 0 (b2n stopped)
      (s.onCrp fun c => { c with stopped := dom.val :: c.stopped.filter (· != dom.val) }).clockDown dom

/-- PLL_RELOCK (R454): the PLL has been locked again for 20 µs; the links of its blocks come back under their own
chapters. -/
def execPllRelock (dom : Fin 10) (s : State) : Host.Outcome State Fault Refusal :=
  .next <| s.onCrp fun c => { c with stopped := c.stopped.filter (· != dom.val) }

/-! ## Thermal (R546 to R548) -/

/-- A sensor that runs: sensor 0 always, the others with the CORE island, those of the front-end dies on the -T2. -/
def State.sensorOn (s : State) (n : Nat) : Bool :=
  s.crp.boot != .off && (n == 0 || (s.crp.corePg && !s.inP2 && (n < 12 || s.part.t2)))

/-- The hottest running sensor of the digital die, the lowest-numbered among equals: number and 1/16 °C. -/
def State.hottest (s : State) : Option (Nat × Int) :=
  (s.thm.temps.filter fun x => x.1 < 12 && s.sensorOn x.1).foldl (fun best x =>
    match best with
    | none => some x
    | some y => if y.2 < x.2 then some x else some y) none

/-- A temperature as a 16-bit field. -/
def tempField (t : Int) : Nat := (t % 65536).toNat

/-- Whole degrees of a temperature; the rounding is not stated (log entry 10). -/
def degrees (t : Int) : Int := Config.quot t 16

/-- Show the digital die's temperature (CRP_TEMP) and its peak. -/
def State.showTemp (s : State) : State :=
  match s.hottest with
  | none => s
  | some (n, t) =>
    let s := s.setReg Reg.crpTemp (BitVec.ofNat 32 (tempField t + 65536 * n))
    let p := s.rf Reg.crpTherm 31 24
    let peak : Int := if p < 128 then p else (p : Int) - 256
    if peak < degrees t then s.setRf Reg.crpTherm 31 24 (byteOfInt (degrees t)) else s

/-- The thermal alarm (R547): it sets when a sensor reaches the threshold, and clears when every one has fallen below it by
5 °C. -/
def State.judgeAlarm (s : State) : State :=
  let thr : Int := 16 * (s.par Par.alarmC : Int)
  let on := s.thm.temps.filter fun x => s.sensorOn x.1
  let s := s.setRbit Reg.crpTherm 1 (on.any fun x => 12 ≤ x.1 && decide (thr ≤ x.2))
  if s.rbit Reg.crpTherm 0 then
    if on.all fun x => decide (x.2 < thr - 80) then
      (((s.setRbit Reg.crpTherm 0 false).emit (.pin "THERM_ALERT_N" 0 false)).setLevel 0x620 false)
    else s
  else if on.any fun x => decide (thr ≤ x.2) then
    (((s.setRbit Reg.crpTherm 0 true).emit (.pin "THERM_ALERT_N" 0 true)).setLevel 0x620 true).sklFold 0x31 0 0 (s.par Par.alarmC)
  else s

/-- THERMAL_SAMPLE (R546, R547): a sample in 1/16 °C of a sensor, 12 and 13 those of the front-end dies. -/
def execThermalSample (sensor : Fin 14) (temp : Int) (s : State) : Host.Outcome State Fault Refusal :=
  .next <|
    let n := sensor.val
    if !s.sensorOn n then s
    else
      let s := { s with thm := { s.thm with
        temps := KMap.put s.thm.temps n temp
        hot := if 1840 ≤ temp then KMap.put s.thm.hot n (KMap.getD s.thm.hot n 0 + 1) else KMap.del s.thm.hot n
        coolSince := if n != 0 then s.thm.coolSince else if temp < 1520 then some (s.thm.coolSince.getD s.clk) else none } }
      let s := if n = 12 then s.setRf Reg.crpTempFe 15 0 (tempField temp)
        else if n = 13 then s.setRf Reg.crpTempFe 31 16 (tempField temp) else s.showTemp
      s.judgeAlarm

/-- THERMAL_TRIP (R548): a running sensor has read 115 °C or more in two consecutive samples. -/
def execThermalTrip (s : State) : Host.Outcome State Fault Refusal :=
  .next <|
    if !(s.thm.hot.any fun x => 2 ≤ x.2 && s.sensorOn x.1) || s.crp.boot == .tripped then s
    else
      let t := byteOfInt (degrees ((s.hottest.map (·.2)).getD 0))
      let s := (s.emit (.pin "THERMTRIP_N" 0 true)).lastWord 3 t
      let s := s.sklHw 0x31 0 0 t
      let s := (s.coldReset 6 .tripped).setRbit Reg.crpTherm 2 true
      (s.onCrp fun c => { c with corePg := false }).corePower false

/-- TRIP_END (R548): sensor 0 has read below 95 °C for 100 ms; power-up goes on with step 3 of R534. -/
def execTripEnd (s : State) : Host.Outcome State Fault Refusal :=
  .next <|
    match s.thm.coolSince with
    | none => s
    | some t =>
      if s.crp.boot != .tripped || s.clk < t + msTicks 100 then s
      else
        let s := { s with thm := { s.thm with hot := [] } }
        ((s.emit (.pin "THERMTRIP_N" 0 false)).onCrp fun c => { c with boot := .waitCore }).corePower true

end Sys2Proof.Machine
end

