-- ==== Sys2Proof/Machine/TapeFmt.lean ====
section
/-! DEFINITION. The format of what lies on tape: records, data sets, the three codes, frames (R253 to R264), and their
restoring (R260, R261, R280, R286). -/

namespace Sys2Proof.Machine

open Sys2Proof

/-! ## Records (R253 to R255) -/

/-- Payload bytes of a data set (R256). -/
abbrev dsBytes : Nat := 8388608

/-- The 32-byte header of a tape record (R253). -/
def tapeHeader (kind id rseq : Nat) (body : Bytes) : Bytes :=
  let h := [1, byteOf kind, 0, 0] ++ leBytes 4 body.length ++ leBytes 8 id ++ leBytes 4 rseq ++ leBytes 4 (crc32c body) ++ zeros 6
  h ++ leBytes 2 (crc16 h)

/-- The body of a host record (R254): each block behind its check field. -/
def hostBody (rec_ : Bytes) : Bytes :=
  (pieces 4096 rec_).zipIdx.flatMap fun (b, i) => checkField b i 0 0xFFFF ++ b

/-- The blocks of a HOST body, each with its check field, and whether all of them pass. -/
def openHost (body : Bytes) : Bytes × Bool :=
  let bs := pieces 4112 body
  (bs.flatMap (·.drop 16), bs.zipIdx.all fun (x, i) => (checkFieldErr (x.drop 16) (x.take 16) i 0 0xFFFF).isNone)

/-- The payload stream up to the place of the next record header: 16-byte alignment, and no header across a data set
(R255). `lo` is the position of the stream's first byte, a multiple of a data set. -/
def alignStream (lo : Nat) (stream : Bytes) : Bytes :=
  let n := roundUp stream.length 16
  let n := if dsBytes - (lo + n) % dsBytes < 32 then roundUp n dsBytes else n
  padTo stream n

/-! ## Sub data sets (R256, R257) -/

/-- What a trailer says, but for the sub data set. -/
structure Trailer where
  kind : Nat
  copy : Nat
  dsn : Nat
  wp : Nat
  group : Nat
  wrap : Nat
  firstRec : Nat
  recs : Nat
  payCrc : Nat
deriving DecidableEq, Repr

/-- The 64 bytes of a trailer of sub data set `j`. -/
def Trailer.bytes (t : Trailer) (j : Nat) : Bytes :=
  let b := [1, byteOf t.kind, byteOf j, byteOf t.copy] ++ leBytes 4 t.dsn ++ leBytes 4 t.wp ++ leBytes 4 t.group
    ++ [byteOf t.wrap, 0, 0, 0] ++ leBytes 4 t.firstRec ++ leBytes 4 t.recs ++ leBytes 4 t.payCrc ++ zeros 28
  b ++ leBytes 4 (crc32c b)

/-! ## C2 and C3 (R259, R261) -/

/-- Coefficients of the generator (x - α^0) … (x - α^(n-1)) below x^n, highest first. -/
def rsGen : Nat → List Nat
  | 0 => []
  | n + 1 =>
    let g := 1 :: rsGen n
    (List.zipWith (fun a b => a ^^^ gfMul (gfPowP 0x1D 2 n) b) (g.drop 1 ++ [0]) g)

/-- One step of dividing by a generator: the remainder registers, highest first, take the next symbol. -/
def rsStep (gen : List Nat) (regs : List Bytes) (d : Bytes) : List Bytes :=
  let fb := xorBytes d (regs.headD [])
  List.zipWith (fun r c => xorBytes r (gfScale c fb)) (regs.drop 1 ++ [zeros d.length]) gen

/-- The parity symbols of data symbols of `len` bytes. -/
def rsParity (n len : Nat) (data : List Bytes) : List Bytes :=
  data.foldl (rsStep (rsGen n)) (List.replicate n (zeros len))

/-- Restore the erased symbols of a codeword with `n` parity symbols (R259, R261): any `n` erasures. -/
def rsRestore (n len : Nat) (sym : List (Option Bytes)) : Option (List Bytes) :=
  let top := sym.length - 1
  let miss := (List.range sym.length).filter fun i => (sym.getD i none).isNone
  if n < miss.length then none
  else
    let at_ := fun (k i : Nat) => gfPowP 0x1D 2 (k * (top - i))
    let eqs := (List.range miss.length).map fun k =>
      (miss.map (at_ k), sym.zipIdx.foldl (fun a x => match x.1 with
        | some b => xorBytes a (gfScale (at_ k x.2) b)
        | none => a) (zeros len))
    (gfSolve miss.length eqs).map fun xs =>
      sym.zipIdx.map fun x => match x.1 with
        | some b => b
        | none => ((List.zip miss xs).find? fun m => m.1 == x.2).elim [] (·.2)

/-- The array of a sub data set (R256): payload, trailer, reserved bytes, and 12 rows of C2 parity. -/
def sdsArray (t : Trailer) (payload : Bytes) (j : Nat) : Bytes :=
  let d := slice payload (131072 * j) 131072 ++ t.bytes j ++ zeros 744
  d ++ (rsParity 12 1570 (pieces 1570 d)).flatten

/-- The 64 arrays of a data set. -/
def dataArrays (t : Trailer) (payload : Bytes) : List Bytes := (List.range 64).map (sdsArray t payload)

/-- Add a data set's arrays to a group's accumulators. -/
def C3Group.add (g : C3Group) (arrays : List Bytes) : C3Group :=
  let r := (List.zip arrays (List.zip g.p0 g.p1)).map fun x => rsStep (rsGen 2) [x.2.1, x.2.2] x.1
  { g with n := g.n + 1, p0 := r.map (·.headD []), p1 := r.map fun y => y.getD 1 [] }

/-- A group about to take its first data set. -/
def C3Group.opened (first : Nat) : C3Group :=
  ⟨first, 0, List.replicate 64 (zeros 150720), List.replicate 64 (zeros 150720), false⟩

/-! ## Frames (R260, R262 to R264) -/

/-- A C1 codeword: 960 information bytes and the parity. -/
def c1Word (info : Bytes) : Bytes := info ++ padTo (Config.c1Parity info) 64

/-- Eight bits of the randomiser from a register value: the bits as a byte, and the register after them. -/
def rndByte (r : Nat) : Nat × Nat :=
  (List.range 8).foldl (fun (b, r) _ =>
    let fb := bitAt r 15 ^^ bitAt r 13 ^^ bitAt r 12 ^^ bitAt r 10
    (2 * b + r / 32768 % 2, (2 * r) % 65536 + b2n fb)) (0, r)

/-- Bytes of the randomiser sequence. -/
def rndSeq : Nat → Nat → Bytes
  | 0, _ => []
  | n + 1, r => byteOf (rndByte r).1 :: rndSeq n (rndByte r).2

/-- Header kinds (R263). -/
abbrev knData : Nat := 1
/-- P0. -/
abbrev knP0 : Nat := 2
/-- P1. -/
abbrev knP1 : Nat := 3
/-- Filler. -/
abbrev knFiller : Nat := 4
/-- EOD. -/
abbrev knEod : Nat := 5
/-- Null. -/
abbrev knNull : Nat := 6

/-- A frame header (R263) without its CRC: bits [63:16]. -/
def frameHead (dsn sds cwi wp kind copy : Nat) (rew : Bool) : Nat :=
  ((((((dsn % 2 ^ 24 * 64 + sds) * 256 + cwi) * 16 + wp % 16) * 8 + kind) * 4 + copy) * 2) + b2n rew

/-- The eight bytes of a frame header. -/
def headBytes (h : Nat) : Bytes := beBytes 6 h ++ beBytes 2 (crc16 (beBytes 6 h))

/-- The 8,416 channel bits of a frame on a track, as bytes from the first bit on (R262). -/
def frameBits (track : Nat) (head cw : Bytes) : Bytes :=
  let x := xorBytes (head ++ cw) (rndSeq 1032 ((track * 0x0101) ^^^ 0xFFFF))
  List.replicate 12 0xCC ++ [0xF8, 0xD4, 0x2B] ++ x.take 520 ++ [0x07, 0x2B, 0xD4] ++ x.drop 520 ++ [0xCC, 0xCC]

/-- The track of a codeword (R264); its slot is its index. -/
def trackOf (sds cwi : Nat) : Nat := (sds + cwi) % 64

/-- The codeword of a data set with a number 157 × SDS + CWI. -/
def codeword (arrays : List Bytes) (cw : Nat) : Bytes := c1Word (slice (arrays.getD (cw / 157) []) (960 * (cw % 157)) 960)

/-! ## Restoring data sets (R261, R270, R280) -/

/-- How old a write pass is, seen from the cartridge's, by its low four bits. -/
def wpAge (wp x : Nat) : Nat := (wp % 16 + 16 - x % 16) % 16

/-- The words of a data set's highest write pass that is not above the cartridge's (R280). -/
def wordsOf (ws : List RWord) (wp dsn : Nat) : List RWord :=
  let mine := ws.filter fun w => w.dsn == dsn % 2 ^ 24
  let best := mine.foldl (fun m w => min m (wpAge wp w.wp)) 16
  mine.filter fun w => wpAge wp w.wp == best

/-- One sub data set from the codewords at hand: C2 restores a column at a time. -/
def restoreSds (cws : List (Option Bytes)) : Option Bytes :=
  if cws.all Option.isSome then some (cws.flatMap fun o => o.getD [])
  else
    let cols := (List.range 1570).map fun c => rsRestore 12 1 ((List.range 96).map fun r =>
      (cws.getD ((1570 * r + c) / 960) none).map fun b => [b.getD ((1570 * r + c) % 960) 0])
    if cols.all Option.isSome then
      some ((List.range 96).flatMap fun r => cols.flatMap fun o => (o.getD []).getD r [])
    else none

/-- The sub data sets that C1, the copies and C2 restore. -/
def restoreC2 (ws : List RWord) : List (Option Bytes) :=
  (List.range 64).map fun j => restoreSds ((List.range 157).map fun i =>
    (ws.find? fun w => w.sds == j && w.cwi == i).map (·.info))

/-- The kind of a data set by its headers. -/
def kindOf (ws : List RWord) : Option Nat := ws.head?.map (·.kind)

/-- The GROUP field of a data set's trailer, from a sub data set that was restored. -/
def groupField (arrays : List (Option Bytes)) : Option Nat :=
  (arrays.findSome? id).map fun a => leAt a (131072 + 12) 4

/-- The C3 group a data set lies in, as the data sets read name it: from its first data set to P0 and P1. -/
def groupOf (ws : List RWord) (wp dsn : Nat) : Option (Nat × Nat) :=
  match (List.range 33).find? fun k => kindOf (wordsOf ws wp (dsn + k)) == some knP0 with
  | none => none
  | some k =>
    let p0 := dsn + k
    let back := (List.range 32).findSome? fun b =>
      if b < p0 && kindOf (wordsOf ws wp (p0 - 1 - b)) == some knData then groupField (restoreC2 (wordsOf ws wp (p0 - 1 - b))) else none
    back.map fun g => (g, p0)

/-- Restore a data set (R286): its arrays, and whether C3 was needed. -/
def restoreArrays (ws : List RWord) (wp dsn : Nat) : Option (List Bytes × Bool) :=
  let mine := restoreC2 (wordsOf ws wp dsn)
  if mine.all Option.isSome then some (mine.map fun o => o.getD [], false)
  else
    match groupOf ws wp dsn with
    | none => none
    | some (g, p0) =>
      if dsn < g || p0 < g then none
      else
        let all_ := (List.range (p0 + 2 - g)).map fun k => restoreC2 (wordsOf ws wp (g + k))
        let fixed := (List.range 64).map fun j =>
          (rsRestore 2 150720 (all_.map fun a => a.getD j none)).map fun xs => xs.getD (dsn - g) []
        if fixed.all Option.isSome then some (fixed.map fun o => o.getD [], true) else none

/-- A restored data set as it is kept: P0 and P1 hold no trailer of their own. -/
def restoreSet (ws : List RWord) (wp dsn : Nat) : Option RSet :=
  (restoreArrays ws wp dsn).map fun (as_, c3) =>
    let kind := (kindOf (wordsOf ws wp dsn)).getD (leAt (as_.headD []) (131072 + 1) 1)
    ⟨kind, as_.flatMap (·.take 131072), leAt (as_.headD []) (131072 + 20) 4, c3⟩

/-! ## Records read (R286, R287) -/

/-- A record found in data sets read: its header, its body, and whether a lost data set holds part of it. -/
structure FoundRec where
  head : Bytes
  body : Bytes
  lost : Bool
deriving DecidableEq, Repr

/-- HCRC and BODY_CRC of a record are correct. -/
def FoundRec.ok (r : FoundRec) : Bool :=
  !r.lost && leAt r.head 30 2 == crc16 (r.head.take 30) && leAt r.head 20 4 == crc32c r.body

/-- Take the records that start in a data set from an offset on: those that end in it, and the one left open with the
bytes it has. -/
def takeRecs (payload : Bytes) : Nat → Nat → List FoundRec × Option (Bytes × Bytes)
  | 0, _ => ([], none)
  | n + 1, p =>
    if payload.length < p + 32 then ([], none)
    else
      let h := slice payload p 32
      let len := leAt h 4 4
      let body := slice payload (p + 32) len
      if body.length < len then ([], some (h, body))
      else
        let (rs, o) := takeRecs payload n (roundUp (p + 32 + len) 16)
        (⟨h, body, false⟩ :: rs, o)

/-- The records in data sets in ascending DSN order; `none` is a lost one. A record that a lost data set touches is
lost, and reading goes on at the first header after it. `open_` is the record begun in an earlier data set. -/
def recordsIn (open_ : Option (Bytes × Bytes)) : List (Option RSet) → List FoundRec
  | [] => []
  | none :: rest =>
    (match open_ with
      | some (h, b) => [(⟨h, b, true⟩ : FoundRec)]
      | none => []) ++ recordsIn none rest
  | some x :: rest =>
    if x.kind != knData then recordsIn open_ rest
    else
      match open_ with
      | some (h, b) =>
        let need := leAt h 4 4 - b.length
        if dsBytes < need then recordsIn (some (h, b ++ x.payload)) rest
        else
          let (rs, o) := takeRecs x.payload 262145 (roundUp need 16)
          ⟨h, b ++ x.payload.take need, false⟩ :: rs ++ recordsIn o rest
      | none =>
        if x.firstRec = 0xFFFFFFFF then recordsIn none rest
        else
          let (rs, o) := takeRecs x.payload 262145 x.firstRec
          rs ++ recordsIn o rest

end Sys2Proof.Machine
end

