-- ==== Sys2Proof/Machine/Servo.lean ====
section
/-! DEFINITION. Servo, reels and the write gate of a transport (R318 to R332), and what ends its jobs and mounts when it
fails (R329, R333). -/

namespace Sys2Proof.Machine

open Sys2Proof

/-- An event of a transport: the -T0 has none (R3). -/
def State.atTape (s : State) (t : Fin 2) (f : State → Nat → State) : Host.Outcome State Fault Refusal :=
  .next (if s.part.t2 then f s t.val else s)

/-! ## What registers hold -/

/-- WDR_STATUS.STATE. -/
def State.wState (s : State) (t : Nat) : Nat := s.rf (Reg.wdrStatus t) 2 0

/-- Set WDR_STATUS.STATE. -/
def State.setWState (s : State) (t v : Nat) : State := s.setRf (Reg.wdrStatus t) 2 0 v

/-- The wrap targeted (GLN_SRV_STATUS.WRAP). -/
def State.tWrap (s : State) (t : Nat) : Nat := (s.tape t).wrap

/-- Reverse motion: odd wraps (R318). -/
def State.tReverse (s : State) (t : Nat) : Bool := (s.tape t).wrap % 2 == 1

/-- The longitudinal address is valid. -/
def State.ladOk (s : State) (t : Nat) : Bool := s.rbit (Reg.glnSrvStatus t) 5

/-- The servo is locked. -/
def State.servoLocked (s : State) (t : Nat) : Bool := s.rbit (Reg.glnSrvStatus t) 0

/-- Fine position in units of 50 µm (R324). -/
def State.finePos (s : State) (t : Nat) : Nat := 32 * s.rf (Reg.glnSrvLad t) 23 0 + s.rf (Reg.glnSrvLad t) 28 24

/-- A signed 16-bit field's value. -/
def signed16 (n : Nat) : Int := if n < 32768 then n else (n : Int) - 65536

/-- The latest PES. -/
def State.pes (s : State) (t : Nat) : Int := signed16 (s.rf (Reg.glnSrvPes t) 15 0)

/-- SPEED_OK (R294). -/
def State.speedOk (s : State) (t : Nat) : Bool := s.rbit (Reg.glnStatus t) 5

/-! ## Cartridge memory (R281) -/

/-- A little-endian field of the cartridge memory. -/
def Tape.cmAt (x : Tape) (off n : Nat) : Nat := leVal (Mem.read x.cm off n)

/-- FLAGS.WPROT. -/
def Tape.cmWprot (x : Tape) : Bool := bitAt (x.cmAt 1 1) 0
/-- FLAGS.DIRTY. -/
def Tape.cmDirty (x : Tape) : Bool := bitAt (x.cmAt 1 1) 1
/-- LAD_START. -/
def Tape.ladStart (x : Tape) : Nat := x.cmAt 0x14 4
/-- LAD_END. -/
def Tape.ladEnd (x : Tape) : Nat := x.cmAt 0x18 4
/-- WRAPS. -/
def Tape.cmWraps (x : Tape) : Nat := x.cmAt 0x10 1

/-- A zone is marked bad. -/
def Tape.zoneBad (x : Tape) (wrap zone : Nat) : Bool := bitAt (x.cmAt (0x500 + 8 * wrap) 8) zone

/-- Write bytes to the cartridge memory. -/
def State.cmWrite (s : State) (t off : Nat) (b : Bytes) : State :=
  (s.onTape t fun x => { x with cm := Mem.write x.cm off b }).emit (.tape t "CM" off b)

/-- Write the CRC of the identity area, or of the wrap and bad zone tables, or of the zone directory. -/
def State.cmCrc (s : State) (t lo n at_ : Nat) : State := s.cmWrite t at_ (leBytes 4 (crc32c (Mem.read (s.tape t).cm lo n)))

/-- Set or clear a flag of the cartridge memory, with the CRC. DIRTY and WPROT are shown as written. -/
def State.cmFlag (s : State) (t i : Nat) (b : Bool) : State :=
  let s := (s.cmWrite t 1 [byteOf (setBitTo ((s.tape t).cmAt 1 1) i b)]).cmCrc t 0 0xFC 0xFC
  s.setRbit (Reg.wdrStatus t) 4 (s.tape t).cmDirty

/-- Writes are refused: WPROT, WP_SW or READ_ONLY (R331, condition 3). -/
def State.tapeWprot (s : State) (t : Nat) : Bool :=
  (s.tape t).cmWprot || s.rbit (Reg.glnSrvStatus t) 18 || (s.tape t).readOnly

/-- Show WDR_STATUS.WPROT. -/
def State.showWprot (s : State) (t : Nat) : State :=
  s.setRbit (Reg.wdrStatus t) 5 ((s.tape t).mst != .none && s.tapeWprot t)

/-- First longitudinal address of a zone (R325). -/
def Tape.zoneStart (x : Tape) (z : Nat) : Nat := x.ladStart + z * (x.ladEnd - x.ladStart) / 64

/-! ## The write gate (R331) -/

/-- Gleaner is calibrating. -/
def Tape.calibrating (x : Tape) : Bool := x.mst == .calibrating || x.recalRun

/-- Condition 4: locked, and on track. -/
def State.onTrack (s : State) (t : Nat) : Bool :=
  s.servoLocked t && decide ((s.pes t).natAbs ≤ s.rf (Reg.glnSrvWi t) 11 0)

/-- Condition 5: a valid position in the data area, or in the calibration area during calibration. -/
def State.inArea (s : State) (t : Nat) : Bool :=
  let x := s.tape t
  let p := s.finePos t
  s.ladOk t && (if x.calibrating then decide (32 * (x.ladStart - 2200) ≤ p ∧ p ≤ 32 * (x.ladStart - 175))
    else decide (32 * x.ladStart ≤ p ∧ p ≤ 32 * x.ladEnd))

/-- All six conditions. -/
def State.gateOk (s : State) (t : Nat) : Bool :=
  let x := s.tape t
  s.rbit (Reg.glnSrvWg t) 0 && (s.wState t == 2 || x.calibrating) && !s.tapeWprot t && s.onTrack t && s.inArea t
    && s.speedOk t && x.tensionOk && !x.reelFault

/-- Drive the write gate and show it. -/
def State.setGate (s : State) (t : Nat) (b : Bool) : State :=
  if s.rbit (Reg.wdrStatus t) 3 == b then s
  else ((s.setRbit (Reg.wdrStatus t) 3 b).setRbit (Reg.glnSrvStatus t) 16 b).emit (.pin "WG" t b)

/-- Arm or disarm the write gate: only Fold does (R331). -/
def State.arm (s : State) (t : Nat) (b : Bool) : State :=
  let s := (s.setRbit (Reg.glnSrvWg t) 0 b).setRbit (Reg.glnSrvStatus t) 15 b
  if b then s else s.setGate t false

/-! ## Motion (R318, R328, R330) -/

/-- Tape speed of a step in mm/s (R271). -/
def stepSpeed (k : Nat) : Nat := [1500, 1800, 2100, 2400, 2800, 3200, 3700, 4300, 5000, 5750, 6600, 7500].getD k 7500

/-- Track channel rate of a step in Mb/s (R271). -/
def stepRate (k : Nat) : Nat := [30, 36, 42, 48, 56, 64, 74, 86, 100, 115, 132, 150].getD k 150

/-- Ask for a speed in mm/s in a direction, at a change of speed per setpoint frame. Commands: 0 RUN, 1 HOLD, 2 LOAD,
3 UNLOAD, as R327 lists them. -/
def State.run (s : State) (t : Nat) (mms : Nat) (rev : Bool) (rate : Nat) : State :=
  (s.onTape t fun x => { x with cmd := 0, goal := if rev then -(2 * mms : Int) else (2 * mms : Int), rate := rate }).setRbit
    (Reg.wdrStatus t) 15 true

/-- Run from rest, or reverse, to a step on the wrap targeted (10 m/s²). -/
def State.runStep (s : State) (t k : Nat) : State :=
  (s.setRf (Reg.wdrStatus t) 23 20 k).run t (stepSpeed k) (s.tReverse t) 5

/-- Change the step while reading or writing (2 m/s²). -/
def State.changeStep (s : State) (t k : Nat) : State :=
  (s.setRf (Reg.wdrStatus t) 23 20 k).run t (stepSpeed k) (s.tReverse t) 1

/-- Bring the tape to rest. -/
def State.halt (s : State) (t : Nat) : State := s.run t 0 false 5

/-- Target a wrap: its direction, its writing module, and a coarse move where the band changes (R318, R321). -/
def State.targetWrap (s : State) (t w : Nat) : State :=
  let old := (s.tape t).wrap
  let s := s.onTape t fun x => { x with wrap := w, coarse := x.coarse || old / 32 != w / 32 }
  let s := ((s.setRf (Reg.glnSrvStatus t) 14 8 w).setRf (Reg.glnSrvStatus t) 6 6 (w % 2)).setRf (Reg.glnSrvStatus t) 7 7 (w % 2)
  s.setRf (Reg.wdrPos t) 6 0 w

/-! ## Replies of jobs (R284 to R287, R315) -/

/-- RESULT of a job. The DSNs of a migration that wrote nothing are not stated (log entry 62). -/
def State.jobResult (s : State) (t : Nat) (j : TJob) : Bytes :=
  match j.kind with
  | .migrate => leBytes 4 j.nOk ++ leBytes 4 j.nBad ++ (if j.first < 2 ^ 32 then leBytes 4 j.first ++ leBytes 4 j.last
      else leBytes 8 (s.unstated 62 [t, j.eid]))
  | .recall => leBytes 4 j.nOk ++ leBytes 4 j.nBad ++ leBytes 4 ((j.fail.map (·.1)).getD 0xFFFFFFFF)
  | .verify => leBytes 4 j.nOk ++ leBytes 4 j.nC3 ++ leBytes 4 j.nLost ++ leBytes 4 j.nBad
  | .calibrate => leBytes 2 j.nOk ++ leBytes 2 j.nBad ++ leBytes 1 (s.rf (Reg.glnCalset t) 7 0) ++ leBytes 1 (s.rf (Reg.glnCalset t) 9 8)

/-- The mode a transport's Gleaner shows. -/
def State.setGlnMode (s : State) (t m : Nat) : State := s.setRf (Reg.glnStatus t) 2 0 m

/-- Forget what was read. -/
def Tape.readDone (x : Tape) : Tape :=
  { x with words := [], got := [], lost := [], recQ := [], rereads := 0, captured := 0, idents := [] }

/-- What was being written is given up: no further frame, record or copy. -/
def Tape.dropWriter (x : Tape) : Tape :=
  { x with
    stream := [], recs := [], sets := [], cur := none, group := none, pend := [], copies := [], redo := [], plan := .go
    shortSince := none, fillers := 0, badAhead := false, inhibit := none, inputEnded := false, inRate := [], inNow := 0 }

/-- The unload goes on: rewind to LAD_START - 2,450, having disarmed the gate and written the zone passages (R334, R480;
log entry 65). -/
def State.rewind (s : State) (t : Nat) (cmOk : Bool) : State :=
  let s := s.arm t false
  let counts := (s.tape t).zonePass.flatMap fun n => leBytes 4 n
  let s := if cmOk then (s.cmWrite t 0x9100 counts).cmWrite t 0x9200 (leBytes 4 (crc32c counts)) else s.latch (errWdr t) 0 6
  let s := (s.onTape t fun x => { x.dropWriter with mst := .rewinding }).setWState t 4
  let s := (s.emit (.tape t "LOCATE" ((s.tape t).ladStart - 2450) [])).run t 10000 true 5
  s.onTape t fun x => { x with goal := 0 }

/-- An unload whose running job has ended goes on (R334): with DIRTY set, the group is closed and EOD written first; what
is not yet in a data set is given up. -/
def State.unloadGo (s : State) (t : Nat) : State :=
  if (s.tape t).mst != .finishing || (s.tape t).job.isSome then s
  else if (s.tape t).cmDirty then
    let s := s.onTape t fun x => { x with
      stream := [], recs := x.recs.filter (fun r => decide (r.hi ≤ x.streamLo)), inputEnded := true, plan := .flush }
    if s.wState t == 2 || s.wState t == 3 then s else s.setWState t 4
  else s.rewind t true

/-- End the running job with a status. Fold's own pass has no reply; it keeps its place. -/
def State.endJob (s : State) (t st dt : Nat) : State :=
  match (s.tape t).job with
  | none => s
  | some j =>
    let s := s.onTape t fun x => { x.readDone with job := none, idleSince := s.clk, paused := false }
    let s := if j.kind == .migrate && s.wState t != 4 then s else (s.setWState t (if (s.tape t).mst == .faulted then 0 else 1)).setGlnMode t 0
    let s := (s.setRf (Reg.glnStatus t) 22 16 0)
    let s := if j.eid == 0 then s.setRbit Reg.fldBgStat 2 ((s.tape (1 - t)).job.any fun k => k.eid == 0) else s
    (s.finalOf j.eid st dt (s.jobResult t j)).unloadGo t

/-- Complete the queued jobs ABORTED (R329, R334). -/
def State.abortQueue (s : State) (t : Nat) : State :=
  let q := (s.tape t).queue
  q.foldl (fun s j => s.finalOf j.eid St.aborted 0x1801 []) (s.onTape t fun x => { x with queue := [] })

/-! ## Ends of mounts and unloads (R333, R334) -/

/-- The transport has no cartridge again: the zone table is gone and the mount count has risen. -/
def State.dismount (s : State) (t : Nat) : State :=
  let s := s.arm t false
  let s := s.onTape t fun x => { x.dropWriter.readDone with
    mst := .none, mountEid := 0, unloadEid := 0, endSt := (0, 0), readOnly := false, blank := false, recovered := false
    cm := [], zones := [], calRes := [], tracks := [], staleSince := none, recalRun := false, paused := false
    appended := false, placed := false, dir := [], wraps := [], rwLast := [], cmd := 1, goal := 0, lastWord := none
    mountCount := (x.mountCount + 1) % 2 ^ 24, zonePass := List.replicate 64 0, passWarned := false, bgDsn := 0 }
  let s := ((s.setReg (Reg.wdrStatus t) 0).setReg (Reg.wdrPos t) 0).setReg (Reg.wdrDsn t) 0
  let s := (s.setReg (Reg.glnCalset t) 0).setReg (Reg.glnStatus t) (s.reg (Reg.glnStatus t) &&& 0x20)
  s.setRf (Reg.glnSrvStatus t) 15 0 (s.rf (Reg.glnSrvStatus t) 4 1 * 2)

/-- Send UNLOAD. -/
def State.sendUnload (s : State) (t : Nat) : State :=
  s.onTape t fun x => { x with mst := .unloading, cmd := 3, goal := 0 }

/-- A mount fails: once the cartridge is loaded it is unloaded before the reply. -/
def State.mountFail (s : State) (t st dt : Nat) : State :=
  let x := s.tape t
  if s.rbit (Reg.glnSrvStatus t) 17 then
    ((s.arm t false).onTape t fun x => { x with endSt := (st, dt) }).sendUnload t
  else (s.dismount t).finalOf x.mountEid st dt []

/-- The transport faults (R329): the gate closes, its jobs end, and only an unload is accepted. A mount under way fails. -/
def State.transportFault (s : State) (t dt : Nat) : State :=
  let s := s.setGate t false
  match (s.tape t).mst with
  | .none | .faulted => s
  | .loading | .acquiring | .calibrating | .recovering => s.mountFail t St.mediaError dt
  | .rewinding | .unloading => s
  | m =>
    let s := (s.endJob t St.mediaError dt).abortQueue t
    let s := (s.onTape t fun x => { x.dropWriter.readDone with mst := .faulted, recalRun := false }).setWState t 0
    if m == .finishing then s.sendUnload t else s

/-! ## Servo samples (R319 to R323) -/

/-- A measurement counts: B within 12.5% of what was expected, every stripe detected. -/
def servoMeasOk (m : ServoMeas) : Bool :=
  m.stripes && m.b != 0 && decide (8 * (m.b - m.expect) ≤ m.expect ∧ 8 * (m.expect - m.b) ≤ m.expect)

/-- The sum of both lateral measurements of frames, as a fraction: numerator and denominator, in nm. -/
def lateralSum (ky : Nat) (ms : List ServoMeas) : Int × Nat :=
  ms.foldl (fun (n, d) m =>
    (n * (m.b : Int) + (32 * ky : Int) * ((m.b : Int) + 2 * m.a1 - 2 * m.a2) * (d : Int), d * m.b)) (0, 1)

/-- Clamp to ±32,767. -/
def clamp15 (x : Int) : Int := max (-32767) (min 32767 x)

/-- CRC-4 of 20 bits, polynomial x^4 + x + 1, initial value 0 (R323). -/
def crc4 (v : Nat) : Nat :=
  (List.range 20).foldl (fun c i =>
    let top := bitAt c 3 ^^ bitAt v (19 - i)
    (2 * c) % 16 ^^^ (if top then 3 else 0)) 0

/-- An actuator frame (R323). -/
def actuatorWord (ty value : Nat) : Nat := (ty * 65536 + value) * 16 + crc4 (ty * 65536 + value)

/-- Two's complement in 16 bits. -/
def word16 (x : Int) : Nat := (x % 65536).toNat

/-- The track-following loop at a valid sample (R322): `u`, and the integrator after it. -/
def servoLoop (kp ki kd : Nat) (bias e ePrev integ : Int) (locked : Bool) (u : Int) : Int × Int :=
  if !locked then (u, integ)
  else
    let sum := integ + e
    let v := Config.quot ((kp : Int) * e + ki * sum + kd * (e - ePrev)) 4096 + bias
    if v < -32767 ∨ 32767 < v then (clamp15 v, integ) else (v, sum)

/-- The frame sent after a sample: COARSE while a coarse move runs, else FINE; ZERO with no cartridge (log entry 60). -/
def State.actuatorFrame (s : State) (t : Nat) : State :=
  let x := s.tape t
  s.emit (.actuator t (if x.mst == .none then actuatorWord 0xF 0
    else if x.coarse then actuatorWord 2 (x.wrap / 32)
    else actuatorWord 1 (word16 x.u)))

/-- SERVO_SAMPLE (R319 to R323): `ms` are the frames measured in the last 25 µs, `speed` the estimate in mm/s. -/
def execServoSample (t : Fin 2) (ms : List ServoMeas) (speed : Nat) (s : State) : Host.Outcome State Fault Refusal :=
  s.atTape t fun s t =>
    let ok := ms.filter servoMeasOk
    let on := fun (c : Nat) => ok.any fun m => m.line.val == c
    let valid := (on 0 || on 2) && (on 1 || on 3)
    let s := s.setRf (Reg.glnSrvStatus t) 4 1 (bitsWhere 4 on)
    let s := if ok.isEmpty then s else s.setRf (Reg.glnSrvPes t) 31 16 (min 65535 speed)
    let x := s.tape t
    let (n, d) := lateralSum (s.rf (Reg.glnSrvGeom t) 15 0) ok
    let k := 2 * ok.length * d
    let e := clamp15 (Config.quot ((x.wrap % 32 * s.rf (Reg.glnSrvGeom t) 27 16 * k : Nat) - n) k)
    let loop_ := Reg.glnSrvLoop t
    let bias := let b := s.rf loop_ 31 24; if b < 128 then 128 * (b : Int) else 128 * ((b : Int) - 256)
    let s := if valid then
        let s := s.setRf (Reg.glnSrvPes t) 15 0 (word16 e)
        let (u, i) := servoLoop (s.rf loop_ 7 0) (s.rf loop_ 15 8) (s.rf loop_ 23 16) bias e x.ePrev x.integ (s.servoLocked t) x.u
        let s := s.onTape t fun x => { x with goodRun := x.goodRun + 1, badRun := 0, ePrev := e, u := u, integ := i }
        s.onTape t fun x => { x with okRun := if s.onTrack t then x.okRun + 1 else 0 }
      else s.onTape t fun x => { x with goodRun := 0, badRun := x.badRun + 1, okRun := 0 }
    let s := s.onTape t fun x => { x with travel := x.travel + 25 * speed }
    let s := if s.ladOk t then s.setRf (Reg.glnSrvLad t) 28 24 (min 31 ((s.tape t).travel / 50000)) else s
    let s := if (s.tape t).mst == .acquiring && !s.ladOk t && decide (2000000000 ≤ (s.tape t).travel)
      then s.mountFail t St.mediaError 0x1804 else s
    s.actuatorFrame t

/-- SERVO_LOCK (R320, R323). -/
def execServoLock (t : Fin 2) (s : State) : Host.Outcome State Fault Refusal :=
  s.atTape t fun s t =>
    if s.servoLocked t || (s.tape t).goodRun < 8 then s
    else (s.setRbit (Reg.glnSrvStatus t) 0 true).onTape t fun x => { x with coarse := false }

/-- SERVO_UNLOCK (R320, R324). -/
def execServoUnlock (t : Fin 2) (s : State) : Host.Outcome State Fault Refusal :=
  s.atTape t fun s t =>
    if !s.servoLocked t || (s.tape t).badRun < 4 then s
    else
      let s := ((s.setRbit (Reg.glnSrvStatus t) 0 false).setRbit (Reg.glnSrvStatus t) 5 false).onTape t fun x =>
        { x with lastWord := none, okRun := 0 }
      (s.latch (errSrv t) 0 1).bump (Reg.glnSrvCnt t) 31 16 1

/-! ## The position word (R324) -/

/-- CRC-16 of a position word, over bits [55:16]. -/
def posCrcOk (w : Nat) : Bool := crc16 (beBytes 5 (fieldOf w 55 16)) == fieldOf w 15 0

/-- Two words in a row in the direction of travel. -/
def ladFollows (rev : Bool) (a b : Nat) : Bool := if rev then a == b + 1 else b == a + 1

/-- POSITION_WORD (R324): a word whose SYNC or FMT is wrong is no position word. The channel that read it lies on either
servo band of the wrap's data band. -/
def execPositionWord (t : Fin 2) (word : BitVec 64) (s : State) : Host.Outcome State Fault Refusal :=
  s.atTape t fun s t =>
    let w := word.toNat
    if fieldOf w 63 56 != 0xE2 || fieldOf w 27 24 != 1 then s
    else if !posCrcOk w then (s.latch (errSrv t) 0 5).onTape t fun x => { x with lastWord := none }
    else
      let x := s.tape t
      let lad := fieldOf w 55 32
      let band := fieldOf w 31 28
      let bandOk := band == x.wrap / 32 || band == x.wrap / 32 + 1
      let two := bandOk && x.lastWord.any fun p => p.2 == band && ladFollows (s.tReverse t) p.1 lad
      let s := s.onTape t fun x => { x with lastWord := if bandOk then some (lad, band) else none }
      if !two || !s.servoLocked t then s
      else
        let s := s.onTape t fun x => { x with travel := 0, noAccept := if x.mst == .recovering then x.noAccept + 1 else x.noAccept }
        let s := (s.setReg (Reg.glnSrvLad t) (BitVec.ofNat 32 lad)).setRbit (Reg.glnSrvStatus t) 5 true
        if (s.tape t).mst == .acquiring then
          (s.onTape t fun x => { x with mst := .calibrating }).setGlnMode t 3
        else s

/-! ## The write gate's own events (R331, R332) -/

/-- WRITE_GATE_CLOSE (R331, R332): a condition fails. An off-track inhibit is counted and notes the frame slot the
gate closed in. -/
def execWriteGateClose (t : Fin 2) (slot : Nat) (s : State) : Host.Outcome State Fault Refusal :=
  s.atTape t fun s t =>
    if !s.rbit (Reg.wdrStatus t) 3 || s.gateOk t then s
    else
      let off := s.wState t == 2 && (!s.onTrack t || !s.inArea t)
      let s := s.setGate t false
      if off then (s.onTape t fun x => { x with inhibit := some slot }).bump (Reg.glnSrvCnt t) 15 0 1 else s

/-! ## Reels (R327, R329) -/

/-- REEL_SETPOINT_FRAME (R327, R328): the ramp takes its next step. The places of the fields and the tension code are not
stated (log entry 61). -/
def execReelSetpointFrame (t : Fin 2) (s : State) : Host.Outcome State Fault Refusal :=
  s.atTape t fun s t =>
    let s := s.onTape t fun x => { x with
      speed := if x.speed < x.goal then min x.goal (x.speed + x.rate) else max x.goal (x.speed - x.rate) }
    let x := s.tape t
    let b := [byteOf x.cmd, byteOf (b2n (x.speed < 0))] ++ leBytes 2 (x.speed.natAbs / 2) ++ leBytes 1 (s.unstated 61 [t, x.cmd])
    (s.emit (.reel t (b ++ leBytes 2 (crc16 b)))).setRf (Reg.glnSrvStatus t) 6 6
      (if x.speed < 0 then 1 else if 0 < x.speed then 0 else s.rf (Reg.glnSrvStatus t) 6 6)

/-- REEL_LINK_SILENT (R329): no valid status frame for 2 ms, six boundaries. -/
def execReelLinkSilent (t : Fin 2) (s : State) : Host.Outcome State Fault Refusal :=
  s.atTape t fun s t =>
    let x := s.tape t
    if x.mst == .none || s.clk < x.statusAt + 6 then s
    else ((s.latch (errSrv t) 0 2).onTape t fun x => { x with statusAt := s.clk }).transportFault t 0x1805

/-- Fold writes the preamplifier through its link (R330), the second readback right or not. -/
def State.preamp (s : State) (t : Nat) (ok : Bool) : State :=
  let s := s.emit (.tape t "PREAMP" ((s.tape t).wrap % 2) [])
  if ok then s else (s.latch (errSrv t) 0 4).transportFault t 0x1806

/-- REEL_STATUS_FRAME (R327, R329, R333, R334): LOADED starts the acquisition, and its loss ends an unload. `preOk`: the
preamplifier's second readback is right, where this frame leads Fold to write it. -/
def execReelStatusFrame (t : Fin 2) (loaded wpSw tensionOk fault crcOk : Bool) (supply takeup : Nat) (preOk : Bool) (s : State) :
    Host.Outcome State Fault Refusal :=
  s.atTape t fun s t =>
    if !crcOk then s
    else
      let s := s.onTape t fun x => { x with tensionOk := tensionOk, reelFault := fault, radii := (supply, takeup), statusAt := s.clk }
      let s := (((s.setRbit (Reg.glnSrvStatus t) 17 loaded).setRbit (Reg.glnSrvStatus t) 18 wpSw)).showWprot t
      let x := s.tape t
      if fault then
        let s := if x.mst == .faulted then s else s.latch (errSrv t) 0 3
        if x.mst == .unloading && !loaded then
          if x.unloadEid = 0 then (s.dismount t).finalOf x.mountEid x.endSt.1 x.endSt.2 []
          else (s.dismount t).finalOf x.unloadEid x.endSt.1 x.endSt.2 []
        else s.transportFault t 0x1805
      else
        match x.mst with
        | .loading =>
          if loaded then
            let s := (s.onTape t fun x => { x with mst := .acquiring, travel := 0, lastWord := none }).targetWrap t 0
            let s := if s.tapeWprot t then s else s.arm t true
            (s.runStep t 4).preamp t preOk
          else s
        | .unloading =>
          if loaded then s
          else (s.dismount t).finalOf (if x.unloadEid = 0 then x.mountEid else x.unloadEid) x.endSt.1 x.endSt.2 []
        | _ => s

/-- MOUNT_LOAD_TIMEOUT (R333): no LOADED within 30 s. -/
def execMountLoadTimeout (t : Fin 2) (s : State) : Host.Outcome State Fault Refusal :=
  s.atTape t fun s t =>
    let x := s.tape t
    if x.mst != .loading || s.clk < x.since + msTicks 30000 then s else s.mountFail t St.mediaError 0x1805

end Sys2Proof.Machine
end

