-- ==== Sys2Proof/Machine/TapeWrite.lean ====
section
/-! DEFINITION. Windrow's writing: packing, data sets, rewrites, whole copies, speed matching, stops, wraps, end of data
(R253 to R279, R283, R284). -/

namespace Sys2Proof.Machine

open Sys2Proof

/-! ## The buffer (R268, R271 to R275) -/

/-- Bytes of the speed-matching buffer in use: payload not yet in a data set, and that of data sets kept. -/
def Tape.fillBytes (x : Tape) : Nat := x.stream.length + dsBytes * (x.sets.filter fun w => w.kind == knData).length

/-- F, the fill in percent of 8 GiB. -/
def Tape.fillPct (x : Tape) : Nat := x.fillBytes * 100 / 2 ^ 33

/-- A step's payload rate, less rewrites, is at least the input rate (R272, R273): both sides in bytes per second times
89,849,216 × 64 × the frames counted. -/
def Tape.stepMeets (x : Tape) (k : Nat) : Bool :=
  let (rw, all_) := if x.rwLast.length < 64 then (1, 100)
    else x.rwLast.foldl (fun a b => (a.1 + b.1, a.2 + b.2)) (0, 0)
  let input := x.inRate.foldl (· + ·) x.inNow
  decide (input * 3000 * 89849216 * all_ ≤ 64 * 8000000 * stepRate k * 67108864 * (all_ - rw))

/-- The step a start chooses (R273). -/
def Tape.startStep (x : Tape) : Nat :=
  if x.inputEnded then 11 else ((List.range 12).find? x.stepMeets).getD 11

/-! ## Entries of a migration (R283) -/

/-- Why an extent may not be migrated: it is freed, already on tape, the open record extent, one of the extent table,
a recipe's, or its domain is not owned. -/
def State.unfitExtent (s : State) (id : Nat) : Bool :=
  match s.extent id with
  | none => true
  | some x =>
    x.onTape || !s.owns (s.rootDom (extRoot id)) || decide (x.num < 16)
      || ((s.tree (extRoot id)).recRun.any fun r => r.ext == x.num) || s.data.objects.any fun o => o.extent == id

/-- Change the running job. -/
def State.onJob (s : State) (t : Nat) (f : TJob → TJob) : State := s.onTape t fun x => { x with job := x.job.map f }

/-- Skip the entries in front that may not be migrated. -/
def State.skipUnfit (s : State) (t : Nat) : State :=
  s.onJob t fun j =>
    if j.kind != .migrate || j.host then j
    else
      let n := (j.entries.takeWhile fun e => s.unfitExtent e.id).length
      { j with entries := j.entries.drop n, nBad := j.nBad + n }

/-- Append a record to the payload stream. -/
def State.appendRec (s : State) (t : Nat) (r : TRec) (kind id : Nat) (body : Bytes) : State :=
  s.onTape t fun x =>
    let st := alignStream x.streamLo x.stream
    let lo := x.streamLo + st.length
    { x with
      stream := st ++ tapeHeader kind id x.nextRseq body ++ body
      recs := x.recs ++ [{ r with rseq := x.nextRseq, lo := lo, hi := lo + 32 + body.length }]
      nextRseq := (x.nextRseq + 1) % 2 ^ 32, inNow := x.inNow + body.length }

/-- A record before it is placed. -/
def TRec.blank (eid : Nat) : TRec := ⟨0, eid, false, false, false, 0, 0, 0, 0, 0, 0, [], none⟩

/-- The entries a job has left: none ends its input. -/
def State.inputLeft (s : State) (t : Nat) : State :=
  (s.skipUnfit t).onTape t fun x => { x with inputEnded := x.job.all fun j => j.kind != .migrate || j.entries.isEmpty }

/-- Take what the reads of a job's next entries gave, in order, as long as the buffer has room: an extent's bytes from
offset 0 to the end of its last chunk record, or a host record. The status of an entry whose source could not be read
is not stated (log entry 22). -/
def State.intake (t : Nat) : List Fetch → State → State
  | [], s => s.inputLeft t
  | f :: fs, s =>
    let s := s.skipUnfit t
    let x := s.tape t
    match x.job.filter fun j => j.kind == .migrate with
    | none => s.inputLeft t
    | some j =>
      match j.entries with
      | [] => s.inputLeft t
      | e :: es =>
        let s' := s.onJob t fun j => { j with entries := es }
        match f with
        | .ok b =>
          let body := if j.host then hostBody (padTo b e.len) else padTo b (roundUp b.length 16)
          if 2 ^ 33 < x.fillBytes + body.length then s.inputLeft t
          else
            State.intake t fs (s'.appendRec t
              { TRec.blank j.eid with host := j.host, keep := j.keep, id := e.id, locAddr := j.locAddr + 16 * e.idx }
              (if j.host then 2 else 1) (if j.host then 0 else e.id) body)
        | .failed =>
          State.intake t fs (s'.onJob t fun j => { j with
            nBad := j.nBad + 1
            fail := j.fail.or (some (e.idx, s.unstated 22 [0x2003, 0] % 65536, s.unstated 22 [0x2003, 1] % 65536)) })
        | .uncorrectable =>
          State.intake t fs (s'.onJob t fun j => { j with
            nBad := j.nBad + 1, fail := j.fail.or (some (e.idx, St.uncorrectable, 0x1601)) })

/-! ## Frames and data sets (R256 to R264, R268) -/

/-- Hand a frame to Gleaner's write path. -/
def State.sendFrame (s : State) (t track : Nat) (head cw : Bytes) : State :=
  (s.emit (.tape t "FRAME" track (frameBits track head cw))).addPair (Reg.wdrCntFramesLo t) 1

/-- The write pass a transport writes with. -/
def State.sendCw (s : State) (t track : Nat) (w : WSet) (cw : Nat) (rew : Bool) : State :=
  s.sendFrame t track (headBytes (frameHead w.dsn (cw / 157) (cw % 157) (s.tape t).wp w.kind w.copy rew)) (codeword w.arrays cw)

/-- Set a data set that is kept, in DSN order. -/
def Tape.putSet (x : Tape) (w : WSet) : Tape :=
  { x with sets := (x.sets.filter fun v => v.dsn < w.dsn) ++ [w] ++ (x.sets.filter fun v => w.dsn < v.dsn) }

/-- A data set that is kept. -/
def Tape.set? (x : Tape) (dsn : Nat) : Option WSet := x.sets.find? fun w => w.dsn == dsn

/-- Write a data set or a whole copy of it from its slot 0 on: 157 slots on the 64 tracks (R264). -/
def State.writeSet (s : State) (t : Nat) (w : WSet) : State :=
  let x := s.tape t
  let zone := s.rf (Reg.wdrPos t) 13 8
  let place := (List.range 157).flatMap fun i => (List.range 64).map fun k => (k, 157 * ((k + 64 * 3 - i) % 64) + i)
  let w := { w with
    wrap := x.wrap, zone := zone, budget := 0, areas := 0
    frames := w.frames ++ place.map fun p => ⟨p.2, p.1, w.copy, 0⟩ }
  let key := 64 * x.wrap + zone
  let s := s.onTape t fun x => { x.putSet w with
    cur := some w.dsn
    dir := if (KMap.get? x.dir key).isSome || x.cmAt (0x1000 + 4 * key) 4 < 0xFFFFFFFF && !x.blank then x.dir else KMap.put x.dir key w.dsn
    wraps := match KMap.get? x.wraps x.wrap with
      | some p => KMap.put x.wraps x.wrap (min p.1 w.dsn, max p.2 w.dsn)
      | none => KMap.put x.wraps x.wrap (w.dsn, w.dsn) }
  place.foldl (fun s p => s.sendCw t p.1 w p.2 false) (s.setReg (Reg.wdrDsn t) (BitVec.ofNat 32 w.dsn))

/-- Write a new data set of a kind with the next DSN. -/
def State.newSet (s : State) (t kind : Nat) (arrays : List Bytes) : State :=
  let d := (s.tape t).nextDsn
  ((s.tally 4 dsBytes).onTape t fun x => { x with nextDsn := d + 1 }).writeSet t ⟨d, kind, 0, 0, 0, arrays, [], [], 0, 0⟩

/-- The arrays of the next data set, with a payload. `own` is a group of its own (R290). -/
def Tape.nextArrays (x : Tape) (kind : Nat) (own : Bool) (payload : Bytes) (firstRec recs : Nat) : List Bytes :=
  let g := if own || kind != knData then x.nextDsn else (x.group.map (·.first)).getD x.nextDsn
  dataArrays ⟨kind, 0, x.nextDsn, x.wp, g, x.wrap, firstRec, recs, crc32c payload⟩ payload

/-- Write a filler or EOD data set (R257). -/
def State.writeEmpty (s : State) (t kind : Nat) : State :=
  s.newSet t kind ((s.tape t).nextArrays kind true (zeros dsBytes) 0xFFFFFFFF 0)

/-- Cut the next data set from the stream, which holds its payload, and write it (R255 to R258, R261). -/
def State.cutSet (s : State) (t : Nat) : State :=
  let x := s.tape t
  let lo := x.streamLo
  let hi := lo + dsBytes
  let d := x.nextDsn
  let heads := x.recs.filter fun r => decide (lo ≤ r.lo ∧ r.lo < hi)
  let arrays := x.nextArrays knData false (x.stream.take dsBytes) ((heads.head?.map fun r => r.lo - lo).getD 0xFFFFFFFF) heads.length
  let g := (x.group.getD (C3Group.opened d)).add arrays
  let mine := x.recs.any fun r => x.job.any fun j => r.eid == j.eid && decide (r.lo < hi)
  let s := s.onTape t fun x => { x with
    stream := x.stream.drop dsBytes, streamLo := hi, group := some g
    recs := (x.recs.map fun r => if r.lo < hi && lo < r.hi then
      { r with sets := r.sets ++ [d], dsn := if lo ≤ r.lo then d else r.dsn, off := if lo ≤ r.lo then r.lo - lo else r.off }
      else r).filter fun r => !(r.pad && decide (r.hi ≤ hi)) }
  let s := if mine then s.onJob t fun j => { j with first := if j.first < 2 ^ 32 then j.first else d, last := d } else s
  s.newSet t knData arrays

/-- Complete the last data set with a PAD record (R255). -/
def State.padSet (s : State) (t : Nat) : State :=
  let x := s.tape t
  let n := (alignStream x.streamLo x.stream).length % dsBytes
  if n = 0 then s.onTape t fun x => { x with stream := alignStream x.streamLo x.stream }
  else s.appendRec t { TRec.blank 0 with pad := true } 3 0 (zeros (dsBytes - n - 32))

/-- Write the group's next parity data set, P0 and then P1 (R261). -/
def State.writeParity (s : State) (t : Nat) (g : C3Group) : State :=
  if g.p0Out then (s.onTape t fun x => { x with group := none }).newSet t knP1 g.p1
  else (s.onTape t fun x => { x with group := some { g with p0Out := true } }).newSet t knP0 g.p0

/-! ## What is written next (R261, R268, R269, R275 to R278) -/

/-- Writing is over for now: the write gate closes. -/
def State.endWriting (s : State) (t st : Nat) : State :=
  (((s.onTape t fun x => { x with cur := none, inhibit := none }).setGate t false).setWState t st).setGlnMode t 0

/-- Stop: the append point is the end of the last frame written, and the tape comes to rest ahead of it (R276). -/
def State.stopWriting (s : State) (t : Nat) : State :=
  let s := (s.endWriting t (if (s.tape t).job.isSome then 4 else 1)).onTape t fun x =>
    { x with plan := .go, placed := true, apWrap := x.wrap, fillers := 0, shortSince := none }
  s.halt t

/-- Turn onto the next wrap (R277, R328). After the last wrap the cartridge is full (R283): what is not yet in a data
set is given up. -/
def State.turn (s : State) (t : Nat) : State :=
  let x := s.tape t
  if x.wrap + 1 < x.cmWraps then
    let s := (s.endWriting t 4).onTape t fun x => { x with plan := .go, badAhead := false }
    (s.targetWrap t (x.wrap + 1)).runStep t (s.rf (Reg.wdrStatus t) 19 16)
  else
    let s := s.onTape t fun x => { x with
      stream := [], recs := x.recs.filter (fun r => decide (r.hi ≤ x.streamLo)), redo := [], copies := [], badAhead := false }
    (s.stopWriting t).endJob t St.noSpace 0x1601

/-- The plan in force: once a job's input has ended and no full data set is left, a FLUSH job is flushed and any other
writing stops. -/
def Tape.planNow (x : Tape) : WPlan :=
  if x.plan == .go && x.inputEnded && x.stream.length < dsBytes then
    if x.job.any (·.flush) then .flush else .stop
  else x.plan

/-- Start what is to be written next: a data set that goes again after a bad zone, a whole copy, parity, data, a
filler, EOD; or turn, or stop. On the way to a turn, what must go again waits for the next wrap. -/
def State.writeNext (s : State) (t : Nat) : State :=
  let x := s.tape t
  if x.badAhead then s.endWriting t 3
  else
    let turning := x.plan == .turn
    match if turning then [] else x.redo.filterMap x.set?, if turning then [] else x.copies.filterMap x.set? with
    | w :: _, _ => (s.onTape t fun x => { x with redo := x.redo.filter fun d => w.dsn < d }).writeSet t { w with copy := 0 }
    | [], w :: _ =>
      ((s.onTape t fun x => { x with copies := x.copies.filter (· != w.dsn) }).writeSet t { w with copy := w.copy + 1 }).bump
        (Reg.wdrCntRw t) 23 16 1
    | [], [] =>
      let plan := x.planNow
      let s := s.onTape t fun x => { x with plan := plan }
      let full := decide (dsBytes ≤ x.stream.length)
      let part := !x.stream.isEmpty
      match x.group.filter fun g => g.p0Out || g.n == 32 with
      | some g => s.writeParity t g
      | none =>
        if full && (plan == .go && !(x.paused && x.group.isNone) || plan == .flush) then (s.cutSet t).onTape t fun x => { x with fillers := 0, shortSince := none }
        else if part && (plan == .flush || plan == .turn && !full) then (s.padSet t).cutSet t
        else
          match plan, x.group with
          | .go, g =>
            if x.paused && g.isNone then (s.stopWriting t).bump (Reg.wdrCntEvents t) 31 16 1
            else if x.fillers < 4 then
              let s := s.onTape t fun x => { x with fillers := x.fillers + 1, shortSince := x.shortSince.or (some s.clk) }
              (s.writeEmpty t knFiller).bump (Reg.wdrCntEvents t) 15 0 1
            else s.onTape t fun x => { x with cur := none }
          | .eodOut, _ => s.endWriting t 4
          | _, some g => s.writeParity t g
          | .turn, none => s.turn t
          | .flush, none => (s.onTape t fun x => { x with plan := .eodOut }).writeEmpty t knEod
          | .stop, none => s.stopWriting t

/-! ## Rewrites (R265 to R269) -/

/-- Every codeword of a data set has a passing copy. -/
def WSet.done (w : WSet) : Bool := decide (10048 ≤ w.passed.length)

/-- A track of a rewrite area for a codeword last written on track `k`: 32 tracks on, else the next upward that has a
free slot and is not `k` (R266). `used` is how many slots each track has taken of `len`. -/
def rewriteTrack (len : Nat) (used : List Nat) (k : Nat) : Option Nat :=
  ((List.range 64).map fun i => (k + 32 + i) % 64).find? fun j => j != k && decide (used.getD j 0 < len)

/-- Place pending rewrites in an area of `len` slots, in the order reported: what is placed with its track and slot, and
what waits for the next area. -/
def placeRewrites (len : Nat) : List Nat → List PendRw → List (PendRw × Nat × Nat) × List PendRw
  | _, [] => ([], [])
  | used, p :: ps =>
    match rewriteTrack len used p.track with
    | some j =>
      let n := used.getD j 0
      let (a, b) := placeRewrites len (used.set j (n + 1)) ps
      ((p, j, n) :: a, b)
    | none =>
      let (a, b) := placeRewrites len used ps
      (a, p :: b)

/-- Write the rewrite area that follows the data set just ended (R266, R267). -/
def State.writeArea (s : State) (t n : Nat) : State :=
  let x := s.tape t
  let mine := x.pend.filter fun p => (x.set? p.dsn).any fun w => decide (w.areas < 3)
  let len := min 5 (ceilDiv mine.length 64)
  let (put, wait) := placeRewrites len (List.replicate 64 0) mine
  let s := s.onTape t fun x => { x with
    pend := x.pend.filter (fun p => !mine.contains p || wait.contains p)
    rwLast := (x.rwLast ++ [(put.length, 10048 + 64 * len)]).drop (x.rwLast.length + 1 - 64)
    sets := x.sets.map fun w => { w with
      areas := w.areas + 1
      budget := w.budget + (put.filter fun p => p.1.dsn == w.dsn).length
      frames := w.frames ++ (put.filter fun p => p.1.dsn == w.dsn).map fun p => ⟨p.1.cw, p.2.1, w.copy, w.areas + 1⟩ } }
  let s := s.bump (Reg.wdrCntRw t) 15 0 put.length
  ((List.range len).flatMap fun i => (List.range 64).map fun k => (i, k)).foldl (fun s ik =>
    match (put.find? fun p => p.2 == (ik.2, ik.1)).bind fun p => (x.set? p.1.dsn).map fun w => (p.1.cw, w) with
    | some (cw, w) => s.sendCw t ik.2 w cw true
    | none => s.sendFrame t ik.2 (headBytes (frameHead n 0 0 x.wp knNull 0 true)) (zeros 1024)) s

/-- A data set and every later one kept are to be written again with COPY 0 (R269). -/
def Tape.again (x : Tape) (dsn : Nat) : Tape :=
  { x with
    badAhead := true, copies := [], pend := x.pend.filter (fun p => p.dsn < dsn)
    redo := (x.sets.filter fun v => dsn ≤ v.dsn).map (·.dsn)
    sets := x.sets.map fun v => if dsn ≤ v.dsn then { v with copy := 0, frames := [], budget := 0, areas := 0 } else v }

/-- A zone is marked bad (R269): writing stops until the tape has left it. Three in one job end the job. -/
def State.badZone (s : State) (t : Nat) (w : WSet) : State :=
  let off := 0x500 + 8 * w.wrap
  let s := (s.cmWrite t off (leBytes 8 (setBitTo ((s.tape t).cmAt off 8) w.zone true))).cmCrc t 0x100 0x800 0x900
  let s := (s.latch (errWdr t) 0 7).bump (Reg.wdrCntRw t) 31 24 1
  let s := s.onJob t fun j => { j with badZones := j.badZones + 1 }
  let s := s.onTape t fun x => x.again w.dsn
  let s := s.endWriting t 3
  if (s.tape t).job.any (fun j => decide (3 ≤ j.badZones)) then
    let s := (s.cmFlag t 0 true).showWprot t
    ((s.onTape t Tape.dropWriter).stopWriting t).endJob t St.mediaError 0x1602
  else s

/-- A data set needs a whole copy (R267 to R269). -/
def State.needCopy (s : State) (t : Nat) (w : WSet) : State :=
  if w.copy = 3 then s.badZone t w
  else s.onTape t fun x => { x with
    copies := if x.copies.contains w.dsn then x.copies else x.copies ++ [w.dsn]
    pend := x.pend.filter fun p => p.dsn != w.dsn }

/-! ## Commits (R268, R284) -/

/-- Every data set that holds bytes of a record is written and has a passing copy of every codeword. -/
def Tape.recPassed (x : Tape) (r : TRec) : Bool :=
  decide (r.hi ≤ x.streamLo) && r.sets.all fun d => (x.set? d).all WSet.done

/-- An extent as its table entry stands once it is on tape. -/
def Extent.toTape (x : Extent) (serial dsn off : Nat) : Extent := { x with onTape := true, serial := serial, dsn := dsn, off := off }

/-- A journal record of a domain is complete. -/
def State.recComplete (s : State) (d jseq : Nat) : Bool := (s.journal d).recs.all fun r => r.jseq != jseq || r.st == .complete

/-- Make the journal records of the extents whose data sets have passed. -/
def State.commitPassed (s : State) (t : Nat) : State :=
  (s.tape t).recs.foldl (fun s r =>
    if r.pad || r.host || r.jseq.isSome || !(s.tape t).recPassed r || s.unfitExtent r.id then s
    else
      match s.extent r.id with
      | none => s
      | some e =>
        let root := extRoot r.id
        let (s, js) := s.makeRec (s.rootDom root) .reclaim 0 [Extent.item root (e.toTape ((s.tape t).cmAt 8 8) r.dsn r.off)] []
        s.onTape t fun x => { x with recs := x.recs.map fun q => if q.rseq == r.rseq then { q with jseq := some js } else q }) s

/-- Release the data sets in front that have passed. -/
def State.releaseSets (s : State) (t : Nat) : State :=
  s.onTape t fun x => { x with
    sets := x.sets.dropWhile fun w => w.done && x.cur != some w.dsn
    copies := x.copies.filter fun d => (x.set? d).any fun w => !w.done
    redo := x.redo.filter fun d => (x.set? d).any fun w => !w.done }

/-- A frame's outcome (R265, R267): the oldest report outstanding for that codeword. -/
def State.verdict (s : State) (t dsn cw : Nat) (pass : Bool) : State :=
  match (s.tape t).set? dsn with
  | none => s
  | some w =>
    match w.frames.find? fun f => f.cw == cw with
    | none => s
    | some f =>
      let had := w.passed.contains cw
      let w := { w with frames := w.frames.erase f, passed := if pass && !had then cw :: w.passed else w.passed }
      let again := !pass && !had && f.copy == w.copy && !(s.tape t).copies.contains dsn && !(s.tape t).redo.contains dsn
      let s := s.onTape t fun x => { x.putSet w with pend := if again then x.pend ++ [⟨dsn, cw, f.track⟩] else x.pend }
      let waiting := ((s.tape t).pend.filter fun p => p.dsn == dsn).length
      let late := decide (3 ≤ w.areas) && w.frames.isEmpty && !w.done && !(s.tape t).copies.contains dsn && !(s.tape t).redo.contains dsn
      let s := if decide (301 < w.budget + waiting) || late then s.needCopy t w else s
      (s.releaseSets t).commitPassed t

/-- FRAME_VERDICT (R265). -/
def execFrameVerdict (t : Fin 2) (dsn sds cwi : Nat) (v : Verdict) (s : State) : Host.Outcome State Fault Refusal :=
  s.atTape t fun s t =>
    if 64 ≤ sds || 157 ≤ cwi then s
    else s.verdict t dsn (157 * sds + cwi) (v.sm1 && v.crcOk && v.hdrOk && v.c1Ok && decide (v.corrected ≤ s.par Par.rwwMargin))

/-- Report the slots of a data set from one on to another, on every track, as failed (R332). -/
def State.failSlots (s : State) (t dsn lo hi : Nat) : State :=
  ((List.range 157).filter fun i => decide (lo ≤ i ∧ i < hi)).foldl (fun s i =>
    (List.range 64).foldl (fun s j => s.verdict t dsn (157 * j + i) false) s) s

/-- WRITE_GATE_REOPEN (R332): the conditions hold again, after REOPEN samples on track, at the start of a slot. -/
def execWriteGateReopen (t : Fin 2) (slot : Nat) (s : State) : Host.Outcome State Fault Refusal :=
  s.atTape t fun s t =>
    let x := s.tape t
    if s.rbit (Reg.wdrStatus t) 3 || !s.gateOk t || x.okRun < max 1 (s.rf (Reg.glnSrvWi t) 15 12) || x.cur.isNone && !x.calibrating then s
    else
      let s := match x.inhibit, x.cur with
        | some lo, some d => s.failSlots t d lo slot
        | _, _ => s
      (s.onTape t fun x => { x with inhibit := none }).setGate t true

/-! ## Ends of jobs -/

/-- A migration ends once every entry is committed or skipped; one without FLUSH leaves what lies in an incomplete last
data set to be committed later (log entry 63). -/
def State.settleJob (s : State) (t : Nat) : State :=
  let x := s.tape t
  match x.job with
  | some j =>
    if j.kind == .migrate && j.entries.isEmpty && !j.flush && decide (x.stream.length < dsBytes)
        && (x.recs.all fun r => r.eid != j.eid || r.pad || decide (x.streamLo < r.hi)) then
      match j.fail with
      | some (_, st, dt) => s.endJob t st dt
      | none => s.endJob t St.ok 0
    else s
  | none => s

/-- Count an entry of the running job. -/
def State.countEntry (s : State) (t eid : Nat) (ok : Bool) : State :=
  s.onJob t fun j => if j.eid != eid then j else if ok then { j with nOk := j.nOk + 1 } else { j with nBad := j.nBad + 1 }

/-- EXTENT_TAPE_COMMIT (R284): `rseq` names the record. Flash copies are freed by TOMBSTONE_RECLAIM; a host record's
location is delivered. -/
def execExtentTapeCommit (t : Fin 2) (rseq : Nat) (s : State) : Host.Outcome State Fault Refusal :=
  s.atTape t fun s t =>
    match (s.tape t).recs.find? fun r => r.rseq == rseq && !r.pad with
    | none => s
    | some r =>
      if !(s.tape t).recPassed r then s
      else
        let serial := (s.tape t).cmAt 8 8
        let gone := fun (s : State) => s.onTape t fun x => { x with recs := x.recs.filter fun q => q.rseq != rseq }
        if r.host then
          let s := match s.entry r.eid with
            | some e => s.deliverTo e r.locAddr (leBytes 8 serial ++ leBytes 4 r.dsn ++ leBytes 4 r.off)
            | none => s
          ((gone s).countEntry t r.eid true).settleJob t
        else
          let root := extRoot r.id
          let dom := s.rootDom root
          if s.unfitExtent r.id then ((gone s).countEntry t r.eid false).settleJob t
          else
            match r.jseq with
            | some js =>
              if !s.recComplete dom js then s
              else
                let y := s.tree root
                let s := s.setTree root { y with
                  extDirty := true
                  exts := y.exts.map fun e => if extId root e.num == r.id then
                    { e.toTape serial r.dsn r.off with moved := s.ez.nextEid, keep := r.keep, since := s.clk } else e }
                ((gone s).countEntry t r.eid true).settleJob t
            | none => s.commitPassed t

/-! ## Starts (R273, R278) -/

/-- The cartridge memory areas of a blank cartridge (R281): every table empty, WP 0. -/
def State.formatCm (s : State) (t : Nat) : State :=
  let s := (s.cmWrite t 0 [1, 0]).cmWrite t 0x20 (zeros 32)
  let s := (s.cmWrite t 0x100 (zeros 2048)).cmCrc t 0x100 0x800 0x900
  ((s.cmWrite t 0x1000 (List.replicate 32768 0xFF)).cmCrc t 0x1000 0x8000 0x9000).cmCrc t 0 0xFC 0xFC

/-- Before the first frame of an append (R278; log entry 64): the first of a mount raises WP, and DIRTY is set. -/
def State.startAppend (s : State) (t : Nat) : State :=
  let x := s.tape t
  let s := if x.appended then s
    else
      let s := if x.blank then s.formatCm t else s
      let s := s.onTape t fun x => { x with appended := true, blank := false, wp := x.wp + 1 }
      (s.cmWrite t 0x20 (leBytes 4 (s.tape t).wp)).setRf (Reg.wdrPos t) 31 16 ((s.tape t).wp % 65536)
  let s := if (s.tape t).cmDirty then s else s.cmFlag t 1 true
  (s.setWState t 2).setGlnMode t 1

/-- Writing begins at the append point. -/
def State.beginWriting (s : State) (t : Nat) : State :=
  let s := (s.startAppend t).writeNext t
  if s.wState t != 2 then s
  else if s.gateOk t then s.setGate t true else s.onTape t fun x => { x with inhibit := some 0 }

/-- A cartridge Windrow refuses to write: its memory smaller than 64 KiB or its SERIAL zero is refused at mount
(`readOnly`); here, protection (R281, R283). -/
def State.writable (s : State) (t : Nat) : Bool := !s.tapeWprot t

/-- Something for a start to write. -/
def Tape.toWrite (x : Tape) : Bool :=
  decide (dsBytes ≤ x.stream.length) || !x.redo.isEmpty || !x.copies.isEmpty
    || (x.job.any (·.flush) || x.plan == .flush) && (!x.stream.isEmpty || x.cmDirty || x.plan == .flush)

/-- WRITE_START (R273): `input` is what the reads of the job's next entries gave. -/
def execWriteStart (t : Fin 2) (input : List Fetch) (s : State) : Host.Outcome State Fault Refusal :=
  s.atTape t fun s t =>
    let k := s.wState t
    if !((s.tape t).job.any fun j => j.kind == .migrate) && (s.tape t).plan != .flush || k == 2 || k == 3 || (s.tape t).recalRun
        || !([MountSt.mounted, MountSt.finishing].contains (s.tape t).mst) || s.rbit (Reg.wdrStatus t) 15 then s
    else
      let s := State.intake t input s
      let x := s.tape t
      if x.plan == .eodOut then s
      else if !x.toWrite then
        if x.inputEnded then
          (s.onJob t fun j => { j with flush := false }).settleJob t
        else s
      else if x.inputEnded || decide (s.par Par.startPct ≤ x.fillPct) then ((s.setWState t 4).targetWrap t x.apWrap).runStep t x.startStep
      else s

/-- RAMP_COMPLETE (R274, R328): the step asked for is in force. From rest, the servo must be locked as well. Writing
begins at the first start of a mount and after a turn; an append point is awaited. A rewind is complete at rest. -/
def execRampComplete (t : Fin 2) (s : State) : Host.Outcome State Fault Refusal :=
  s.atTape t fun s t =>
    let x := s.tape t
    if !s.rbit (Reg.wdrStatus t) 15 || x.speed != x.goal || x.goal != 0 && !s.servoLocked t && x.mst != .rewinding then s
    else
      let s := s.setRbit (Reg.wdrStatus t) 15 false
      if x.mst == .rewinding then
        if x.goal = 0 then s.sendUnload t else s
      else if x.goal = 0 then s
      else
        let s := s.setRf (Reg.wdrStatus t) 19 16 (s.rf (Reg.wdrStatus t) 23 20)
        if s.wState t == 4 && !x.placed && !x.recalRun && (x.job.any (fun j => j.kind == .migrate) || x.plan == .flush)
        then s.beginWriting t else s

/-- APPEND_RESUME (R276, step 4): the append point passes the head. -/
def execAppendResume (t : Fin 2) (s : State) : Host.Outcome State Fault Refusal :=
  s.atTape t fun s t =>
    let x := s.tape t
    if s.wState t != 4 || !x.placed || s.rbit (Reg.wdrStatus t) 15 || x.goal = 0 || x.recalRun then s
    else (s.onTape t fun x => { x with placed := false }).beginWriting t

/-! ## Boundaries (R266, R274, R275, R277) -/

/-- A data set with its parity would not fit: fewer than 162 slots of 420.8 µm are left before the wrap's end, by the
position known (R277). -/
def State.wrapFull (s : State) (t : Nat) : Bool :=
  let x := s.tape t
  let p := s.finePos t
  s.ladOk t && (if s.tReverse t then decide ((p - 32 * x.ladStart) * 500 < 681696)
    else decide ((32 * x.ladEnd - p) * 500 < 681696))

/-- Ask for another step where the fill calls for it (R274). -/
def State.matchSpeed (s : State) (t : Nat) : State :=
  let f := (s.tape t).fillPct
  let k := s.rf (Reg.wdrStatus t) 19 16
  if s.rbit (Reg.wdrStatus t) 15 then s
  else if 75 ≤ f && k < 11 then s.changeStep t (k + 1)
  else if f ≤ 25 && 0 < k then s.changeStep t (k - 1)
  else s

/-- The end of the data set in progress: slots an inhibit still covers are failed, and its rewrite area is written. -/
def State.closeSet (s : State) (t : Nat) : State :=
  match (s.tape t).cur with
  | none => s
  | some d =>
    let s := match (s.tape t).inhibit with
      | some lo => (s.failSlots t d lo 157).onTape t fun x => { x with inhibit := some 0 }
      | none => s
    let s := s.writeArea t d
    ((s.onTape t fun x => { x with cur := none }).releaseSets t).commitPassed t

/-- DATA_SET_BOUNDARY while writing, or in a gap (R266, R274, R275). -/
def State.writeBoundary (s : State) (t : Nat) (input : List Fetch) : State :=
  let s := (s.closeSet t)
  let s := State.intake t input s
  let x := s.tape t
  if (s.inst (instKey 7 t)).ctl != .basic then
    match x.copies.filterMap x.set? with
    | [] => s.stopWriting t
    | _ :: _ => s.writeNext t
  else if x.job.any (·.abort) then
    let s := s.onTape t fun x => { x with stream := [], recs := x.recs.filter (fun r => decide (r.hi ≤ x.streamLo)), inputEnded := true }
    let s := (s.onTape t fun x => { x with plan := .flush }).endJob t St.aborted 0x1801
    s.writeNext t
  else if s.wState t == 3 then
    if x.badAhead || !(decide (dsBytes ≤ x.stream.length) || x.inputEnded) then s
    else
      let s := (s.setWState t 2).onTape t fun x => { x with fillers := 0, shortSince := none }
      let s := s.writeNext t
      if s.wState t == 2 && s.gateOk t then s.setGate t true else s
  else
    let s := if x.plan == .go && s.wrapFull t then s else s.writeNext t
    (s.matchSpeed t).settleJob t

/-- WRITE_GAP (R275): four fillers have not helped. -/
def execWriteGap (t : Fin 2) (s : State) : Host.Outcome State Fault Refusal :=
  s.atTape t fun s t =>
    let x := s.tape t
    if s.wState t != 2 || x.cur.isSome || x.fillers < 4 then s else s.endWriting t 3

/-- SHORT_BUFFER_STOP (R275, R276): still short 2 s, 6,000 boundaries, after the buffer first became short. -/
def execShortBufferStop (t : Fin 2) (s : State) : Host.Outcome State Fault Refusal :=
  s.atTape t fun s t =>
    let x := s.tape t
    if !(x.shortSince.any fun k => decide (k + msTicks 2000 ≤ s.clk)) || x.badAhead || decide (dsBytes ≤ x.stream.length) || x.inputEnded
        || x.cur.isSome then s
    else
      let s := ((s.onTape t fun x => { x with plan := .stop }).setWState t 2).bump (Reg.wdrCntEvents t) 31 16 1
      let s := s.writeNext t
      if s.wState t == 2 && s.gateOk t then s.setGate t true else s

/-- WRAP_END (R277): no data set fits, or the last zone of the wrap is bad. Windrow pads, closes the group and turns;
`preOk`: the preamplifier's second readback is right when the other module is selected (R330). -/
def execWrapEnd (t : Fin 2) (preOk : Bool) (s : State) : Host.Outcome State Fault Refusal :=
  s.atTape t fun s t =>
    let x := s.tape t
    if !(s.wState t == 2 || s.wState t == 3) || x.cur.isSome || x.plan != .go || !(s.wrapFull t || x.badAhead) then
      if s.wState t == 5 || x.mst == .recovering then
        if x.wrap + 1 < x.cmWraps && s.wrapFull t then
          ((s.targetWrap t (x.wrap + 1)).runStep t (s.rf (Reg.wdrStatus t) 19 16)).preamp t preOk
        else s
      else s
    else
      let s := (s.onTape t fun x => { x with plan := .turn, badAhead := false }).setWState t 2
      let s := s.writeNext t
      let s := if s.wState t == 2 && s.gateOk t then s.setGate t true else s
      s.preamp t preOk

/-! ## End of data (R278, R334) -/

/-- Write the tables, EOD and NEXT_RSEQ to the cartridge memory, and clear DIRTY. -/
def State.cmUpdate (s : State) (t : Nat) : State :=
  let x := s.tape t
  let s := ((s.cmWrite t 0x24 (leBytes 4 (x.nextDsn - 1))).cmWrite t 0x28 [byteOf x.wrap]).cmWrite t 0x2C (leBytes 4 x.nextRseq)
  let s := (s.cmWrite t 0x20 (leBytes 4 x.wp)).cmWrite t 0x30 (padTo s.fuses.unitId 16)
  let s := x.wraps.foldl (fun s e => s.cmWrite t (0x100 + 8 * e.1)
    (leBytes 4 (if (s.tape t).cmAt (0x104 + 8 * e.1) 4 = 0 then e.2.1 else min e.2.1 ((s.tape t).cmAt (0x100 + 8 * e.1) 4)) ++ leBytes 4 e.2.2)) s
  let s := s.cmCrc t 0x100 0x800 0x900
  let s := (x.dir.foldl (fun s e => s.cmWrite t (0x1000 + 4 * e.1) (leBytes 4 e.2)) s).cmCrc t 0x1000 0x8000 0x9000
  (s.cmFlag t 1 false).onTape t fun x => { x with dir := [], wraps := [] }

/-- CM_EOD_UPDATE (R278, R279, R334): every data set before EOD has passed; or the recovery at mount has gone 16 m, 10,000
units, without an accepted data set, or to the end of the last wrap. `writeOk`, `retryOk`: the write of the cartridge
memory, and its one retry. -/
def execCmEodUpdate (t : Fin 2) (writeOk retryOk : Bool) (s : State) : Host.Outcome State Fault Refusal :=
  s.atTape t fun s t =>
    let x := s.tape t
    let ok := writeOk || retryOk
    if x.mst == .recovering then
      if !(decide (10000 ≤ x.noAccept) || x.wrap + 1 == x.cmWraps && s.wrapFull t) then s
      else
        let s := s.onTape t fun x => { x with appended := true }
        let s := s.writeEmpty t knEod
        let s := if ok then s.cmUpdate t else s.latch (errWdr t) 0 6
        let s := (s.onTape t fun x => { x.readDone.dropWriter with mst := .mounted, recovered := true, idleSince := s.clk, appended := false, placed := true, apWrap := x.wrap }).setWState t 1
        let s := (s.setGlnMode t 0).halt t
        let x := s.tape t
        if ok then s.finalOf x.mountEid St.ok 0 (leBytes 1 t ++ leBytes 3 x.mountCount ++ leBytes 4 (x.cmAt 8 4) ++ leBytes 1 x.cmWraps
          ++ [byteOf (2 + 4 * b2n (s.tapeWprot t))] ++ leBytes 1 (s.rf (Reg.glnCalset t) 11 10))
        else s.mountFail t St.mediaError 0x1603
    else if x.plan != .eodOut || x.cur.isSome || !(x.sets.all fun w => w.done || w.kind == knEod) then s
    else
      let s := s.onTape t fun x => { x with sets := [], pend := [], copies := [] }
      let s := if ok then s.cmUpdate t else s.latch (errWdr t) 0 6
      let s := s.stopWriting t
      if x.mst == .finishing then
        (s.onTape t fun x => { x with endSt := if ok then (St.ok, 0) else (St.mediaError, 0x1603) }).rewind t ok
      else
        let s := if ok then s
          else s.onJob t fun j => { j with fail := some ((j.fail.map (·.1)).getD 0, St.mediaError, 0x1603) }
        (s.onJob t fun j => { j with flush := false }).settleJob t

end Sys2Proof.Machine
end

