-- ==== Sys2Proof/Machine/TapeRead.lean ====
section
/-! DEFINITION. Gleaner's reading (R294 to R307) and what Windrow makes of what was read: recall, verify and the recovery
of the end of data (R279, R280, R286, R287). -/

namespace Sys2Proof.Machine

open Sys2Proof

/-! ## Tracks -/

/-- A track. -/
def State.trk (s : State) (t k : Nat) : Trk := KMap.getD (s.tape t).tracks k Trk.reset

/-- Show how many tracks are in lock. -/
def State.showLocked (s : State) (t : Nat) : State :=
  s.setRf (Reg.glnStatus t) 14 8 ((List.range 64).filter fun k => (s.trk t k).lock).length

/-- Set a track. -/
def State.setTrk (s : State) (t k : Nat) (x : Trk) : State :=
  (s.onTape t fun y => { y with tracks := KMap.put y.tracks k x }).showLocked t

/-- A zone table entry (R308, R311): as adapted, measured or replaced, else as its track and direction are seeded. -/
def Tape.zoneEntry (x : Tape) (wrap zone track : Nat) : ZEntry :=
  KMap.getD x.zones ((64 * wrap + zone) * 64 + track) (KMap.getD x.calRes (2 * track + wrap % 2) ZEntry.dflt)

/-- The words of GLN_TARGET, GLN_LOOP, GLN_ADAPT, GLN_SYNC, GLN_REC and GLN_WPC. -/
def State.glnWords (s : State) (t : Nat) : List W32 :=
  [Reg.glnTarget t, Reg.glnLoop t, Reg.glnAdapt t, Reg.glnSync t, Reg.glnRec t, Reg.glnWpc t].map s.reg

/-- Adaptation runs widened while the set is stale and on rereads (R310). -/
def State.widens (s : State) (t : Nat) : Bool := s.rbit (Reg.glnStatus t) 3 || s.rf (Reg.glnStatus t) 2 0 == 4

/-- A field of a setting in force on a track: 3 GLN_SYNC, 4 GLN_REC, 2 GLN_ADAPT. -/
def Trk.field (x : Trk) (word hi lo : Nat) : Nat := fieldOf (x.regs.getD word 0).toNat hi lo

/-- TRACK_PREAMBLE (R295, R297 to R299, R309, R316): the buffer recentres, what waits for the preamble takes effect, and
the track is in lock again. -/
def execTrackPreamble (t : Fin 2) (track : Fin 64) (s : State) : Host.Outcome State Fault Refusal :=
  s.atTape t fun s t =>
    if !s.speedOk t then s
    else
      let k : Nat := track
      let x := s.trk t k
      let x := { x with lock := true, fill := 32, erased := false, centred := true, regs := s.glnWords t, widened := s.widens t }
      s.setTrk t k (match x.nextZone with
        | some (w, z) =>
          let e := (s.tape t).zoneEntry w z k
          { x with wrap := w, zone := z, loaded := e, cur := e, nextZone := none }
        | none => x)

/-- ELASTIC_SLIP (R295): the fill has reached 0 or 64. -/
def execElasticSlip (t : Fin 2) (track : Fin 64) (s : State) : Host.Outcome State Fault Refusal :=
  s.atTape t fun s t =>
    let k : Nat := track
    if !(s.trk t k).centred || !s.speedOk t then s
    else
      let s := s.setTrk t k { s.trk t k with erased := true, fill := 64 * (s.unstated 66 [t, k] % 2) }
      (s.nextDraw.latch (errGln t) k 2).bump (Reg.glnCntTiming t) 15 0 1

/-- LOCK_LOSS (R299). -/
def execLockLoss (t : Fin 2) (track : Fin 64) (s : State) : Host.Outcome State Fault Refusal :=
  s.atTape t fun s t =>
    let k : Nat := track
    if !(s.trk t k).lock then s
    else ((s.setTrk t k { s.trk t k with lock := false }).latch (errGln t) k 3).bump (Reg.glnCntTiming t) 31 16 1

/-- SPEED_OK_CHANGE (R294): the measured speed has crossed 1.45 m/s. Frames that have not ended are erased. -/
def execSpeedOkChange (t : Fin 2) (ok : Bool) (s : State) : Host.Outcome State Fault Refusal :=
  s.atTape t fun s t =>
    if s.speedOk t == ok || decide (1450 ≤ s.rf (Reg.glnSrvPes t) 31 16) != ok then s
    else
      let s := s.setRbit (Reg.glnStatus t) 5 ok
      if ok then s
      else
        (s.onTape t fun x => { x with tracks := KMap.mapV x.tracks fun _ k => { k with erased := true, lock := false } }).showLocked t

/-! ## Framing (R300 to R302) -/

/-- The header CRC of a frame is correct. -/
def frameHeadOk (h : BitVec 64) : Bool := crc16 (beBytes 6 (fieldOf h.toNat 63 16)) == fieldOf h.toNat 15 0

/-- Positions within `r` of a prediction. -/
def near (r p x : Nat) : Bool := decide (p ≤ x + r ∧ x ≤ p + r)

/-- The candidate for sync mark 1 that frames the codeword: the earliest whose header CRC is correct. -/
def findSm1 (f : RxFrame) (tol p : Nat) : Option (Nat × BitVec 64) :=
  let cs := f.sm1.filter fun c => near 8 p c.1 && decide (c.2.1 ≤ tol) && frameHeadOk c.2.2
  cs.foldl (fun b c => match b with
    | none => some (c.1, c.2.2)
    | some y => if c.1 < y.1 then some (c.1, c.2.2) else b) none

/-- The candidate for sync mark 2: the fewest differing bits, the earliest of equals. -/
def findSm2 (f : RxFrame) (tol p : Nat) : Option Nat :=
  let cs := f.sm2.filter fun c => near 16 (p + 4184) c.1 && decide (c.2 ≤ tol)
  (cs.foldl (fun b c => match b with
    | none => some c
    | some y => if c.2 < y.2 || c.2 == y.2 && c.1 < y.1 then some c else b) none).map (·.1)

/-- The predictions for sync mark 1, in the order tried (R300, R302). -/
def Trk.predictions (x : Trk) (f : RxFrame) : List Nat :=
  match x.lastSm1.filter fun p => decide (f.departs ≤ p + 8432) with
  | some p => [p + 8416]
  | none => x.predict.toList ++ [f.departs]

/-- How a frame was framed: from sync mark 1 with its position and header, from sync mark 2 with the position of sync
mark 1 that it implies, or not. -/
inductive Framing where
  | sm1 (pos : Nat) (head : BitVec 64)
  | sm2 (pos : Nat)
  | lost (predicted : Nat)
deriving DecidableEq, Repr

/-- Frame a received frame. -/
def Trk.frame (x : Trk) (f : RxFrame) : Framing :=
  let ps := x.predictions f
  match ps.findSome? fun p => findSm1 f (x.field 3 2 0) p with
  | some (p, h) => .sm1 p h
  | none =>
    match ps.findSome? fun p => findSm2 f (x.field 3 6 4) p with
    | some q => .sm2 (q - 4184)
    | none => .lost (ps.headD f.departs)

/-- What a header says. -/
def identOf (track : Nat) (h : BitVec 64) : Ident :=
  let v := h.toNat
  ⟨track, fieldOf v 33 26, fieldOf v 63 40, fieldOf v 25 22, fieldOf v 21 19, fieldOf v 18 17, bitAt v 16⟩

/-- The identity a slot's headers on the other tracks give (R301): the one that most of them hold. -/
def Tape.vote (x : Tape) (track slot need : Nat) : Option Ident :=
  let others := x.idents.filter fun i => i.track != track && i.slot == slot && !i.rew
  let count := fun (i : Ident) => (others.filter fun j => { j with track := 0 } == { i with track := 0 }).length
  if others.length < need then none
  else others.foldl (fun b i => match b with
    | none => some i
    | some y => if count y < count i then some i else b) none

/-- A word is already decoded. -/
def Tape.hasWord (x : Tape) (dsn sds cwi wp : Nat) : Bool :=
  x.words.any fun w => w.dsn == dsn && w.sds == sds && w.cwi == cwi && w.wp == wp

/-- Keep a decoded codeword. -/
def State.keepWordOf (s : State) (t : Nat) (w : RWord) : State :=
  s.onTape t fun x => if x.hasWord w.dsn w.sds w.cwi w.wp then x else { x with words := x.words ++ [w] }

/-- Queue a frame for recovery (R304, R306, R307): 96 frames, and on a reread 4,096 captured in a pass. -/
def State.queueRec (s : State) (t : Nat) (f : RecFrame) : State :=
  let x := s.tape t
  if x.hasWord f.dsn f.sds f.cwi f.wp then s
  else if s.rf (Reg.glnStatus t) 2 0 = 4 then
    if 4096 ≤ x.captured then s.latch (errGln t) f.track 7
    else s.onTape t fun x => { x with recQ := x.recQ ++ [f], captured := x.captured + 1 }
  else if 96 ≤ x.recQ.length then (s.latch (errGln t) f.track 4).bump (Reg.glnCntCal t) 31 16 1
  else
    let s := s.onTape t fun x => { x with recQ := x.recQ ++ [f] }
    s.setRf (Reg.glnStatus t) 22 16 (s.tape t).recQ.length

/-- Hand a framed codeword of read mode to the normal C1 decoder, and where that fails to recovery (R303, R304). -/
def State.decodeFrame (s : State) (t : Nat) (i : Ident) (sds : Nat) (sm2 en : Bool) (bits : Bytes) : State :=
  if i.kind = knNull then s
  else
    match Config.c1Decode sm2 bits with
    | some (info, corr) => s.keepWordOf t ⟨i.dsn, i.kind, sds, i.slot, i.wp, padTo info 960, corr⟩
    | none => if en then s.queueRec t ⟨i.track, i.dsn, i.kind, sds, i.slot, i.wp, sm2, bits⟩ else s

/-- FRAME_RECEIVED (R300 to R304). In write verify the verdict reaches Windrow by FRAME_VERDICT. -/
def execFrameReceived (t : Fin 2) (track : Fin 64) (frame : RxFrame) (s : State) : Host.Outcome State Fault Refusal :=
  s.atTape t fun s t =>
    let k : Nat := track
    let x := s.trk t k
    let mode := s.rf (Reg.glnStatus t) 2 0
    let reading := mode == 2 || mode == 4
    if !s.speedOk t || !x.centred || mode = 0 || mode = 3 then s
    else if x.erased then s.setTrk t k { x with erased := false, lastSm1 := none, slot := x.slot + 1 }
    else
      let en := x.field 4 0 0 == 1
      match x.frame frame with
      | .sm1 p h =>
        let i := identOf k h
        let s := (s.setTrk t k { x with lastSm1 := some p, predict := none, slot := if i.rew then x.slot + 1 else i.slot }).addPair
          (Reg.glnCntFramesLo t) 1
        let s := s.onTape t fun y => { y with idents := (i :: y.idents).take 512 }
        if reading then s.decodeFrame t i (fieldOf h.toNat 39 34) false en frame.bits else s
      | .sm2 p =>
        let slot := x.slot + 1
        let s := ((s.setTrk t k { x with lastSm1 := none, predict := some (p + 8416), slot := slot }).addPair
          (Reg.glnCntFramesLo t) 1).bump (Reg.glnCntSync t) 15 0 1
        match if reading && slot < 157 then (s.tape t).vote k slot (x.field 3 13 8) else none with
        | some i => s.decodeFrame t { i with track := k } ((k + 192 - slot) % 64) true en frame.bits
        | none => s
      | .lost p =>
        (s.setTrk t k { x with lastSm1 := none, predict := some (p + 8416), slot := x.slot + 1 }).bump (Reg.glnCntSync t) 31 16 1

/-- RECOVERY_DECODE (R305): the engine takes the next queued frame. -/
def execRecoveryDecode (t : Fin 2) (s : State) : Host.Outcome State Fault Refusal :=
  s.atTape t fun s t =>
    match (s.tape t).recQ with
    | [] => s
    | f :: rest =>
      let s := s.onTape t fun x => { x with recQ := rest }
      let s := if s.rf (Reg.glnStatus t) 2 0 = 4 then s else s.setRf (Reg.glnStatus t) 22 16 rest.length
      if (s.tape t).hasWord f.dsn f.sds f.cwi f.wp then s
      else
        let x := s.trk t f.track
        match Config.recoverDecode (x.field 4 7 4) (x.field 4 11 8) f.sm2 f.bits with
        | some (info, corr) =>
          (s.keepWordOf t ⟨f.dsn, f.kind, f.sds, f.cwi, f.wp, padTo info 960, corr⟩).bump (Reg.glnCntRec t) 15 0 1
        | none => s.bump (Reg.glnCntRec t) 31 16 1

/-! ## Positions and passes -/

/-- Position the tape ahead of a data set and read forward from it. -/
def State.readFrom (s : State) (t dsn : Nat) : State :=
  ((s.setReg (Reg.wdrDsn t) (BitVec.ofNat 32 dsn)).emit (.tape t "LOCATE_DSN" dsn [])).setGlnMode t 2

/-- The data set being read. -/
def State.readDsn (s : State) (t : Nat) : Nat := (s.reg (Reg.wdrDsn t)).toNat

/-- REREAD (R307): the data set is not restored, all of it has passed, and rereads are left. A reread runs at step 4. -/
def execReread (t : Fin 2) (s : State) : Host.Outcome State Fault Refusal :=
  s.atTape t fun s t =>
    let x := s.tape t
    let d := s.readDsn t
    if s.wState t != 5 || s.rf (Reg.glnRec t) 19 16 ≤ x.rereads || (KMap.get? x.got d).isSome || x.lost.contains d
        || (restoreSet x.words x.wp d).isSome then s
    else
      let s := s.onTape t fun x => { x with rereads := x.rereads + 1, captured := 0 }
      ((s.emit (.tape t "LOCATE_DSN" d [])).setGlnMode t 4).runStep t 4

/-! ## Records (R118, R286) -/

/-- The chunk records an extent is known to hold: fingerprint, place and length, by the index and by recipes. -/
def State.recordsOf (s : State) (id : Nat) : List (Bytes × Nat × Nat) :=
  let d := s.rootDom (extRoot id)
  ((s.idxAll d).filterMap fun e => if e.2.extent == id && !e.2.object then some (e.2.key, e.2.offset, e.2.rlen) else none)
    ++ s.data.objects.flatMap fun o => o.entries.filterMap fun e =>
      if e.extent == id && e.unindexed then some (e.fp, e.offset, e.rlen) else none

/-- The detail of the first chunk record of an extent's bytes that fails the read-back checks. -/
def State.chunkBad (s : State) (eid id : Nat) (body : Bytes) : Option (Nat × Nat) :=
  (s.recordsOf id).findSome? fun (fp, off, rlen) =>
    let r := slice body (16 * off) (512 * rlen)
    match s.openRecord eid (leAt r 10 2) fp r with
    | .ok _ => none
    | .error x => some x

/-- The data sets read from one on, as far as all of them are restored or lost. -/
def Tape.readRun (x : Tape) (dsn : Nat) : List (Option RSet) :=
  ((List.range 256).map fun k => if x.lost.contains (dsn + k) then some none else (KMap.get? x.got (dsn + k)).map some).takeWhile
    Option.isSome |>.filterMap id

/-- A record by its tape location: found, once every data set that holds it is restored or one is lost. -/
def Tape.recordAt (x : Tape) (dsn off : Nat) : Option FoundRec :=
  match x.readRun dsn with
  | [] => none
  | none :: _ => some ⟨[], [], true⟩
  | some r :: rest =>
    if r.kind != knData then some ⟨[], [], false⟩
    else (recordsIn none (some { r with firstRec := off } :: rest)).head?

/-- The data set to read next for a record. -/
def Tape.nextFor (x : Tape) (dsn : Nat) : Nat := dsn + (x.readRun dsn).length

/-! ## Recall (R286) -/

/-- Go on to what a recall reads next: the data set its first entry lacks. -/
def State.recallGo (s : State) (t : Nat) : State :=
  match (s.tape t).job.bind fun j => j.entries.head? with
  | some e => if ((s.tape t).recordAt e.dsn e.off).isSome then s else s.readFrom t ((s.tape t).nextFor e.dsn)
  | none => s

/-- An entry of a recall ends: recalled, or failed with a status. The first failed entry is that of the lowest index. -/
def State.entryEnds (s : State) (t idx : Nat) (r : Option (Nat × Nat)) : State :=
  let s := s.onJob t fun j =>
    let j := { j with entries := j.entries.filter fun e => e.idx != idx }
    match r with
    | none => { j with nOk := j.nOk + 1 }
    | some (st, dt) => { j with nBad := j.nBad + 1, fail := if j.fail.any fun f => decide (f.1 < idx) then j.fail else some (idx, st, dt) }
  match (s.tape t).job with
  | some j =>
    if j.entries.isEmpty then
      match j.fail with
      | some (_, st, dt) => (s.endJob t st dt).halt t
      | none => (s.endJob t St.ok 0).halt t
    else s.recallGo t
  | none => s

/-- Write a recalled extent to whole stripes of its group: the blocks it takes, and the stripes. -/
def State.placeExtent (s : State) (root : Nat) (body : Bytes) : Option (State × Nat × Nat × List StripeW) :=
  match s.group? root with
  | none => none
  | some g =>
    let d := g.oldGeo.d
    let n := roundUp (ceilDiv body.length 4096) d
    match (s.tree root).freeRun g n with
    | none => none
    | some (start, blocks) =>
      if blocks < n then none
      else
        let ws := (pieces (4096 * d) body).zipIdx.map fun (b, i) => (⟨root, start + i * d, padTo b (4096 * d), b.length, false, []⟩ : StripeW)
        some (ws.foldl (fun s w => s.addStripe root w.block w.data w.zeroFrom) s, start, n, ws)

/-- RECALL_COMMIT (R286): `idx` names the entry, whose record has been read. An extent is written to flash first; its
commit follows once its journal record is complete. `destOk`: the host took a host record. -/
def execRecallCommit (t : Fin 2) (idx : Nat) (destOk : Bool) (s : State) : Host.Outcome State Fault Refusal :=
  s.atTape t fun s t =>
    match (s.tape t).job.filter fun j => j.kind == .recall with
    | none => s
    | some j =>
      match j.entries.head?.filter fun e => e.idx == idx with
      | none => s
      | some e =>
        match (s.tape t).recordAt e.dsn e.off with
        | none => s
        | some r =>
          let fail := fun (st dt : Nat) => s.entryEnds t idx (some (st, dt))
          if r.lost then fail St.mediaError 0x1601
          else if !r.ok then fail St.checkMismatch 0x1601
          else if j.host then
            let (rec_, good) := openHost r.body
            if leAt r.head 1 1 != 2 || !good then fail St.checkMismatch 0x1601
            else if e.len < rec_.length then fail St.invalidParam 0x1601
            else
              let s := match s.entry j.eid with
                | some c => s.deliverTo c e.id rec_
                | none => s
              s.entryEnds t idx (if destOk then none else some (s.unstated 22 [0x2004, 0] % 65536, s.unstated 22 [0x2004, 1] % 65536))
          else
            let root := extRoot e.id
            let dom := s.rootDom root
            match s.extent e.id with
            | none => fail St.invalidParam 0x1601
            | some x =>
              if !x.onTape then s.entryEnds t idx none
              else if leAt r.head 1 1 != 1 || leAt r.head 8 8 != e.id then fail St.checkMismatch 0x1601
              else
                match s.chunkBad j.eid e.id r.body with
                | some (st, dt) => (s.sklStatus (0x20 + 4 * t) t 0 st dt e.id).entryEnds t idx (some (St.checkMismatch, 0x1602))
                | none =>
                  if !s.owns dom then fail St.busy 0x1601
                  else
                    match e.jseq with
                    | some js =>
                      if !s.recComplete dom js then s
                      else
                        let y := s.tree root
                        (s.setTree root { y with
                          extDirty := true
                          exts := y.exts.map fun z => if extId root z.num == e.id then
                            { z with onTape := false, flash := true, moved := s.ez.nextEid } else z }).entryEnds t idx none
                    | none =>
                      match s.placeExtent root r.body with
                      | none => fail St.noSpace 0x1503
                      | some (s, start, n, ws) =>
                        let z := { x with onTape := false, flash := true, start := start, blocks := n }
                        let (s, js) := s.makeRec dom .reclaim 0 ((ws.map s.stripeItem) ++ [Extent.item root z]) (ws.map fun w => (root, w.block))
                        let y := s.tree root
                        let s := s.setTree root { y with exts := y.exts.map fun q => if extId root q.num == e.id then
                          { q with start := start, blocks := n, flash := true } else q }
                        s.onJob t fun j => { j with entries := j.entries.map fun q => if q.idx == idx then { q with jseq := some js } else q }

/-! ## Verify (R287, R480) -/

/-- End a verify job: the records in the data sets read are checked, and with DEEP their chunk records. -/
def State.endVerify (s : State) (t : Nat) (j : TJob) : State :=
  let x := s.tape t
  let sets := (List.range (j.last + 1 - j.first)).filterMap fun k =>
    if x.lost.contains (j.first + k) then some none else (KMap.get? x.got (j.first + k)).map some
  let bad := (recordsIn none sets).filter fun r =>
    !r.ok || j.deep && leAt r.head 1 1 == 1 && (s.chunkBad j.eid (leAt r.head 8 8) r.body).isSome
  ((s.onJob t fun j => { j with nBad := bad.length }).endJob t St.ok 0).halt t

/-- The end of data has been reached by a read. -/
def Tape.eodDsn (x : Tape) : Nat := x.nextDsn - 1

/-- DATA_SET_BOUNDARY while reading (R286, R287, R307, R314, R480): the tape has passed the data set with every copy of
it. A data set not restored is reread while rereads are left, and is then lost. -/
def State.readBoundary (s : State) (t : Nat) : State :=
  let x := s.tape t
  let d := s.readDsn t
  let r := restoreSet x.words x.wp d
  match x.job with
  | none => s
  | some j =>
    if r.isNone && x.rereads < s.rf (Reg.glnRec t) 19 16 then s
    else
      let s := match r with
        | some y =>
          let s := (s.tally 5 dsBytes).onTape t fun x => { x with got := KMap.put x.got d y, rereads := 0 }
          if y.c3 then s.bump (Reg.wdrCntRead t) 15 0 1 else s
        | none =>
          let s := (s.onTape t fun x => { x with lost := d :: x.lost, rereads := 0 }).bump (Reg.wdrCntRead t) 31 16 1
          if j.eid = 0 then (s.event (Reg.fldBgStat + 2)).sklFold (0x20 + 4 * t) t 0 d else s
      let s := s.setGlnMode t 2
      let s := s.onJob t fun j => if j.kind != .verify then j else
        { j with nOk := j.nOk + 1, nC3 := j.nC3 + b2n (r.any (·.c3)), nLost := j.nLost + b2n r.isNone }
      if j.abort then (s.endJob t St.aborted 0x1801).halt t
      else if j.eid = 0 && !x.queue.isEmpty then
        ((s.onTape t fun x => { x with bgDsn := d + 1 }).endJob t St.ok 0).halt t
      else
        let s := if x.paused then s.halt t else s
        match j.kind with
        | .verify =>
          if j.last ≤ d then
            match (s.tape t).job with
            | some j => (s.onTape t fun x => { x with bgDsn := if j.eid = 0 then 0 else x.bgDsn }).endVerify t j
            | none => s
          else s.readFrom t (d + 1)
        | _ => s.recallGo t

/-- Tape records that begin in a restored data set: the RSEQ after the last. -/
def RSet.nextRseq (r : RSet) : Option Nat :=
  if r.kind != knData || r.firstRec = 0xFFFFFFFF then none
  else
    let (rs, o) := takeRecs r.payload 262145 r.firstRec
    ((o.map (·.1)).or (rs.getLast?.map (·.head))).map fun h => leAt h 16 4 + 1

/-- DATA_SET_BOUNDARY during the recovery of the end of data (R279): a data set of the current WP that decodes is
accepted. -/
def State.recoverBoundary (s : State) (t : Nat) : State :=
  let x := s.tape t
  let d := s.readDsn t
  match restoreSet (x.words.filter fun w => w.wp == x.wp % 16) x.wp d with
  | none => s.readFrom t (d + 1)
  | some r =>
    let s := s.onTape t fun x => { x with
      noAccept := 0, nextDsn := d + 1, nextRseq := r.nextRseq.getD x.nextRseq
      wraps := match KMap.get? x.wraps x.wrap with
        | some p => KMap.put x.wraps x.wrap (min p.1 d, max p.2 d)
        | none => KMap.put x.wraps x.wrap (d, d) }
    s.readFrom t (d + 1)

/-- DATA_SET_BOUNDARY (R266, R274, R279, R286): `input` is what the reads of a migration's next entries gave. -/
def execDataSetBoundary (t : Fin 2) (input : List Fetch) (s : State) : Host.Outcome State Fault Refusal :=
  s.atTape t fun s t =>
    match s.wState t with
    | 2 => s.writeBoundary t input
    | 3 => s.writeBoundary t input
    | 5 => s.readBoundary t
    | 6 => s.recoverBoundary t
    | _ => s

end Sys2Proof.Machine
end

