-- ==== Sys2Proof/Machine/TapeCmds.lean ====
section
/-! DEFINITION. Calibration and zone tables (R308 to R316), the tape commands (R282, R287, R288, R315, R333, R334), a
transport's expert descriptors (R290, R291), and the end of an instance's return (R78). -/

namespace Sys2Proof.Machine

open Sys2Proof

/-! ## Zones (R309, R310, R325, R480) -/

/-- Clamp to a distance from a value and to a range. -/
def clampTo (v lo hi d x : Int) : Int := max (max lo (v - d)) (min (min hi (v + d)) x)

/-- The entry as adapted on a track (R310): where adaptation has brought each setting is not stated, but its limits are
(log entry 67). -/
def State.adapted (s : State) (t k : Nat) : ZEntry :=
  let x := s.trk t k
  let e := x.loaded
  let m := if x.widened then 2 ^ x.field 2 17 16 else 1
  let trim := x.field 2 31 24 * m
  let small := x.field 2 31 24 / 4 * m
  let draw := fun (i : Nat) => (s.unstated 67 [t, k, i] : Int)
  { e with
    taps := e.taps.zipIdx.map fun (c, i) => BitVec.ofInt 12 (clampTo c.toInt (-2048) 2047 trim (draw i - 2048))
    gain := (clampTo e.gain 0 255 small (draw 16)).toNat
    offset := BitVec.ofInt 8 (clampTo e.offset.toInt (-128) 127 small (draw 17 - 128))
    asym := BitVec.ofInt 8 (clampTo e.asym.toInt (-128) 127 small (draw 18 - 128))
    mse := s.unstated 67 [t, k, 19] % 65536, src := 3 }

/-- A track leaves its zone: an adaptation that converged is written back (R309). -/
def State.leaveZone (s : State) (t k : Nat) : State :=
  let x := s.trk t k
  let e := s.adapted t k
  if x.centred && decide (4 * e.mse ≤ 5 * x.loaded.mse) then
    s.onTape t fun y => { y with zones := KMap.put y.zones ((64 * x.wrap + x.zone) * 64 + k) e }
  else s

/-- The zone a fine position lies in. -/
def Tape.zoneAt (x : Tape) (p : Nat) : Nat :=
  ((List.range 64).filter fun z => decide (32 * x.zoneStart z ≤ p)).getLast?.getD 0

/-- ZONE_BOUNDARY_CROSS (R269, R309, R325, R480): `bad` are the tracks whose entry of the next zone reads uncorrectable. -/
def execZoneBoundaryCross (t : Fin 2) (zone : Fin 64) (bad : List Nat) (s : State) : Host.Outcome State Fault Refusal :=
  s.atTape t fun s t =>
    let z : Nat := zone
    let x := s.tape t
    if !s.ladOk t || x.zoneAt (s.finePos t) != z || s.rf (Reg.wdrPos t) 13 8 == z then s
    else
      let s := if s.speedOk t then ((List.range 64).foldl (fun s k => s.leaveZone t k) s).nextDraw else s
      let s := (bad.filter (· < 64)).foldl (fun s k =>
        let s := s.onTape t fun y => { y with zones := KMap.put y.zones ((64 * x.wrap + z) * 64 + k) ZEntry.dflt }
        (s.latch (errGln t) k 5).sklHw (0x28 + 4 * t) t 5 k) s
      let s := (List.range 64).foldl (fun s k => s.setTrk t k { s.trk t k with nextZone := some (x.wrap, z) }) s
      let s := s.setRf (Reg.wdrPos t) 13 8 z
      let s := s.onTape t fun y => { y with zonePass := y.zonePass.set z (y.zonePass.getD z 0 + 1) }
      let s := if !x.passWarned && decide (s.par Par.tapePassWarn ≤ (s.tape t).zonePass.getD z 0) then
          (s.onTape t fun y => { y with passWarned := true }).event (Reg.wdrPos t)
        else s
      if x.zoneBad x.wrap z then
        if s.wState t == 2 then s.onTape t fun y => { y with badAhead := true } else s
      else if x.badAhead then
        let s := (s.onTape t fun y => { y with badAhead := false }).setWState t 2
        let s := (s.setGlnMode t 1).writeNext t
        if s.wState t == 2 && s.gateOk t then s.setGate t true else s
      else s

/-! ## Calibration (R311 to R315) -/

/-- ACTIVITY_CLASS_CHANGE (R312): eight ticks in a row in another band. -/
def execActivityClassChange (s : State) : Host.Outcome State Fault Refusal :=
  .next <|
    if s.thm.bandRun < 8 || s.thm.band == s.thm.cls then s
    else
      let c := s.thm.band
      let s := { s with thm := { s.thm with cls := c } }
      if s.part.t2 then (s.setRf (Reg.glnCond 0) 9 8 c).setRf (Reg.glnCond 1) 9 8 c else s

/-- The set becomes stale (R311, R312). -/
def State.goStale (s : State) (t : Nat) : State :=
  let s := (s.setRbit (Reg.glnStatus t) 3 true).setRbit (Reg.glnStatus t) 4 true
  (((s.onTape t fun x => { x with staleSince := some s.clk }).event (Reg.glnStatus t)).bump (Reg.glnCntCal t) 7 0 1)

/-- The comparison at a tick (R312). -/
def State.checkStale (s : State) (t : Nat) : State :=
  if !s.rbit (Reg.glnCalset t) 12 || s.rbit (Reg.glnStatus t) 3 then s
  else
    let signed := fun (n : Nat) => if n < 128 then (n : Int) else (n : Int) - 256
    let d := signed (s.rf (Reg.glnCond t) 7 0) - signed (s.rf (Reg.glnCalset t) 7 0)
    if 15 < d.natAbs || s.rf (Reg.glnCond t) 9 8 != s.rf (Reg.glnCalset t) 9 8 then s.goStale t else s

/-- Calibration may start: nothing runs or is queued, or the job has paused for it (R313, R314). -/
def State.calIdle (s : State) (t : Nat) : Bool :=
  let x := s.tape t
  x.mst == .mounted && !x.recalRun && (x.job.isNone && x.queue.isEmpty || x.paused && x.goal == 0 && s.wState t != 2 && s.wState t != 3)

/-- Start a calibration pass. -/
def State.startCal (s : State) (t : Nat) : State :=
  let s := (s.onTape t fun x => { x with recalRun := true }).setGlnMode t 3
  (s.targetWrap t 0).runStep t 4

/-- RECALIBRATE (R313): a pending recalibration in an idle window, or a forced one once the job has paused. -/
def execRecalibrate (t : Fin 2) (s : State) : Host.Outcome State Fault Refusal :=
  s.atTape t fun s t => if s.rbit (Reg.glnStatus t) 4 && s.calIdle t then s.startCal t else s

/-- FORCED_RECAL (R314): the set has been stale for GLN_recal_force_s. Writing stops at the next group boundary, a read
job pauses at the next data set boundary; RECALIBRATE then starts the pass. -/
def execForcedRecal (t : Fin 2) (s : State) : Host.Outcome State Fault Refusal :=
  s.atTape t fun s t =>
    let x := s.tape t
    let lim := s.par Par.recalForceS
    if x.mst != .mounted || x.paused || x.recalRun || lim = 0 || !(x.staleSince.any fun k => decide (k + msTicks (1000 * lim) ≤ s.clk))
    then s
    else
      let s := s.onTape t fun y => { y with paused := true }
      if s.wState t == 2 && x.cur.isNone && x.group.isNone then
        (s.stopWriting t).bump (Reg.wdrCntEvents t) 31 16 1
      else if s.wState t == 4 then s.halt t
      else s

/-- An entry shifted by what a track and direction's result changed by, clamped to each field's range (R313). -/
def ZEntry.shift (e old new : ZEntry) : ZEntry :=
  let d8 := fun (a b c : BitVec 8) => BitVec.ofInt 8 (max (-128) (min 127 (a.toInt + c.toInt - b.toInt)))
  { e with
    taps := (List.zip e.taps (List.zip old.taps new.taps)).map fun x =>
      BitVec.ofInt 12 (max (-2048) (min 2047 (x.1.toInt + x.2.2.toInt - x.2.1.toInt)))
    gain := (max (0 : Int) (min 255 ((e.gain : Int) + new.gain - old.gain))).toNat
    offset := d8 e.offset old.offset new.offset
    asym := d8 e.asym old.asym new.asym }

/-- The entry a result makes. -/
def calEntry (r : CalResult) (src : Nat) : ZEntry :=
  ⟨r.taps ++ List.replicate (16 - r.taps.length) 0, r.gain.toNat, r.offset, r.asym, src, r.mse.toNat⟩

/-- Key of a seed: track and direction. -/
def seedKey (track : Nat) (odd : Bool) : Nat := 2 * track + b2n odd

/-- Take the results of a pass (R311, R313). A seed stands for every entry of its track and direction that no adaptation
or measurement has replaced; the others are shifted. -/
def State.takeSeeds (s : State) (t : Nat) (rs : List CalResult) : State :=
  rs.foldl (fun s r =>
    let new := calEntry r 1
    s.onTape t fun x =>
      let k := seedKey r.track.val r.odd
      let old := KMap.getD x.calRes k ZEntry.dflt
      { x with
        calRes := KMap.put x.calRes k new
        zones := KMap.mapV x.zones fun i e =>
          if i % 64 == r.track.val && (i / 4096 % 2 == 1) == r.odd then e.shift old new else e }) s

/-- Record a calibration set (R311, R313): SRC 1 from the pattern, 2 from data, 0 where defaults stay. -/
def State.recordSet (s : State) (t src : Nat) : State :=
  let cond := Reg.glnCond t
  let s := (s.setReg (Reg.glnCalset t) 0).setRf (Reg.glnCalset t) 7 0 (s.rf cond 7 0)
  let s := ((s.setRf (Reg.glnCalset t) 9 8 (s.rf cond 9 8)).setRf (Reg.glnCalset t) 11 10 src).setRbit (Reg.glnCalset t) 12 true
  let s := (s.setRbit (Reg.glnStatus t) 3 false).setRbit (Reg.glnStatus t) 4 false
  let s := s.onTape t fun x => { x with staleSince := none }
  if src = 0 then (((s.latch (errGln t) 0 6).goStale t)) else s

/-- RESULT of a mount. -/
def State.mountResult (s : State) (t : Nat) : Bytes :=
  let x := s.tape t
  leBytes 1 t ++ leBytes 3 x.mountCount ++ leBytes 4 (x.cmAt 8 4) ++ leBytes 1 x.cmWraps
    ++ [byteOf (b2n x.blank + 2 * b2n x.recovered + 4 * b2n (s.tapeWprot t))] ++ leBytes 1 (s.rf (Reg.glnCalset t) 11 10)

/-- CALIBRATION_COMPLETE (R279, R311 to R315, R333): `src` and `results` are what the pass found, nothing where defaults
stay in force. It ends the calibration of a mount, a recalibration, or a MODE 1 measurement, whose results name zones. -/
def execCalibrationComplete (t : Fin 2) (src : Nat) (results : List CalResult) (s : State) : Host.Outcome State Fault Refusal :=
  s.atTape t fun s t =>
    let x := s.tape t
    let src := if results.isEmpty then 0 else if src = 2 then 2 else 1
    if x.mst == .calibrating then
      let s := (((s.takeSeeds t results).recordSet t src).setGate t false).setGlnMode t 0
      let x := s.tape t
      if x.cmDirty && !s.tapeWprot t then
        let s := (s.onTape t fun x => { x with mst := .recovering, noAccept := 0 }).setWState t 6
        ((s.targetWrap t (x.cmAt 0x28 1)).readFrom t (x.cmAt 0x24 4)).runStep t 4
      else
        let s := (((s.onTape t fun x => { x with mst := .mounted, idleSince := s.clk }).setWState t 1).halt t)
        s.finalOf x.mountEid St.ok 0 (s.mountResult t)
    else if x.recalRun then
      let s := (((s.takeSeeds t results).recordSet t src).setGate t false).setGlnMode t 0
      let s := (s.onTape t fun x => { x with recalRun := false, paused := false }).bump (Reg.glnCntCal t) 15 8 1
      match x.job with
      | some j =>
        if j.kind == .calibrate then
          (if src = 0 then s.endJob t St.mediaError 0x1701 else s.endJob t St.ok 0).halt t
        else if s.wState t == 5 then (s.readFrom t (s.readDsn t)).runStep t (s.rf (Reg.wdrStatus t) 19 16)
        else s.halt t
      | none => s.halt t
    else
      match x.job.filter fun j => j.kind == .calibrate && j.mode == 1 with
      | none => s
      | some j =>
        let hits := results.filterMap fun r => r.zone.bind fun z =>
          if bitAt j.wraps z.1 && decide (z.2 < 64) then some (z, r) else none
        let s := s.onTape t fun x => { x with zones := hits.foldl (fun m h =>
          KMap.put m ((64 * h.1.1 + h.1.2) * 64 + h.2.track.val) (calEntry h.2 2)) x.zones }
        let n := (hits.map (·.1)).eraseDups.length
        let all_ := 64 * ((List.range 128).filter (bitAt j.wraps)).length
        let s := s.onJob t fun j => { j with nOk := n, nBad := all_ - n }
        (s.endJob t St.ok 0).halt t

/-! ## Jobs (R282 to R287, R315) -/

/-- The transport of a cartridge handle that is current (R333): none where no cartridge is mounted or the handle is
stale. -/
def State.cartridge (s : State) (h : Nat) : Option Nat :=
  let t := h % 256
  let x := s.tape t
  if t < 2 && h / 256 % 2 ^ 24 == x.mountCount && h / 2 ^ 32 == x.cmAt 8 4
      && ! [MountSt.none, .loading, .acquiring, .calibrating, .recovering].contains x.mst then some t
  else none

/-- Run a command on the cartridge its handle names, while it is mounted and no unload runs. -/
def State.onCartridge (s : State) (e : Entry) (f : State → Nat → State) : State :=
  match s.cartridge e.h with
  | none => s.fail e St.invalidParam 0x1604
  | some t =>
    match (s.tape t).mst with
    | .mounted => if s.basicFree (instKey 7 t) then f s t else s.fail e St.roleConflict 0x0401
    | .faulted => s.fail e St.invalidParam 0x1604
    | _ => s.fail e St.busy 0x1801

/-- A job before its own fields are set. -/
def TJob.blank (eid : Nat) (kind : JobKind) : TJob :=
  ⟨eid, kind, false, false, false, false, 0, [], 2 ^ 32, 2 ^ 32, 0, 0, 0, 0, none, 0, 0, 0, false⟩

/-- Queue a job (R282). -/
def State.queueJob (s : State) (e : Entry) (t : Nat) (j : TJob) : State :=
  if 16 ≤ (s.tape t).queue.length then s.fail e St.busy 0x1602
  else s.onTape t fun x => { x with queue := x.queue ++ [j] }

/-- The entries of a job's block. -/
def tapeEntries (a : Bytes) (n : Nat) : List TEntry :=
  (List.range n).map fun i =>
    let b := slice a (64 + 32 * i) 32
    ⟨i, leAt b 0 8, leAt b 8 4, leAt b 16 8, leAt b 24 4, leAt b 28 4, none⟩

/-- A job of TAPE_MIGRATE or TAPE_RECALL, checked as R283 says; a host record is 1 to 2^28 bytes long (R254). -/
def State.entryJob (s : State) (e : Entry) (t : Nat) (kind : JobKind) : State :=
  let src := e.p 0 1
  let n := e.p 4 4
  if 1 < src || n = 0 || 2046 < n then s.fail e St.invalidParam 0x1601
  else if e.area.length < 64 + 32 * n then s.fail e St.invalidParam 0x0103
  else
    let es := tapeEntries e.area n
    if kind == .migrate && src == 1 && (es.any fun x => x.len == 0 || decide (2 ^ 28 < x.len)) then s.fail e St.invalidParam 0x1601
    else
      s.queueJob e t { TJob.blank e.eid kind with
        host := src == 1, entries := es, locAddr := e.p 8 8
        flush := kind == .migrate && bitAt (e.p 1 1) 0, keep := kind == .migrate && bitAt (e.p 1 1) 1 }

/-- TAPE_MIGRATE (R282, R283). -/
def execTapeMigrate (eid : Nat) (s : State) : Host.Outcome State Fault Refusal :=
  .next <| s.cmd eid 0x2003 fun s e => s.onCartridge e fun s t => s.entryJob e t .migrate

/-- TAPE_RECALL (R282, R286). -/
def execTapeRecall (eid : Nat) (s : State) : Host.Outcome State Fault Refusal :=
  .next <| s.cmd eid 0x2004 fun s e => s.onCartridge e fun s t => s.entryJob e t .recall

/-- TAPE_VERIFY (R287). -/
def execTapeVerify (eid : Nat) (s : State) : Host.Outcome State Fault Refusal :=
  .next <| s.cmd eid 0x2005 fun s e => s.onCartridge e fun s t =>
    s.queueJob e t { TJob.blank eid .verify with first := e.p 0 4, last := e.p 4 4, deep := bitAt (e.p 8 1) 0 }

/-- TAPE_CALIBRATE (R315). -/
def execTapeCalibrate (eid : Nat) (s : State) : Host.Outcome State Fault Refusal :=
  .next <| s.cmd eid 0x2006 fun s e => s.onCartridge e fun s t =>
    if 1 < e.p 0 1 || 2 ^ (s.tape t).cmWraps ≤ e.p 8 16 then s.fail e St.invalidParam 0x1701
    else s.queueJob e t { TJob.blank eid .calibrate with mode := e.p 0 1, wraps := e.p 8 16 }

/-- The entries of a recall as it starts: an extent's location is that of its table entry; one already on flash counts as
recalled, and one that is unknown or lies on another cartridge fails. -/
def State.resolveRecall (s : State) (t : Nat) (j : TJob) : TJob :=
  let serial := (s.tape t).cmAt 8 8
  let r := j.entries.foldl (fun (j : TJob) e =>
    let bad := { j with nBad := j.nBad + 1, fail := j.fail.or (some (e.idx, St.invalidParam, 0x1601)) }
    if j.host then if e.serial == serial then { j with entries := j.entries ++ [e] } else bad
    else
      match s.extent e.id with
      | none => bad
      | some x =>
        if !x.onTape then { j with nOk := j.nOk + 1 }
        else if x.serial != serial then bad
        else { j with entries := j.entries ++ [{ e with serial := x.serial, dsn := x.dsn, off := x.off }] })
    { j with entries := [] }
  { r with entries := r.entries.mergeSort fun a b => decide (a.dsn < b.dsn ∨ a.dsn = b.dsn ∧ a.off ≤ b.off) }

/-- Start reading for a job: at which step is not stated (log entry 68). -/
def State.startRead (s : State) (t : Nat) : State :=
  ((s.setWState t 5).setGlnMode t 2).runStep t (s.unstated 68 [t] % 12)

/-- Start a job (R282, R283, R286, R287, R315). -/
def State.startJob (s : State) (t : Nat) (j : TJob) : State :=
  let s := s.onTape t fun x => { x.readDone with job := some j }
  match j.kind with
  | .migrate =>
    if s.tapeWprot t then s.endJob t St.mediaError 0x1603
    else
      let s := s.onTape t fun x => { x with inputEnded := false, inRate := [], inNow := 0 }
      if s.wState t == 1 then s.setWState t 4 else s
  | .recall =>
    let j := s.resolveRecall t j
    let s := s.onJob t fun _ => j
    if j.entries.isEmpty then
      match j.fail with
      | some (_, st, dt) => s.endJob t st dt
      | none => s.endJob t St.ok 0
    else (s.recallGo t).startRead t
  | .verify =>
    let last := min j.last (s.tape t).eodDsn
    let s := s.onJob t fun j => { j with last := last }
    if last < j.first || (s.tape t).nextDsn = 0 then s.endJob t St.ok 0 else (s.readFrom t j.first).startRead t
  | .calibrate =>
    if j.mode = 0 then s.startCal t
    else ((s.setWState t 5).setGlnMode t 3).runStep t 4

/-- TAPE_JOB_START (R282, R313): the next queued job, once the last has ended and no calibration runs. -/
def execTapeJobStart (t : Fin 2) (s : State) : Host.Outcome State Fault Refusal :=
  s.atTape t fun s t =>
    let x := s.tape t
    match x.queue with
    | [] => s
    | j :: rest =>
      if x.mst != .mounted || x.job.isSome || x.recalRun || !s.basicFree (instKey 7 t) || (s.wState t == 2 || s.wState t == 3) && j.kind != .migrate
      then s
      else (s.onTape t fun x => { x with queue := rest }).startJob t j

/-- TAPE_IDLE_VERIFY (R480). -/
def execTapeIdleVerify (t : Fin 2) (s : State) : Host.Outcome State Fault Refusal :=
  s.atTape t fun s t =>
    let x := s.tape t
    if x.mst != .mounted || x.job.isSome || !x.queue.isEmpty || x.recalRun || s.rbit (Reg.glnStatus t) 4 || s.wState t != 1
        || s.clk < x.idleSince + msTicks (1000 * s.par Par.tapeIdleS) || !s.basicFree (instKey 7 t) || x.nextDsn ≤ x.bgDsn then s
    else (s.setRbit Reg.fldBgStat 2 true).startJob t { TJob.blank 0 .verify with first := x.bgDsn, last := 0xFFFFFFFF }

/-! ## Cartridge memory and status (R288) -/

/-- The range of CM_READ and CM_WRITE. -/
def cmRangeBad (off len lo : Nat) : Bool := len < 4 || 4096 < len || len % 4 != 0 || off < lo || 65536 < off + len

/-- CM_READ (R288): `destOk` is whether the host took the bytes; otherwise the manual gives no status (log entry 22). -/
def execCmRead (eid : Nat) (destOk : Bool) (s : State) : Host.Outcome State Fault Refusal :=
  .next <| s.cmd eid 0x2007 fun s e => s.onCartridge e fun s t =>
    if cmRangeBad (e.p 0 4) (e.p 4 4) 0 then s.fail e St.invalidParam 0x1603
    else if e.outside (e.p 8 8) (e.p 4 4) then s.fail e St.invalidParam 0x1E01
    else
      let s := s.deliverTo e (e.p 8 8) (Mem.read (s.tape t).cm (e.p 0 4) (e.p 4 4))
      if destOk then s.okReply e [] else s.failSilent e 0x2007

/-- CM_WRITE (R288): `src` is what the host address holds. -/
def execCmWrite (eid : Nat) (src : Fetch) (s : State) : Host.Outcome State Fault Refusal :=
  .next <| s.cmd eid 0x2008 fun s e => s.onCartridge e fun s t =>
    if cmRangeBad (e.p 0 4) (e.p 4 4) 0xA000 then s.fail e St.invalidParam 0x1603
    else if e.outside (e.p 8 8) (e.p 4 4) then s.fail e St.invalidParam 0x1E01
    else
      match if e.ring == 1023 then Fetch.ok (Mem.read s.fld.window (e.p 8 8) (e.p 4 4)) else src with
      | .ok b => (s.cmWrite t (e.p 0 4) (padTo b (e.p 4 4))).okReply e []
      | .uncorrectable => s.fail e St.uncorrectable 0x1601
      | .failed => s.failSilent e 0x2008

/-- TAPE_STATUS (R288). -/
def execTapeStatus (eid : Nat) (s : State) : Host.Outcome State Fault Refusal :=
  .next <| s.cmd eid 0x2009 fun s e =>
    match s.cartridge e.h with
    | none => s.fail e St.invalidParam 0x1604
    | some t =>
      let x := s.tape t
      s.okReply e (leBytes 1 (s.wState t) ++ leBytes 1 (s.rf (Reg.wdrStatus t) 19 16) ++ leBytes 1 x.fillPct ++ [0]
        ++ leBytes 4 (s.readDsn t) ++ leBytes 4 x.wp ++ leBytes 1 x.wrap)

/-! ## Mount and unload (R333, R334) -/

/-- What is wrong with a cartridge memory as read (R281, R326, R333). -/
def cmBad (b : Bytes) : Option Nat :=
  if leAt b 0xFC 4 != crc32c (padTo b 0xFC) || 1 < leAt b 0 1 || leAt b 0x14 4 < 2450 || leAt b 0x18 4 < leAt b 0x14 4 + 14400
      || leAt b 0x10 1 < 2 || 128 < leAt b 0x10 1 then some 0x1801
  else if leAt b 0 1 = 1 && (leAt b 0x900 4 != crc32c (slice b 0x100 0x800) || leAt b 0x9000 4 != crc32c (slice b 0x1000 0x8000)) then
    some 0x1802
  else none

/-- CARTRIDGE_MOUNT (R333): `cm` is the cartridge memory as its reader gives it. A cartridge whose memory is smaller than
64 KiB, or whose SERIAL is zero, is mounted and not written (R281; log entry 69). -/
def execCartridgeMount (eid : Nat) (cm : Fetch) (s : State) : Host.Outcome State Fault Refusal :=
  .next <| s.cmd eid 0x2001 fun s e =>
    let t := e.p 0 1
    if 1 < t then s.fail e St.invalidParam 0x1801
    else if (s.tape t).mst != .none then s.fail e St.busy 0x1801
    else if !s.basicFree (instKey 7 t) then s.fail e St.roleConflict 0x0401
    else
      match cm with
      | .ok b =>
        match cmBad b with
        | some d => (s.pendReply e).fail e St.mediaError d
        | none =>
          let blank := leAt b 0 1 == 0
          let s := (s.pendReply e).onTape t fun x => { x with
            mst := .loading, mountEid := eid, since := s.clk, statusAt := s.clk, blank := blank, cmd := 2
            readOnly := bitAt (e.p 1 1) 0 || decide (b.length < 65536) || leAt b 8 8 == 0, cm := Mem.ofBytesAt 0 (b.take 65536)
            wp := if blank then 0 else leAt b 0x20 4, nextDsn := if blank then 0 else leAt b 0x24 4 + 1
            nextRseq := if blank then 0 else leAt b 0x2C 4, apWrap := if blank then 0 else leAt b 0x28 1 }
          let s := s.setRbit (Reg.wdrStatus t) 4 (s.tape t).cmDirty
          (s.setRf (Reg.wdrPos t) 31 16 ((s.tape t).wp % 65536)).showWprot t
      | _ => (s.pendReply e).fail e St.mediaError 0x1803

/-- CARTRIDGE_UNLOAD (R334): the queued jobs end; the running one finishes, or with ABORT stops at its next data set
boundary, at once where it is in no data set. -/
def execCartridgeUnload (eid : Nat) (s : State) : Host.Outcome State Fault Refusal :=
  .next <| s.cmd eid 0x2002 fun s e =>
    match s.cartridge e.h with
    | none => s.fail e St.invalidParam 0x1604
    | some t =>
      match (s.tape t).mst with
      | .faulted => ((s.arm t false).onTape t fun x => { x with unloadEid := eid, endSt := (St.ok, 0) }).sendUnload t
      | .mounted =>
        if !s.basicFree (instKey 7 t) then s.fail e St.roleConflict 0x0401
        else
          let s := (s.abortQueue t).onTape t fun x => { x with mst := .finishing, unloadEid := eid, endSt := (St.ok, 0), recalRun := false }
          let s := if bitAt (e.p 0 1) 0 then s.onJob t fun j => { j with abort := true } else s
          if ((s.tape t).job.any fun j => j.abort && (j.kind == .calibrate || ! [2, 3, 5].contains (s.wState t))) then
            s.endJob t St.aborted 0x1801
          else s.unloadGo t
      | _ => s.fail e St.busy 0x1801

/-! ## Expert descriptors (R290, R291) -/

/-- The descriptor's own checks. -/
def wdrJudge (d : Bytes) (op : Nat) : Bool :=
  leAt d 0 1 != op || !zeroAt d 2 2 || !zeroAt d 37 27 || 1 < leAt d 36 1 || op = 2 && leAt d 1 1 != 1 && leAt d 1 1 != 4

/-- A descriptor that breaks the rules. -/
def wdrBad : XRes := XRes.fail St.invalidParam 0x1601

/-- A payload image as it is read. -/
def State.wdrSrc (s : State) (k : Nat) (f : Fetch) : Except XRes Bytes :=
  match f with
  | .ok b => .ok (padTo b dsBytes)
  | .uncorrectable => .error { XRes.fail St.uncorrectable 0x1601 with halt := true }
  | .failed => .error (s.xrSilent k)

/-- Run a descriptor of a transport; `out` is its output size. -/
def State.wdrOp (s : State) (t : Fin 2) (desc : Fetch) (cqOk : Bool) (op out : Nat) (f : State → Nat → Bytes → State × XRes) :
    Host.Outcome State Fault Refusal :=
  s.atTape t fun s t =>
    s.xqRun (instKey 7 t) desc cqOk fun s d =>
      if wdrJudge d op then (s, wdrBad)
      else if leAt d 24 8 < out then (s, XRes.fail St.noSpace 0x1602)
      else f s t d

/-- WDR_ENCODE (R291): the codewords of a data set with the next DSN, in (j, i) order. -/
def execWdrEncode (t : Fin 2) (desc src : Fetch) (cqOk : Bool) (s : State) : Host.Outcome State Fault Refusal :=
  s.wdrOp t desc cqOk 1 (10048 * 1024) fun s t d =>
    match s.wdrSrc (instKey 7 t) src with
    | .error r => (s, r)
    | .ok b =>
      let arrays := (s.tape t).nextArrays knData true b 0xFFFFFFFF 0
      let out := (List.range 10048).flatMap (codeword arrays)
      (s.xqWrite (instKey 7 t) (leAt d 16 8) out, ⟨St.ok, 0, out.length, 0, false⟩)

/-- WDR_WRITE_DS (R290): a data set that is a group of its own, at the append point. -/
def execWdrWriteDs (t : Fin 2) (desc src : Fetch) (cqOk : Bool) (s : State) : Host.Outcome State Fault Refusal :=
  s.wdrOp t desc cqOk 2 0 fun s t d =>
    if (s.tape t).mst != .mounted then (s, XRes.fail St.invalidParam 0x1604)
    else if !s.writable t then (s, XRes.fail St.mediaError 0x1603)
    else
      match s.wdrSrc (instKey 7 t) src with
      | .error r => (s, r)
      | .ok b =>
        let s := (s.startAppend t).targetWrap t (s.tape t).apWrap
        let s := if (s.tape t).zoneBad (s.tape t).wrap (s.rf (Reg.wdrPos t) 13 8) then s.emit (.tape t "SKIP_ZONE" (s.rf (Reg.wdrPos t) 13 8) []) else s
        let s := if leAt d 1 1 = 4 then s.writeEmpty t knFiller else s.newSet t knData ((s.tape t).nextArrays knData true b 0xFFFFFFFF 0)
        let s := if s.gateOk t then s.setGate t true else s.onTape t fun x => { x with inhibit := some 0 }
        (s, ⟨St.ok, 0, 0, 0, false⟩)

/-- WDR_READ_DS (R291): what has been read of a data set: its payload and a status byte for each codeword. -/
def execWdrReadDs (t : Fin 2) (desc : Fetch) (_src : Fetch) (cqOk : Bool) (s : State) : Host.Outcome State Fault Refusal :=
  s.wdrOp t desc cqOk 3 (dsBytes + 10048) fun s t d =>
    let x := s.tape t
    let dsn := leAt d 32 4
    if x.mst != .mounted then (s, XRes.fail St.invalidParam 0x1604)
    else
      let ws := wordsOf x.words x.wp dsn
      let arrays := restoreC2 ws
      let noC3 := bitAt (leAt d 36 1) 0
      let got := if noC3 then (if arrays.all Option.isSome then some (arrays.flatMap fun a => (a.getD []).take 131072) else none)
        else (restoreSet x.words x.wp dsn).map (·.payload)
      match got with
      | none => (s, XRes.fail St.mediaError 0x1601)
      | some p =>
        let st := (List.range 64).flatMap fun j => (List.range 157).map fun i =>
          byteOf (match ws.find? fun w => w.sds == j && w.cwi == i with
            | some w => min 254 w.corr
            | none => 255)
        (s.xqWrite (instKey 7 t) (leAt d 16 8) (p ++ st), ⟨St.ok, 0, dsBytes + 10048, 0, false⟩)

/-- WDR_LOCATE (R291): position ahead of a data set, and read on from it. -/
def execWdrLocate (t : Fin 2) (desc : Fetch) (_src : Fetch) (cqOk : Bool) (s : State) : Host.Outcome State Fault Refusal :=
  s.wdrOp t desc cqOk 4 0 fun s t d =>
    let dsn := leAt d 32 4
    if (s.tape t).mst != .mounted then (s, XRes.fail St.invalidParam 0x1604)
    else if (s.tape t).nextDsn ≤ dsn then (s, wdrBad)
    else (((s.onTape t Tape.readDone).readFrom t dsn).startRead t, ⟨St.ok, 0, 0, 0, false⟩)

/-! ## The end of a return (R78, R182, R290, R316) -/

/-- The registers an instance of Gleaner restores when it returns to Basic. -/
def glnSettings (t : Nat) : List Nat :=
  [Reg.glnTarget t, Reg.glnLoop t, Reg.glnAdapt t, Reg.glnSync t, Reg.glnRec t, Reg.glnWpc t, Reg.glnSrvLoop t, Reg.glnSrvGeom t,
    Reg.glnSrvWi t]

/-- What Fold does as a transport returns: what the expert level wrote ends with EOD. -/
def State.returnTape (s : State) (t : Nat) : State :=
  let s := { s with regs := s.regs.filter fun x => !(glnSettings t).contains x.1 }
  let s := s.onTape t Tape.readDone
  if (s.tape t).mst == .mounted then
    let s := if (s.tape t).cmDirty then ((s.closeSet t).writeEmpty t knEod).cmUpdate t else s
    (s.onTape t fun x => { x with sets := [], pend := [], copies := [], redo := [], idleSince := s.clk }).stopWriting t
  else s

/-- RETURN_COMPLETE (R32, R78): the descriptors not started are ABORTED (`descs`, as far as they could be read), and the
instance is in Basic again. -/
def execReturnComplete (code inst : Nat) (descs : List Bytes) (cqOk : Bool) (s : State) : Host.Outcome State Fault Refusal :=
  .next <|
    let k := instKey code inst
    if (s.inst k).ctl != .returning then s
    else
      let s := s.abortDescs k (descs.take (s.xq k).waitingDescs) cqOk
      let s := if code = 5 then s.zeroCtx inst .free else s
      let s := if code = 7 then s.returnTape inst else s
      s.endReturn k

end Sys2Proof.Machine
end

