-- ==== Sys2Proof/Machine/Tick.lean ====
section
/-! DEFINITION. The tick: boundaries and Fold's work at them, telemetry, the background budget, scrubs, SMART (R469 to
R484, R490). -/

namespace Sys2Proof.Machine

open Sys2Proof

/-! ## The boundary in hardware (R471 to R473) -/

/-- Latch the counts that telemetry reports. Those of the tick begin anew. -/
def State.latchCounts (s : State) (tk : TickIn) : State :=
  let ce := (List.range 16).map fun n =>
    (tk.ce.filter fun x => x.1.val == n).foldl (fun a x => a + x.2.1 + x.2.2) 0
  s.onFld fun f => { f with shadow := f.counts ++ ce, counts := f.counts.set 13 0, imon := tk.imon }

/-- Count the corrections of a tick; Fold makes one record for each channel (R402). -/
def State.countCe (s : State) (tk : TickIn) : State :=
  tk.ce.foldl (fun s x =>
    let n : Nat := x.1
    let s := (s.bump (Reg.memChCe n) 15 0 x.2.1).bump (Reg.memChCe n) 31 16 x.2.2
    if x.2.1 + x.2.2 = 0 then s else s.sklFold 0x14 n 0 (x.2.1 + x.2.2)) s

/-- The decision set is applied whole, or, marked ready late, at the following boundary (R473, R474). -/
def State.decide_ (s : State) (late : Bool) : State :=
  if late then (s.bump Reg.fldTickStat 15 0 1).onFld fun f => { f with decLate := true }
  else
    let s := s.applyDecisions.onFld fun f => { f with decLate := false }
    match s.fld.telNext with
    | none => s
    | some c => s.onFld fun f => { f with tel := if c.divider = 0 then none else some c, telNext := none, telCnt := 0 }

/-- Hardware fences every held domain whose lease's age reaches 12 ticks (R384, R474). -/
def State.leaseFence (s : State) : State :=
  (List.range 8).foldl (fun s d =>
    if s.dhd.armed && s.lease && s.dhd.hst != .alone && (s.dom d).st.held && !s.leaseCurrent d then s.fence d else s) s

/-- A telemetry snapshot falls due every DIVIDER boundaries (R483). -/
def State.telTick (s : State) : State :=
  match s.fld.tel with
  | none => s
  | some c =>
    let n := s.fld.telCnt + 1
    s.onFld fun f => { f with telCnt := if c.divider ≤ n then 0 else n, telDue := f.telDue || decide (c.divider ≤ n) }

/-! ## Fold's work at a tick (R470, R474) -/

/-- The cores of the check-in set: core 0 alone in P2, and after it those that have checked in since. -/
def State.coreSet (s : State) : List Nat :=
  if s.inP2 then [0] else (List.range 8).filter fun i => i == 0 || s.fld.core.getD i 0 != 0

/-- The cores check in; the watchdog is kicked while every core of the set has checked in within the last 8 ticks. -/
def State.checkIn (s : State) (silent : List (Fin 8)) : State :=
  let runs := fun (i : Nat) => !(silent.any fun c => c.val == i) && !s.fld.trapped.contains i && (!s.inP2 || i == 0)
  let s := s.onFld fun f => { f with core := f.core.zipIdx.map fun x => if runs x.2 then s.clk else x.1 }
  let live := fun (i : Nat) => let t := s.fld.core.getD i 0; t != 0 && decide (s.clk < t + 8)
  let s := s.setRf Reg.fldCores 7 0 (bitsWhere 8 live)
  if s.coreSet.all live then s.onDhd fun h => { h with lastKick := s.clk } else s

/-- The band of a current: below 150 A, up to 300 A, above (R312). -/
def imonBand (ma : Nat) : Nat := if ma < 150000 then 0 else if ma ≤ 300000 then 1 else 2

/-- The current of the tick (R549) and its activity band: how long it has been another than the class in force (R312). -/
def State.takeImon (s : State) (tk : TickIn) : State :=
  let s := (s.setRf Reg.crpImon 15 0 (tk.imon / 100)).setRf Reg.crpImon 31 16 (max (s.rf Reg.crpImon 31 16) tk.peak)
  let b := imonBand tk.imon
  let t := s.thm
  { s with thm := { t with band := b, bandRun := if b = t.cls then 0 else if b = t.band then t.bandRun + 1 else 1 } }

/-- A byte as a signed number. -/
def signedByte (n : Nat) : Int := if n < 128 then (n : Int) else (n : Int) - 256

/-- The DIMM temperatures, and the training sets they or the activity class make stale (R400). -/
def State.takeDimms (s : State) (tk : TickIn) : State :=
  let s := tk.dimms.foldl (fun s x => s.setRf (Reg.memChStat x.1) 15 8 (byteOfInt x.2)) s
  if !s.rbit Reg.memStatus 0 then s
  else
    (List.range 16).foldl (fun s n =>
      let w := Reg.memChStat n
      let d := signedByte (s.rf w 15 8) - signedByte (s.rf w 7 0)
      if 10 < d.natAbs || s.rf w 17 16 != s.thm.cls then s.setRbit w 18 true else s) s

/-- A transport at a tick: its input rate, the temperature of its front-end die, the staleness test of its calibration
set (R267, R312). -/
def State.tapeTick (s : State) (t : Nat) : State :=
  let s := s.onTape t fun x => { x with inRate := (x.inRate ++ [x.inNow]).drop (x.inRate.length + 1 - 64), inNow := 0 }
  let s := match KMap.get? s.thm.temps (12 + t) with
    | some k => s.setRf (Reg.glnCond t) 7 0 (byteOfInt (degrees k))
    | none => s
  s.checkStale t

/-- RELEASE goes to the peer with the journal tails (R359). -/
def State.sendTails (s : State) : State :=
  if !s.peerUp then s
  else s.peerMsg 1 ((List.range 8).flatMap fun d => leBytes 8 (((s.journal d).recs.head?.map (·.jseq)).getD (s.journal d).nextSeq))

/-- What the manual gives no way to compute of a tick: how much of it Fold used, the shares of the background allowances
used, whether an item waited (R476, R477). -/
def State.tickUse (s : State) : State :=
  let s := (s.setRf Reg.fldTickStat 23 16 (s.unstated 70 [0] % 256)).setRf Reg.fldBgUse 7 0 (s.unstated 70 [1] % 256)
  ((s.setRf Reg.fldBgUse 15 8 (s.unstated 70 [2] % 256)).setRbit Reg.fldBgStat 3 (s.unstated 70 [3] % 2 = 1)).nextDraw

/-- Fold's work at a boundary that does not wait for a command of its own. In P2 core 0 does its share alone (R465, R470). -/
def State.tickFold (s : State) (tk : TickIn) : State :=
  let s := s.checkIn tk.silent
  if s.inP2 then s
  else
    let s := ((s.judgeHead.takeImon tk).takeDimms tk).sendTails
    let s := if s.part.t2 then (s.tapeTick 0).tapeTick 1 else s
    let s := (List.range 8).foldl State.imageTick s
    s.tickUse.p2Try

/-- TICK_BOUNDARY (R312, R400, R470 to R477, R482, R549). Before READY only time passes. A stop of CORE, MGMT or MEM stops
Fold (R454). -/
def execTickBoundary (tk : TickIn) (s : State) : Host.Outcome State Fault Refusal :=
  .next <|
    if s.crp.boot == .off then s
    else
      let s := { s with clk := s.clk + 1 }.warmTick
      if !s.ready then s
      else
        let s := s.setPair Reg.fldTickLo ((s.tick + 1) % 2 ^ 64)
        let s := (((s.latchCounts tk).countCe tk).decide_ tk.late).edge 0x600
        let s := s.leaseFence.telTick
        if s.crp.stopped.any (· < 3) then s else s.tickFold tk

/-- TICK_CHECKPOINT (R472): 2^22 ticks have passed since the checkpoint. -/
def execTickCheckpoint (s : State) : Host.Outcome State Fault Refusal :=
  .next <|
    if !s.ready || s.tick < s.fld.ckpt + 2 ^ 22 then s
    else (s.onFld fun f => { f with ckpt := s.tick }).emit (.nor "tick checkpoint" (leBytes 8 s.tick))

/-! ## Background work (R475 to R481, R490) -/

/-- BG_BUDGET_SET (R475): the three parameters as one batch. -/
def execBgBudgetSet (eid : Nat) (s : State) : Host.Outcome State Fault Refusal :=
  .next <| s.cmd eid 0x6004 fun s e =>
    let xs := [(Par.bgDdrPct, e.p 0 1), (Par.bgDrivePct, e.p 1 1), (Par.bgIdlePct, e.p 2 1)]
    if xs.any fun x => x.2 < (parInfo x.1).lo || (parInfo x.1).hi < x.2 then s.fail e St.invalidParam 0x0105
    else s.joinBatch ⟨e.eid, xs.map fun x => (x.1, x.2, false), e.area.take 3⟩

/-- Words a patrol pass reads: initialised DDR, management SRAM, the stream buffers, Heather's data array and the
Hedgerow array, whose size is not stated (R41, R478). -/
def State.patrolWords (s : State) : Nat := s.mem.granules.length * 2 ^ 27 + (192 * 2 ^ 20) / 8 + Config.unstated 71 [] % 2 ^ 20

/-- A word patrol finds uncorrectable (R411, R478): it is listed, and rewritten with zero where nothing live lies. -/
def State.patrolBad (s : State) (port addr : Nat) : State :=
  let region := s.regionAt addr
  let s := (s.ueRead port addr false).onMem fun m => { m with ues := (m.ues ++ [(⟨addr, region, s.tick % 2 ^ 32⟩ : UeEntry)]).take 64 }
  let idle := region == 0x3F || (region == 0x20 && s.data.puts.all (·.landing.isEmpty)) || (region == 0x21 && s.fpt.cmds.isEmpty)
    || (region == 0x22 && (List.range 8).all fun d => (s.openStripes d).isEmpty)
  if idle then s.onMem fun m => { m with poison := m.poison.filter (· != addr / 8 * 8) } else s

/-- PATROL_SCRUB (R478): patrol reads its grant. A pass that ends is followed by the next. -/
def execPatrolScrub (words : Nat) (bad : List (Fin 18 × Nat)) (s : State) : Host.Outcome State Fault Refusal :=
  .next <|
    if !s.ready || s.inP2 || !s.initDone then s
    else
      let s := bad.foldl (fun s x => s.patrolBad x.1 x.2) s
      let n := s.fld.patrolPos + words
      if s.patrolWords ≤ n then (s.onFld fun f => { f with patrolPos := 0, patrolPass := f.patrolPass + 1 }).setRbit Reg.fldBgStat 0 false
      else (s.onFld fun f => { f with patrolPos := n }).setRbit Reg.fldBgStat 0 true

/-- An entry of the list of R478. -/
def UeEntry.bytes (u : UeEntry) : Bytes := leBytes 8 u.addr ++ [byteOf u.region] ++ zeros 3 ++ leBytes 4 u.tick

/-- SCRUB_START (R490). The number returned for a verify is not stated. -/
def execScrubStart (eid : Nat) (destOk : Bool) (s : State) : Host.Outcome State Fault Refusal :=
  .next <| s.cmd eid 0x6005 fun s e =>
    match e.p 0 1 with
    | 0 => ((s.onFld fun f => { f with patrolPos := 0 }).setRbit Reg.fldBgStat 0 true).okReply e (leBytes 4 (s.fld.patrolPass + 1))
    | 1 =>
      (match s.groupOf e.h with
      | none => s.fail e St.invalidParam 0x1E03
      | some (i, _) =>
        let root := s.rootOf i
        let n := ((s.group? root).map (·.dataBlocks)).getD 0
        ((s.onFld fun f => { f with verifyNext := (root, 0, n) :: f.verifyNext }).setRbit Reg.fldBgStat 1 true).nextDraw.okReply e
          (leBytes 4 (s.unstated 72 [root])))
    | 2 =>
      let b := s.mem.ues.flatMap UeEntry.bytes
      let a := e.p 8 8
      if a % 64 != 0 then s.fail e St.invalidParam 0x0103
      else if e.outside a b.length then s.fail e St.invalidParam 0x1E01
      else if !destOk then s.failSilent e 72
      else (s.deliverTo e a b).okReply e (leBytes 4 s.mem.ues.length)
    | _ => s.fail e St.invalidParam 0x1E03

/-- The schedule's next position after a stripe of a domain's tree: groups in ascending order (R479). -/
def State.verifyStep (s : State) (d root next : Nat) : Nat × Nat :=
  if decide (next < ((s.group? root).map (·.dataBlocks)).getD 0) then (root, next)
  else
    let rs := (s.domRoots d).mergeSort (· ≤ ·)
    (((rs.find? fun r => decide (root < r)).or rs.head?).getD root, 0)

/-- Where verify stands: the commanded ranges first, then each domain's schedule. -/
def State.verifyHere (s : State) (d root block : Nat) : Bool :=
  match s.fld.verifyNext with
  | x :: _ => x.1 == root && x.2.1 == block
  | [] =>
    match KMap.get? s.fld.verifyAt d with
    | some x => x == (root, block) || (!(s.domRoots d).contains x.1 && s.metaRoot d == some root && block == 0)
    | none => s.metaRoot d == some root && block == 0

/-- Move verify on past the stripe that ends before a block. -/
def State.verifyPast (s : State) (d root next : Nat) : State :=
  let s := s.onFld fun f =>
    match f.verifyNext with
    | x :: xs => { f with verifyNext := if next < x.2.2 then (x.1, next, x.2.2) :: xs else xs }
    | [] => { f with verifyAt := KMap.put f.verifyAt d (s.verifyStep d root next) }
  s.setRbit Reg.fldBgStat 1 (!s.fld.verifyNext.isEmpty || s.fld.verifyAt.any fun x => x.2.2 != 0)

/-- One stripe as verify finds it: a unit whose tag is wrong is repaired (R207); parity that differs while every tag is
right is rewritten from the data, counted and recorded (R479). -/
def State.verifyStripe (s : State) (root block : Nat) (data : Bytes) (units : List Fetch) : State :=
  let ws := s.writesOf root block (blksOf data (data.length + 1))
  let found := ws.zipIdx.map fun (x : LeafWr × Nat) =>
    let w := x.1
    let off := match s.leaf? w.leaf with
      | some l => w.lba - l.start - s.labelBlocks root
      | none => 0
    let right := match units.getD x.2 .failed, s.leaf? w.leaf with
      | .ok b, some l => tagSays (s.tagWant l off) (b.take 4096) (slice b 4096 16) == TagSays.right
      | _, _ => false
    let u := units.getD x.2 .failed
    (w, off, right, match u with
      | .ok b => b.take 4096 == w.data
      | _ => false, match u with
      | .ok b => tagErrIsAddr (b.take 4096) (slice b 4096 16)
      | _ => false)
  let wrong := found.filter fun x => !x.2.2.1
  if wrong.isEmpty then
    let bad := (found.filter fun x => !x.2.2.2.1).map (·.1)
    if bad.isEmpty then s
    else
      let n := (bad.map (·.leaf)).eraseDups.length
      let s := ((s.driveWrites (s.rootDom root) (.upkeep root) bad).1.bump Reg.fldBgStat 31 16 n).tally 12 n
      s.sklFold 0x10 (s.rootDom root) 0 block
  else
    wrong.foldl (fun s x => match s.leaf? x.1.leaf with
      | some l => (s.tagFailed x.1.leaf l x.2.2.2.2).repairBlk x.1.leaf l x.2.1 x.1.data
      | none => s) s

/-- STRIPE_VERIFY (R479): the stripe of a tree from a data-space block on, its data blocks as read or reconstructed, and
the blocks with their unit tags of every unit at every level as the members hold them, in the order in which the whole
stripe would be written. A stripe on the lost list is skipped; a tree that is not OPTIMAL, or rebuilds or reshapes, a
locked stripe, and a Tussock instance that takes no new work (R30) hold verify. -/
def execStripeVerify (root block : Nat) (data : Fetch) (units : List Fetch) (s : State) : Host.Outcome State Fault Refusal :=
  .next <|
    match s.group? root with
    | none =>
      -- a tree that is gone leaves the queue
      s.onFld fun f => { f with verifyNext := f.verifyNext.filter fun x => x.1 != root }
    | some g =>
      let d := s.rootDom root
      let q := g.geoAt block
      let next := block / q.d * q.d + q.d
      let lost := (List.range q.d).any fun k => s.blockLost root (block / q.d * q.d + k)
      if !s.ready || s.inP2 || !s.owns d || !s.verifyHere d root block || s.treeBusy root || g.st != .optimal
          || s.locked root block || !s.tskFree d then s
      else if lost then s.verifyPast d root next
      else
        match data with
        | .ok b => (s.verifyStripe root (block / q.d * q.d) (padTo b (4096 * q.d)) units).verifyPast d root next
        | _ => s.verifyPast d root next

/-- SMART_READ (R481): the Percentage Used of a port's controller. -/
def execSmartRead (port : Fin 16) (used : Nat) (s : State) : Host.Outcome State Fault Refusal :=
  .next <|
    let p : Nat := port
    if !s.ready || s.inP2 || !(s.port p).present then s
    else
      let s := (s.onFld fun f => { f with smart := KMap.put f.smart p (used % 256) }).emit (.nvmeAdmin "Get Log Page SMART" p 0)
      if s.par Par.wearWarnPct ≤ used && !s.fld.smartWarned.contains p then
        ((s.onFld fun f => { f with smartWarned := p :: f.smartWarned }).event (Reg.fldBgUse + 0x100 + p)).sklFold 0x01 p 0 used
      else s

/-! ## Telemetry (R483, R484) -/

/-- TELEMETRY_CONFIG (R483). -/
def execTelemetryConfig (eid : Nat) (s : State) : Host.Outcome State Fault Refusal :=
  .next <| s.cmd eid 0x6006 fun s e =>
    let c : TelCfg := ⟨e.p 0 8, e.p 8 1, e.p 9 1, e.p 10 2⟩
    if c.addr % 4096 != 0 || c.log2 < 4 || 16 < c.log2 || 63 < c.fn || 3000 < c.divider then s.fail e St.invalidParam 0x1E02
    else (s.onFld fun f => { f with telNext := some c }).okReply e (leBytes 4 (s.fld.telSeq + b2n s.fld.telDue))

/-- Bytes 128 to 191 of a snapshot for a domain. -/
def State.telDom (s : State) (d : Nat) : Bytes :=
  let rs := s.domRoots d
  let reb := rs.any fun r => (s.treeLeaves r).any fun e => e.2.st == .rebuilding
  let resh := rs.any fun r => (s.treeGroups r).any fun i => (s.group? i).any fun g => g.reshape.st != 0
  let ver := s.fld.verifyNext.any fun x => rs.contains x.1
  [byteOf (s.dom d).st.code, byteOf (s.journal d).fill, byteOf (b2n reb + 2 * b2n resh + 4 * b2n ver), 0]
    ++ leBytes 2 (min 0xFFFF (s.openStripes d).length) ++ [0, 0]

/-- A transport's 16 bytes of a snapshot. -/
def State.telTape (s : State) (t : Nat) : Bytes :=
  let x := s.tape t
  [byteOf (s.wState t), byteOf (s.rf (Reg.wdrStatus t) 19 16), byteOf x.fillPct, byteOf (s.rf (Reg.wdrPos t) 13 8), byteOf x.wrap, 0, 0, 0]
    ++ leBytes 4 (s.readDsn t) ++ leBytes 4 (x.zonePass.foldl max 0)

/-- A count the boundary latched. The bytes read from flash are not held by the model (log entry 73). -/
def State.telCount (s : State) (i : Nat) : Bytes :=
  if i = 3 then leBytes 8 (s.unstated 73 [s.fld.telSeq]) else leBytes 8 (s.fld.shadow.getD i 0)

/-- Bytes 0 to 507 of a snapshot (R484). What depends on timing alone is a free value (log entry 73); in P2 the fields of
the CORE island are zero. -/
def State.snapshot (s : State) : Bytes :=
  let on := !s.inP2
  let core := fun (b : Bytes) => if on then b else zeros b.length
  let fe := fun (t : Nat) => if !s.part.t2 then (0x80 : Byte) else
    byteOf (byteOfInt (degrees (KMap.getD s.thm.temps (12 + t) 0)))
  let free := fun (n k : Nat) => Config.unstatedBytes 73 [s.fld.telSeq, k] n
  let dimm := (List.range 16).foldl (fun m n => max m (signedByte (s.rf (Reg.memChStat n) 15 8))) (-128)
  leBytes 2 1 ++ leBytes 2 512 ++ leBytes 4 s.fld.telSeq ++ leBytes 8 s.tick
    ++ [byteOf s.dhd.hst.code, byteOf s.heldMask, byteOf (s.rf Reg.crpStatus 1 0),
        byteOf (b2n s.fld.decLate + 2 * b2n s.inP2 + 4 * b2n (s.rbit Reg.fldBgStat 3))]
    ++ leBytes 4 s.fld.imon ++ [byteOf (byteOfInt (degrees ((s.hottest.map (·.2)).getD 0)))] ++ core [fe 0, fe 1]
    ++ core [byteOf (byteOfInt dimm), byteOf s.thm.cls] ++ zeros 3
    ++ core ((List.range 12).flatMap s.telCount) ++ core ((List.range 8).flatMap s.telDom)
    ++ core (padTo (free 64 0) 64)
    ++ core ((List.range 16).flatMap fun n => leBytes 2 (s.fld.shadow.getD (14 + n) 0)) ++ core (leBytes 2 (s.fld.shadow.getD 13 0))
    ++ core (padTo (free 2 1) 2) ++ zeros 4 ++ core (padTo (free 16 2) 16)
    ++ core (leBytes 2 (65536 * s.fld.patrolPos / s.patrolWords) ++ leBytes 2 s.fld.patrolPass)
    ++ core (leBytes 4 (s.fld.shadow.getD 12 0))
    ++ core [byteOf (b2n (s.pathUp 0) + 2 * b2n (s.pathUp 1) + 4 * b2n s.hbtIn), byteOf (s.subMask 0), byteOf (s.subMask 1)]
    ++ core [byteOf (s.fld.smart.foldl (fun m x => max m x.2) 0)] ++ core (leBytes 2 (s.hbAge 0) ++ leBytes 2 (s.hbAge 1)) ++ zeros 8
    ++ core (if s.part.t2 then s.telTape 0 ++ s.telTape 1 else zeros 32) ++ zeros 140

/-- TELEMETRY_SNAPSHOT (R484): the snapshot that is due is written, or skipped; SEQ advances either way. -/
def execTelemetrySnapshot (s : State) : Host.Outcome State Fault Refusal :=
  .next <|
    match s.fld.tel with
    | none => s.onFld fun f => { f with telDue := false }
    | some c =>
      if !s.ready || !s.fld.telDue then s
      else
        let f := s.fn c.fn
        let b := s.snapshot
        let q := s.fld.telSeq
        let t := if f.d3 || !f.bme || !s.crp.linkUp then s.bump Reg.fldTelStat 31 16 1
          else s.emit (.hostWrite c.fn (c.addr + 512 * (q % 2 ^ c.log2)) (b ++ leBytes 4 (crc32c b)))
        ((t.onFld fun f => { f with telDue := false, telSeq := (q + 1) % 2 ^ 32 }).setRf Reg.fldTelStat 15 0 (q % 65536)).nextDraw

end Sys2Proof.Machine
end

