-- ==== Sys2Proof/Machine/Board.lean ====
section
/-! DEFINITION. The out-of-band port, the SMBus interface, diagnostics (R485 to R490). -/

namespace Sys2Proof.Machine

open Sys2Proof

/-! ## The out-of-band port (R485 to R487) -/

/-- A frame or datagram that is dropped. -/
def State.oobDrop (s : State) : State := s.bump Reg.fldOobStat 19 8 1

/-- Something reaches the port: its link is up, and Fold runs. -/
def State.atOob (s : State) (f : State → State) : Host.Outcome State Fault Refusal :=
  .next (if s.ready then f (s.setRbit Reg.fldOobStat 0 true) else s)

/-- OOB_PACKET (R486, R487): a packet that is among the last 256 consumed is answered with its held reply; one that finds
the ring full is dropped. -/
def execOobPacket (xid : Nat) (pkt : Bytes) (s : State) : Host.Outcome State Fault Refusal :=
  s.atOob fun s =>
    if pkt.length != 64 then s.oobDrop
    else
      match s.fld.heldOob.find? fun h => h.pkt == pkt with
      | some h => (match h.reply with
        | some b => s.emit (.oob 2 (oobDatagram 2 xid 0 b))
        | none => s)
      | none =>
        if 256 ≤ s.fld.oobQ.length then s.bump Reg.fldOobStat 31 20 1
        else
          let s := s.onFld fun f => { f with oobQ := f.oobQ ++ [(pkt, xid)] }
          match s.sq 1023 with
          | none => s
          | some q => s.setSq 1023 { q with tail := (q.tail + 1) % 2 ^ q.log2 }

/-- A range of the exchange window that a datagram may name. -/
def inWindow (woff len : Nat) : Bool := decide (woff + len ≤ 2 ^ 20) && decide (len ≤ 1024)

/-- WIN_WRITE (R487): answered with a WIN_DATA datagram without data. -/
def execWinWrite (xid woff : Nat) (data : Bytes) (s : State) : Host.Outcome State Fault Refusal :=
  s.atOob fun s =>
    if !inWindow woff data.length then s.oobDrop
    else (s.onFld fun f => { f with window := Mem.write f.window woff data }).emit (.oob 5 (oobDatagram 5 xid woff []))

/-- WIN_READ (R487). -/
def execWinRead (xid woff len : Nat) (s : State) : Host.Outcome State Fault Refusal :=
  s.atOob fun s =>
    if !inWindow woff len then s.oobDrop else s.emit (.oob 5 (oobDatagram 5 xid woff (Mem.read s.fld.window woff len)))

/-- The port's MAC address. -/
def State.oobMac (s : State) : Bytes := beBytes 6 (s.fuses.mac + 16)

/-- The port's link-local address, formed from its MAC address. -/
def State.oobLocal (s : State) : Bytes :=
  let m := s.oobMac
  [0xFE, 0x80] ++ zeros 6 ++ [(m.headD 0) ^^^ 2] ++ slice m 1 2 ++ [0xFF, 0xFE] ++ slice m 3 3

/-- An IPv6 address of the port. -/
def State.oobIs6 (s : State) (a : Bytes) : Bool :=
  let g := [Par.oobIp60, Par.oobIp61, Par.oobIp62, Par.oobIp63].flatMap fun k => beBytes 4 (s.par k)
  a == s.oobLocal || (!allZero g && a == g)

/-- Answer a frame within 100 frames per second. -/
def State.oobAnswer (s : State) (kind : String) (data : Bytes) : State :=
  let sec := s.clk / msTicks 1000
  let done := if s.fld.oobSecond = sec then s.fld.oobAnswered else 0
  if 100 ≤ done then s.oobDrop
  else (s.onFld fun f => { f with oobAnswered := done + 1, oobSecond := sec }).emit (.frame 2 kind data)

/-- OOB_FRAME_ANSWER (R485): `kind` is 0 for neighbour discovery, 1 for an echo request, 2 for ARP; every other frame is
dropped and counted. -/
def execOobFrameAnswer (kind : Nat) (frame : Bytes) (s : State) : Host.Outcome State Fault Refusal :=
  s.atOob fun s =>
    let v4 := beBytes 4 (s.par Par.oobIp4)
    if 1500 < frame.length then s.oobDrop
    else
      match kind with
      | 0 =>
        (match icmp6 frame with
        | some (135, b) =>
          let target := slice b 4 16
          if leAt frame 7 1 = 255 && s.oobIs6 target then
            s.oobAnswer "neighbour advertisement" (slice frame 8 16 ++ target ++ s.oobMac)
          else s
        | _ => s.oobDrop)
      | 1 =>
        (match icmp6 frame with
        | some (128, b) => if s.oobIs6 (slice frame 24 16) then s.oobAnswer "echo reply" (slice frame 8 16 ++ b) else s
        | _ => s.oobDrop)
      | 2 =>
        if s.par Par.oobIp4 = 0 || frame.length < 28 || frame.take 6 != [0, 1, 8, 0, 6, 4] then s.oobDrop
        else if slice frame 6 2 == [0, 1] && slice frame 24 4 == v4 then
          s.oobAnswer "arp reply" ([0, 1, 8, 0, 6, 4, 0, 2] ++ s.oobMac ++ v4 ++ slice frame 8 10)
        else s
      | _ => s.oobDrop

/-! ## SMBus (R488) -/

/-- The slave acknowledges its address, which it does not do during a cold reset. -/
def State.smbAcks (s : State) : Bool := s.ready || s.crp.warmEnd.isSome || s.crp.boot == .ready || s.crp.boot == .bootFail

/-- Answer a read of a command code: the bytes and the PEC over the whole transfer. -/
def State.smbRead (s : State) (code : Nat) (data : Bytes) : Host.Outcome State Fault Refusal :=
  let a := 2 * (0x4C + b2n s.part.headB)
  .next (if s.smbAcks then s.emit (.smbus (data ++ [byteOf (crc8 ([byteOf a, byteOf code, byteOf (a + 1)] ++ data))])) else s)

/-- SMBUS_READ_STATUS. -/
def execSmbusReadStatus (s : State) : Host.Outcome State Fault Refusal :=
  s.smbRead 0 [byteOf (b2n s.ready + 2 * b2n s.dhd.armed + 4 * s.rf Reg.crpStatus 1 0 + 16 * b2n (s.rbit Reg.crpTherm 0)
    + 32 * b2n (s.rbit Reg.crpStatus 3))]

/-- SMBUS_READ_TEMP. -/
def execSmbusReadTemp (s : State) : Host.Outcome State Fault Refusal :=
  s.smbRead 1 (leBytes 2 (tempField ((s.hottest.map (·.2)).getD 0)))

/-- SMBUS_READ_FE_TEMP. -/
def execSmbusReadFeTemp (t : Fin 2) (s : State) : Host.Outcome State Fault Refusal :=
  s.smbRead (2 + t.val) (leBytes 2 (if s.part.t2 then tempField (KMap.getD s.thm.temps (12 + t.val) 0) else 0x8000))

/-- SMBUS_READ_IMON. -/
def execSmbusReadImon (s : State) : Host.Outcome State Fault Refusal := s.smbRead 4 (leBytes 2 (s.rf Reg.crpImon 15 0))

/-- SMBUS_READ_HEAD. -/
def execSmbusReadHead (s : State) : Host.Outcome State Fault Refusal :=
  s.smbRead 5 [byteOf s.dhd.hst.code, byteOf s.heldMask]

/-- SMBUS_READ_RST_CAUSE. -/
def execSmbusReadRstCause (s : State) : Host.Outcome State Fault Refusal := s.smbRead 6 (leBytes 2 (s.rf Reg.crpRstCause 15 0))

/-- SMBUS_READ_UNIT_ID: a block read begins with its length. -/
def execSmbusReadUnitId (s : State) : Host.Outcome State Fault Refusal := s.smbRead 0x10 (16 :: padTo s.fuses.unitId 16)

/-- SMBUS_READ_VERSION. -/
def execSmbusReadVersion (s : State) : Host.Outcome State Fault Refusal :=
  s.smbRead 0x11 (8 :: padTo (imgVersion (s.slotHead s.upd.active)) 8)

/-- SMBUS_COLD_RESET (R455, R488). -/
def execSmbusColdReset (key : Byte) (pecOk : Bool) (s : State) : Host.Outcome State Fault Refusal :=
  .next (if s.smbAcks && key == 0xC5 && pecOk then s.coldCommand 7 else s)

/-- SMBUS_WARM_RESET (R455, R488). -/
def execSmbusWarmReset (key : Byte) (pecOk : Bool) (s : State) : Host.Outcome State Fault Refusal :=
  .next (if s.smbAcks && key == 0xC5 && pecOk then s.warmReset 7 else s)

/-! ## Diagnostics (R489, R490) -/

/-- The instances of a unit of the self-test that expert control can hold, as block code and number. -/
def State.testInsts (s : State) (unit : Nat) : List (Nat × Nat) :=
  let of := fun (c : Nat) => (List.range (s.instCount c)).map fun i => (c, i)
  match unit with
  | 0 => of 1
  | 1 => of 2 ++ of 3
  | 2 => of 4
  | 4 => of 6
  | 6 => of 7
  | _ => []

/-- DIAG_SELFTEST (R489): `failed` are the units, by their bit in the mask, and instances that give a wrong answer. How
RESULT encodes the instances skipped is not stated. -/
def execDiagSelftest (eid : Nat) (failed : List (Nat × Nat)) (s : State) : Host.Outcome State Fault Refusal :=
  .next <| s.cmd eid 0x7F03 fun s e =>
    let mask := if e.p 0 1 = 0 then 0x7F else e.p 0 1 % 128
    let units := (List.range 7).filter fun u => bitAt mask u
    let skipped := (units.flatMap s.testInsts).filter fun x => (s.inst (instKey x.1 x.2)).ctl != .basic
    let bad := failed.filter fun f => bitAt mask f.1 && decide (f.1 < 7)
    let res := leBytes 8 (bitsWhere 7 fun u => bad.any fun f => f.1 == u)
      ++ (if skipped.isEmpty then zeros 8 else leBytes 8 (s.unstated 74 (skipped.map fun x => instKey x.1 x.2)))
    match bad with
    | [] => (if mask = 0x7F then s.onDhd fun d => { d with selftestOk := true } else s).okReply e res
    | f :: _ => (s.sklFold 0x01 f.2 0 f.1).final e St.internal 0x1E01 res

/-- DIAG_LOOPBACK (R490): `bits` and `errs` are what the loopback checked and found. -/
def execDiagLoopback (eid : Nat) (bits errs : Nat) (s : State) : Host.Outcome State Fault Refusal :=
  .next <| s.cmd eid 0x7F04 fun s e =>
    let port := e.p 1 1
    let sub := e.p 2 1
    let ms := e.p 4 4
    let wrong := ms < 1 || 10000 < ms || (match e.p 0 1 with
      | 0 => decide (1 < port) || decide (s.subCount port ≤ sub)
      | 1 => decide (15 < port)
      | _ => true)
    let busy := if e.p 0 1 = 0 then s.subUp port sub
      else s.fpt.ns.any fun n => n.2.present && n.2.port == port && s.data.nodes.any fun x => match x.2 with
        | .leaf l => l.nsid == n.1
        | _ => false
    if wrong then s.failSilent e 75
    else if busy then s.fail e St.busy 0x1E01
    else s.okReply e (leBytes 8 bits ++ leBytes 8 errs)

end Sys2Proof.Machine
end

