-- ==== Sys2Proof/Machine/Replic.lean ====
section
/-! DEFINITION. Replication (R360, R361): links, and the messages between source and target. -/

namespace Sys2Proof.Machine

open Sys2Proof

/-! ## Links (R360) -/

/-- REPL_LINK_CREATE (R360). -/
def execReplLinkCreate (eid : Nat) (s : State) : Host.Outcome State Fault Refusal :=
  .next <| s.cmd eid 0x3006 fun s e =>
    let c := e.p 0 4
    let polOk := (KMap.get? s.data.policies e.h).any fun p => p.tenant != 0xFFFF
    let connOk := (s.conn c).any fun x => x.kind == 1
    if !polOk || !connOk then s.fail e St.invalidParam 0x1901
    else
      match lowestFree (s.drv.links.map (·.1)) 0 256 with
      | none => s.fail e St.noSpace 0x1902
      | some k =>
        (s.onDrv fun d => { d with links := KMap.put d.links k ⟨e.h, c, bitAt (e.p 4 1) 0, e.p 8 8, [], false⟩ }).okReply e (leBytes 2 k)

/-! ## The source -/

/-- Remove an object or delete from a link's backlog. -/
def State.shipGone (s : State) (link : Nat) (x : Ship) : State :=
  s.onDrv fun d => { d with links := KMap.upd d.links link fun l => { l with backlog := l.backlog.filter (· != x) } }

/-- The committed object a backlog entry stands for, while it is there. -/
def State.shipObject (s : State) (x : Ship) : Option ObjRec :=
  s.data.objects.find? fun o => o.dom == x.dom && o.tenant == x.tenant && o.objId == x.objId && o.jseq == x.jseq && o.dead.isNone

/-- Ship the first entry of a link's backlog that satisfies a test: a DELETE is sent and done with; an object is
offered, one at a time on a connection; one that is gone leaves the backlog. -/
def State.shipNext (s : State) (link : Nat) (p : Ship → Bool) : State :=
  match KMap.get? s.drv.links link with
  | none => s
  | some l =>
    let usable := (s.conn l.conn).any fun x => (s.connRefuses x).isNone
    if !usable || s.drv.offers.any (fun o => s.linkConn o.1 == l.conn) then s
    else
      match l.backlog.find? p with
      | none => s
      | some x =>
        if !s.owns x.dom then s
        else if x.delete then (s.replMsg l.conn 0x24 (padTo x.objId 16 ++ leBytes 2 x.tenant)).shipGone link x
        else
          match s.shipObject x with
          | none => s.shipGone link x
          | some o =>
            let y := { x with sent := true, retryAt := none }
            let s := s.onDrv fun d =>
              { d with links := KMap.upd d.links link fun l => { l with backlog := l.backlog.map fun z => if z == x then y else z }
                       offers := d.offers ++ [(link, y)] }
            s.replMsg l.conn 0x20 (recipeBytes o.objId o.tenant o.mode o.length o.jseq o.tick o.entries)

/-- REPL_SHIP (R361): the backlog goes in commit order. -/
def execReplShip (link : Nat) (s : State) : Host.Outcome State Fault Refusal :=
  .next (s.shipNext link fun x => !x.sent && x.retryAt.isNone)

/-- REPL_RETRY (R361): a failed object's boundary has come. -/
def execReplRetry (link : Nat) (s : State) : Host.Outcome State Fault Refusal :=
  .next (s.shipNext link fun x => !x.sent && x.retryAt.any fun t => decide (t ≤ s.clk))

/-- The EXTENT tape records of wanted stored records (R253, R361): their RSEQ is the recipe place. -/
def wireRecs : List (Nat × RecEntry) → List Fetch → Option Bytes
  | [], _ => some []
  | (i, e) :: es, fs =>
    match fs with
    | .ok b :: fs =>
      let b := padTo b (512 * e.rlen)
      (wireRecs es fs).map fun r => padTo (tapeHeader 1 e.extent i b ++ b) (roundUp (32 + b.length) 16) ++ r
    | _ => none

/-- Take the offer that stands on a connection. -/
def State.takeOffer (s : State) (c : Nat) : Option (State × Nat × Ship) :=
  (s.drv.offers.find? fun o => s.linkConn o.1 == c).map fun o =>
    (s.onDrv fun d => { d with offers := d.offers.filter (· != o) }, o.1, o.2)

/-- WANT (R361): the source answers with the stored records asked for, as read (`recs`, in recipe order). An object that
has gone meanwhile, or a record that cannot be read, fails. -/
def execWant (cid : Nat) (recs : List Fetch) (s : State) : Host.Outcome State Fault Refusal :=
  .next <| s.takeMsg cid 0x21 fun s b =>
    match s.drv.offers.find? fun o => s.linkConn o.1 == cid with
    | none => s
    | some o =>
      let es := ((s.shipObject o.2).map (·.entries)).getD []
      let want := (es.zipIdx.filter fun x => bitAt (leAt b (x.2 / 8) 1) (x.2 % 8)).map fun x => (x.2, x.1)
      match (s.shipObject o.2).bind fun _ => wireRecs want recs with
      | some m => s.replMsg cid 0x22 m
      | none => (s.onDrv fun d => { d with offers := d.offers.filter (· != o) }).shipFailed o.1 o.2

/-- DONE (R361): OK ends the object; anything else fails it. -/
def execDone (cid : Nat) (s : State) : Host.Outcome State Fault Refusal :=
  .next <| s.takeMsg cid 0x23 fun s b =>
    match s.takeOffer cid with
    | none => s
    | some (s, link, x) => if leAt b 0 2 = St.ok then s.shipGone link x else s.shipFailed link x

/-! ## The target -/

/-- The policy a received object falls under: the lowest handle that serves its tenant alone. -/
def State.replPolicy (s : State) (tenant : Nat) : Option (Nat × Policy) := s.data.policies.find? fun p => p.2.tenant == tenant

/-- Answer an OFFER that goes no further. -/
def State.refuseOffer (s : State) (cid st dt : Nat) : State := s.replMsg cid 0x23 (leBytes 2 st ++ leBytes 2 dt)

/-- Place of an offered entry: with an entry in the index it takes a pending reference (R105), without one it is wanted. -/
def State.offerEntry (s : State) (d i : Nat) (e : RecEntry) : RecEntry × Option PendRef :=
  match s.lookupChunk d e.fp with
  | none => ({ e with extent := 0, offset := 0, rlen := 0, hit := false, unindexed := false }, none)
  | some x =>
    if x.st == .prov then ({ e with extent := 0, offset := 0, rlen := 0, hit := true, unindexed := false }, some ⟨i, e.fp, x.owner⟩)
    else ({ e with extent := x.extent, offset := x.offset, rlen := x.rlen, hit := true, unindexed := false }, some ⟨i, e.fp, 0⟩)

/-- OFFER (R361): the object is taken as a PUT with REPLACE that waits for its records. -/
def execOffer (cid : Nat) (s : State) : Host.Outcome State Fault Refusal :=
  .next <| s.takeMsg cid 0x20 fun s b =>
    let old := (s.data.puts.filter fun p => p.source == 4 && p.conn == cid && !p.placed).map (·.eid)
    let s := old.foldl (fun s e => s.endPut e St.aborted 0x1901) s
    let o := readRecipe 0 0 b
    if leAt b 62 2 != crc16 (b.take 62) || b.length < 64 + 64 * leAt b 28 4 then s.refuseOffer cid St.checkMismatch 0x1901
    else
      match s.replPolicy o.tenant with
      | none => s.refuseOffer cid St.invalidParam 0x1901
      | some (h, pol) =>
        match s.group? pol.root with
        | none => s.refuseOffer cid St.invalidParam 0x1901
        | some g =>
          if !s.owns g.dom then s.refuseOffer cid St.busy 0x1101
          else
            let rs := o.entries.zipIdx.map fun x => s.offerEntry g.dom x.2 x.1
            let eid := s.ez.nextEid
            let p : PutRec :=
              { eid := eid, dom := g.dom, root := pol.root, tenant := o.tenant, gen := s.genOf o.tenant, policy := h, objId := o.objId
                mode := o.mode, flags := pol.flags, replace := true, length := o.length, source := 4, conn := cid, token := 0
                segs := [], landing := [], lastByte := s.clk, placed := false, recipe := rs.map (·.1), own := []
                pend := rs.filterMap (·.2), hits := (rs.filterMap (·.2)).length, stored := 0, stripes := [], parts := [], jseq := 0
                rcpExt := 0 }
            let s := s.onEz fun z => { z with nextEid := z.nextEid + 1 }
            let s := s.onData fun d => { d with puts := d.puts ++ [p] }
            let bit := fun (i : Nat) => (rs[i]?).any fun r => r.2.isNone
            s.replMsg cid 0x21 ((List.range (ceilDiv rs.length 8)).map fun k => byteOf (bitsWhere 8 fun j => bit (8 * k + j)))

/-- Place a received record as a new chunk, byte for byte. -/
def State.placeWire (s : State) (p : PutRec) (i : Nat) (e : RecEntry) (rec_ : Bytes) (un : Bool) :
    State × PutRec × Option (Nat × Nat) :=
  match s.place p.root false rec_ with
  | none => (s, p, some (St.noSpace, 0x1503))
  | some (s, sp) =>
    let base := ((s.extent (extId p.root sp.ext)).map (·.start)).getD 0
    let e := { e with extent := extId p.root sp.ext, offset := (sp.at_ - 4096 * base) / 16, rlen := ceilDiv rec_.length 512,
                      unindexed := un, hit := false }
    (s.holdExt p.root sp.ext,
      { p with recipe := p.recipe.set i e, stored := p.stored + rec_.length, stripes := p.stripes ++ sp.stripes,
               parts := p.parts ++ sp.parts }, none)

/-- One wanted chunk with its record: checked (BODY_CRC, R118), then looked up again and stored where it misses (R105). -/
def State.takeWire (s : State) (p : PutRec) (i : Nat) (e : RecEntry) (r : FoundRec) : State × PutRec × Option (Nat × Nat) :=
  let bad := !r.ok || leAt r.head 1 1 != 1 || leAt r.head 16 4 != i
  match (if bad then .error (St.checkMismatch, 0x1901) else s.openRecord p.eid p.tenant e.fp r.body) with
  | .error _ => (s, p, some (St.checkMismatch, 0x1901))
  | .ok _ =>
    let hit := fun (x : IdxEntry) (owner : Nat) =>
      let e' := { e with extent := x.extent, offset := x.offset, rlen := x.rlen, hit := true }
      { p with hits := p.hits + 1, pend := p.pend ++ [⟨i, e.fp, owner⟩], recipe := p.recipe.set i e' }
    if !bitAt p.flags 0 then s.placeWire p i e r.body true
    else
      match s.lookupChunk p.dom e.fp with
      | none =>
        (match s.insertIdx p.dom ⟨e.fp, false, .prov, 0, 0, 0, 0, p.eid, 0⟩ with
        | none => s.placeWire p i e r.body true
        | some s => s.placeWire { p with own := p.own ++ [e.fp] } i e r.body false)
      | some x =>
        if x.st != .prov then (s, hit x 0, none)
        else if x.owner != p.eid then (s, hit x x.owner, none)
        else
          let o := (p.ownEntry e.fp).getD e
          (s, { p with hits := p.hits + 1
                       recipe := p.recipe.set i { e with extent := o.extent, offset := o.offset, rlen := o.rlen, hit := true } }, none)

/-- The wanted chunks in recipe order, each with its record; the first failure stops. -/
def State.takeWires (s : State) (p : PutRec) : List (Nat × RecEntry) → List FoundRec → State × PutRec × Option (Nat × Nat)
  | [], _ => (s, p, none)
  | (i, e) :: es, rs =>
    match s.takeWire p i e (rs.headD ⟨[], [], true⟩) with
    | (s, p, some x) => (s, p, some x)
    | (s, p, none) => State.takeWires s p es (rs.drop 1)

/-- RECORDS (R361): the records are checked and placed, and the object goes on as a PUT. -/
def execRecords (cid : Nat) (s : State) : Host.Outcome State Fault Refusal :=
  .next <| s.takeMsg cid 0x22 fun s b =>
    match s.data.puts.find? fun p => p.source == 4 && p.conn == cid && !p.placed with
    | none => s
    | some p =>
      let want := (p.recipe.zipIdx.filter fun x => !x.1.hit).map fun x => (x.2, x.1)
      let (s, q, err) := s.takeWires { p with placed := true } want (takeRecs b (want.length + 1) 0).1
      let s := s.setPut q
      match err with
      | some (st, dt) => s.endPut p.eid st dt
      | none => s.advancePut p.eid

/-- REPL_DELETE (R361): a received DELETE is applied as DELETE_REF. -/
def execReplDelete (cid : Nat) (s : State) : Host.Outcome State Fault Refusal :=
  .next <| s.takeMsg cid 0x24 fun s b =>
    match s.objectIn s.ownedDoms (leAt b 16 2) (b.take 16) with
    | none => s
    | some o => (s.startDelete 0 o).shipDelete o

end Sys2Proof.Machine
end

