-- ==== Sys2Proof/Machine/Registers.lean ====
section
/-! DEFINITION. BAR0 of the physical function: what a read of each register returns, and what a write does where no command
of its own stands for it (R9 to R14, R44, R316, R362, R425, R426, R460, R551 to R553). Registers that the bank does not hold
are read from the state they show. -/

namespace Sys2Proof.Machine

open Sys2Proof

/-! ## Which registers answer -/

/-- The place of an offset in a family of `n` registers at `base`, `stride` bytes apart. -/
def famIdx (off base stride n : Nat) : Option Nat :=
  if base ≤ off && (off - base) % stride == 0 && decide ((off - base) / stride < n) then some ((off - base) / stride) else none

/-- The place of an offset in a block of `n` sets of registers of `stride` bytes at `base`, and the offset within the set. -/
def setIdx (off base stride n : Nat) : Option (Nat × Nat) :=
  if base ≤ off && decide ((off - base) / stride < n) then some ((off - base) / stride, (off - base) % stride) else none

/-- A word with some of its fields given. -/
def withFields (w : Nat) (fs : List (Nat × Nat × Nat)) : Nat := fs.foldl (fun a x => withField a x.1 x.2.1 x.2.2) w

/-- The lower halves of the 64-bit quantities of the maps (R11): base, stride, members. -/
def loFams : List (Nat × Nat × Nat) :=
  [(Reg.fldAdmSqBaseLo, 8, 2), (Reg.fldTickLo, 8, 1), (Reg.swdCntChunksLo, 8, 2), (Reg.swdLnXqBaseLo 0, 64, 16),
    (Reg.swdLnXcqBaseLo 0, 64, 16), (Reg.grsCntInLo, 8, 2), (Reg.grsXqBaseLo 0, 64, 32), (Reg.grsXcqBaseLo 0, 64, 32),
    (Reg.brkXqBaseLo 0, 64, 8), (Reg.brkXcqBaseLo 0, 64, 8), (Reg.thsCnSrcLo 0, 256, 32), (Reg.thsCnCountLo 0, 256, 32),
    (Reg.tskCntFullLo, 8, 2), (Reg.tskXqBaseLo 0, 64, 8), (Reg.tskXcqBaseLo 0, 64, 8), (Reg.fptNsLbasLo, 8, 1),
    (Reg.wdrCntFramesLo 0, 262144, 2), (Reg.wdrXqBaseLo 0, 262144, 2), (Reg.wdrXcqBaseLo 0, 262144, 2),
    (Reg.glnCntFramesLo 0, 262144, 2), (Reg.drvXqBaseLo 0, 64, 64), (Reg.drvXcqBaseLo 0, 64, 64), (Reg.memUeAddrLo, 8, 1),
    (Reg.hthCntHitLo, 8, 2), (Reg.hrwCntMsgLo, 8, 1), (Reg.updVerLo, 8, 1), (Reg.glbMacLo, 8, 1)]

/-- An offset is that of a lower half. -/
def isLo (off : Nat) : Bool := loFams.any fun f => (famIdx off f.1 f.2.1 f.2.2).isSome

/-- An offset is that of an upper half. -/
def isHi (off : Nat) : Bool := decide (4 ≤ off) && isLo (off - 4)

/-- Ranges that answer while a warm reset runs (R460). -/
def inWarm (off : Nat) : Bool := decide (off < 0x10000) || (decide (0x310000 ≤ off) && decide (off < 0x320000))

/-- A register that reads zero and ignores writes for now: of the tape blocks of a -T0 (R3), of a flash port the split does
not use, of an internal target (R426), of the moderation of a vector the physical function does not have, of a range that a
warm reset takes away (R460), and every offset no map defines (R10). -/
def State.absent (s : State) (off : Nat) : Bool :=
  (s.crp.warmEnd.isSome && !inWarm off) || (regAt off).isNone
    || (!s.part.t2 && decide (0x200000 ≤ off) && decide (off < 0x300000))
    || ((setIdx off (Reg.fptLink 0) 32 16).any fun x => decide (s.portCount ≤ x.1))
    || ((setIdx off (Reg.hrwTnClaim 0) 32 16).any fun x => !tgtReached x.1 false)
    || ((famIdx off (Reg.hrwModV 0) 4 2048).any fun v => decide (s.tableSize 0 ≤ v))

/-- The digest context whose registers hold an offset. -/
def ctxAt (off : Nat) : Option Nat := (setIdx off (Reg.thsCnCtrl 0) 256 32).map (·.1)

/-- A register of a digest context that BAR0 does not reach (R169). -/
def State.ctxHidden (s : State) (off : Nat) : Bool := (ctxAt off).any fun n => !s.ctxHost n

/-! ## What the registers show, block by block. `w` is the word the bank holds. -/

/-- Instances of a block that are not in Basic, as a mask. -/
def State.notBasic (s : State) (code n : Nat) : Nat := bitsWhere n fun i => (s.inst (instKey code i)).ctl != .basic

/-- Instances of a block with work, as a mask. -/
def State.busyMask (s : State) (code n : Nat) : Nat := bitsWhere n fun i => s.basicWork (instKey code i)

/-- GLB (R552). -/
def State.viewGlb (s : State) (off w : Nat) : Nat :=
  if off = Reg.glbCaps then withField w 1 0 (if s.part.t2 then 3 else 0)
  else if off = Reg.glbStrap then withField w 0 0 (b2n s.part.headB)
  else if off = Reg.glbMacLo then s.fuses.mac % 2 ^ 32
  else if off = Reg.glbMacHi then s.fuses.mac / 2 ^ 32
  else
    match famIdx off (Reg.glbUnitIdK 0) 4 4 with
    | some k => leAt s.fuses.unitId (4 * k) 4
    | none => w

/-- FLD (02, 19). -/
def State.viewFld (s : State) (off w : Nat) : Nat :=
  if off = Reg.fldStatus then withField w 2 2 (b2n (!s.ringOn 0 && !s.outstanding 0))
  else if off = Reg.fldAuthFail then
    withFields w ((List.range 4).map fun i => (8 * i + 7, 8 * i, min 0xFF (s.ez.authFail.getD i 0)))
  else if off = Reg.fldCores then withField w 15 8 (bitsWhere 8 fun c => (s.tgt c).asleep)
  else w

/-- An expert queue (R561, R362): register `o` of its set. -/
def State.viewXq (s : State) (k o w : Nat) : Nat :=
  let x := s.xq k
  if o = 0x08 then b2n x.en + 16 * x.sqLog2 + 4096 * x.cqLog2
  else if o = 0x1C then
    withFields 0 [(15, 0, x.sqHead), (17, 16, if k / 256 = 8 then b2n x.bound.isSome + 2 * b2n x.waiting else (s.inst k).ctl.code),
      (30, 30, if k / 256 = 1 then 0 else b2n x.halt), (31, 31, b2n x.stall)]
  else if o = 0x20 then x.count
  else w

/-- SWD (03). -/
def State.viewSwd (s : State) (off w : Nat) : Nat :=
  if off = Reg.swdStatus then s.notBasic 1 16 + 2 ^ 16 * s.busyMask 1 16
  else if off = Reg.swdIdxInfo then withFields w [(4, 0, s.idxB), (15, 8, bitsWhere 8 fun d => s.owns d && !(s.dom d).idxLoad)]
  else w

/-- GRS (04). -/
def State.viewGrs (s : State) (off w : Nat) : Nat :=
  if off = Reg.grsStatus then s.notBasic 2 16 + 2 ^ 16 * s.notBasic 3 16 else w

/-- BRK (05). -/
def State.viewBrk (s : State) (off w : Nat) : Nat :=
  if off = Reg.brkStatus then
    s.notBasic 4 8 + 2 ^ 8 * s.busyMask 4 8 + 2 ^ 16 * b2n s.clearKeys + 2 ^ 17 * b2n s.data.hwk.isSome
  else if off = Reg.brkSlots then s.slotTotal + 2 ^ 17 * s.slotExpert
  else if off = Reg.brkSlotsFree then s.slotTotal - s.data.slots.length
  else w

/-- THS (06): a context's digest registers hold its chaining value once a feed has completed (R177). -/
def State.viewThs (s : State) (off w : Nat) : Nat :=
  if off = Reg.thsStatus then s.notBasic 5 32
  else if off = Reg.thsFree then bitsWhere 32 fun n => s.ctxHost n && (s.ctx n).st == .free
  else
    match setIdx off (Reg.thsCnCtrl 0) 256 32 with
    | none => w
    | some (n, o) =>
      let c := s.ctx n
      if o = 0x04 then c.st.code + 8 * b2n c.eq + 16 * b2n c.ne + 256 * c.cause
      else if o = 0x18 then c.count % 2 ^ 32
      else if o = 0x1C then c.count / 2 ^ 32 % 2 ^ 32
      else if 0x40 ≤ o && o < 0x80 then leAt c.digest (o - 0x40) 4
      else w

/-- A move into or out of a domain runs. -/
def State.domMoving (s : State) (d : Nat) : Bool := s.data.moves.any fun m => m.src == d || m.dst == d

/-- The groups of the trees of a domain. -/
def State.domGroups (s : State) (d : Nat) : List Group := ((s.domRoots d).flatMap s.treeGroups).filterMap s.group?

/-- A rebuild of a domain is held. -/
def State.rebuildHeld (s : State) (d : Nat) : Bool :=
  (s.domRoots d).any fun r => (s.treeLeaves r).any fun e => e.2.st == .rebuilding && e.2.hold

/-- A journal copy as TSK_Dn_JCOPY shows it. -/
def JCopy.word (c : JCopy) (samefd : Bool) : Nat :=
  c.leaf.getD 0 + 2 ^ 20 * b2n c.valid + 2 ^ 21 * b2n c.placing + 2 ^ 22 * b2n samefd

/-- TSK (07, 08). -/
def State.viewTsk (s : State) (off w : Nat) : Nat :=
  if off = Reg.tskStatus then s.notBasic 6 8 + 2 ^ 8 * s.ownedMask + 2 ^ 16 * s.busyMask 6 8
  else if off = Reg.tskTree then s.data.nodes.length
  else if off = Reg.tskCntLost then
    withField w 16 16 (b2n (s.data.trees.any fun t => decide (0 < s.lostCap t.1) && t.2.lostList.all Option.isSome
      && decide (s.lostCap t.1 ≤ t.2.lostList.length)))
  else if off = Reg.tskBg then
    (bitsWhere 8 fun d => s.data.passes.any fun gi => s.rootDom (s.rootOf gi) == d)
      + 2 ^ 8 * (bitsWhere 8 fun d => (s.domGroups d).any fun g => g.reshape.st == 1 || g.reshape.st == 2)
      + 2 ^ 16 * (bitsWhere 8 fun d => s.rebuildHeld d || (s.domGroups d).any fun g => g.reshape.st == 3)
  else
    match famIdx off (Reg.tskDnStat 0) 4 8 with
    | some d =>
      b2n (s.owns d) + 2 * b2n (s.domMoving d) + 4 * b2n (s.journal d).sealing + 2 ^ 8 * min 100 (s.journal d).fill
        + 2 ^ 16 * min 0xFFFF (s.openStripes d).length
    | none =>
      match famIdx off (Reg.tskDnJcopyA 0) 4 16 with
      | some i =>
        let j := s.journal (i / 2)
        (if i % 2 = 0 then j.a else j.b).word j.samefd
      | none => w

/-- FPT (09): the namespace registers show the number FPT_NS_SEL selects. -/
def State.viewFpt (s : State) (off w : Nat) : Nat :=
  let n := s.nsOf (s.rf Reg.fptNsSel 9 0)
  if off = Reg.fptCfg then s.par Par.bifurcation + 4 * s.portCount
  else if off = Reg.fptNsCount then s.fpt.ns.length + 2 ^ 16 * b2n s.fpt.full
  else if off = Reg.fptNsState then
    match n with
    | none => 0
    | some x => 1 + 2 * b2n x.usable + 4 * b2n x.qualified + 8 * b2n x.mset + 16 * x.port
  else if off = Reg.fptNsLbasLo then ((n.map (·.lbas)).getD 0) % 2 ^ 32
  else if off = Reg.fptNsLbasHi then ((n.map (·.lbas)).getD 0) / 2 ^ 32 % 2 ^ 32
  else
    match famIdx off (Reg.fptNsNguidK 0) 4 4, famIdx off (Reg.fptLink 0) 32 16 with
    | some k, _ => leAt ((n.map (·.nguid)).getD []) (4 * k) 4
    | none, some p =>
      let x := s.port p
      x.speed + 4 * x.width + 2 ^ 7 * b2n x.flit + 2 ^ 8 * b2n x.dpc + 2 ^ 9 * b2n x.present
    | none, none => w

/-- WDR of a transport (10). -/
def State.viewWdr (s : State) (t off w : Nat) : Nat :=
  let x := s.tape t
  if off = Reg.wdrStatus t then withFields w [(7, 6, (s.inst (instKey 7 t)).ctl.code), (14, 8, min 100 x.fillPct)]
  else if off = Reg.wdrFill t then x.fillBytes / 4096
  else w

/-- GLN of a transport (11, 12): the track registers show the track GLN_TRK_SEL selects. -/
def State.viewGln (s : State) (t off w : Nat) : Nat :=
  let k := s.trk t (s.rf (Reg.glnTrkSel t) 5 0)
  if off = Reg.glnTrkStat t then b2n k.lock + 4 * k.zone + 2 ^ 8 * k.cur.src + 2 ^ 16 * min 0xFFFF k.cur.mse
  else if off = Reg.glnTrkEb t then k.fill
  else w

/-- DRV (13). -/
def State.viewDrv (s : State) (off w : Nat) : Nat :=
  if off = Reg.drvStatus then
    b2n s.peerUp + 2 * b2n (s.pathUp 0) + 4 * b2n (s.pathUp 1) + 8 * ((s.conn 0).map (·.path)).getD 0
  else if off = Reg.drvConns then s.drv.conns.length + 2 ^ 17 * s.residents.length
  else if off = Reg.drvPark then s.parkFill 0 + 2 ^ 16 * s.parkFill 1
  else if off = Reg.drvHb then s.hbAge 0 + 2 ^ 16 * s.hbAge 1
  else w

/-- NET (14). -/
def State.viewNet (s : State) (off w : Nat) : Nat :=
  if off = Reg.netStatus then
    withFields w [(0, 0, b2n (s.linkUp 0)), (1, 1, b2n (s.linkUp 1)), (3, 3, b2n s.ready), (15, 8, s.subMask 0),
      (23, 16, s.subMask 1), (25, 24, s.par Par.netModeA), (27, 26, s.par Par.netModeB)]
  else if off = Reg.netHbt then withField w 15 0 s.hbtAge
  else w

/-- Ticks since the last renewal granted to this head (R383, R384); none yet counts as the age at reset. -/
def State.leaseAge (s : State) : Nat :=
  if s.dhd.grants.isEmpty then 0 else min 0xFF (s.clk - s.dhd.grants.foldl (fun m x => max m x.2) 0)

/-- DHD (15): a line reads low while this head pulls it, or while the peer does, which it does for the domains it holds. -/
def State.viewDhd (s : State) (off w : Nat) : Nat :=
  if off = Reg.dhdStatus then
    b2n s.part.headB + 2 * s.par Par.dhdMode + 4 * b2n s.dhd.armed + 2 ^ 4 * s.dhd.hst.code + 2 ^ 8 * s.dhd.peer.code
      + 2 ^ 16 * s.heldMask + 2 ^ 24 * s.homeSet
  else if off = Reg.dhdHlk then
    let mine := bitsWhere 8 fun d => (s.dom d).pulled
    let peers := if s.par Par.dhdMode = 0 then s.unstated 76 [s.clk] else 0
    mine + 2 ^ 8 * (bitsWhere 8 fun d => bitAt mine d || bitAt peers d)
  else if off = Reg.dhdLease then
    (bitsWhere 8 fun d => s.lease && bitAt s.heldMask d && s.leaseCurrent d) + 2 ^ 8 * (s.dhd.granting % 256) + 2 ^ 16 * s.leaseAge
  else if off = Reg.dhdHoldoff then min 0xFFF s.holdSecs
  else
    match famIdx off (Reg.dhdDnStat 0) 4 8 with
    | none => w
    | some d =>
      let x := s.dom d
      x.st.code + 8 * b2n (bitAt s.homeSet d) + 16 * b2n (decide (s.clk < x.fenceUntil)) + 32 * b2n x.idxLoad + 64 * b2n x.taken

/-- HTH (16): what traffic does to Heather is outside the model (log entry 33). -/
def State.viewHth (s : State) (off w : Nat) : Nat :=
  if off = Reg.hthDirty then if s.hthEnabled || s.hthCleaning then s.unstated 33 [off] % (2 ^ 20 + 1) else 0
  else if Reg.hthCntHitLo ≤ off && off ≤ Reg.hthCntMissHi then s.unstated 33 [off] % 2 ^ 32
  else w

/-- A word of pending bits, and of mask bits. -/
def State.pendWord (s : State) (k : Nat) : Nat := bitsWhere 32 fun i => (s.src (32 * k + i)).pend

/-- Mask bits of 32 sources. -/
def State.maskWord (s : State) (k : Nat) : Nat := bitsWhere 32 fun i => (s.src (32 * k + i)).mask

/-- A route as HRW_SRC_ROUTE shows it. -/
def Route.word (r : Route) (pulse : Bool) : Nat :=
  withFields 0 [(10, 0, r.vector), (16, 11, r.fn), (20, 17, r.target), (21, 21, b2n r.msix), (25, 22, r.prio), (26, 26, b2n pulse)]

/-- HRW (17): the source registers show the source HRW_SRC_SEL selects. -/
def State.viewHrw (s : State) (off w : Nat) : Nat :=
  let n := s.rf Reg.hrwSrcSel 11 0
  let x := s.src n
  if off = Reg.hrwStatus then
    (bitsWhere 16 fun t => !(s.presented t).isEmpty) + 2 ^ 16 * bitsWhere 16 fun t => s.tgtAsleep t
  else if off = Reg.hrwSrcRoute then x.route.word (srcExists n && !srcIsLevel n)
  else if off = Reg.hrwSrcStat then
    b2n (srcIsLevel n && x.level) + 2 * b2n x.pend + 4 * b2n x.mask + 8 * b2n (s.presentedAt x).isSome + 16 * b2n x.inService.isSome
  else
    match famIdx off (Reg.hrwPendSetK 0) 4 512 with
    | some i => if i / 128 < 2 then s.pendWord (i % 128) else s.maskWord (i % 128)
    | none =>
      match famIdx off (Reg.hrwModV 0) 4 2048, famIdx off (Reg.hrwTnStat 0) 32 16 with
      | some v, _ => (s.vec 0 v).count + 2 ^ 16 * (s.vec 0 v).time
      | none, some t =>
        b2n (s.tgtAsleep t) + 2 * b2n (s.tgt t).wakeReq
          + 4 * min 0xFFF (s.hrw.srcs.filter fun e => e.2.inService == some t).length
      | none, none => w

/-- Nominal frequencies in kHz of the clock domains (R443), and whether a domain's clock runs (R444, R454). -/
def State.clockRuns (s : State) (dom : Nat) : Bool :=
  dom == 9 || (decide (dom < 9) && (s.part.t2 || decide (dom < 7)) && !s.crp.stopped.contains dom && !s.stopsByDesign dom)

/-- CRP (18, 22): a measured frequency is a free value (log entry 77), but for AON's. -/
def State.viewCrp (s : State) (off w : Nat) : Nat :=
  if off = Reg.crpClkStat then withField w 9 0 (bitsWhere 10 s.clockRuns)
  else if off = Reg.crpClkFreq then
    let d := fieldOf w 3 0
    withField w 31 8 (if d = 9 then 33 else if s.clockRuns d then s.unstated 77 [d] else 0)
  else if off = Reg.crpTherm then withField w 15 8 (s.par Par.alarmC)
  else w

/-- The clock domains at the two sides of a crossing (STL_ registers); AON for a side with a track's own clock. -/
def xingSides (x : Nat) : Nat × Nat :=
  match x with
  | 0x10 => (0, 1)
  | 0x11 => (0, 3)
  | 0x12 => (0, 4)
  | 0x13 => (0, 5)
  | 0x14 => (0, 6)
  | 0x15 => (0, 7)
  | 0x16 => (0, 8)
  | 0x17 => (1, 9)
  | 0x18 => (7, 0)
  | 0x19 => (8, 0)
  | 0x1A => (9, 7)
  | 0x1B => (9, 8)
  | 0x1C => (0, 9)
  | _ => (0, 2)

/-- A crossing has a side whose clock does not run. -/
def State.xingStopped (s : State) (x : Nat) : Bool := !s.clockRuns (xingSides x).1 || !s.clockRuns (xingSides x).2

/-- A track of a transport waits for its recentring preamble (R295). -/
def State.recentres (s : State) (t : Nat) : Bool := s.part.t2 && (List.range 64).any fun k => !(s.trk t k).centred

/-- STL (18): whether a crossing holds data, and how much, is a free value (log entry 32); a handshake ends at once but where a
track waits for its preamble. -/
def State.viewStl (s : State) (off w : Nat) : Nat :=
  let x := s.rf Reg.stlSel 4 0
  if off = Reg.stlStatus then 2 ^ 0x1A * b2n (s.recentres 0) + 2 ^ 0x1B * b2n (s.recentres 1)
  else if off = Reg.stlHold then bitsWhere 29 fun x => s.xingStopped x && bitAt (s.unstated 32 [1000]) x
  else if off = Reg.stlXstat then
    if 0x1C < x then 0
    else
      let fill := if x = 0x1A || x = 0x1B then (s.trk (x - 0x1A) (s.rf (Reg.glnTrkSel (x - 0x1A)) 5 0)).fill
        else s.unstated 32 [1001, x] % (xingDepth x + 1)
      fill + 2 ^ 10 + 2 ^ 11 + 2 ^ 16 * KMap.getD s.crp.discards x 0
  else w

/-- SKL (20). -/
def State.viewSkl (s : State) (off w : Nat) : Nat :=
  let k := s.skl
  if off = Reg.sklStatus then
    withFields 0 [(13, 0, k.recs.length), (14, 14, b2n k.full), (15, 15, b2n k.memFail), (18, 16, k.lw.length), (26, 19, k.lwLost)]
  else if off = Reg.sklNext then k.next
  else if off = Reg.sklOldest then k.oldest
  else if off = Reg.sklLost then k.lost + 2 ^ 16 * k.firstBlock
  else
    match (famIdx off (Reg.sklLwK 0) 4 4).bind fun i => k.lw[i]? with
    | some l => l.tick + 2 ^ 16 * l.data + 2 ^ 29 * l.kind
    | none => w

/-- UPD (21): BUSY reads 0, for an update command ends in the step it runs in. -/
def State.viewUpd (s : State) (off w : Nat) : Nat :=
  let h := s.slotHead s.upd.active
  if off = Reg.updStatus then
    withFields w [(0, 0, s.upd.active), (1, 1, b2n s.trial), (3, 3, b2n s.upd.warned),
      (4, 4, b2n (decide (2 ^ 20 ≤ s.rf Reg.updAttQ 20 0))), (15, 8, s.fuses.floor), (23, 16, imgSvn h)]
  else if off = Reg.updSlot then
    (s.slot 0).st.code + 2 ^ 4 * (s.slot 1).st.code + 2 ^ 8 * s.upd.attempts + 2 ^ 16 * s.received s.inactive
  else if off = Reg.updVerLo then leAt (imgVersion h) 0 4
  else if off = Reg.updVerHi then leAt (imgVersion h) 4 4
  else if off = Reg.updAttBlk then s.fuses.burnt.length
  else
    match famIdx off (Reg.updBitmapK 0) 4 32 with
    | some k => bitsWhere 32 fun n => (s.slot s.inactive).bits.contains (32 * k + n)
    | none => w

/-- The word a register shows. -/
def State.view (s : State) (off : Nat) : Nat :=
  let w := (s.reg off).toNat
  match (if off < 0x300000 then xqAt off else none), setIdx off (Reg.drvXcount 0) 64 64 with
  | some (k, o), _ => s.viewXq k o w
  | none, some (q, 0) => s.viewXq (instKey 8 q) 0x20 w
  | none, _ =>
    match off / 0x10000 with
    | 0x00 => s.viewGlb off w
    | 0x01 | 0x02 | 0x03 => s.viewFld off w
    | 0x04 | 0x05 | 0x06 | 0x07 => s.viewHrw off w
    | 0x08 => s.viewSwd off w
    | 0x0C => s.viewGrs off w
    | 0x0D => s.viewBrk off w
    | 0x0E | 0x0F => s.viewThs off w
    | 0x10 => s.viewTsk off w
    | 0x14 => s.viewHth off w
    | 0x18 => s.viewDrv off w
    | 0x1C => s.viewNet off w
    | 0x1D => s.viewFpt off w
    | 0x20 => s.viewWdr 0 off w
    | 0x24 => s.viewWdr 1 off w
    | 0x28 => s.viewGln 0 off w
    | 0x2C => s.viewGln 1 off w
    | 0x30 => s.viewSkl off w
    | 0x31 => if off < Reg.stlStatus then s.viewCrp off w else s.viewStl off w
    | 0x32 => s.viewDhd off w
    | 0x33 => s.viewUpd off w
    | _ => w

/-! ## Access -/

/-- An access that is not a naturally aligned 32-bit one of BAR0 completes as Unsupported Request and is latched (R9, R553). -/
def State.badAccess (s : State) (off : Nat) (write : Bool) : State :=
  let r := Reg.glbAccErr
  let s := if s.rbit r 31 then s.bump r 29 22 1
    else (s.setReg r (BitVec.ofNat 32 (2 ^ 31 + 4 * fieldOf off 21 2 + b2n write))).setLevel (eventSrc r) true
  s.emit (.unsupported off)

/-- UNSUPPORTED_ACCESS (R9, R553). -/
def execUnsupportedAccess (off : Nat) (write : Bool) (s : State) : Host.Outcome State Fault Refusal :=
  .next (s.badAccess off write)

/-- An aligned offset of BAR0 (R9). -/
def barOff (off : Nat) : Bool := off % 4 == 0 && decide (off < 2 ^ 22)

/-- The state a meaning goes to. -/
def State.after (s : State) (o : Host.Outcome State Fault Refusal) : State :=
  match o with
  | .next t => t
  | _ => s

/-- Clear the RC fields of a register that has been read (R12). -/
def State.clearRc (s : State) (off : Nat) : State :=
  match regAt off with
  | none => s
  | some r =>
    if off = Reg.stlXstat then s.onCrp fun c => { c with discards := KMap.del c.discards (s.rf Reg.stlSel 4 0) }
    else (r.fields.filter fun f => f.acc == .rc).foldl (fun s f => s.setRf off f.hi f.lo 0) s

/-- A read of an upper half takes what the read of its lower half latched, if that came last (R11). -/
def State.halfOr (s : State) (off : Nat) : Nat :=
  match if isHi off then KMap.get? s.latched (off - 4) else none with
  | some v => v.toNat
  | none => s.view off

/-- The effect of a read on what it read: RC fields clear, a lower half latches the upper one, and an upper half that was
latched has been taken. A free value is drawn anew. -/
def State.readEffect (s : State) (off : Nat) : State :=
  let t := (s.clearRc off).nextDraw
  if isLo off then { t with latched := KMap.put t.latched off (BitVec.ofNat 32 (s.view (off + 4))) }
  else if isHi off then { t with latched := KMap.del t.latched (off - 4) }
  else t

/-- A BAR0 read of the physical function (R9 to R13). A read of a claim register claims (R170, R427). -/
def State.readReg (s : State) (off : Nat) : State :=
  if !barOff off then s.badAccess off false
  else if s.absent off || s.ctxHidden off then s.emit (.readData off 0)
  else if off = Reg.thsClaim then s.after (execThsClaim s)
  else
    match (famIdx off (Reg.hrwTnClaim 0) 32 16).bind fun t => if h : t < 16 then some (⟨t, h⟩ : Fin 16) else none with
    | some t => s.after (execHrwClaim t false s)
    | none => (s.readEffect off).emit (.readData off (s.halfOr off))

/-- RC_FIELD_READ (R12, R13): the read of a register. -/
def execRcFieldRead (off : Nat) (s : State) : Host.Outcome State Fault Refusal := .next (s.readReg off)

/-- PAIR_LO_READ (R11): the read of a lower half latches the upper one. -/
def execPairLoRead (off : Nat) (s : State) : Host.Outcome State Fault Refusal := .next (s.readReg off)

/-! ## Writes -/

/-- The error register at an offset. -/
def errAt (off : Nat) : Bool := off == Reg.glbAccErr || errRegs.any fun r => r.off == off

/-- A write of 1 to VALID of an error register clears it whole, ends its level event and lets the next error be latched. -/
def State.clearErr (s : State) (off : Nat) : State :=
  let s := (s.setReg off 0).setLevel (eventSrc off) false
  if off = Reg.memErr then s.setPair Reg.memUeAddrLo 0 else s

/-- A value as a field takes it: GLN_REC clamps what is out of range. -/
def fieldIn (off lo v : Nat) : Nat :=
  if off = Reg.glnRec 0 || off = Reg.glnRec 1 then
    match lo with
    | 4 => max 1 (min 12 v)
    | 8 => max 1 (min 8 v)
    | 16 => min 8 v
    | _ => v
  else v

/-- Write the fields of a register by their access types (R12); reserved bits are ignored (R10). -/
def State.writeFields (s : State) (off v : Nat) : State :=
  match regAt off with
  | none => s
  | some r =>
    r.fields.foldl (fun s f =>
      let x := fieldOf v f.hi f.lo
      let old := s.rf off f.hi f.lo
      match f.acc with
      | .rw => s.setRf off f.hi f.lo (fieldIn off f.lo x)
      | .w1s => s.setRf off f.hi f.lo (old ||| x)
      | .w1c => s.setRf off f.hi f.lo (old &&& (2 ^ (f.hi + 1 - f.lo) - 1 - x))
      | _ => s) s

/-- The level of an event whose bits software has cleared falls: those of a port's FPT_EVT, and of a domain's FAULT. -/
def State.fallLevels (s : State) (off : Nat) : State :=
  if off = Reg.crpClkStat then
    ((List.range 10).filter fun d => !s.rbit off (16 + d)).foldl (fun s d => s.setLevel (eventSrc (off + d)) false) s
  else if (famIdx off (Reg.fptEvt 0) 32 16).isSome && s.reg off == 0 then s.setLevel (eventSrc off) false
  else s

/-- The transport whose settings an offset holds that only Expert may write (R316, R336), and the error register there. -/
def glnGuard (off : Nat) : Option (Nat × ErrReg) :=
  [0, 1].findSome? fun t =>
    if [Reg.glnTarget t, Reg.glnLoop t, Reg.glnAdapt t, Reg.glnSync t, Reg.glnRec t, Reg.glnWpc t].contains off then
      some (t, errGln t)
    else if [Reg.glnSrvLoop t, Reg.glnSrvGeom t, Reg.glnSrvWi t].contains off then some (t, errSrv t)
    else none

/-- A write that a register's owner does not allow is dropped and latches cause 0x1: of an expert queue that is not held
(R121, R362, R561), of a digest context not in Expert (R169), of a transport's settings outside Expert (R316, R336). -/
def State.writeGuard (s : State) (off : Nat) : Option State :=
  match xqAt off, ctxAt off, glnGuard off with
  | some (k, _), _, _ => if s.xqHeld k then none else some (s.xqLatch k 1)
  | none, some n, _ => if s.ctxHost n then none else some (s.latch errThs n 1)
  | none, none, some (t, e) => if (s.inst (instKey 7 t)).ctl == .expert then none else some (s.latch e 0 1)
  | none, none, none => none

/-- Stage a lower half (R11): the reserved bits of the half are ignored when it is applied. -/
def State.stage (s : State) (off : Nat) (val : W32) : State := { s with staged := KMap.put s.staged off val }

/-- Apply an upper half with the staged lower one, or with the lower half in force (R11). -/
def State.applyPair (s : State) (off : Nat) (val : W32) : State :=
  let s := match KMap.get? s.staged (off - 4) with
    | some lo => { s.writeFields (off - 4) lo.toNat with staged := KMap.del s.staged (off - 4) }
    | none => s
  s.writeFields off val.toNat

/-- A digest context's control register (R172, R173). -/
def State.ctxCtrl (s : State) (n : Fin 32) (val : W32) : State :=
  if val.getLsbD 2 then s.after (execThsStart n val s)
  else if val.getLsbD 3 then s.after (execThsGo n val s)
  else if val.getLsbD 4 then s.after (execThsCompare n val true false s)
  else if val.getLsbD 5 then s.after (execThsReset n val s)
  else if val.getLsbD 6 then s.after (execThsRelease n val s)
  else s.writeFields (Reg.thsCnCtrl n) val.toNat

/-- Writes for which a command of its own stands. -/
def State.writeOwn (s : State) (off : Nat) (val : W32) : Option State :=
  let v := val.toNat
  if off = Reg.fldAdmCtrl then
    some (s.after (if val.getLsbD 0 then execAdmCtrlEnable val s else execAdmCtrlDisable val s))
  else if 0x20000 ≤ off && off < 0x20000 + 8 * 1023 then
    some (s.after (if off % 8 = 0 then execSqTailDoorbell 0 ((off - 0x20000) / 8) val s
      else execCqHeadDoorbell 0 ((off - 0x20000) / 8) val s))
  else if off = Reg.brkKeyload then some (s.keyloadWrite val)
  else if off = Reg.hrwSrcRoute then some (s.after (execHrwSrcRoute val false s))
  else if off = Reg.crpReset then some (s.after (if val.getLsbD 1 then execCrpResetCold val s else execCrpResetWarm val s))
  else if off = Reg.crpPstate then some (s.pstateWrite val)
  else if off = Reg.sklRsel then some (s.after (execSklRsel val true s))
  else
    match xqAt off with
    | some (_, 0x08) => some (s.after (if val.getLsbD 0 then execXqEnable off val s else execXqDisable off val s))
    | some (_, 0x0C) => some (s.after (execXqTailWrite off val s))
    | some (_, 0x18) => some (s.after (execXcqHeadWrite off val s))
    | _ =>
      match famIdx off (Reg.brkKeyinK 0) 4 16, famIdx off (Reg.hrwModV 0) 4 2048 with
      | some k, _ => some (s.onData fun d => { d with keyin := d.keyin.set k val })
      | none, some n => some (s.after (execHrwMod 0 n val s))
      | none, none =>
        match setIdx off (Reg.drvXcount 0) 64 64 with
        | some (q, 0) => if h : q < 64 then some (s.after (execDrvXcount ⟨q, h⟩ val s)) else none
        | _ =>
          match famIdx off (Reg.thsCnCtrl 0) 256 32 with
          | some n => if h : n < 32 then some (s.ctxCtrl ⟨n, h⟩ val) else none
          | none =>
            match famIdx off (Reg.hrwPendSetK 0) 4 512, famIdx off (Reg.hrwTnComplete 0) 32 16 with
            | some i, _ =>
              have h : i % 128 < 128 := Nat.mod_lt _ (by decide)
              let k : Fin 128 := ⟨i % 128, h⟩
              some (s.after (match i / 128 with
                | 0 => execHrwPendSet k val false s
                | 1 => execHrwPendClr k val false s
                | 2 => execHrwMaskSet k val false s
                | _ => execHrwMaskClr k val false s))
            | none, some t => if h : t < 16 then some (s.after (execHrwComplete ⟨t, h⟩ val false s)) else none
            | none, none => if errAt off then some (if bitAt v 31 then s.clearErr off else s) else none

/-- A BAR0 write of the physical function (R9 to R13). -/
def State.writeReg (s : State) (off : Nat) (val : W32) : State :=
  if !barOff off then s.badAccess off true
  else if s.absent off then s
  else
    match s.writeGuard off with
    | some t => t
    | none =>
      match s.writeOwn off val with
      | some t => t
      | none => if isLo off then s.stage off val else if isHi off then s.applyPair off val else (s.writeFields off val.toNat).fallLevels off

/-- REGISTER_WRITE (R12). -/
def execRegisterWrite (off : Nat) (val : W32) (s : State) : Host.Outcome State Fault Refusal := .next (s.writeReg off val)

/-- PAIR_LO_WRITE (R11). -/
def execPairLoWrite (off : Nat) (val : W32) (s : State) : Host.Outcome State Fault Refusal := .next (s.writeReg off val)

/-- PAIR_HI_WRITE (R11). -/
def execPairHiWrite (off : Nat) (val : W32) (s : State) : Host.Outcome State Fault Refusal := .next (s.writeReg off val)

end Sys2Proof.Machine
end

