-- ==== Sys2Proof/Machine/Dispatch.lean ====
section
/-! DEFINITION. The dispatch of every command to its meaning: one arm per constructor of Instr. -/

namespace Sys2Proof.Machine

open Sys2Proof

/-- The effect of a command on everything but the queue. -/
def exec (i : Instr) (s : State) : Host.Outcome State Fault Refusal :=
  match i with
  | .unsupportedAccess off write => Sys2Proof.Machine.execUnsupportedAccess off write s
  | .registerWrite off val => Sys2Proof.Machine.execRegisterWrite off val s
  | .pairLoWrite off val => Sys2Proof.Machine.execPairLoWrite off val s
  | .pairHiWrite off val => Sys2Proof.Machine.execPairHiWrite off val s
  | .pairLoRead off => Sys2Proof.Machine.execPairLoRead off s
  | .rcFieldRead off => Sys2Proof.Machine.execRcFieldRead off s
  | .sqTailDoorbell fn slot val => Sys2Proof.Machine.execSqTailDoorbell fn slot val s
  | .cqHeadDoorbell fn slot val => Sys2Proof.Machine.execCqHeadDoorbell fn slot val s
  | .admCtrlEnable val => Sys2Proof.Machine.execAdmCtrlEnable val s
  | .admCtrlDisable val => Sys2Proof.Machine.execAdmCtrlDisable val s
  | .packetConsume pkt blk replyOk => Sys2Proof.Machine.execPacketConsume pkt blk replyOk s
  | .pendingReply eid => Sys2Proof.Machine.execPendingReply eid s
  | .sessionNonce eid => Sys2Proof.Machine.execSessionNonce eid s
  | .nonceExpiry fn ring => Sys2Proof.Machine.execNonceExpiry fn ring s
  | .sessionOpen eid => Sys2Proof.Machine.execSessionOpen eid s
  | .backoffExpiry eid => Sys2Proof.Machine.execBackoffExpiry eid s
  | .sessionRenew eid => Sys2Proof.Machine.execSessionRenew eid s
  | .sessionExpiry tag => Sys2Proof.Machine.execSessionExpiry tag s
  | .sessionClose eid => Sys2Proof.Machine.execSessionClose eid s
  | .sessionCloseComplete eid => Sys2Proof.Machine.execSessionCloseComplete eid s
  | .roleKeySet eid norOk => Sys2Proof.Machine.execRoleKeySet eid norOk s
  | .ringCreate eid => Sys2Proof.Machine.execRingCreate eid s
  | .ringDelete eid => Sys2Proof.Machine.execRingDelete eid s
  | .ringReset eid => Sys2Proof.Machine.execRingReset eid s
  | .ringDrainComplete ring => Sys2Proof.Machine.execRingDrainComplete ring s
  | .ringQuery eid => Sys2Proof.Machine.execRingQuery eid s
  | .engineExpertEnter eid => Sys2Proof.Machine.execEngineExpertEnter eid s
  | .handoverDrainComplete code inst => Sys2Proof.Machine.execHandoverDrainComplete code inst s
  | .handoverTimeout code inst => Sys2Proof.Machine.execHandoverTimeout code inst s
  | .engineExpertReturn eid => Sys2Proof.Machine.execEngineExpertReturn eid s
  | .returnComplete code inst descs cqOk => Sys2Proof.Machine.execReturnComplete code inst descs cqOk s
  | .engineQuery eid => Sys2Proof.Machine.execEngineQuery eid s
  | .engineDisable eid => Sys2Proof.Machine.execEngineDisable eid s
  | .disableDrainComplete code inst => Sys2Proof.Machine.execDisableDrainComplete code inst s
  | .engineEnable eid => Sys2Proof.Machine.execEngineEnable eid s
  | .xqEnable off val => Sys2Proof.Machine.execXqEnable off val s
  | .xqDisable off val => Sys2Proof.Machine.execXqDisable off val s
  | .xqTailWrite off val => Sys2Proof.Machine.execXqTailWrite off val s
  | .xcqHeadWrite off val => Sys2Proof.Machine.execXcqHeadWrite off val s
  | .paramGet eid => Sys2Proof.Machine.execParamGet eid s
  | .paramSet eid norOk => Sys2Proof.Machine.execParamSet eid norOk s
  | .paramSetBatch eid norOk => Sys2Proof.Machine.execParamSetBatch eid norOk s
  | .paramInfo eid => Sys2Proof.Machine.execParamInfo eid s
  | .put eid list src cmp => Sys2Proof.Machine.execPut eid list src cmp s
  | .putInline eid list src cmp => Sys2Proof.Machine.execPutInline eid list src cmp s
  | .putFixed eid list src cmp => Sys2Proof.Machine.execPutFixed eid list src cmp s
  | .putCommit eid cmp => Sys2Proof.Machine.execPutCommit eid cmp s
  | .putIdleTimeout eid => Sys2Proof.Machine.execPutIdleTimeout eid s
  | .get eid list recs again destOk => Sys2Proof.Machine.execGet eid list recs again destOk s
  | .getRange eid list recs again destOk => Sys2Proof.Machine.execGetRange eid list recs again destOk s
  | .deleteRef eid => Sys2Proof.Machine.execDeleteRef eid s
  | .objectStat eid => Sys2Proof.Machine.execObjectStat eid s
  | .tenantCreate eid => Sys2Proof.Machine.execTenantCreate eid s
  | .tenantDestroy eid => Sys2Proof.Machine.execTenantDestroy eid s
  | .policyCreate eid => Sys2Proof.Machine.execPolicyCreate eid s
  | .policyDestroy eid => Sys2Proof.Machine.execPolicyDestroy eid s
  | .tombstoneReclaim dom => Sys2Proof.Machine.execTombstoneReclaim dom s
  | .swdChunk lane desc src cqOk => Sys2Proof.Machine.execSwdChunk lane desc src cqOk s
  | .swdLookup lane desc src cqOk => Sys2Proof.Machine.execSwdLookup lane desc src cqOk s
  | .swdVerify lane desc src fields cqOk => Sys2Proof.Machine.execSwdVerify lane desc src fields cqOk s
  | .grsCompress inst desc src hist cqOk => Sys2Proof.Machine.execGrsCompress inst desc src hist cqOk s
  | .grsDecompress inst desc src hist cqOk => Sys2Proof.Machine.execGrsDecompress inst desc src hist cqOk s
  | .tenantKeySet eid => Sys2Proof.Machine.execTenantKeySet eid s
  | .retireComplete eid => Sys2Proof.Machine.execRetireComplete eid s
  | .keyloadKey val => Sys2Proof.Machine.execKeyloadKey val s
  | .keyloadHwk val => Sys2Proof.Machine.execKeyloadHwk val s
  | .keyloadZeroize val => Sys2Proof.Machine.execKeyloadZeroize val s
  | .keySlotFault slot => Sys2Proof.Machine.execKeySlotFault slot s
  | .brkXtsEncrypt inst desc src cqOk => Sys2Proof.Machine.execBrkXtsEncrypt inst desc src cqOk s
  | .brkXtsDecrypt inst desc src cqOk => Sys2Proof.Machine.execBrkXtsDecrypt inst desc src cqOk s
  | .brkGcmEncrypt inst desc src aad cqOk => Sys2Proof.Machine.execBrkGcmEncrypt inst desc src aad cqOk s
  | .brkGcmDecrypt inst desc src aad cqOk => Sys2Proof.Machine.execBrkGcmDecrypt inst desc src aad cqOk s
  | .brkUnwrap inst desc src cqOk => Sys2Proof.Machine.execBrkUnwrap inst desc src cqOk s
  | .thsClaim => Sys2Proof.Machine.execThsClaim s
  | .thsStart ctx val => Sys2Proof.Machine.execThsStart ctx val s
  | .thsGo ctx val => Sys2Proof.Machine.execThsGo ctx val s
  | .feedComplete ctx list data => Sys2Proof.Machine.execFeedComplete ctx list data s
  | .feedFault ctx list data => Sys2Proof.Machine.execFeedFault ctx list data s
  | .thsCompare ctx val agree mgmt => Sys2Proof.Machine.execThsCompare ctx val agree mgmt s
  | .thsReset ctx val => Sys2Proof.Machine.execThsReset ctx val s
  | .thsRelease ctx val => Sys2Proof.Machine.execThsRelease ctx val s
  | .groupCreate eid lab => Sys2Proof.Machine.execGroupCreate eid lab s
  | .groupDestroy eid => Sys2Proof.Machine.execGroupDestroy eid s
  | .groupQuery eid => Sys2Proof.Machine.execGroupQuery eid s
  | .memberAttach eid lab => Sys2Proof.Machine.execMemberAttach eid lab s
  | .domainMove eid => Sys2Proof.Machine.execDomainMove eid s
  | .domainMoveDrained eid => Sys2Proof.Machine.execDomainMoveDrained eid s
  | .domainMoveSealed eid => Sys2Proof.Machine.execDomainMoveSealed eid s
  | .domainMoveScanDone eid => Sys2Proof.Machine.execDomainMoveScanDone eid s
  | .domainMoveLabelsDone eid => Sys2Proof.Machine.execDomainMoveLabelsDone eid s
  | .fullStripeWrite root block => Sys2Proof.Machine.execFullStripeWrite root block s
  | .stripeSeal root block => Sys2Proof.Machine.execStripeSeal root block s
  | .journalFillSeal dom => Sys2Proof.Machine.execJournalFillSeal dom s
  | .smallWrite id old => Sys2Proof.Machine.execSmallWrite id old s
  | .smallWriteDone id => Sys2Proof.Machine.execSmallWriteDone id s
  | .memberReadComplete nsn lba readOk data tags recon eid nodeOk => Sys2Proof.Machine.execMemberReadComplete nsn lba readOk data tags recon eid nodeOk s
  | .tskEncode inst desc srcs cqOk => Sys2Proof.Machine.execTskEncode inst desc srcs cqOk s
  | .tskDecode inst desc srcs cqOk => Sys2Proof.Machine.execTskDecode inst desc srcs cqOk s
  | .tskWalk inst desc srcs cqOk => Sys2Proof.Machine.execTskWalk inst desc srcs cqOk s
  | .tskRead inst desc srcs cqOk => Sys2Proof.Machine.execTskRead inst desc srcs cqOk s
  | .journalRecordComplete dom jseq => Sys2Proof.Machine.execJournalRecordComplete dom jseq s
  | .journalRelease dom jseq => Sys2Proof.Machine.execJournalRelease dom jseq s
  | .journalSpaceTimeout dom jseq => Sys2Proof.Machine.execJournalSpaceTimeout dom jseq s
  | .journalCopyLost dom b => Sys2Proof.Machine.execJournalCopyLost dom b s
  | .journalCopyPlace dom => Sys2Proof.Machine.execJournalCopyPlace dom s
  | .journalCopyValid dom b => Sys2Proof.Machine.execJournalCopyValid dom b s
  | .journalCopyTimeout dom => Sys2Proof.Machine.execJournalCopyTimeout dom s
  | .samefdReplace dom => Sys2Proof.Machine.execSamefdReplace dom s
  | .autoSpareReplace leaf => Sys2Proof.Machine.execAutoSpareReplace leaf s
  | .memberReplace eid => Sys2Proof.Machine.execMemberReplace eid s
  | .memberRebuild eid => Sys2Proof.Machine.execMemberRebuild eid s
  | .rebuildStep group units up above => Sys2Proof.Machine.execRebuildStep group units up above s
  | .lostListRead eid destOk => Sys2Proof.Machine.execLostListRead eid destOk s
  | .reshapeStart eid lab => Sys2Proof.Machine.execReshapeStart eid lab s
  | .reshapeStep group old => Sys2Proof.Machine.execReshapeStep group old s
  | .reshapeZeroStep group => Sys2Proof.Machine.execReshapeZeroStep group s
  | .reshapeComplete group => Sys2Proof.Machine.execReshapeComplete group s
  | .reshapeResume group => Sys2Proof.Machine.execReshapeResume group s
  | .reshapeQuery eid => Sys2Proof.Machine.execReshapeQuery eid s
  | .nvmeCompletion cid status => Sys2Proof.Machine.execNvmeCompletion cid status s
  | .nvmeCommandTimeout cid => Sys2Proof.Machine.execNvmeCommandTimeout cid s
  | .abortTimeout cid => Sys2Proof.Machine.execAbortTimeout cid s
  | .controllerReadyTimeout port => Sys2Proof.Machine.execControllerReadyTimeout port s
  | .dpcTrigger port gone => Sys2Proof.Machine.execDpcTrigger port gone s
  | .missingMark port => Sys2Proof.Machine.execMissingMark port s
  | .dpcRelease port => Sys2Proof.Machine.execDpcRelease port s
  | .insertionSettled port nss speed width flit => Sys2Proof.Machine.execInsertionSettled port nss speed width flit s
  | .anaChange nsn state => Sys2Proof.Machine.execAnaChange nsn state s
  | .portError port cause => Sys2Proof.Machine.execPortError port cause s
  | .nsUnbind nsn => Sys2Proof.Machine.execNsUnbind nsn s
  | .tapeMigrate eid => Sys2Proof.Machine.execTapeMigrate eid s
  | .tapeRecall eid => Sys2Proof.Machine.execTapeRecall eid s
  | .tapeVerify eid => Sys2Proof.Machine.execTapeVerify eid s
  | .tapeJobStart t => Sys2Proof.Machine.execTapeJobStart t s
  | .cmRead eid destOk => Sys2Proof.Machine.execCmRead eid destOk s
  | .cmWrite eid src => Sys2Proof.Machine.execCmWrite eid src s
  | .tapeStatus eid => Sys2Proof.Machine.execTapeStatus eid s
  | .writeStart t input => Sys2Proof.Machine.execWriteStart t input s
  | .dataSetBoundary t input => Sys2Proof.Machine.execDataSetBoundary t input s
  | .frameVerdict t dsn sds cwi v => Sys2Proof.Machine.execFrameVerdict t dsn sds cwi v s
  | .writeGap t => Sys2Proof.Machine.execWriteGap t s
  | .shortBufferStop t => Sys2Proof.Machine.execShortBufferStop t s
  | .appendResume t => Sys2Proof.Machine.execAppendResume t s
  | .wrapEnd t preOk => Sys2Proof.Machine.execWrapEnd t preOk s
  | .cmEodUpdate t writeOk retryOk => Sys2Proof.Machine.execCmEodUpdate t writeOk retryOk s
  | .extentTapeCommit t rseq => Sys2Proof.Machine.execExtentTapeCommit t rseq s
  | .recallCommit t idx destOk => Sys2Proof.Machine.execRecallCommit t idx destOk s
  | .rampComplete t => Sys2Proof.Machine.execRampComplete t s
  | .wdrEncode t desc src cqOk => Sys2Proof.Machine.execWdrEncode t desc src cqOk s
  | .wdrWriteDs t desc src cqOk => Sys2Proof.Machine.execWdrWriteDs t desc src cqOk s
  | .wdrReadDs t desc src cqOk => Sys2Proof.Machine.execWdrReadDs t desc src cqOk s
  | .wdrLocate t desc src cqOk => Sys2Proof.Machine.execWdrLocate t desc src cqOk s
  | .trackPreamble t track => Sys2Proof.Machine.execTrackPreamble t track s
  | .frameReceived t track frame => Sys2Proof.Machine.execFrameReceived t track frame s
  | .elasticSlip t track => Sys2Proof.Machine.execElasticSlip t track s
  | .lockLoss t track => Sys2Proof.Machine.execLockLoss t track s
  | .speedOkChange t ok => Sys2Proof.Machine.execSpeedOkChange t ok s
  | .recoveryDecode t => Sys2Proof.Machine.execRecoveryDecode t s
  | .reread t => Sys2Proof.Machine.execReread t s
  | .zoneBoundaryCross t zone bad => Sys2Proof.Machine.execZoneBoundaryCross t zone bad s
  | .activityClassChange => Sys2Proof.Machine.execActivityClassChange s
  | .recalibrate t => Sys2Proof.Machine.execRecalibrate t s
  | .forcedRecal t => Sys2Proof.Machine.execForcedRecal t s
  | .tapeCalibrate eid => Sys2Proof.Machine.execTapeCalibrate eid s
  | .calibrationComplete t src results => Sys2Proof.Machine.execCalibrationComplete t src results s
  | .servoSample t ms speed => Sys2Proof.Machine.execServoSample t ms speed s
  | .servoLock t => Sys2Proof.Machine.execServoLock t s
  | .servoUnlock t => Sys2Proof.Machine.execServoUnlock t s
  | .positionWord t word => Sys2Proof.Machine.execPositionWord t word s
  | .reelSetpointFrame t => Sys2Proof.Machine.execReelSetpointFrame t s
  | .reelStatusFrame t loaded wpSw tensionOk fault crcOk supply takeup preOk => Sys2Proof.Machine.execReelStatusFrame t loaded wpSw tensionOk fault crcOk supply takeup preOk s
  | .reelLinkSilent t => Sys2Proof.Machine.execReelLinkSilent t s
  | .writeGateClose t slot => Sys2Proof.Machine.execWriteGateClose t slot s
  | .writeGateReopen t slot => Sys2Proof.Machine.execWriteGateReopen t slot s
  | .cartridgeMount eid cm => Sys2Proof.Machine.execCartridgeMount eid cm s
  | .mountLoadTimeout t => Sys2Proof.Machine.execMountLoadTimeout t s
  | .cartridgeUnload eid => Sys2Proof.Machine.execCartridgeUnload eid s
  | .connOpen eid => Sys2Proof.Machine.execConnOpen eid s
  | .connClose eid => Sys2Proof.Machine.execConnClose eid s
  | .connQuery eid => Sys2Proof.Machine.execConnQuery eid s
  | .spaceCreate eid => Sys2Proof.Machine.execSpaceCreate eid s
  | .spaceRevoke eid => Sys2Proof.Machine.execSpaceRevoke eid s
  | .revokeComplete eid => Sys2Proof.Machine.execRevokeComplete eid s
  | .replLinkCreate eid => Sys2Proof.Machine.execReplLinkCreate eid s
  | .grmpWrite port frame cmp => Sys2Proof.Machine.execGrmpWrite port frame cmp s
  | .grmpReadReq port frame mem => Sys2Proof.Machine.execGrmpReadReq port frame mem s
  | .grmpReadResp port frame => Sys2Proof.Machine.execGrmpReadResp port frame s
  | .grmpSend port frame => Sys2Proof.Machine.execGrmpSend port frame s
  | .grmpAck port frame => Sys2Proof.Machine.execGrmpAck port frame s
  | .grmpNak port frame => Sys2Proof.Machine.execGrmpNak port frame s
  | .grmpHeartbeat port frame => Sys2Proof.Machine.execGrmpHeartbeat port frame s
  | .grmpHello port frame => Sys2Proof.Machine.execGrmpHello port frame s
  | .grmpClose port frame => Sys2Proof.Machine.execGrmpClose port frame s
  | .helloTimer cid => Sys2Proof.Machine.execHelloTimer cid s
  | .heartbeatTransmit => Sys2Proof.Machine.execHeartbeatTransmit s
  | .ackTimer cid => Sys2Proof.Machine.execAckTimer cid s
  | .retransmitTimeout cid => Sys2Proof.Machine.execRetransmitTimeout cid s
  | .busyResend cid => Sys2Proof.Machine.execBusyResend cid s
  | .heartbeatTimeout path => Sys2Proof.Machine.execHeartbeatTimeout path s
  | .pathReturn path => Sys2Proof.Machine.execPathReturn path s
  | .stateFetchComplete cid mem cmp => Sys2Proof.Machine.execStateFetchComplete cid mem cmp s
  | .peerReleaseMsg cid => Sys2Proof.Machine.execPeerReleaseMsg cid s
  | .nsbind cid => Sys2Proof.Machine.execNsbind cid s
  | .offer cid => Sys2Proof.Machine.execOffer cid s
  | .want cid recs => Sys2Proof.Machine.execWant cid recs s
  | .records cid => Sys2Proof.Machine.execRecords cid s
  | .done cid => Sys2Proof.Machine.execDone cid s
  | .replDelete cid => Sys2Proof.Machine.execReplDelete cid s
  | .replShip link => Sys2Proof.Machine.execReplShip link s
  | .replRetry link => Sys2Proof.Machine.execReplRetry link s
  | .drvWrite q desc src => Sys2Proof.Machine.execDrvWrite q desc src s
  | .drvRead q desc src => Sys2Proof.Machine.execDrvRead q desc src s
  | .drvSend q desc src => Sys2Proof.Machine.execDrvSend q desc src s
  | .chainWaitSatisfied q src => Sys2Proof.Machine.execChainWaitSatisfied q src s
  | .chainTimeout q => Sys2Proof.Machine.execChainTimeout q s
  | .drvXcount q val => Sys2Proof.Machine.execDrvXcount q val s
  | .pathStatus eid => Sys2Proof.Machine.execPathStatus eid s
  | .subportUp port sub => Sys2Proof.Machine.execSubportUp port sub s
  | .subportDown port sub fec => Sys2Proof.Machine.execSubportDown port sub fec s
  | .subportReturn port sub => Sys2Proof.Machine.execSubportReturn port sub s
  | .neighbourDiscovery port sub frame => Sys2Proof.Machine.execNeighbourDiscovery port sub frame s
  | .echoRequest port sub frame => Sys2Proof.Machine.execEchoRequest port sub frame s
  | .arpRequest port sub frame => Sys2Proof.Machine.execArpRequest port sub frame s
  | .hbtPulse => Sys2Proof.Machine.execHbtPulse s
  | .hbtEdge widthOk => Sys2Proof.Machine.execHbtEdge widthOk s
  | .hbtTimeout => Sys2Proof.Machine.execHbtTimeout s
  | .hbtStuck => Sys2Proof.Machine.execHbtStuck s
  | .domainClaim eid => Sys2Proof.Machine.execDomainClaim eid s
  | .hlkPull dom probe => Sys2Proof.Machine.execHlkPull dom probe s
  | .hlkReadback dom low => Sys2Proof.Machine.execHlkReadback dom low s
  | .claimWaitTimeout dom => Sys2Proof.Machine.execClaimWaitTimeout dom s
  | .leaseGrantTimeout dom => Sys2Proof.Machine.execLeaseGrantTimeout dom s
  | .domainRelease eid => Sys2Proof.Machine.execDomainRelease eid s
  | .domainReleaseDrained dom => Sys2Proof.Machine.execDomainReleaseDrained dom s
  | .handover => Sys2Proof.Machine.execHandover s
  | .claimed => Sys2Proof.Machine.execClaimed s
  | .headStatus eid => Sys2Proof.Machine.execHeadStatus eid s
  | .watchdogExpiry => Sys2Proof.Machine.execWatchdogExpiry s
  | .leaseRenew => Sys2Proof.Machine.execLeaseRenew s
  | .leaseLapse dom => Sys2Proof.Machine.execLeaseLapse dom s
  | .peerFailed => Sys2Proof.Machine.execPeerFailed s
  | .fenceExpiry dom => Sys2Proof.Machine.execFenceExpiry dom s
  | .replayComplete dom load => Sys2Proof.Machine.execReplayComplete dom load s
  | .indexLoadComplete dom => Sys2Proof.Machine.execIndexLoadComplete dom s
  | .yield => Sys2Proof.Machine.execYield s
  | .join => Sys2Proof.Machine.execJoin s
  | .resync => Sys2Proof.Machine.execResync s
  | .resyncDone => Sys2Proof.Machine.execResyncDone s
  | .failbackHoldoffExpiry => Sys2Proof.Machine.execFailbackHoldoffExpiry s
  | .memFill eid => Sys2Proof.Machine.execMemFill eid s
  | .memFillComplete eid => Sys2Proof.Machine.execMemFillComplete eid s
  | .ddrTrainingComplete failed rate gib temp sklOk => Sys2Proof.Machine.execDdrTrainingComplete failed rate gib temp sklOk s
  | .channelRetrain ch ok => Sys2Proof.Machine.execChannelRetrain ch ok s
  | .mergeDrain port word old => Sys2Proof.Machine.execMergeDrain port word old s
  | .uncorrectableRead port addr poison by_ => Sys2Proof.Machine.execUncorrectableRead port addr poison by_ s
  | .hthInvalidate eid => Sys2Proof.Machine.execHthInvalidate eid s
  | .invalidateComplete => Sys2Proof.Machine.execInvalidateComplete s
  | .hthEnable eid => Sys2Proof.Machine.execHthEnable eid s
  | .hthDisable eid => Sys2Proof.Machine.execHthDisable eid s
  | .cleanComplete => Sys2Proof.Machine.execCleanComplete s
  | .hthPreloadLock eid => Sys2Proof.Machine.execHthPreloadLock eid s
  | .preloadComplete eid => Sys2Proof.Machine.execPreloadComplete eid s
  | .hthWayPower eid => Sys2Proof.Machine.execHthWayPower eid s
  | .hthRangeInvalidate eid => Sys2Proof.Machine.execHthRangeInvalidate eid s
  | .tagParityError way set dirty => Sys2Proof.Machine.execTagParityError way set dirty s
  | .sourceEdge src routeOk => Sys2Proof.Machine.execSourceEdge src routeOk s
  | .hrwClaim target mgmt => Sys2Proof.Machine.execHrwClaim target mgmt s
  | .hrwComplete target val mgmt => Sys2Proof.Machine.execHrwComplete target val mgmt s
  | .hrwPendSet word val mgmt => Sys2Proof.Machine.execHrwPendSet word val mgmt s
  | .hrwPendClr word val mgmt => Sys2Proof.Machine.execHrwPendClr word val mgmt s
  | .hrwMaskSet word val mgmt => Sys2Proof.Machine.execHrwMaskSet word val mgmt s
  | .hrwMaskClr word val mgmt => Sys2Proof.Machine.execHrwMaskClr word val mgmt s
  | .hrwSrcRoute val mgmt => Sys2Proof.Machine.execHrwSrcRoute val mgmt s
  | .hrwMod fn vec val => Sys2Proof.Machine.execHrwMod fn vec val s
  | .batchCountReached fn vec => Sys2Proof.Machine.execBatchCountReached fn vec s
  | .batchTimerExpiry fn vec => Sys2Proof.Machine.execBatchTimerExpiry fn vec s
  | .retargetWithdraw src => Sys2Proof.Machine.execRetargetWithdraw src s
  | .wakeDeadlineExpiry src => Sys2Proof.Machine.execWakeDeadlineExpiry src s
  | .targetWake core target => Sys2Proof.Machine.execTargetWake core target s
  | .pmcsrD3hot fn pmeEn => Sys2Proof.Machine.execPmcsrD3hot fn pmeEn s
  | .pmeTurnOff => Sys2Proof.Machine.execPmeTurnOff s
  | .powerOnReset => Sys2Proof.Machine.execPowerOnReset s
  | .coldReset => Sys2Proof.Machine.execColdReset s
  | .crpResetWarm val => Sys2Proof.Machine.execCrpResetWarm val s
  | .crpResetCold val => Sys2Proof.Machine.execCrpResetCold val s
  | .hostLinkReset => Sys2Proof.Machine.execHostLinkReset s
  | .functionLevelReset fn => Sys2Proof.Machine.execFunctionLevelReset fn s
  | .clockFault dom stopped => Sys2Proof.Machine.execClockFault dom stopped s
  | .blockIdleGate block inst => Sys2Proof.Machine.execBlockIdleGate block inst s
  | .blockUngate block inst => Sys2Proof.Machine.execBlockUngate block inst s
  | .pstateP2Request val => Sys2Proof.Machine.execPstateP2Request val s
  | .pstateP0Request val => Sys2Proof.Machine.execPstateP0Request val s
  | .alwaysOnWake => Sys2Proof.Machine.execAlwaysOnWake s
  | .corePgRise => Sys2Proof.Machine.execCorePgRise s
  | .corePgTimeout => Sys2Proof.Machine.execCorePgTimeout s
  | .corePgFall => Sys2Proof.Machine.execCorePgFall s
  | .socPgFall => Sys2Proof.Machine.execSocPgFall s
  | .thermalSample sensor temp => Sys2Proof.Machine.execThermalSample sensor temp s
  | .thermalTrip => Sys2Proof.Machine.execThermalTrip s
  | .tripEnd => Sys2Proof.Machine.execTripEnd s
  | .tickBoundary tk => Sys2Proof.Machine.execTickBoundary tk s
  | .tickCheckpoint => Sys2Proof.Machine.execTickCheckpoint s
  | .bgBudgetSet eid => Sys2Proof.Machine.execBgBudgetSet eid s
  | .scrubStart eid destOk => Sys2Proof.Machine.execScrubStart eid destOk s
  | .patrolScrub words bad => Sys2Proof.Machine.execPatrolScrub words bad s
  | .stripeVerify root block data units => Sys2Proof.Machine.execStripeVerify root block data units s
  | .tapeIdleVerify t => Sys2Proof.Machine.execTapeIdleVerify t s
  | .smartRead port used => Sys2Proof.Machine.execSmartRead port used s
  | .telemetryConfig eid => Sys2Proof.Machine.execTelemetryConfig eid s
  | .telemetrySnapshot => Sys2Proof.Machine.execTelemetrySnapshot s
  | .oobPacket xid pkt => Sys2Proof.Machine.execOobPacket xid pkt s
  | .winWrite xid woff data => Sys2Proof.Machine.execWinWrite xid woff data s
  | .winRead xid woff len => Sys2Proof.Machine.execWinRead xid woff len s
  | .oobFrameAnswer kind frame => Sys2Proof.Machine.execOobFrameAnswer kind frame s
  | .smbusReadStatus => Sys2Proof.Machine.execSmbusReadStatus s
  | .smbusReadTemp => Sys2Proof.Machine.execSmbusReadTemp s
  | .smbusReadFeTemp t => Sys2Proof.Machine.execSmbusReadFeTemp t s
  | .smbusReadImon => Sys2Proof.Machine.execSmbusReadImon s
  | .smbusReadHead => Sys2Proof.Machine.execSmbusReadHead s
  | .smbusReadRstCause => Sys2Proof.Machine.execSmbusReadRstCause s
  | .smbusReadUnitId => Sys2Proof.Machine.execSmbusReadUnitId s
  | .smbusReadVersion => Sys2Proof.Machine.execSmbusReadVersion s
  | .smbusColdReset key pecOk => Sys2Proof.Machine.execSmbusColdReset key pecOk s
  | .smbusWarmReset key pecOk => Sys2Proof.Machine.execSmbusWarmReset key pecOk s
  | .diagSelftest eid failed => Sys2Proof.Machine.execDiagSelftest eid failed s
  | .diagLoopback eid bits errs => Sys2Proof.Machine.execDiagLoopback eid bits errs s
  | .skylarkRecord memOk => Sys2Proof.Machine.execSkylarkRecord memOk s
  | .sklRead eid bad destOk => Sys2Proof.Machine.execSklRead eid bad destOk s
  | .sklClear eid => Sys2Proof.Machine.execSklClear eid s
  | .sklRsel val readOk => Sys2Proof.Machine.execSklRsel val readOk s
  | .updPiece eid piece norOk => Sys2Proof.Machine.execUpdPiece eid piece norOk s
  | .updStatus eid => Sys2Proof.Machine.execUpdStatus eid s
  | .updVerify eid bad => Sys2Proof.Machine.execUpdVerify eid bad s
  | .updActivate eid => Sys2Proof.Machine.execUpdActivate eid s
  | .activateReset => Sys2Proof.Machine.execActivateReset s
  | .updFallback eid => Sys2Proof.Machine.execUpdFallback eid s
  | .trialSelftest pass => Sys2Proof.Machine.execTrialSelftest pass s
  | .attestReport eid destOk => Sys2Proof.Machine.execAttestReport eid destOk s
  | .socPgRise => Sys2Proof.Machine.execSocPgRise s
  | .sysResetNRelease => Sys2Proof.Machine.execSysResetNRelease s
  | .perstNRelease => Sys2Proof.Machine.execPerstNRelease s
  | .powerLoss => Sys2Proof.Machine.execPowerLoss s
  | .pllRelock dom => Sys2Proof.Machine.execPllRelock dom s
  | .corePwrEnRetry => Sys2Proof.Machine.execCorePwrEnRetry s
  | .msixVectorUnmask fn vec => Sys2Proof.Machine.execMsixVectorUnmask fn vec s
  | .unexpectedFrame port fcs => Sys2Proof.Machine.execUnexpectedFrame port fcs s

end Sys2Proof.Machine
end

