-- ==== Sys2Proof/Safety.lean ====
section
/-! DEFINITION. What the statements about the machine are said in: when a command starts, what a good state is, and what
may differ between two states. The block has no unsafe run: no step of it stops (see Fault and Refusal in
Machine/State.lean). -/

namespace Sys2Proof.Machine

open Sys2Proof

/-- The command held as entry `e` starts now, with an opcode: it has not begun, and every earlier command of its queue has
(R50). Its own checks come next (R54, step 9). -/
def State.Starts (s : State) (eid code : Nat) (e : Entry) : Prop := s.startable eid code = some e

/-- The expert queue `k` starts its next descriptor, `d`, whose operation code is `op` (R561). -/
def State.Runs (s : State) (k op : Nat) (d : Bytes) : Prop := s.xqReady k = true ∧ d.length = 64 ∧ leAt d 0 1 = op

/-- The queue `k` has moved past descriptor `d` and written its completion, or tried to (R561). -/
def State.done (s : State) (k : Nat) (d : Bytes) (r : XRes) (ok : Bool) : State :=
  (s.xqAdvance k).xqComplete k (leAt d 4 4) r ok

/-- A write of a context's control register carries one action bit, and BAR0 reaches the context (R169, R172). -/
def State.OneAction (s : State) (n : Nat) (val : W32) (bit : Nat) : Prop :=
  s.ctxHost n = true ∧ bitAt val.toNat bit = true ∧ ([2, 3, 4, 5, 6].filter fun i => bitAt val.toNat i) = [bit]

/-- The register bank is in its canonical form: offsets rise strictly, and no word is listed that equals its reset value
(R14). -/
def State.bankOk (s : State) : Prop := KMap.wf s.regs = true ∧ ∀ x ∈ s.regs, x.2 ≠ regReset x.1

end Sys2Proof.Machine
end

