-- ==== Sys2Proof/Certificates/Slice0/Obligations.lean ====
section
/-! DEFINITION. The statements for the provers: each formalises rules of the spec, named in its docstring, over every state
unless it says otherwise. A clause that names a command as answering a next state is that command's completion. -/

open Sys2Proof Sys2Proof.Machine

/-! ## The queue (the form of this row) -/

/-- One step takes the command at the front of the queue and runs it with the queue's rest. -/
def Obligations.StepRunsFront : Prop :=  ∀ (c : Instr) (rest : List Instr) (s : State), s.pending = c :: rest → step s = exec c { s with pending := rest }

/-- With no command waiting the block idles (log entry 5, the model's choice). The table gives no command any bits, so no word
spells a command and none is put in front of the queue by one. -/
def Obligations.EmptyQueueIdles : Prop :=
  (∀ s : State, s.pending = [] → step s = .next s)
  ∧ (∀ nbits w, decodeTableWord nbits w = none ∧ ∀ s : State, s.withFetchWord nbits w = s)

/-- No command stops the block: every one, with any operands in any state, answers a next state. The clauses that go through
them rest on choices of the model: log entry 88. -/
def Obligations.NoCommandStops : Prop := ∀ (c : Instr) (s : State), ∃ t, exec c s = .next t

/-! ## Registers -/

/-- An access that is not an aligned 32-bit one completes as Unsupported Request and is latched in GLB_ACC_ERR while VALID is 0;
while VALID is 1 it counts in MORE. No other register changes (R9, R553). An offset no map defines reads as zero and ignores
writes (R10). -/
def Obligations.AccessesWithoutARegister : Prop :=
  (∀ (off : Nat) (write : Bool) (s : State), ∃ t, exec (.unsupportedAccess off write) s = .next t
      ∧ t.out.getLast? = some (.unsupported off)
      ∧ (s.rbit Reg.glbAccErr 31 = false →
          t.reg Reg.glbAccErr = BitVec.ofNat 32 (2 ^ 31 + 4 * fieldOf off 21 2 + b2n write))
      ∧ (s.rbit Reg.glbAccErr 31 = true →
          t.rf Reg.glbAccErr 29 22 = min 0xFF (s.rf Reg.glbAccErr 29 22 + 1)
            ∧ t.rf Reg.glbAccErr 21 0 = s.rf Reg.glbAccErr 21 0)
      ∧ (∀ o, o ≠ Reg.glbAccErr → t.reg o = s.reg o)
      ∧ t.ez = s.ez ∧ t.data = s.data ∧ t.net = s.net ∧ t.drv = s.drv ∧ t.staged = s.staged ∧ t.latched = s.latched)
  ∧ (∀ (off : Nat) (val : W32) (s : State), off % 4 = 0 → off < 2 ^ 22 → regAt off = none →
      exec (.rcFieldRead off) s = .next (s.emit (.readData off 0)) ∧ exec (.registerWrite off val) s = .next s)

/-- A write of a register whose one field is RW stores that field, and ignores the reserved bits: of FPT_NS_SEL, HRW_SRC_SEL and
STL_SEL. Every other register and every other part of the state stays (R10, R12). A write of the lower half of a 64-bit
register is held, and changes the register only when the upper half is written: then both halves take effect together (R11).
For the bases of ring 0. A read of the lower half of a 64-bit count returns it and latches the upper half, which a read of
the upper half that follows returns (R11): of Fold's tick count. The clauses that go through them rest on choices of the
model: log entry 36. -/
def Obligations.RegisterWrites : Prop :=
  (∀ (off hi : Nat) (val : W32) (s : State), s.crp.warmEnd = none →
      (off, hi) ∈ [(Reg.fptNsSel, 9), (Reg.hrwSrcSel, 11), (Reg.stlSel, 4)] →
      ∃ t, exec (.registerWrite off val) s = .next t
        ∧ t.rf off hi 0 = fieldOf val.toNat hi 0
        ∧ t.rf off 31 (hi + 1) = s.rf off 31 (hi + 1)
        ∧ (∀ o, o ≠ off → t.reg o = s.reg o)
        ∧ t = { s with regs := t.regs })
  ∧ (∀ (off : Nat) (val : W32) (s : State), s.crp.warmEnd = none →
      (off = Reg.fldAdmSqBaseLo ∨ off = Reg.fldAdmCqBaseLo) →
      exec (.pairLoWrite off val) s = .next { s with staged := KMap.put s.staged off val }
      ∧ ∀ (lo : W32), KMap.get? s.staged off = some lo → ∃ t, exec (.pairHiWrite (off + 4) val) s = .next t
          ∧ t.rf off 31 12 = fieldOf lo.toNat 31 12
          ∧ t.reg (off + 4) = val
          ∧ KMap.get? t.staged off = none
          ∧ (∀ o, o ≠ off → o ≠ off + 4 → t.reg o = s.reg o))
  ∧ (∀ (s : State), s.crp.warmEnd = none →
      ∃ t, exec (.pairLoRead Reg.fldTickLo) s = .next t
        ∧ t.out = s.out ++ [.readData Reg.fldTickLo (s.reg Reg.fldTickLo).toNat]
        ∧ KMap.get? t.latched Reg.fldTickLo = some (s.reg (Reg.fldTickLo + 4))
        ∧ (∀ o, t.reg o = s.reg o)
        ∧ ∀ (u : State), u.crp.warmEnd = none → u.latched = t.latched →
          ∃ v, exec (.pairLoRead (Reg.fldTickLo + 4)) u = .next v
            ∧ v.out = u.out ++ [.readData (Reg.fldTickLo + 4) (s.reg (Reg.fldTickLo + 4)).toNat])

/-- A read of a register with read-to-clear fields returns its word and clears those fields; no other register changes (R12). -/
def Obligations.ReadClearsCounters : Prop :=  ∀ (off : Nat) (s : State), s.crp.warmEnd = none →
    off ∈ [Reg.fldTickStat, Reg.fldTelStat, Reg.swdCntLenerr, Reg.grsCntEvents, Reg.brkCntEvents, Reg.tskCntTagerr,
      Reg.drvCntNak, Reg.dhdCnt, Reg.memSramEcc, Reg.hthCntEvents, Reg.hrwCntEvents] →
    ∃ t, exec (.rcFieldRead off) s = .next t
      ∧ t.out = s.out ++ [.readData off (s.reg off).toNat]
      ∧ (∀ f ∈ ((regAt off).map (·.fields)).getD [], f.acc = .rc → t.rf off f.hi f.lo = 0)
      ∧ ∀ o, o ≠ off → t.reg o = s.reg o

/-! ## Ezlin: replies and rings (02) -/

/-- A final reply to a ring whose completion ring is usable, has room and holds nothing back is 32 bytes written at the write
index: status, detail, SEQ, ring, submission head, phase, tag and result (R56). The write index moves on, the phase turns
where it wraps, and the command's queue entry is free (R49, R57). -/
def Obligations.FinalReplyIsWritten : Prop :=  ∀ (s : State) (e : Entry) (st dt : Nat) (res : Bytes) (q : Sq) (c : Cq),
    e.ring ≠ 1023 → s.sq e.ring = some q → s.cq q.cq = some c → c.usable = true → c.held = [] → c.unread < 2 ^ c.log2 →
    e.replyOk = true →
    ∃ more bytes, (s.final e st dt res).out = s.out ++ .hostWrite q.fn (c.base + 32 * c.wp) bytes :: more
      ∧ bytes = leBytes 2 st ++ leBytes 2 dt ++ leBytes 2 (pktSeq e.pkt) ++ leBytes 2 e.ring ++ leBytes 2 q.head
          ++ leBytes 1 (b2n c.phase) ++ [0] ++ leBytes 4 e.tag ++ padTo res 16
      ∧ bytes.length = 32
      ∧ (s.final e st dt res).cq q.cq = some { c with
          wp := if c.wp + 1 = 2 ^ c.log2 then 0 else c.wp + 1
          phase := if c.wp + 1 = 2 ^ c.log2 then !c.phase else c.phase
          unread := c.unread + 1 }
      ∧ (s.final e st dt res).entry e.eid = none

/-- A reply changes the rings and queues, what is sent, and Hedgerow's sources; no other part of the state changes but for
FLD_RING_ERR where the completion's write fails, and the window's held packets on ring 1,023. -/
def Obligations.ReplyFrame : Prop :=  ∀ (s : State) (r : Reply), ∃ h o,
    (r.ok = true → r.ring ≠ 1023 → s.reply r = { s with ez := (s.reply r).ez, hrw := h, out := o })
    ∧ (s.reply r).data = s.data ∧ (s.reply r).dhd = s.dhd ∧ (s.reply r).drv = s.drv ∧ (s.reply r).fpt = s.fpt
    ∧ (s.reply r).ez.sessions = s.ez.sessions ∧ (s.reply r).ez.inst = s.ez.inst ∧ (s.reply r).ez.xqs = s.ez.xqs
    ∧ (s.reply r).ez.par = s.ez.par ∧ ∀ off, off ≠ Reg.fldRingErr → (s.reply r).reg off = s.reg off

/-- Doorbells. A submission tail within the ring is taken, one beyond it is ignored and puts the ring into Error with cause 1
(R45). A completion head within the ring frees the entries before it, one beyond it puts the rings bound to it into Error
and makes the completion ring unusable (R46, R47, R59). Neither does anything on a slot without a ring. The clauses that go
through them rest on choices of the model: log entry 41. -/
def Obligations.Doorbells : Prop :=  ∀ (s : State) (fn slot r : Nat) (val : W32) (q : Sq) (v : Nat), v = fieldOf val.toNat 15 0 →
    (s.doorbellRing fn slot = none →
      exec (.sqTailDoorbell fn slot val) s = .next s ∧ exec (.cqHeadDoorbell fn slot val) s = .next s)
    ∧ (s.doorbellRing fn slot = some r → s.sq r = some q → (r ≠ 0 ∨ s.rbit Reg.fldAdmCtrl 0 = true) →
      (v < 2 ^ q.log2 → exec (.sqTailDoorbell fn slot val) s = .next (s.setSq r { q with tail := v }))
      ∧ (2 ^ q.log2 ≤ v → ∃ t, exec (.sqTailDoorbell fn slot val) s = .next t
          ∧ t.sq r = some { q with err := if q.err = 0 then 1 else q.err }
          ∧ (s.rbit Reg.fldRingErr 31 = false → t.rf Reg.fldRingErr 15 12 = 1 ∧ t.rbit Reg.fldRingErr 31 = true))
      ∧ ∀ c, s.cq q.cq = some c → c.held = [] → v < 2 ^ c.log2 →
          exec (.cqHeadDoorbell fn slot val) s
            = .next (s.setCq q.cq { c with head := v, unread := (c.wp + 2 ^ c.log2 - v) % 2 ^ c.log2 }))
    ∧ (s.doorbellRing fn slot = some r → s.sq r = some q → (r ≠ 0 ∨ s.rbit Reg.fldAdmCtrl 0 = true) → ∀ c, s.cq q.cq = some c →
      c.held = [] → 2 ^ c.log2 ≤ v → s.boundRings q.cq = [r] → ∃ t, exec (.cqHeadDoorbell fn slot val) s = .next t
        ∧ t.cq q.cq = some { c with usable := false, needReset := [r] }
        ∧ t.sq r = some { q with err := if q.err = 0 then 1 else q.err })

/-- FLD_ADM_CTRL. Setting EN with both sizes from 4 to 16 puts ring 0 into service at FLD_ADM_'s bases and sizes, empty, with a
new completion ring; a size outside that range leaves EN at 0 and latches BAD_SIZE (R42). Clearing EN resets ring 0 at once
where it has no outstanding commands (R47). The RING_ commands (R44, R47, R557, R558). RING_CREATE makes the lowest free
ring, with the completion ring asked for, and replies its ID and doorbell offset; RING_DELETE frees a ring, RING_RESET
empties one, each at once where the ring has no outstanding commands, else when they have all replied (RING_DRAIN_COMPLETE);
RING_QUERY replies the ring's state. -/
def Obligations.RingCommands : Prop :=
  (∀ (s : State) (val : W32) (n m : Nat), n = fieldOf val.toNat 8 4 → m = fieldOf val.toNat 16 12 →
      (s.ready = true → s.rbit Reg.fldAdmCtrl 0 = false → s.sq 0 = none → (4 ≤ n ∧ n ≤ 16) → (4 ≤ m ∧ m ≤ 16) →
        ∃ t c, exec (.admCtrlEnable val) s = .next t
          ∧ t.rbit Reg.fldAdmCtrl 0 = true
          ∧ t.sq 0 = some ⟨0, 0, s.pair Reg.fldAdmSqBaseLo, n, 0, 0, 0, c, []⟩
          ∧ t.cq c = some (Cq.fresh (s.pair Reg.fldAdmCqBaseLo) m 0xFFFF)
          ∧ ∀ off, off ≠ Reg.fldAdmCtrl → t.reg off = s.reg off)
      ∧ (s.ready = true → s.rbit Reg.fldAdmCtrl 0 = false → (n < 4 ∨ 16 < n) → s.rbit Reg.fldRingErr 31 = false →
        ∃ t, exec (.admCtrlEnable val) s = .next t ∧ t.rbit Reg.fldAdmCtrl 0 = false ∧ t.rf Reg.fldRingErr 15 12 = 4
          ∧ t.rbit Reg.fldRingErr 31 = true ∧ t.ez = s.ez)
      ∧ (∀ q, s.rbit Reg.fldAdmCtrl 0 = true → s.sq 0 = some q → q.drains = [] → s.outstanding 0 = false →
        ∃ t, exec (.admCtrlDisable val) s = .next t ∧ t.rbit Reg.fldAdmCtrl 0 = false
          ∧ t.sq 0 = some { q with head := 0, tail := 0, err := 0 }
          ∧ ∀ off, off ≠ Reg.fldAdmCtrl → t.reg off = s.reg off))
  ∧ (∀ (s : State) (eid : Nat) (e : Entry) (b : State), b = s.markBegun eid →
      (s.Starts eid 0x0010 e → b.ringParamsBad e = false → e.p 22 1 = 0 → e.p 18 2 = 0xFFFF →
        (e.p 20 2 = 0xFFFF ∨ e.p 20 2 < b.par Par.pfVectors) → ∀ r, lowestFree (s.ez.sqs.map (·.1)) 1 1022 = some r →
        ∃ (u : State) (c : Nat), exec (.ringCreate eid) s = .next (u.okReply e (leBytes 2 r ++ [0, 0] ++ leBytes 4 (0x20000 + 8 * r)))
          ∧ u.sq r = some ⟨0, r, e.p 0 8, e.p 16 1, 0, 0, 0, c, []⟩
          ∧ u.cq c = some (Cq.fresh (e.p 8 8) (e.p 17 1) (e.p 20 2))
          ∧ u.src r = ringSrc 0 (e.p 20 2)
          ∧ ∀ j, j ≠ r → u.sq j = s.sq j)
      ∧ (s.Starts eid 0x0011 e → ∀ r q, r = e.p 0 2 → b.ringUnknown e = false → r ≠ 0 → r ≠ 1023 → r ≠ e.ring →
        s.sq r = some q → q.drains = [] → s.outstanding r = false →
        ∃ u : State, exec (.ringDelete eid) s = .next (u.okReply e []) ∧ u.sq r = none ∧ ∀ j, j ≠ r → u.sq j = s.sq j)
      ∧ (s.Starts eid 0x0012 e → ∀ r q, r = e.p 0 2 → b.ringUnknown e = false → r ≠ 0 → r ≠ e.ring →
        s.sq r = some q → q.drains = [] → s.outstanding r = false →
        ∃ u : State, exec (.ringReset eid) s = .next (u.okReply e []) ∧ u.sq r = some { q with head := 0, tail := 0, err := 0 }
          ∧ ∀ j, j ≠ r → u.sq j = s.sq j)
      ∧ (∀ r q, s.entry eid = some e → s.sq r = some q → q.drains = [(.reset, eid)] → s.outstanding r = false →
        ∃ u : State, exec (.ringDrainComplete r) s = .next (u.okReply e [])
          ∧ u.sq r = some { q with head := 0, tail := 0, err := 0, drains := [] })
      ∧ (s.Starts eid 0x0013 e → ∀ q c, b.ringUnknown e = false → (e.ofVf = true → e.p 0 2 ≠ 0) → s.sq (e.p 0 2) = some q →
        s.cq q.cq = some c →
        exec (.ringQuery eid) s = .next (b.okReply e (leBytes 2 q.head ++ leBytes 2 q.tail ++ leBytes 1 q.err ++ leBytes 1 q.fn
          ++ leBytes 1 q.log2 ++ leBytes 1 c.log2 ++ leBytes 2 c.wp ++ leBytes 1 (b2n c.phase) ++ leBytes 1 (b2n c.usable)
          ++ leBytes 2 ((b.boundRings q.cq).headD 0) ++ leBytes 2 c.vector))))

/-- Consumption. The packet of the ring the arbiter chose enters its queue as a new entry, with everything noted that is fixed
at its consumption, and the ring's index moves on (R48 to R50); where a check of R54 before the command's own fails, its
final reply follows at once. A packet whose fetch fails puts its ring into Error with cause 2 and is not consumed (R47). The
packet at the front of the out-of-band port's queue is consumed when the arbiter chose ring 1,023: it leaves the port, is
held for its reply, and enters its queue like any other packet (R48, R487). The clauses that go through them rest on choices
of the model: log entry 5. -/
def Obligations.PacketConsumption : Prop :=
  (∀ (s : State) (r : Nat) (z : Ez) (q : Sq) (p : Bytes) (blk : Fetch) (ok : Bool),
      s.arbitrate = some (r, z) → r ≠ 1023 → s.sq r = some q → p.length = 64 →
      (s.queueRoom (isHwOp (pktOp p)) = true → (pktFlag p 2 = false ∨ s.outstanding r = false) →
        ∃ (u : State) (e : Entry), u.ez.queue = s.ez.queue ++ [e] ∧ u.ez.nextEid = s.ez.nextEid + 1
          ∧ e.eid = s.ez.nextEid ∧ e.ring = r ∧ e.fn = q.fn ∧ e.pkt = p ∧ e.begun = false ∧ e.pended = false ∧ e.at_ = s.clk
          ∧ e.hw = isHwOp (pktOp p) ∧ e.owned = s.ownedMask
          ∧ u.sq r = some { q with head := (q.head + 1) % 2 ^ q.log2 }
          ∧ exec (.packetConsume (.ok p) blk ok) s = .next (match ({ s with ez := z } : State).checkPacket r q.fn p blk with
              | none => u
              | some (st, dt) => u.fail e st dt))
      ∧ (∃ t, exec (.packetConsume .failed blk ok) s = .next t ∧ t.ez.queue = s.ez.queue
          ∧ t.sq r = some { q with err := if q.err = 0 then 2 else q.err }))
  ∧ (∀ (s : State) (z : Ez) (q : Sq) (p : Bytes) (xid : Nat) (rest : List (Bytes × Nat)) (f blk : Fetch) (ok : Bool),
      s.arbitrate = some (1023, z) → s.sq 1023 = some q → s.fld.oobQ = (p, xid) :: rest → (∀ h ∈ s.fld.heldOob, h.pkt ≠ p) →
      s.queueRoom (isHwOp (pktOp p)) = true → (pktFlag p 2 = false ∨ s.outstanding 1023 = false) →
        ∃ (b u : State) (e : Entry), b.fld.oobQ = rest ∧ HeldOob.mk p xid s.ez.nextEid none ∈ b.fld.heldOob
          ∧ b = { s with ez := z, fld := { s.fld with oobQ := b.fld.oobQ, heldOob := b.fld.heldOob } }
          ∧ u.fld = b.fld ∧ u.ez.queue = s.ez.queue ++ [e] ∧ e.eid = s.ez.nextEid ∧ e.ring = 1023 ∧ e.fn = q.fn ∧ e.pkt = p
          ∧ e.begun = false ∧ e.at_ = s.clk ∧ e.hw = isHwOp (pktOp p)
          ∧ u.sq 1023 = some { q with head := (q.head + 1) % 2 ^ q.log2 }
          ∧ exec (.packetConsume f blk ok) s = .next (match b.checkPacket 1023 q.fn p (s.windowBlock p) with
              | none => u
              | some (st, dt) => u.fail e st dt))

/-- A Fold command whose final reply is not written within 1 ms, three boundaries, of its consumption first receives a PENDING
reply, unless it carries NOPEND or a full completion ring already holds its final reply; a command of the hardware queue
never receives one; before the 1 ms, and after the one PENDING reply, nothing happens (R58, R17, R59). The clauses that go
through them rest on choices of the model: log entry 89. -/
def Obligations.PendingReply : Prop :=  ∀ (s : State) (eid : Nat) (e : Entry), s.entry eid = some e →
    (e.at_ + 3 ≤ s.clk → e.hw = false → e.pended = false → pktFlag e.pkt 4 = false → s.finalHeld eid = false →
      ∃ u : State, exec (.pendingReply eid) s = .next (u.reply (e.reply false St.pending 0 []))
        ∧ u.entry eid = some { e with pended := true } ∧ u = { s with ez := { s.ez with queue := u.ez.queue } })
    ∧ ((e.hw = true ∨ pktFlag e.pkt 4 = true ∨ e.pended = true ∨ s.clk < e.at_ + 3 ∨ s.finalHeld eid = true) →
      exec (.pendingReply eid) s = .next s)

/-! ## Sessions, engine instances, parameters (02) -/

/-- Nonces. SESSION_NONCE draws 16 bytes, replies them, and they are the one nonce of the function and ring that asked; at its
expiry a nonce that is no longer valid is gone (R64). SESSION_OPEN. A right proof, with the nonce in force and no back-off
running, opens a session of the role for the function and forgets the role's failures (R65); a wrong proof is counted, and
its ACCESS_DENIED is held back for the back-off delay (R69), until BACKOFF_EXPIRY writes it. Either way the nonce is used up
(R64). Renewing and ending sessions. SESSION_RENEW replies OK; a session that has been idle for FLD_session_idle_s is ended;
a close ends its session at once where no other admitted command of it is outstanding, and else when the last of those has
replied (R72, R73). The clauses that go through them rest on choices of the model: log entries 2, 41. -/
def Obligations.Sessions : Prop :=
  (∀ (s : State) (eid : Nat) (e : Entry),
      (s.Starts eid 0x0001 e → ∃ u : State, exec (.sessionNonce eid) s = .next (u.okReply e (s.drawn 16))
        ∧ u.nonce e.fn e.ring = some ⟨e.fn, e.ring, s.drawn 16, s.clk⟩
        ∧ (u.ez.nonces.filter fun n => n.fn == e.fn && n.ring == e.ring).length = 1
        ∧ u.fresh = s.fresh + 1 ∧ u.ez.sessions = s.ez.sessions ∧ u.regs = s.regs)
      ∧ (∀ fn ring, s.nonce fn ring = none → ∃ t, exec (.nonceExpiry fn ring) s = .next t
        ∧ (∀ n ∈ t.ez.nonces, n.fn = fn → n.ring ≠ ring)
        ∧ t = { s with ez := { s.ez with nonces := t.ez.nonces } }))
  ∧ (∀ (s : State) (eid : Nat) (e : Entry) (role : Nat) (n : Nonce) (key : Bytes), role = e.p 0 1 → 1 ≤ role → role ≤ 3 →
      e.ring ≠ 1023 →
      (s.Starts eid 0x0002 e → s.nonce e.fn e.ring = some n → KMap.get? s.ez.roleKeys role = some key →
        s.ez.backoff.getD (role - 1) 0 ≤ e.at_ → s.ez.sessions.length < 256 →
        (slice e.area 8 32 = hmac256 key (s.proofMsg n.value role e) →
          ∃ (u : State) (tag : Nat), exec (.sessionOpen eid) s
              = .next (u.reply { e.reply true St.ok 0 (leBytes 4 (s.par Par.sessionIdleS)) with tag := tag })
            ∧ KMap.get? u.ez.sessions tag = some ⟨e.fn, role, s.clk, false, false, none, []⟩
            ∧ u.ez.authFail = s.ez.authFail.set (role - 1) 0
            ∧ u.nonce e.fn e.ring = none
            ∧ u.data = s.data ∧ u.regs = s.regs)
        ∧ (slice e.area 8 32 ≠ hmac256 key (s.proofMsg n.value role e) →
          ∃ (t : State) (k : Nat), exec (.sessionOpen eid) s = .next t ∧ k = satAdd 255 (s.ez.authFail.getD (role - 1) 0) 1
            ∧ t.ez.authFail = s.ez.authFail.set (role - 1) k
            ∧ t.ez.denied = s.ez.denied ++ [⟨e.eid, e.ring, role, e.at_ + 3 * (1000 * min (2 ^ (k - 1)) 256)⟩]
            ∧ t.ez.sessions = s.ez.sessions ∧ t.nonce e.fn e.ring = none ∧ t.out = s.out))
      ∧ (∀ d, s.entry eid = some e → s.ez.denied.find? (fun d => d.eid == eid) = some d → d.until_ ≤ s.clk →
        ∃ u : State, exec (.backoffExpiry eid) s = .next (u.fail e St.accessDenied 0x0302)
          ∧ u.ez.denied = s.ez.denied.filter fun x => x.eid != eid))
  ∧ (∀ (s : State) (eid : Nat) (e : Entry) (tag : Nat) (x : Session),
      (s.Starts eid 0x0003 e → exec (.sessionRenew eid) s = .next ((s.markBegun eid).okReply e []))
      ∧ (KMap.get? s.ez.sessions tag = some x → x.closing = false → x.lastUse + 3 * (1000 * s.par Par.sessionIdleS) ≤ s.clk →
        ∃ t, exec (.sessionExpiry tag) s = .next t ∧ t.ez.sessions = KMap.del s.ez.sessions tag)
      ∧ (KMap.get? s.ez.sessions tag = some x → (x.closing = true ∨ s.clk < x.lastUse + 3 * (1000 * s.par Par.sessionIdleS)) →
        exec (.sessionExpiry tag) s = .next s)
      ∧ (s.Starts eid 0x0004 e → KMap.get? s.ez.sessions e.tag = some x → x.closing = false →
        ((s.markBegun eid).admitted fun y => y.tag == e.tag && y.fn == e.fn && y.eid != eid) = [] →
        (∀ k ∈ s.ez.inst, k.2.enterEid ≠ eid) →
        ∃ u : State, exec (.sessionClose eid) s = .next (u.okReply e []) ∧ u.ez.sessions = KMap.del (KMap.put s.ez.sessions e.tag
          { x with closing := true, closeEid := some eid, waits := [] }) e.tag)
      ∧ (s.ez.sessions.find? (fun p => p.2.closeEid == some eid) = some (tag, x) → KMap.get? s.ez.sessions tag = some x →
        s.allDone x.waits = true → s.entry eid = some e →
        ∃ u : State, exec (.sessionCloseComplete eid) s = .next (u.okReply e []) ∧ u.ez.sessions = KMap.del s.ez.sessions tag))

/-- ROLE_KEY_SET stores or replaces the key of the role in byte 0 from bytes 8 to 39; a role code outside 0x01 to 0x04 is
INVALID_PARAM with detail 0x0105. The new key is kept through every reset, the sessions already open stay open, and where
the NOR write fails the old key stays in force and the command completes MEDIA_ERROR (R68). A Maintainer key also sets PROV
(R67). -/
def Obligations.RoleKeySet : Prop :=  ∀ (s : State) (eid : Nat) (e : Entry) (role : Nat), s.Starts eid 0x0005 e → role = e.p 0 1 →
    (1 ≤ role → role ≤ 4 →
      (∃ u : State, exec (.roleKeySet eid true) s = .next (u.okReply e [])
        ∧ (u.okReply e []).ez.roleKeys = KMap.put s.ez.roleKeys role (slice e.area 8 32)
        ∧ (u.okReply e []).ez.sessions = s.ez.sessions
        ∧ (∀ cold, ((u.okReply e []).rebuilt cold).ez.roleKeys = KMap.put s.ez.roleKeys role (slice e.area 8 32))
        ∧ (role = 4 → u.rbit Reg.fldStatus 1 = true) ∧ (role ≠ 4 → u.regs = s.regs)
        ∧ (∀ off, off ≠ Reg.fldStatus → u.reg off = s.reg off))
      ∧ ∃ t, exec (.roleKeySet eid false) s = .next t ∧ t = (s.markBegun eid).fail e St.mediaError 0
        ∧ t.ez.roleKeys = s.ez.roleKeys ∧ t.ez.sessions = s.ez.sessions)
    ∧ ((role < 1 ∨ 4 < role) → ∀ ok, exec (.roleKeySet eid ok) s = .next ((s.markBegun eid).fail e St.invalidParam 0x0105))

/-- Handover and return. ENTER on an eligible instance in Basic puts it into handover for its session and replies PENDING; once
no basic work is left it is in Expert and the command replies OK, and where work is left after 100 ms the handover ends with
TIMEOUT (R76). RETURN by the holder ends Expert: the instance is RETURNING until its started descriptors have ended, and is
then in Basic again, its queue disabled (R77, R78). ENGINE_QUERY replies the state (R560). Disable and enable (R79). DISABLE
of an instance in Basic without basic work stops it and replies OK; with work left it drains, and DISABLE_DRAIN_COMPLETE
ends that. ENABLE of a disabled instance starts it; during the drain it is queued and replies ENABLE_QUEUED. The registers
of an expert queue (R561): a write by an owner enables the queue empty, disables it, moves its submission tail or frees
completions; a write while the queue is not held changes nothing but the block's error register. The clauses that go through
them rest on choices of the model: log entries 16, 40. -/
def Obligations.EngineInstances : Prop :=
  (∀ (s : State) (eid : Nat) (e : Entry) (b : State) (k : Nat), b = s.markBegun eid →
      (s.Starts eid 0x4001 e → k = e.target → b.targetOk e false = true → (s.inst k).ctl = .basic →
        exec (.engineExpertEnter eid) s = .next ((b.setInst k
          { s.inst k with ctl := .handing, holder := e.tag, holderFn := e.fn, t0 := s.clk, enterEid := eid }).pendReply e))
      ∧ (∀ code inst, k = instKey code inst → code ≠ 5 → (s.inst k).ctl = .handing → s.entry (s.inst k).enterEid = some e →
        (s.basicWork k = false →
          exec (.handoverDrainComplete code inst) s
            = .next ((s.setInst k { s.inst k with ctl := .expert, enterEid := 0 }).okReply e []))
        ∧ (s.basicWork k = true → (s.inst k).t0 + 300 ≤ s.clk →
          exec (.handoverTimeout code inst) s = .next ((s.setInst k
            { s.inst k with ctl := .basic, holder := 0, holderFn := 0xFF, enterEid := 0 }).fail e St.timeout 0)))
      ∧ (s.Starts eid 0x4002 e → k = e.target → b.targetOk e false = true → (s.inst k).ctl = .expert → (s.inst k).holder = e.tag →
        exec (.engineExpertReturn eid) s
          = .next (b.setInst k { s.inst k with ctl := .returning, retEids := (s.inst k).retEids ++ [eid] }))
      ∧ (∀ code inst ok, k = instKey code inst → code ≠ 5 → code ≠ 7 → (s.inst k).ctl = .returning → (s.inst k).retEids = [eid] →
        s.entry eid = some e →
        exec (.returnComplete code inst [] ok) s = .next (((s.setInst k
          { s.inst k with ctl := .basic, holder := 0, holderFn := 0xFF, retEids := [] }).setXq k Xq.off).okReply e []))
      ∧ (s.Starts eid 0x4003 e → b.targetOk e true = true → exec (.engineQuery eid) s = .next (b.okReply e
          [byteOf (s.inst e.target).ctl.code, byteOf (b2n (s.inst e.target).disabled + 2 * b2n (s.inst e.target).disabling
              + 4 * b2n (s.inst e.target).enQueued),
            byteOf (if (s.inst e.target).ctl = .basic then 0xFF else (s.inst e.target).holderFn)])))
  ∧ (∀ (s : State) (eid : Nat) (e : Entry) (b : State) (k : Nat), b = s.markBegun eid →
      (s.Starts eid 0x4004 e → k = e.target → b.targetOk e false = true → (s.inst k).ctl = .basic → (s.inst k).disabled = false →
        (s.inst k).disEids = [] → (s.inst k).enQueued = false → s.basicWork k = false →
        ∃ u : State, exec (.engineDisable eid) s = .next (u.okReply e [])
          ∧ u.inst k = { s.inst k with disabled := true, disabling := false } ∧ ∀ j, j ≠ k → u.inst j = s.inst j)
      ∧ (∀ code inst, k = instKey code inst → (s.inst k).disabling = true → s.basicWork k = false → (s.inst k).disEids = [eid] →
        s.entry eid = some e →
        exec (.disableDrainComplete code inst) s = .next ((s.setInst k { s.inst k with
          disabled := !(s.inst k).enQueued, disabling := false, enQueued := false, disEids := [] }).okReply e []))
      ∧ (s.Starts eid 0x4005 e → k = e.target → b.targetOk e false = true →
        ((s.inst k).disabling = false →
          exec (.engineEnable eid) s = .next ((b.setInst k { s.inst k with disabled := false }).okReply e []))
        ∧ ((s.inst k).disabling = true → (s.inst k).enQueued = false →
          exec (.engineEnable eid) s
            = .next ((b.setInst k { s.inst k with enQueued := true }).fail e St.enableQueued 0x0601))))
  ∧ (∀ (s : State) (off k o : Nat) (val : W32) (n m v : Nat), xqAt off = some (k, o) → n = fieldOf val.toNat 8 4 →
      m = fieldOf val.toNat 16 12 → v = fieldOf val.toNat 15 0 →
      (s.xqHeld k = true →
        ((s.xq k).en = false → (4 ≤ n ∧ n ≤ 16) → (4 ≤ m ∧ m ≤ 16) → ∃ t x, exec (.xqEnable off val) s = .next t ∧ t.xq k = x
          ∧ x.en = true ∧ x.sqLog2 = n ∧ x.cqLog2 = m ∧ x.sqHead = 0 ∧ x.tail = 0 ∧ x.cqWp = 0 ∧ x.unread = 0 ∧ x.phase = true
          ∧ x.halt = false ∧ x.bound = (s.xq k).bound ∧ t = s.setXq k x)
        ∧ ((s.xq k).en = true → exec (.xqDisable off val) s
            = .next (s.setXq k { s.xq k with en := false, halt := false, waiting := false, desc := [] }))
        ∧ ((s.xq k).en = true → v < 2 ^ (s.xq k).sqLog2 →
            exec (.xqTailWrite off val) s = .next (s.setXq k { s.xq k with tail := v }))
        ∧ ((s.xq k).en = true → v < 2 ^ (s.xq k).cqLog2 → exec (.xcqHeadWrite off val) s
            = .next (s.setXq k { s.xq k with
                unread := ((s.xq k).cqWp + 2 ^ (s.xq k).cqLog2 - v) % 2 ^ (s.xq k).cqLog2 })))
      ∧ (s.xqHeld k = false → ∀ c ∈ [Instr.xqEnable off val, .xqDisable off val, .xqTailWrite off val, .xcqHeadWrite off val],
        ∃ t, exec c s = .next t ∧ t.ez = s.ez ∧ t.data = s.data ∧ t.reg (xqErr k).1.off ≠ 0#32
          ∧ ∀ r, r ≠ (xqErr k).1.off → t.reg r = s.reg r))

/-- The parameter commands. PARAM_GET replies the value in force with its attribute word and range, PARAM_INFO the ID, attribute
word, default and maximum (R80). A single PARAM_SET of a value that takes effect at once puts it in force, with PERSIST also
in NOR, and replies the value (R81, R83); a batch joins a decision set and replies at its boundary (R82). The clauses that
go through them rest on choices of the model: log entries 8, 13. -/
def Obligations.ParameterCommands : Prop :=  ∀ (s : State) (eid : Nat) (e : Entry) (b : State) (p : Nat), b = s.markBegun eid →
    (s.Starts eid 0x6001 e → parOfId (e.p 0 2) = some p → s.parAbsent p = false →
      exec (.paramGet eid) s = .next (b.okReply e
        (leBytes 4 (s.par p) ++ leBytes 4 (parInfo p).attr ++ leBytes 4 (parInfo p).lo ++ leBytes 4 (parInfo p).hi)))
    ∧ (s.Starts eid 0x6003 e → parOfName (slice e.area 0 32) = some p → s.parAbsent p = false →
      exec (.paramInfo eid) s = .next (b.okReply e (leBytes 2 (parId p) ++ [0, 0] ++ leBytes 4 (parInfo p).attr
        ++ leBytes 4 (s.parDefault p) ++ leBytes 4 (parInfo p).hi)))
    ∧ (∀ v ok, s.Starts eid 0x6002 e → pktFlag e.pkt 0 = false → v = e.p 4 4 → b.parJudge e [] (e.p 0 2) (e.p 2 2) v = .ok p →
      (parInfo p).eff = 0 → s.inP2 = false → (bitAt (e.p 2 2) 0 = true → ok = true) →
      ∃ u : State, exec (.paramSet eid ok) s = .next (u.okReply e (leBytes 4 v ++ leBytes 4 v)) ∧ u.par p = v
        ∧ (∀ j, j ≠ p → u.par j = s.par j)
        ∧ u.ez.parNor = (if bitAt (e.p 2 2) 0 then KMap.put s.ez.parNor p v else s.ez.parNor))
    ∧ (∀ xs, s.Starts eid 0x6002 e → pktFlag e.pkt 0 = true → 1 ≤ e.p 0 2 → e.p 0 2 ≤ 256 → 64 + 8 * e.p 0 2 ≤ e.area.length →
      b.batchJudge e (e.p 0 2) 0 [] [] = .ok xs →
      ∃ t, exec (.paramSetBatch eid true) s = .next t ∧ t.out = s.out ∧ t.ez.par = s.ez.par
        ∧ ((t.ez.batchNow = s.ez.batchNow ++ [⟨e.eid, xs, leBytes 2 (e.p 0 2)⟩] ∧ t.ez.batchNext = s.ez.batchNext)
          ∨ (t.ez.batchNow = s.ez.batchNow ∧ t.ez.batchNext = s.ez.batchNext ++ [⟨e.eid, xs, leBytes 2 (e.p 0 2)⟩])))

/-! ## Objects, tenants and keys (03, 05) -/

/-- A PUT that passes its checks, with all its bytes, runs the pass: its bytes are counted and cut into chunks by its mode, and
each chunk is sent on its way in object order. Where every chunk hits or is stored, the PUT waits with its recipe for its
stripes and its journal record; the first failure ends it with that status. The bytes come from host memory, from a list
whose pieces hold them, or follow in the parameter block (R21, R85, R114). A PUT that names an INGEST window takes it and
waits for its bytes (R355). One whose bytes do not come for SWD_put_idle_ms ends with TIMEOUT (R115). The clauses that go
through them rest on choices of the model: log entries 17, 40, 47. -/
def Obligations.PutStarts : Prop :=
  (∀ (s : State) (eid : Nat) (e : Entry) (b : State) (fixed : Bool) (c : Instr) (list src : Fetch) (cmp : List Fetch) (pol : Policy)
      (g : Group) (p : PutRec) (data : Bytes), b = s.markBegun eid →
      ((c = .put eid list src cmp ∧ s.Starts eid 0x0101 e ∧ fixed = false)
        ∨ (c = .putInline eid list src cmp ∧ s.Starts eid 0x0102 e ∧ fixed = false)
        ∨ (c = .putFixed eid list src cmp ∧ s.Starts eid 0x0103 e ∧ fixed = true)) →
      b.putJudge e = .ok (pol, g) → p = b.newPut e pol g fixed → data.length = p.length →
      ((p.source = 0 ∧ src = .ok data)
        ∨ (p.source = 1 ∧ src = .ok data ∧ ∃ l, list = .ok l ∧ p.length ≤ sgBytes (l.take (16 * e.p 36 4)))
        ∨ (p.source = 3 ∧ (e.blk.drop 64).take p.length = data ∧ (e.blk.drop 64).length < p.length + 64)) →
      s.put eid = none →
      ∃ (u : PutRec) (w : State), exec c s = .next (w.runPass eid cmp)
        ∧ u = { p with landing := data } ∧ w.data.puts = s.data.puts ++ [u]
        ∧ w.data.objects = s.data.objects ∧ w.out = s.out
        ∧ ∀ v x, w.dispatchAll { u with placed := true, recipe := (chunksOf p.mode data).map fun k => hitEntry [] 0 0 0 0 k }
              (w.salt p.tenant) (chunksOf p.mode data) 0 0 cmp = (v, x, none) →
            exec c s = .next ((v.setPut x).advancePut eid))
  ∧ (∀ (s : State) (eid : Nat) (e : Entry) (b : State) (list src : Fetch) (cmp : List Fetch) (p : PutRec),
      b = s.markBegun eid →
      (∀ pol g i, s.Starts eid 0x0101 e → b.putJudge e = .ok (pol, g) → p = b.newPut e pol g false → p.source = 2 →
        b.windowFor p = .ok i →
        ∃ t, exec (.put eid list src cmp) s = .next t ∧ t.data.puts = s.data.puts ++ [p]
          ∧ t.drv.spaces = KMap.upd s.drv.spaces i (fun x => { x with bound := some eid }) ∧ t.out = s.out ∧ t.regs = s.regs)
      ∧ (s.put eid = some p → p.source = 2 → p.placed = false → p.lastByte + 3 * s.par Par.putIdleMs ≤ s.clk →
        exec (.putIdleTimeout eid) s = .next (s.endPut eid St.timeout 0x1101)))

/-- A PUT whose stripes are written and whose record is complete commits in its turn: its object is there, the PUT is not in
flight any more, Sward's counts rise, and its result is its chunks, its hits and the bytes stored (R21, R107, R114). The
clauses that go through them rest on choices of the model: log entries 17, 47. -/
def Obligations.PutCommits : Prop :=  ∀ (s u : State) (eid : Nat) (cmp : List Fetch) (p : PutRec), s.put eid = some p → p.eid = eid → p.jseq ≠ 0 → p.stripes = [] →
    (∀ r ∈ (s.journal p.dom).recs, r.jseq = p.jseq → r.st = .complete) → s.commitTurn p.dom p.jseq = true →
    s.mayWrite p.dom = true → s.applyPut p = .ok u →
    ∃ (w : State) (n : Nat), exec (.putCommit eid cmp) s = .next (State.applyDeletes p.dom n
        (((w.putAnswer p St.ok 0 (leBytes 4 p.recipe.length ++ leBytes 4 p.hits ++ leBytes 8 p.stored)).shipPut p).resumeWaiters p cmp))
      ∧ w.put eid = none
      ∧ w.data.objects = u.data.objects
      ∧ (∃ o ∈ w.data.objects, o.dom = p.dom ∧ o.tenant = p.tenant ∧ o.objId = p.objId ∧ o.length = p.length
          ∧ o.entries = p.recipe ∧ o.jseq = p.jseq ∧ o.extent = p.rcpExt ∧ o.dead = none)
      ∧ w.pair Reg.swdCntHitsLo = (u.pair Reg.swdCntHitsLo + p.hits) % 2 ^ 64

/-- GET and GET_RANGE deliver the bytes asked for of a committed object whose chunks open, and reply how many, with the object's
length (R24, R117, R119). The clauses that go through them rest on choices of the model: log entry 18. -/
def Obligations.GetDelivers : Prop :=  ∀ (s : State) (eid : Nat) (e : Entry) (b : State) (ranged : Bool) (c : Instr) (list : Fetch) (recs again : List Fetch)
    (k : Nat) (o : ObjRec) (lo n : Nat) (ps : List Piece) (out : Bytes), b = s.markBegun eid →
    ((c = .get eid list recs again true ∧ s.Starts eid 0x0111 e ∧ ranged = false ∧ lo = 0 ∧ n = o.length)
      ∨ (c = .getRange eid list recs again true ∧ s.Starts eid 0x0112 e ∧ ranged = true ∧ lo = e.p 20 8 ∧ n = e.p 28 4 ∧ n ≠ 0)) →
    e.p 18 1 = 0 → KMap.get? s.data.tenants (e.p 16 2) ≠ none → e.found = some k →
    s.data.objects.find? (fun x => x.extent == k) = some o → lo + n ≤ o.length → b.mayWrite o.dom = true →
    b.anyBasic 1 = true → b.anyBasic 3 = true → b.anyBasic 4 = true → b.basicFree (instKey 6 o.dom) = true →
    n ≤ e.h / 2 ^ 32 → e.ring ≠ 1023 →
    ps = (partsFrom 0 o.entries).filter (fun p => decide (p.off < lo + n) && decide (lo < p.off + p.len)) →
    b.openParts e.eid (e.p 16 2) ps recs again [] = (out, none) →
    ∃ (u : State) (body : Bytes), body = (out.drop (lo - (ps.head?.map (·.off)).getD lo)).take n
      ∧ exec c s = .next (u.okReply e (leBytes 8 body.length ++ leBytes 8 o.length))
      ∧ u.out = s.out ++ [.hostWrite e.fn (e.p 32 8) body]
      ∧ u.data = s.data ∧ u.regs = s.regs

/-- Objects and policies. OBJECT_STAT replies an object's length, chunks and sequence number (R108); DELETE_REF of a committed
object makes its DELETE record, which names it (R109); POLICY_CREATE replies the handle of a new policy of an outermost
group, POLICY_DESTROY removes one (R119). Reclamation (R110): once no PUT, GET or DELETE_REF consumed before an object's
deletion is outstanding, the object is forgotten, and so is every tombstone that is as old; on a domain this head does not
own nothing changes. The clauses that go through them rest on choices of the model: log entry 18. -/
def Obligations.ObjectsAndPolicies : Prop :=
  (∀ (s : State) (eid : Nat) (e : Entry) (b : State), b = s.markBegun eid →
      (∀ o, s.Starts eid 0x0131 e → KMap.get? s.data.tenants (e.p 16 2) ≠ none →
        b.objectIn (domsOf e.owned) (e.p 16 2) (e.area.take 16) = some o →
        exec (.objectStat eid) s
          = .next (b.okReply e (leBytes 8 o.length ++ leBytes 4 o.entries.length ++ leBytes 4 o.jseq)))
      ∧ (∀ o, s.Starts eid 0x0121 e → KMap.get? s.data.tenants (e.p 16 2) ≠ none →
        b.objectIn (domsOf e.owned) (e.p 16 2) (e.area.take 16) = some o → s.data.moves = [] → b.mayWrite o.dom = true →
        b.basicFree (instKey 6 o.dom) = true →
        exec (.deleteRef eid) s = .next ((b.startDelete eid o).shipDelete o))
      ∧ (∀ i g, s.Starts eid 0x0211 e → e.p 8 1 ≤ 3 → (e.p 10 2 = 0xFFFF ∨ KMap.get? s.data.tenants (e.p 10 2) ≠ none) →
        b.groupOf (e.p 0 8) = some (i, g) → g.outermost = true →
        ∃ u : State, exec (.policyCreate eid) s = .next (u.okReply e (leBytes 8 s.data.nextPolicy))
          ∧ u.data = { s.data with nextPolicy := s.data.nextPolicy + 1
                                   policies := KMap.put s.data.policies s.data.nextPolicy ⟨i, e.p 8 1, e.p 9 1, e.p 10 2⟩ })
      ∧ (∀ pol, s.Starts eid 0x0212 e → KMap.get? s.data.policies e.h = some pol →
        ∃ u : State, exec (.policyDestroy eid) s = .next (u.okReply e [])
          ∧ u.data = { s.data with policies := KMap.del s.data.policies e.h }))
  ∧ (∀ (s : State) (d : Fin 8),
      (s.owns d = true → s.tskFree d = true → ∀ o ∈ s.data.objects, o.dom = (d : Nat) → ∀ k, o.dead = some k → s.usersSince k = false →
        ∃ t, exec (.tombstoneReclaim d) s = .next t ∧ ∀ x ∈ t.data.objects, x.extent ≠ o.extent)
      ∧ ((s.owns d = false ∨ s.tskFree d = false) → exec (.tombstoneReclaim d) s = .next s))

/-- Tenant spaces. TENANT_CREATE makes a space with the salt given, or one drawn (R93); TENANT_DESTROY of a space that nothing
holds waits for the commands that name it, and its end, like that of a RETIRE, zeroizes the generations' keys (R119, R161).
TENANT_KEY_SET. NEW and RELOAD put a key that is accepted into the lowest free slot, bound to the space and generation, and
NEW makes the generation current (R159); RETIRE of an old generation waits for the commands that can use it (R161).
BRK_KEYLOAD (R155, R156). A GO loads a key in clear into an expert slot while a core is in Expert and the key store takes
keys in clear, loads the head wrapping key while the part is not provisioned, or zeroizes an expert slot; BRK_KEYIN clears.
A slot that fails is emptied and counted (R160). The clauses that go through them rest on choices of the model: log entries
2, 42. -/
def Obligations.TenantsAndKeys : Prop :=
  (∀ (s : State) (eid : Nat) (e : Entry) (b : State), b = s.markBegun eid →
      (s.Starts eid 0x0201 e → e.p 0 2 ≤ 16383 → s.tenant (e.p 0 2) = none →
        ∃ u : State, exec (.tenantCreate eid) s = .next (u.okReply e [])
          ∧ u.tenant (e.p 0 2) = some ⟨if pktFlag e.pkt 0 then slice e.blk 64 64 else s.drawn 64, 0, []⟩
          ∧ u.regs = s.regs ∧ u.out = s.out)
      ∧ (∀ x, s.Starts eid 0x0202 e → s.tenant (e.p 0 2) = some x →
        (∀ o ∈ s.data.objects, o.tenant = e.p 0 2 → o.dead ≠ none) → (∀ p ∈ s.data.policies, p.2.tenant ≠ e.p 0 2) →
        s.drv.conns = [] → s.drv.spaces = [] →
        exec (.tenantDestroy eid) s = .next ((b.beginRetire e (e.p 0 2) x.live true).tryRetire eid))
      ∧ (∀ r x, s.data.retires.find? (fun r => r.eid == eid) = some r → r.eid = eid → s.retireReady r = true →
        s.tenant r.tenant = some x → s.entry eid = some e →
        ∃ u : State, exec (.retireComplete eid) s = .next (u.okReply e
            (if r.destroy then [] else ({ x with live := x.live.filter fun g => !r.gens.contains g } : Tenant).result))
          ∧ (∀ k ∈ u.data.slots, ∀ g ∈ r.gens, k.2.bind ≠ .tenant r.tenant g)
          ∧ u.tenant r.tenant = (if r.destroy then none else some { x with live := x.live.filter fun g => !r.gens.contains g })
          ∧ ∀ q ∈ u.data.retires, q.eid ≠ eid))
  ∧ (∀ (s : State) (eid : Nat) (e : Entry) (b : State) (x : Tenant), b = s.markBegun eid → s.Starts eid 0x0203 e →
      s.tenant (e.p 0 2) = some x → e.p 3 1 = b2n s.clearKeys →
      (∀ u k i, e.p 2 1 = 0 → e.p 4 2 = x.cur + 1 → x.live.length < 4 →
        b.takeKey (e.p 3 1) (slice e.area 64 80) .xts256 (e.p 0 2) (e.p 4 2) = (u, .ok k) →
        u.tenantSlot (e.p 0 2) (e.p 4 2) = none → u.freeSlot = some i →
        exec (.tenantKeySet eid) s = .next (((u.setSlotKey i ⟨k, .xts256, .tenant (e.p 0 2) (e.p 4 2)⟩).setTenant (e.p 0 2)
          { x with cur := e.p 4 2, live := x.live ++ [e.p 4 2] }).okReply e
            (({ x with cur := e.p 4 2, live := x.live ++ [e.p 4 2] } : Tenant).result)))
      ∧ (∀ u k i, e.p 2 1 = 1 → x.live.contains (e.p 4 2) = true →
        b.takeKey (e.p 3 1) (slice e.area 64 80) .xts256 (e.p 0 2) (e.p 4 2) = (u, .ok k) →
        u.tenantSlot (e.p 0 2) (e.p 4 2) = none → u.freeSlot = some i →
        exec (.tenantKeySet eid) s = .next (((u.setSlotKey i ⟨k, .xts256, .tenant (e.p 0 2) (e.p 4 2)⟩).setTenant (e.p 0 2) x).okReply
          e x.result))
      ∧ (e.p 2 1 = 2 → x.live.contains (e.p 4 2) = true → e.p 4 2 ≠ x.cur →
        exec (.tenantKeySet eid) s = .next ((b.beginRetire e (e.p 0 2) [e.p 4 2] false).tryRetire eid)))
  ∧ (∀ (s : State) (val : W32) (slot : Nat), slot = fieldOf val.toNat 15 0 →
      (∀ ty, bitAt val.toNat 31 = true → KeyTy.ofCode (fieldOf val.toNat 18 16) = some ty → s.clearKeys = true →
        s.coreExpert = true → s.expertSlot slot = true → ty.halvesEqual (s.keyinBytes.take ty.len) = false →
        ∃ t, exec (.keyloadKey val) s = .next t
          ∧ t.data = { s.data with slots := KMap.put s.data.slots slot ⟨s.keyinBytes.take ty.len, ty, .expert⟩
                                   keyin := List.replicate 16 0 }
          ∧ t.rf Reg.brkKeystat 3 1 = 0 ∧ t.out = s.out)
      ∧ (bitAt val.toNat 31 = true → fieldOf val.toNat 18 16 = 4 → s.rbit Reg.fldStatus 1 = false →
        ∃ t, exec (.keyloadHwk val) s = .next t
          ∧ t.data = { s.data with hwk := some (s.keyinBytes.take 32), keyin := List.replicate 16 0 }
          ∧ t.rf Reg.brkKeystat 3 1 = 0 ∧ t.out = s.out)
      ∧ (bitAt val.toNat 31 = true → fieldOf val.toNat 18 16 = 7 → s.clearKeys = true → s.coreExpert = true →
        s.expertSlot slot = true →
        ∃ t, exec (.keyloadZeroize val) s = .next t
          ∧ t.data = { s.data with slots := s.data.slots.filter fun k => k.1 != slot, keyin := List.replicate 16 0 }
          ∧ t.rf Reg.brkKeystat 3 1 = 0 ∧ t.out = s.out)
      ∧ (∀ n k, KMap.get? s.data.slots n = some k → s.data.puts = [] →
        ∃ t, exec (.keySlotFault n) s = .next t ∧ t.data = { s.data with slots := s.data.slots.filter fun k => k.1 != n }
          ∧ t.rf Reg.brkCntEvents 31 16 = min 0xFFFF (s.rf Reg.brkCntEvents 31 16 + 1)))

/-! ## Descriptors of the engines (03 to 06) -/

/-- Bracken's descriptors. XTS writes as many bytes as it reads; GCM encryption writes the text and the tag after it; GCM
decryption writes the text where the tag is right, else zeros, and completes CHECK_MISMATCH; UNWRAP puts the key of a good
blob into its expert slot and fails with the status of the check that a bad one fails (R146, R148, R150, R157, R164).
Sward's descriptors (R121). CHUNK writes the records of the chunks of its source and their check fields; LOOKUP the entry of
each fingerprint of the tenant's index, or zeros; VERIFY completes OK where every block passes its check field, and names
the first failure else. Gorse's descriptors without a history image (R131, R134, R139 to R141). COMPRESS writes one frame
and completes with its length and the CRC of its source; DECOMPRESS of a good frame writes its content. The clauses that go
through them rest on choices of the model: log entries 22, 24, 46. -/
def Obligations.LaneDescriptors : Prop :=
  (∀ (s : State) (i : Fin 8) (k : Nat) (d b a : Bytes) (key : Bytes) (ok : Bool), k = instKey 4 i →
      s.brkJudge d = none →
      (s.brkKey d true = some key → 512 ≤ leAt d 16 8 → leAt d 16 8 ≤ 16777216 → leAt d 16 8 % 16 = 0 → b.length = leAt d 16 8 →
        (s.Runs k 1 d → exec (.brkXtsEncrypt i (.ok d) (.ok b) ok) s
          = .next ((s.xqWrite k (leAt d 24 8) (xtsEnc key (slice d 48 16) b)).done k d ⟨St.ok, 0, leAt d 16 8, 0, false⟩ ok))
        ∧ (s.Runs k 2 d → exec (.brkXtsDecrypt i (.ok d) (.ok b) ok) s
          = .next ((s.xqWrite k (leAt d 24 8) (xtsDec key (slice d 48 16) b)).done k d ⟨St.ok, 0, leAt d 16 8, 0, false⟩ ok)))
      ∧ (s.brkKey d false = some key → leAt d 16 8 ≤ 2 ^ 36 - 32 → leAt d 40 8 ≤ 2 ^ 32 → a.length = leAt d 40 8 →
        (s.Runs k 3 d → b.length = leAt d 16 8 → exec (.brkGcmEncrypt i (.ok d) (.ok b) (.ok a) ok) s
          = .next ((s.xqWrite k (leAt d 24 8) ((gcmEnc key (slice d 48 12) a b).1 ++ (gcmEnc key (slice d 48 12) a b).2)).done k d
              ⟨St.ok, 0, leAt d 16 8 + 16, 0, false⟩ ok))
        ∧ (s.Runs k 4 d → b.length = leAt d 16 8 + 16 →
          exec (.brkGcmDecrypt i (.ok d) (.ok b) (.ok a) ok) s = .next (
            match gcmDec key (slice d 48 12) a (b.take (leAt d 16 8)) (b.drop (leAt d 16 8)) with
            | some p => (s.xqWrite k (leAt d 24 8) p).done k d ⟨St.ok, 0, leAt d 16 8, 0, false⟩ ok
            | none => ((s.xqWrite k (leAt d 24 8) (zeros (leAt d 16 8))).bump Reg.brkCntEvents 15 0 1).done k d
                (XRes.fail St.checkMismatch 0x1303) ok)))
      ∧ (∀ u r, s.Runs k 5 d → b.length = leAt d 16 8 → s.unwrapKey b none 0xFFFF 0 = (u, r) →
        exec (.brkUnwrap i (.ok d) (.ok b) ok) s = .next (
          match r with
          | .ok (ty, key) => (u.setSlotKey (leAt d 2 2) ⟨key, ty, .expert⟩).done k d ⟨St.ok, 0, 0, 0, false⟩ ok
          | .error (st, dt) => u.done k d (XRes.fail st dt) ok)))
  ∧ (∀ (s : State) (i : Fin 16) (k : Nat) (d b cf : Bytes) (ok : Bool), k = instKey 1 i → s.swdJudge d = none →
      b.length = leAt d 16 8 →
      (∀ recs cfs used all, s.Runs k 1 d → chunkOut (s.salt (leAt d 2 2)) (leAt d 32 4) (leAt d 42 2) (leAt d 2 2) 0 (leAt d 36 6)
          (chunksOf (leAt d 1 1) b) = (recs, cfs, used, all) →
        exec (.swdChunk i (.ok d) (.ok b) ok) s = .next (((s.xqWrite k (leAt d 24 8) recs).xqWrite k (leAt d 44 8) cfs).done k d
          ⟨if all then St.ok else St.noSpace, if all then 0 else 0x1102, recs.length / 48 + 2 ^ 32 * used, 0, false⟩ ok))
      ∧ (∀ dom, s.Runs k 2 d → s.tenantDom (leAt d 2 2) = some dom → s.owns dom = true → b.length = 32 →
        48 ≤ leAt d 32 4 →
        exec (.swdLookup i (.ok d) (.ok b) ok) s = .next ((s.xqWrite k (leAt d 24 8)
          (((s.lookup dom b false).map s.idxBytes).getD (zeros 48))).done k d ⟨St.ok, 0, 1 + 2 ^ 32 * 32, 0, false⟩ ok))
      ∧ (s.Runs k 3 d → cf.length = 16 * ceilDiv (leAt d 16 8) 4096 →
        (∀ n, verifyBlocks cf (leAt d 36 6) (leAt d 42 2) (leAt d 2 2) 0 (blocksOf b) = (n, none) →
          exec (.swdVerify i (.ok d) (.ok b) (.ok cf) ok) s
            = .next (s.done k d ⟨St.ok, 0, 2 ^ 32 * leAt d 16 8, 0, false⟩ ok))
        ∧ (∀ n dt, verifyBlocks cf (leAt d 36 6) (leAt d 42 2) (leAt d 2 2) 0 (blocksOf b) = (n, some dt) →
          exec (.swdVerify i (.ok d) (.ok b) (.ok cf) ok) s
            = .next (s.done k d ⟨St.checkMismatch, dt, 2 ^ 32 * min (leAt d 16 8) (4096 * n), 0, false⟩ ok))))
  ∧ (∀ (s : State) (i : Fin 16) (d b : Bytes) (h : Fetch) (ok : Bool), b.length = leAt d 16 8 → leAt d 1 1 % 4 = 0 →
      (∀ k frame st, k = instKey 2 i → s.Runs k 1 d → grsJudge d 1 = none →
        gorseCompress (bitAt (leAt d 1 1) 2) none b = (frame, st) → frame.length ≤ leAt d 32 8 →
        exec (.grsCompress i (.ok d) (.ok b) h ok) s = .next (((s.countFrame b.length frame.length st).xqWrite k (leAt d 24 8) frame).done
          k d ⟨St.ok, 0, frame.length, crc32c b, false⟩ ok))
      ∧ (∀ k orig, k = instKey 3 i → s.Runs k 2 d → grsJudge d 2 = none → gorseHeaderCheck none b = none →
        gorseOrigLen b ≤ leAt d 32 8 → gorseDecompress none b = .ok orig →
        exec (.grsDecompress i (.ok d) (.ok b) h ok) s
          = .next ((s.xqWrite k (leAt d 24 8) orig).done k d ⟨St.ok, 0, orig.length, crc32c orig, false⟩ ok)))

/-- A digest context (R170 to R177). A claim takes the lowest free context in Expert, or reads NONE; START opens it with the
chaining value of its algorithm; GO runs a feed of whole blocks; a feed that completes absorbs its bytes and raises the
context's source; RESET and RELEASE zero it. Compares and faults of a context (R175, R176, R180). A compare of an open
context sets EQ or NE by its digest and its expect registers, and counts a mismatch; a feed with a cause of R175 faults the
context, which is zeroed and latched. The clauses that go through them rest on choices of the model: log entry 23. -/
def Obligations.DigestContexts : Prop :=
  (∀ (s : State) (i : Fin 32) (n : Nat) (val : W32) (c : Ctx), n = i.val → c = s.ctx n →
      ((List.range 32).find? (fun j => s.ctxHost j && (s.ctx j).st == .free) = some n →
        ∃ t, exec .thsClaim s = .next t ∧ (t.ctx n).st = .idle ∧ t.out = s.out ++ [.readData Reg.thsClaim n]
          ∧ t.regs = s.regs ∧ ∀ j, j ≠ n → t.ctx j = s.ctx j)
      ∧ ((List.range 32).find? (fun j => s.ctxHost j && (s.ctx j).st == .free) = none →
        exec .thsClaim s = .next (s.emit (.readData Reg.thsClaim 0x00400000)))
      ∧ (∀ a, s.OneAction n val 2 → Alg.ofCode (fieldOf val.toNat 1 0) = some a → (c.st = .idle ∨ c.st = .open_) →
        ∃ t, exec (.thsStart i val) s = .next t
          ∧ t.ctx n = { c with st := .open_, alg := a, h := a.iv, count := 0, eq := false, ne := false }
          ∧ (∀ j, j ≠ n → t.ctx j = s.ctx j) ∧ ∀ off, off ≠ Reg.thsCnCtrl n → t.reg off = s.reg off)
      ∧ (∀ len, s.OneAction n val 3 → bitAt val.toNat 7 = false → c.st = .open_ → len = (s.reg (Reg.thsCnLen n)).toNat →
        len ≠ 0 → len % c.alg.block = 0 → len ≤ 0xFFFFFF80 →
        ∃ t, exec (.thsGo i val) s = .next t ∧ t.ctx n = { c with st := .run, eq := false, ne := false, len := len, sg := 0 }
          ∧ (∀ j, j ≠ n → t.ctx j = s.ctx j) ∧ ∀ off, off ≠ Reg.thsCnCtrl n → t.reg off = s.reg off)
      ∧ (∀ b l, c.st = .run → c.feedCause l (.ok b) = none → b.length = c.len →
        exec (.feedComplete i l (.ok b)) s = .next ((s.setCtx n { c with
          st := .open_
          h := shaFeed c.alg c.h b
          count := c.count + c.len
          digest := shaDigest c.alg (shaFeed c.alg c.h b) }).edge (ctxSrc n)))
      ∧ (s.OneAction n val 5 → (c.st = .open_ ∨ c.st = .run ∨ c.st = .fault) →
        ∃ t, exec (.thsReset i val) s = .next t ∧ t.ctx n = { Ctx.zero with st := .idle, cause := c.cause }
          ∧ ∀ j < 16, t.reg (Reg.thsCnExpectK n j) = 0#32)
      ∧ (s.OneAction n val 6 → c.st ≠ .free →
        ∃ t, exec (.thsRelease i val) s = .next t ∧ t.ctx n = { Ctx.zero with st := .free, cause := c.cause }
          ∧ ∀ j < 16, t.reg (Reg.thsCnExpectK n j) = 0#32))
  ∧ (∀ (s : State) (i : Fin 32) (n : Nat) (val : W32) (c : Ctx), n = i.val → c = s.ctx n →
      (∀ same, s.OneAction n val 4 → c.st = .open_ → fieldOf val.toNat 14 8 ≠ 0 → fieldOf val.toNat 14 8 ≤ c.alg.outLen →
        same = ((padTo c.digest 64).take (fieldOf val.toNat 14 8) == ((List.range 16).flatMap fun j =>
          leBytes 4 (s.reg (Reg.thsCnExpectK n j)).toNat).take (fieldOf val.toNat 14 8)) →
        ∃ t, exec (.thsCompare i val true false) s = .next t ∧ t.ctx n = { c with eq := same, ne := !same }
          ∧ (same = false → t.rf Reg.thsCntEvents 31 16 = min 0xFFFF (s.rf Reg.thsCntEvents 31 16 + 1))
          ∧ (same = true → t.reg Reg.thsCntEvents = s.reg Reg.thsCntEvents)
          ∧ ∀ j, j ≠ n → t.ctx j = s.ctx j)
      ∧ (∀ l d k, 3 ≤ n → c.st = .run → c.feedCause l d = some k → s.rbit Reg.thsErr 31 = false →
        ∃ t, exec (.feedFault i l d) s = .next t
          ∧ t.ctx n = { c with st := .fault, h := [], count := 0, digest := [], cause := k }
          ∧ t.rbit Reg.thsErr 31 = true ∧ t.rf Reg.thsErr 11 8 = k % 16 ∧ t.rf Reg.thsErr 4 0 = n
          ∧ t.rf Reg.thsCntEvents 15 0 = min 0xFFFF (s.rf Reg.thsCntEvents 15 0 + 1)
          ∧ ∀ j, j ≠ n → t.ctx j = s.ctx j))

/-! ## Groups, stripes and the journal (07, 08) -/

/-- Group commands on a tree of an owned domain whose instance is in Basic and which does not move (R186, R211 to R214).
GROUP_CREATE makes the nodes it was judged fit for, records them and replies the handle and the data blocks once the labels
are written; GROUP_DESTROY of an outermost group that nothing holds drops its nodes; GROUP_QUERY replies its state and
geometry; MEMBER_ATTACH makes a spare slice on the lowest free node. DOMAIN_MOVE (R215). The move point fixes the commands
to wait for and replies PENDING; the move then goes step by step: to 3 when they have completed, to 4 when every stripe of
the tree is sealed and written, to 5 when its entries and objects stand in the target domain, and it ends OK when the labels
are written and the source domain's image is moved. The clauses that go through them rest on choices of the model: log
entries 25, 48. -/
def Obligations.GroupCommands : Prop :=
  (∀ (s : State) (eid : Nat) (e : Entry) (b : State), b = s.markBegun eid →
      (∀ lab c u gi g, s.Starts eid 0x1001 e → b.judgeCreate e lab = .ok c → b.buildGroup c = (u, gi) → u.group? gi = some g →
        exec (.groupCreate eid lab) s = .next ((u.note c.dom .tree ((u.treeNodes gi).map u.nodeItem)).writeLabels gi eid .create
          (leBytes 8 (handleOf gi g) ++ leBytes 8 g.dataBlocks)))
      ∧ ∀ i g, b.groupOf e.h = some (i, g) → b.groupGate g.dom (some (b.rootOf i)) = none →
        (s.Starts eid 0x1002 e → g.parent = none → (∀ p ∈ s.data.policies, p.2.root ≠ i) → (s.tree i).exts = [] →
          ∃ u : State, exec (.groupDestroy eid) s = .next ((u.note g.dom .tree ((b.treeNodes i).map u.nodeItem)).okReply e [])
            ∧ u = (b.clearLabels (b.treeLeaves i) g.dom).dropTree i)
        ∧ (s.Starts eid 0x1003 e → exec (.groupQuery eid) s = .next (b.okReply e ([byteOf g.st.code, byteOf (b2n g.parity),
            byteOf g.m, byteOf g.k, byteOf g.suLog2, byteOf g.dom, byteOf (lostMembers s.data.nodes g), 0] ++ leBytes 8 g.dataBlocks)))
        ∧ (∀ lab m n u, s.Starts eid 0x1004 e → m = memberOf e.area → m.kind = 0 → b.sliceBad m (b.labelBlocks (b.rootOf i)) g.unit lab = false →
          b.largestU g (b.labelBlocks (b.rootOf i)) ≤ (m.count - b.labelBlocks (b.rootOf i)) / g.unit * g.unit →
          1 ≤ b.nodesFree → imageFits (b.labelBlocks (b.rootOf i) / 256) ((b.treeNodes (b.rootOf i)).length + 1) = true →
          n = (b.takeNodes 1).headD 0 →
          u = (b.setNode n (.leaf ⟨.spare, m.nsid, i, 0xFF, m.fdom, 0, m.start, m.count, 0, false, false⟩)).setNode i
            (.group { g with spares := g.spares ++ [n] }) →
          exec (.memberAttach eid lab) s = .next ((((u.note g.dom .tree [u.nodeItem n, u.nodeItem i]).writeLabels (b.rootOf i) eid
            .reply []).dsm ⟨.spare, m.nsid, i, 0xFF, m.fdom, 0, m.start, m.count, 0, false, false⟩ 2 0 (b.labelBlocks (b.rootOf i))))))
  ∧ (∀ (s : State) (eid : Nat) (e : Entry) (b : State), b = s.markBegun eid →
      (∀ i g dst, s.Starts eid 0x100A e → dst = e.p 0 1 → b.groupOf e.h = some (i, g) → g.outermost = true → dst ≤ 7 → g.dom ≠ dst →
        b.groupGate g.dom (some i) = none → b.groupGate dst none = none → b.treeBusy i = false →
        exec (.domainMove eid) s = .next ((b.onData fun d => { d with
          moves := d.moves ++ [⟨eid, i, g.dom, dst, 2, b.admitted fun x => decide (x.eid < eid) && b.onTree i x⟩] }).pendReply e))
      ∧ (∀ m, s.moveAt eid 2 = some m →
        (s.allDone m.waits = true → exec (.domainMoveDrained eid) s = .next (s.onMove eid fun m => { m with step := 3 }))
        ∧ (s.allDone m.waits = false → exec (.domainMoveDrained eid) s = .next s))
      ∧ (∀ m, s.moveAt eid 3 = some m →
        (s.treeQuiet m.root = true → exec (.domainMoveSealed eid) s = .next (s.onMove eid fun m => { m with step := 4 }))
        ∧ (s.treeQuiet m.root = false → exec (.domainMoveSealed eid) s = .next s))
      ∧ (∀ m, s.moveAt eid 4 = some m → m.src ≠ m.dst →
        ∃ u : State, exec (.domainMoveScanDone eid) s = .next (u.writeLabels m.root eid .move [])
          ∧ (∃ x, u.moveAt eid 5 = some x)
          ∧ ∀ o ∈ u.data.objects, extRoot o.extent = m.root → o.dom ≠ m.src)
      ∧ (∀ m, s.moveAt eid 5 = some m → s.labelling m.root = false → s.imageMoved m = true → s.entry eid = some e →
        ∃ u : State, exec (.domainMoveLabelsDone eid) s = .next (u.okReply e [])
          ∧ u.data = { s.data with moves := s.data.moves.filter fun x => x.eid != eid }))

/-- Stripes and small writes. A complete stripe that is not locked is issued whole; an open stripe that has been open for
TSK_seal_ms is sealed, its unfilled blocks zero; the stripe open longest is sealed while the journal is too full; a small
write whose record is complete and whose stripes are free is issued, and is gone when every member write is acknowledged. A
member read of one block (R206, R207, R234). A block whose tag is right changes nothing; a block marked lost ends the
command that reads it with STRIPE_LOST; a block that fails its tag is counted, written back as it is reconstructed, where it
can be, and ends the command with STRIPE_LOST where it cannot. A node that fails its NCRC ends the command with INTERNAL
(R189). The clauses that go through them rest on choices of the model: log entries 17, 94. -/
def Obligations.StripesAndReads : Prop :=
  (∀ (s : State) (root block : Nat),
      (∀ w, s.data.stripesW.find? (fun w => w.root == root && w.block == block && !w.issued) = some w → s.locked root block = false →
        s.mayWrite (s.rootDom root) = true →
        exec (.fullStripeWrite root block) s = .next (s.issueStripe w)
          ∧ ∀ x ∈ (s.issueStripe w).data.stripesW, x.root = root → x.block = block → x.issued = true)
      ∧ (∀ g r d, s.group? root = some g → (s.tree root).recRun = some r → (s.tree root).rcpRun = none → r.spillLo / 4096 = block →
        r.sealed_ = false → r.spill ≠ [] → r.openedAt + 3 * s.par Par.sealMs ≤ s.clk → s.tskFree (s.rootDom root) = true → d = (g.geoAt block).d →
        ∃ t, exec (.stripeSeal root block) s = .next t
          ∧ t.data.stripesW = s.data.stripesW ++ [⟨root, block, padTo r.spill (4096 * d), r.spill.length, false, []⟩]
          ∧ ((t.tree root).recRun.map (·.sealed_)) = some true)
      ∧ (s.tskFree (s.rootDom root) = false → exec (.stripeSeal root block) s = .next s)
      ∧ (∀ d : Fin 8, (s.journalFull d = false →
          exec (.journalFillSeal d) s = .next (s.setJournal d { s.journal d with sealing := false }))
        ∧ (∀ at_, s.journalFull d = true → s.openStripes d = [(at_, root, block)] →
          exec (.journalFillSeal d) s
            = .next ((s.setJournal d { s.journal d with sealing := true }).sealAt root block fun _ => true)))
      ∧ (∀ id w g old lo hi, s.data.smalls.find? (fun w => w.id == id && w.stage == 0) = some w → s.group? w.root = some g →
        s.smallSpan w = (lo, hi) → s.smallReady w = true →
        (∀ x ∈ s.data.smalls, x.root = w.root → x.id < id → ¬ (x.block < hi ∧ lo < x.block + x.data.length / 4096)) →
        s.locked w.root w.block = false → s.locked w.root (hi - 1) = false →
        (∀ x ∈ s.data.stripesW, x.root = w.root → ¬ (lo ≤ x.block ∧ x.block < hi)) → g.st ≠ .failed → s.mayWrite w.dom = true →
        ∃ t cs, exec (.smallWrite id (.ok old)) s = .next t
          ∧ t.data.smalls = s.data.smalls.map fun x => if x.id == id then { x with stage := 1, acks := cs } else x)
      ∧ (∀ id w, s.data.smalls.find? (fun w => w.id == id) = some w → w.stage = 1 → w.acks = [] →
        ∃ t, exec (.smallWriteDone id) s = .next t
          ∧ t = { s with data := { s.data with smalls := s.data.smalls.filter fun x => x.id != id } }))
  ∧ (∀ (s : State) (nsn lba : Nat) (blk tag : Bytes) (eid i : Nat) (l0 l : Leaf) (off : Nat), s.leafAt nsn lba = some (i, l0, off) →
      s.leaf? i = some l → blk.length = 4096 → tag.length = 16 →
      (tagSays (s.tagWant l off) blk tag = .right → ∀ r, exec (.memberReadComplete nsn lba true blk tag r eid true) s = .next s)
      ∧ (tagSays (s.tagWant l off) blk tag = .lost → ∀ r, exec (.memberReadComplete nsn lba true blk tag r eid true) s
          = .next (s.finalOf eid St.stripeLost 0x1502 []))
      ∧ (tagSays (s.tagWant l off) blk tag = .wrong →
          (∀ r, r.length = 4096 → exec (.memberReadComplete nsn lba true blk tag (some r) eid true) s
            = .next ((s.tagFailed i l (tagErrIsAddr blk tag)).repairBlk i l off r))
          ∧ exec (.memberReadComplete nsn lba true blk tag none eid true) s
            = .next ((s.tagFailed i l (tagErrIsAddr blk tag)).finalOf eid St.stripeLost 0x1501 []))
      ∧ (∀ r, r.length = 4096 → exec (.memberReadComplete nsn lba false blk tag (some r) eid true) s
            = .next ((s.tagFailed i l false).repairBlk i l off r))
      ∧ ∀ r ok, exec (.memberReadComplete nsn lba ok blk tag r eid false) s = .next (((s.latch errTsk (s.rootDom (s.rootOf i)) 6).sklHw
          0x10 (s.rootDom (s.rootOf i)) 6 0).finalOf eid St.internal 0x1501 []))

/-- Tussock's descriptors (R192, R195, R218). ENCODE writes the K parity units of its data units; DECODE the erased units as the
others determine them; WALK one record for each level of a block; READ the blocks asked for, each checked by its tag. The
clauses that go through them rest on choices of the model: log entry 26. -/
def Obligations.TussockDescriptors : Prop :=  ∀ (s : State) (i : Fin 8) (k : Nat) (d : Bytes) (srcs : List Fetch) (list : Bytes) (us : List Bytes) (ok : Bool), k = instKey 6 i →
    (s.Runs k 1 d → tskCodeOk d = true → s.tskSrc k (srcs.headD .failed) (8 * (leAt d 1 1 + leAt d 2 1)) = .ok list →
      s.tskSrcs k (leAt d 16 8) ((srcs.drop 1).take (leAt d 1 1)) = .ok us → us.length = leAt d 1 1 →
      exec (.tskEncode i (.ok d) srcs ok) s = .next ((s.tskStore k list
          ((parityEncode (leAt d 16 8) (leAt d 2 1) us).zipIdx.map fun (p, j) => (leAt d 1 1 + j, p))).done k d
        ⟨St.ok, 0, leAt d 16 8 * (parityEncode (leAt d 16 8) (leAt d 2 1) us).length, 0, false⟩ ok))
    ∧ (∀ erased ds, s.Runs k 2 d → tskCodeOk d = true → s.tskSrc k (srcs.headD .failed) (8 * (leAt d 1 1 + leAt d 2 1)) = .ok list →
      erased = (List.range (leAt d 1 1 + leAt d 2 1)).filter (bitAt (leAt d 24 8)) →
      s.tskSrcs k (leAt d 16 8) ((List.range (leAt d 1 1 + leAt d 2 1)).map fun j =>
        if erased.contains j then Fetch.ok [] else (srcs.drop 1).getD j .failed) = .ok us →
      parityDecode (leAt d 16 8) (leAt d 1 1) (us.zipIdx.map fun (u, j) => if erased.contains j then none else some u) = some ds →
      exec (.tskDecode i (.ok d) srcs ok) s = .next ((s.tskStore k list
          (erased.map fun j => (j, (ds ++ parityEncode (leAt d 16 8) (leAt d 2 1) ds).getD j []))).done k d
        ⟨St.ok, 0, leAt d 16 8 * erased.length, 0, false⟩ ok))
    ∧ (∀ gi g out, s.Runs k 3 d → zeroAt d 3 1 = true → zeroAt d 60 4 = true → s.tskGroup i d 1 = .ok (gi, g) →
      out = (s.walk gi (leAt d 40 8)).flatMap WalkStep.bytes →
      exec (.tskWalk i (.ok d) srcs ok) s = .next ((s.xqWrite k (leAt d 52 8) out).done k d ⟨St.ok, 0, out.length, 0, false⟩ ok))
    ∧ (∀ gi g n out, s.Runs k 4 d → zeroAt d 3 1 = true → zeroAt d 60 4 = true → n = leAt d 48 4 → 1 ≤ n → n ≤ 64 →
      s.tskGroup i d n = .ok (gi, g) →
      s.tskBlocks gi (leAt d 40 8) ((List.range n).map fun x => srcs.getD x .failed) = .ok out →
      exec (.tskRead i (.ok d) srcs ok) s = .next ((s.xqWrite k (leAt d 52 8) out).done k d ⟨St.ok, 0, out.length, 0, false⟩ ok))

/-- Journal records (R223, R224). A record whose copies have all acknowledged it is complete, waiting records are issued, and
deletes take effect in their turn; the oldest record whose effects are all on flash is released and the header written; a
record that has waited for ring space for TSK_jwait_ms fails its command with NO_SPACE. Journal copies (R220, R221, R225). A
copy whose slice has left ONLINE is not valid any more, and an event is raised; a missing copy is placed beside the
survivor; a placement whose writes are acknowledged makes the copy valid, and waiting records are issued; a command that has
needed two copies for TSK_jwait_ms fails with MEDIA_ERROR; a copy B in the failure domain of A is placed anew where another
can be had. The clauses that go through them rest on choices of the model: log entry 49. -/
def Obligations.JournalRecords : Prop :=
  (∀ (s : State) (d : Fin 8) (jseq : Nat) (r : JRec),
      ((s.journal d).recs.find? (fun r => r.jseq == jseq) = some r → s.recAcked r = true → r.ty ≠ .lost →
        ∃ (u : State) (n : Nat), exec (.journalRecordComplete d jseq) s = .next (State.applyDeletes d n u)
          ∧ u = (s.onRec d jseq fun r => { r with st := .complete }).issueWaiting d)
      ∧ (∀ rest u, (s.journal d).recs = r :: rest → r.jseq = jseq → s.recOnFlash d r = true →
        u = ((s.dropRec d jseq).writeHeader d).issueWaiting d →
        exec (.journalRelease d jseq) s
          = .next (u.setJournal d { u.journal d with sealing := (u.journal d).sealing && u.journalFull d }))
      ∧ (∀ e, (s.journal d).recs.find? (fun r => r.jseq == jseq && r.st == .waiting) = some r → s.issuesNow (s.journal d) r = true →
        r.since + 3 * s.par Par.jwaitMs ≤ s.clk → r.eid ≠ 0 → s.put r.eid = none → s.entry r.eid = some e →
        (s.dropRec d r.jseq).ez.queue = s.ez.queue →
        exec (.journalSpaceTimeout d jseq) s = .next ((s.dropRec d r.jseq).fail e St.noSpace 0x1505)))
  ∧ (∀ (s : State) (d : Fin 8) (j : Journal), j = s.journal d →
      (∀ i, j.a.valid = true → j.a.leaf = some i → (∀ l, s.leaf? i = some l → l.st ≠ .online) →
        ∃ t, exec (.journalCopyLost d false) s = .next t
          ∧ t = (s.onCopy d 0 fun c => { c with valid := false, lostAt := s.clk }).copyEvent d false i)
      ∧ (∀ x, s.mayWrite d = true → s.tskFree d = true → s.copyMissing j.a = true → s.copyMissing j.b = false →
        otherCopy ((s.setJournal d { j with a := { j.a with leaf := none, placing := false, acks := [] } }).eligibleLeaves d)
          (s.fdomOf (j.b.leaf.getD 0)) = some x →
        exec (.journalCopyPlace d) s = .next (((s.setJournal d { j with
          a := { j.a with leaf := none, placing := false, acks := [] } }).placeCopy d 0 x.1).checkFd d))
      ∧ (j.a.placing = true → j.a.acks = [] →
        ∃ u : State, exec (.journalCopyValid d false) s = .next (u.issueWaiting d)
          ∧ u = s.setJournal d { j with
            a := { j.a with valid := true, placing := false, lostAt := 0 }
            recs := j.recs.map fun r => if r.st != .issued then r else { r with toA := true, ackA := true } })
      ∧ (∀ r, s.copyOk j.a = false → j.recs = [r] → r.st ≠ .complete → r.eid ≠ 0 → j.a.lostAt = 0 → j.b.lostAt = 0 →
        r.since + 3 * s.par Par.jwaitMs ≤ s.clk →
        exec (.journalCopyTimeout d) s = .next (s.failRec d r St.mediaError 0x1503))
      ∧ (∀ x, j.samefd = true → s.copyOk j.a = true → s.copyOk j.b = true → j.newB.leaf = none → s.mayWrite d = true → s.tskFree d = true →
        (s.eligibleLeaves d).find? (fun e => e.2.fdom != s.fdomOf (j.a.leaf.getD 0)) = some x →
        exec (.samefdReplace d) s = .next (s.placeCopy d 2 x.1)))

/-- Replacement and rebuild (R228 to R232, R235). A failed leaf takes the spare that R228 finds, and without one an event is
raised; MEMBER_REPLACE does the same on command; MEMBER_REBUILD holds or resumes a group's pass and replies its progress; a
rebuild step works on the lowest stripe that its leaves still need; LOST_LIST_READ delivers the used entries. Reshape (R236
to R240). RESHAPE_START that passes its checks adds the members and replies the new generation and the stop once the labels
are written; a step of a mirror copies the next new stripe; a zero step writes zeros; at the end of the zero pass the new
geometry is the group's; a held reshape resumes while the group is OPTIMAL; RESHAPE_QUERY replies the RESHAPE field. The
clauses that go through them rest on choices of the model: log entries 49, 50. -/
def Obligations.RebuildAndReshape : Prop :=
  (∀ (s : State) (eid : Nat) (e : Entry) (b : State), b = s.markBegun eid →
      (∀ leaf l g, s.leaf? leaf = some l → (l.st = .failed ∨ l.st = .missing) → s.par Par.autoSpare = 1 →
        s.owns (s.rootDom (s.rootOf leaf)) = true → s.group? l.parent = some g →
        (∀ n u ns, s.spareFor l.parent g = some n → s.takeSpare l.parent leaf n = (u, ns) →
          exec (.autoSpareReplace leaf) s = .next (u.treeChange (s.rootOf leaf) ns))
        ∧ (s.spareFor l.parent g = none → exec (.autoSpareReplace leaf) s = .next (s.event (Reg.tskTree + 0x1000))))
      ∧ (∀ gi g, b.groupOf e.h = some (gi, g) → b.groupGate g.dom (some (b.rootOf gi)) = none →
        (∀ i l n u ns, s.Starts eid 0x1005 e → g.members[e.p 0 1]? = some i → s.leaf? i = some l → e.p 4 4 = noNode →
          (l.st = .failed ∨ l.st = .missing) → b.spareFor gi g = some n → b.takeSpare gi i n = (u, ns) →
          exec (.memberReplace eid) s
            = .next ((u.note g.dom .tree (ns.map u.nodeItem)).writeLabels (b.rootOf gi) eid .reply []))
        ∧ (∀ x xs t, s.Starts eid 0x1006 e → e.p 0 1 = 0 → (b.rebuilding g).map (fun x => x.2.rbNext) = x :: xs →
          t = (b.rebuilding g).foldl (fun s x => s.setNode x.1 (.leaf { x.2 with hold := false })) b →
          exec (.memberRebuild eid) s = .next (t.okReply e (leBytes 8 (xs.foldl min x) ++ leBytes 8 g.stripes)))
        ∧ (∀ out, s.Starts eid 0x1009 e → g.outermost = true → e.p 8 8 % 64 = 0 → 1 ≤ e.p 4 4 → e.p 4 4 ≤ 65536 → e.ring ≠ 1023 →
          out = (usedLost (s.tree gi).lostList (e.p 0 4)).take (e.p 4 4) →
          ∃ next, exec (.lostListRead eid true) s = .next ((b.emit (.hostWrite e.fn (e.p 8 8) (out.flatMap fun x => x.2.bytes))).okReply e
              (leBytes 4 out.length ++ leBytes 4 next ++ [byteOf (b2n (b.lostFull gi))]))
            ∧ (out.length = (usedLost (s.tree gi).lostList (e.p 0 4)).length → next = 0xFFFFFFFF)))
      ∧ (∀ gi g x xs units up above, s.group? gi = some g →
        ((s.rebuilding g).filter fun x => !x.2.hold).map (fun x => x.2.rbNext) = x :: xs → s.passMay gi g = true →
        s.owns g.dom = true → s.basicFree (instKey 6 g.dom) = true →
        s.locked (s.rootOf gi) (s.lift gi (xs.foldl min x * (g.geoOfStripe (xs.foldl min x)).d)) = false →
        ∃ u : State, exec (.rebuildStep gi units up above) s = .next (u.rebuildAt gi g (xs.foldl min x) units up above)
          ∧ u.data = { s.data with passes := (gi :: s.data.passes).eraseDups }))
  ∧ (∀ (s : State) (eid : Nat) (e : Entry) (b : State), b = s.markBegun eid →
      (∀ gi g, b.groupOf e.h = some (gi, g) → b.groupGate g.dom (some (b.rootOf gi)) = none →
        (∀ lab ms u h fresh, s.Starts eid 0x1007 e → ms = e.members (e.p 2 1) → 64 + 32 * e.p 2 1 ≤ e.area.length →
          reshapeOk g (e.p 0 1) (e.p 1 1) = true → e.p 0 1 + e.p 1 1 = g.m + g.k + ms.length → b.judgeAdded gi g ms lab = none →
          g.st = .optimal → b.treeBusy (b.rootOf gi) = false →
          fresh = ceilDiv (e.p 0 1 + e.p 1 1) 12 - g.lists.length + (ms.filter fun m => m.kind == 0).length → fresh ≤ b.nodesFree →
          imageFits (b.labelBlocks (b.rootOf gi) / 256) ((b.treeNodes (b.rootOf gi)).length + fresh + b.memberNodes ms) = true →
          u = b.beginReshape gi g (e.p 0 1) (e.p 1 1) ms → u.group? gi = some h →
          ∃ items, exec (.reshapeStart eid lab) s = .next ((u.note g.dom .tree items).writeLabels (b.rootOf gi) eid .reply
            (leBytes 2 h.reshape.gen ++ zeros 6 ++ leBytes 8 h.reshape.stop)))
        ∧ (s.Starts eid 0x1008 e → exec (.reshapeQuery eid) s = .next (b.okReply e
            ([byteOf g.reshape.st, byteOf g.reshape.m, byteOf g.reshape.k, 0] ++ leBytes 6 g.reshape.next ++ leBytes 6 g.reshape.stop))))
      ∧ (∀ gi g, s.group? gi = some g → s.mayReshape g = true →
        (∀ old, g.reshape.st = 1 → s.stepBlocked gi g = false → g.st = .optimal → g.parity = false →
          ∃ lost blks, exec (.reshapeStep gi (.ok old)) s = .next ((s.moveLost (s.rootOf gi) gi g lost).writeStep gi g blks)
            ∧ blks.length = g.newGeo.d
            ∧ ∀ i < g.newGeo.d, g.reshape.next * g.newGeo.d + i < g.dataBlocks →
                (blks[i]?.map Blk.data) = some (padTo (slice old (4096 * i) 4096) 4096))
        ∧ (g.reshape.st = 2 → g.reshape.next < g.stripes → g.st = .optimal →
          exec (.reshapeZeroStep gi) s = .next (s.writeStep gi g (List.replicate g.newGeo.d ⟨zeros 4096, true, true, false⟩)))
        ∧ (g.reshape.st = 2 → g.stripes ≤ g.reshape.next →
          ∃ n u, exec (.reshapeComplete gi) s = .next (u : State)
            ∧ n = s.stripesOf (s.labelBlocks (s.rootOf gi)) g.unit g.members
            ∧ u = (((s.setNode gi (.group { g with
                m := g.reshape.m, k := g.reshape.k, gen := g.reshape.gen, stripes := n, dataBlocks := n * g.newGeo.d
                reshape := Reshape.none })).restate gi).treeChange (s.rootOf gi) (s.upFrom gi)).event (Reg.tskBg + 0x1000))
        ∧ (g.reshape.st = 3 → g.st = .optimal → ∃ t, exec (.reshapeResume gi) s = .next t
            ∧ t.group? gi = some { g with reshape := { g.reshape with st := g.reshape.heldIn, heldIn := 0 } })))

/-! ## Flash ports (09) -/

/-- Drive commands (R247, R250). A write that succeeds ends the work that waited for it; a command outstanding for
FPT_cmd_timeout_ms is aborted and the port's error latched; an Abort not answered in 1,000 ms resets the controller; a
controller that does not become ready loses its namespaces. Removal, insertion and namespaces (R243, R244, R247, R248, R251,
R252). DPC contains a port: its namespaces are absent and its leaves become MISSING at the next boundary; its release ends
that; a settled insertion shows the port's link and the namespaces found there; an ANA state of Inaccessible makes a
namespace unusable; a namespace that is absent and that no leaf names gives up its number. The clauses that go through them
rest on choices of the model: log entry 27. -/
def Obligations.FlashPorts : Prop :=
  (∀ (s : State) (cid : Nat) (c : NvCmd),
      (s.cmdOf cid = some c →
        exec (.nvmeCompletion cid 0) s
            = .next ((s.setPort c.port { s.port c.port with resetting := false }).writeEnd c true)
        ∧ (c.stage = 0 → c.at_ + 3 * s.par Par.cmdTimeoutMs ≤ s.clk → s.rbit Reg.fptErr 31 = false →
          ∃ t, exec (.nvmeCommandTimeout cid) s = .next t ∧ t.rbit Reg.fptErr 31 = true ∧ t.rf Reg.fptErr 11 8 = 1
            ∧ (∃ more, t.out = s.out ++ .nvmeAdmin "Abort" c.port cid :: more)
            ∧ ∀ x ∈ t.fpt.cmds, x.cid = cid → x.stage = 1)
        ∧ (c.stage = 1 → c.stageAt + 3000 ≤ s.clk → s.fpt.cmds = [c] → c.retried = false → c.held = false → c.cid = cid →
          ∃ t, exec (.abortTimeout cid) s = .next t ∧ (t.port c.port).resetting = true
            ∧ t.out = s.out ++ [.nvmeAdmin "controller reset" c.port 0, .nvme c.cid c.nsn c.lba c.n c.data c.tags]
            ∧ t.fpt.cmds = [{ c with retried := true, stage := 0, at_ := s.clk }]))
      ∧ (∀ p : Fin 16, (s.port p).resetting = true → (∀ c ∈ s.fpt.cmds, c.port ≠ (p : Nat)) →
        exec (.controllerReadyTimeout p) s = .next (((s.setPort p { s.port p with resetting := false }).setPresent (s.nsBehind p)
          false).markMissing (s.nsBehind p))))
  ∧ (∀ (s : State) (p : Fin 16) (n : Nat),
      (∀ gone, (s.port p).dpc = false → (∀ c ∈ s.fpt.cmds, c.port ≠ (p : Nat)) → ∃ t, exec (.dpcTrigger p gone) s = .next t
        ∧ (t.port p).dpc = true ∧ (t.port p).removed = true ∧ t.rbit (Reg.fptEvt p) 4 = true
        ∧ ∀ x ∈ t.fpt.ns, x.2.port = (p : Nat) → (KMap.get? s.fpt.ns x.1).any (fun y => y.port == (p : Nat)) = true → x.2.present = false)
      ∧ ((s.port p).removed = true →
        exec (.missingMark p) s = .next ((s.setPort p { s.port p with removed := false }).markMissing (s.nsBehind p)))
      ∧ (exec (.dpcRelease p) s = .next (s.setPort p { s.port p with dpc := false }))
      ∧ (∀ x id speed width flit, (s.port p).removed = false → (s.port p).dpc = false → (s.port p).present = true →
        (p : Nat) < s.portCount → id = padTo x.nguid 16 → s.nsNumber id = some n → s.data.nodes = [] → x.labels = [] →
        ∃ t, exec (.insertionSettled p [x] speed width flit) s = .next t
          ∧ t.port p = ⟨speed % 4, width % 32, flit, false, true, false, false⟩
          ∧ t.nsOf n = some ⟨id, true, x.qualified, x.mset, p, x.lbas, x.ana != 3 && x.ana != 4⟩)
      ∧ (∀ x st, s.nsOf n = some x → (st = 3 ∨ st = 4) →
        exec (.anaChange n st) s = .next ((s.onFpt fun f => { f with ns := KMap.put f.ns n { x with anaOk := false } }).markMissing [n]))
      ∧ (∀ c, (c = 0 ∨ c = 1 ∨ c = 3) → ∃ t, exec (.portError p c) s = .next t ∧ t.rbit (Reg.fptEvt p) c = true
        ∧ (∀ o, o ≠ Reg.fptEvt p → t.reg o = s.reg o) ∧ t.data = s.data ∧ t.fpt = s.fpt)
      ∧ (∀ x, s.nsOf n = some x → x.present = false → s.data.nodes = [] → ∃ t, exec (.nsUnbind n) s = .next t
        ∧ t.nsOf n = none ∧ t.fpt.full = false ∧ ∀ m, m ≠ n → t.nsOf m = s.nsOf m))

/-! ## Tape (10 to 12) -/

/-- A cartridge's life in a transport (R320, R324, R328, R329, R333, R334). CARTRIDGE_MOUNT of a good cartridge memory starts
the load, and a bad one fails; LOADED starts the acquisition; two position words in a row of a locked servo make the address
valid and start the calibration, and its end completes the mount, where DIRTY was clear; CARTRIDGE_UNLOAD with nothing to
write rewinds; at rest UNLOAD is sent, and the loss of LOADED ends the unload. A load of 30 s and a reel link silent for 2
ms fail it. The clauses that go through them rest on choices of the model: log entries 60, 61, 65, 69. -/
def Obligations.CartridgeLife : Prop :=  ∀ (s : State) (t : Fin 2) (eid : Nat) (e : Entry) (b : State) (x : Tape), s.part.t2 = true → b = s.markBegun eid →
    x = s.tape t →
    (∀ cm, s.Starts eid 0x2001 e → e.p 0 1 = (t : Nat) → x.mst = .none → b.basicFree (instKey 7 t) = true →
      (cmBad cm = none → ∃ u : State, exec (.cartridgeMount eid (.ok cm)) s = .next u ∧ (u.tape t).mst = .loading
        ∧ (u.tape t).mountEid = eid ∧ (u.tape t).cmd = 2 ∧ (u.tape t).cm = Mem.ofBytesAt 0 (cm.take 65536) ∧ u.tape (1 - t) = s.tape (1 - t))
      ∧ (∀ dt, cmBad cm = some dt → exec (.cartridgeMount eid (.ok cm)) s = .next ((b.pendReply e).fail e St.mediaError dt)))
    ∧ (x.mst = .loading → x.since + 90000 ≤ s.clk → exec (.mountLoadTimeout t) s = .next (s.mountFail t St.mediaError 0x1805))
    ∧ (x.mst = .loading → ∀ wp tn a c, ∃ u : State, exec (.reelStatusFrame t true wp tn false true a c true) s = .next u
        ∧ (u.tape t).mst = .acquiring ∧ (u.tape t).wrap = 0 ∧ (u.tape t).goal = 5600 ∧ (u.tape t).statusAt = s.clk)
    ∧ (x.mst = .unloading → ∀ wp tn a c, ∃ v : State, exec (.reelStatusFrame t false wp tn false true a c true) s
          = .next (v.finalOf (if x.unloadEid = 0 then x.mountEid else x.unloadEid) x.endSt.1 x.endSt.2 [])
        ∧ (v.tape t).mst = .none ∧ (v.tape t).cm = [] ∧ (v.tape t).mountCount = (x.mountCount + 1) % 2 ^ 24 ∧ v.ez = s.ez)
    ∧ (∀ w : BitVec 64, fieldOf w.toNat 63 56 = 0xE2 → fieldOf w.toNat 27 24 = 1 → posCrcOk w.toNat = true →
      fieldOf w.toNat 31 28 = x.wrap / 32 → s.tReverse t = false → s.servoLocked t = true →
      x.lastWord = some (fieldOf w.toNat 55 32 - 1, x.wrap / 32) → 1 ≤ fieldOf w.toNat 55 32 →
      ∃ u : State, exec (.positionWord t w) s = .next u ∧ u.reg (Reg.glnSrvLad t) = BitVec.ofNat 32 (fieldOf w.toNat 55 32)
        ∧ u.ladOk t = true ∧ (u.tape t).mst = (if x.mst = .acquiring then .calibrating else x.mst))
    ∧ (∀ src rs, x.mst = .calibrating → x.cmDirty = false → ∃ u : State, exec (.calibrationComplete t src rs) s
          = .next (u.finalOf x.mountEid St.ok 0 (u.mountResult t))
        ∧ (u.tape t).mst = .mounted ∧ (u.tape t).goal = 0 ∧ u.wState t = 1)
    ∧ (s.Starts eid 0x2002 e → b.cartridge e.h = some (t : Nat) → x.mst = .mounted → b.basicFree (instKey 7 t) = true → x.job = none →
      x.cmDirty = false → ∃ u : State, exec (.cartridgeUnload eid) s = .next u ∧ (u.tape t).mst = .rewinding
        ∧ (u.tape t).queue = [] ∧ (u.tape t).unloadEid = eid ∧ u.rbit (Reg.glnSrvWg t) 0 = false)
    ∧ (x.mst = .rewinding → s.rbit (Reg.wdrStatus t) 15 = true → x.speed = 0 → x.goal = 0 →
      ∃ u : State, exec (.rampComplete t) s = .next u ∧ (u.tape t).mst = .unloading ∧ (u.tape t).cmd = 3)
    ∧ (x.mst ≠ .none → x.statusAt + 6 ≤ s.clk → exec (.reelLinkSilent t) s = .next (((s.latch (errSrv t) 0 2).onTape t
        fun y => { y with statusAt := s.clk }).transportFault t 0x1805))

/-- Tape jobs (R282, R283, R286, R287, R312 to R315, R480). TAPE_MIGRATE, TAPE_RECALL, TAPE_VERIFY and TAPE_CALIBRATE of a
mounted cartridge queue a job where fewer than 16 wait; the next starts when the last has ended; an idle transport verifies
in the background; a recalibration that is pending starts in an idle window and one that has been pending too long makes the
job pause; the activity class follows eight ticks in a row. The clauses that go through them rest on choices of the model:
log entries 63, 79. -/
def Obligations.TapeJobs : Prop :=  ∀ (s : State) (t : Fin 2) (eid : Nat) (e : Entry) (b : State) (x : Tape), s.part.t2 = true → b = s.markBegun eid → x = s.tape t →
    (b.cartridge e.h = some (t : Nat) → x.mst = .mounted → b.basicFree (instKey 7 t) = true → x.queue.length < 16 →
      (e.p 0 1 = 0 → 1 ≤ e.p 4 4 → e.p 4 4 ≤ 2046 → 64 + 32 * e.p 4 4 ≤ e.area.length →
        (s.Starts eid 0x2003 e → exec (.tapeMigrate eid) s = .next (b.onTape t fun y => { y with queue := y.queue ++
          [{ TJob.blank e.eid .migrate with entries := tapeEntries e.area (e.p 4 4), locAddr := e.p 8 8
                                            flush := bitAt (e.p 1 1) 0, keep := bitAt (e.p 1 1) 1 }] }))
        ∧ (s.Starts eid 0x2004 e → exec (.tapeRecall eid) s = .next (b.onTape t fun y => { y with queue := y.queue ++
          [{ TJob.blank e.eid .recall with entries := tapeEntries e.area (e.p 4 4), locAddr := e.p 8 8 }] })))
      ∧ (s.Starts eid 0x2005 e → exec (.tapeVerify eid) s = .next (b.onTape t fun y => { y with queue := y.queue ++
          [{ TJob.blank eid .verify with first := e.p 0 4, last := e.p 4 4, deep := bitAt (e.p 8 1) 0 }] }))
      ∧ (s.Starts eid 0x2006 e → e.p 0 1 ≤ 1 → e.p 8 16 < 2 ^ x.cmWraps → exec (.tapeCalibrate eid) s = .next (b.onTape t fun y =>
          { y with queue := y.queue ++ [{ TJob.blank eid .calibrate with mode := e.p 0 1, wraps := e.p 8 16 }] })))
    ∧ (∀ j rest, x.queue = j :: rest → x.mst = .mounted → x.job = none → x.recalRun = false → s.basicFree (instKey 7 t) = true →
      s.wState t = 1 → exec (.tapeJobStart t) s = .next ((s.onTape t fun y => { y with queue := rest }).startJob t j))
    ∧ (x.mst = .mounted → x.job = none → x.queue = [] → x.recalRun = false → s.rbit (Reg.glnStatus t) 4 = false → s.wState t = 1 →
      x.idleSince + 3 * (1000 * s.par Par.tapeIdleS) ≤ s.clk → s.basicFree (instKey 7 t) = true → x.bgDsn < x.nextDsn →
      exec (.tapeIdleVerify t) s = .next ((s.setRbit Reg.fldBgStat 2 true).startJob t
        { TJob.blank 0 .verify with first := x.bgDsn, last := 0xFFFFFFFF }))
    ∧ (s.rbit (Reg.glnStatus t) 4 = true → s.calIdle t = true → ∃ u : State, exec (.recalibrate t) s = .next u
        ∧ (u.tape t).recalRun = true ∧ u.rf (Reg.glnStatus t) 2 0 = 3 ∧ (u.tape t).wrap = 0 ∧ (u.tape t).goal = 5600)
    ∧ (∀ k, x.mst = .mounted → x.paused = false → x.recalRun = false → 0 < s.par Par.recalForceS → x.staleSince = some k →
      k + 3 * (1000 * s.par Par.recalForceS) ≤ s.clk → s.wState t = 1 →
      exec (.forcedRecal t) s = .next (s.onTape t fun y => { y with paused := true }))
    ∧ (8 ≤ s.thm.bandRun → s.thm.band ≠ s.thm.cls → ∃ u : State, exec .activityClassChange s = .next u ∧ u.thm.cls = s.thm.band
        ∧ u.rf (Reg.glnCond 0) 9 8 = s.thm.band % 4 ∧ u.rf (Reg.glnCond 1) 9 8 = s.thm.band % 4)

/-- Cartridge memory, status and a transport's descriptors (R288, R290, R291). CM_READ delivers bytes of the cartridge memory,
CM_WRITE writes them from 0xA000 on; TAPE_STATUS replies the transport's state; WDR_ENCODE delivers the codewords of a data
set; WDR_WRITE_DS writes one; WDR_READ_DS delivers what was read of one, or fails MEDIA_ERROR where it cannot be restored;
WDR_LOCATE positions ahead of one. The clauses that go through them rest on choices of the model: log entries 6, 9, 80. -/
def Obligations.CartridgeMemoryAndDescriptors : Prop :=  ∀ (s : State) (t : Fin 2) (eid : Nat) (e : Entry) (b : State) (x : Tape) (k : Nat), s.part.t2 = true → b = s.markBegun eid →
    x = s.tape t → k = instKey 7 t → x.mst = .mounted →
    (b.cartridge e.h = some (t : Nat) → b.basicFree k = true → e.ring ≠ 1023 →
      (s.Starts eid 0x2007 e → cmRangeBad (e.p 0 4) (e.p 4 4) 0 = false →
        exec (.cmRead eid true) s = .next ((b.deliverTo e (e.p 8 8) (Mem.read x.cm (e.p 0 4) (e.p 4 4))).okReply e []))
      ∧ (∀ src, s.Starts eid 0x2008 e → cmRangeBad (e.p 0 4) (e.p 4 4) 0xA000 = false →
        exec (.cmWrite eid (.ok src)) s = .next ((b.cmWrite t (e.p 0 4) (padTo src (e.p 4 4))).okReply e [])))
    ∧ (s.Starts eid 0x2009 e → b.cartridge e.h = some (t : Nat) → exec (.tapeStatus eid) s = .next (b.okReply e
        (leBytes 1 (s.wState t) ++ leBytes 1 (s.rf (Reg.wdrStatus t) 19 16) ++ leBytes 1 x.fillPct ++ [0] ++ leBytes 4 (s.readDsn t)
          ++ leBytes 4 x.wp ++ leBytes 1 x.wrap)))
    ∧ (∀ d src ok, src.length = 8388608 →
      (s.Runs k 1 d → wdrJudge d 1 = false → 10048 * 1024 ≤ leAt d 24 8 → ∃ out, exec (.wdrEncode t (.ok d) (.ok src) ok) s
          = .next ((s.xqWrite k (leAt d 16 8) out).done k d ⟨St.ok, 0, out.length, 0, false⟩ ok)
        ∧ out = (List.range 10048).flatMap (codeword (x.nextArrays knData true src 0xFFFFFFFF 0)))
      ∧ (s.Runs k 2 d → wdrJudge d 2 = false → s.writable t = true → leAt d 1 1 = 1 → ∃ v : State,
          exec (.wdrWriteDs t (.ok d) (.ok src) ok) s = .next (v.done k d ⟨St.ok, 0, 0, 0, false⟩ ok)
          ∧ (v.tape t).nextDsn = x.nextDsn + 1 ∧ (v.tape t).cur = some x.nextDsn)
      ∧ (s.Runs k 3 d → wdrJudge d 3 = false → 8388608 + 10048 ≤ leAt d 24 8 → bitAt (leAt d 36 1) 0 = false →
        ∃ st, st.length = 10048 ∧ exec (.wdrReadDs t (.ok d) (.ok src) ok) s = .next (
          match restoreSet x.words x.wp (leAt d 32 4) with
          | some y => (s.xqWrite k (leAt d 16 8) (y.payload ++ st)).done k d ⟨St.ok, 0, 8388608 + 10048, 0, false⟩ ok
          | none => s.done k d (XRes.fail St.mediaError 0x1601) ok))
      ∧ (s.Runs k 4 d → wdrJudge d 4 = false → leAt d 32 4 < x.nextDsn → exec (.wdrLocate t (.ok d) (.ok src) ok) s
        = .next ((((s.onTape t Tape.readDone).readFrom t (leAt d 32 4)).startRead t).done k d ⟨St.ok, 0, 0, 0, false⟩ ok)))

/-- Writing (R265 to R278, R284, R332). A start with enough to write asks for its step, and once that is reached, and at the
append point, writing begins; a frame's verdict passes only with the sync mark, header, CRC and decoding right and few
enough bits corrected; a boundary goes on with what comes next; four fillers stop the frames, and two seconds of shortage
the tape; a wrap in which nothing fits is turned; a record that has passed is committed; EOD ends in the cartridge memory.
The clauses that go through them rest on choices of the model: log entries 22, 64, 78. -/
def Obligations.TapeWriting : Prop :=  ∀ (s : State) (t : Fin 2) (x : Tape), s.part.t2 = true → x = s.tape t →
    (∀ input u, (x.job.any fun j => j.kind == .migrate) = true → s.wState t = 4 → x.recalRun = false → x.mst = .mounted →
      s.rbit (Reg.wdrStatus t) 15 = false → u = State.intake t input s → (u.tape t).plan ≠ .eodOut → (u.tape t).toWrite = true →
      ((u.tape t).inputEnded = true ∨ u.par Par.startPct ≤ (u.tape t).fillPct) → exec (.writeStart t input) s
        = .next (((u.setWState t 4).targetWrap t (u.tape t).apWrap).runStep t (u.tape t).startStep))
    ∧ (s.wState t = 4 → x.placed = true → s.rbit (Reg.wdrStatus t) 15 = false → x.goal ≠ 0 → x.recalRun = false →
      exec (.appendResume t) s = .next ((s.onTape t fun y => { y with placed := false }).beginWriting t))
    ∧ (∀ dsn sds cwi v, sds < 64 → cwi < 157 → exec (.frameVerdict t dsn sds cwi v) s = .next (s.verdict t dsn (157 * sds + cwi)
        (v.sm1 && v.crcOk && v.hdrOk && v.c1Ok && decide (v.corrected ≤ s.par Par.rwwMargin))))
    ∧ (∀ input, (s.wState t = 2 → exec (.dataSetBoundary t input) s = .next (s.writeBoundary t input))
      ∧ (s.wState t = 5 → exec (.dataSetBoundary t input) s = .next (s.readBoundary t))
      ∧ (s.wState t = 6 → exec (.dataSetBoundary t input) s = .next (s.recoverBoundary t)))
    ∧ (s.wState t = 2 → x.cur = none → 4 ≤ x.fillers → ∃ u : State, exec (.writeGap t) s = .next u ∧ u.wState t = 3
        ∧ u.rbit (Reg.wdrStatus t) 3 = false)
    ∧ (∀ k u, x.shortSince = some k → k + 6000 ≤ s.clk → x.badAhead = false → x.stream.length < 8388608 → x.inputEnded = false →
      x.cur = none → u = (((s.onTape t fun y => { y with plan := .stop }).setWState t 2).bump (Reg.wdrCntEvents t) 31 16 1).writeNext t →
      exec (.shortBufferStop t) s = .next (if u.wState t == 2 && u.gateOk t then u.setGate t true else u))
    ∧ (∀ u, s.wState t = 2 → x.cur = none → x.plan = .go → s.wrapFull t = true →
      u = ((s.onTape t fun y => { y with plan := .turn, badAhead := false }).setWState t 2).writeNext t →
      exec (.wrapEnd t true) s = .next ((if u.wState t == 2 && u.gateOk t then u.setGate t true else u).preamp t true))
    ∧ (∀ rseq r e, x.recs.find? (fun r => r.rseq == rseq && !r.pad) = some r → x.recPassed r = true → r.host = true → s.entry r.eid = some e →
      exec (.extentTapeCommit t rseq) s = .next ((((s.deliverTo e r.locAddr (leBytes 8 (x.cmAt 8 8) ++ leBytes 4 r.dsn
        ++ leBytes 4 r.off)).onTape t fun y => { y with recs := y.recs.filter fun q => q.rseq != rseq }).countEntry t r.eid
        true).settleJob t))
    ∧ (x.mst = .mounted → x.plan = .eodOut → x.cur = none → (∀ w ∈ x.sets, w.done = true) → ∀ u,
      u = ((s.onTape t fun y => { y with sets := [], pend := [], copies := [] }).cmUpdate t).stopWriting t →
      exec (.cmEodUpdate t true true) s = .next ((u.onJob t fun j => { j with flush := false }).settleJob t))
    ∧ (∀ slot, s.rbit (Reg.wdrStatus t) 3 = false → s.gateOk t = true → max 1 (s.rf (Reg.glnSrvWi t) 15 12) ≤ x.okRun →
      x.cur.isSome = true → x.inhibit = none → exec (.writeGateReopen t slot) s
        = .next ((s.onTape t fun y => { y with inhibit := none }).setGate t true))

/-- Gleaner (R294 to R307, R309). A preamble locks its track and recentres its buffer; a slip erases a frame and is latched; a
loss of lock is latched; a speed that falls out of range erases what is under way; a frame found by sync mark 1 whose
codeword decodes is kept; the recovery engine takes the next queued frame; a data set that is not restored is read again; a
record read for a recall that fails its check ends its entry CHECK_MISMATCH; a zone boundary loads the next zone's entries.
The clauses that go through them rest on choices of the model: log entries 9, 66, 67, 68. -/
def Obligations.GleanerReading : Prop :=  ∀ (s : State) (t : Fin 2) (x : Tape), s.part.t2 = true → x = s.tape t →
    (∀ (k : Fin 64) (f : RxFrame),
      (s.speedOk t = true → ∃ u : State, exec (.trackPreamble t k) s = .next u ∧ (u.trk t k).lock = true ∧ (u.trk t k).fill = 32
        ∧ (u.trk t k).erased = false ∧ (u.trk t k).centred = true ∧ (u.trk t k).regs = s.glnWords t
        ∧ ∀ j, j ≠ (k : Nat) → u.trk t j = s.trk t j)
      ∧ ((s.trk t k).centred = true → s.speedOk t = true → s.rbit (Reg.glnErr t) 31 = false →
        ∃ u : State, exec (.elasticSlip t k) s = .next u ∧ (u.trk t k).erased = true ∧ u.rbit (Reg.glnErr t) 31 = true
          ∧ u.rf (Reg.glnErr t) 11 8 = 2 ∧ u.rf (Reg.glnErr t) 5 0 = (k : Nat)
          ∧ u.rf (Reg.glnCntTiming t) 15 0 = min 0xFFFF (s.rf (Reg.glnCntTiming t) 15 0 + 1))
      ∧ ((s.trk t k).lock = true → s.rbit (Reg.glnErr t) 31 = false →
        ∃ u : State, exec (.lockLoss t k) s = .next u ∧ (u.trk t k).lock = false ∧ u.rf (Reg.glnErr t) 11 8 = 3
          ∧ u.rf (Reg.glnErr t) 5 0 = (k : Nat))
      ∧ (∀ p h, s.speedOk t = true → (s.trk t k).centred = true → (s.trk t k).erased = false → s.rf (Reg.glnStatus t) 2 0 = 2 →
        (s.trk t k).frame f = .sm1 p h → ∃ u : State, exec (.frameReceived t k f) s
            = .next (u.decodeFrame t (identOf k h) (fieldOf h.toNat 39 34) false ((s.trk t k).field 4 0 0 == 1) f.bits)
          ∧ (u.trk t k).lastSm1 = some p ∧ (u.tape t).words = x.words))
    ∧ (s.speedOk t = true → s.rf (Reg.glnSrvPes t) 31 16 < 1450 → ∃ u : State, exec (.speedOkChange t false) s = .next u
        ∧ u.speedOk t = false ∧ ∀ k, KMap.get? x.tracks k ≠ none → (u.trk t k).lock = false ∧ (u.trk t k).erased = true)
    ∧ (∀ f rest, x.recQ = f :: rest → x.hasWord f.dsn f.sds f.cwi f.wp = false → s.rf (Reg.glnStatus t) 2 0 = 4 →
      ∃ u : State, exec (.recoveryDecode t) s = .next u ∧ (u.tape t).recQ = rest
        ∧ match Config.recoverDecode ((s.trk t f.track).field 4 7 4) ((s.trk t f.track).field 4 11 8) f.sm2 f.bits with
          | some (info, n) => (u.tape t).words = x.words ++ [⟨f.dsn, f.kind, f.sds, f.cwi, f.wp, padTo info 960, n⟩]
            ∧ u.rf (Reg.glnCntRec t) 15 0 = min 0xFFFF (s.rf (Reg.glnCntRec t) 15 0 + 1)
          | none => (u.tape t).words = x.words
            ∧ u.rf (Reg.glnCntRec t) 31 16 = min 0xFFFF (s.rf (Reg.glnCntRec t) 31 16 + 1))
    ∧ (s.wState t = 5 → x.rereads < s.rf (Reg.glnRec t) 19 16 → KMap.get? x.got (s.readDsn t) = none → s.readDsn t ∉ x.lost →
      restoreSet x.words x.wp (s.readDsn t) = none → ∃ u : State, exec (.reread t) s = .next u ∧ (u.tape t).rereads = x.rereads + 1
        ∧ u.rf (Reg.glnStatus t) 2 0 = 4 ∧ u.out = s.out ++ [.tape t "LOCATE_DSN" (s.readDsn t) []])
    ∧ (∀ j e rest r, x.job = some j → j.kind = .recall → j.entries = e :: rest → x.recordAt e.dsn e.off = some r →
      (r.lost = true → exec (.recallCommit t e.idx true) s = .next (s.entryEnds t e.idx (some (St.mediaError, 0x1601))))
      ∧ (r.lost = false → r.ok = false →
        exec (.recallCommit t e.idx true) s = .next (s.entryEnds t e.idx (some (St.checkMismatch, 0x1601))))
      ∧ (∀ c body, r.lost = false → r.ok = true → j.host = true → leAt r.head 1 1 = 2 → openHost r.body = (body, true) →
        body.length ≤ e.len → s.entry j.eid = some c → exec (.recallCommit t e.idx true) s
          = .next ((s.deliverTo c e.id body).entryEnds t e.idx none)))
    ∧ (∀ z : Fin 64, s.ladOk t = true → x.zoneAt (s.finePos t) = (z : Nat) → s.rf (Reg.wdrPos t) 13 8 ≠ (z : Nat) → s.speedOk t = false →
      x.zoneBad x.wrap z = false → x.badAhead = false → x.passWarned = true → ∃ u : State, exec (.zoneBoundaryCross t z []) s = .next u
        ∧ u.rf (Reg.wdrPos t) 13 8 = (z : Nat) ∧ (∀ k, k < 64 → (u.trk t k).nextZone = some (x.wrap, (z : Nat)))
        ∧ (u.tape t).zonePass = x.zonePass.set z (x.zonePass.getD z 0 + 1))

/-- The servo and the reels (R319 to R323, R327, R331, R332). A sample with no measurement counts as bad, and one sends its
actuator frame; eight good samples in a row lock the servo and four bad ones unlock it, which is latched and counted; an
open gate closes when a condition fails; the ramp moves by its rate at each setpoint frame. The clauses that go through them
rest on choices of the model: log entries 10, 60, 61. -/
def Obligations.ServoAndReels : Prop :=  ∀ (s : State) (t : Fin 2) (x : Tape), s.part.t2 = true → x = s.tape t →
    (∀ speed, x.mst = .mounted → ∃ u : State, exec (.servoSample t [] speed) s = .next u ∧ (u.tape t).badRun = x.badRun + 1
        ∧ (u.tape t).goodRun = 0 ∧ (u.tape t).okRun = 0 ∧ (u.tape t).u = x.u ∧ (u.tape t).travel = x.travel + 25 * speed
        ∧ u.out = s.out ++ [.actuator t (if x.coarse then actuatorWord 2 (x.wrap / 32) else actuatorWord 1 (word16 x.u))])
    ∧ (s.servoLocked t = false → 8 ≤ x.goodRun → ∃ u : State, exec (.servoLock t) s = .next u ∧ u.servoLocked t = true
        ∧ (u.tape t).coarse = false ∧ u.out = s.out ∧ ∀ o, o ≠ Reg.glnSrvStatus t → u.reg o = s.reg o)
    ∧ (s.servoLocked t = true → 4 ≤ x.badRun → s.rbit (Reg.glnSrvErr t) 31 = false → ∃ u : State, exec (.servoUnlock t) s = .next u
        ∧ u.servoLocked t = false ∧ u.ladOk t = false ∧ u.rbit (Reg.glnSrvErr t) 31 = true ∧ u.rf (Reg.glnSrvErr t) 11 8 = 1
        ∧ u.rf (Reg.glnSrvCnt t) 31 16 = min 0xFFFF (s.rf (Reg.glnSrvCnt t) 31 16 + 1))
    ∧ (∀ slot, s.rbit (Reg.wdrStatus t) 3 = true → s.gateOk t = false → ∃ u : State, exec (.writeGateClose t slot) s = .next u
        ∧ u.rbit (Reg.wdrStatus t) 3 = false ∧ u.out = s.out ++ [.pin "WG" t false]
        ∧ (s.wState t = 2 → (s.onTrack t = false ∨ s.inArea t = false) → (u.tape t).inhibit = some slot
          ∧ u.rf (Reg.glnSrvCnt t) 15 0 = min 0xFFFF (s.rf (Reg.glnSrvCnt t) 15 0 + 1)))
    ∧ (x.speed ≤ x.goal → ∃ u : State, exec (.reelSetpointFrame t) s = .next u ∧ (u.tape t).speed =
          (if x.speed < x.goal then min x.goal (x.speed + x.rate) else x.goal) ∧ (u.tape t).goal = x.goal
        ∧ ∃ frame, u.out = s.out ++ [.reel t frame])

/-! ## Drover and the network ports (13, 14) -/

/-- Connections and spaces (R340 to R342, R352, R357, R360). CONN_OPEN makes a connection with its key in a slot, sends HELLO
and replies its ID; CONN_CLOSE of one with nothing outstanding ends it at once; CONN_QUERY replies its state; SPACE_CREATE
makes a space with a random tag; SPACE_REVOKE revokes it, and REVOKE_COMPLETE frees it; REPL_LINK_CREATE makes a link.
Timers and paths of a connection (R340, R344 to R350, R359). A HELLO is repeated while OPENING, an acknowledgement sent when
one is due; a retransmission counts, and the last puts the connection into ERROR; a refused packet is sent again; a path
without heartbeats for the time allowed is down, and connections return to their home after 100 heartbeats; fetched state
takes up what was parked; the peer's messages are taken in order. The clauses that go through them rest on choices of the
model: log entries 2, 19, 52. -/
def Obligations.ConnectionsAndSpaces : Prop :=
  (∀ (s : State) (eid : Nat) (e : Entry) (b : State), b = s.markBegun eid →
      (∀ c u k i, s.Starts eid 0x3001 e → 192 ≤ e.area.length → b.connBad e = false → e.p 3 1 = 0xFF → b.connId e = some c →
        b.takeKey (b2n b.clearKeys) (slice e.area 96 48) .gcm256 0xFFFF 0 = (u, .ok k) → u.freeSlot = some i →
        ∃ v : State, exec (.connOpen eid) s = .next ((v.send c (Pkt.make Grmp.hello 2 0 0 0 [])).okReply e (leBytes 4 c))
          ∧ KMap.get? v.data.slots i = some ⟨k, .gcm256, .conn c⟩
          ∧ (v.conn c).any (fun x => x.st == .opening && x.slot == i && x.resident) = true)
      ∧ (∀ c x, s.Starts eid 0x3002 e → c = e.h % 2 ^ 32 → c ≠ 0 → s.conn c = some x → x.closing = false → x.st = .established →
        x.ops = [] → x.txq = [] → x.unacked = [] → s.drv.spaces = [] → s.drv.offers = [] → s.data.puts = [] → s.data.slots = [] →
        ∃ v : State, exec (.connClose eid) s = .next (v.finalOf eid St.ok 0 []) ∧ v.conn c = none
          ∧ ∀ j, j ≠ c → v.conn j = s.conn j)
      ∧ (∀ x, s.Starts eid 0x3003 e → s.conn (e.h % 2 ^ 32) = some x → exec (.connQuery eid) s = .next (b.okReply e
          ([byteOf x.st.code, byteOf x.kind, byteOf x.path, byteOf (b2n x.resident)] ++ leBytes 4 x.unacked.length ++ leBytes 8 x.txc)))
      ∧ (∀ i, s.Starts eid 0x3004 e → b.spaceBad e = false → s.drv.spaceEntry = some i → ∃ (u : State) (tag : Nat),
          exec (.spaceCreate eid) s = .next (u.okReply e (leBytes 4 (i * 2 ^ 18 + tag))) ∧ tag < 2 ^ 18
          ∧ (∀ old, KMap.get? s.drv.spaces i = some old → old.tag < 2 ^ 18 → tag ≠ old.tag)
          ∧ KMap.get? u.drv.spaces i = some ⟨tag, e.p 0 1, e.p 1 1, e.p 2 2, if e.p 4 4 = 0xFFFFFFFF then none else some (e.p 4 4), e.fn,
              e.p 8 8, e.p 16 8, true, none, 0, none⟩
          ∧ u.drv.conns = s.drv.conns ∧ u.data = s.data ∧ u.fresh = s.fresh + 1)
      ∧ (∀ i x, s.Starts eid 0x3005 e → i = e.p 0 4 / 2 ^ 18 → KMap.get? s.drv.spaces i = some x → x.tag = e.p 0 4 % 2 ^ 18 →
        x.live = true → x.revokedAt = none → exec (.spaceRevoke eid) s = .next (b.onDrv fun d => { d with
          useClock := d.useClock + 1
          spaces := KMap.put d.spaces i { x with revokedAt := some (d.useClock + 1), revokeEid := eid } }))
      ∧ (∀ i x, s.drv.spaces.find? (fun y => y.2.live && y.2.revokeEid == eid && eid != 0) = some (i, x) →
        s.spaceBusy (i * 2 ^ 18 + x.tag) x = false → x.bound = none →
        exec (.revokeComplete eid) s = .next ((s.freeSpace i).finalOf eid St.ok 0 []))
      ∧ (∀ k, s.Starts eid 0x3006 e → (KMap.get? b.data.policies e.h).any (fun p => p.tenant != 0xFFFF) = true →
        (b.conn (e.p 0 4)).any (fun x => x.kind == 1) = true → lowestFree (s.drv.links.map (·.1)) 0 256 = some k →
        exec (.replLinkCreate eid) s = .next ((b.onDrv fun d => { d with
          links := KMap.put d.links k ⟨e.h, e.p 0 4, bitAt (e.p 4 1) 0, e.p 8 8, [], false⟩ }).okReply e (leBytes 2 k))))
  ∧ (∀ (s : State) (c : Nat) (x : Conn), s.conn c = some x →
      (x.st = .opening → exec (.helloTimer c) s = .next (s.send c (Pkt.make Grmp.hello 2 0 0 0 [])))
      ∧ (0 < x.sinceAck → exec (.ackTimer c) s = .next (s.sendAck c))
      ∧ (x.st = .established → x.unacked ≠ [] →
        (s.par Par.retryMax ≤ x.retries + 1 → exec (.retransmitTimeout c) s = .next (s.connError c St.timeout 0x1901 6))
        ∧ (x.retries + 1 < s.par Par.retryMax → x.retries ≠ 2 → exec (.retransmitTimeout c) s
          = .next ((s.setConn c { x with retries := x.retries + 1 }).resendFrom c fun _ => true)))
      ∧ (∀ n, x.resendBusy = some n → exec (.busyResend c) s
          = .next ((s.setConn c { x with resendBusy := none }).resendFrom c fun p => psnLe n p.psn))
      ∧ (∀ mem cmp, x.fetching = true → s.residents.length < 4096 → exec (.stateFetchComplete c mem cmp) s
          = .next ((State.unpark c x.parked mem cmp ((s.setConn c { x with parked := [] }).useConn c)).finishConn c))
      ∧ (∀ m ms, x.inbox = m :: ms → leAt m 0 1 = 1 → ∃ u : State, exec (.peerReleaseMsg c) s = .next u
          ∧ u.conn c = some { x with inbox := ms } ∧ ∀ d : Fin 8, (u.journal d).peerTail = leAt m (16 + 8 * d) 8)
      ∧ (∀ m ms, x.inbox = m :: ms → leAt m 0 1 = 2 → s.fpt.ns = [] → ∃ u : State, exec (.nsbind c) s = .next u
          ∧ u.nsOf (leAt m 16 2) = some ⟨slice m 24 16, false, false, false, 0, 0, true⟩
          ∧ u.conn c = some { x with inbox := ms } ∧ u.data = s.data)
      ∧ (∀ p : Fin 2, (s.peerUp = true → (s.pathSt p).live = true → exec (.heartbeatTimeout p) s
          = .next (((s.setPath p { s.pathSt p with live := false, run := 0 }).bump Reg.drvCntPath 31 16 1).switchPath p))
        ∧ (s.pathUp p = true → 100 ≤ (s.pathSt p).run → ∃ u : State, exec (.pathReturn p) s = .next u
          ∧ (x.home = (p : Nat) → x.path ≠ (p : Nat) → x.unacked = [] → u.conn c = some { x with path := p, sub := s.subFor p c })
          ∧ ((x.home ≠ (p : Nat) ∨ x.unacked ≠ []) → u.conn c = some x) ∧ u.regs = s.regs ∧ u.out = s.out)))

/-- A packet that is sealed under a key opens to itself: the well-formed header's fields come back as they were sent, and
opening the sealed payload with the same key, nonce and header gives the payload (R337 to R340). -/
def Obligations.SealedPacketsOpen : Prop :=  ∀ (key iv : Bytes) (p : Pkt) (sealed : Bytes × Bytes), sealed = gcmEnc key iv p.hdr p.payload →
    (key.length = 16 ∨ key.length = 32) → 1 ≤ p.op → p.op ≤ 9 → p.flags < 8 → p.code < 256 → (p.op ≠ Grmp.nak → p.code = 0) →
    p.dcid < 2 ^ 32 → p.psn < 2 ^ 32 → p.apsn < 2 ^ 32 → p.txc < 2 ^ 64 → p.key < 2 ^ 32 → p.offset < 2 ^ 64 →
    p.payload.length ≤ 8192 →
    (p.op = Grmp.readReq → p.payload = [] ∧ 1 ≤ p.len ∧ p.len ≤ 2 ^ 30) → (p.op ≠ Grmp.readReq → p.len = p.payload.length) →
    parseGrmp (p.hdr ++ sealed.1 ++ sealed.2) = some ({ p with payload := [] }, sealed.1, sealed.2)
      ∧ gcmDec key iv ({ p with payload := [] } : Pkt).hdr sealed.1 sealed.2 = some p.payload
      ∧ sealed.1.length = p.payload.length ∧ sealed.2.length = 16

/-- Received packets (R337 to R345, R353 to R358). One that is malformed, or names no connection, is dropped and counted in
UNEXP; one whose tag fails in AUTH. A packet of each operation whose tag is right is taken in its order: the one that is due
is judged and acknowledged or refused; a duplicate is acknowledged and counted; one ahead is refused SEQ_ERROR once. A
heartbeat proves its path; an acknowledgement and a NAK act on the sender's window. The clauses that go through them rest on
choices of the model: log entry 52. -/
def Obligations.ReceivedPackets : Prop :=  ∀ (s : State) (port : Fin 2) (f : Bytes) (mem : Fetch) (cmp : List Fetch),
    ((s.ipIn f).bind parseGrmp = none → ∀ c ∈ [Instr.grmpWrite port f cmp, .grmpReadReq port f mem, .grmpReadResp port f,
        .grmpSend port f, .grmpHello port f, .grmpClose port f, .grmpAck port f, .grmpNak port f, .grmpHeartbeat port f],
      exec c s = .next (s.bump Reg.drvCntRx 31 16 1))
    ∧ (∀ p ct tag x pt u q, (s.ipIn f).bind parseGrmp = some (p, ct, tag) → s.conn p.dcid = some x →
      u = s.tally 6 pt.length → q = { p with payload := pt } →
      (gcmDec (s.connKey x) (x.saltRx ++ beBytes 8 p.txc) p.hdr ct tag = none → p.op = Grmp.write →
        exec (.grmpWrite port f cmp) s = .next (s.bump Reg.drvCntRx 15 0 1))
      ∧ (gcmDec (s.connKey x) (x.saltRx ++ beBytes 8 p.txc) p.hdr ct tag = some pt →
        (p.op = Grmp.write → exec (.grmpWrite port f cmp) s = .next (u.rxSeq port p.dcid q .failed cmp))
        ∧ (p.op = Grmp.readReq → exec (.grmpReadReq port f mem) s = .next (u.rxSeq port p.dcid q mem []))
        ∧ (p.op = Grmp.readResp → exec (.grmpReadResp port f) s = .next (u.rxSeq port p.dcid q .failed []))
        ∧ (p.op = Grmp.send → exec (.grmpSend port f) s = .next (u.rxSeq port p.dcid q .failed []))
        ∧ (p.op = Grmp.hello → exec (.grmpHello port f) s = .next (u.rxSeq port p.dcid q .failed []))
        ∧ (p.op = Grmp.close → exec (.grmpClose port f) s = .next (u.rxSeq port p.dcid q .failed []))
        ∧ (p.op = Grmp.ack → exec (.grmpAck port f) s = .next ((u.takeAck p.dcid p.apsn).finishConn p.dcid))
        ∧ (p.op = Grmp.nak → exec (.grmpNak port f) s = .next ((u.takeNak p.dcid q).finishConn p.dcid))))
    ∧ (∀ c x p stamp, s.conn c = some x → x.st = .established →
      (p.psn = (x.rxPsn + 2 ^ 32 - 1) % 2 ^ 32 → x.rxPsn < 2 ^ 32 →
        s.sequenced c stamp p mem cmp = (s.bump Reg.drvCntRetx 31 16 1).sendAck c)
      ∧ (p.psn = (x.rxPsn + 1) % 2 ^ 32 → x.rxPsn < 2 ^ 32 → x.refusedBusy = none →
        s.sequenced c stamp p mem cmp = if x.nakSent then s else (s.setConn c { x with nakSent := true }).sendNak c p.psn 2)
      ∧ (∀ i y, p.psn = x.rxPsn → p.op = Grmp.write → c ≠ 0 → s.spaceJudge c stamp p = .ok (i, y) → y.kind = 0 → p.payload ≠ [] →
        ∃ v : State, s.sequenced c stamp p mem cmp = v.ackDue c p ∧ v.out = s.out ++ [.hostWrite y.fn (y.base + p.offset) p.payload]
          ∧ v.conn c = some { x with rxPsn := (x.rxPsn + 1) % 2 ^ 32, nakSent := false, refusedBusy := none }))

/-- Drover's expert queues (R362 to R364). A descriptor starts on its connection, as a WRITE, a READ_REQ or a SEND, where its
wait is met, waits where it is not, and completes INVALID_PARAM where it breaks a rule; a satisfied wait starts it and one
too long completes it TIMEOUT; DRV_XCOUNT sets the count of a bound queue. Replication (R361). The backlog of a link is
shipped in order, a delete as it is and an object as an offer; WANT is answered with the records asked for; DONE with OK
ends the object; a received OFFER whose recipe fails its check is refused; RECORDS go on to the object's PUT, and a received
DELETE to the object. The clauses that go through them rest on choices of the model: log entries 53, 55. -/
def Obligations.DroverQueuesAndReplication : Prop :=
  (∀ (s : State) (q : Fin 64) (k : Nat) (x : Xq) (d : Bytes) (src : Fetch), k = instKey 8 q → x = s.xq k →
      (∀ op c, (op, c) ∈ [(1, Instr.drvWrite q (.ok d) src), (2, .drvRead q (.ok d) src), (3, .drvSend q (.ok d) src)] →
        s.Runs k op d → x.waiting = false → s.drvRoom q = true →
        ((s.xqAdvance k).drvOk q d = true → (s.xqAdvance k).drvMet d = true → exec c s = .next ((s.xqAdvance k).drvStart q d src))
        ∧ ((s.xqAdvance k).drvOk q d = true → (s.xqAdvance k).drvMet d = false → ∃ u : State, exec c s = .next u
          ∧ (u.xq k).waiting = true ∧ (u.xq k).waitSince = s.clk ∧ (u.xq k).desc = d ∧ u.out = s.out ∧ u.drv = s.drv)
        ∧ ((s.xqAdvance k).drvOk q d = false →
          exec c s = .next ((s.xqAdvance k).drvComplete q (leAt d 4 4) 0 St.invalidParam 0x1904)))
      ∧ (x.waiting = true → s.drvMet x.desc = true → exec (.chainWaitSatisfied q src) s
          = .next ((s.setXq k { x with waiting := false, desc := [] }).drvStart q x.desc src))
      ∧ (x.waiting = true → x.waitSince + 3 * s.par Par.chainTmoMs ≤ s.clk → exec (.chainTimeout q) s
          = .next ((s.setXq k { x with waiting := false, desc := [] }).drvComplete q (leAt x.desc 4 4) 0 St.timeout 0x1902))
      ∧ (∀ val tag, x.bound = some tag → exec (.drvXcount q val) s = .next (s.setXq k { x with count := val.toNat })))
  ∧ (∀ (s : State) (c link : Nat) (x : Conn) (m : Bytes) (ms : List Bytes) (u : State), s.conn c = some x →
      u = s.setConn c { x with inbox := ms } →
      (∀ l y rest, KMap.get? s.drv.links link = some l → l.conn = c → s.connRefuses x = none → s.drv.offers = [] →
        l.backlog = y :: rest → y.sent = false → s.owns y.dom = true →
        (y.delete = true → (y.retryAt = none → exec (.replShip link) s
            = .next ((s.replMsg c 0x24 (padTo y.objId 16 ++ leBytes 2 y.tenant)).shipGone link y))
          ∧ (∀ r, y.retryAt = some r → r ≤ s.clk → exec (.replRetry link) s
            = .next ((s.replMsg c 0x24 (padTo y.objId 16 ++ leBytes 2 y.tenant)).shipGone link y)))
        ∧ (∀ o, y.delete = false → y.retryAt = none → s.shipObject y = some o → ∃ v : State, exec (.replShip link) s
            = .next (v.replMsg c 0x20 (recipeBytes o.objId o.tenant o.mode o.length o.jseq o.tick o.entries))
          ∧ v.drv.offers = [(link, { y with sent := true, retryAt := none })]))
      ∧ (x.inbox = m :: ms →
        (∀ l y o body recs, leAt m 0 1 = 0x21 → s.drv.offers = [(link, y)] → KMap.get? s.drv.links link = some l → l.conn = c →
          s.shipObject y = some o →
          wireRecs ((o.entries.zipIdx.filter fun z => bitAt (leAt (m.drop 16) (z.2 / 8) 1) (z.2 % 8)).map fun z => (z.2, z.1)) recs
            = some body → exec (.want c recs) s = .next (u.replMsg c 0x22 body))
        ∧ (∀ l y, leAt m 0 1 = 0x23 → s.drv.offers = [(link, y)] → KMap.get? s.drv.links link = some l → l.conn = c →
          leAt m 16 2 = St.ok → exec (.done c) s = .next ((u.onDrv fun d => { d with offers := [] }).shipGone link y))
        ∧ (leAt m 0 1 = 0x20 → s.data.puts = [] → leAt m 78 2 ≠ crc16 (slice m 16 62) → 78 ≤ m.length →
          exec (.offer c) s = .next (u.replMsg c 0x23 (leBytes 2 St.checkMismatch ++ leBytes 2 0x1901)))
        ∧ (∀ o h pol g, leAt m 0 1 = 0x20 → s.data.puts = [] → leAt m 78 2 = crc16 (slice m 16 62) → 80 + 64 * leAt m 44 4 ≤ m.length →
          o = readRecipe 0 0 (m.drop 16) → s.replPolicy o.tenant = some (h, pol) → s.group? pol.root = some g → s.owns g.dom = true →
          ∃ (v : State) (p : PutRec) (mask : Bytes), exec (.offer c) s = .next (v.replMsg c 0x21 mask) ∧ v.data.puts = [p]
            ∧ p.eid = s.ez.nextEid ∧ p.source = 4 ∧ p.conn = c ∧ p.placed = false ∧ p.tenant = o.tenant ∧ p.objId = o.objId
            ∧ p.length = o.length ∧ p.recipe.length = o.entries.length ∧ mask.length = ceilDiv o.entries.length 8)
        ∧ (∀ p v q, leAt m 0 1 = 0x22 → s.data.puts = [p] → p.source = 4 → p.conn = c → p.placed = false →
          u.takeWires { p with placed := true } ((p.recipe.zipIdx.filter fun z => !z.1.hit).map fun z => (z.2, z.1))
            (takeRecs (m.drop 16) ((p.recipe.zipIdx.filter fun z => !z.1.hit).length + 1) 0).1 = (v, q, none) →
          exec (.records c) s = .next ((v.setPut q).advancePut p.eid))
        ∧ (∀ o, leAt m 0 1 = 0x24 → u.objectIn u.ownedDoms (leAt m 32 2) (slice m 16 16) = some o →
          exec (.replDelete c) s = .next ((u.startDelete 0 o).shipDelete o))))

/-- The network ports (R368 to R376). A subport that fails is down, counted and latched, one that has settled is up; a
solicitation, an echo request and an ARP request for the path's own address are answered within the rate allowed; any other
frame is counted; heartbeat pulses are driven while the part is ready, three good ones set HBT_IN, and its loss clears it;
PATH_STATUS replies the paths. The clauses that go through them rest on choices of the model: log entries 19, 54. -/
def Obligations.NetworkPorts : Prop :=  ∀ (s : State) (port : Fin 2) (sub : Fin 8) (f : Bytes),
    (∀ fec, s.subUp port sub = true → (s.nport port).upSince = [((sub : Nat), s.clk)] → ∃ u : State, exec (.subportDown port sub fec) s
        = .next (u.portDown port) ∧ u.linkUp port = false ∧ u.rf (Reg.netCntLink port) 15 0
          = min 0xFFFF (s.rf (Reg.netCntLink port) 15 0 + 1)
        ∧ (s.rbit Reg.netErr 31 = false → u.rbit Reg.netErr 31 = true ∧ u.rf Reg.netErr 11 8 = if fec then 2 else 1))
    ∧ ((sub : Nat) < s.subCount port → s.subUp port sub = false → s.drv.conns = [] → s.net.ports.length = 2 →
      ∃ u : State, exec (.subportUp port sub) s = .next u ∧ u.subUp port sub = true ∧ u.linkUp port = true
        ∧ u.regs = s.regs ∧ u.out = s.out)
    ∧ (∀ t, KMap.get? (s.nport port).upSince sub = some t → t + 3 ≤ s.clk → exec (.subportReturn port sub) s
        = .next (s.onDrv fun d => { d with conns := KMap.mapV d.conns fun c x =>
          if x.path == (port : Nat) && c % s.subCount port == (sub : Nat) && x.unacked.isEmpty then { x with sub := sub } else x }))
    ∧ (f.length ≤ s.par Par.mtu →
      (∀ b, icmp6 f = some (135, b) → leAt f 7 1 = 255 → slice b 4 16 = s.ip6 port → allZero (s.ip6 port) = false →
        exec (.neighbourDiscovery port sub f) s
          = .next (s.answer port "neighbour advertisement" (slice f 8 16 ++ s.ip6 port ++ s.mac port sub)))
      ∧ (∀ b, icmp6 f = some (128, b) → slice f 24 16 = s.ip6 port → exec (.echoRequest port sub f) s
          = .next (s.answer port "echo reply" (slice f 8 16 ++ b)))
      ∧ (s.par Par.ipv4En = 1 → 28 ≤ f.length → f.take 6 = [0, 1, 8, 0, 6, 4] → slice f 6 2 = [0, 1] → slice f 24 4 = s.ip4 port →
        allZero (s.ip4 port) = false → exec (.arpRequest port sub f) s = .next (s.answer port "arp reply"
          ([0, 1, 8, 0, 6, 4, 0, 2] ++ s.mac port sub ++ s.ip4 port ++ slice f 8 10))))
    ∧ (∃ u : State, exec (.unexpectedFrame port false) s = .next u
        ∧ u.rf (Reg.netCntDrop port) 31 16 = min 0xFFFF (s.rf (Reg.netCntDrop port) 31 16 + 1)
        ∧ ∀ o, o ≠ Reg.netCntDrop port → u.reg o = s.reg o)
    ∧ (s.ready = true → exec .hbtPulse s = .next (s.emit (.pulse (hbtLine s.part.headB))))
    ∧ (∃ u : State, exec (.hbtEdge true) s = .next u ∧ u.net.pulses = min (s.net.pulses + 1) 3 ∧ u.net.edge = true
        ∧ (2 ≤ s.net.pulses → u.rbit Reg.netStatus 2 = true) ∧ u.rbit Reg.netHbt 16 = false)
    ∧ (∃ u : State, exec .hbtTimeout s = .next u ∧ u.rbit Reg.netStatus 2 = false ∧ u.net.pulses = 0)
    ∧ (s.rbit Reg.netHbt 16 = false → s.rbit Reg.netErr 31 = false → ∃ u : State, exec .hbtStuck s = .next u
        ∧ u.rbit Reg.netHbt 16 = true ∧ u.rbit Reg.netStatus 2 = false ∧ u.rf Reg.netErr 11 8 = 4 ∧ u.rbit Reg.netErr 31 = true)
    ∧ (∀ eid e, s.Starts eid 0x3007 e → ∃ rest, exec (.pathStatus eid) s = .next ((s.markBegun eid).okReply e
        ([byteOf (b2n (s.pathUp 0)), byteOf (b2n (s.pathUp 1)), byteOf (s.subMask 0), byteOf (s.subMask 1)] ++ rest))
      ∧ rest.length = 12)

/-! ## Dual-head operation (15) -/

/-- Claims, releases and handovers of domains (from R378 to R381, R386 to R388, R390). DOMAIN_CLAIM of a domain that can be
claimed puts it into claiming; on a head alone in its cabinet its interlock line is pulled, on head B after a probe that
finds it free; a claim not granted in 1 ms, or under leases in 3 ms, fails; a read-back that holds starts the load and one
that does not fails the claim; the end of the replay makes the domain owned; DOMAIN_RELEASE puts an owned domain into
releasing, and once drained it is unowned; HANDOVER and CLAIMED move a domain between the heads; HEAD_STATUS replies the
head's state. The clauses that go through them rest on choices of the model: log entries 28, 57. -/
def Obligations.DomainOwnership : Prop :=  ∀ (s : State) (d : Fin 8) (eid : Nat) (e : Entry) (b : State) (x : Dom), b = s.markBegun eid → x = s.dom d → s.dhd.doms.length = 8 →
    (s.Starts eid 0x6010 e → e.p 0 1 = 2 ^ (d : Nat) → e.p 1 1 = 0 → x.st = .unowned → b.claimable d = true → b.lease = false →
      ∃ u : State, exec (.domainClaim eid) s = .next u ∧ (u.dom d).st = .claiming ∧ (u.dom d).claimAt = s.clk
        ∧ u.dhd.claims = s.dhd.claims ++ [⟨eid, [(d : Nat)], false⟩] ∧ ∀ j, j ≠ (d : Nat) → u.dom j = s.dom j)
    ∧ (∀ probe, x.st = .claiming → x.pulled = false → s.lease = false →
      (s.part.headB = false → exec (.hlkPull d probe) s = .next (s.hlk d true))
      ∧ (s.part.headB = true → exec (.hlkPull d true) s = .next (((s.hlk d true).hlk d false).hlk d true)
        ∧ exec (.hlkPull d false) s = .next ((((s.hlk d true).hlk d false).failClaim d).dhdCount 16))
      ∧ (s.commanded d = true → x.claimAt + 3 ≤ s.clk → exec (.claimWaitTimeout d) s = .next (s.failClaim d)))
    ∧ (x.st = .claiming → x.pulled = true → exec (.hlkReadback d true) s = .next (s.enterLoading d)
      ∧ exec (.hlkReadback d false) s = .next ((s.failClaim d).latch errDhd d 2))
    ∧ (x.st = .claiming → s.lease = true → s.commanded d = true → x.claimAt + 9 ≤ s.clk →
      exec (.leaseGrantTimeout d) s = .next (s.failClaim d))
    ∧ (∀ load, x.st = .loading → exec (.replayComplete d load) s
      = .next ((match load with | none => s | some l => s.replay d l).ownDomain d))
    ∧ (∃ u : State, exec (.indexLoadComplete d) s = .next u ∧ u.dom d = { x with idxLoad := false })
    ∧ (s.Starts eid 0x6011 e → e.p 0 1 = 2 ^ (d : Nat) → e.p 1 1 = 0 → x.st = .owned → ∃ u : State,
      exec (.domainRelease eid) s = .next u ∧ (u.dom d).st = .releasing ∧ (u.dom d).toPeer = false
        ∧ u.dhd.releases = s.dhd.releases ++ [⟨eid, [(d : Nat)], false⟩])
    ∧ (x.st = .releasing → s.drained d = true → x.toPeer = false → ∃ u : State, exec (.domainReleaseDrained d) s = .next u
        ∧ u.dom d = Dom.reset ∧ ∀ j, j ≠ (d : Nat) → u.dom j = s.dom j)
    ∧ (∀ (c : Conn) m ms, s.conn 0 = some c → c.inbox = m :: ms → leAt m 16 1 = (d : Nat) →
      (leAt m 0 1 = 0x11 → s.dhd.modeBad = false → x.st = .unowned → s.lease = false → ∃ u : State, exec .handover s = .next u
        ∧ (u.dom d).st = .claiming ∧ (u.dom d).handed = true ∧ (u.journal d).epoch = leAt m 20 4
        ∧ (u.journal d).nextSeq = leAt m 24 8 + 1 ∧ bitAt u.dhd.peerOwned d = false)
      ∧ (leAt m 0 1 = 0x12 → x.given = true → s.dhd.failing = false → ∃ u : State, exec .claimed s = .next u
        ∧ (u.dom d).given = false ∧ bitAt u.dhd.peerOwned d = true))
    ∧ (s.Starts eid 0x6012 e → exec (.headStatus eid) s = .next (b.okReply e ([byteOf s.dhd.hst.code, byteOf s.dhd.peer.code,
        byteOf s.heldMask, byteOf s.homeSet, byteOf s.dhd.peerOwned, byteOf (s.par Par.dhdMode + 2 * b2n s.dhd.armed), 0, 0]
        ++ leBytes 4 s.holdSecs ++ leBytes 4 (s.reg Reg.dhdCnt).toNat)))

/-- Heartbeats, leases, takeover and failback (from R348, R382, R384, R388 to R393). A heartbeat goes out on a path whose link
is up, and one received with a right tag is taken; a watchdog not kicked for its time forces a warm reset; leases are
renewed, and a domain whose lease is not current is fenced; at the end of a fence held writes go out; a peer silent long
enough leaves the head ALONE and its domains claimed; YIELD, JOIN, RESYNC and RESYNC_DONE change what is known of the peer;
the end of the failback hold-off starts failing back. The clauses that go through them rest on choices of the model: log
entries 29, 57, 58. -/
def Obligations.HeartbeatsAndTakeover : Prop :=  ∀ (s : State) (d : Fin 8),
    (∀ c, s.conn 0 = some c → c.st = .established → s.linkUp 0 = true → s.linkUp 1 = false → s.drv.paths.length = 2 →
      ∃ (u : State) (w y : Nat) (z : Bytes), exec .heartbeatTransmit s = .next u
        ∧ u.out = s.out ++ [.grmp 0 (s.subLow 0) 0 c.addrA w y z] ∧ (u.pathSt 0).txSeq = ((s.pathSt 0).txSeq + 1) % 2 ^ 32)
    ∧ (∀ port f p ct tag c pt u q, (s.ipIn f).bind parseGrmp = some (p, ct, tag) → p.op = Grmp.heartbeat → p.dcid = 0 →
      s.conn 0 = some c → c.st = .established → gcmDec (s.connKey c) (c.saltRx ++ beBytes 8 p.txc) p.hdr ct tag = some pt →
      pt.length = 32 → (s.pathSt (p.flags / 4 % 2)).rxSeq = none → u = s.tally 6 32 → q = { p with payload := pt } →
      exec (.grmpHeartbeat port f) s = .next ((u.takeAck 0 p.apsn).takeBeat (p.flags / 4 % 2) q))
    ∧ (s.ready = true → s.dhd.lastKick + 3 * s.par Par.wdtMs ≤ s.clk → ∃ u : State, exec .watchdogExpiry s
        = .next ((u.warmReset 4).latch errDhd 0 1) ∧ u.clk = s.clk ∧ u.data = s.data ∧ u.ez = s.ez)
    ∧ (s.dhd.armed = true → s.lease = true → s.dhd.renewTicks = [] → exec .leaseRenew s = .next (s.onDhd fun h => { h with
        renewSeq := (h.renewSeq + 1) % 2 ^ 32, renewTicks := [((h.renewSeq + 1) % 2 ^ 32, s.clk)] }))
    ∧ (s.dhd.armed = true → s.lease = true → s.dhd.hst ≠ .alone → (s.dom d).st.held = true → s.leaseCurrent d = false →
      exec (.leaseLapse d) s = .next (s.fence d))
    ∧ (s.dhd.doms.length = 8 → 0 < (s.dom d).fenceUntil → (s.dom d).fenceUntil ≤ s.clk → ∃ u : State, exec (.fenceExpiry d) s = .next u
        ∧ u.dom d = { s.dom d with fenceUntil := 0 } ∧ (∀ c ∈ u.fpt.cmds, c.dom = (d : Nat) → c.held = false)
        ∧ u.out.length = s.out.length + (s.fpt.cmds.filter fun c => c.held && c.dom == (d : Nat)).length)
    ∧ (s.dhd.armed = true → s.dhd.hst ≠ .alone → s.par Par.confirmTicks ≤ s.dhd.silent → (∀ j, (s.dom j).given = false) →
      s.dhd.doms.length = 8 → s.dhd.modeBad = false → s.lease = false → ∃ u : State, exec .peerFailed s = .next u
        ∧ u.dhd.hst = .alone ∧ u.dhd.peerOwned = 0
        ∧ (((s.dom d).st = .unowned ∨ (s.dom d).st = .fenced) → (u.dom d).st = .claiming ∧ (u.dom d).taken = true))
    ∧ (∀ (c : Conn) m ms u, s.conn 0 = some c → c.inbox = m :: ms → u = s.setConn 0 { c with inbox := ms } →
      (leAt m 0 1 = 0x15 → exec .yield s
        = .next (u.onDhd fun h => { h with peerOwned := setBitTo h.peerOwned (leAt m 16 1) false }))
      ∧ (leAt m 0 1 = 0x10 → s.dhd.hst ≠ .alone → ∃ v : State, exec .join s = .next v ∧ v.dhd.peer = HSt.ofCode (leAt m 16 1)
        ∧ v.dhd.peerDigest = some (slice m 24 32) ∧ v.dhd.peerHome = leAt m 18 1 ∧ v.dhd.peerMode = leAt m 17 1)
      ∧ (leAt m 0 1 = 0x13 → leAt m 16 1 = (d : Nat) → ∃ v : State, exec .resync s = .next v ∧ (v.journal d).image = []
        ∧ bitAt v.dhd.resynced d = false)
      ∧ (leAt m 0 1 = 0x14 → leAt m 16 1 = (d : Nat) → ∃ v : State, exec .resyncDone s = .next v
        ∧ (v.journal d).peerTail = leAt m 20 8 ∧ bitAt v.dhd.resynced d = true))
    ∧ (∀ t, s.dhd.holdStart = some t → s.dhd.hst = .alone → s.dhd.failing = false → t + 3000 * s.par Par.failbackS ≤ s.clk →
      exec .failbackHoldoffExpiry s = .next ((s.onDhd fun h => { h with failing := true }).failbackNext))

/-! ## Memory and Heather (16) -/

/-- DDR (from R399, R400, R404, R406 to R411). MEM_FILL of a range in whole GiB starts, its end makes the range initialised and
free of poison, and the whole memory so makes DDR initialised; a stale channel is trained again and counted; a merge whose
word is read or written whole is drained, and one whose word cannot be read leaves it poisoned; an uncorrectable read is
latched, recorded and counted; the end of training makes the part READY. The clauses that go through them rest on choices of
the model: log entry 39. -/
def Obligations.DdrMemory : Prop :=  ∀ (s : State) (eid : Nat) (e : Entry) (b : State), b = s.markBegun eid →
    (s.Starts eid 0x5001 e → s.rbit Reg.memStatus 3 = false → e.p 0 8 % 2 ^ 30 = 0 → e.p 8 8 % 2 ^ 30 = 0 → 0 < e.p 8 8 →
      e.p 0 8 + e.p 8 8 ≤ 2 ^ 30 * s.gib → s.mem.fills = [] → s.initDone = false → ∃ u : State, exec (.memFill eid) s = .next u
        ∧ u.mem.fills = [⟨eid, e.p 0 8 / 2 ^ 30, e.p 8 8 / 2 ^ 30, e.p 16 8, true⟩] ∧ u.rbit Reg.memStatus 2 = true
        ∧ u.out = s.out)
    ∧ (∀ f, s.mem.fills = [f] → f.running = true → f.eid = eid → s.entry eid = some e → ∃ u : State,
      exec (.memFillComplete eid) s = .next u
        ∧ (∀ g, g ∈ u.mem.granules ↔ g ∈ s.mem.granules ∨ (f.base ≤ g ∧ g < f.base + f.gib))
        ∧ (∀ w ∈ u.mem.poison, ¬ (f.base ≤ w / 2 ^ 30 ∧ w / 2 ^ 30 < f.base + f.gib))
        ∧ (u.mem.granules.length = s.gib → u.initDone = true) ∧ u.mem.fills = [] ∧ u.rbit Reg.memStatus 2 = false)
    ∧ (∀ (ch : Fin 16) ok, (List.range 16).find? s.chStale = some (ch : Nat) → s.mem.retrainAt ≠ some s.clk →
      s.rbit Reg.memStatus 0 = true → ∃ u : State, exec (.channelRetrain ch ok) s = .next u ∧ u.mem.retrainAt = some s.clk
        ∧ u.rf (Reg.memChUe ch) 31 16 = min 0xFFFF (s.rf (Reg.memChUe ch) 31 16 + 1)
        ∧ (ok = true → u.chStale ch = false ∧ u.rf (Reg.memChStat ch) 7 0 = s.rf (Reg.memChStat ch) 15 8)
        ∧ (ok = false → s.rbit Reg.memErr 31 = false → u.rf Reg.memErr 11 8 = 4 ∧ u.rf Reg.memErr 4 0 = (ch : Nat)))
    ∧ (∀ (port : Fin 17) m old, s.mem.merges = [m] → m.port = (port : Nat) →
      (m.mask = 0xFF ∨ (s.mem.poison.contains m.word = false ∧ ∃ d, old = .ok d) → ∃ u : State,
        exec (.mergeDrain port m.word old) s = .next u ∧ u.mem.merges = [] ∧ u.mem.poison = s.mem.poison ∧ u.regs = s.regs)
      ∧ (m.mask ≠ 0xFF → old = .uncorrectable → s.rbit Reg.memErr 31 = false → ∃ u : State,
        exec (.mergeDrain port m.word old) s = .next u ∧ u.mem.merges = [] ∧ m.word ∈ u.mem.poison ∧ u.rf Reg.memErr 11 8 = 3))
    ∧ (∀ (port : Fin 18) addr, s.rbit Reg.memErr 31 = false → ∃ u : State,
      exec (.uncorrectableRead port addr false .patrol) s = .next u ∧ u.rbit Reg.memErr 31 = true ∧ u.rf Reg.memErr 11 8 = 1
        ∧ u.rf Reg.memErr 4 0 = (port : Nat) ∧ ((port : Nat) < 16 → u.rf (Reg.memChUe port) 15 0
            = min 0xFFFF (s.rf (Reg.memChUe port) 15 0 + 1)) ∧ u.skl.queue = (s.sklHw 0x14 port 1 addr).skl.queue)
    ∧ (∀ failed rate gib temp, s.crp.boot = .booting → s.crp.warmEnd = none → failed = [] → s.skl.memFail = false → gib ≤ 2048 →
      ∃ u : State, exec (.ddrTrainingComplete failed rate gib temp true) s = .next u ∧ u.crp.boot = .ready ∧ u.ready = true
        ∧ u.rbit Reg.memStatus 0 = true ∧ u.gib = gib ∧ u.rf Reg.memStatus 15 8 = rate % 256)

/-- Heather (from R414 to R421). HTH_INVALIDATE writes every tag invalid and clears every lock; HTH_ENABLE enables an
invalidated Heather and refuses one that is not; HTH_DISABLE starts a clean, and its end sets DISABLED; HTH_PRELOAD_LOCK
makes its way busy until the lines stand in it; HTH_WAY_POWER drops a way's lines; HTH_RANGE_INVALIDATE drops the lines of a
range in the general ways; a tag parity error of a clean line drops it and is counted. The clauses that go through them rest
on choices of the model: log entries 33, 39. -/
def Obligations.HeatherCommands : Prop :=  ∀ (s : State) (eid : Nat) (e : Entry) (b : State), b = s.markBegun eid →
    (s.Starts eid 0x5002 e → s.hthEnabled = false → s.hthCleaning = false → ∃ u : State, exec (.hthInvalidate eid) s = .next u
      ∧ u.hth.invs = s.hth.invs ++ [eid] ∧ u.hth.invSince = true ∧ u.rbit Reg.hthStatus 4 = true)
    ∧ (s.rbit Reg.hthStatus 4 = true → s.hth.invs = [eid] → s.rbit Reg.hthStatus 6 = false → ∃ u : State,
      exec .invalidateComplete s = .next (u.finalOf eid St.ok 0 []) ∧ u.hth.lines = [] ∧ u.hth.invs = []
        ∧ u.rbit Reg.hthStatus 3 = true ∧ u.rbit Reg.hthStatus 4 = false ∧ u.rf Reg.hthWays 15 0 = 0)
    ∧ (s.Starts eid 0x5003 e → s.hthEnabled = false → s.rbit Reg.hthStatus 6 = false → s.hthCleaning = false →
      s.rbit Reg.hthStatus 4 = false →
      (s.rbit Reg.hthStatus 3 = true → exec (.hthEnable eid) s = .next (b.enableHeather.okReply e [])
        ∧ b.enableHeather.hthEnabled = true)
      ∧ (s.rbit Reg.hthStatus 3 = false →
        exec (.hthEnable eid) s = .next ((b.setRbit Reg.hthStatus 5 true).fail e St.notInvalidated 0x1B01)))
    ∧ (s.Starts eid 0x5004 e → s.hthEnabled = true → ∃ u : State, exec (.hthDisable eid) s = .next u ∧ u.hthEnabled = false
      ∧ u.hthCleaning = true ∧ u.rbit Reg.hthStatus 3 = false ∧ u.hth.disables = s.hth.disables ++ [eid])
    ∧ (s.hthCleaning = true → s.hth.disables = [eid] → s.hth.invs = [] → s.crp.trans = 0 → ∃ u : State,
      exec .cleanComplete s = .next (u.finalOf eid St.ok 0 []) ∧ u.hthCleaning = false ∧ u.rbit Reg.hthStatus 1 = true
        ∧ u.hth.disables = [])
    ∧ (∀ lo n, s.Starts eid 0x5005 e → e.p 0 1 < 16 → e.p 1 1 = 1 → b.hthRange e = some (lo, n) → 0 < n → n ≤ 65536 →
      s.hthEnabled = true → s.wayBusy (e.p 0 1) = false → s.wayStripe (e.p 0 1) = false → s.wayOff (e.p 0 1) = false →
      s.tooFew (e.p 0 1) = false → ∃ u : State, exec (.hthPreloadLock eid) s = .next u
        ∧ u.hth.jobs = s.hth.jobs ++ [⟨eid, e.p 0 1, lo, n, true⟩] ∧ u.wayBusy (e.p 0 1) = true)
    ∧ (∀ j, s.hth.jobs = [j] → j.eid = eid → j.way < 16 → ∃ u : State, exec (.preloadComplete eid) s = .next (u.finalOf eid St.ok 0 [])
        ∧ u.hth.lines = j.fill s.hth.lines ∧ u.hth.jobs = [] ∧ u.wayBusy j.way = false ∧ u.wayLocked j.way = j.lock)
    ∧ (s.Starts eid 0x5006 e → e.p 0 1 < 16 → e.p 1 1 = 0 → s.wayStripe (e.p 0 1) = false → s.wayLocked (e.p 0 1) = false →
      s.tooFew (e.p 0 1) = false → s.wayBusy (e.p 0 1) = false → ∃ u : State, exec (.hthWayPower eid) s = .next (u.okReply e [])
        ∧ u.wayOff (e.p 0 1) = true ∧ (∀ x ∈ u.hth.lines, x.1 / 65536 ≠ e.p 0 1))
    ∧ (∀ lo n, s.Starts eid 0x5007 e → s.hthEnabled = true → b.hthRange e = some (lo, n) → ∃ u : State,
      exec (.hthRangeInvalidate eid) s = .next (u.okReply e [])
        ∧ (∀ x ∈ u.hth.lines, s.wayStripe (x.1 / 65536) = true ∨ ¬ (lo ≤ x.2 * 65536 + x.1 % 65536 ∧ x.2 * 65536 + x.1 % 65536 < lo + n))
        ∧ (∀ x ∈ u.hth.lines, x ∈ s.hth.lines))
    ∧ (∀ (way : Fin 16) set, s.rbit Reg.hthStatus 1 = false → s.wayLocked way = false → s.wayStripe way = false → ∃ u : State,
      exec (.tagParityError way set false) s = .next u ∧ KMap.get? u.hth.lines (way * 65536 + set) = none
        ∧ u.rf Reg.hthCntEvents 15 0 = min 0xFFFF (s.rf Reg.hthCntEvents 15 0 + 1) ∧ u.data = s.data)

/-- HTH_PRELOAD_LOCK is refused where Heather is not enabled, where the way is busy, where OFFSET, LENGTH or REGION is invalid,
and for a stripe way, a powered-down way or a lock that would leave fewer than 2 GENERAL ways; HTH_INVALIDATE clears every
lock (R418). The refusals are judged in this order (the order of the rule's table, the model's reading). The clauses that go
through them rest on choices of the model: log entry 39. -/
def Obligations.PreloadLockRefusals : Prop :=  ∀ (s : State) (eid : Nat) (e : Entry) (b : State) (w : Nat), b = s.markBegun eid → w = e.p 0 1 → w < 16 →
    (s.Starts eid 0x5005 e →
      (s.hthEnabled = false → exec (.hthPreloadLock eid) s = .next (b.fail e St.busy 0x1B03))
      ∧ (s.hthEnabled = true → s.wayBusy w = true → exec (.hthPreloadLock eid) s = .next (b.fail e St.busy 0x1B02))
      ∧ (s.hthEnabled = true → s.wayBusy w = false → bitAt (e.p 1 1) 1 = false →
        (b.hthRange e = none → exec (.hthPreloadLock eid) s = .next (b.fail e St.invalidParam 0x1B01))
        ∧ (∀ lo n, b.hthRange e = some (lo, n) → (n = 0 ∨ 65536 < n) →
          exec (.hthPreloadLock eid) s = .next (b.fail e St.invalidParam 0x1B01))
        ∧ (∀ lo n, b.hthRange e = some (lo, n) → 0 < n → n ≤ 65536 →
          (s.wayStripe w = true ∨ s.wayOff w = true ∨ (bitAt (e.p 1 1) 0 = true ∧ s.wayLocked w = false ∧ s.tooFew w = true)) →
          exec (.hthPreloadLock eid) s = .next (b.fail e St.invalidParam 0x1B02))))
    ∧ (∀ j, s.rbit Reg.hthStatus 4 = true → s.hth.invs = [j] → s.rbit Reg.hthStatus 6 = false →
      ∃ t, exec .invalidateComplete s = .next t ∧ ∀ v < 16, t.wayLocked v = false)

/-! ## Hedgerow (17) -/

/-- Hedgerow's sources and targets (from R424 to R429, R437 to R439, R442). An edge makes a source pending, and one that is not
masked is delivered; a claim takes the highest presented source, a spurious one reads 0x1000 and is counted; a completion by
its target ends service, any other is latched; pending and mask bits are set and cleared by source; a route is changed, or
refused for a level source to a message; a withdrawn source leaves its old target; a source whose target sleeps falls back;
a target that wakes is given what waits. The clauses that go through them rest on choices of the model: log entries 12, 14,
45. -/
def Obligations.HedgerowSources : Prop :=  ∀ (s : State) (n : Nat) (x : Src), srcExists n = true → x = s.src n → s.inP2 = false →
    (srcIsLevel n = false → x.mask = true → exec (.sourceEdge n true) s = .next (s.setSrc n { x with pend := true }))
    ∧ (srcIsLevel n = false → x.mask = false → exec (.sourceEdge n true) s = .next ((s.setSrc n { x with pend := true }).deliver n))
    ∧ (∀ (t : Fin 16), (highest (s.presented t) = some n →
        ∃ u : State, exec (.hrwClaim t true) s = .next u ∧ (u.src n).inService = some (t : Nat) ∧ (u.src n).pend = false
          ∧ u.out = s.out ++ [.readData (Reg.hrwTnClaim t) n] ∧ ∀ m, m ≠ n → u.src m = s.src m)
      ∧ (s.presented t = [] → ∃ u : State, exec (.hrwClaim t true) s = .next u
          ∧ u.out = s.out ++ [.readData (Reg.hrwTnClaim t) 0x1000]
          ∧ u.rf Reg.hrwCntEvents 15 0 = min 0xFFFF (s.rf Reg.hrwCntEvents 15 0 + 1) ∧ u.hrw = s.hrw)
      ∧ (∀ val : W32, fieldOf val.toNat 11 0 = n →
        (x.inService = some (t : Nat) → x.level = false →
          exec (.hrwComplete t val true) s = .next (s.setSrc n { x with inService := none }))
        ∧ (x.inService ≠ some (t : Nat) → exec (.hrwComplete t val true) s = .next (s.latch errHrw n 1))))
    ∧ (∀ (word : Fin 128) (val : W32) (i : Nat), ((List.range 32).filter fun j => val.getLsbD j) = [i] → n = 32 * (word : Nat) + i →
      exec (.hrwPendSet word val true) s = .next (s.edge n)
      ∧ exec (.hrwPendClr word val true) s
        = .next (s.setSrc n { x with pend := false, fallen := none, oldTarget := none, asleepAt := none })
      ∧ exec (.hrwMaskSet word val true) s = .next ((s.dropEdges n).setSrc n { x with mask := true })
      ∧ exec (.hrwMaskClr word val true) s = .next (s.unmask n)
      ∧ (s.srcByHost n = false → exec (.hrwPendSet word val false) s = .next (s.latch errHrw n 1)))
    ∧ (∀ val : W32, s.rf Reg.hrwSrcSel 11 0 = n →
      ((srcIsLevel n && (routeOf val.toNat).msix) = false → exec (.hrwSrcRoute val true) s = .next (s.retarget n (routeOf val.toNat)))
      ∧ ((srcIsLevel n && (routeOf val.toNat).msix) = true → exec (.hrwSrcRoute val true) s = .next (s.latch errHrw n 1)))
    ∧ (∀ t, x.oldTarget = some t → x.pend = false →
      exec (.retargetWithdraw n) s = .next (s.setSrc n { x with oldTarget := none }))
    ∧ (∀ t0, x.asleepAt = some t0 → x.pend = true → x.fallen = none → x.route.msix = false → s.tgtAsleep x.route.target = true →
      exec (.wakeDeadlineExpiry n) s = .next (s.fallBack n (s.rf (Reg.hrwTnCfg x.route.target) 7 4)))
    ∧ (∀ t, exec (.targetWake true t) s = .next ((s.setTgt t { s.tgt t with asleep := false, wakeReq := false }).deliverWaiting
        fun y => !y.route.msix && y.route.target == t))

/-- MSI-X (from R430 to R436). A batch that has its count, or whose timer ends, commits one message of the vector's address and
data, or sets its PBA bit while masked; HRW_MOD sets a vector's count and time; an unmasked vector sends what pends; a
function put into D3hot commits its batches first; PME_Turn_Off is acknowledged last. The clauses that go through them rest
on choices of the model: log entry 45. -/
def Obligations.MsixMessages : Prop :=  ∀ (s : State) (fn v : Nat) (x : Vec), x = s.vec fn v →
    (∀ bt, x.batch = some bt → (s.fn fn).asleep = false → s.vecMasked fn v = false →
      (bt.count ≤ bt.edges.length → ∃ u : State, exec (.batchCountReached fn v) s = .next u
        ∧ u.out = s.out ++ [.msix fn v x.addr x.data] ∧ (u.vec fn v).batch = none ∧ (u.vec fn v).pba = false
        ∧ (s.pair Reg.hrwCntMsgLo + 1 < 2 ^ 64 → u.pair Reg.hrwCntMsgLo = s.pair Reg.hrwCntMsgLo + 1))
      ∧ (∃ u : State, exec (.batchTimerExpiry fn v) s = .next u ∧ u.out = s.out ++ [.msix fn v x.addr x.data]
        ∧ (u.vec fn v).batch = none))
    ∧ (∀ bt, x.batch = some bt → (s.fn fn).asleep = false → s.vecMasked fn v = true →
      exec (.batchTimerExpiry fn v) s = .next (s.setVec fn v { x with batch := none, pba := true }))
    ∧ (∀ val : W32, v < s.tableSize fn → ∃ u : State, exec (.hrwMod fn v val) s = .next u
        ∧ u.vec fn v = { x with count := fieldOf val.toNat 15 0, time := fieldOf val.toNat 31 16 } ∧ u.regs = s.regs ∧ u.out = s.out)
    ∧ (exec (.msixVectorUnmask fn (some v)) s = .next ((s.setVec fn v { x with mask := false }).sendPba fn))
    ∧ (∀ en, exec (.pmcsrD3hot fn en) s
        = .next (((s.commitFn fn).setFn fn { (s.commitFn fn).fn fn with d3 := true, pmeEn := en }).emit (.cfgDone fn)))
    ∧ (∃ u : State, exec .pmeTurnOff s = .next u ∧ u.out.getLast? = some .pmeToAck)

/-! ## Clocks, resets and power (18, 22) -/

/-- Resets (from R455 to R459, R467, R534 to R537). CRP_RESET acts only with its key; a rebuilt head has empty queues, no
connections and empty transports, and keeps role keys, failure counts, persisted parameters and fuses, and DDR content
unless cold; each reset pin, power-good pin, link reset and function reset has its effect; 1 ms after UPD_ACTIVATE with NOW
the head is reset. The clauses that go through them rest on choices of the model: log entries 31, 32, 34, 35, 43, 44. -/
def Obligations.ResetCommands : Prop :=  ∀ (s : State),
    (∀ val : W32, fieldOf val.toNat 15 8 = 0xC5 →
      (bitAt val.toNat 0 = true → bitAt val.toNat 1 = false → exec (.crpResetWarm val) s = .next (s.warmReset 3))
      ∧ (bitAt val.toNat 1 = true → exec (.crpResetCold val) s = .next (s.coldCommand 2)))
    ∧ (∀ val : W32, fieldOf val.toNat 15 8 ≠ 0xC5 → exec (.crpResetWarm val) s = .next s ∧ exec (.crpResetCold val) s = .next s)
    ∧ (∀ cold, (s.rebuilt cold).ez.queue = [] ∧ (s.rebuilt cold).drv = Drv.reset ∧ (s.rebuilt cold).tape0 = Tape.reset
      ∧ (s.rebuilt cold).ez.roleKeys = s.ez.roleKeys ∧ (s.rebuilt cold).ez.authFail = s.ez.authFail
      ∧ (s.rebuilt cold).ez.parNor = s.ez.parNor ∧ (s.rebuilt cold).fuses = s.fuses ∧ (s.rebuilt cold).pending = s.pending
      ∧ (s.rebuilt cold).reg Reg.crpCnt = s.reg Reg.crpCnt
      ∧ (s.rebuilt cold).mem.granules = (if cold then [] else s.mem.granules))
    ∧ (s.crp.boot = .ready → exec .coldReset s = .next ((s.onCrp fun c => { c with sysRstN := false }).coldReset 1 .held)
      ∧ exec .hostLinkReset s = .next ((((((List.range 64).foldl State.resetFn s).onHrw fun h =>
          { h with fns := KMap.mapV h.fns fun _ f => { f with vfOn := false } }).resetCause 8).discard [0x11]).onCrp
          fun c => { c with linkUp := false })
      ∧ exec .perstNRelease s = .next (s.onCrp fun c => { c with linkUp := true }))
    ∧ (∀ fn, fn < 64 → exec (.functionLevelReset fn) s = .next (s.resetFn fn))
    ∧ (exec .powerOnReset s = .next ((s.releasePins.powerUp).emit (.pin "CORE_PWR_EN" 0 false))
      ∧ exec .powerLoss s = .next (s.releasePins.powerUp.onCrp fun c => { c with boot := .off })
      ∧ s.releasePins.powerUp.clk = 0 ∧ s.releasePins.powerUp.skl = Skl.reset)
    ∧ (s.crp.boot = .held → exec .sysResetNRelease s = .next ((((s.onCrp fun c => { c with sysRstN := true }).onCrp
        fun c => { c with boot := .booting }).emit (.pin "DDR_RESET_N" 0 true)).startBoot))
    ∧ (s.crp.boot = .waitSoc → exec .socPgRise s
        = .next ((s.onCrp fun c => { c with socPg := true, boot := .waitCore }).corePower true))
    ∧ (s.crp.corePwrEn = true → s.crp.corePg = false → s.crp.trans = 0 →
      (s.crp.boot = .waitCore → s.crp.sysRstN = true → exec .corePgRise s
        = .next ((((s.onCrp fun c => { c with corePg := true }).onCrp fun c => { c with boot := .booting }).emit
          (.pin "DDR_RESET_N" 0 true)).startBoot))
      ∧ exec .corePgTimeout s = .next (s.corePower false))
    ∧ (s.crp.boot = .waitCore → s.crp.corePwrEn = false → exec .corePwrEnRetry s = .next (s.corePower true))
    ∧ (s.crp.boot ≠ .off → s.crp.socPg = true → exec .socPgFall s
        = .next (((s.coldReset 1 .waitSoc).onCrp fun c => { c with socPg := false, corePg := false }).corePower false))
    ∧ (s.crp.corePg = true → s.crp.corePwrEn = true → s.crp.trans = 0 → exec .corePgFall s
        = .next (((s.onCrp fun c => { c with corePg := false }).coldReset 1 .waitCore).onCrp fun c => { c with cgFell := true }))
    ∧ (∀ t, s.upd.nowAt = some t → t + 3 ≤ s.clk → exec .activateReset s = .next (s.warmReset 3))

/-- Clocks, power states and temperature (from R454, R461 to R466, R546 to R548). A clock fault is latched and stops its domain,
a relock starts it; an idle block is gated while P1 is allowed and ungated on work; a request for P2 is entered or refused
with its detail, one for P0 leaves P2, as does a wake; a sample is kept and raises the alarm at its limit; two samples at
the trip limit trip the part, which comes back 100 ms after it has cooled. The clauses that go through them rest on choices
of the model: log entries 10, 32, 43. -/
def Obligations.PowerAndThermal : Prop :=  ∀ (s : State),
    (∀ (dom : Fin 10) stopped, s.ready = true → s.stopsByDesign dom = false → (dom : Nat) ∉ [4, 5, 6] → ∃ u : State,
      exec (.clockFault dom stopped) s = .next u ∧ u.rbit Reg.crpClkStat (16 + dom) = true
        ∧ u.crp.stopped = (dom : Nat) :: s.crp.stopped.filter (· != (dom : Nat)))
    ∧ (∀ dom : Fin 10, exec (.pllRelock dom) s = .next (s.onCrp fun c => { c with stopped := c.stopped.filter (· != (dom : Nat)) }))
    ∧ (∀ k i, s.ready = true → s.inP2 = false → s.par Par.p1En = 1 → s.gateable.contains (k, i) = true →
      s.crp.gated.contains (k, i) = false → s.blockEmpty k i = true →
      exec (.blockIdleGate k i) s = .next ((s.onCrp fun c => { c with gated := (k, i) :: c.gated }).showGated))
    ∧ (∀ k i, s.crp.gated.contains (k, i) = true →
      exec (.blockUngate k i) s = .next ((s.onCrp fun c => { c with gated := c.gated.filter (· != (k, i)) }).showGated))
    ∧ (∀ val : W32, s.ready = true → s.crp.trans = 0 →
      (fieldOf val.toNat 1 0 = 2 → exec (.pstateP2Request val) s = .next ((s.setRf Reg.crpPstate 1 0 2).p2Enter)
        ∧ ∀ dt, s.inP2 = false → s.p2Refused = some dt → ∃ u : State, exec (.pstateP2Request val) s = .next u
          ∧ u.reg Reg.crpPstateRes = BitVec.ofNat 32 (St.busy + 65536 * dt) ∧ u.crp = s.crp)
      ∧ (fieldOf val.toNat 1 0 = 0 → s.inP2 = true →
        exec (.pstateP0Request val) s = .next ((s.setRf Reg.crpPstate 1 0 0).p2Leave)))
    ∧ (s.inP2 = true → s.crp.trans = 0 → s.wakePending = true → s.crp.linkUp = false →
      exec .alwaysOnWake s = .next ((s.emit (.pin "WAKE_N" 0 true)).p2Leave))
    ∧ (∀ (n : Fin 14) temp, s.sensorOn n = true → ∃ u : State, exec (.thermalSample n temp) s = .next u
        ∧ KMap.get? u.thm.temps n = some temp ∧ (16 * (s.par Par.alarmC : Int) ≤ temp → u.rbit Reg.crpTherm 0 = true))
    ∧ (∀ x ∈ s.thm.hot, 2 ≤ x.2 → s.sensorOn x.1 = true → s.crp.boot ≠ .tripped → ∃ u : State, exec .thermalTrip s = .next u
        ∧ u.rbit Reg.crpTherm 2 = true ∧ u.crp.boot = .tripped ∧ u.crp.corePwrEn = false ∧ u.rf Reg.crpRstCause 19 16 = 6)
    ∧ (∀ t, s.thm.coolSince = some t → s.crp.boot = .tripped → t + 300 ≤ s.clk → ∃ u : State, exec .tripEnd s = .next u
        ∧ u.crp.boot = .waitCore ∧ u.crp.corePwrEn = true ∧ u.thm.hot = []
        ∧ u.out = s.out ++ [.pin "THERMTRIP_N" 0 false, .pin "CORE_PWR_EN" 0 true])

/-! ## Fold's work and the out-of-band port (19) -/

/-- A tick (R470 to R474): at a boundary of a part that is READY, time and FLD_TICK move on by one, and the tick's source rises;
before READY only time passes; without power nothing does. Every 2^22 ticks the count is written to NOR. The clauses that go
through them rest on choices of the model: log entries 1, 70, 83. -/
def Obligations.Ticks : Prop :=  ∀ (s : State) (tk : TickIn),
    (s.crp.boot = .off → exec (.tickBoundary tk) s = .next s)
    ∧ (s.crp.boot ≠ .off → s.crp.warmEnd = none → s.ready = false → exec (.tickBoundary tk) s = .next { s with clk := s.clk + 1 })
    ∧ (s.crp.boot ≠ .off → s.crp.warmEnd = none → s.ready = true → s.dhd.armed = false → s.fld.tel = none → tk.late = true →
      tk.ce = [] → ∃ u : State, exec (.tickBoundary tk) s = .next (if s.crp.stopped.any (· < 3) then u else u.tickFold tk)
        ∧ u.clk = s.clk + 1 ∧ u.tick = (s.tick + 1) % 2 ^ 64 ∧ u.fld.decLate = true ∧ u.fld.imon = tk.imon
        ∧ u.rf Reg.fldTickStat 15 0 = min 0xFFFF (s.rf Reg.fldTickStat 15 0 + 1) ∧ (u.src 0x600).pend = true)
    ∧ (s.ready = true → s.fld.ckpt + 2 ^ 22 ≤ s.tick → ∃ u : State, exec .tickCheckpoint s = .next u ∧ u.fld.ckpt = s.tick
        ∧ u.out = s.out ++ [.nor "tick checkpoint" (leBytes 8 s.tick)] ∧ u.regs = s.regs)

/-- Background work and telemetry (from R475 to R484, R490). BG_BUDGET_SET joins a decision set; SCRUB_START starts a patrol
pass or delivers the list of uncorrectable words; the patrol moves on by the words it read; a verify step verifies a stripe
of an owned, idle group; a SMART read keeps the wear; TELEMETRY_CONFIG stores the next configuration and replies the next
sequence number; a snapshot that is due is written with its CRC. Diagnostics (from R489, R490). DIAG_SELFTEST of every unit
with none failing replies zeros and passes; DIAG_LOOPBACK of an idle subport replies the bits sent and the errors found. The
clauses that go through them rest on choices of the model: log entries 13, 71, 72, 73, 74, 84. -/
def Obligations.BackgroundAndTelemetry : Prop :=
  (∀ (s : State) (eid : Nat) (e : Entry) (b : State), b = s.markBegun eid →
      (s.Starts eid 0x6004 e →
        ([(Par.bgDdrPct, e.p 0 1), (Par.bgDrivePct, e.p 1 1), (Par.bgIdlePct, e.p 2 1)].any fun x =>
          x.2 < (parInfo x.1).lo || (parInfo x.1).hi < x.2) = false →
        exec (.bgBudgetSet eid) s = .next (b.joinBatch ⟨e.eid, [(Par.bgDdrPct, e.p 0 1, false), (Par.bgDrivePct, e.p 1 1, false),
          (Par.bgIdlePct, e.p 2 1, false)], e.area.take 3⟩))
      ∧ (s.Starts eid 0x6005 e → e.p 0 1 = 0 → ∃ u : State, exec (.scrubStart eid true) s
          = .next (u.okReply e (leBytes 4 (s.fld.patrolPass + 1))) ∧ u.fld.patrolPos = 0 ∧ u.rbit Reg.fldBgStat 0 = true)
      ∧ (s.Starts eid 0x6005 e → e.p 0 1 = 2 → e.p 8 8 % 64 = 0 → e.ring ≠ 1023 → exec (.scrubStart eid true) s
          = .next ((b.deliverTo e (e.p 8 8) (s.mem.ues.flatMap UeEntry.bytes)).okReply e (leBytes 4 s.mem.ues.length)))
      ∧ (∀ words, s.ready = true → s.inP2 = false → s.initDone = true → s.fld.patrolPos + words < s.patrolWords → ∃ u : State,
        exec (.patrolScrub words []) s = .next u ∧ u.fld.patrolPos = s.fld.patrolPos + words ∧ u.rbit Reg.fldBgStat 0 = true)
      ∧ (∀ root block g data units, s.group? root = some g → s.ready = true → s.inP2 = false → s.owns (s.rootDom root) = true →
        s.verifyHere (s.rootDom root) root block = true → s.treeBusy root = false → g.st = .optimal → s.locked root block = false →
        s.tskFree (s.rootDom root) = true → ((List.range (g.geoAt block).d).any fun k => s.blockLost root (block / (g.geoAt block).d * (g.geoAt block).d + k)) = false →
        exec (.stripeVerify root block (.ok data) units) s = .next ((s.verifyStripe root (block / (g.geoAt block).d * (g.geoAt block).d)
          (padTo data (4096 * (g.geoAt block).d)) units).verifyPast (s.rootDom root) root
            (block / (g.geoAt block).d * (g.geoAt block).d + (g.geoAt block).d)))
      ∧ (∀ (p : Fin 16) used, s.ready = true → s.inP2 = false → (s.port p).present = true → used < s.par Par.wearWarnPct → ∃ u : State,
        exec (.smartRead p used) s = .next u ∧ KMap.get? u.fld.smart p = some (used % 256)
          ∧ u.out = s.out ++ [.nvmeAdmin "Get Log Page SMART" p 0] ∧ u.regs = s.regs)
      ∧ (s.Starts eid 0x6006 e → e.p 0 8 % 4096 = 0 → 4 ≤ e.p 8 1 → e.p 8 1 ≤ 16 → e.p 9 1 ≤ 63 → e.p 10 2 ≤ 3000 →
        exec (.telemetryConfig eid) s = .next ((b.onFld fun f => { f with telNext := some ⟨e.p 0 8, e.p 8 1, e.p 9 1, e.p 10 2⟩ }).okReply
          e (leBytes 4 (s.fld.telSeq + b2n s.fld.telDue))))
      ∧ (∀ c, s.fld.tel = some c → s.ready = true → s.fld.telDue = true → s.crp.linkUp = true → (s.fn c.fn).d3 = false →
        (s.fn c.fn).bme = true → ∃ u : State, exec .telemetrySnapshot s = .next u ∧ u.fld.telDue = false
          ∧ u.fld.telSeq = (s.fld.telSeq + 1) % 2 ^ 32 ∧ u.out = s.out ++ [.hostWrite c.fn (c.addr + 512 * (s.fld.telSeq % 2 ^ c.log2))
            (s.snapshot ++ leBytes 4 (crc32c s.snapshot))] ∧ u.rf Reg.fldTelStat 15 0 = s.fld.telSeq % 65536))
  ∧ (∀ (s : State) (eid : Nat) (e : Entry) (b : State), b = s.markBegun eid →
      (s.Starts eid 0x7F03 e → e.p 0 1 = 0 → s.ez.inst = [] → ∃ u : State, exec (.diagSelftest eid []) s = .next (u.okReply e (zeros 16))
        ∧ u.dhd.selftestOk = true)
      ∧ (∀ bits errs, s.Starts eid 0x7F04 e → e.p 0 1 = 0 → e.p 1 1 ≤ 1 → e.p 2 1 < s.subCount (e.p 1 1) → 1 ≤ e.p 4 4 → e.p 4 4 ≤ 10000 →
        s.subUp (e.p 1 1) (e.p 2 1) = false → exec (.diagLoopback eid bits errs) s = .next (b.okReply e (leBytes 8 bits ++ leBytes 8 errs))))

/-- The out-of-band port (from R485 to R487). A packet enters the queue of ring 1,023; a repeated packet is answered with its
reply again; window writes and reads act on the exchange window and are acknowledged; an echo request for the port's address
is answered. SMBus (R455, R488): each read answers its code's bytes and the PEC over the transfer; a reset command needs its
key and a right PEC. The clauses that go through them rest on choices of the model: log entries 54, 85, 86. -/
def Obligations.OutOfBandAndSmbus : Prop :=
  (∀ (s : State) (xid woff : Nat) (data : Bytes), s.ready = true →
      (∀ pkt, pkt.length = 64 → (∀ h ∈ s.fld.heldOob, h.pkt ≠ pkt) → s.fld.oobQ.length < 256 → ∃ u : State,
        exec (.oobPacket xid pkt) s = .next u ∧ u.fld.oobQ = s.fld.oobQ ++ [(pkt, xid)] ∧ u.out = s.out
          ∧ (∀ q, s.sq 1023 = some q → u.sq 1023 = some { q with tail := (q.tail + 1) % 2 ^ q.log2 })
          ∧ u.rbit Reg.fldOobStat 0 = true)
      ∧ (∀ h bs rest, s.fld.heldOob = h :: rest → h.pkt.length = 64 → h.reply = some bs → ∃ u : State,
        exec (.oobPacket xid h.pkt) s = .next u ∧ u.out = s.out ++ [.oob 2 (oobDatagram 2 xid 0 bs)] ∧ u.fld = s.fld)
      ∧ (woff + data.length ≤ 2 ^ 20 → data.length ≤ 1024 → ∃ u : State, exec (.winWrite xid woff data) s = .next u
          ∧ u.fld.window = Mem.write s.fld.window woff data ∧ u.out = s.out ++ [.oob 5 (oobDatagram 5 xid woff [])])
      ∧ (∀ len, woff + len ≤ 2 ^ 20 → len ≤ 1024 → ∃ u : State, exec (.winRead xid woff len) s = .next u
          ∧ u.out = s.out ++ [.oob 5 (oobDatagram 5 xid woff (Mem.read s.fld.window woff len))] ∧ u.fld = s.fld)
      ∧ (∀ b f, f.length ≤ 1500 → icmp6 f = some (128, b) → s.oobIs6 (slice f 24 16) = true → ∃ u : State,
        exec (.oobFrameAnswer 1 f) s = .next (u.oobAnswer "echo reply" (slice f 8 16 ++ b)) ∧ u.fld = s.fld ∧ u.out = s.out))
  ∧ (∀ (s : State) (a : Nat), s.smbAcks = true → a = 2 * (0x4C + b2n s.part.headB) →
      (∀ c ∈ [(Instr.smbusReadStatus, 0, [byteOf (b2n s.ready + 2 * b2n s.dhd.armed + 4 * s.rf Reg.crpStatus 1 0
            + 16 * b2n (s.rbit Reg.crpTherm 0) + 32 * b2n (s.rbit Reg.crpStatus 3))]),
          (.smbusReadTemp, 1, leBytes 2 (tempField ((s.hottest.map (·.2)).getD 0))),
          (.smbusReadFeTemp 0, 2, leBytes 2 (if s.part.t2 then tempField (KMap.getD s.thm.temps 12 0) else 0x8000)),
          (.smbusReadFeTemp 1, 3, leBytes 2 (if s.part.t2 then tempField (KMap.getD s.thm.temps 13 0) else 0x8000)),
          (.smbusReadImon, 4, leBytes 2 (s.rf Reg.crpImon 15 0)), (.smbusReadHead, 5, [byteOf s.dhd.hst.code, byteOf s.heldMask]),
          (.smbusReadRstCause, 6, leBytes 2 (s.rf Reg.crpRstCause 15 0)), (.smbusReadUnitId, 0x10, 16 :: padTo s.fuses.unitId 16),
          (.smbusReadVersion, 0x11, 8 :: padTo (imgVersion (s.slotHead s.upd.active)) 8)],
        exec c.1 s = .next (s.emit (.smbus (c.2.2 ++ [byteOf (crc8 ([byteOf a, byteOf c.2.1, byteOf (a + 1)] ++ c.2.2))]))))
      ∧ (exec (.smbusColdReset 0xC5 true) s = .next (s.coldCommand 7) ∧ exec (.smbusWarmReset 0xC5 true) s = .next (s.warmReset 7))
      ∧ (∀ key ok, (key ≠ 0xC5 ∨ ok = false) → exec (.smbusColdReset key ok) s = .next s ∧ exec (.smbusWarmReset key ok) s = .next s))

/-! ## Skylark, updates and attestation (20, 21) -/

/-- Skylark (R492 to R502). An event becomes a record with the next SEQ, is merged into the newest one where it equals it soon
enough, or is lost and counted while the memory is full; SKL_READ delivers records in order; SKL_CLEAR frees records up to
one, and queues its own record first. The clauses that go through them rest on choices of the model: log entries 11, 15, 56. -/
def Obligations.SkylarkRecords : Prop :=  ∀ (s : State) (eid : Nat) (e : Entry) (b : State), b = s.markBegun eid →
    (∀ ev rest, s.skl.queue = ev :: rest → s.skl.memFail = false → s.skl.full = false →
      (∀ r, s.skl.recs.getLast? = some r → s.merges ev r = false) → s.skl.recs.length < 8191 → ∃ u : State,
      exec (.skylarkRecord true) s = .next u ∧ u.skl.queue = rest
        ∧ u.skl.recs = s.skl.recs ++ [⟨s.skl.next, s.tick, ev, !s.skl.tickLoaded, 0⟩] ∧ u.skl.next = (s.skl.next + 1) % 2 ^ 32
        ∧ u.skl.full = false ∧ u.regs = s.regs)
    ∧ (∀ ev rest r, s.skl.queue = ev :: rest → s.skl.memFail = false → s.skl.recs.getLast? = some r → s.merges ev r = true → ∃ u : State,
      exec (.skylarkRecord true) s = .next u ∧ u.skl.recs = s.skl.recs.dropLast ++ [{ r with repeat_ := min 0xFFFF (r.repeat_ + 1) }]
        ∧ u.skl.next = s.skl.next)
    ∧ (∀ ev rest, s.skl.queue = ev :: rest → s.skl.memFail = false → s.skl.full = true →
      (∀ r, s.skl.recs.getLast? = some r → s.merges ev r = false) → s.skl.recs ≠ [] → ∃ u : State,
      exec (.skylarkRecord true) s = .next u ∧ u.skl.recs = s.skl.recs ∧ u.skl.lost = min 0xFFFF (s.skl.lost + 1))
    ∧ (s.Starts eid 0x7F01 e → e.snap = none → 1 ≤ e.p 4 4 → e.p 4 4 ≤ 8192 → e.p 8 8 % 32 = 0 → e.ring ≠ 1023 →
      exec (.sklRead eid [] true) s = .next ((b.deliverTo e (e.p 8 8) ((s.skl.selected (e.p 0 4) (e.p 4 4)).flatMap
        SklRec.bytes)).okReply e (b.sklResult s.skl (e.p 0 4) (s.skl.selected (e.p 0 4) (e.p 4 4)))))
    ∧ (s.Starts eid 0x7F02 e → (∀ x ∈ s.ez.queue, x.op = 0x7F01 → e.eid < x.eid) → seqBelow (e.p 0 4) s.skl.next = true →
      s.skl.memFail = false → seqBelow (e.p 0 4) s.skl.oldest = false → (∃ r ∈ s.skl.recs, seqBelow (e.p 0 4) r.seq = false) →
      ∃ u : State, exec (.sklClear eid) s = .next (u.okReply e [])
        ∧ u.skl.recs = s.skl.recs.filter (fun r => seqBelow (e.p 0 4) r.seq)
        ∧ u.skl.queue = clearEvent e (e.p 0 4) s.skl.lost :: s.skl.queue ∧ u.skl.full = false ∧ u.skl.lost = 0)

/-- A write to SKL_RSEL copies the record with that SEQ into SKL_REC_0 to SKL_REC_7 and sets SKL_RSTAT; if the SEQ is not held
the eight registers read zero and HELD is 0. It works in every power state, also while Fold is hung (R500). -/
def Obligations.SkylarkRecordSelect : Prop :=  ∀ (s : State) (val : W32), ∃ u : State, exec (.sklRsel val true) s = .next u ∧ u.skl = s.skl
    ∧ (∀ o, o ≠ Reg.sklRsel → o ≠ Reg.sklRstat → (∀ k < 8, o ≠ Reg.sklRecK k) → u.reg o = s.reg o)
    ∧ (∀ r, s.skl.recs.find? (fun r => r.seq == val.toNat) = some r → u.rbit Reg.sklRstat 0 = true
      ∧ ∀ k < 8, u.reg (Reg.sklRecK k) = BitVec.ofNat 32 (leAt r.bytes (4 * k) 4))
    ∧ ((∀ r ∈ s.skl.recs, r.seq ≠ val.toNat) → u.rbit Reg.sklRstat 0 = false ∧ ∀ k < 8, u.reg (Reg.sklRecK k) = 0)

/-- UPD_STATUS returns the active slot, the states of slots 0 and 1, the TRIAL, WARN90 and EXHAUSTED bits, the pieces received
and PIECES, and the inactive slot's IMG_ID or zero (R526). -/
def Obligations.UpdStatusResult : Prop :=  ∀ (s : State) (eid : Nat) (e : Entry) (i : Nat), s.Starts eid 0x7002 e → i = s.inactive →
    exec (.updStatus eid) s = .next ((s.markBegun eid).okReply e
      ([byteOf s.upd.active, byteOf (s.slot 0).st.code, byteOf (s.slot 1).st.code,
        byteOf (b2n s.trial + 2 * b2n s.upd.warned + 4 * b2n (decide (2 ^ 20 ≤ s.rf Reg.updAttQ 20 0)))]
      ++ leBytes 2 (s.received i) ++ leBytes 2 (if (s.slot i).st = .empty then 0 else imgPieces (s.slotHead i))
      ++ (if (s.slot i).st = .empty then zeros 8 else imgId (s.slotHead i))))

/-- Firmware and attestation (from R511 to R525). UPD_PIECE 0 of an accepted image starts the receipt; a piece whose digest is
right is stored, the last makes the image complete, and one whose digest is wrong is latched and refused; UPD_VERIFY,
UPD_ACTIVATE and UPD_FALLBACK move a slot's state; a trial whose self-test passes is kept; ATTEST_REPORT uses up a signing
index and delivers a signed report. The clauses that go through them rest on choices of the model: log entries 3, 81. -/
def Obligations.FirmwareAndAttestation : Prop :=  ∀ (s : State) (eid : Nat) (e : Entry) (b : State) (i : Nat) (x : Slot), b = s.markBegun eid → i = s.inactive → x = s.slot i →
    i < s.upd.slots.length → s.upd.active < 2 →
    (∀ p : Bytes, s.Starts eid 0x7001 e → e.p 16 8 % 64 = 0 → e.ring ≠ 1023 → p.length = 65536 →
      (e.p 8 2 = 0 → s.trial = false → x.st = .empty → ∃ u : State, u.slot i = ⟨.receiving, [(0, p)], [0]⟩
          ∧ u.out = s.out ++ [.nor "image piece" p] ∧ exec (.updPiece eid (.ok p) true) s = .next (
            if imgId (p.take 33024) ≠ slice e.area 0 8 then b.fail e St.invalidParam 0x2001
            else match s.fuses.judgeImage p with
              | none => u.okReply e (u.pieceResult false)
              | some (st, dt) => (if st = St.checkMismatch then b.latch errUpd 0 1 else b).fail e st dt))
      ∧ (∀ k, e.p 8 2 = k → 1 ≤ k → k < 1024 → x.st = .receiving → k < imgPieces (s.slotHead i) → x.pieces ≠ [] →
        x.bits.contains k = false → ∃ u : State, u.slot i = ⟨if x.bits.length + 1 = imgPieces (s.slotHead i) then .complete
            else .receiving, KMap.put x.pieces k p, k :: x.bits⟩
          ∧ exec (.updPiece eid (.ok p) true) s = .next (
            if imgId (s.slotHead i) ≠ slice e.area 0 8 then b.fail e St.busy 0x2001
            else if sha256 p = imgDigest (s.slotHead i) k then u.okReply e (u.pieceResult false)
            else (b.latch errUpd k 2).fail e St.checkMismatch 0x2002)))
    ∧ (s.Starts eid 0x7003 e → x.st = .complete → x.delivered = false →
      exec (.updVerify eid none) s = .next (match s.fuses.judgeImage (KMap.getD x.pieces 0 []) with
        | none => (b.setSlotOf i { x with st := .verified }).okReply e (imgVersion (s.slotHead i) ++ leBytes 4 (imgSvn (s.slotHead i)))
        | some (st, dt) => (if st = St.checkMismatch then (b.setSlotOf i { x with st := .invalid }).latch errUpd 0 1
            else b.setSlotOf i { x with st := .invalid }).fail e st dt))
    ∧ (s.Starts eid 0x7004 e → e.p 0 1 = 0 → x.st = .verified → exec (.updActivate eid) s
        = .next (((b.setSlotOf i { x with st := .trial }).selectSlot i 2).okReply e []))
    ∧ (s.Starts eid 0x7005 e → e.p 0 1 = 0 → x.st = .verified → s.fuses.floor ≤ imgSvn (s.slotHead i) → exec (.updFallback eid) s
        = .next ((((b.setSlotOf i { x with st := .active }).setSlotOf s.upd.active
          { s.slot s.upd.active with st := .verified }).selectSlot i 0).okReply e []))
    ∧ (s.ready = true → s.upd.selftest = true → (s.slot i).st = .verified → ∃ u : State, exec (.trialSelftest true) s = .next u
        ∧ u.dhd.selftestOk = true ∧ u.upd.selftest = false ∧ u.upd.attempts = 0 ∧ u.upd.active = s.upd.active)
    ∧ (∀ q, q = s.rf Reg.updAttQ 20 0 → s.Starts eid 0x7010 e → e.p 32 8 % 64 = 0 → e.ring ≠ 1023 → q < 2 ^ 20 → ∃ (u : State) (sig : Bytes),
      exec (.attestReport eid true) s = .next ((u.deliverTo e (e.p 32 8) ((b.guardIndex q).attestBody (slice e.area 0 32) q ++ sig)).okReply
        e []) ∧ (u.rf Reg.updAttQ 20 0 = q + 1) ∧ u.fuses.burnt.contains (q / 1024) = true)

/-! ## What holds of every state (whole-machine rules) -/

/-- After reset the register bank is in its canonical form: offsets rise strictly, and no word listed equals its reset value
(the model's own form). After power-on the registers read as their reset values, the part is not READY, no session, ring,
connection, object or cartridge is there, every transport is empty, and no domain is owned. The clauses that go through them
rest on choices of the model: log entries 3, 5, 6. -/
def Obligations.ResetState : Prop :=
  (State.reset.bankOk)
  ∧ ((∀ off, State.reset.reg off = regReset off) ∧ State.reset.pending = [] ∧ State.reset.ready = false
    ∧ State.reset.ez.sessions = [] ∧ State.reset.ez.sqs = [] ∧ State.reset.drv.conns = [] ∧ State.reset.data.objects = []
    ∧ (∀ t, (State.reset.tape t).mst = .none) ∧ (∀ d, State.reset.owns d = false))

/-- Every step keeps the register bank in its canonical form (the model's own form): offsets rise strictly, and no word listed
equals its reset value. -/
def Obligations.EveryStepKeepsTheBankCanonical : Prop :=  ∀ s t : State, s.bankOk → step s = .next t → t.bankOk

/-- A register bank in canonical form reads back what is written: the word written, at the other offsets what was there; and a
bank is determined by what it reads. A buffer that holds bytes by address keeps its canonical form under every write, reads
back what was written, and keeps every other byte. -/
def Obligations.RegisterBank : Prop :=
  (∀ (s : State) (off : Nat) (v : W32), s.bankOk → (s.setReg off v).bankOk ∧ (s.setReg off v).reg off = v
      ∧ (∀ o, o ≠ off → (s.setReg off v).reg o = s.reg o)
      ∧ ∀ t : State, t.bankOk → (∀ o, t.reg o = s.reg o) → t.regs = s.regs)
  ∧ (∀ (m : Mem) (a : Nat) (b : Bytes), Mem.wf m = true → Mem.wf (Mem.write m a b) = true ∧ Mem.read (Mem.write m a b) a b.length = b
      ∧ ∀ c, (c < a ∨ a + b.length ≤ c) → Mem.read (Mem.write m a b) c 1 = Mem.read m c 1)
end

