-- ==== Sys2Proof/Laws/State.lean ====
section
/-! SUPPORT. What each update of the state leaves of every field. -/

namespace Sys2Proof.Machine

open Sys2Proof

/-! ### onEz -/

@[simp] theorem State.onEz_part (s : State) (f : Ez → Ez) : (s.onEz f).part = s.part := rfl
@[simp] theorem State.onEz_regs (s : State) (f : Ez → Ez) : (s.onEz f).regs = s.regs := rfl
@[simp] theorem State.onEz_staged (s : State) (f : Ez → Ez) : (s.onEz f).staged = s.staged := rfl
@[simp] theorem State.onEz_latched (s : State) (f : Ez → Ez) : (s.onEz f).latched = s.latched := rfl
@[simp] theorem State.onEz_ez (s : State) (f : Ez → Ez) : (s.onEz f).ez = f s.ez := rfl
@[simp] theorem State.onEz_data (s : State) (f : Ez → Ez) : (s.onEz f).data = s.data := rfl
@[simp] theorem State.onEz_hrw (s : State) (f : Ez → Ez) : (s.onEz f).hrw = s.hrw := rfl
@[simp] theorem State.onEz_skl (s : State) (f : Ez → Ez) : (s.onEz f).skl = s.skl := rfl
@[simp] theorem State.onEz_fpt (s : State) (f : Ez → Ez) : (s.onEz f).fpt = s.fpt := rfl
@[simp] theorem State.onEz_dhd (s : State) (f : Ez → Ez) : (s.onEz f).dhd = s.dhd := rfl
@[simp] theorem State.onEz_mem (s : State) (f : Ez → Ez) : (s.onEz f).mem = s.mem := rfl
@[simp] theorem State.onEz_hth (s : State) (f : Ez → Ez) : (s.onEz f).hth = s.hth := rfl
@[simp] theorem State.onEz_crp (s : State) (f : Ez → Ez) : (s.onEz f).crp = s.crp := rfl
@[simp] theorem State.onEz_thm (s : State) (f : Ez → Ez) : (s.onEz f).thm = s.thm := rfl
@[simp] theorem State.onEz_fld (s : State) (f : Ez → Ez) : (s.onEz f).fld = s.fld := rfl
@[simp] theorem State.onEz_fuses (s : State) (f : Ez → Ez) : (s.onEz f).fuses = s.fuses := rfl
@[simp] theorem State.onEz_upd (s : State) (f : Ez → Ez) : (s.onEz f).upd = s.upd := rfl
@[simp] theorem State.onEz_drv (s : State) (f : Ez → Ez) : (s.onEz f).drv = s.drv := rfl
@[simp] theorem State.onEz_net (s : State) (f : Ez → Ez) : (s.onEz f).net = s.net := rfl
@[simp] theorem State.onEz_tape0 (s : State) (f : Ez → Ez) : (s.onEz f).tape0 = s.tape0 := rfl
@[simp] theorem State.onEz_tape1 (s : State) (f : Ez → Ez) : (s.onEz f).tape1 = s.tape1 := rfl
@[simp] theorem State.onEz_clk (s : State) (f : Ez → Ez) : (s.onEz f).clk = s.clk := rfl
@[simp] theorem State.onEz_fresh (s : State) (f : Ez → Ez) : (s.onEz f).fresh = s.fresh := rfl
@[simp] theorem State.onEz_out (s : State) (f : Ez → Ez) : (s.onEz f).out = s.out := rfl
@[simp] theorem State.onEz_pending (s : State) (f : Ez → Ez) : (s.onEz f).pending = s.pending := rfl

/-! ### onData -/

@[simp] theorem State.onData_part (s : State) (f : Data → Data) : (s.onData f).part = s.part := rfl
@[simp] theorem State.onData_regs (s : State) (f : Data → Data) : (s.onData f).regs = s.regs := rfl
@[simp] theorem State.onData_staged (s : State) (f : Data → Data) : (s.onData f).staged = s.staged := rfl
@[simp] theorem State.onData_latched (s : State) (f : Data → Data) : (s.onData f).latched = s.latched := rfl
@[simp] theorem State.onData_ez (s : State) (f : Data → Data) : (s.onData f).ez = s.ez := rfl
@[simp] theorem State.onData_data (s : State) (f : Data → Data) : (s.onData f).data = f s.data := rfl
@[simp] theorem State.onData_hrw (s : State) (f : Data → Data) : (s.onData f).hrw = s.hrw := rfl
@[simp] theorem State.onData_skl (s : State) (f : Data → Data) : (s.onData f).skl = s.skl := rfl
@[simp] theorem State.onData_fpt (s : State) (f : Data → Data) : (s.onData f).fpt = s.fpt := rfl
@[simp] theorem State.onData_dhd (s : State) (f : Data → Data) : (s.onData f).dhd = s.dhd := rfl
@[simp] theorem State.onData_mem (s : State) (f : Data → Data) : (s.onData f).mem = s.mem := rfl
@[simp] theorem State.onData_hth (s : State) (f : Data → Data) : (s.onData f).hth = s.hth := rfl
@[simp] theorem State.onData_crp (s : State) (f : Data → Data) : (s.onData f).crp = s.crp := rfl
@[simp] theorem State.onData_thm (s : State) (f : Data → Data) : (s.onData f).thm = s.thm := rfl
@[simp] theorem State.onData_fld (s : State) (f : Data → Data) : (s.onData f).fld = s.fld := rfl
@[simp] theorem State.onData_fuses (s : State) (f : Data → Data) : (s.onData f).fuses = s.fuses := rfl
@[simp] theorem State.onData_upd (s : State) (f : Data → Data) : (s.onData f).upd = s.upd := rfl
@[simp] theorem State.onData_drv (s : State) (f : Data → Data) : (s.onData f).drv = s.drv := rfl
@[simp] theorem State.onData_net (s : State) (f : Data → Data) : (s.onData f).net = s.net := rfl
@[simp] theorem State.onData_tape0 (s : State) (f : Data → Data) : (s.onData f).tape0 = s.tape0 := rfl
@[simp] theorem State.onData_tape1 (s : State) (f : Data → Data) : (s.onData f).tape1 = s.tape1 := rfl
@[simp] theorem State.onData_clk (s : State) (f : Data → Data) : (s.onData f).clk = s.clk := rfl
@[simp] theorem State.onData_fresh (s : State) (f : Data → Data) : (s.onData f).fresh = s.fresh := rfl
@[simp] theorem State.onData_out (s : State) (f : Data → Data) : (s.onData f).out = s.out := rfl
@[simp] theorem State.onData_pending (s : State) (f : Data → Data) : (s.onData f).pending = s.pending := rfl

/-! ### onHrw -/

@[simp] theorem State.onHrw_part (s : State) (f : Hrw → Hrw) : (s.onHrw f).part = s.part := rfl
@[simp] theorem State.onHrw_regs (s : State) (f : Hrw → Hrw) : (s.onHrw f).regs = s.regs := rfl
@[simp] theorem State.onHrw_staged (s : State) (f : Hrw → Hrw) : (s.onHrw f).staged = s.staged := rfl
@[simp] theorem State.onHrw_latched (s : State) (f : Hrw → Hrw) : (s.onHrw f).latched = s.latched := rfl
@[simp] theorem State.onHrw_ez (s : State) (f : Hrw → Hrw) : (s.onHrw f).ez = s.ez := rfl
@[simp] theorem State.onHrw_data (s : State) (f : Hrw → Hrw) : (s.onHrw f).data = s.data := rfl
@[simp] theorem State.onHrw_hrw (s : State) (f : Hrw → Hrw) : (s.onHrw f).hrw = f s.hrw := rfl
@[simp] theorem State.onHrw_skl (s : State) (f : Hrw → Hrw) : (s.onHrw f).skl = s.skl := rfl
@[simp] theorem State.onHrw_fpt (s : State) (f : Hrw → Hrw) : (s.onHrw f).fpt = s.fpt := rfl
@[simp] theorem State.onHrw_dhd (s : State) (f : Hrw → Hrw) : (s.onHrw f).dhd = s.dhd := rfl
@[simp] theorem State.onHrw_mem (s : State) (f : Hrw → Hrw) : (s.onHrw f).mem = s.mem := rfl
@[simp] theorem State.onHrw_hth (s : State) (f : Hrw → Hrw) : (s.onHrw f).hth = s.hth := rfl
@[simp] theorem State.onHrw_crp (s : State) (f : Hrw → Hrw) : (s.onHrw f).crp = s.crp := rfl
@[simp] theorem State.onHrw_thm (s : State) (f : Hrw → Hrw) : (s.onHrw f).thm = s.thm := rfl
@[simp] theorem State.onHrw_fld (s : State) (f : Hrw → Hrw) : (s.onHrw f).fld = s.fld := rfl
@[simp] theorem State.onHrw_fuses (s : State) (f : Hrw → Hrw) : (s.onHrw f).fuses = s.fuses := rfl
@[simp] theorem State.onHrw_upd (s : State) (f : Hrw → Hrw) : (s.onHrw f).upd = s.upd := rfl
@[simp] theorem State.onHrw_drv (s : State) (f : Hrw → Hrw) : (s.onHrw f).drv = s.drv := rfl
@[simp] theorem State.onHrw_net (s : State) (f : Hrw → Hrw) : (s.onHrw f).net = s.net := rfl
@[simp] theorem State.onHrw_tape0 (s : State) (f : Hrw → Hrw) : (s.onHrw f).tape0 = s.tape0 := rfl
@[simp] theorem State.onHrw_tape1 (s : State) (f : Hrw → Hrw) : (s.onHrw f).tape1 = s.tape1 := rfl
@[simp] theorem State.onHrw_clk (s : State) (f : Hrw → Hrw) : (s.onHrw f).clk = s.clk := rfl
@[simp] theorem State.onHrw_fresh (s : State) (f : Hrw → Hrw) : (s.onHrw f).fresh = s.fresh := rfl
@[simp] theorem State.onHrw_out (s : State) (f : Hrw → Hrw) : (s.onHrw f).out = s.out := rfl
@[simp] theorem State.onHrw_pending (s : State) (f : Hrw → Hrw) : (s.onHrw f).pending = s.pending := rfl

/-! ### onSkl -/

@[simp] theorem State.onSkl_part (s : State) (f : Skl → Skl) : (s.onSkl f).part = s.part := rfl
@[simp] theorem State.onSkl_regs (s : State) (f : Skl → Skl) : (s.onSkl f).regs = s.regs := rfl
@[simp] theorem State.onSkl_staged (s : State) (f : Skl → Skl) : (s.onSkl f).staged = s.staged := rfl
@[simp] theorem State.onSkl_latched (s : State) (f : Skl → Skl) : (s.onSkl f).latched = s.latched := rfl
@[simp] theorem State.onSkl_ez (s : State) (f : Skl → Skl) : (s.onSkl f).ez = s.ez := rfl
@[simp] theorem State.onSkl_data (s : State) (f : Skl → Skl) : (s.onSkl f).data = s.data := rfl
@[simp] theorem State.onSkl_hrw (s : State) (f : Skl → Skl) : (s.onSkl f).hrw = s.hrw := rfl
@[simp] theorem State.onSkl_skl (s : State) (f : Skl → Skl) : (s.onSkl f).skl = f s.skl := rfl
@[simp] theorem State.onSkl_fpt (s : State) (f : Skl → Skl) : (s.onSkl f).fpt = s.fpt := rfl
@[simp] theorem State.onSkl_dhd (s : State) (f : Skl → Skl) : (s.onSkl f).dhd = s.dhd := rfl
@[simp] theorem State.onSkl_mem (s : State) (f : Skl → Skl) : (s.onSkl f).mem = s.mem := rfl
@[simp] theorem State.onSkl_hth (s : State) (f : Skl → Skl) : (s.onSkl f).hth = s.hth := rfl
@[simp] theorem State.onSkl_crp (s : State) (f : Skl → Skl) : (s.onSkl f).crp = s.crp := rfl
@[simp] theorem State.onSkl_thm (s : State) (f : Skl → Skl) : (s.onSkl f).thm = s.thm := rfl
@[simp] theorem State.onSkl_fld (s : State) (f : Skl → Skl) : (s.onSkl f).fld = s.fld := rfl
@[simp] theorem State.onSkl_fuses (s : State) (f : Skl → Skl) : (s.onSkl f).fuses = s.fuses := rfl
@[simp] theorem State.onSkl_upd (s : State) (f : Skl → Skl) : (s.onSkl f).upd = s.upd := rfl
@[simp] theorem State.onSkl_drv (s : State) (f : Skl → Skl) : (s.onSkl f).drv = s.drv := rfl
@[simp] theorem State.onSkl_net (s : State) (f : Skl → Skl) : (s.onSkl f).net = s.net := rfl
@[simp] theorem State.onSkl_tape0 (s : State) (f : Skl → Skl) : (s.onSkl f).tape0 = s.tape0 := rfl
@[simp] theorem State.onSkl_tape1 (s : State) (f : Skl → Skl) : (s.onSkl f).tape1 = s.tape1 := rfl
@[simp] theorem State.onSkl_clk (s : State) (f : Skl → Skl) : (s.onSkl f).clk = s.clk := rfl
@[simp] theorem State.onSkl_fresh (s : State) (f : Skl → Skl) : (s.onSkl f).fresh = s.fresh := rfl
@[simp] theorem State.onSkl_out (s : State) (f : Skl → Skl) : (s.onSkl f).out = s.out := rfl
@[simp] theorem State.onSkl_pending (s : State) (f : Skl → Skl) : (s.onSkl f).pending = s.pending := rfl

/-! ### onFpt -/

@[simp] theorem State.onFpt_part (s : State) (f : Fpt → Fpt) : (s.onFpt f).part = s.part := rfl
@[simp] theorem State.onFpt_regs (s : State) (f : Fpt → Fpt) : (s.onFpt f).regs = s.regs := rfl
@[simp] theorem State.onFpt_staged (s : State) (f : Fpt → Fpt) : (s.onFpt f).staged = s.staged := rfl
@[simp] theorem State.onFpt_latched (s : State) (f : Fpt → Fpt) : (s.onFpt f).latched = s.latched := rfl
@[simp] theorem State.onFpt_ez (s : State) (f : Fpt → Fpt) : (s.onFpt f).ez = s.ez := rfl
@[simp] theorem State.onFpt_data (s : State) (f : Fpt → Fpt) : (s.onFpt f).data = s.data := rfl
@[simp] theorem State.onFpt_hrw (s : State) (f : Fpt → Fpt) : (s.onFpt f).hrw = s.hrw := rfl
@[simp] theorem State.onFpt_skl (s : State) (f : Fpt → Fpt) : (s.onFpt f).skl = s.skl := rfl
@[simp] theorem State.onFpt_fpt (s : State) (f : Fpt → Fpt) : (s.onFpt f).fpt = f s.fpt := rfl
@[simp] theorem State.onFpt_dhd (s : State) (f : Fpt → Fpt) : (s.onFpt f).dhd = s.dhd := rfl
@[simp] theorem State.onFpt_mem (s : State) (f : Fpt → Fpt) : (s.onFpt f).mem = s.mem := rfl
@[simp] theorem State.onFpt_hth (s : State) (f : Fpt → Fpt) : (s.onFpt f).hth = s.hth := rfl
@[simp] theorem State.onFpt_crp (s : State) (f : Fpt → Fpt) : (s.onFpt f).crp = s.crp := rfl
@[simp] theorem State.onFpt_thm (s : State) (f : Fpt → Fpt) : (s.onFpt f).thm = s.thm := rfl
@[simp] theorem State.onFpt_fld (s : State) (f : Fpt → Fpt) : (s.onFpt f).fld = s.fld := rfl
@[simp] theorem State.onFpt_fuses (s : State) (f : Fpt → Fpt) : (s.onFpt f).fuses = s.fuses := rfl
@[simp] theorem State.onFpt_upd (s : State) (f : Fpt → Fpt) : (s.onFpt f).upd = s.upd := rfl
@[simp] theorem State.onFpt_drv (s : State) (f : Fpt → Fpt) : (s.onFpt f).drv = s.drv := rfl
@[simp] theorem State.onFpt_net (s : State) (f : Fpt → Fpt) : (s.onFpt f).net = s.net := rfl
@[simp] theorem State.onFpt_tape0 (s : State) (f : Fpt → Fpt) : (s.onFpt f).tape0 = s.tape0 := rfl
@[simp] theorem State.onFpt_tape1 (s : State) (f : Fpt → Fpt) : (s.onFpt f).tape1 = s.tape1 := rfl
@[simp] theorem State.onFpt_clk (s : State) (f : Fpt → Fpt) : (s.onFpt f).clk = s.clk := rfl
@[simp] theorem State.onFpt_fresh (s : State) (f : Fpt → Fpt) : (s.onFpt f).fresh = s.fresh := rfl
@[simp] theorem State.onFpt_out (s : State) (f : Fpt → Fpt) : (s.onFpt f).out = s.out := rfl
@[simp] theorem State.onFpt_pending (s : State) (f : Fpt → Fpt) : (s.onFpt f).pending = s.pending := rfl

/-! ### onDhd -/

@[simp] theorem State.onDhd_part (s : State) (f : Dhd → Dhd) : (s.onDhd f).part = s.part := rfl
@[simp] theorem State.onDhd_regs (s : State) (f : Dhd → Dhd) : (s.onDhd f).regs = s.regs := rfl
@[simp] theorem State.onDhd_staged (s : State) (f : Dhd → Dhd) : (s.onDhd f).staged = s.staged := rfl
@[simp] theorem State.onDhd_latched (s : State) (f : Dhd → Dhd) : (s.onDhd f).latched = s.latched := rfl
@[simp] theorem State.onDhd_ez (s : State) (f : Dhd → Dhd) : (s.onDhd f).ez = s.ez := rfl
@[simp] theorem State.onDhd_data (s : State) (f : Dhd → Dhd) : (s.onDhd f).data = s.data := rfl
@[simp] theorem State.onDhd_hrw (s : State) (f : Dhd → Dhd) : (s.onDhd f).hrw = s.hrw := rfl
@[simp] theorem State.onDhd_skl (s : State) (f : Dhd → Dhd) : (s.onDhd f).skl = s.skl := rfl
@[simp] theorem State.onDhd_fpt (s : State) (f : Dhd → Dhd) : (s.onDhd f).fpt = s.fpt := rfl
@[simp] theorem State.onDhd_dhd (s : State) (f : Dhd → Dhd) : (s.onDhd f).dhd = f s.dhd := rfl
@[simp] theorem State.onDhd_mem (s : State) (f : Dhd → Dhd) : (s.onDhd f).mem = s.mem := rfl
@[simp] theorem State.onDhd_hth (s : State) (f : Dhd → Dhd) : (s.onDhd f).hth = s.hth := rfl
@[simp] theorem State.onDhd_crp (s : State) (f : Dhd → Dhd) : (s.onDhd f).crp = s.crp := rfl
@[simp] theorem State.onDhd_thm (s : State) (f : Dhd → Dhd) : (s.onDhd f).thm = s.thm := rfl
@[simp] theorem State.onDhd_fld (s : State) (f : Dhd → Dhd) : (s.onDhd f).fld = s.fld := rfl
@[simp] theorem State.onDhd_fuses (s : State) (f : Dhd → Dhd) : (s.onDhd f).fuses = s.fuses := rfl
@[simp] theorem State.onDhd_upd (s : State) (f : Dhd → Dhd) : (s.onDhd f).upd = s.upd := rfl
@[simp] theorem State.onDhd_drv (s : State) (f : Dhd → Dhd) : (s.onDhd f).drv = s.drv := rfl
@[simp] theorem State.onDhd_net (s : State) (f : Dhd → Dhd) : (s.onDhd f).net = s.net := rfl
@[simp] theorem State.onDhd_tape0 (s : State) (f : Dhd → Dhd) : (s.onDhd f).tape0 = s.tape0 := rfl
@[simp] theorem State.onDhd_tape1 (s : State) (f : Dhd → Dhd) : (s.onDhd f).tape1 = s.tape1 := rfl
@[simp] theorem State.onDhd_clk (s : State) (f : Dhd → Dhd) : (s.onDhd f).clk = s.clk := rfl
@[simp] theorem State.onDhd_fresh (s : State) (f : Dhd → Dhd) : (s.onDhd f).fresh = s.fresh := rfl
@[simp] theorem State.onDhd_out (s : State) (f : Dhd → Dhd) : (s.onDhd f).out = s.out := rfl
@[simp] theorem State.onDhd_pending (s : State) (f : Dhd → Dhd) : (s.onDhd f).pending = s.pending := rfl

/-! ### onMem -/

@[simp] theorem State.onMem_part (s : State) (f : MemSt → MemSt) : (s.onMem f).part = s.part := rfl
@[simp] theorem State.onMem_regs (s : State) (f : MemSt → MemSt) : (s.onMem f).regs = s.regs := rfl
@[simp] theorem State.onMem_staged (s : State) (f : MemSt → MemSt) : (s.onMem f).staged = s.staged := rfl
@[simp] theorem State.onMem_latched (s : State) (f : MemSt → MemSt) : (s.onMem f).latched = s.latched := rfl
@[simp] theorem State.onMem_ez (s : State) (f : MemSt → MemSt) : (s.onMem f).ez = s.ez := rfl
@[simp] theorem State.onMem_data (s : State) (f : MemSt → MemSt) : (s.onMem f).data = s.data := rfl
@[simp] theorem State.onMem_hrw (s : State) (f : MemSt → MemSt) : (s.onMem f).hrw = s.hrw := rfl
@[simp] theorem State.onMem_skl (s : State) (f : MemSt → MemSt) : (s.onMem f).skl = s.skl := rfl
@[simp] theorem State.onMem_fpt (s : State) (f : MemSt → MemSt) : (s.onMem f).fpt = s.fpt := rfl
@[simp] theorem State.onMem_dhd (s : State) (f : MemSt → MemSt) : (s.onMem f).dhd = s.dhd := rfl
@[simp] theorem State.onMem_mem (s : State) (f : MemSt → MemSt) : (s.onMem f).mem = f s.mem := rfl
@[simp] theorem State.onMem_hth (s : State) (f : MemSt → MemSt) : (s.onMem f).hth = s.hth := rfl
@[simp] theorem State.onMem_crp (s : State) (f : MemSt → MemSt) : (s.onMem f).crp = s.crp := rfl
@[simp] theorem State.onMem_thm (s : State) (f : MemSt → MemSt) : (s.onMem f).thm = s.thm := rfl
@[simp] theorem State.onMem_fld (s : State) (f : MemSt → MemSt) : (s.onMem f).fld = s.fld := rfl
@[simp] theorem State.onMem_fuses (s : State) (f : MemSt → MemSt) : (s.onMem f).fuses = s.fuses := rfl
@[simp] theorem State.onMem_upd (s : State) (f : MemSt → MemSt) : (s.onMem f).upd = s.upd := rfl
@[simp] theorem State.onMem_drv (s : State) (f : MemSt → MemSt) : (s.onMem f).drv = s.drv := rfl
@[simp] theorem State.onMem_net (s : State) (f : MemSt → MemSt) : (s.onMem f).net = s.net := rfl
@[simp] theorem State.onMem_tape0 (s : State) (f : MemSt → MemSt) : (s.onMem f).tape0 = s.tape0 := rfl
@[simp] theorem State.onMem_tape1 (s : State) (f : MemSt → MemSt) : (s.onMem f).tape1 = s.tape1 := rfl
@[simp] theorem State.onMem_clk (s : State) (f : MemSt → MemSt) : (s.onMem f).clk = s.clk := rfl
@[simp] theorem State.onMem_fresh (s : State) (f : MemSt → MemSt) : (s.onMem f).fresh = s.fresh := rfl
@[simp] theorem State.onMem_out (s : State) (f : MemSt → MemSt) : (s.onMem f).out = s.out := rfl
@[simp] theorem State.onMem_pending (s : State) (f : MemSt → MemSt) : (s.onMem f).pending = s.pending := rfl

/-! ### onHth -/

@[simp] theorem State.onHth_part (s : State) (f : Hth → Hth) : (s.onHth f).part = s.part := rfl
@[simp] theorem State.onHth_regs (s : State) (f : Hth → Hth) : (s.onHth f).regs = s.regs := rfl
@[simp] theorem State.onHth_staged (s : State) (f : Hth → Hth) : (s.onHth f).staged = s.staged := rfl
@[simp] theorem State.onHth_latched (s : State) (f : Hth → Hth) : (s.onHth f).latched = s.latched := rfl
@[simp] theorem State.onHth_ez (s : State) (f : Hth → Hth) : (s.onHth f).ez = s.ez := rfl
@[simp] theorem State.onHth_data (s : State) (f : Hth → Hth) : (s.onHth f).data = s.data := rfl
@[simp] theorem State.onHth_hrw (s : State) (f : Hth → Hth) : (s.onHth f).hrw = s.hrw := rfl
@[simp] theorem State.onHth_skl (s : State) (f : Hth → Hth) : (s.onHth f).skl = s.skl := rfl
@[simp] theorem State.onHth_fpt (s : State) (f : Hth → Hth) : (s.onHth f).fpt = s.fpt := rfl
@[simp] theorem State.onHth_dhd (s : State) (f : Hth → Hth) : (s.onHth f).dhd = s.dhd := rfl
@[simp] theorem State.onHth_mem (s : State) (f : Hth → Hth) : (s.onHth f).mem = s.mem := rfl
@[simp] theorem State.onHth_hth (s : State) (f : Hth → Hth) : (s.onHth f).hth = f s.hth := rfl
@[simp] theorem State.onHth_crp (s : State) (f : Hth → Hth) : (s.onHth f).crp = s.crp := rfl
@[simp] theorem State.onHth_thm (s : State) (f : Hth → Hth) : (s.onHth f).thm = s.thm := rfl
@[simp] theorem State.onHth_fld (s : State) (f : Hth → Hth) : (s.onHth f).fld = s.fld := rfl
@[simp] theorem State.onHth_fuses (s : State) (f : Hth → Hth) : (s.onHth f).fuses = s.fuses := rfl
@[simp] theorem State.onHth_upd (s : State) (f : Hth → Hth) : (s.onHth f).upd = s.upd := rfl
@[simp] theorem State.onHth_drv (s : State) (f : Hth → Hth) : (s.onHth f).drv = s.drv := rfl
@[simp] theorem State.onHth_net (s : State) (f : Hth → Hth) : (s.onHth f).net = s.net := rfl
@[simp] theorem State.onHth_tape0 (s : State) (f : Hth → Hth) : (s.onHth f).tape0 = s.tape0 := rfl
@[simp] theorem State.onHth_tape1 (s : State) (f : Hth → Hth) : (s.onHth f).tape1 = s.tape1 := rfl
@[simp] theorem State.onHth_clk (s : State) (f : Hth → Hth) : (s.onHth f).clk = s.clk := rfl
@[simp] theorem State.onHth_fresh (s : State) (f : Hth → Hth) : (s.onHth f).fresh = s.fresh := rfl
@[simp] theorem State.onHth_out (s : State) (f : Hth → Hth) : (s.onHth f).out = s.out := rfl
@[simp] theorem State.onHth_pending (s : State) (f : Hth → Hth) : (s.onHth f).pending = s.pending := rfl

/-! ### onCrp -/

@[simp] theorem State.onCrp_part (s : State) (f : Crp → Crp) : (s.onCrp f).part = s.part := rfl
@[simp] theorem State.onCrp_regs (s : State) (f : Crp → Crp) : (s.onCrp f).regs = s.regs := rfl
@[simp] theorem State.onCrp_staged (s : State) (f : Crp → Crp) : (s.onCrp f).staged = s.staged := rfl
@[simp] theorem State.onCrp_latched (s : State) (f : Crp → Crp) : (s.onCrp f).latched = s.latched := rfl
@[simp] theorem State.onCrp_ez (s : State) (f : Crp → Crp) : (s.onCrp f).ez = s.ez := rfl
@[simp] theorem State.onCrp_data (s : State) (f : Crp → Crp) : (s.onCrp f).data = s.data := rfl
@[simp] theorem State.onCrp_hrw (s : State) (f : Crp → Crp) : (s.onCrp f).hrw = s.hrw := rfl
@[simp] theorem State.onCrp_skl (s : State) (f : Crp → Crp) : (s.onCrp f).skl = s.skl := rfl
@[simp] theorem State.onCrp_fpt (s : State) (f : Crp → Crp) : (s.onCrp f).fpt = s.fpt := rfl
@[simp] theorem State.onCrp_dhd (s : State) (f : Crp → Crp) : (s.onCrp f).dhd = s.dhd := rfl
@[simp] theorem State.onCrp_mem (s : State) (f : Crp → Crp) : (s.onCrp f).mem = s.mem := rfl
@[simp] theorem State.onCrp_hth (s : State) (f : Crp → Crp) : (s.onCrp f).hth = s.hth := rfl
@[simp] theorem State.onCrp_crp (s : State) (f : Crp → Crp) : (s.onCrp f).crp = f s.crp := rfl
@[simp] theorem State.onCrp_thm (s : State) (f : Crp → Crp) : (s.onCrp f).thm = s.thm := rfl
@[simp] theorem State.onCrp_fld (s : State) (f : Crp → Crp) : (s.onCrp f).fld = s.fld := rfl
@[simp] theorem State.onCrp_fuses (s : State) (f : Crp → Crp) : (s.onCrp f).fuses = s.fuses := rfl
@[simp] theorem State.onCrp_upd (s : State) (f : Crp → Crp) : (s.onCrp f).upd = s.upd := rfl
@[simp] theorem State.onCrp_drv (s : State) (f : Crp → Crp) : (s.onCrp f).drv = s.drv := rfl
@[simp] theorem State.onCrp_net (s : State) (f : Crp → Crp) : (s.onCrp f).net = s.net := rfl
@[simp] theorem State.onCrp_tape0 (s : State) (f : Crp → Crp) : (s.onCrp f).tape0 = s.tape0 := rfl
@[simp] theorem State.onCrp_tape1 (s : State) (f : Crp → Crp) : (s.onCrp f).tape1 = s.tape1 := rfl
@[simp] theorem State.onCrp_clk (s : State) (f : Crp → Crp) : (s.onCrp f).clk = s.clk := rfl
@[simp] theorem State.onCrp_fresh (s : State) (f : Crp → Crp) : (s.onCrp f).fresh = s.fresh := rfl
@[simp] theorem State.onCrp_out (s : State) (f : Crp → Crp) : (s.onCrp f).out = s.out := rfl
@[simp] theorem State.onCrp_pending (s : State) (f : Crp → Crp) : (s.onCrp f).pending = s.pending := rfl

/-! ### onFld -/

@[simp] theorem State.onFld_part (s : State) (f : Fld → Fld) : (s.onFld f).part = s.part := rfl
@[simp] theorem State.onFld_regs (s : State) (f : Fld → Fld) : (s.onFld f).regs = s.regs := rfl
@[simp] theorem State.onFld_staged (s : State) (f : Fld → Fld) : (s.onFld f).staged = s.staged := rfl
@[simp] theorem State.onFld_latched (s : State) (f : Fld → Fld) : (s.onFld f).latched = s.latched := rfl
@[simp] theorem State.onFld_ez (s : State) (f : Fld → Fld) : (s.onFld f).ez = s.ez := rfl
@[simp] theorem State.onFld_data (s : State) (f : Fld → Fld) : (s.onFld f).data = s.data := rfl
@[simp] theorem State.onFld_hrw (s : State) (f : Fld → Fld) : (s.onFld f).hrw = s.hrw := rfl
@[simp] theorem State.onFld_skl (s : State) (f : Fld → Fld) : (s.onFld f).skl = s.skl := rfl
@[simp] theorem State.onFld_fpt (s : State) (f : Fld → Fld) : (s.onFld f).fpt = s.fpt := rfl
@[simp] theorem State.onFld_dhd (s : State) (f : Fld → Fld) : (s.onFld f).dhd = s.dhd := rfl
@[simp] theorem State.onFld_mem (s : State) (f : Fld → Fld) : (s.onFld f).mem = s.mem := rfl
@[simp] theorem State.onFld_hth (s : State) (f : Fld → Fld) : (s.onFld f).hth = s.hth := rfl
@[simp] theorem State.onFld_crp (s : State) (f : Fld → Fld) : (s.onFld f).crp = s.crp := rfl
@[simp] theorem State.onFld_thm (s : State) (f : Fld → Fld) : (s.onFld f).thm = s.thm := rfl
@[simp] theorem State.onFld_fld (s : State) (f : Fld → Fld) : (s.onFld f).fld = f s.fld := rfl
@[simp] theorem State.onFld_fuses (s : State) (f : Fld → Fld) : (s.onFld f).fuses = s.fuses := rfl
@[simp] theorem State.onFld_upd (s : State) (f : Fld → Fld) : (s.onFld f).upd = s.upd := rfl
@[simp] theorem State.onFld_drv (s : State) (f : Fld → Fld) : (s.onFld f).drv = s.drv := rfl
@[simp] theorem State.onFld_net (s : State) (f : Fld → Fld) : (s.onFld f).net = s.net := rfl
@[simp] theorem State.onFld_tape0 (s : State) (f : Fld → Fld) : (s.onFld f).tape0 = s.tape0 := rfl
@[simp] theorem State.onFld_tape1 (s : State) (f : Fld → Fld) : (s.onFld f).tape1 = s.tape1 := rfl
@[simp] theorem State.onFld_clk (s : State) (f : Fld → Fld) : (s.onFld f).clk = s.clk := rfl
@[simp] theorem State.onFld_fresh (s : State) (f : Fld → Fld) : (s.onFld f).fresh = s.fresh := rfl
@[simp] theorem State.onFld_out (s : State) (f : Fld → Fld) : (s.onFld f).out = s.out := rfl
@[simp] theorem State.onFld_pending (s : State) (f : Fld → Fld) : (s.onFld f).pending = s.pending := rfl

/-! ### onUpd -/

@[simp] theorem State.onUpd_part (s : State) (f : Upd → Upd) : (s.onUpd f).part = s.part := rfl
@[simp] theorem State.onUpd_regs (s : State) (f : Upd → Upd) : (s.onUpd f).regs = s.regs := rfl
@[simp] theorem State.onUpd_staged (s : State) (f : Upd → Upd) : (s.onUpd f).staged = s.staged := rfl
@[simp] theorem State.onUpd_latched (s : State) (f : Upd → Upd) : (s.onUpd f).latched = s.latched := rfl
@[simp] theorem State.onUpd_ez (s : State) (f : Upd → Upd) : (s.onUpd f).ez = s.ez := rfl
@[simp] theorem State.onUpd_data (s : State) (f : Upd → Upd) : (s.onUpd f).data = s.data := rfl
@[simp] theorem State.onUpd_hrw (s : State) (f : Upd → Upd) : (s.onUpd f).hrw = s.hrw := rfl
@[simp] theorem State.onUpd_skl (s : State) (f : Upd → Upd) : (s.onUpd f).skl = s.skl := rfl
@[simp] theorem State.onUpd_fpt (s : State) (f : Upd → Upd) : (s.onUpd f).fpt = s.fpt := rfl
@[simp] theorem State.onUpd_dhd (s : State) (f : Upd → Upd) : (s.onUpd f).dhd = s.dhd := rfl
@[simp] theorem State.onUpd_mem (s : State) (f : Upd → Upd) : (s.onUpd f).mem = s.mem := rfl
@[simp] theorem State.onUpd_hth (s : State) (f : Upd → Upd) : (s.onUpd f).hth = s.hth := rfl
@[simp] theorem State.onUpd_crp (s : State) (f : Upd → Upd) : (s.onUpd f).crp = s.crp := rfl
@[simp] theorem State.onUpd_thm (s : State) (f : Upd → Upd) : (s.onUpd f).thm = s.thm := rfl
@[simp] theorem State.onUpd_fld (s : State) (f : Upd → Upd) : (s.onUpd f).fld = s.fld := rfl
@[simp] theorem State.onUpd_fuses (s : State) (f : Upd → Upd) : (s.onUpd f).fuses = s.fuses := rfl
@[simp] theorem State.onUpd_upd (s : State) (f : Upd → Upd) : (s.onUpd f).upd = f s.upd := rfl
@[simp] theorem State.onUpd_drv (s : State) (f : Upd → Upd) : (s.onUpd f).drv = s.drv := rfl
@[simp] theorem State.onUpd_net (s : State) (f : Upd → Upd) : (s.onUpd f).net = s.net := rfl
@[simp] theorem State.onUpd_tape0 (s : State) (f : Upd → Upd) : (s.onUpd f).tape0 = s.tape0 := rfl
@[simp] theorem State.onUpd_tape1 (s : State) (f : Upd → Upd) : (s.onUpd f).tape1 = s.tape1 := rfl
@[simp] theorem State.onUpd_clk (s : State) (f : Upd → Upd) : (s.onUpd f).clk = s.clk := rfl
@[simp] theorem State.onUpd_fresh (s : State) (f : Upd → Upd) : (s.onUpd f).fresh = s.fresh := rfl
@[simp] theorem State.onUpd_out (s : State) (f : Upd → Upd) : (s.onUpd f).out = s.out := rfl
@[simp] theorem State.onUpd_pending (s : State) (f : Upd → Upd) : (s.onUpd f).pending = s.pending := rfl

/-! ### onDrv -/

@[simp] theorem State.onDrv_part (s : State) (f : Drv → Drv) : (s.onDrv f).part = s.part := rfl
@[simp] theorem State.onDrv_regs (s : State) (f : Drv → Drv) : (s.onDrv f).regs = s.regs := rfl
@[simp] theorem State.onDrv_staged (s : State) (f : Drv → Drv) : (s.onDrv f).staged = s.staged := rfl
@[simp] theorem State.onDrv_latched (s : State) (f : Drv → Drv) : (s.onDrv f).latched = s.latched := rfl
@[simp] theorem State.onDrv_ez (s : State) (f : Drv → Drv) : (s.onDrv f).ez = s.ez := rfl
@[simp] theorem State.onDrv_data (s : State) (f : Drv → Drv) : (s.onDrv f).data = s.data := rfl
@[simp] theorem State.onDrv_hrw (s : State) (f : Drv → Drv) : (s.onDrv f).hrw = s.hrw := rfl
@[simp] theorem State.onDrv_skl (s : State) (f : Drv → Drv) : (s.onDrv f).skl = s.skl := rfl
@[simp] theorem State.onDrv_fpt (s : State) (f : Drv → Drv) : (s.onDrv f).fpt = s.fpt := rfl
@[simp] theorem State.onDrv_dhd (s : State) (f : Drv → Drv) : (s.onDrv f).dhd = s.dhd := rfl
@[simp] theorem State.onDrv_mem (s : State) (f : Drv → Drv) : (s.onDrv f).mem = s.mem := rfl
@[simp] theorem State.onDrv_hth (s : State) (f : Drv → Drv) : (s.onDrv f).hth = s.hth := rfl
@[simp] theorem State.onDrv_crp (s : State) (f : Drv → Drv) : (s.onDrv f).crp = s.crp := rfl
@[simp] theorem State.onDrv_thm (s : State) (f : Drv → Drv) : (s.onDrv f).thm = s.thm := rfl
@[simp] theorem State.onDrv_fld (s : State) (f : Drv → Drv) : (s.onDrv f).fld = s.fld := rfl
@[simp] theorem State.onDrv_fuses (s : State) (f : Drv → Drv) : (s.onDrv f).fuses = s.fuses := rfl
@[simp] theorem State.onDrv_upd (s : State) (f : Drv → Drv) : (s.onDrv f).upd = s.upd := rfl
@[simp] theorem State.onDrv_drv (s : State) (f : Drv → Drv) : (s.onDrv f).drv = f s.drv := rfl
@[simp] theorem State.onDrv_net (s : State) (f : Drv → Drv) : (s.onDrv f).net = s.net := rfl
@[simp] theorem State.onDrv_tape0 (s : State) (f : Drv → Drv) : (s.onDrv f).tape0 = s.tape0 := rfl
@[simp] theorem State.onDrv_tape1 (s : State) (f : Drv → Drv) : (s.onDrv f).tape1 = s.tape1 := rfl
@[simp] theorem State.onDrv_clk (s : State) (f : Drv → Drv) : (s.onDrv f).clk = s.clk := rfl
@[simp] theorem State.onDrv_fresh (s : State) (f : Drv → Drv) : (s.onDrv f).fresh = s.fresh := rfl
@[simp] theorem State.onDrv_out (s : State) (f : Drv → Drv) : (s.onDrv f).out = s.out := rfl
@[simp] theorem State.onDrv_pending (s : State) (f : Drv → Drv) : (s.onDrv f).pending = s.pending := rfl

/-! ### setReg -/

@[simp] theorem State.setReg_part (s : State) (off : Nat) (v : W32) : (s.setReg off v).part = s.part := rfl
@[simp] theorem State.setReg_staged (s : State) (off : Nat) (v : W32) : (s.setReg off v).staged = s.staged := rfl
@[simp] theorem State.setReg_latched (s : State) (off : Nat) (v : W32) : (s.setReg off v).latched = s.latched := rfl
@[simp] theorem State.setReg_ez (s : State) (off : Nat) (v : W32) : (s.setReg off v).ez = s.ez := rfl
@[simp] theorem State.setReg_data (s : State) (off : Nat) (v : W32) : (s.setReg off v).data = s.data := rfl
@[simp] theorem State.setReg_hrw (s : State) (off : Nat) (v : W32) : (s.setReg off v).hrw = s.hrw := rfl
@[simp] theorem State.setReg_skl (s : State) (off : Nat) (v : W32) : (s.setReg off v).skl = s.skl := rfl
@[simp] theorem State.setReg_fpt (s : State) (off : Nat) (v : W32) : (s.setReg off v).fpt = s.fpt := rfl
@[simp] theorem State.setReg_dhd (s : State) (off : Nat) (v : W32) : (s.setReg off v).dhd = s.dhd := rfl
@[simp] theorem State.setReg_mem (s : State) (off : Nat) (v : W32) : (s.setReg off v).mem = s.mem := rfl
@[simp] theorem State.setReg_hth (s : State) (off : Nat) (v : W32) : (s.setReg off v).hth = s.hth := rfl
@[simp] theorem State.setReg_crp (s : State) (off : Nat) (v : W32) : (s.setReg off v).crp = s.crp := rfl
@[simp] theorem State.setReg_thm (s : State) (off : Nat) (v : W32) : (s.setReg off v).thm = s.thm := rfl
@[simp] theorem State.setReg_fld (s : State) (off : Nat) (v : W32) : (s.setReg off v).fld = s.fld := rfl
@[simp] theorem State.setReg_fuses (s : State) (off : Nat) (v : W32) : (s.setReg off v).fuses = s.fuses := rfl
@[simp] theorem State.setReg_upd (s : State) (off : Nat) (v : W32) : (s.setReg off v).upd = s.upd := rfl
@[simp] theorem State.setReg_drv (s : State) (off : Nat) (v : W32) : (s.setReg off v).drv = s.drv := rfl
@[simp] theorem State.setReg_net (s : State) (off : Nat) (v : W32) : (s.setReg off v).net = s.net := rfl
@[simp] theorem State.setReg_tape0 (s : State) (off : Nat) (v : W32) : (s.setReg off v).tape0 = s.tape0 := rfl
@[simp] theorem State.setReg_tape1 (s : State) (off : Nat) (v : W32) : (s.setReg off v).tape1 = s.tape1 := rfl
@[simp] theorem State.setReg_clk (s : State) (off : Nat) (v : W32) : (s.setReg off v).clk = s.clk := rfl
@[simp] theorem State.setReg_fresh (s : State) (off : Nat) (v : W32) : (s.setReg off v).fresh = s.fresh := rfl
@[simp] theorem State.setReg_out (s : State) (off : Nat) (v : W32) : (s.setReg off v).out = s.out := rfl
@[simp] theorem State.setReg_pending (s : State) (off : Nat) (v : W32) : (s.setReg off v).pending = s.pending := rfl

/-! ### setRf -/

@[simp] theorem State.setRf_part (s : State) (off hi lo v : Nat) : (s.setRf off hi lo v).part = s.part := rfl
@[simp] theorem State.setRf_staged (s : State) (off hi lo v : Nat) : (s.setRf off hi lo v).staged = s.staged := rfl
@[simp] theorem State.setRf_latched (s : State) (off hi lo v : Nat) : (s.setRf off hi lo v).latched = s.latched := rfl
@[simp] theorem State.setRf_ez (s : State) (off hi lo v : Nat) : (s.setRf off hi lo v).ez = s.ez := rfl
@[simp] theorem State.setRf_data (s : State) (off hi lo v : Nat) : (s.setRf off hi lo v).data = s.data := rfl
@[simp] theorem State.setRf_hrw (s : State) (off hi lo v : Nat) : (s.setRf off hi lo v).hrw = s.hrw := rfl
@[simp] theorem State.setRf_skl (s : State) (off hi lo v : Nat) : (s.setRf off hi lo v).skl = s.skl := rfl
@[simp] theorem State.setRf_fpt (s : State) (off hi lo v : Nat) : (s.setRf off hi lo v).fpt = s.fpt := rfl
@[simp] theorem State.setRf_dhd (s : State) (off hi lo v : Nat) : (s.setRf off hi lo v).dhd = s.dhd := rfl
@[simp] theorem State.setRf_mem (s : State) (off hi lo v : Nat) : (s.setRf off hi lo v).mem = s.mem := rfl
@[simp] theorem State.setRf_hth (s : State) (off hi lo v : Nat) : (s.setRf off hi lo v).hth = s.hth := rfl
@[simp] theorem State.setRf_crp (s : State) (off hi lo v : Nat) : (s.setRf off hi lo v).crp = s.crp := rfl
@[simp] theorem State.setRf_thm (s : State) (off hi lo v : Nat) : (s.setRf off hi lo v).thm = s.thm := rfl
@[simp] theorem State.setRf_fld (s : State) (off hi lo v : Nat) : (s.setRf off hi lo v).fld = s.fld := rfl
@[simp] theorem State.setRf_fuses (s : State) (off hi lo v : Nat) : (s.setRf off hi lo v).fuses = s.fuses := rfl
@[simp] theorem State.setRf_upd (s : State) (off hi lo v : Nat) : (s.setRf off hi lo v).upd = s.upd := rfl
@[simp] theorem State.setRf_drv (s : State) (off hi lo v : Nat) : (s.setRf off hi lo v).drv = s.drv := rfl
@[simp] theorem State.setRf_net (s : State) (off hi lo v : Nat) : (s.setRf off hi lo v).net = s.net := rfl
@[simp] theorem State.setRf_tape0 (s : State) (off hi lo v : Nat) : (s.setRf off hi lo v).tape0 = s.tape0 := rfl
@[simp] theorem State.setRf_tape1 (s : State) (off hi lo v : Nat) : (s.setRf off hi lo v).tape1 = s.tape1 := rfl
@[simp] theorem State.setRf_clk (s : State) (off hi lo v : Nat) : (s.setRf off hi lo v).clk = s.clk := rfl
@[simp] theorem State.setRf_fresh (s : State) (off hi lo v : Nat) : (s.setRf off hi lo v).fresh = s.fresh := rfl
@[simp] theorem State.setRf_out (s : State) (off hi lo v : Nat) : (s.setRf off hi lo v).out = s.out := rfl
@[simp] theorem State.setRf_pending (s : State) (off hi lo v : Nat) : (s.setRf off hi lo v).pending = s.pending := rfl

/-! ### setRbit -/

@[simp] theorem State.setRbit_part (s : State) (off i : Nat) (b : Bool) : (s.setRbit off i b).part = s.part := rfl
@[simp] theorem State.setRbit_staged (s : State) (off i : Nat) (b : Bool) : (s.setRbit off i b).staged = s.staged := rfl
@[simp] theorem State.setRbit_latched (s : State) (off i : Nat) (b : Bool) : (s.setRbit off i b).latched = s.latched := rfl
@[simp] theorem State.setRbit_ez (s : State) (off i : Nat) (b : Bool) : (s.setRbit off i b).ez = s.ez := rfl
@[simp] theorem State.setRbit_data (s : State) (off i : Nat) (b : Bool) : (s.setRbit off i b).data = s.data := rfl
@[simp] theorem State.setRbit_hrw (s : State) (off i : Nat) (b : Bool) : (s.setRbit off i b).hrw = s.hrw := rfl
@[simp] theorem State.setRbit_skl (s : State) (off i : Nat) (b : Bool) : (s.setRbit off i b).skl = s.skl := rfl
@[simp] theorem State.setRbit_fpt (s : State) (off i : Nat) (b : Bool) : (s.setRbit off i b).fpt = s.fpt := rfl
@[simp] theorem State.setRbit_dhd (s : State) (off i : Nat) (b : Bool) : (s.setRbit off i b).dhd = s.dhd := rfl
@[simp] theorem State.setRbit_mem (s : State) (off i : Nat) (b : Bool) : (s.setRbit off i b).mem = s.mem := rfl
@[simp] theorem State.setRbit_hth (s : State) (off i : Nat) (b : Bool) : (s.setRbit off i b).hth = s.hth := rfl
@[simp] theorem State.setRbit_crp (s : State) (off i : Nat) (b : Bool) : (s.setRbit off i b).crp = s.crp := rfl
@[simp] theorem State.setRbit_thm (s : State) (off i : Nat) (b : Bool) : (s.setRbit off i b).thm = s.thm := rfl
@[simp] theorem State.setRbit_fld (s : State) (off i : Nat) (b : Bool) : (s.setRbit off i b).fld = s.fld := rfl
@[simp] theorem State.setRbit_fuses (s : State) (off i : Nat) (b : Bool) : (s.setRbit off i b).fuses = s.fuses := rfl
@[simp] theorem State.setRbit_upd (s : State) (off i : Nat) (b : Bool) : (s.setRbit off i b).upd = s.upd := rfl
@[simp] theorem State.setRbit_drv (s : State) (off i : Nat) (b : Bool) : (s.setRbit off i b).drv = s.drv := rfl
@[simp] theorem State.setRbit_net (s : State) (off i : Nat) (b : Bool) : (s.setRbit off i b).net = s.net := rfl
@[simp] theorem State.setRbit_tape0 (s : State) (off i : Nat) (b : Bool) : (s.setRbit off i b).tape0 = s.tape0 := rfl
@[simp] theorem State.setRbit_tape1 (s : State) (off i : Nat) (b : Bool) : (s.setRbit off i b).tape1 = s.tape1 := rfl
@[simp] theorem State.setRbit_clk (s : State) (off i : Nat) (b : Bool) : (s.setRbit off i b).clk = s.clk := rfl
@[simp] theorem State.setRbit_fresh (s : State) (off i : Nat) (b : Bool) : (s.setRbit off i b).fresh = s.fresh := rfl
@[simp] theorem State.setRbit_out (s : State) (off i : Nat) (b : Bool) : (s.setRbit off i b).out = s.out := rfl
@[simp] theorem State.setRbit_pending (s : State) (off i : Nat) (b : Bool) : (s.setRbit off i b).pending = s.pending := rfl

/-! ### bump -/

@[simp] theorem State.bump_part (s : State) (off hi lo n : Nat) : (s.bump off hi lo n).part = s.part := rfl
@[simp] theorem State.bump_staged (s : State) (off hi lo n : Nat) : (s.bump off hi lo n).staged = s.staged := rfl
@[simp] theorem State.bump_latched (s : State) (off hi lo n : Nat) : (s.bump off hi lo n).latched = s.latched := rfl
@[simp] theorem State.bump_ez (s : State) (off hi lo n : Nat) : (s.bump off hi lo n).ez = s.ez := rfl
@[simp] theorem State.bump_data (s : State) (off hi lo n : Nat) : (s.bump off hi lo n).data = s.data := rfl
@[simp] theorem State.bump_hrw (s : State) (off hi lo n : Nat) : (s.bump off hi lo n).hrw = s.hrw := rfl
@[simp] theorem State.bump_skl (s : State) (off hi lo n : Nat) : (s.bump off hi lo n).skl = s.skl := rfl
@[simp] theorem State.bump_fpt (s : State) (off hi lo n : Nat) : (s.bump off hi lo n).fpt = s.fpt := rfl
@[simp] theorem State.bump_dhd (s : State) (off hi lo n : Nat) : (s.bump off hi lo n).dhd = s.dhd := rfl
@[simp] theorem State.bump_mem (s : State) (off hi lo n : Nat) : (s.bump off hi lo n).mem = s.mem := rfl
@[simp] theorem State.bump_hth (s : State) (off hi lo n : Nat) : (s.bump off hi lo n).hth = s.hth := rfl
@[simp] theorem State.bump_crp (s : State) (off hi lo n : Nat) : (s.bump off hi lo n).crp = s.crp := rfl
@[simp] theorem State.bump_thm (s : State) (off hi lo n : Nat) : (s.bump off hi lo n).thm = s.thm := rfl
@[simp] theorem State.bump_fld (s : State) (off hi lo n : Nat) : (s.bump off hi lo n).fld = s.fld := rfl
@[simp] theorem State.bump_fuses (s : State) (off hi lo n : Nat) : (s.bump off hi lo n).fuses = s.fuses := rfl
@[simp] theorem State.bump_upd (s : State) (off hi lo n : Nat) : (s.bump off hi lo n).upd = s.upd := rfl
@[simp] theorem State.bump_drv (s : State) (off hi lo n : Nat) : (s.bump off hi lo n).drv = s.drv := rfl
@[simp] theorem State.bump_net (s : State) (off hi lo n : Nat) : (s.bump off hi lo n).net = s.net := rfl
@[simp] theorem State.bump_tape0 (s : State) (off hi lo n : Nat) : (s.bump off hi lo n).tape0 = s.tape0 := rfl
@[simp] theorem State.bump_tape1 (s : State) (off hi lo n : Nat) : (s.bump off hi lo n).tape1 = s.tape1 := rfl
@[simp] theorem State.bump_clk (s : State) (off hi lo n : Nat) : (s.bump off hi lo n).clk = s.clk := rfl
@[simp] theorem State.bump_fresh (s : State) (off hi lo n : Nat) : (s.bump off hi lo n).fresh = s.fresh := rfl
@[simp] theorem State.bump_out (s : State) (off hi lo n : Nat) : (s.bump off hi lo n).out = s.out := rfl
@[simp] theorem State.bump_pending (s : State) (off hi lo n : Nat) : (s.bump off hi lo n).pending = s.pending := rfl

/-! ### setPair -/

@[simp] theorem State.setPair_part (s : State) (lo v : Nat) : (s.setPair lo v).part = s.part := rfl
@[simp] theorem State.setPair_staged (s : State) (lo v : Nat) : (s.setPair lo v).staged = s.staged := rfl
@[simp] theorem State.setPair_latched (s : State) (lo v : Nat) : (s.setPair lo v).latched = s.latched := rfl
@[simp] theorem State.setPair_ez (s : State) (lo v : Nat) : (s.setPair lo v).ez = s.ez := rfl
@[simp] theorem State.setPair_data (s : State) (lo v : Nat) : (s.setPair lo v).data = s.data := rfl
@[simp] theorem State.setPair_hrw (s : State) (lo v : Nat) : (s.setPair lo v).hrw = s.hrw := rfl
@[simp] theorem State.setPair_skl (s : State) (lo v : Nat) : (s.setPair lo v).skl = s.skl := rfl
@[simp] theorem State.setPair_fpt (s : State) (lo v : Nat) : (s.setPair lo v).fpt = s.fpt := rfl
@[simp] theorem State.setPair_dhd (s : State) (lo v : Nat) : (s.setPair lo v).dhd = s.dhd := rfl
@[simp] theorem State.setPair_mem (s : State) (lo v : Nat) : (s.setPair lo v).mem = s.mem := rfl
@[simp] theorem State.setPair_hth (s : State) (lo v : Nat) : (s.setPair lo v).hth = s.hth := rfl
@[simp] theorem State.setPair_crp (s : State) (lo v : Nat) : (s.setPair lo v).crp = s.crp := rfl
@[simp] theorem State.setPair_thm (s : State) (lo v : Nat) : (s.setPair lo v).thm = s.thm := rfl
@[simp] theorem State.setPair_fld (s : State) (lo v : Nat) : (s.setPair lo v).fld = s.fld := rfl
@[simp] theorem State.setPair_fuses (s : State) (lo v : Nat) : (s.setPair lo v).fuses = s.fuses := rfl
@[simp] theorem State.setPair_upd (s : State) (lo v : Nat) : (s.setPair lo v).upd = s.upd := rfl
@[simp] theorem State.setPair_drv (s : State) (lo v : Nat) : (s.setPair lo v).drv = s.drv := rfl
@[simp] theorem State.setPair_net (s : State) (lo v : Nat) : (s.setPair lo v).net = s.net := rfl
@[simp] theorem State.setPair_tape0 (s : State) (lo v : Nat) : (s.setPair lo v).tape0 = s.tape0 := rfl
@[simp] theorem State.setPair_tape1 (s : State) (lo v : Nat) : (s.setPair lo v).tape1 = s.tape1 := rfl
@[simp] theorem State.setPair_clk (s : State) (lo v : Nat) : (s.setPair lo v).clk = s.clk := rfl
@[simp] theorem State.setPair_fresh (s : State) (lo v : Nat) : (s.setPair lo v).fresh = s.fresh := rfl
@[simp] theorem State.setPair_out (s : State) (lo v : Nat) : (s.setPair lo v).out = s.out := rfl
@[simp] theorem State.setPair_pending (s : State) (lo v : Nat) : (s.setPair lo v).pending = s.pending := rfl

/-! ### addPair -/

@[simp] theorem State.addPair_part (s : State) (lo n : Nat) : (s.addPair lo n).part = s.part := rfl
@[simp] theorem State.addPair_staged (s : State) (lo n : Nat) : (s.addPair lo n).staged = s.staged := rfl
@[simp] theorem State.addPair_latched (s : State) (lo n : Nat) : (s.addPair lo n).latched = s.latched := rfl
@[simp] theorem State.addPair_ez (s : State) (lo n : Nat) : (s.addPair lo n).ez = s.ez := rfl
@[simp] theorem State.addPair_data (s : State) (lo n : Nat) : (s.addPair lo n).data = s.data := rfl
@[simp] theorem State.addPair_hrw (s : State) (lo n : Nat) : (s.addPair lo n).hrw = s.hrw := rfl
@[simp] theorem State.addPair_skl (s : State) (lo n : Nat) : (s.addPair lo n).skl = s.skl := rfl
@[simp] theorem State.addPair_fpt (s : State) (lo n : Nat) : (s.addPair lo n).fpt = s.fpt := rfl
@[simp] theorem State.addPair_dhd (s : State) (lo n : Nat) : (s.addPair lo n).dhd = s.dhd := rfl
@[simp] theorem State.addPair_mem (s : State) (lo n : Nat) : (s.addPair lo n).mem = s.mem := rfl
@[simp] theorem State.addPair_hth (s : State) (lo n : Nat) : (s.addPair lo n).hth = s.hth := rfl
@[simp] theorem State.addPair_crp (s : State) (lo n : Nat) : (s.addPair lo n).crp = s.crp := rfl
@[simp] theorem State.addPair_thm (s : State) (lo n : Nat) : (s.addPair lo n).thm = s.thm := rfl
@[simp] theorem State.addPair_fld (s : State) (lo n : Nat) : (s.addPair lo n).fld = s.fld := rfl
@[simp] theorem State.addPair_fuses (s : State) (lo n : Nat) : (s.addPair lo n).fuses = s.fuses := rfl
@[simp] theorem State.addPair_upd (s : State) (lo n : Nat) : (s.addPair lo n).upd = s.upd := rfl
@[simp] theorem State.addPair_drv (s : State) (lo n : Nat) : (s.addPair lo n).drv = s.drv := rfl
@[simp] theorem State.addPair_net (s : State) (lo n : Nat) : (s.addPair lo n).net = s.net := rfl
@[simp] theorem State.addPair_tape0 (s : State) (lo n : Nat) : (s.addPair lo n).tape0 = s.tape0 := rfl
@[simp] theorem State.addPair_tape1 (s : State) (lo n : Nat) : (s.addPair lo n).tape1 = s.tape1 := rfl
@[simp] theorem State.addPair_clk (s : State) (lo n : Nat) : (s.addPair lo n).clk = s.clk := rfl
@[simp] theorem State.addPair_fresh (s : State) (lo n : Nat) : (s.addPair lo n).fresh = s.fresh := rfl
@[simp] theorem State.addPair_out (s : State) (lo n : Nat) : (s.addPair lo n).out = s.out := rfl
@[simp] theorem State.addPair_pending (s : State) (lo n : Nat) : (s.addPair lo n).pending = s.pending := rfl

/-! ### emit -/

@[simp] theorem State.emit_part (s : State) (t : Tx) : (s.emit t).part = s.part := rfl
@[simp] theorem State.emit_regs (s : State) (t : Tx) : (s.emit t).regs = s.regs := rfl
@[simp] theorem State.emit_staged (s : State) (t : Tx) : (s.emit t).staged = s.staged := rfl
@[simp] theorem State.emit_latched (s : State) (t : Tx) : (s.emit t).latched = s.latched := rfl
@[simp] theorem State.emit_ez (s : State) (t : Tx) : (s.emit t).ez = s.ez := rfl
@[simp] theorem State.emit_data (s : State) (t : Tx) : (s.emit t).data = s.data := rfl
@[simp] theorem State.emit_hrw (s : State) (t : Tx) : (s.emit t).hrw = s.hrw := rfl
@[simp] theorem State.emit_skl (s : State) (t : Tx) : (s.emit t).skl = s.skl := rfl
@[simp] theorem State.emit_fpt (s : State) (t : Tx) : (s.emit t).fpt = s.fpt := rfl
@[simp] theorem State.emit_dhd (s : State) (t : Tx) : (s.emit t).dhd = s.dhd := rfl
@[simp] theorem State.emit_mem (s : State) (t : Tx) : (s.emit t).mem = s.mem := rfl
@[simp] theorem State.emit_hth (s : State) (t : Tx) : (s.emit t).hth = s.hth := rfl
@[simp] theorem State.emit_crp (s : State) (t : Tx) : (s.emit t).crp = s.crp := rfl
@[simp] theorem State.emit_thm (s : State) (t : Tx) : (s.emit t).thm = s.thm := rfl
@[simp] theorem State.emit_fld (s : State) (t : Tx) : (s.emit t).fld = s.fld := rfl
@[simp] theorem State.emit_fuses (s : State) (t : Tx) : (s.emit t).fuses = s.fuses := rfl
@[simp] theorem State.emit_upd (s : State) (t : Tx) : (s.emit t).upd = s.upd := rfl
@[simp] theorem State.emit_drv (s : State) (t : Tx) : (s.emit t).drv = s.drv := rfl
@[simp] theorem State.emit_net (s : State) (t : Tx) : (s.emit t).net = s.net := rfl
@[simp] theorem State.emit_tape0 (s : State) (t : Tx) : (s.emit t).tape0 = s.tape0 := rfl
@[simp] theorem State.emit_tape1 (s : State) (t : Tx) : (s.emit t).tape1 = s.tape1 := rfl
@[simp] theorem State.emit_clk (s : State) (t : Tx) : (s.emit t).clk = s.clk := rfl
@[simp] theorem State.emit_fresh (s : State) (t : Tx) : (s.emit t).fresh = s.fresh := rfl
@[simp] theorem State.emit_out (s : State) (t : Tx) : (s.emit t).out = s.out ++ [t] := rfl
@[simp] theorem State.emit_pending (s : State) (t : Tx) : (s.emit t).pending = s.pending := rfl

/-! ### emits -/

@[simp] theorem State.emits_part (s : State) (ts : List Tx) : (s.emits ts).part = s.part := rfl
@[simp] theorem State.emits_regs (s : State) (ts : List Tx) : (s.emits ts).regs = s.regs := rfl
@[simp] theorem State.emits_staged (s : State) (ts : List Tx) : (s.emits ts).staged = s.staged := rfl
@[simp] theorem State.emits_latched (s : State) (ts : List Tx) : (s.emits ts).latched = s.latched := rfl
@[simp] theorem State.emits_ez (s : State) (ts : List Tx) : (s.emits ts).ez = s.ez := rfl
@[simp] theorem State.emits_data (s : State) (ts : List Tx) : (s.emits ts).data = s.data := rfl
@[simp] theorem State.emits_hrw (s : State) (ts : List Tx) : (s.emits ts).hrw = s.hrw := rfl
@[simp] theorem State.emits_skl (s : State) (ts : List Tx) : (s.emits ts).skl = s.skl := rfl
@[simp] theorem State.emits_fpt (s : State) (ts : List Tx) : (s.emits ts).fpt = s.fpt := rfl
@[simp] theorem State.emits_dhd (s : State) (ts : List Tx) : (s.emits ts).dhd = s.dhd := rfl
@[simp] theorem State.emits_mem (s : State) (ts : List Tx) : (s.emits ts).mem = s.mem := rfl
@[simp] theorem State.emits_hth (s : State) (ts : List Tx) : (s.emits ts).hth = s.hth := rfl
@[simp] theorem State.emits_crp (s : State) (ts : List Tx) : (s.emits ts).crp = s.crp := rfl
@[simp] theorem State.emits_thm (s : State) (ts : List Tx) : (s.emits ts).thm = s.thm := rfl
@[simp] theorem State.emits_fld (s : State) (ts : List Tx) : (s.emits ts).fld = s.fld := rfl
@[simp] theorem State.emits_fuses (s : State) (ts : List Tx) : (s.emits ts).fuses = s.fuses := rfl
@[simp] theorem State.emits_upd (s : State) (ts : List Tx) : (s.emits ts).upd = s.upd := rfl
@[simp] theorem State.emits_drv (s : State) (ts : List Tx) : (s.emits ts).drv = s.drv := rfl
@[simp] theorem State.emits_net (s : State) (ts : List Tx) : (s.emits ts).net = s.net := rfl
@[simp] theorem State.emits_tape0 (s : State) (ts : List Tx) : (s.emits ts).tape0 = s.tape0 := rfl
@[simp] theorem State.emits_tape1 (s : State) (ts : List Tx) : (s.emits ts).tape1 = s.tape1 := rfl
@[simp] theorem State.emits_clk (s : State) (ts : List Tx) : (s.emits ts).clk = s.clk := rfl
@[simp] theorem State.emits_fresh (s : State) (ts : List Tx) : (s.emits ts).fresh = s.fresh := rfl
@[simp] theorem State.emits_out (s : State) (ts : List Tx) : (s.emits ts).out = s.out ++ ts := rfl
@[simp] theorem State.emits_pending (s : State) (ts : List Tx) : (s.emits ts).pending = s.pending := rfl

/-! ### nextDraw -/

@[simp] theorem State.nextDraw_part (s : State)  : (s.nextDraw).part = s.part := rfl
@[simp] theorem State.nextDraw_regs (s : State)  : (s.nextDraw).regs = s.regs := rfl
@[simp] theorem State.nextDraw_staged (s : State)  : (s.nextDraw).staged = s.staged := rfl
@[simp] theorem State.nextDraw_latched (s : State)  : (s.nextDraw).latched = s.latched := rfl
@[simp] theorem State.nextDraw_ez (s : State)  : (s.nextDraw).ez = s.ez := rfl
@[simp] theorem State.nextDraw_data (s : State)  : (s.nextDraw).data = s.data := rfl
@[simp] theorem State.nextDraw_hrw (s : State)  : (s.nextDraw).hrw = s.hrw := rfl
@[simp] theorem State.nextDraw_skl (s : State)  : (s.nextDraw).skl = s.skl := rfl
@[simp] theorem State.nextDraw_fpt (s : State)  : (s.nextDraw).fpt = s.fpt := rfl
@[simp] theorem State.nextDraw_dhd (s : State)  : (s.nextDraw).dhd = s.dhd := rfl
@[simp] theorem State.nextDraw_mem (s : State)  : (s.nextDraw).mem = s.mem := rfl
@[simp] theorem State.nextDraw_hth (s : State)  : (s.nextDraw).hth = s.hth := rfl
@[simp] theorem State.nextDraw_crp (s : State)  : (s.nextDraw).crp = s.crp := rfl
@[simp] theorem State.nextDraw_thm (s : State)  : (s.nextDraw).thm = s.thm := rfl
@[simp] theorem State.nextDraw_fld (s : State)  : (s.nextDraw).fld = s.fld := rfl
@[simp] theorem State.nextDraw_fuses (s : State)  : (s.nextDraw).fuses = s.fuses := rfl
@[simp] theorem State.nextDraw_upd (s : State)  : (s.nextDraw).upd = s.upd := rfl
@[simp] theorem State.nextDraw_drv (s : State)  : (s.nextDraw).drv = s.drv := rfl
@[simp] theorem State.nextDraw_net (s : State)  : (s.nextDraw).net = s.net := rfl
@[simp] theorem State.nextDraw_tape0 (s : State)  : (s.nextDraw).tape0 = s.tape0 := rfl
@[simp] theorem State.nextDraw_tape1 (s : State)  : (s.nextDraw).tape1 = s.tape1 := rfl
@[simp] theorem State.nextDraw_clk (s : State)  : (s.nextDraw).clk = s.clk := rfl
@[simp] theorem State.nextDraw_fresh (s : State)  : (s.nextDraw).fresh = s.fresh + 1 := rfl
@[simp] theorem State.nextDraw_out (s : State)  : (s.nextDraw).out = s.out := rfl
@[simp] theorem State.nextDraw_pending (s : State)  : (s.nextDraw).pending = s.pending := rfl

/-! ### setSrc -/

@[simp] theorem State.setSrc_part (s : State) (n : Nat) (x : Src) : (s.setSrc n x).part = s.part := rfl
@[simp] theorem State.setSrc_regs (s : State) (n : Nat) (x : Src) : (s.setSrc n x).regs = s.regs := rfl
@[simp] theorem State.setSrc_staged (s : State) (n : Nat) (x : Src) : (s.setSrc n x).staged = s.staged := rfl
@[simp] theorem State.setSrc_latched (s : State) (n : Nat) (x : Src) : (s.setSrc n x).latched = s.latched := rfl
@[simp] theorem State.setSrc_ez (s : State) (n : Nat) (x : Src) : (s.setSrc n x).ez = s.ez := rfl
@[simp] theorem State.setSrc_data (s : State) (n : Nat) (x : Src) : (s.setSrc n x).data = s.data := rfl
@[simp] theorem State.setSrc_skl (s : State) (n : Nat) (x : Src) : (s.setSrc n x).skl = s.skl := rfl
@[simp] theorem State.setSrc_fpt (s : State) (n : Nat) (x : Src) : (s.setSrc n x).fpt = s.fpt := rfl
@[simp] theorem State.setSrc_dhd (s : State) (n : Nat) (x : Src) : (s.setSrc n x).dhd = s.dhd := rfl
@[simp] theorem State.setSrc_mem (s : State) (n : Nat) (x : Src) : (s.setSrc n x).mem = s.mem := rfl
@[simp] theorem State.setSrc_hth (s : State) (n : Nat) (x : Src) : (s.setSrc n x).hth = s.hth := rfl
@[simp] theorem State.setSrc_crp (s : State) (n : Nat) (x : Src) : (s.setSrc n x).crp = s.crp := rfl
@[simp] theorem State.setSrc_thm (s : State) (n : Nat) (x : Src) : (s.setSrc n x).thm = s.thm := rfl
@[simp] theorem State.setSrc_fld (s : State) (n : Nat) (x : Src) : (s.setSrc n x).fld = s.fld := rfl
@[simp] theorem State.setSrc_fuses (s : State) (n : Nat) (x : Src) : (s.setSrc n x).fuses = s.fuses := rfl
@[simp] theorem State.setSrc_upd (s : State) (n : Nat) (x : Src) : (s.setSrc n x).upd = s.upd := rfl
@[simp] theorem State.setSrc_drv (s : State) (n : Nat) (x : Src) : (s.setSrc n x).drv = s.drv := rfl
@[simp] theorem State.setSrc_net (s : State) (n : Nat) (x : Src) : (s.setSrc n x).net = s.net := rfl
@[simp] theorem State.setSrc_tape0 (s : State) (n : Nat) (x : Src) : (s.setSrc n x).tape0 = s.tape0 := rfl
@[simp] theorem State.setSrc_tape1 (s : State) (n : Nat) (x : Src) : (s.setSrc n x).tape1 = s.tape1 := rfl
@[simp] theorem State.setSrc_clk (s : State) (n : Nat) (x : Src) : (s.setSrc n x).clk = s.clk := rfl
@[simp] theorem State.setSrc_fresh (s : State) (n : Nat) (x : Src) : (s.setSrc n x).fresh = s.fresh := rfl
@[simp] theorem State.setSrc_out (s : State) (n : Nat) (x : Src) : (s.setSrc n x).out = s.out := rfl
@[simp] theorem State.setSrc_pending (s : State) (n : Nat) (x : Src) : (s.setSrc n x).pending = s.pending := rfl

/-! ### setVec -/

@[simp] theorem State.setVec_part (s : State) (fn v : Nat) (x : Vec) : (s.setVec fn v x).part = s.part := rfl
@[simp] theorem State.setVec_regs (s : State) (fn v : Nat) (x : Vec) : (s.setVec fn v x).regs = s.regs := rfl
@[simp] theorem State.setVec_staged (s : State) (fn v : Nat) (x : Vec) : (s.setVec fn v x).staged = s.staged := rfl
@[simp] theorem State.setVec_latched (s : State) (fn v : Nat) (x : Vec) : (s.setVec fn v x).latched = s.latched := rfl
@[simp] theorem State.setVec_ez (s : State) (fn v : Nat) (x : Vec) : (s.setVec fn v x).ez = s.ez := rfl
@[simp] theorem State.setVec_data (s : State) (fn v : Nat) (x : Vec) : (s.setVec fn v x).data = s.data := rfl
@[simp] theorem State.setVec_skl (s : State) (fn v : Nat) (x : Vec) : (s.setVec fn v x).skl = s.skl := rfl
@[simp] theorem State.setVec_fpt (s : State) (fn v : Nat) (x : Vec) : (s.setVec fn v x).fpt = s.fpt := rfl
@[simp] theorem State.setVec_dhd (s : State) (fn v : Nat) (x : Vec) : (s.setVec fn v x).dhd = s.dhd := rfl
@[simp] theorem State.setVec_mem (s : State) (fn v : Nat) (x : Vec) : (s.setVec fn v x).mem = s.mem := rfl
@[simp] theorem State.setVec_hth (s : State) (fn v : Nat) (x : Vec) : (s.setVec fn v x).hth = s.hth := rfl
@[simp] theorem State.setVec_crp (s : State) (fn v : Nat) (x : Vec) : (s.setVec fn v x).crp = s.crp := rfl
@[simp] theorem State.setVec_thm (s : State) (fn v : Nat) (x : Vec) : (s.setVec fn v x).thm = s.thm := rfl
@[simp] theorem State.setVec_fld (s : State) (fn v : Nat) (x : Vec) : (s.setVec fn v x).fld = s.fld := rfl
@[simp] theorem State.setVec_fuses (s : State) (fn v : Nat) (x : Vec) : (s.setVec fn v x).fuses = s.fuses := rfl
@[simp] theorem State.setVec_upd (s : State) (fn v : Nat) (x : Vec) : (s.setVec fn v x).upd = s.upd := rfl
@[simp] theorem State.setVec_drv (s : State) (fn v : Nat) (x : Vec) : (s.setVec fn v x).drv = s.drv := rfl
@[simp] theorem State.setVec_net (s : State) (fn v : Nat) (x : Vec) : (s.setVec fn v x).net = s.net := rfl
@[simp] theorem State.setVec_tape0 (s : State) (fn v : Nat) (x : Vec) : (s.setVec fn v x).tape0 = s.tape0 := rfl
@[simp] theorem State.setVec_tape1 (s : State) (fn v : Nat) (x : Vec) : (s.setVec fn v x).tape1 = s.tape1 := rfl
@[simp] theorem State.setVec_clk (s : State) (fn v : Nat) (x : Vec) : (s.setVec fn v x).clk = s.clk := rfl
@[simp] theorem State.setVec_fresh (s : State) (fn v : Nat) (x : Vec) : (s.setVec fn v x).fresh = s.fresh := rfl
@[simp] theorem State.setVec_out (s : State) (fn v : Nat) (x : Vec) : (s.setVec fn v x).out = s.out := rfl
@[simp] theorem State.setVec_pending (s : State) (fn v : Nat) (x : Vec) : (s.setVec fn v x).pending = s.pending := rfl

/-! ### setFn -/

@[simp] theorem State.setFn_part (s : State) (f : Nat) (x : Fn) : (s.setFn f x).part = s.part := rfl
@[simp] theorem State.setFn_regs (s : State) (f : Nat) (x : Fn) : (s.setFn f x).regs = s.regs := rfl
@[simp] theorem State.setFn_staged (s : State) (f : Nat) (x : Fn) : (s.setFn f x).staged = s.staged := rfl
@[simp] theorem State.setFn_latched (s : State) (f : Nat) (x : Fn) : (s.setFn f x).latched = s.latched := rfl
@[simp] theorem State.setFn_ez (s : State) (f : Nat) (x : Fn) : (s.setFn f x).ez = s.ez := rfl
@[simp] theorem State.setFn_data (s : State) (f : Nat) (x : Fn) : (s.setFn f x).data = s.data := rfl
@[simp] theorem State.setFn_skl (s : State) (f : Nat) (x : Fn) : (s.setFn f x).skl = s.skl := rfl
@[simp] theorem State.setFn_fpt (s : State) (f : Nat) (x : Fn) : (s.setFn f x).fpt = s.fpt := rfl
@[simp] theorem State.setFn_dhd (s : State) (f : Nat) (x : Fn) : (s.setFn f x).dhd = s.dhd := rfl
@[simp] theorem State.setFn_mem (s : State) (f : Nat) (x : Fn) : (s.setFn f x).mem = s.mem := rfl
@[simp] theorem State.setFn_hth (s : State) (f : Nat) (x : Fn) : (s.setFn f x).hth = s.hth := rfl
@[simp] theorem State.setFn_crp (s : State) (f : Nat) (x : Fn) : (s.setFn f x).crp = s.crp := rfl
@[simp] theorem State.setFn_thm (s : State) (f : Nat) (x : Fn) : (s.setFn f x).thm = s.thm := rfl
@[simp] theorem State.setFn_fld (s : State) (f : Nat) (x : Fn) : (s.setFn f x).fld = s.fld := rfl
@[simp] theorem State.setFn_fuses (s : State) (f : Nat) (x : Fn) : (s.setFn f x).fuses = s.fuses := rfl
@[simp] theorem State.setFn_upd (s : State) (f : Nat) (x : Fn) : (s.setFn f x).upd = s.upd := rfl
@[simp] theorem State.setFn_drv (s : State) (f : Nat) (x : Fn) : (s.setFn f x).drv = s.drv := rfl
@[simp] theorem State.setFn_net (s : State) (f : Nat) (x : Fn) : (s.setFn f x).net = s.net := rfl
@[simp] theorem State.setFn_tape0 (s : State) (f : Nat) (x : Fn) : (s.setFn f x).tape0 = s.tape0 := rfl
@[simp] theorem State.setFn_tape1 (s : State) (f : Nat) (x : Fn) : (s.setFn f x).tape1 = s.tape1 := rfl
@[simp] theorem State.setFn_clk (s : State) (f : Nat) (x : Fn) : (s.setFn f x).clk = s.clk := rfl
@[simp] theorem State.setFn_fresh (s : State) (f : Nat) (x : Fn) : (s.setFn f x).fresh = s.fresh := rfl
@[simp] theorem State.setFn_out (s : State) (f : Nat) (x : Fn) : (s.setFn f x).out = s.out := rfl
@[simp] theorem State.setFn_pending (s : State) (f : Nat) (x : Fn) : (s.setFn f x).pending = s.pending := rfl

/-! ### setTgt -/

@[simp] theorem State.setTgt_part (s : State) (t : Nat) (x : Tgt) : (s.setTgt t x).part = s.part := rfl
@[simp] theorem State.setTgt_regs (s : State) (t : Nat) (x : Tgt) : (s.setTgt t x).regs = s.regs := rfl
@[simp] theorem State.setTgt_staged (s : State) (t : Nat) (x : Tgt) : (s.setTgt t x).staged = s.staged := rfl
@[simp] theorem State.setTgt_latched (s : State) (t : Nat) (x : Tgt) : (s.setTgt t x).latched = s.latched := rfl
@[simp] theorem State.setTgt_ez (s : State) (t : Nat) (x : Tgt) : (s.setTgt t x).ez = s.ez := rfl
@[simp] theorem State.setTgt_data (s : State) (t : Nat) (x : Tgt) : (s.setTgt t x).data = s.data := rfl
@[simp] theorem State.setTgt_skl (s : State) (t : Nat) (x : Tgt) : (s.setTgt t x).skl = s.skl := rfl
@[simp] theorem State.setTgt_fpt (s : State) (t : Nat) (x : Tgt) : (s.setTgt t x).fpt = s.fpt := rfl
@[simp] theorem State.setTgt_dhd (s : State) (t : Nat) (x : Tgt) : (s.setTgt t x).dhd = s.dhd := rfl
@[simp] theorem State.setTgt_mem (s : State) (t : Nat) (x : Tgt) : (s.setTgt t x).mem = s.mem := rfl
@[simp] theorem State.setTgt_hth (s : State) (t : Nat) (x : Tgt) : (s.setTgt t x).hth = s.hth := rfl
@[simp] theorem State.setTgt_crp (s : State) (t : Nat) (x : Tgt) : (s.setTgt t x).crp = s.crp := rfl
@[simp] theorem State.setTgt_thm (s : State) (t : Nat) (x : Tgt) : (s.setTgt t x).thm = s.thm := rfl
@[simp] theorem State.setTgt_fld (s : State) (t : Nat) (x : Tgt) : (s.setTgt t x).fld = s.fld := rfl
@[simp] theorem State.setTgt_fuses (s : State) (t : Nat) (x : Tgt) : (s.setTgt t x).fuses = s.fuses := rfl
@[simp] theorem State.setTgt_upd (s : State) (t : Nat) (x : Tgt) : (s.setTgt t x).upd = s.upd := rfl
@[simp] theorem State.setTgt_drv (s : State) (t : Nat) (x : Tgt) : (s.setTgt t x).drv = s.drv := rfl
@[simp] theorem State.setTgt_net (s : State) (t : Nat) (x : Tgt) : (s.setTgt t x).net = s.net := rfl
@[simp] theorem State.setTgt_tape0 (s : State) (t : Nat) (x : Tgt) : (s.setTgt t x).tape0 = s.tape0 := rfl
@[simp] theorem State.setTgt_tape1 (s : State) (t : Nat) (x : Tgt) : (s.setTgt t x).tape1 = s.tape1 := rfl
@[simp] theorem State.setTgt_clk (s : State) (t : Nat) (x : Tgt) : (s.setTgt t x).clk = s.clk := rfl
@[simp] theorem State.setTgt_fresh (s : State) (t : Nat) (x : Tgt) : (s.setTgt t x).fresh = s.fresh := rfl
@[simp] theorem State.setTgt_out (s : State) (t : Nat) (x : Tgt) : (s.setTgt t x).out = s.out := rfl
@[simp] theorem State.setTgt_pending (s : State) (t : Nat) (x : Tgt) : (s.setTgt t x).pending = s.pending := rfl

/-! ### tally -/

@[simp] theorem State.tally_part (s : State) (i n : Nat) : (s.tally i n).part = s.part := rfl
@[simp] theorem State.tally_regs (s : State) (i n : Nat) : (s.tally i n).regs = s.regs := rfl
@[simp] theorem State.tally_staged (s : State) (i n : Nat) : (s.tally i n).staged = s.staged := rfl
@[simp] theorem State.tally_latched (s : State) (i n : Nat) : (s.tally i n).latched = s.latched := rfl
@[simp] theorem State.tally_ez (s : State) (i n : Nat) : (s.tally i n).ez = s.ez := rfl
@[simp] theorem State.tally_data (s : State) (i n : Nat) : (s.tally i n).data = s.data := rfl
@[simp] theorem State.tally_hrw (s : State) (i n : Nat) : (s.tally i n).hrw = s.hrw := rfl
@[simp] theorem State.tally_skl (s : State) (i n : Nat) : (s.tally i n).skl = s.skl := rfl
@[simp] theorem State.tally_fpt (s : State) (i n : Nat) : (s.tally i n).fpt = s.fpt := rfl
@[simp] theorem State.tally_dhd (s : State) (i n : Nat) : (s.tally i n).dhd = s.dhd := rfl
@[simp] theorem State.tally_mem (s : State) (i n : Nat) : (s.tally i n).mem = s.mem := rfl
@[simp] theorem State.tally_hth (s : State) (i n : Nat) : (s.tally i n).hth = s.hth := rfl
@[simp] theorem State.tally_crp (s : State) (i n : Nat) : (s.tally i n).crp = s.crp := rfl
@[simp] theorem State.tally_thm (s : State) (i n : Nat) : (s.tally i n).thm = s.thm := rfl
@[simp] theorem State.tally_fuses (s : State) (i n : Nat) : (s.tally i n).fuses = s.fuses := rfl
@[simp] theorem State.tally_upd (s : State) (i n : Nat) : (s.tally i n).upd = s.upd := rfl
@[simp] theorem State.tally_drv (s : State) (i n : Nat) : (s.tally i n).drv = s.drv := rfl
@[simp] theorem State.tally_net (s : State) (i n : Nat) : (s.tally i n).net = s.net := rfl
@[simp] theorem State.tally_tape0 (s : State) (i n : Nat) : (s.tally i n).tape0 = s.tape0 := rfl
@[simp] theorem State.tally_tape1 (s : State) (i n : Nat) : (s.tally i n).tape1 = s.tape1 := rfl
@[simp] theorem State.tally_clk (s : State) (i n : Nat) : (s.tally i n).clk = s.clk := rfl
@[simp] theorem State.tally_fresh (s : State) (i n : Nat) : (s.tally i n).fresh = s.fresh := rfl
@[simp] theorem State.tally_out (s : State) (i n : Nat) : (s.tally i n).out = s.out := rfl
@[simp] theorem State.tally_pending (s : State) (i n : Nat) : (s.tally i n).pending = s.pending := rfl

/-! ### record -/

@[simp] theorem State.record_part (s : State) (e : SklEv) : (s.record e).part = s.part := rfl
@[simp] theorem State.record_regs (s : State) (e : SklEv) : (s.record e).regs = s.regs := rfl
@[simp] theorem State.record_staged (s : State) (e : SklEv) : (s.record e).staged = s.staged := rfl
@[simp] theorem State.record_latched (s : State) (e : SklEv) : (s.record e).latched = s.latched := rfl
@[simp] theorem State.record_ez (s : State) (e : SklEv) : (s.record e).ez = s.ez := rfl
@[simp] theorem State.record_data (s : State) (e : SklEv) : (s.record e).data = s.data := rfl
@[simp] theorem State.record_hrw (s : State) (e : SklEv) : (s.record e).hrw = s.hrw := rfl
@[simp] theorem State.record_fpt (s : State) (e : SklEv) : (s.record e).fpt = s.fpt := rfl
@[simp] theorem State.record_dhd (s : State) (e : SklEv) : (s.record e).dhd = s.dhd := rfl
@[simp] theorem State.record_mem (s : State) (e : SklEv) : (s.record e).mem = s.mem := rfl
@[simp] theorem State.record_hth (s : State) (e : SklEv) : (s.record e).hth = s.hth := rfl
@[simp] theorem State.record_crp (s : State) (e : SklEv) : (s.record e).crp = s.crp := rfl
@[simp] theorem State.record_thm (s : State) (e : SklEv) : (s.record e).thm = s.thm := rfl
@[simp] theorem State.record_fld (s : State) (e : SklEv) : (s.record e).fld = s.fld := rfl
@[simp] theorem State.record_fuses (s : State) (e : SklEv) : (s.record e).fuses = s.fuses := rfl
@[simp] theorem State.record_upd (s : State) (e : SklEv) : (s.record e).upd = s.upd := rfl
@[simp] theorem State.record_drv (s : State) (e : SklEv) : (s.record e).drv = s.drv := rfl
@[simp] theorem State.record_net (s : State) (e : SklEv) : (s.record e).net = s.net := rfl
@[simp] theorem State.record_tape0 (s : State) (e : SklEv) : (s.record e).tape0 = s.tape0 := rfl
@[simp] theorem State.record_tape1 (s : State) (e : SklEv) : (s.record e).tape1 = s.tape1 := rfl
@[simp] theorem State.record_clk (s : State) (e : SklEv) : (s.record e).clk = s.clk := rfl
@[simp] theorem State.record_fresh (s : State) (e : SklEv) : (s.record e).fresh = s.fresh := rfl
@[simp] theorem State.record_out (s : State) (e : SklEv) : (s.record e).out = s.out := rfl
@[simp] theorem State.record_pending (s : State) (e : SklEv) : (s.record e).pending = s.pending := rfl

/-! ### setSq -/

@[simp] theorem State.setSq_part (s : State) (r : Nat) (q : Sq) : (s.setSq r q).part = s.part := rfl
@[simp] theorem State.setSq_regs (s : State) (r : Nat) (q : Sq) : (s.setSq r q).regs = s.regs := rfl
@[simp] theorem State.setSq_staged (s : State) (r : Nat) (q : Sq) : (s.setSq r q).staged = s.staged := rfl
@[simp] theorem State.setSq_latched (s : State) (r : Nat) (q : Sq) : (s.setSq r q).latched = s.latched := rfl
@[simp] theorem State.setSq_data (s : State) (r : Nat) (q : Sq) : (s.setSq r q).data = s.data := rfl
@[simp] theorem State.setSq_hrw (s : State) (r : Nat) (q : Sq) : (s.setSq r q).hrw = s.hrw := rfl
@[simp] theorem State.setSq_skl (s : State) (r : Nat) (q : Sq) : (s.setSq r q).skl = s.skl := rfl
@[simp] theorem State.setSq_fpt (s : State) (r : Nat) (q : Sq) : (s.setSq r q).fpt = s.fpt := rfl
@[simp] theorem State.setSq_dhd (s : State) (r : Nat) (q : Sq) : (s.setSq r q).dhd = s.dhd := rfl
@[simp] theorem State.setSq_mem (s : State) (r : Nat) (q : Sq) : (s.setSq r q).mem = s.mem := rfl
@[simp] theorem State.setSq_hth (s : State) (r : Nat) (q : Sq) : (s.setSq r q).hth = s.hth := rfl
@[simp] theorem State.setSq_crp (s : State) (r : Nat) (q : Sq) : (s.setSq r q).crp = s.crp := rfl
@[simp] theorem State.setSq_thm (s : State) (r : Nat) (q : Sq) : (s.setSq r q).thm = s.thm := rfl
@[simp] theorem State.setSq_fld (s : State) (r : Nat) (q : Sq) : (s.setSq r q).fld = s.fld := rfl
@[simp] theorem State.setSq_fuses (s : State) (r : Nat) (q : Sq) : (s.setSq r q).fuses = s.fuses := rfl
@[simp] theorem State.setSq_upd (s : State) (r : Nat) (q : Sq) : (s.setSq r q).upd = s.upd := rfl
@[simp] theorem State.setSq_drv (s : State) (r : Nat) (q : Sq) : (s.setSq r q).drv = s.drv := rfl
@[simp] theorem State.setSq_net (s : State) (r : Nat) (q : Sq) : (s.setSq r q).net = s.net := rfl
@[simp] theorem State.setSq_tape0 (s : State) (r : Nat) (q : Sq) : (s.setSq r q).tape0 = s.tape0 := rfl
@[simp] theorem State.setSq_tape1 (s : State) (r : Nat) (q : Sq) : (s.setSq r q).tape1 = s.tape1 := rfl
@[simp] theorem State.setSq_clk (s : State) (r : Nat) (q : Sq) : (s.setSq r q).clk = s.clk := rfl
@[simp] theorem State.setSq_fresh (s : State) (r : Nat) (q : Sq) : (s.setSq r q).fresh = s.fresh := rfl
@[simp] theorem State.setSq_out (s : State) (r : Nat) (q : Sq) : (s.setSq r q).out = s.out := rfl
@[simp] theorem State.setSq_pending (s : State) (r : Nat) (q : Sq) : (s.setSq r q).pending = s.pending := rfl

/-! ### setCq -/

@[simp] theorem State.setCq_part (s : State) (c : Nat) (q : Cq) : (s.setCq c q).part = s.part := rfl
@[simp] theorem State.setCq_regs (s : State) (c : Nat) (q : Cq) : (s.setCq c q).regs = s.regs := rfl
@[simp] theorem State.setCq_staged (s : State) (c : Nat) (q : Cq) : (s.setCq c q).staged = s.staged := rfl
@[simp] theorem State.setCq_latched (s : State) (c : Nat) (q : Cq) : (s.setCq c q).latched = s.latched := rfl
@[simp] theorem State.setCq_data (s : State) (c : Nat) (q : Cq) : (s.setCq c q).data = s.data := rfl
@[simp] theorem State.setCq_hrw (s : State) (c : Nat) (q : Cq) : (s.setCq c q).hrw = s.hrw := rfl
@[simp] theorem State.setCq_skl (s : State) (c : Nat) (q : Cq) : (s.setCq c q).skl = s.skl := rfl
@[simp] theorem State.setCq_fpt (s : State) (c : Nat) (q : Cq) : (s.setCq c q).fpt = s.fpt := rfl
@[simp] theorem State.setCq_dhd (s : State) (c : Nat) (q : Cq) : (s.setCq c q).dhd = s.dhd := rfl
@[simp] theorem State.setCq_mem (s : State) (c : Nat) (q : Cq) : (s.setCq c q).mem = s.mem := rfl
@[simp] theorem State.setCq_hth (s : State) (c : Nat) (q : Cq) : (s.setCq c q).hth = s.hth := rfl
@[simp] theorem State.setCq_crp (s : State) (c : Nat) (q : Cq) : (s.setCq c q).crp = s.crp := rfl
@[simp] theorem State.setCq_thm (s : State) (c : Nat) (q : Cq) : (s.setCq c q).thm = s.thm := rfl
@[simp] theorem State.setCq_fld (s : State) (c : Nat) (q : Cq) : (s.setCq c q).fld = s.fld := rfl
@[simp] theorem State.setCq_fuses (s : State) (c : Nat) (q : Cq) : (s.setCq c q).fuses = s.fuses := rfl
@[simp] theorem State.setCq_upd (s : State) (c : Nat) (q : Cq) : (s.setCq c q).upd = s.upd := rfl
@[simp] theorem State.setCq_drv (s : State) (c : Nat) (q : Cq) : (s.setCq c q).drv = s.drv := rfl
@[simp] theorem State.setCq_net (s : State) (c : Nat) (q : Cq) : (s.setCq c q).net = s.net := rfl
@[simp] theorem State.setCq_tape0 (s : State) (c : Nat) (q : Cq) : (s.setCq c q).tape0 = s.tape0 := rfl
@[simp] theorem State.setCq_tape1 (s : State) (c : Nat) (q : Cq) : (s.setCq c q).tape1 = s.tape1 := rfl
@[simp] theorem State.setCq_clk (s : State) (c : Nat) (q : Cq) : (s.setCq c q).clk = s.clk := rfl
@[simp] theorem State.setCq_fresh (s : State) (c : Nat) (q : Cq) : (s.setCq c q).fresh = s.fresh := rfl
@[simp] theorem State.setCq_out (s : State) (c : Nat) (q : Cq) : (s.setCq c q).out = s.out := rfl
@[simp] theorem State.setCq_pending (s : State) (c : Nat) (q : Cq) : (s.setCq c q).pending = s.pending := rfl

/-! ### freeEntry -/

@[simp] theorem State.freeEntry_part (s : State) (eid : Nat) : (s.freeEntry eid).part = s.part := rfl
@[simp] theorem State.freeEntry_regs (s : State) (eid : Nat) : (s.freeEntry eid).regs = s.regs := rfl
@[simp] theorem State.freeEntry_staged (s : State) (eid : Nat) : (s.freeEntry eid).staged = s.staged := rfl
@[simp] theorem State.freeEntry_latched (s : State) (eid : Nat) : (s.freeEntry eid).latched = s.latched := rfl
@[simp] theorem State.freeEntry_data (s : State) (eid : Nat) : (s.freeEntry eid).data = s.data := rfl
@[simp] theorem State.freeEntry_hrw (s : State) (eid : Nat) : (s.freeEntry eid).hrw = s.hrw := rfl
@[simp] theorem State.freeEntry_skl (s : State) (eid : Nat) : (s.freeEntry eid).skl = s.skl := rfl
@[simp] theorem State.freeEntry_fpt (s : State) (eid : Nat) : (s.freeEntry eid).fpt = s.fpt := rfl
@[simp] theorem State.freeEntry_dhd (s : State) (eid : Nat) : (s.freeEntry eid).dhd = s.dhd := rfl
@[simp] theorem State.freeEntry_mem (s : State) (eid : Nat) : (s.freeEntry eid).mem = s.mem := rfl
@[simp] theorem State.freeEntry_hth (s : State) (eid : Nat) : (s.freeEntry eid).hth = s.hth := rfl
@[simp] theorem State.freeEntry_crp (s : State) (eid : Nat) : (s.freeEntry eid).crp = s.crp := rfl
@[simp] theorem State.freeEntry_thm (s : State) (eid : Nat) : (s.freeEntry eid).thm = s.thm := rfl
@[simp] theorem State.freeEntry_fld (s : State) (eid : Nat) : (s.freeEntry eid).fld = s.fld := rfl
@[simp] theorem State.freeEntry_fuses (s : State) (eid : Nat) : (s.freeEntry eid).fuses = s.fuses := rfl
@[simp] theorem State.freeEntry_upd (s : State) (eid : Nat) : (s.freeEntry eid).upd = s.upd := rfl
@[simp] theorem State.freeEntry_drv (s : State) (eid : Nat) : (s.freeEntry eid).drv = s.drv := rfl
@[simp] theorem State.freeEntry_net (s : State) (eid : Nat) : (s.freeEntry eid).net = s.net := rfl
@[simp] theorem State.freeEntry_tape0 (s : State) (eid : Nat) : (s.freeEntry eid).tape0 = s.tape0 := rfl
@[simp] theorem State.freeEntry_tape1 (s : State) (eid : Nat) : (s.freeEntry eid).tape1 = s.tape1 := rfl
@[simp] theorem State.freeEntry_clk (s : State) (eid : Nat) : (s.freeEntry eid).clk = s.clk := rfl
@[simp] theorem State.freeEntry_fresh (s : State) (eid : Nat) : (s.freeEntry eid).fresh = s.fresh := rfl
@[simp] theorem State.freeEntry_out (s : State) (eid : Nat) : (s.freeEntry eid).out = s.out := rfl
@[simp] theorem State.freeEntry_pending (s : State) (eid : Nat) : (s.freeEntry eid).pending = s.pending := rfl

/-! ### markBegun -/

@[simp] theorem State.markBegun_part (s : State) (eid : Nat) : (s.markBegun eid).part = s.part := rfl
@[simp] theorem State.markBegun_regs (s : State) (eid : Nat) : (s.markBegun eid).regs = s.regs := rfl
@[simp] theorem State.markBegun_staged (s : State) (eid : Nat) : (s.markBegun eid).staged = s.staged := rfl
@[simp] theorem State.markBegun_latched (s : State) (eid : Nat) : (s.markBegun eid).latched = s.latched := rfl
@[simp] theorem State.markBegun_data (s : State) (eid : Nat) : (s.markBegun eid).data = s.data := rfl
@[simp] theorem State.markBegun_hrw (s : State) (eid : Nat) : (s.markBegun eid).hrw = s.hrw := rfl
@[simp] theorem State.markBegun_skl (s : State) (eid : Nat) : (s.markBegun eid).skl = s.skl := rfl
@[simp] theorem State.markBegun_fpt (s : State) (eid : Nat) : (s.markBegun eid).fpt = s.fpt := rfl
@[simp] theorem State.markBegun_dhd (s : State) (eid : Nat) : (s.markBegun eid).dhd = s.dhd := rfl
@[simp] theorem State.markBegun_mem (s : State) (eid : Nat) : (s.markBegun eid).mem = s.mem := rfl
@[simp] theorem State.markBegun_hth (s : State) (eid : Nat) : (s.markBegun eid).hth = s.hth := rfl
@[simp] theorem State.markBegun_crp (s : State) (eid : Nat) : (s.markBegun eid).crp = s.crp := rfl
@[simp] theorem State.markBegun_thm (s : State) (eid : Nat) : (s.markBegun eid).thm = s.thm := rfl
@[simp] theorem State.markBegun_fld (s : State) (eid : Nat) : (s.markBegun eid).fld = s.fld := rfl
@[simp] theorem State.markBegun_fuses (s : State) (eid : Nat) : (s.markBegun eid).fuses = s.fuses := rfl
@[simp] theorem State.markBegun_upd (s : State) (eid : Nat) : (s.markBegun eid).upd = s.upd := rfl
@[simp] theorem State.markBegun_drv (s : State) (eid : Nat) : (s.markBegun eid).drv = s.drv := rfl
@[simp] theorem State.markBegun_net (s : State) (eid : Nat) : (s.markBegun eid).net = s.net := rfl
@[simp] theorem State.markBegun_tape0 (s : State) (eid : Nat) : (s.markBegun eid).tape0 = s.tape0 := rfl
@[simp] theorem State.markBegun_tape1 (s : State) (eid : Nat) : (s.markBegun eid).tape1 = s.tape1 := rfl
@[simp] theorem State.markBegun_clk (s : State) (eid : Nat) : (s.markBegun eid).clk = s.clk := rfl
@[simp] theorem State.markBegun_fresh (s : State) (eid : Nat) : (s.markBegun eid).fresh = s.fresh := rfl
@[simp] theorem State.markBegun_out (s : State) (eid : Nat) : (s.markBegun eid).out = s.out := rfl
@[simp] theorem State.markBegun_pending (s : State) (eid : Nat) : (s.markBegun eid).pending = s.pending := rfl

/-! ### setInst -/

@[simp] theorem State.setInst_part (s : State) (k : Nat) (x : Inst) : (s.setInst k x).part = s.part := rfl
@[simp] theorem State.setInst_regs (s : State) (k : Nat) (x : Inst) : (s.setInst k x).regs = s.regs := rfl
@[simp] theorem State.setInst_staged (s : State) (k : Nat) (x : Inst) : (s.setInst k x).staged = s.staged := rfl
@[simp] theorem State.setInst_latched (s : State) (k : Nat) (x : Inst) : (s.setInst k x).latched = s.latched := rfl
@[simp] theorem State.setInst_data (s : State) (k : Nat) (x : Inst) : (s.setInst k x).data = s.data := rfl
@[simp] theorem State.setInst_hrw (s : State) (k : Nat) (x : Inst) : (s.setInst k x).hrw = s.hrw := rfl
@[simp] theorem State.setInst_skl (s : State) (k : Nat) (x : Inst) : (s.setInst k x).skl = s.skl := rfl
@[simp] theorem State.setInst_fpt (s : State) (k : Nat) (x : Inst) : (s.setInst k x).fpt = s.fpt := rfl
@[simp] theorem State.setInst_dhd (s : State) (k : Nat) (x : Inst) : (s.setInst k x).dhd = s.dhd := rfl
@[simp] theorem State.setInst_mem (s : State) (k : Nat) (x : Inst) : (s.setInst k x).mem = s.mem := rfl
@[simp] theorem State.setInst_hth (s : State) (k : Nat) (x : Inst) : (s.setInst k x).hth = s.hth := rfl
@[simp] theorem State.setInst_crp (s : State) (k : Nat) (x : Inst) : (s.setInst k x).crp = s.crp := rfl
@[simp] theorem State.setInst_thm (s : State) (k : Nat) (x : Inst) : (s.setInst k x).thm = s.thm := rfl
@[simp] theorem State.setInst_fld (s : State) (k : Nat) (x : Inst) : (s.setInst k x).fld = s.fld := rfl
@[simp] theorem State.setInst_fuses (s : State) (k : Nat) (x : Inst) : (s.setInst k x).fuses = s.fuses := rfl
@[simp] theorem State.setInst_upd (s : State) (k : Nat) (x : Inst) : (s.setInst k x).upd = s.upd := rfl
@[simp] theorem State.setInst_drv (s : State) (k : Nat) (x : Inst) : (s.setInst k x).drv = s.drv := rfl
@[simp] theorem State.setInst_net (s : State) (k : Nat) (x : Inst) : (s.setInst k x).net = s.net := rfl
@[simp] theorem State.setInst_tape0 (s : State) (k : Nat) (x : Inst) : (s.setInst k x).tape0 = s.tape0 := rfl
@[simp] theorem State.setInst_tape1 (s : State) (k : Nat) (x : Inst) : (s.setInst k x).tape1 = s.tape1 := rfl
@[simp] theorem State.setInst_clk (s : State) (k : Nat) (x : Inst) : (s.setInst k x).clk = s.clk := rfl
@[simp] theorem State.setInst_fresh (s : State) (k : Nat) (x : Inst) : (s.setInst k x).fresh = s.fresh := rfl
@[simp] theorem State.setInst_out (s : State) (k : Nat) (x : Inst) : (s.setInst k x).out = s.out := rfl
@[simp] theorem State.setInst_pending (s : State) (k : Nat) (x : Inst) : (s.setInst k x).pending = s.pending := rfl

/-! ### setXq -/

@[simp] theorem State.setXq_part (s : State) (k : Nat) (x : Xq) : (s.setXq k x).part = s.part := rfl
@[simp] theorem State.setXq_regs (s : State) (k : Nat) (x : Xq) : (s.setXq k x).regs = s.regs := rfl
@[simp] theorem State.setXq_staged (s : State) (k : Nat) (x : Xq) : (s.setXq k x).staged = s.staged := rfl
@[simp] theorem State.setXq_latched (s : State) (k : Nat) (x : Xq) : (s.setXq k x).latched = s.latched := rfl
@[simp] theorem State.setXq_data (s : State) (k : Nat) (x : Xq) : (s.setXq k x).data = s.data := rfl
@[simp] theorem State.setXq_hrw (s : State) (k : Nat) (x : Xq) : (s.setXq k x).hrw = s.hrw := rfl
@[simp] theorem State.setXq_skl (s : State) (k : Nat) (x : Xq) : (s.setXq k x).skl = s.skl := rfl
@[simp] theorem State.setXq_fpt (s : State) (k : Nat) (x : Xq) : (s.setXq k x).fpt = s.fpt := rfl
@[simp] theorem State.setXq_dhd (s : State) (k : Nat) (x : Xq) : (s.setXq k x).dhd = s.dhd := rfl
@[simp] theorem State.setXq_mem (s : State) (k : Nat) (x : Xq) : (s.setXq k x).mem = s.mem := rfl
@[simp] theorem State.setXq_hth (s : State) (k : Nat) (x : Xq) : (s.setXq k x).hth = s.hth := rfl
@[simp] theorem State.setXq_crp (s : State) (k : Nat) (x : Xq) : (s.setXq k x).crp = s.crp := rfl
@[simp] theorem State.setXq_thm (s : State) (k : Nat) (x : Xq) : (s.setXq k x).thm = s.thm := rfl
@[simp] theorem State.setXq_fld (s : State) (k : Nat) (x : Xq) : (s.setXq k x).fld = s.fld := rfl
@[simp] theorem State.setXq_fuses (s : State) (k : Nat) (x : Xq) : (s.setXq k x).fuses = s.fuses := rfl
@[simp] theorem State.setXq_upd (s : State) (k : Nat) (x : Xq) : (s.setXq k x).upd = s.upd := rfl
@[simp] theorem State.setXq_drv (s : State) (k : Nat) (x : Xq) : (s.setXq k x).drv = s.drv := rfl
@[simp] theorem State.setXq_net (s : State) (k : Nat) (x : Xq) : (s.setXq k x).net = s.net := rfl
@[simp] theorem State.setXq_tape0 (s : State) (k : Nat) (x : Xq) : (s.setXq k x).tape0 = s.tape0 := rfl
@[simp] theorem State.setXq_tape1 (s : State) (k : Nat) (x : Xq) : (s.setXq k x).tape1 = s.tape1 := rfl
@[simp] theorem State.setXq_clk (s : State) (k : Nat) (x : Xq) : (s.setXq k x).clk = s.clk := rfl
@[simp] theorem State.setXq_fresh (s : State) (k : Nat) (x : Xq) : (s.setXq k x).fresh = s.fresh := rfl
@[simp] theorem State.setXq_out (s : State) (k : Nat) (x : Xq) : (s.setXq k x).out = s.out := rfl
@[simp] theorem State.setXq_pending (s : State) (k : Nat) (x : Xq) : (s.setXq k x).pending = s.pending := rfl

end Sys2Proof.Machine
end

