-- ==== Sys2Proof/Laws/Tables.lean ====
section
/-! SUPPORT. Laws of sparse tables, of byte stores and of bit fields. -/

namespace Sys2Proof.Machine

open Sys2Proof

/-! ## Sparse tables -/

variable {α : Type}

theorem KMap.get?_put_same (m : KMap α) (k : Nat) (v : α) : KMap.get? (KMap.put m k v) k = some v := by
  induction m with
  | nil => simp [KMap.put, KMap.get?]
  | cons e m ih =>
    obtain ⟨a, b⟩ := e
    simp only [KMap.put]
    split
    · simp [KMap.get?]
    · split <;> simp_all [KMap.get?]

theorem KMap.get?_put_other (m : KMap α) {k j : Nat} (v : α) (h : j ≠ k) :
    KMap.get? (KMap.put m k v) j = KMap.get? m j := by
  induction m with
  | nil => simp [KMap.put, KMap.get?, h]
  | cons e m ih =>
    obtain ⟨a, b⟩ := e
    simp only [KMap.put]
    split
    · simp [KMap.get?, h]
    · split
      · subst_vars; simp [KMap.get?, h]
      · simp only [KMap.get?, ih]

theorem KMap.get?_del_same (m : KMap α) (k : Nat) : KMap.get? (KMap.del m k) k = none := by
  induction m with
  | nil => rfl
  | cons e m ih =>
    obtain ⟨a, b⟩ := e
    simp only [KMap.del]
    split
    · exact ih
    · simp_all [KMap.get?]

theorem KMap.get?_del_other (m : KMap α) {k j : Nat} (h : j ≠ k) : KMap.get? (KMap.del m k) j = KMap.get? m j := by
  induction m with
  | nil => rfl
  | cons e m ih =>
    obtain ⟨a, b⟩ := e
    simp only [KMap.del]
    split
    · subst_vars; simp [KMap.get?, h, ih]
    · simp only [KMap.get?, ih]

@[simp] theorem KMap.getD_put_same (m : KMap α) (k : Nat) (v d : α) : KMap.getD (KMap.put m k v) k d = v := by
  simp [KMap.getD, KMap.get?_put_same]

theorem KMap.getD_put_other (m : KMap α) {k j : Nat} (v d : α) (h : j ≠ k) :
    KMap.getD (KMap.put m k v) j d = KMap.getD m j d := by
  simp [KMap.getD, KMap.get?_put_other m v h]

@[simp] theorem KMap.getD_del_same (m : KMap α) (k : Nat) (d : α) : KMap.getD (KMap.del m k) k d = d := by
  simp [KMap.getD, KMap.get?_del_same]

theorem KMap.getD_del_other (m : KMap α) {k j : Nat} (d : α) (h : j ≠ k) :
    KMap.getD (KMap.del m k) j d = KMap.getD m j d := by
  simp [KMap.getD, KMap.get?_del_other m h]

/-- A table in order: every key after the first is larger than it. -/
theorem KMap.wf_cons (e : Nat × α) (m : KMap α) : KMap.wf (e :: m) = true ↔ (∀ x ∈ m, e.1 < x.1) ∧ KMap.wf m = true := by
  induction m generalizing e with
  | nil => simp [KMap.wf]
  | cons b m ih =>
    rw [KMap.wf, Bool.and_eq_true, decide_eq_true_eq, List.forall_mem_cons]
    constructor
    · rintro ⟨h, w⟩
      exact ⟨⟨h, fun x hx => Nat.lt_trans h (((ih b).1 w).1 x hx)⟩, w⟩
    · rintro ⟨⟨h, -⟩, w⟩
      exact ⟨h, w⟩

theorem KMap.mem_put (m : KMap α) (k : Nat) (v : α) (x : Nat × α) (h : x ∈ KMap.put m k v) : x = (k, v) ∨ x ∈ m := by
  induction m with
  | nil => simpa [KMap.put] using h
  | cons e m ih =>
    obtain ⟨a, b⟩ := e
    simp only [KMap.put] at h
    split at h
    · simpa using h
    · split at h
      · rcases List.mem_cons.1 h with h | h
        · exact .inl h
        · exact .inr (List.mem_cons_of_mem _ h)
      · rcases List.mem_cons.1 h with h | h
        · exact .inr (h ▸ List.mem_cons_self)
        · exact (ih h).imp id (List.mem_cons_of_mem _)

theorem KMap.mem_del (m : KMap α) (k : Nat) (x : Nat × α) (h : x ∈ KMap.del m k) : x ∈ m ∧ x.1 ≠ k := by
  induction m with
  | nil => simp [KMap.del] at h
  | cons e m ih =>
    obtain ⟨a, b⟩ := e
    simp only [KMap.del] at h
    split at h
    · exact (ih h).imp (List.mem_cons_of_mem _) id
    · rcases List.mem_cons.1 h with h | h
      · subst h; exact ⟨List.mem_cons_self, fun e => by simp_all⟩
      · exact (ih h).imp (List.mem_cons_of_mem _) id

/-- Setting a value keeps a table in order. -/
theorem KMap.wf_put (m : KMap α) (k : Nat) (v : α) (h : KMap.wf m = true) : KMap.wf (KMap.put m k v) = true := by
  induction m with
  | nil => rfl
  | cons e m ih =>
    obtain ⟨a, b⟩ := e
    have hw := (KMap.wf_cons (a, b) m).1 h
    simp only [KMap.put]
    split
    · rename_i hk
      refine (KMap.wf_cons _ _).2 ⟨?_, h⟩
      intro x hx
      rcases List.mem_cons.1 hx with rfl | hx
      · exact hk
      · exact Nat.lt_trans hk (hw.1 x hx)
    · split
      · subst_vars; exact (KMap.wf_cons _ _).2 hw
      · rename_i h1 h2
        refine (KMap.wf_cons _ _).2 ⟨?_, ih hw.2⟩
        intro x hx
        rcases KMap.mem_put m k v x hx with rfl | hx
        · show a < k; omega
        · exact hw.1 x hx

/-- Removing a key keeps a table in order. -/
theorem KMap.wf_del (m : KMap α) (k : Nat) (h : KMap.wf m = true) : KMap.wf (KMap.del m k) = true := by
  induction m with
  | nil => rfl
  | cons e m ih =>
    obtain ⟨a, b⟩ := e
    have hw := (KMap.wf_cons (a, b) m).1 h
    simp only [KMap.del]
    split
    · exact ih hw.2
    · exact (KMap.wf_cons _ _).2 ⟨fun x hx => hw.1 x (KMap.mem_del m k x hx).1, ih hw.2⟩

/-- Keeping some entries keeps a table in order. -/
theorem KMap.wf_filter (m : KMap α) (p : Nat × α → Bool) (h : KMap.wf m = true) : KMap.wf (m.filter p) = true := by
  induction m with
  | nil => rfl
  | cons e m ih =>
    have hw := (KMap.wf_cons e m).1 h
    rw [List.filter_cons]
    split
    · exact (KMap.wf_cons _ _).2 ⟨fun x hx => hw.1 x ((List.mem_filter.1 hx).1), ih hw.2⟩
    · exact ih hw.2

/-! ## Byte stores -/

theorem Mem.get_insert_same (m : Mem) (a : Nat) (b : Byte) : Mem.get (Mem.insert m a b) a = b := by
  induction m with
  | nil => simp [Mem.insert, Mem.get]
  | cons c m ih =>
    simp only [Mem.insert]
    split
    · simp [Mem.get]
    · split
      · simp [Mem.get]
      · rename_i h
        simp only [Mem.get, if_neg (Ne.symm h), ih]

theorem Mem.get_insert_other (m : Mem) {a i : Nat} (b : Byte) (h : i ≠ a) :
    Mem.get (Mem.insert m a b) i = Mem.get m i := by
  induction m with
  | nil => simp [Mem.insert, Mem.get, Ne.symm h]
  | cons c m ih =>
    simp only [Mem.insert]
    split
    · simp [Mem.get, Ne.symm h]
    · split
      · rename_i hc; simp [Mem.get, hc ▸ Ne.symm h, Ne.symm h]
      · simp only [Mem.get, ih]

/-- A store in order: addresses rise strictly and no entry is the blank value. -/
theorem Mem.wf_cons (c : Host.Cell) (m : Mem) :
    Mem.wf (c :: m) = true ↔ c.2 ≠ Mem.blank ∧ (∀ x ∈ m, c.1 < x.1) ∧ Mem.wf m = true := by
  induction m generalizing c with
  | nil => simp [Mem.wf]
  | cons d m ih =>
    rw [Mem.wf, Bool.and_eq_true, Bool.and_eq_true, decide_eq_true_eq, decide_eq_true_eq, List.forall_mem_cons]
    constructor
    · rintro ⟨⟨h, b⟩, w⟩
      exact ⟨b, ⟨h, fun x hx => Nat.lt_trans h (((ih d).1 w).2.1 x hx)⟩, w⟩
    · rintro ⟨b, ⟨h, -⟩, w⟩
      exact ⟨⟨h, b⟩, w⟩

theorem Mem.mem_insert (m : Mem) (a : Nat) (b : Byte) (x : Host.Cell) (h : x ∈ Mem.insert m a b) : x = (a, b) ∨ x ∈ m := by
  induction m with
  | nil => simpa [Mem.insert] using h
  | cons c m ih =>
    simp only [Mem.insert] at h
    split at h
    · simpa using h
    · split at h
      · exact (List.mem_cons.1 h).imp id (List.mem_cons_of_mem _)
      · rcases List.mem_cons.1 h with h | h
        · exact .inr (h ▸ List.mem_cons_self)
        · exact (ih h).imp id (List.mem_cons_of_mem _)

theorem Mem.mem_erase (m : Mem) (a : Nat) (x : Host.Cell) (h : x ∈ Mem.erase m a) : x ∈ m := by
  induction m with
  | nil => simp [Mem.erase] at h
  | cons c m ih =>
    simp only [Mem.erase] at h
    split at h
    · exact List.mem_cons_of_mem _ h
    · rcases List.mem_cons.1 h with h | h
      · exact h ▸ List.mem_cons_self
      · exact List.mem_cons_of_mem _ (ih h)

theorem Mem.wf_insert (m : Mem) (a : Nat) (b : Byte) (hb : b ≠ Mem.blank) (h : Mem.wf m = true) :
    Mem.wf (Mem.insert m a b) = true := by
  induction m with
  | nil => simp [Mem.insert, Mem.wf, hb]
  | cons c m ih =>
    have hw := (Mem.wf_cons c m).1 h
    simp only [Mem.insert]
    split
    · rename_i hk
      refine (Mem.wf_cons _ _).2 ⟨hb, ?_, h⟩
      intro x hx
      rcases List.mem_cons.1 hx with rfl | hx
      · exact hk
      · exact Nat.lt_trans hk (hw.2.1 x hx)
    · split
      · rename_i hk
        refine (Mem.wf_cons _ _).2 ⟨hb, fun x hx => ?_, hw.2.2⟩
        exact hk ▸ hw.2.1 x hx
      · rename_i h1 h2
        refine (Mem.wf_cons _ _).2 ⟨hw.1, ?_, ih hw.2.2⟩
        intro x hx
        rcases Mem.mem_insert m a b x hx with rfl | hx
        · show c.1 < a; omega
        · exact hw.2.1 x hx

theorem Mem.wf_erase (m : Mem) (a : Nat) (h : Mem.wf m = true) : Mem.wf (Mem.erase m a) = true := by
  induction m with
  | nil => rfl
  | cons c m ih =>
    have hw := (Mem.wf_cons c m).1 h
    simp only [Mem.erase]
    split
    · exact hw.2.2
    · exact (Mem.wf_cons _ _).2 ⟨hw.1, fun x hx => hw.2.1 x (Mem.mem_erase m a x hx), ih hw.2.2⟩

/-- Writing a byte keeps the canonical form. -/
theorem Mem.wf_set (m : Mem) (a : Nat) (b : Byte) (h : Mem.wf m = true) : Mem.wf (Mem.set m a b) = true := by
  unfold Mem.set
  split
  · exact Mem.wf_erase m a h
  · exact Mem.wf_insert m a b ‹_› h

/-- Writing bytes keeps the canonical form. -/
theorem Mem.wf_write (m : Mem) (a : Nat) (bs : Bytes) (h : Mem.wf m = true) : Mem.wf (Mem.write m a bs) = true := by
  induction bs generalizing m a with
  | nil => exact h
  | cons b bs ih => exact ih _ _ (Mem.wf_set m a b h)

theorem Mem.mem_ofBytesAt (a : Nat) (bs : Bytes) (x : Host.Cell) (h : x ∈ Mem.ofBytesAt a bs) : a ≤ x.1 := by
  induction bs generalizing a with
  | nil => simp [Mem.ofBytesAt] at h
  | cons b bs ih =>
    simp only [Mem.ofBytesAt] at h
    split at h
    · exact Nat.le_of_succ_le (ih _ h)
    · rcases List.mem_cons.1 h with rfl | h
      · exact Nat.le_refl _
      · exact Nat.le_of_succ_le (ih _ h)

/-- A string laid out is in canonical form. -/
theorem Mem.wf_ofBytesAt (a : Nat) (bs : Bytes) : Mem.wf (Mem.ofBytesAt a bs) = true := by
  induction bs generalizing a with
  | nil => rfl
  | cons b bs ih =>
    simp only [Mem.ofBytesAt]
    split
    · exact ih _
    · exact (Mem.wf_cons _ _).2 ⟨‹_›, fun x hx => Mem.mem_ofBytesAt _ _ x hx, ih _⟩

/-! ## Bit fields -/

theorem fieldOf_lt (w hi lo : Nat) : fieldOf w hi lo < 2 ^ (hi + 1 - lo) := Nat.mod_lt _ (Nat.two_pow_pos _)

end Sys2Proof.Machine
end

