-- ==== Sys2Proof/Laws/Shared.lean ====
section
/-! SUPPORT. What each shared operation does, once: the register bank, the events, the replies. A provider of these cites
them in place of unfolding the operation. -/

namespace Sys2Proof.Machine

open Sys2Proof

/-! ## The register bank -/

/-- A word that is set reads as it was set. -/
@[simp] theorem State.reg_setReg_same (s : State) (off : Nat) (v : W32) : (s.setReg off v).reg off = v := by
  unfold State.setReg State.reg
  split <;> simp_all

/-- Setting a word leaves the others. -/
theorem State.reg_setReg_other (s : State) {off o : Nat} (v : W32) (h : o ≠ off) : (s.setReg off v).reg o = s.reg o := by
  unfold State.setReg State.reg
  split <;> simp [KMap.getD_put_other, KMap.getD_del_other, h]

/-- A bank with the same table has the same words. -/
theorem State.reg_congr {s t : State} (h : t.regs = s.regs) (o : Nat) : t.reg o = s.reg o := by
  unfold State.reg; rw [h]

/-- Setting bits leaves the other words. -/
theorem State.reg_setRf_other (s : State) {off o : Nat} (hi lo v : Nat) (h : o ≠ off) :
    (s.setRf off hi lo v).reg o = s.reg o := State.reg_setReg_other _ _ h

/-- Setting a bit leaves the other words. -/
theorem State.reg_setRbit_other (s : State) {off o : Nat} (i : Nat) (b : Bool) (h : o ≠ off) :
    (s.setRbit off i b).reg o = s.reg o := State.reg_setRf_other _ _ _ _ h

/-- Counting leaves the other words. -/
theorem State.reg_bump_other (s : State) {off o : Nat} (hi lo n : Nat) (h : o ≠ off) :
    (s.bump off hi lo n).reg o = s.reg o := State.reg_setRf_other _ _ _ _ h

/-- A state with the same bank is as good. -/
theorem State.bankOk_congr {s t : State} (h : t.regs = s.regs) (hs : s.bankOk) : t.bankOk := by
  unfold State.bankOk; rw [h]; exact hs

/-- Setting a word keeps the bank's form. -/
theorem State.bankOk_setReg (s : State) (off : Nat) (v : W32) (h : s.bankOk) : (s.setReg off v).bankOk := by
  obtain ⟨hw, hn⟩ := h
  unfold State.bankOk State.setReg
  split
  · exact ⟨KMap.wf_del _ _ hw, fun x hx => hn x (KMap.mem_del _ _ x hx).1⟩
  · refine ⟨KMap.wf_put _ _ _ hw, fun x hx => ?_⟩
    rcases KMap.mem_put _ _ _ x hx with rfl | hx
    · assumption
    · exact hn x hx

theorem State.bankOk_setRf (s : State) (off hi lo v : Nat) (h : s.bankOk) : (s.setRf off hi lo v).bankOk :=
  State.bankOk_setReg _ _ _ h

theorem State.bankOk_setRbit (s : State) (off i : Nat) (b : Bool) (h : s.bankOk) : (s.setRbit off i b).bankOk :=
  State.bankOk_setRf _ _ _ _ _ h

theorem State.bankOk_bump (s : State) (off hi lo n : Nat) (h : s.bankOk) : (s.bump off hi lo n).bankOk :=
  State.bankOk_setRf _ _ _ _ _ h

theorem State.bankOk_setPair (s : State) (lo v : Nat) (h : s.bankOk) : (s.setPair lo v).bankOk :=
  State.bankOk_setReg _ _ _ (State.bankOk_setReg _ _ _ h)

theorem State.bankOk_addPair (s : State) (lo n : Nat) (h : s.bankOk) : (s.addPair lo n).bankOk :=
  State.bankOk_setPair _ _ _ h

/-! ## Events -/

/-- Waking a function changes Hedgerow and what is sent. -/
theorem State.wakeFn_frame (s : State) (f : Nat) : ∃ h o, s.wakeFn f = { s with hrw := h, out := o } := by
  unfold State.wakeFn
  dsimp only
  split
  · exact ⟨_, _, rfl⟩
  · exact ⟨s.hrw, s.out, rfl⟩

/-- Waking a target changes Hedgerow and what is sent. -/
theorem State.wakeTgt_frame (s : State) (t : Nat) : ∃ h o, s.wakeTgt t = { s with hrw := h, out := o } := by
  unfold State.wakeTgt
  dsimp only
  split
  · exact ⟨_, _, rfl⟩
  · exact ⟨s.hrw, s.out, rfl⟩

/-- Delivering an edge changes Hedgerow and what is sent. -/
theorem State.deliver_frame (s : State) (n : Nat) : ∃ h o, s.deliver n = { s with hrw := h, out := o } := by
  unfold State.deliver
  dsimp only
  split
  · split
    · obtain ⟨h, o, e⟩ := State.wakeFn_frame (s.setSrc n { s.src n with asleepAt := some ((s.src n).asleepAt.getD s.clk) })
        (s.src n).route.fn
      exact ⟨h, o, e⟩
    · exact ⟨_, s.out, rfl⟩
  · split
    · obtain ⟨h, o, e⟩ := State.wakeTgt_frame (s.setSrc n { s.src n with asleepAt := some ((s.src n).asleepAt.getD s.clk) })
        (s.src n).route.target
      exact ⟨h, o, e⟩
    · exact ⟨s.hrw, s.out, rfl⟩

/-- An edge changes Hedgerow and what is sent. -/
theorem State.edge_frame (s : State) (n : Nat) : ∃ h o, s.edge n = { s with hrw := h, out := o } := by
  unfold State.edge
  dsimp only
  split
  · exact ⟨s.hrw, s.out, rfl⟩
  · split
    · exact ⟨_, s.out, rfl⟩
    · obtain ⟨h, o, e⟩ := State.deliver_frame (s.setSrc n { s.src n with pend := true }) n
      exact ⟨h, o, e⟩

/-- A level changes Hedgerow and what is sent. -/
theorem State.setLevel_frame (s : State) (n : Nat) (b : Bool) : ∃ h o, s.setLevel n b = { s with hrw := h, out := o } := by
  unfold State.setLevel
  dsimp only
  split
  · obtain ⟨h, o, e⟩ := State.edge_frame (s.setSrc n { s.src n with level := b }) n
    exact ⟨h, o, e⟩
  · exact ⟨_, s.out, rfl⟩

/-- An event changes Hedgerow and what is sent. -/
theorem State.event_frame (s : State) (k : Nat) : ∃ h o, s.event k = { s with hrw := h, out := o } := by
  unfold State.event
  obtain ⟨h, o, e⟩ := State.setLevel_frame s (eventSrc k) true
  rw [e]
  obtain ⟨h', o', e'⟩ := State.setLevel_frame { s with hrw := h, out := o } (eventSrc k) false
  exact ⟨h', o', e'⟩

/-- A held event changes Hedgerow and what is sent. -/
theorem State.raise_frame (s : State) (k : Nat) : ∃ h o, s.raise k = { s with hrw := h, out := o } := by
  unfold State.raise
  split
  · exact State.edge_frame _ _
  · exact State.setLevel_frame _ _ _

/-- Setting bits changes the bank alone. -/
theorem State.setRf_frame (s : State) (off hi lo v : Nat) : ∃ g, s.setRf off hi lo v = { s with regs := g } := ⟨_, rfl⟩

/-- The word an error leaves in its register when none was latched. -/
theorem State.first_frame (s : State) (r : ErrReg) (inst cause : Nat) :
    ∃ g, (((s.setRf r.off r.ih r.il inst).setRf r.off r.ch r.cl cause).setRf r.off r.mh r.ml 0).setRbit r.off 31 true
      = { s with regs := g } := by
  obtain ⟨g1, h1⟩ := State.setRf_frame s r.off r.ih r.il inst
  rw [h1]
  obtain ⟨g2, h2⟩ := State.setRf_frame { s with regs := g1 } r.off r.ch r.cl cause
  rw [h2]
  obtain ⟨g3, h3⟩ := State.setRf_frame { s with regs := g2 } r.off r.mh r.ml 0
  rw [h3]
  exact State.setRf_frame { s with regs := g3 } r.off 31 31 (b2n true)

/-- Latching an error changes its register, Hedgerow and what is sent. -/
theorem State.latch_frame (s : State) (r : ErrReg) (inst cause : Nat) :
    ∃ g h o, s.latch r inst cause = { s with regs := g, hrw := h, out := o } := by
  unfold State.latch
  split
  · exact ⟨_, s.hrw, s.out, rfl⟩
  · obtain ⟨g, hg⟩ := State.first_frame s r inst cause
    rw [hg]
    obtain ⟨h, o, e⟩ := State.setLevel_frame { s with regs := g } (eventSrc r.off) true
    exact ⟨g, h, o, e⟩

/-- A level leaves the bank. -/
theorem State.setLevel_regs (s : State) (n : Nat) (b : Bool) : (s.setLevel n b).regs = s.regs := by
  obtain ⟨h, o, e⟩ := State.setLevel_frame s n b
  rw [e]

/-- Latching an error leaves every other register. -/
theorem State.latch_reg_other (s : State) (r : ErrReg) (inst cause : Nat) {o : Nat} (h : o ≠ r.off) :
    (s.latch r inst cause).reg o = s.reg o := by
  unfold State.latch
  split
  · exact State.reg_bump_other _ _ _ _ h
  · rw [State.reg_congr (State.setLevel_regs _ _ _), State.reg_setRbit_other _ _ _ h, State.reg_setRf_other _ _ _ _ h,
      State.reg_setRf_other _ _ _ _ h, State.reg_setRf_other _ _ _ _ h]

/-- Latching an error keeps the bank's form. -/
theorem State.bankOk_latch (s : State) (r : ErrReg) (inst cause : Nat) (h : s.bankOk) : (s.latch r inst cause).bankOk := by
  unfold State.latch
  split
  · exact State.bankOk_bump _ _ _ _ _ h
  · exact State.bankOk_congr (State.setLevel_regs _ _ _) (State.bankOk_setRbit _ _ _ _ (State.bankOk_setRf _ _ _ _ _
      (State.bankOk_setRf _ _ _ _ _ (State.bankOk_setRf _ _ _ _ _ h))))

/-! ## Commands -/

/-- A command that starts runs its own step. -/
theorem State.cmd_starts {s : State} {eid code : Nat} {e : Entry} (h : s.Starts eid code e) (f : State → Entry → State) :
    s.cmd eid code f = f (s.markBegun eid) e := by
  unfold State.cmd
  rw [show s.startable eid code = some e from h]

/-- A command that starts and satisfies the test runs its own step. -/
theorem State.cmdIf_starts {s : State} {eid code : Nat} {e : Entry} (h : s.Starts eid code e) (p : Entry → Bool)
    (f : State → Entry → State) (hp : p e = true) : s.cmdIf eid code p f = f (s.markBegun eid) e := by
  unfold State.cmdIf
  rw [show s.startable eid code = some e from h]
  simp [hp]

/-- A command that does not start changes nothing. -/
theorem State.cmd_not {s : State} {eid code : Nat} (h : s.startable eid code = none) (f : State → Entry → State) :
    s.cmd eid code f = s := by
  unfold State.cmd
  rw [h]

/-- A command that starts is held under its number. -/
theorem State.Starts.eid_eq {s : State} {eid code : Nat} {e : Entry} (h : s.Starts eid code e) : e.eid = eid := by
  unfold State.Starts State.startable State.entry at h
  split at h
  · cases h
  · rename_i x hx
    split at h
    · cases h
      simpa using List.find?_some hx
    · cases h

end Sys2Proof.Machine
end

