-- ==== Sys2Proof/Laws/Fields.lean ====
section
/-! SUPPORT. Laws of bit fields, of byte strings, and of the fields of the register bank. -/

namespace Sys2Proof.Machine

open Sys2Proof

/-! ## Fields of a number, bit by bit -/

theorem testBit_fieldOf (w hi lo i : Nat) :
    (fieldOf w hi lo).testBit i = (decide (i < hi + 1 - lo) && w.testBit (lo + i)) := by
  unfold fieldOf
  rw [Nat.testBit_mod_two_pow, Nat.testBit_shiftRight]

/-- A number split at a bit. -/
theorem testBit_split (a b n i : Nat) (hb : b < 2 ^ n) :
    (a <<< n + b).testBit i = if i < n then b.testBit i else a.testBit (i - n) := by
  rw [Nat.shiftLeft_eq, Nat.mul_comm, Nat.testBit_two_pow_mul_add a hb]

/-- The bits of a number with a field replaced. -/
theorem testBit_withField (w hi lo v i : Nat) (h : lo ≤ hi) :
    (withField w hi lo v).testBit i =
      if i < lo then w.testBit i else if i ≤ hi then v.testBit (i - lo) else w.testBit i := by
  unfold withField
  have hm : w % 2 ^ lo < 2 ^ lo := Nat.mod_lt _ (Nat.two_pow_pos _)
  have hv : v % 2 ^ (hi + 1 - lo) < 2 ^ (hi + 1 - lo) := Nat.mod_lt _ (Nat.two_pow_pos _)
  have hs : (v % 2 ^ (hi + 1 - lo)) <<< lo + w % 2 ^ lo < 2 ^ (hi + 1) := by
    have e : 2 ^ (hi + 1) = 2 ^ (hi + 1 - lo) * 2 ^ lo := by rw [← Nat.pow_add]; congr 1; omega
    rw [Nat.shiftLeft_eq, e]
    calc _ < (v % 2 ^ (hi + 1 - lo)) * 2 ^ lo + 2 ^ lo := by omega
      _ = (v % 2 ^ (hi + 1 - lo) + 1) * 2 ^ lo := by rw [Nat.add_mul, Nat.one_mul]
      _ ≤ _ := Nat.mul_le_mul_right _ hv
  rw [Nat.add_assoc, testBit_split _ _ _ _ hs, testBit_split _ _ _ _ hm]
  by_cases h1 : i < lo
  · have h2 : i < hi + 1 := by omega
    simp [h1, h2, Nat.testBit_mod_two_pow]
  · by_cases h2 : i ≤ hi
    · have h3 : i < hi + 1 := by omega
      have h4 : i - lo < hi + 1 - lo := by omega
      simp [h1, h2, h3, Nat.testBit_mod_two_pow, h4]
    · have h3 : ¬ i < hi + 1 := by omega
      have h4 : hi + 1 + (i - (hi + 1)) = i := by omega
      simp [h1, h2, h3, Nat.testBit_shiftRight, h4]

/-- A field that is replaced reads as it was given. -/
theorem fieldOf_withField_same (w hi lo v : Nat) (h : lo ≤ hi) :
    fieldOf (withField w hi lo v) hi lo = v % 2 ^ (hi + 1 - lo) := by
  apply Nat.eq_of_testBit_eq
  intro i
  rw [testBit_fieldOf, testBit_withField _ _ _ _ _ h, Nat.testBit_mod_two_pow]
  by_cases hi' : i < hi + 1 - lo
  · have h1 : ¬ lo + i < lo := by omega
    have h2 : lo + i ≤ hi := by omega
    simp only [hi', h1, h2, decide_true, Bool.true_and, if_false, if_true, Nat.add_sub_cancel_left]
  · simp [hi']

/-- Replacing a field leaves the fields beside it. -/
theorem fieldOf_withField_other (w hi lo v hi' lo' : Nat) (h : lo ≤ hi) (hd : hi' < lo ∨ hi < lo') :
    fieldOf (withField w hi lo v) hi' lo' = fieldOf w hi' lo' := by
  apply Nat.eq_of_testBit_eq
  intro i
  rw [testBit_fieldOf, testBit_fieldOf, testBit_withField _ _ _ _ _ h]
  by_cases hi'' : i < hi' + 1 - lo'
  · by_cases h1 : lo' + i < lo
    · simp [h1]
    · have h2 : ¬ lo' + i ≤ hi := by omega
      simp [h1, h2]
  · simp [hi'']

/-- A word with a field replaced is still a word. -/
theorem withField_lt (w hi lo v : Nat) (h : lo ≤ hi) (hh : hi < 32) (hw : w < 2 ^ 32) : withField w hi lo v < 2 ^ 32 := by
  apply Nat.lt_pow_two_of_testBit
  intro i hi'
  rw [testBit_withField _ _ _ _ _ h]
  have h1 : ¬ i < lo := by omega
  have h2 : ¬ i ≤ hi := by omega
  simp only [h1, h2, if_false]
  exact Nat.testBit_lt_two_pow (Nat.lt_of_lt_of_le hw (Nat.pow_le_pow_right (by decide) hi'))

/-! ## Fields of the register bank -/

theorem State.toNat_setRf (s : State) (off hi lo v : Nat) (h : lo ≤ hi) (hh : hi < 32) :
    ((s.setRf off hi lo v).reg off).toNat = withField (s.reg off).toNat hi lo v := by
  unfold State.setRf
  rw [State.reg_setReg_same, BitVec.toNat_ofNat]
  exact Nat.mod_eq_of_lt (withField_lt _ _ _ _ h hh (s.reg off).isLt)

/-- A field that is set reads as it was set. -/
theorem State.rf_setRf_same (s : State) (off hi lo v : Nat) (h : lo ≤ hi) (hh : hi < 32) :
    (s.setRf off hi lo v).rf off hi lo = v % 2 ^ (hi + 1 - lo) := by
  unfold State.rf
  rw [State.toNat_setRf _ _ _ _ _ h hh, fieldOf_withField_same _ _ _ _ h]

/-- Setting a field leaves the fields beside it. -/
theorem State.rf_setRf_other (s : State) (off hi lo v hi' lo' : Nat) (h : lo ≤ hi) (hh : hi < 32) (hd : hi' < lo ∨ hi < lo') :
    (s.setRf off hi lo v).rf off hi' lo' = s.rf off hi' lo' := by
  unfold State.rf
  rw [State.toNat_setRf _ _ _ _ _ h hh, fieldOf_withField_other _ _ _ _ _ _ h hd]

/-- Setting a field of one register leaves the fields of the others. -/
theorem State.rf_setRf_reg (s : State) {off o : Nat} (hi lo v hi' lo' : Nat) (h : o ≠ off) :
    (s.setRf off hi lo v).rf o hi' lo' = s.rf o hi' lo' := by
  unfold State.rf
  rw [State.reg_setRf_other _ _ _ _ h]

/-- A bit that is set reads as it was set. -/
theorem State.rbit_setRbit_same (s : State) (off i : Nat) (b : Bool) (h : i < 32) : (s.setRbit off i b).rbit off i = b := by
  unfold State.rbit State.setRbit
  rw [State.rf_setRf_same _ _ _ _ _ (Nat.le_refl i) h]
  cases b <;> simp [b2n]

/-- Setting a bit leaves the other bits. -/
theorem State.rbit_setRbit_other (s : State) (off i j : Nat) (b : Bool) (h : i < 32) (hij : j ≠ i) :
    (s.setRbit off i b).rbit off j = s.rbit off j := by
  unfold State.rbit State.setRbit
  rw [State.rf_setRf_other _ _ _ _ _ _ _ (Nat.le_refl i) h (by omega)]

/-- A pair that is set reads as it was set. -/
theorem State.pair_setPair_same (s : State) (lo v : Nat) (h : v < 2 ^ 64) : (s.setPair lo v).pair lo = v := by
  unfold State.setPair State.pair
  rw [State.reg_setReg_same, State.reg_setReg_other _ _ (by omega), State.reg_setReg_same, BitVec.toNat_ofNat, BitVec.toNat_ofNat]
  omega

/-- A bank with the same table has the same fields. -/
theorem State.rf_congr {s t : State} (h : t.regs = s.regs) (o hi lo : Nat) : t.rf o hi lo = s.rf o hi lo := by
  unfold State.rf; rw [State.reg_congr h]

@[simp] theorem State.reg_emit (s : State) (x : Tx) (o : Nat) : (s.emit x).reg o = s.reg o := rfl
@[simp] theorem State.rf_emit (s : State) (x : Tx) (o hi lo : Nat) : (s.emit x).rf o hi lo = s.rf o hi lo := rfl
@[simp] theorem State.reg_setLevel (s : State) (n : Nat) (b : Bool) (o : Nat) : (s.setLevel n b).reg o = s.reg o :=
  State.reg_congr (State.setLevel_regs s n b) o

/-- A field is smaller than its size. -/
theorem State.rf_lt (s : State) (o hi lo : Nat) : s.rf o hi lo < 2 ^ (hi + 1 - lo) := fieldOf_lt _ _ _

/-- A count that is raised reads one more, up to all ones. -/
theorem State.rf_bump_same (s : State) (off hi lo n : Nat) (h : lo ≤ hi) (hh : hi < 32) :
    (s.bump off hi lo n).rf off hi lo = satAdd (2 ^ (hi + 1 - lo) - 1) (s.rf off hi lo) n := by
  unfold State.bump
  rw [State.rf_setRf_same _ _ _ _ _ h hh]
  refine Nat.mod_eq_of_lt ?_
  have := Nat.two_pow_pos (hi + 1 - lo)
  unfold satAdd
  omega

/-- Counting leaves the fields beside the count. -/
theorem State.rf_bump_other (s : State) (off hi lo n hi' lo' : Nat) (h : lo ≤ hi) (hh : hi < 32) (hd : hi' < lo ∨ hi < lo') :
    (s.bump off hi lo n).rf off hi' lo' = s.rf off hi' lo' := State.rf_setRf_other _ _ _ _ _ _ _ h hh hd

/-! ## Byte strings -/

@[simp] theorem leBytes_length (n v : Nat) : (leBytes n v).length = n := by
  induction n generalizing v with
  | zero => rfl
  | succ n ih => simp [leBytes, ih]

@[simp] theorem zeros_length (n : Nat) : (zeros n).length = n := List.length_replicate

@[simp] theorem padTo_length (bs : Bytes) (n : Nat) : (padTo bs n).length = n := by
  unfold padTo
  simp
  omega

/-- A string of the length asked for is not changed. -/
theorem padTo_of_length (bs : Bytes) (n : Nat) (h : bs.length = n) : padTo bs n = bs := by
  unfold padTo
  rw [h, Nat.sub_self]
  show (bs ++ []).take n = bs
  rw [List.append_nil, ← h, List.take_length]

/-- What little-endian bytes of a number read back as. -/
theorem leVal_leBytes (n v : Nat) (h : v < 256 ^ n) : leVal (leBytes n v) = v := by
  induction n generalizing v with
  | zero => simp [leBytes, leVal] at *; omega
  | succ n ih =>
    rw [leBytes, leVal, ih _ (Nat.div_lt_of_lt_mul (by rw [Nat.pow_succ] at h; omega)), BitVec.toNat_ofNat]
    omega

end Sys2Proof.Machine
end

