-- ==== Sys2Proof/Laws/Ezlin.lean ====
section
/-! SUPPORT. What a command's beginning and its reply do: the queue entry, the rings, and the parts of the state a reply
leaves. -/

namespace Sys2Proof.Machine

open Sys2Proof

/-! ## Queue entries -/

/-- An entry's reply does not depend on whether it has begun. -/
@[simp] theorem Entry.reply_begun (e : Entry) (b fin : Bool) (st dt : Nat) (res : Bytes) :
    ({ e with begun := b } : Entry).reply fin st dt res = e.reply fin st dt res := rfl

/-- An entry as it is held after a command has begun. -/
theorem State.entry_markBegun (s : State) (eid i : Nat) :
    (s.markBegun eid).entry i = (s.entry i).map fun e => if e.eid == eid then { e with begun := true } else e := by
  unfold State.entry State.markBegun State.onEz
  simp only [List.find?_map]
  congr 1
  congr 1
  funext e
  simp only [Function.comp]
  split <;> rfl

/-- A command that starts is held. -/
theorem State.Starts.entry {s : State} {eid code : Nat} {e : Entry} (h : s.Starts eid code e) : s.entry eid = some e := by
  unfold State.Starts State.startable at h
  split at h
  · cases h
  · rename_i x hx
    split at h
    · cases h; exact hx
    · cases h

/-- A command that has begun is held, begun. -/
theorem State.Starts.begun {s : State} {eid code : Nat} {e : Entry} (h : s.Starts eid code e) :
    (s.markBegun eid).entry eid = some { e with begun := true } := by
  rw [State.entry_markBegun, h.entry]
  simp [h.eid_eq]

/-- The final reply of a held command. -/
theorem State.finalOf_entry {s : State} {eid : Nat} {e : Entry} (h : s.entry eid = some e) (st dt : Nat) (res : Bytes) :
    s.finalOf eid st dt res = s.final e st dt res := by
  unfold State.finalOf; rw [h]

/-- The final reply of a held command, where the queue has not changed. -/
theorem State.finalOf_queue {s u : State} {eid : Nat} {e : Entry} (h : s.entry eid = some e) (hu : u.ez.queue = s.ez.queue)
    (st dt : Nat) (res : Bytes) : u.finalOf eid st dt res = u.final e st dt res :=
  State.finalOf_entry (by unfold State.entry at *; rw [hu]; exact h) st dt res

/-- The final reply of a command that has begun, where the queue has not changed since. -/
theorem State.Starts.finalOf {s u : State} {eid code : Nat} {e : Entry} (h : s.Starts eid code e)
    (hu : u.ez.queue = (s.markBegun eid).ez.queue) (st dt : Nat) (res : Bytes) :
    u.finalOf eid st dt res = u.final e st dt res := by
  have : u.entry eid = some { e with begun := true } := by
    unfold State.entry; rw [hu]; exact h.begun
  rw [State.finalOf_entry this]
  rfl

/-- A freed entry is not held. -/
theorem State.entry_freeEntry (s : State) (eid : Nat) : (s.freeEntry eid).entry eid = none := by
  unfold State.freeEntry State.entry State.onEz
  simp [List.find?_eq_none]

/-- Commands of a ring that are outstanding, after one has begun. -/
@[simp] theorem State.outstanding_markBegun (s : State) (eid r : Nat) : (s.markBegun eid).outstanding r = s.outstanding r := by
  unfold State.outstanding State.markBegun State.onEz
  simp only [List.any_map]
  congr 1
  funext e
  simp only [Function.comp]
  split <;> rfl

/-! ## Tables of the Ezlin part -/

@[simp] theorem State.inst_setInst_same (s : State) (k : Nat) (x : Inst) : (s.setInst k x).inst k = x := KMap.getD_put_same _ _ _ _

theorem State.inst_setInst_other (s : State) {k j : Nat} (x : Inst) (h : j ≠ k) : (s.setInst k x).inst j = s.inst j :=
  KMap.getD_put_other _ _ _ h

@[simp] theorem State.xq_setXq_same (s : State) (k : Nat) (x : Xq) : (s.setXq k x).xq k = x := KMap.getD_put_same _ _ _ _

theorem State.xq_setXq_other (s : State) {k j : Nat} (x : Xq) (h : j ≠ k) : (s.setXq k x).xq j = s.xq j :=
  KMap.getD_put_other _ _ _ h

@[simp] theorem State.sq_setSq_same (s : State) (r : Nat) (q : Sq) : (s.setSq r q).sq r = some q := KMap.get?_put_same _ _ _

theorem State.sq_setSq_other (s : State) {r j : Nat} (q : Sq) (h : j ≠ r) : (s.setSq r q).sq j = s.sq j :=
  KMap.get?_put_other _ _ h

@[simp] theorem State.cq_setCq_same (s : State) (c : Nat) (q : Cq) : (s.setCq c q).cq c = some q := KMap.get?_put_same _ _ _

theorem State.cq_setCq_other (s : State) {c j : Nat} (q : Cq) (h : j ≠ c) : (s.setCq c q).cq j = s.cq j :=
  KMap.get?_put_other _ _ h

@[simp] theorem State.sq_setCq (s : State) (c r : Nat) (q : Cq) : (s.setCq c q).sq r = s.sq r := rfl

@[simp] theorem State.cq_setSq (s : State) (c r : Nat) (q : Sq) : (s.setSq r q).cq c = s.cq c := rfl

/-! ## Replies -/

/-- An edge leaves everything but Hedgerow and what is sent. -/
theorem State.edge_regs (s : State) (n : Nat) : (s.edge n).regs = s.regs := by
  obtain ⟨h, o, e⟩ := State.edge_frame s n
  rw [e]

theorem State.edge_ez (s : State) (n : Nat) : (s.edge n).ez = s.ez := by
  obtain ⟨h, o, e⟩ := State.edge_frame s n
  rw [e]

end Sys2Proof.Machine
end

