-- ==== Sys2Proof/WellFormed.lean ====
section
/-! DEFINITION. Which commands are well formed: operands in the ranges the manual gives them. -/

namespace Sys2Proof

/-- An offset lies in BAR0, 4 MiB (R9). -/
def barOk (off : Nat) : Bool := decide (off < 2 ^ 22)

/-- The offset of an aligned 32-bit access (R9). -/
def offOk (off : Nat) : Bool := barOk off && off % 4 == 0

/-- The physical function or a virtual function 1 to 63 (R21). -/
def fnOk (fn : Nat) : Bool := decide (fn < 64)

/-- A vector of one of the 2,048 (R430). -/
def vecOk (v : Nat) : Bool := decide (v < 2048)

/-- A ring number 0 to 1,023 (R41). -/
def ringOk (r : Nat) : Bool := decide (r < 1024)

/-- A doorbell slot: a ring number of the physical function, or a slot of a virtual function (R44). -/
def slotOk (k : Nat) : Bool := decide (k < 1023)

/-- A source that exists (R423). -/
def srcOk (n : Nat) : Bool := decide (n < 0x630)

/-- A namespace number (R248). -/
def nsnOk (n : Nat) : Bool := decide (n < 1024)

/-- A set of Heather's tags (R413). -/
def setOk (n : Nat) : Bool := decide (n < 65536)

/-- An engine instance by block code 1 to 8 (R560). -/
def instOk (code i : Nat) : Bool := decide (1 ≤ code) && decide (code ≤ 8) && decide (i < 64)

/-- A read that returned bytes returned as many as were asked for. -/
def fetchLen (n : Nat) : Fetch → Bool
  | .ok b => b.length == n
  | _ => true

/-- An Ethernet frame of at most the largest MTU with its header, VLAN tag and FCS (R369). -/
def frameOk (b : Bytes) : Bool := decide (b.length ≤ 9238)

/-- A well-formed command. -/
def Instr.wf : Instr → Bool
  | .unsupportedAccess off _ => barOk off
  | .registerWrite off _ => offOk off
  | .pairLoWrite off _ => offOk off
  | .pairHiWrite off _ => offOk off
  | .pairLoRead off => offOk off
  | .rcFieldRead off => offOk off
  | .sqTailDoorbell fn slot _ => fnOk fn && slotOk slot
  | .cqHeadDoorbell fn slot _ => fnOk fn && slotOk slot
  | .admCtrlEnable _ => true
  | .admCtrlDisable _ => true
  | .packetConsume pkt _ _ => fetchLen 64 pkt
  | .pendingReply _ => true
  | .sessionNonce _ => true
  | .nonceExpiry fn ring => fnOk fn && ringOk ring
  | .sessionOpen _ => true
  | .backoffExpiry _ => true
  | .sessionRenew _ => true
  | .sessionExpiry _ => true
  | .sessionClose _ => true
  | .sessionCloseComplete _ => true
  | .roleKeySet _ _ => true
  | .ringCreate _ => true
  | .ringDelete _ => true
  | .ringReset _ => true
  | .ringDrainComplete ring => ringOk ring
  | .ringQuery _ => true
  | .engineExpertEnter _ => true
  | .handoverDrainComplete code inst => instOk code inst
  | .handoverTimeout code inst => instOk code inst
  | .engineExpertReturn _ => true
  | .returnComplete code inst _ _ => instOk code inst
  | .engineQuery _ => true
  | .engineDisable _ => true
  | .disableDrainComplete code inst => instOk code inst
  | .engineEnable _ => true
  | .xqEnable off _ => offOk off
  | .xqDisable off _ => offOk off
  | .xqTailWrite off _ => offOk off
  | .xcqHeadWrite off _ => offOk off
  | .paramGet _ => true
  | .paramSet _ _ => true
  | .paramSetBatch _ _ => true
  | .paramInfo _ => true
  | .put _ _ _ _ => true
  | .putInline _ _ _ _ => true
  | .putFixed _ _ _ _ => true
  | .putCommit _ _ => true
  | .putIdleTimeout _ => true
  | .get _ _ _ _ _ => true
  | .getRange _ _ _ _ _ => true
  | .deleteRef _ => true
  | .objectStat _ => true
  | .tenantCreate _ => true
  | .tenantDestroy _ => true
  | .policyCreate _ => true
  | .policyDestroy _ => true
  | .tombstoneReclaim _ => true
  | .swdChunk _ desc _ _ => fetchLen 64 desc
  | .swdLookup _ desc _ _ => fetchLen 64 desc
  | .swdVerify _ desc _ _ _ => fetchLen 64 desc
  | .grsCompress _ desc _ _ _ => fetchLen 64 desc
  | .grsDecompress _ desc _ _ _ => fetchLen 64 desc
  | .tenantKeySet _ => true
  | .retireComplete _ => true
  | .keyloadKey _ => true
  | .keyloadHwk _ => true
  | .keyloadZeroize _ => true
  | .keySlotFault _ => true
  | .brkXtsEncrypt _ desc _ _ => fetchLen 64 desc
  | .brkXtsDecrypt _ desc _ _ => fetchLen 64 desc
  | .brkGcmEncrypt _ desc _ _ _ => fetchLen 64 desc
  | .brkGcmDecrypt _ desc _ _ _ => fetchLen 64 desc
  | .brkUnwrap _ desc _ _ => fetchLen 64 desc
  | .thsClaim => true
  | .thsStart _ _ => true
  | .thsGo _ _ => true
  | .feedComplete _ _ _ => true
  | .feedFault _ _ _ => true
  | .thsCompare _ _ _ _ => true
  | .thsReset _ _ => true
  | .thsRelease _ _ => true
  | .groupCreate _ _ => true
  | .groupDestroy _ => true
  | .groupQuery _ => true
  | .memberAttach _ _ => true
  | .domainMove _ => true
  | .domainMoveDrained _ => true
  | .domainMoveSealed _ => true
  | .domainMoveScanDone _ => true
  | .domainMoveLabelsDone _ => true
  | .fullStripeWrite _ _ => true
  | .stripeSeal _ _ => true
  | .journalFillSeal _ => true
  | .smallWrite _ _ => true
  | .smallWriteDone _ => true
  | .memberReadComplete nsn _ _ _ _ _ _ _ => nsnOk nsn
  | .tskEncode _ desc _ _ => fetchLen 64 desc
  | .tskDecode _ desc _ _ => fetchLen 64 desc
  | .tskWalk _ desc _ _ => fetchLen 64 desc
  | .tskRead _ desc _ _ => fetchLen 64 desc
  | .journalRecordComplete _ _ => true
  | .journalRelease _ _ => true
  | .journalSpaceTimeout _ _ => true
  | .journalCopyLost _ _ => true
  | .journalCopyPlace _ => true
  | .journalCopyValid _ _ => true
  | .journalCopyTimeout _ => true
  | .samefdReplace _ => true
  | .autoSpareReplace _ => true
  | .memberReplace _ => true
  | .memberRebuild _ => true
  | .rebuildStep _ _ _ _ => true
  | .lostListRead _ _ => true
  | .reshapeStart _ _ => true
  | .reshapeStep _ _ => true
  | .reshapeZeroStep _ => true
  | .reshapeComplete _ => true
  | .reshapeResume _ => true
  | .reshapeQuery _ => true
  | .nvmeCompletion _ _ => true
  | .nvmeCommandTimeout _ => true
  | .abortTimeout _ => true
  | .controllerReadyTimeout _ => true
  | .dpcTrigger _ _ => true
  | .missingMark _ => true
  | .dpcRelease _ => true
  | .insertionSettled _ _ _ _ _ => true
  | .anaChange nsn _ => nsnOk nsn
  | .portError _ _ => true
  | .nsUnbind nsn => nsnOk nsn
  | .tapeMigrate _ => true
  | .tapeRecall _ => true
  | .tapeVerify _ => true
  | .tapeJobStart _ => true
  | .cmRead _ _ => true
  | .cmWrite _ _ => true
  | .tapeStatus _ => true
  | .writeStart _ _ => true
  | .dataSetBoundary _ _ => true
  | .frameVerdict _ _ _ _ _ => true
  | .writeGap _ => true
  | .shortBufferStop _ => true
  | .appendResume _ => true
  | .wrapEnd _ _ => true
  | .cmEodUpdate _ _ _ => true
  | .extentTapeCommit _ _ => true
  | .recallCommit _ _ _ => true
  | .rampComplete _ => true
  | .wdrEncode _ desc _ _ => fetchLen 64 desc
  | .wdrWriteDs _ desc _ _ => fetchLen 64 desc
  | .wdrReadDs _ desc _ _ => fetchLen 64 desc
  | .wdrLocate _ desc _ _ => fetchLen 64 desc
  | .trackPreamble _ _ => true
  | .frameReceived _ _ _ => true
  | .elasticSlip _ _ => true
  | .lockLoss _ _ => true
  | .speedOkChange _ _ => true
  | .recoveryDecode _ => true
  | .reread _ => true
  | .zoneBoundaryCross _ _ _ => true
  | .activityClassChange => true
  | .recalibrate _ => true
  | .forcedRecal _ => true
  | .tapeCalibrate _ => true
  | .calibrationComplete _ src _ => srcOk src
  | .servoSample _ _ _ => true
  | .servoLock _ => true
  | .servoUnlock _ => true
  | .positionWord _ _ => true
  | .reelSetpointFrame _ => true
  | .reelStatusFrame _ _ _ _ _ _ _ _ _ => true
  | .reelLinkSilent _ => true
  | .writeGateClose _ _ => true
  | .writeGateReopen _ _ => true
  | .cartridgeMount _ _ => true
  | .mountLoadTimeout _ => true
  | .cartridgeUnload _ => true
  | .connOpen _ => true
  | .connClose _ => true
  | .connQuery _ => true
  | .spaceCreate _ => true
  | .spaceRevoke _ => true
  | .revokeComplete _ => true
  | .replLinkCreate _ => true
  | .grmpWrite _ frame _ => frameOk frame
  | .grmpReadReq _ frame _ => frameOk frame
  | .grmpReadResp _ frame => frameOk frame
  | .grmpSend _ frame => frameOk frame
  | .grmpAck _ frame => frameOk frame
  | .grmpNak _ frame => frameOk frame
  | .grmpHeartbeat _ frame => frameOk frame
  | .grmpHello _ frame => frameOk frame
  | .grmpClose _ frame => frameOk frame
  | .helloTimer _ => true
  | .heartbeatTransmit => true
  | .ackTimer _ => true
  | .retransmitTimeout _ => true
  | .busyResend _ => true
  | .heartbeatTimeout _ => true
  | .pathReturn _ => true
  | .stateFetchComplete _ _ _ => true
  | .peerReleaseMsg _ => true
  | .nsbind _ => true
  | .offer _ => true
  | .want _ _ => true
  | .records _ => true
  | .done _ => true
  | .replDelete _ => true
  | .replShip _ => true
  | .replRetry _ => true
  | .drvWrite _ desc _ => fetchLen 64 desc
  | .drvRead _ desc _ => fetchLen 64 desc
  | .drvSend _ desc _ => fetchLen 64 desc
  | .chainWaitSatisfied _ _ => true
  | .chainTimeout _ => true
  | .drvXcount _ _ => true
  | .pathStatus _ => true
  | .subportUp _ _ => true
  | .subportDown _ _ _ => true
  | .subportReturn _ _ => true
  | .neighbourDiscovery _ _ frame => frameOk frame
  | .echoRequest _ _ frame => frameOk frame
  | .arpRequest _ _ frame => frameOk frame
  | .hbtPulse => true
  | .hbtEdge _ => true
  | .hbtTimeout => true
  | .hbtStuck => true
  | .domainClaim _ => true
  | .hlkPull _ _ => true
  | .hlkReadback _ _ => true
  | .claimWaitTimeout _ => true
  | .leaseGrantTimeout _ => true
  | .domainRelease _ => true
  | .domainReleaseDrained _ => true
  | .handover => true
  | .claimed => true
  | .headStatus _ => true
  | .watchdogExpiry => true
  | .leaseRenew => true
  | .leaseLapse _ => true
  | .peerFailed => true
  | .fenceExpiry _ => true
  | .replayComplete _ _ => true
  | .indexLoadComplete _ => true
  | .yield => true
  | .join => true
  | .resync => true
  | .resyncDone => true
  | .failbackHoldoffExpiry => true
  | .memFill _ => true
  | .memFillComplete _ => true
  | .ddrTrainingComplete _ _ _ _ _ => true
  | .channelRetrain _ _ => true
  | .mergeDrain _ _ _ => true
  | .uncorrectableRead _ _ _ _ => true
  | .hthInvalidate _ => true
  | .invalidateComplete => true
  | .hthEnable _ => true
  | .hthDisable _ => true
  | .cleanComplete => true
  | .hthPreloadLock _ => true
  | .preloadComplete _ => true
  | .hthWayPower _ => true
  | .hthRangeInvalidate _ => true
  | .tagParityError _ set _ => setOk set
  | .sourceEdge src _ => srcOk src
  | .hrwClaim _ _ => true
  | .hrwComplete _ _ _ => true
  | .hrwPendSet _ _ _ => true
  | .hrwPendClr _ _ _ => true
  | .hrwMaskSet _ _ _ => true
  | .hrwMaskClr _ _ _ => true
  | .hrwSrcRoute _ _ => true
  | .hrwMod fn vec _ => fnOk fn && vecOk vec
  | .batchCountReached fn vec => fnOk fn && vecOk vec
  | .batchTimerExpiry fn vec => fnOk fn && vecOk vec
  | .retargetWithdraw src => srcOk src
  | .wakeDeadlineExpiry src => srcOk src
  | .targetWake _ _ => true
  | .pmcsrD3hot fn _ => fnOk fn
  | .pmeTurnOff => true
  | .powerOnReset => true
  | .coldReset => true
  | .crpResetWarm _ => true
  | .crpResetCold _ => true
  | .hostLinkReset => true
  | .functionLevelReset fn => fnOk fn
  | .clockFault _ _ => true
  | .blockIdleGate block inst => instOk block inst
  | .blockUngate block inst => instOk block inst
  | .pstateP2Request _ => true
  | .pstateP0Request _ => true
  | .alwaysOnWake => true
  | .corePgRise => true
  | .corePgTimeout => true
  | .corePgFall => true
  | .socPgFall => true
  | .thermalSample _ _ => true
  | .thermalTrip => true
  | .tripEnd => true
  | .tickBoundary _ => true
  | .tickCheckpoint => true
  | .bgBudgetSet _ => true
  | .scrubStart _ _ => true
  | .patrolScrub _ _ => true
  | .stripeVerify _ _ _ _ => true
  | .tapeIdleVerify _ => true
  | .smartRead _ _ => true
  | .telemetryConfig _ => true
  | .telemetrySnapshot => true
  | .oobPacket _ _ => true
  | .winWrite _ _ _ => true
  | .winRead _ _ _ => true
  | .oobFrameAnswer _ frame => frameOk frame
  | .smbusReadStatus => true
  | .smbusReadTemp => true
  | .smbusReadFeTemp _ => true
  | .smbusReadImon => true
  | .smbusReadHead => true
  | .smbusReadRstCause => true
  | .smbusReadUnitId => true
  | .smbusReadVersion => true
  | .smbusColdReset _ _ => true
  | .smbusWarmReset _ _ => true
  | .diagSelftest _ _ => true
  | .diagLoopback _ _ _ => true
  | .skylarkRecord _ => true
  | .sklRead _ _ _ => true
  | .sklClear _ => true
  | .sklRsel _ _ => true
  | .updPiece _ _ _ => true
  | .updStatus _ => true
  | .updVerify _ _ => true
  | .updActivate _ => true
  | .activateReset => true
  | .updFallback _ => true
  | .trialSelftest _ => true
  | .attestReport _ _ => true
  | .socPgRise => true
  | .sysResetNRelease => true
  | .perstNRelease => true
  | .powerLoss => true
  | .pllRelock _ => true
  | .corePwrEnRetry => true
  | .msixVectorUnmask fn _ => fnOk fn
  | .unexpectedFrame _ _ => true

end Sys2Proof
end

