-- ==== Sys2Proof/Tests/Slice0.lean ====
section
/-! SUPPORT. Tests: for each statement that has hypotheses, states and operands that meet them, clause by clause; terms each
well-formedness check refuses; values of the spec's worked examples and of the standards its rules name. -/

set_option Elab.async false

open Sys2Proof Sys2Proof.Machine

namespace Sys2Proof.Tests

/-- A command packet (R52). -/
def pkt (op flags tag h : Nat) (par : Bytes) : Bytes :=
  leBytes 2 op ++ leBytes 2 flags ++ zeros 4 ++ leBytes 4 tag ++ leBytes 8 h ++ padTo par 40 ++ zeros 4

/-- A consumed command, entry 1 of ring 2. -/
def ent (op flags h : Nat) (par blk : Bytes) : Entry :=
  ⟨1, 2, 0, isHwOp op, pkt op flags 0 h par, blk, 0, false, false, true, 0, 0, 0, none, none⟩

/-- The state with one command held. -/
def held (s : State) (e : Entry) : State := s.onEz fun z => { z with queue := [e] }

/-- A command with a handle and parameters in the packet, held after reset. -/
def cmdAt (s : State) (op h : Nat) (par : Bytes) : State := held s (ent op 0 h par [])

/-- The reset state with the boundary count set. -/
def later (n : Nat) : State := { State.reset with clk := n }

/-- A part that is READY. -/
def up : State := { State.reset with crp := { State.reset.crp with boot := .ready } }


/-! ## Witnesses: each shows states and operands that meet the hypotheses of a statement, clause by clause -/

theorem witness_StepRunsFront : ∃ s : State, s.pending = [.hbtPulse, .pmeTurnOff] := ⟨{ up with pending := [.hbtPulse, .pmeTurnOff] }, rfl⟩

theorem witness_EmptyQueueIdles : ∃ s : State, s.pending = [] := ⟨State.reset, rfl⟩

theorem witness_AccessesWithoutARegister :
    (∃ s : State, s.rbit Reg.glbAccErr 31 = false) ∧ (∃ s : State, s.rbit Reg.glbAccErr 31 = true)
    ∧ ((0x3FFFFC : Nat) % 4 = 0 ∧ (0x3FFFFC : Nat) < 2 ^ 22 ∧ regAt 0x3FFFFC = none) :=
  ⟨⟨State.reset, by decide +kernel⟩, ⟨State.reset.setRbit Reg.glbAccErr 31 true, by decide +kernel⟩, by decide +kernel⟩

theorem witness_RegisterWrites :
    (∃ (s : State) (off hi : Nat), s.crp.warmEnd = none ∧ (off, hi) ∈ [(Reg.fptNsSel, 9), (Reg.hrwSrcSel, 11), (Reg.stlSel, 4)])
    ∧ (∃ (s : State) (off : Nat) (lo : W32), s.crp.warmEnd = none ∧ (off = Reg.fldAdmSqBaseLo ∨ off = Reg.fldAdmCqBaseLo)
      ∧ KMap.get? s.staged off = some lo)
    ∧ (∃ s u t : State, s.crp.warmEnd = none ∧ u.crp.warmEnd = none ∧ u.latched = t.latched) :=
  ⟨⟨State.reset, Reg.stlSel, 4, by decide +kernel⟩,
    ⟨{ State.reset with staged := [(Reg.fldAdmCqBaseLo, 0xFFFFF000)] }, Reg.fldAdmCqBaseLo, 0xFFFFF000, by decide +kernel⟩,
    ⟨State.reset, State.reset, State.reset, by decide +kernel⟩⟩

theorem witness_ReadClearsCounters : ∃ (s : State) (off : Nat), s.crp.warmEnd = none ∧
    off ∈ [Reg.fldTickStat, Reg.fldTelStat, Reg.swdCntLenerr, Reg.grsCntEvents, Reg.brkCntEvents, Reg.tskCntTagerr,
      Reg.drvCntNak, Reg.dhdCnt, Reg.memSramEcc, Reg.hthCntEvents, Reg.hrwCntEvents] :=
  ⟨State.reset, Reg.hrwCntEvents, by decide +kernel⟩

/-- Ring 2 of the physical function, of 16 packets, with completion ring 7. -/
def ring2 (log2 : Nat) : State := State.reset.onEz fun z =>
  { z with sqs := [(2, ⟨0, 2, 0x1000, log2, 3, 0, 0, 7, []⟩)], cqs := [(7, Cq.fresh 0x2000 log2 0)] }

theorem witness_FinalReplyIsWritten : ∃ (s : State) (e : Entry) (q : Sq) (c : Cq), e.ring ≠ 1023 ∧ s.sq e.ring = some q
    ∧ s.cq q.cq = some c ∧ c.usable = true ∧ c.held = [] ∧ c.unread < 2 ^ c.log2 ∧ e.replyOk = true :=
  ⟨ring2 4, ent 3 0 0 [] [], _, _, by decide, rfl, rfl, rfl, rfl, by decide, rfl⟩

theorem witness_ReplyFrame : ∃ r : Reply, r.ok = true ∧ r.ring ≠ 1023 := ⟨(ent 3 0 0 [] []).reply true 0 0 [], by decide⟩

theorem witness_Doorbells :
    (∃ s : State, s.doorbellRing 63 63 = none)
    ∧ (∃ (s : State) (q : Sq) (c : Cq), s.doorbellRing 0 2 = some 2 ∧ s.sq 2 = some q ∧ ((2 : Nat) ≠ 0 ∨ s.rbit Reg.fldAdmCtrl 0 = true)
      ∧ fieldOf 0xFFFF 15 0 < 2 ^ q.log2 ∧ s.cq q.cq = some c ∧ c.held = [] ∧ fieldOf 0xFFFF 15 0 < 2 ^ c.log2)
    ∧ (∃ (s : State) (q : Sq) (c : Cq), s.doorbellRing 0 2 = some 2 ∧ s.sq 2 = some q ∧ ((2 : Nat) ≠ 0 ∨ s.rbit Reg.fldAdmCtrl 0 = true)
      ∧ 2 ^ q.log2 ≤ fieldOf 16 15 0 ∧ s.rbit Reg.fldRingErr 31 = false ∧ s.cq q.cq = some c ∧ c.held = []
      ∧ 2 ^ c.log2 ≤ fieldOf 16 15 0 ∧ s.boundRings q.cq = [2]) :=
  ⟨⟨State.reset, by decide +kernel⟩, ⟨ring2 16, _, _, rfl, rfl, by decide, by decide, rfl, rfl, by decide⟩,
    ⟨ring2 4, _, _, rfl, rfl, by decide, by decide, by decide +kernel, rfl, rfl, by decide, rfl⟩⟩

/-- Ring 0 enabled, with 4 as both sizes' logarithm. -/
def ring0 : State := (up.setRbit Reg.fldStatus 0 true).setRf Reg.fldAdmCtrl 0 0 1 |>.onEz fun z =>
  { z with sqs := [(0, ⟨0, 0, 0x1000, 4, 1, 0, 0, 0, []⟩), (3, ⟨0, 3, 0x5000, 4, 0, 0, 0, 1, []⟩)]
           cqs := [(0, Cq.fresh 0x2000 4 0xFFFF), (1, Cq.fresh 0x6000 4 0)] }

theorem witness_RingCommands :
    (∃ s : State, s.ready = true ∧ s.rbit Reg.fldAdmCtrl 0 = false ∧ s.sq 0 = none ∧ (4 ≤ (16 : Nat) ∧ (16 : Nat) ≤ 16)
      ∧ s.rbit Reg.fldRingErr 31 = false)
    ∧ (∃ (s : State) (q : Sq), s.rbit Reg.fldAdmCtrl 0 = true ∧ s.sq 0 = some q ∧ q.drains = [] ∧ s.outstanding 0 = false)
    ∧ (∃ (s : State) (e : Entry) (r : Nat), s.Starts 1 0x0010 e ∧ (s.markBegun 1).ringParamsBad e = false ∧ e.p 22 1 = 0
      ∧ e.p 18 2 = 0xFFFF ∧ (e.p 20 2 = 0xFFFF ∨ e.p 20 2 < (s.markBegun 1).par Par.pfVectors)
      ∧ lowestFree (s.ez.sqs.map (·.1)) 1 1022 = some r)
    ∧ (∀ code ∈ [0x0011, 0x0012], ∃ (s : State) (e : Entry) (q : Sq), s.Starts 1 code e ∧ e.p 0 2 = 3
      ∧ (s.markBegun 1).ringUnknown e = false ∧ 3 ≠ e.ring ∧ s.sq 3 = some q ∧ q.drains = [] ∧ s.outstanding 3 = false)
    ∧ (∃ (s : State) (e : Entry) (q : Sq), s.entry 1 = some e ∧ s.sq 3 = some q ∧ q.drains = [(.reset, 1)] ∧ s.outstanding 3 = false)
    ∧ (∃ (s : State) (e : Entry) (q : Sq) (c : Cq), s.Starts 1 0x0013 e ∧ (s.markBegun 1).ringUnknown e = false
      ∧ (e.ofVf = true → e.p 0 2 ≠ 0) ∧ s.sq (e.p 0 2) = some q ∧ s.cq q.cq = some c) := by
  refine ⟨⟨up.setRbit Reg.fldStatus 0 true, by decide +kernel⟩, ⟨ring0, _, by decide +kernel, rfl, rfl, rfl⟩,
    ⟨cmdAt ring0 0x0010 0 (zeros 16 ++ [4, 16, 0xFF, 0xFF, 0xFF, 0xFF]), _, 1, rfl, by decide +kernel, rfl, rfl, Or.inl rfl, rfl⟩, ?_,
    ⟨(cmdAt ring0 0x0012 0 [3]).onEz fun z => { z with sqs := [(3, ⟨0, 3, 0x5000, 4, 0, 0, 0, 1, [(.reset, 1)]⟩)] }, _, _, rfl, rfl, rfl, rfl⟩,
    ⟨cmdAt ring0 0x0013 0 [3], _, _, _, rfl, rfl, by decide +kernel, rfl, rfl⟩⟩
  intro code h
  simp only [List.mem_cons, List.not_mem_nil, or_false] at h
  rcases h with rfl | rfl
  · exact ⟨cmdAt ring0 0x0011 0 [3], _, _, rfl, rfl, rfl, by decide, rfl, rfl, rfl⟩
  · exact ⟨cmdAt ring0 0x0012 0 [3], _, _, rfl, rfl, rfl, by decide, rfl, rfl, rfl⟩


/-- Ring 1,023 with one packet of the out-of-band port. -/
def oobWaiting : State := (State.reset.openOob).onFld fun f => { f with oobQ := [(pkt 0x0003 0 0 0 [], 7)] }

theorem witness_PacketConsumption :
    (∃ (s : State) (r : Nat) (z : Ez) (q : Sq) (p : Bytes), s.arbitrate = some (r, z) ∧ r ≠ 1023 ∧ s.sq r = some q ∧ p.length = 64
      ∧ s.queueRoom (isHwOp (pktOp p)) = true ∧ (pktFlag p 2 = false ∨ s.outstanding r = false))
    ∧ (∃ (s : State) (z : Ez) (q : Sq) (p : Bytes) (xid : Nat) (rest : List (Bytes × Nat)), s.arbitrate = some (1023, z)
      ∧ s.sq 1023 = some q ∧ s.fld.oobQ = (p, xid) :: rest ∧ (∀ h ∈ s.fld.heldOob, h.pkt ≠ p) ∧ s.queueRoom (isHwOp (pktOp p)) = true
      ∧ (pktFlag p 2 = false ∨ s.outstanding 1023 = false)) :=
  ⟨⟨ring2 4, 2, _, _, pkt 0x0003 0 0 0 [], rfl, by decide, rfl, by decide +kernel, by decide +kernel, Or.inl (by decide +kernel)⟩,
    ⟨oobWaiting, _, _, _, _, _, rfl, rfl, rfl, by decide +kernel, by decide +kernel, Or.inl (by decide +kernel)⟩⟩

theorem witness_PendingReply :
    (∃ (s : State) (e : Entry), s.entry 1 = some e ∧ e.at_ + 3 ≤ s.clk ∧ e.hw = false ∧ e.pended = false ∧ pktFlag e.pkt 4 = false
      ∧ s.finalHeld 1 = false)
    ∧ (∃ (s : State) (e : Entry), s.entry 1 = some e ∧ s.finalHeld 1 = true)
    ∧ (∃ (s : State) (e : Entry), s.entry 1 = some e ∧ e.hw = true) ∧ (∃ (s : State) (e : Entry), s.entry 1 = some e ∧ pktFlag e.pkt 4 = true)
    ∧ (∃ (s : State) (e : Entry), s.entry 1 = some e ∧ e.pended = true) ∧ (∃ (s : State) (e : Entry), s.entry 1 = some e ∧ s.clk < e.at_ + 3) :=
  ⟨⟨cmdAt (later 3) 3 0 [], _, rfl, by decide +kernel⟩,
    ⟨(cmdAt (later 3) 3 0 []).onEz fun z => { z with cqs := [(7, { Cq.fresh 0x2000 4 0 with held := [(ent 3 0 0 [] []).reply true 0 0 []] })] },
      _, rfl, by decide +kernel⟩,
    ⟨cmdAt (later 3) 0x0101 0 [], _, rfl, rfl⟩,
    ⟨held (later 3) (ent 3 16 0 [] []), _, rfl, by decide +kernel⟩,
    ⟨held (later 3) { ent 3 0 0 [] [] with pended := true }, _, rfl, rfl⟩, ⟨cmdAt (later 2) 3 0 [], _, rfl, by decide +kernel⟩⟩

/-- A state with an operator's session 9 of the physical function, the nonce of ring 2 and an operator's key. -/
def withSession : State := (later 1).onEz fun z =>
  { z with sessions := [(9, ⟨0, 1, 0, false, false, none, []⟩)], nonces := [⟨0, 2, zeros 16, 0⟩], roleKeys := [(1, zeros 32)] }

theorem witness_Sessions :
    (∃ (s : State) (e : Entry), s.Starts 1 0x0001 e) ∧ (∃ s : State, s.nonce 0 2 = none)
    ∧ (∃ (s : State) (e : Entry) (n : Nonce) (key : Bytes), (1 ≤ e.p 0 1 ∧ e.p 0 1 ≤ 3 ∧ e.ring ≠ 1023) ∧ s.Starts 1 0x0002 e
      ∧ s.nonce e.fn e.ring = some n ∧ KMap.get? s.ez.roleKeys (e.p 0 1) = some key ∧ s.ez.backoff.getD (e.p 0 1 - 1) 0 ≤ e.at_
      ∧ s.ez.sessions.length < 256)
    ∧ (∃ (s : State) (d : HeldDenied) (e : Entry), s.entry 1 = some e ∧ e.ring ≠ 1023
      ∧ s.ez.denied.find? (fun d => d.eid == 1) = some d ∧ d.until_ ≤ s.clk)
    ∧ (∃ (s : State) (e : Entry), s.Starts 1 0x0003 e)
    ∧ (∃ (s : State) (x : Session), KMap.get? s.ez.sessions 9 = some x ∧ x.closing = false
      ∧ x.lastUse + 3 * (1000 * s.par Par.sessionIdleS) ≤ s.clk)
    ∧ (∃ (s : State) (x : Session), KMap.get? s.ez.sessions 9 = some x
      ∧ (x.closing = true ∨ s.clk < x.lastUse + 3 * (1000 * s.par Par.sessionIdleS)))
    ∧ (∃ (s : State) (e : Entry) (x : Session), s.Starts 1 0x0004 e ∧ KMap.get? s.ez.sessions e.tag = some x ∧ x.closing = false
      ∧ ((s.markBegun 1).admitted fun y => y.tag == e.tag && y.fn == e.fn && y.eid != 1) = []
      ∧ (∀ k ∈ s.ez.inst, k.2.enterEid ≠ 1))
    ∧ (∃ (s : State) (e : Entry) (x : Session), s.ez.sessions.find? (fun p => p.2.closeEid == some 1) = some (9, x)
      ∧ KMap.get? s.ez.sessions 9 = some x ∧ s.allDone x.waits = true ∧ s.entry 1 = some e) := by
  refine ⟨⟨cmdAt State.reset 1 0 [], _, rfl⟩, ⟨State.reset, rfl⟩, ⟨cmdAt withSession 2 0 [1], _, _, _, by decide +kernel, rfl, rfl, rfl,
    by decide +kernel⟩, ⟨(cmdAt (later 3000) 2 0 [1]).onEz fun z => { z with denied := [⟨1, 2, 1, 3000⟩] }, _, _, rfl, by decide, rfl, by decide⟩,
    ⟨cmdAt State.reset 3 0 [], _, rfl⟩, ⟨{ withSession with clk := 1800000 }, _, rfl, rfl, by decide +kernel⟩,
    ⟨{ withSession with clk := 1799999 }, _, rfl, by decide +kernel⟩,
    ⟨held withSession { ent 4 0 0 [] [] with pkt := pkt 4 0 9 0 [] }, _, _, rfl, rfl, rfl, by decide +kernel⟩,
    ⟨(cmdAt withSession 4 0 []).onEz fun z => { z with sessions := [(9, ⟨0, 1, 0, false, true, some 1, []⟩)] }, _, _, rfl, rfl, rfl, rfl⟩⟩

theorem witness_RoleKeySet :
    (∃ (s : State) (e : Entry), s.Starts 1 0x0005 e ∧ 1 ≤ e.p 0 1 ∧ e.p 0 1 ≤ 4)
    ∧ (∃ (s : State) (e : Entry), s.Starts 1 0x0005 e ∧ (e.p 0 1 < 1 ∨ 4 < e.p 0 1)) :=
  ⟨⟨cmdAt State.reset 5 0 [4], _, rfl, by decide +kernel⟩, ⟨cmdAt State.reset 5 0 [5], _, rfl, by decide +kernel⟩⟩

/-- Instance `i` of block `code` in a control state, held by entry 1. -/
def instAt (s : State) (code i : Nat) (x : Inst) : State := s.onEz fun z => { z with inst := KMap.put z.inst (instKey code i) x }

theorem witness_EngineInstances :
    (∃ (s : State) (e : Entry), s.Starts 1 0x4001 e ∧ (s.markBegun 1).targetOk e false = true ∧ (s.inst e.target).ctl = .basic)
    ∧ (∃ (s : State) (e : Entry) (code i : Nat), code ≠ 5 ∧ (s.inst (instKey code i)).ctl = .handing
      ∧ s.entry (s.inst (instKey code i)).enterEid = some e ∧ s.basicWork (instKey code i) = false)
    ∧ (∃ (s : State) (e : Entry) (code i : Nat), code ≠ 5 ∧ (s.inst (instKey code i)).ctl = .handing
      ∧ s.entry (s.inst (instKey code i)).enterEid = some e ∧ s.basicWork (instKey code i) = true
      ∧ (s.inst (instKey code i)).t0 + 300 ≤ s.clk)
    ∧ (∃ (s : State) (e : Entry), s.Starts 1 0x4002 e ∧ (s.markBegun 1).targetOk e false = true ∧ (s.inst e.target).ctl = .expert
      ∧ (s.inst e.target).holder = e.tag)
    ∧ (∃ (s : State) (e : Entry) (code i : Nat), code ≠ 5 ∧ code ≠ 7 ∧ (s.inst (instKey code i)).ctl = .returning
      ∧ (s.inst (instKey code i)).retEids = [1] ∧ s.entry 1 = some e)
    ∧ (∃ (s : State) (e : Entry), s.Starts 1 0x4003 e ∧ (s.markBegun 1).targetOk e true = true)
    ∧ (∃ (s : State) (e : Entry), s.Starts 1 0x4004 e ∧ (s.markBegun 1).targetOk e false = true ∧ (s.inst e.target).ctl = .basic
      ∧ (s.inst e.target).disabled = false ∧ (s.inst e.target).disEids = [] ∧ (s.inst e.target).enQueued = false
      ∧ s.basicWork e.target = false)
    ∧ (∃ (s : State) (e : Entry) (code i : Nat), (s.inst (instKey code i)).disabling = true ∧ s.basicWork (instKey code i) = false
      ∧ (s.inst (instKey code i)).disEids = [1] ∧ s.entry 1 = some e)
    ∧ (∃ (s : State) (e : Entry), s.Starts 1 0x4005 e ∧ (s.markBegun 1).targetOk e false = true ∧ (s.inst e.target).disabling = false)
    ∧ (∃ (s : State) (e : Entry), s.Starts 1 0x4005 e ∧ (s.markBegun 1).targetOk e false = true ∧ (s.inst e.target).disabling = true
      ∧ (s.inst e.target).enQueued = false)
    ∧ (∃ (s : State) (off k o : Nat), xqAt off = some (k, o) ∧ s.xqHeld k = true ∧ (s.xq k).en = false)
    ∧ (∃ (s : State) (off k o : Nat), xqAt off = some (k, o) ∧ s.xqHeld k = true ∧ (s.xq k).en = true ∧ 15 < 2 ^ (s.xq k).sqLog2
      ∧ 15 < 2 ^ (s.xq k).cqLog2)
    ∧ (∃ (s : State) (off k o : Nat), xqAt off = some (k, o) ∧ s.xqHeld k = false) := by
  refine ⟨⟨cmdAt State.reset 0x4001 0 [1, 0], _, rfl, by decide +kernel⟩,
    ⟨instAt (cmdAt State.reset 0x4001 0 [1, 0]) 1 0 ⟨.handing, 0, 0, 0, 1, [], false, false, [], false⟩, _, 1, 0, by decide, rfl, rfl,
      by decide +kernel⟩,
    ⟨{ instAt (cmdAt (later 300) 0x4001 0 [7, 0]) 7 0 ⟨.handing, 0, 0, 0, 1, [], false, false, [], false⟩ with
        tape0 := { Tape.reset with job := some (TJob.blank 1 .verify) } }, _, 7, 0, by decide, rfl, rfl, by decide +kernel, by decide +kernel⟩,
    ⟨instAt (cmdAt State.reset 0x4002 0 [1, 0]) 1 0 ⟨.expert, 0, 0, 0, 0, [], false, false, [], false⟩, _, rfl, by decide +kernel⟩,
    ⟨instAt (cmdAt State.reset 0x4002 0 [1, 0]) 1 0 ⟨.returning, 0, 0, 0, 0, [1], false, false, [], false⟩, _, 1, 0, by decide, by decide, rfl, rfl, rfl⟩,
    ⟨cmdAt State.reset 0x4003 0 [1, 15], _, rfl, by decide +kernel⟩, ⟨cmdAt State.reset 0x4004 0 [1, 15], _, rfl, by decide +kernel⟩,
    ⟨instAt (cmdAt State.reset 0x4004 0 [1, 0]) 1 0 ⟨.basic, 0, 0xFF, 0, 0, [], false, true, [1], false⟩, _, 1, 0, rfl, by decide +kernel, rfl, rfl⟩,
    ⟨cmdAt State.reset 0x4005 0 [1, 0], _, rfl, by decide +kernel⟩,
    ⟨instAt (cmdAt State.reset 0x4005 0 [1, 0]) 1 0 ⟨.basic, 0, 0xFF, 0, 0, [], false, true, [1], false⟩, _, rfl, by decide +kernel⟩,
    ⟨instAt State.reset 1 0 ⟨.expert, 0, 0, 0, 0, [], false, false, [], false⟩, 0x081008, instKey 1 0, 8, by decide +kernel⟩,
    ⟨(instAt State.reset 1 0 ⟨.expert, 0, 0, 0, 0, [], false, false, [], false⟩).setXq (instKey 1 0)
      { Xq.off with en := true, sqLog2 := 4, cqLog2 := 4 }, 0x081008, instKey 1 0, 8, by decide +kernel⟩,
    ⟨State.reset, 0x081008, instKey 1 0, 8, by decide +kernel⟩⟩

/-- Place 0 of the table is the place of its own number, whatever the numbers are. -/
theorem parOfId_zero : parOfId (parId 0) = some 0 := by
  have h : List.range parCount = 0 :: (List.range' 1 (parCount - 1)) := by decide +kernel
  unfold parOfId
  rw [h]
  simp

/-- The two bytes of a number below 2^16 give it back. -/
theorem leVal_two (v : Nat) (h : v < 65536) : leVal (leBytes 2 v) = v := by
  simp only [leBytes, leVal, BitVec.toNat_ofNat]
  omega

/-- The bytes of a guard give it back. -/
theorem leVal_four (v : Nat) (h : v < 2 ^ 32) : leVal (leBytes 4 v) = v := by
  simp only [leBytes, leVal, BitVec.toNat_ofNat]
  omega

/-- A PARAM_ command for place 0, by its number. -/
def parCmd (op : Nat) (more : Bytes) : Entry := { ent op 0 0 (leBytes 2 (parId 0) ++ more) [] with role := 2 }

/-- A batch of one entry for place 0. -/
def batchCmd : Entry :=
  { ent 0x6002 1 0 [] (1 :: zeros 63 ++ leBytes 2 (parId 0) ++ [0, 0, 64, 0, 0, 0]) with role := 2 }

theorem parId_bytes : leVal (leBytes 2 (parId 0)) = parId 0 := leVal_two _ (Nat.mod_lt _ (by decide))

theorem witness_ParameterCommands :
    (∃ (s : State) (e : Entry) (p : Nat), s.Starts 1 0x6001 e ∧ parOfId (e.p 0 2) = some p ∧ s.parAbsent p = false)
    ∧ (∃ (s : State) (e : Entry) (p : Nat), s.Starts 1 0x6003 e ∧ parOfName (slice e.area 0 32) = some p ∧ s.parAbsent p = false)
    ∧ (∃ (s : State) (e : Entry) (p : Nat), s.Starts 1 0x6002 e ∧ pktFlag e.pkt 0 = false
      ∧ (s.markBegun 1).parJudge e [] (e.p 0 2) (e.p 2 2) (e.p 4 4) = .ok p ∧ (parInfo p).eff = 0 ∧ s.inP2 = false
      ∧ (bitAt (e.p 2 2) 0 = true → true = true))
    ∧ (∃ (s : State) (e : Entry) (xs : List (Nat × Nat × Bool)), s.Starts 1 0x6002 e ∧ pktFlag e.pkt 0 = true ∧ 1 ≤ e.p 0 2 ∧ e.p 0 2 ≤ 256
      ∧ 64 + 8 * e.p 0 2 ≤ e.area.length ∧ (s.markBegun 1).batchJudge e (e.p 0 2) 0 [] [] = .ok xs) := by
  refine ⟨⟨held State.reset (parCmd 0x6001 []), _, 0, rfl, ?_, rfl⟩,
    ⟨cmdAt State.reset 0x6003 0 (padTo (ascii "FLD_ring_burst") 32), _, 0, rfl, by decide +kernel, rfl⟩,
    ⟨held State.reset (parCmd 0x6002 [0, 0, 64, 0, 0, 0]), _, 0, rfl, rfl, ?_, rfl, by decide +kernel, fun _ => rfl⟩,
    ⟨held State.reset batchCmd, _, [(0, 64, false)], rfl, rfl, by decide, by decide, by decide, ?_⟩⟩
  · show parOfId (leVal (leBytes 2 (parId 0))) = _
    rw [parId_bytes, parOfId_zero]
  · unfold State.parJudge
    show (match parOfId (leVal (leBytes 2 (parId 0))) with | none => _ | some p => _) = _
    rw [parId_bytes, parOfId_zero]
    rfl
  · have h : batchCmd.batchEntry 0 = (parId 0, 0, 64) := by
      have : batchCmd.p 64 2 = leVal (leBytes 2 (parId 0)) := rfl
      unfold Entry.batchEntry
      rw [this, parId_bytes]
      rfl
    show State.batchJudge _ batchCmd 1 0 [] [] = _
    unfold State.batchJudge
    rw [h]
    unfold State.parJudge
    dsimp only
    rw [parOfId_zero]
    rfl


/-! ### Objects, tenants, keys -/

/-- An outermost mirror of two members of domain 0, its data space empty. -/
def grp : Group := ⟨false, 2, 0, 3, 0, .optimal, false, none, 1, 0xFF, 1, 1, 0, 0, 5, [1, 2], [], [], Reshape.none⟩

/-- A READY part that owns domain 0, with a group, a policy of it and a tenant whose generation 1 has a key slot. -/
def pool : State :=
  { (up.setRbit Reg.fldStatus 0 true).onData fun d =>
      { d with nodes := [(0, .group grp)], trees := [(0, Tree.fresh)], policies := [(1, ⟨0, 0, 0, 0xFFFF⟩)]
               tenants := [(7, ⟨zeros 64, 1, [1]⟩)], slots := [(0, ⟨zeros 64, .xts256, .tenant 7 1⟩)], nextPolicy := 2 } with
    dhd := { State.reset.dhd with doms := { Dom.reset with st := .owned } :: List.replicate 7 Dom.reset } }

/-- A PUT of `n` bytes from source `src`. -/
def putCmd (op src n : Nat) (blk : Bytes) : Entry :=
  { ent op (if blk = [] then 0 else 1) 1 (zeros 16 ++ leBytes 8 n ++ leBytes 2 7 ++ [byteOf src]) blk with owned := 1, gen := 1 }

/-- A PUT record of domain 0. -/
def putRec : PutRec :=
  { eid := 1, dom := 0, root := 0, tenant := 7, gen := 1, policy := 1, objId := zeros 16, mode := 0, flags := 0, replace := false
    length := 0, source := 0, conn := 0, token := 0, segs := [], landing := [], lastByte := 0, placed := true, recipe := []
    own := [], pend := [], hits := 0, stored := 0, stripes := [], parts := [], jseq := 4, rcpExt := 3 }

theorem witness_PutStarts :
    (∃ (s : State) (e : Entry) (pol : Policy) (g : Group) (p : PutRec) (data : Bytes), s.Starts 1 0x0101 e
      ∧ (s.markBegun 1).putJudge e = .ok (pol, g) ∧ p = (s.markBegun 1).newPut e pol g false ∧ data.length = p.length ∧ p.source = 0
      ∧ s.put 1 = none)
    ∧ (∃ (s : State) (e : Entry) (pol : Policy) (g : Group) (p : PutRec) (data l : Bytes), s.Starts 1 0x0103 e
      ∧ (s.markBegun 1).putJudge e = .ok (pol, g) ∧ p = (s.markBegun 1).newPut e pol g true ∧ data.length = p.length ∧ p.source = 1
      ∧ p.length ≤ sgBytes (l.take (16 * e.p 36 4)) ∧ s.put 1 = none)
    ∧ (∃ (s : State) (e : Entry) (pol : Policy) (g : Group) (p : PutRec) (data : Bytes), s.Starts 1 0x0102 e
      ∧ (s.markBegun 1).putJudge e = .ok (pol, g) ∧ p = (s.markBegun 1).newPut e pol g false ∧ data.length = p.length ∧ p.source = 3
      ∧ (e.blk.drop 64).take p.length = data ∧ (e.blk.drop 64).length < p.length + 64 ∧ s.put 1 = none)
    ∧ (∃ (s : State) (e : Entry) (pol : Policy) (g : Group) (p : PutRec) (i : Nat), s.Starts 1 0x0101 e
      ∧ (s.markBegun 1).putJudge e = .ok (pol, g) ∧ p = (s.markBegun 1).newPut e pol g false ∧ p.source = 2
      ∧ (s.markBegun 1).windowFor p = .ok i)
    ∧ (∃ (s : State) (p : PutRec), s.put 1 = some p ∧ p.source = 2 ∧ p.placed = false ∧ p.lastByte + 3 * s.par Par.putIdleMs ≤ s.clk) := by
  refine ⟨⟨held pool (putCmd 0x0101 0 0 []), _, _, _, _, [], rfl, rfl, rfl, rfl, rfl, rfl⟩,
    ⟨held pool (putCmd 0x0103 1 0 []), _, _, _, _, [], [], rfl, rfl, rfl, rfl, rfl, Nat.zero_le _, rfl⟩,
    ⟨held pool (putCmd 0x0102 3 1 (zeros 16 ++ leBytes 8 1 ++ leBytes 2 7 ++ [3] ++ zeros 37 ++ [9])), _, _, _, _, [9], rfl, rfl, rfl, rfl, rfl, rfl, by decide +kernel, rfl⟩,
    ⟨{ held pool (putCmd 0x0101 2 1 []) with drv := { Drv.reset with spaces := [(0, ⟨0, 1, 0, 0, some 0, 0, 0, 0, true, none, 0, none⟩)] } },
      _, _, _, _, 0, rfl, rfl, rfl, rfl, rfl⟩,
    ⟨{ pool with clk := 3 * 100000000 }.onData fun d => { d with puts := [{ putRec with source := 2, placed := false }] }, _, rfl, rfl, rfl, by decide +kernel⟩⟩

theorem witness_PutCommits : ∃ (s u : State) (p : PutRec), s.put 1 = some p ∧ p.eid = 1 ∧ p.jseq ≠ 0 ∧ p.stripes = []
    ∧ (∀ r ∈ (s.journal p.dom).recs, r.jseq = p.jseq → r.st = .complete) ∧ s.commitTurn p.dom p.jseq = true
    ∧ s.mayWrite p.dom = true ∧ s.applyPut p = .ok u :=
  ⟨pool.onData fun d => { d with puts := [putRec] }, _, _, rfl, rfl, by decide, rfl, by decide +kernel, by decide +kernel,
    by decide +kernel, rfl⟩

/-- An object of no bytes, whose record begins at extent 3. -/
def obj : ObjRec := ⟨0, 7, zeros 16, 0, 0, 4, 0, 3, [], none⟩

theorem witness_GetDelivers :
    (∃ (s : State) (e : Entry) (o : ObjRec) (out : Bytes), s.Starts 1 0x0111 e ∧ e.p 18 1 = 0 ∧ KMap.get? s.data.tenants (e.p 16 2) ≠ none
      ∧ e.found = some 3 ∧ s.data.objects.find? (fun x => x.extent == 3) = some o ∧ (s.markBegun 1).mayWrite o.dom = true
      ∧ (s.markBegun 1).anyBasic 1 = true ∧ (s.markBegun 1).anyBasic 3 = true ∧ (s.markBegun 1).anyBasic 4 = true
      ∧ (s.markBegun 1).basicFree (instKey 6 o.dom) = true ∧ o.length ≤ e.h / 2 ^ 32 ∧ e.ring ≠ 1023
      ∧ (s.markBegun 1).openParts e.eid (e.p 16 2) ((partsFrom 0 o.entries).filter fun p =>
        decide (p.off < 0 + o.length) && decide (0 < p.off + p.len)) [] [] [] = (out, none))
    ∧ (∃ (s : State) (e : Entry) (o : ObjRec) (out : Bytes), s.Starts 1 0x0112 e ∧ e.p 28 4 ≠ 0 ∧ e.p 18 1 = 0
      ∧ KMap.get? s.data.tenants (e.p 16 2) ≠ none ∧ e.found = some 3 ∧ s.data.objects.find? (fun x => x.extent == 3) = some o
      ∧ e.p 20 8 + e.p 28 4 ≤ o.length ∧ (s.markBegun 1).mayWrite o.dom = true
      ∧ (s.markBegun 1).anyBasic 1 = true ∧ (s.markBegun 1).anyBasic 3 = true ∧ (s.markBegun 1).anyBasic 4 = true
      ∧ (s.markBegun 1).basicFree (instKey 6 o.dom) = true ∧ e.p 28 4 ≤ e.h / 2 ^ 32 ∧ e.ring ≠ 1023
      ∧ (s.markBegun 1).openParts e.eid (e.p 16 2) ((partsFrom 0 o.entries).filter fun p =>
        decide (p.off < e.p 20 8 + e.p 28 4) && decide (e.p 20 8 < p.off + p.len)) [] [] [] = (out, none)) :=
  ⟨⟨held (pool.onData fun d => { d with objects := [obj] }) { ent 0x0111 0 0 (zeros 16 ++ [7]) [] with found := some 3 }, _, _, _,
      rfl, rfl, by decide, rfl, rfl, by decide +kernel, by decide +kernel, by decide +kernel, by decide +kernel, by decide +kernel,
      by decide, by decide, rfl⟩,
    ⟨held (pool.onData fun d => { d with objects := [{ obj with length := 1 }] })
        { ent 0x0112 0 (2 ^ 32) (zeros 16 ++ [7] ++ zeros 11 ++ [1]) [] with found := some 3 }, _, _, _,
      rfl, by decide, rfl, by decide, rfl, rfl, by decide, by decide +kernel, by decide +kernel, by decide +kernel, by decide +kernel,
      by decide +kernel, by decide, by decide, rfl⟩⟩


theorem witness_ObjectsAndPolicies :
    (∀ code ∈ [0x0131, 0x0121], ∃ (s : State) (e : Entry) (o : ObjRec), s.Starts 1 code e ∧ KMap.get? s.data.tenants (e.p 16 2) ≠ none
      ∧ (s.markBegun 1).objectIn (domsOf e.owned) (e.p 16 2) (e.area.take 16) = some o ∧ s.data.moves = []
      ∧ (s.markBegun 1).mayWrite o.dom = true ∧ (s.markBegun 1).basicFree (instKey 6 o.dom) = true)
    ∧ (∃ (s : State) (e : Entry) (i : Nat) (g : Group), s.Starts 1 0x0211 e ∧ e.p 8 1 ≤ 3
      ∧ (e.p 10 2 = 0xFFFF ∨ KMap.get? s.data.tenants (e.p 10 2) ≠ none) ∧ (s.markBegun 1).groupOf (e.p 0 8) = some (i, g)
      ∧ g.outermost = true)
    ∧ (∃ (s : State) (e : Entry) (pol : Policy), s.Starts 1 0x0212 e ∧ KMap.get? s.data.policies e.h = some pol)
    ∧ (∃ (s : State) (d : Fin 8) (o : ObjRec) (k : Nat), s.owns d = true ∧ s.tskFree d = true ∧ o ∈ s.data.objects ∧ o.dom = (d : Nat) ∧ o.dead = some k
      ∧ s.usersSince k = false)
    ∧ (∃ (s : State) (d : Fin 8), s.owns d = false)
    ∧ (∃ (s : State) (d : Fin 8), s.tskFree d = false) := by
  refine ⟨?_, ⟨cmdAt pool 0x0211 0 (leBytes 8 (5 * 2 ^ 32) ++ [3, 0, 0xFF, 0xFF]), _, _, _, rfl, by decide, Or.inl rfl, rfl, rfl⟩,
    ⟨cmdAt pool 0x0212 1 [], _, _, rfl, rfl⟩,
    ⟨pool.onData fun d => { d with objects := [{ obj with dead := some 8 }] }, 0, _, _, rfl, by decide +kernel,
      List.mem_cons_self, rfl, rfl, rfl⟩,
    ⟨pool, 7, rfl⟩, ⟨instAt pool 6 0 ⟨.expert, 0, 0, 0, 0, [], false, false, [], false⟩, 0, by decide +kernel⟩⟩
  intro code h
  simp only [List.mem_cons, List.not_mem_nil, or_false] at h
  rcases h with rfl | rfl
  · exact ⟨held (pool.onData fun d => { d with objects := [obj] }) { ent 0x0131 0 0 (zeros 16 ++ [7]) [] with owned := 1 }, _, _, rfl,
      by decide, rfl, rfl, by decide +kernel, by decide +kernel⟩
  · exact ⟨held (pool.onData fun d => { d with objects := [obj] }) { ent 0x0121 0 0 (zeros 16 ++ [7]) [] with owned := 1 }, _, _, rfl,
      by decide, rfl, rfl, by decide +kernel, by decide +kernel⟩

/-- A READY part whose key store takes keys in clear, with a core in Expert. -/
def clearPool : State := instAt ({ pool with regs := pool.regs }.onEz fun z => { z with par := KMap.put z.par Par.slotCfg 1 }) 4 0
  ⟨.expert, 0, 0, 0, 0, [], false, false, [], false⟩

/-- A TENANT_KEY_SET of tenant 7: operation, and generation, with a key in clear. -/
def keyCmd (op gen : Nat) : Entry :=
  ent 0x0203 1 0 [] (leBytes 2 7 ++ [byteOf op, 1] ++ leBytes 2 gen ++ zeros 58 ++ 1 :: zeros 79)

theorem witness_TenantsAndKeys :
    (∃ (s : State) (e : Entry), s.Starts 1 0x0201 e ∧ e.p 0 2 ≤ 16383 ∧ s.tenant (e.p 0 2) = none)
    ∧ (∃ (s : State) (e : Entry) (x : Tenant), s.Starts 1 0x0202 e ∧ s.tenant (e.p 0 2) = some x
      ∧ (∀ o ∈ s.data.objects, o.tenant = e.p 0 2 → o.dead ≠ none) ∧ (∀ p ∈ s.data.policies, p.2.tenant ≠ e.p 0 2)
      ∧ s.drv.conns = [] ∧ s.drv.spaces = [])
    ∧ (∃ (s : State) (e : Entry) (r : Retire) (x : Tenant), s.data.retires.find? (fun r => r.eid == 1) = some r ∧ r.eid = 1
      ∧ s.retireReady r = true ∧ s.tenant r.tenant = some x ∧ s.entry 1 = some e)
    ∧ (∃ (s u : State) (e : Entry) (x : Tenant) (k : Bytes) (i : Nat), s.Starts 1 0x0203 e ∧ s.tenant (e.p 0 2) = some x
      ∧ e.p 3 1 = b2n s.clearKeys ∧ e.p 2 1 = 0 ∧ e.p 4 2 = x.cur + 1 ∧ x.live.length < 4
      ∧ (s.markBegun 1).takeKey (e.p 3 1) (slice e.area 64 80) .xts256 (e.p 0 2) (e.p 4 2) = (u, .ok k)
      ∧ u.tenantSlot (e.p 0 2) (e.p 4 2) = none ∧ u.freeSlot = some i)
    ∧ (∃ (s u : State) (e : Entry) (x : Tenant) (k : Bytes) (i : Nat), s.Starts 1 0x0203 e ∧ s.tenant (e.p 0 2) = some x
      ∧ e.p 3 1 = b2n s.clearKeys ∧ e.p 2 1 = 1 ∧ x.live.contains (e.p 4 2) = true
      ∧ (s.markBegun 1).takeKey (e.p 3 1) (slice e.area 64 80) .xts256 (e.p 0 2) (e.p 4 2) = (u, .ok k)
      ∧ u.tenantSlot (e.p 0 2) (e.p 4 2) = none ∧ u.freeSlot = some i)
    ∧ (∃ (s : State) (e : Entry) (x : Tenant), s.Starts 1 0x0203 e ∧ s.tenant (e.p 0 2) = some x ∧ e.p 3 1 = b2n s.clearKeys
      ∧ e.p 2 1 = 2 ∧ x.live.contains (e.p 4 2) = true ∧ e.p 4 2 ≠ x.cur)
    ∧ (∃ (s : State) (val : W32) (ty : KeyTy), bitAt val.toNat 31 = true ∧ KeyTy.ofCode (fieldOf val.toNat 18 16) = some ty
      ∧ s.clearKeys = true ∧ s.coreExpert = true ∧ s.expertSlot (fieldOf val.toNat 15 0) = true
      ∧ ty.halvesEqual (s.keyinBytes.take ty.len) = false)
    ∧ (∃ (s : State) (val : W32), bitAt val.toNat 31 = true ∧ fieldOf val.toNat 18 16 = 4 ∧ s.rbit Reg.fldStatus 1 = false)
    ∧ (∃ (s : State) (val : W32), bitAt val.toNat 31 = true ∧ fieldOf val.toNat 18 16 = 7 ∧ s.clearKeys = true ∧ s.coreExpert = true
      ∧ s.expertSlot (fieldOf val.toNat 15 0) = true)
    ∧ (∃ (s : State) (k : KeySlot), KMap.get? s.data.slots 0 = some k ∧ s.data.puts = []) := by
  refine ⟨⟨cmdAt State.reset 0x0201 0 (leBytes 2 16383), _, rfl, by decide, rfl⟩,
    ⟨(cmdAt pool 0x0202 0 [7]), _, _, rfl, rfl, by decide +kernel, by decide +kernel, rfl, rfl⟩,
    ⟨(cmdAt pool 0x0202 0 [7]).onData fun d => { d with retires := [⟨1, 7, [1], [], [], true⟩] }, _, _, _, rfl, rfl, by decide +kernel, rfl, rfl⟩,
    ⟨held clearPool (keyCmd 0 2), _, _, _, _, 1, rfl, rfl, by decide +kernel, rfl, rfl, by decide, rfl, by decide +kernel, by decide +kernel⟩,
    ⟨(held clearPool (keyCmd 1 1)).onData fun d => { d with slots := [] }, _, _, _, _, 0, rfl, rfl, by decide +kernel, rfl, rfl, rfl, by decide +kernel, by decide +kernel⟩,
    ⟨(held clearPool (keyCmd 2 1)).onData fun d => { d with tenants := [(7, ⟨zeros 64, 2, [1, 2]⟩)] }, _, _, rfl, rfl, by decide +kernel, rfl, rfl, by decide⟩,
    ⟨clearPool.onData fun d => { d with keyin := 1 :: List.replicate 15 0 }, BitVec.ofNat 32 (2 ^ 31 + 65536 * 0 + (clearPool.slotTotal - 1)), .xts128, by decide +kernel⟩,
    ⟨State.reset, 0x80040000, by decide +kernel⟩,
    ⟨clearPool, BitVec.ofNat 32 (2 ^ 31 + 65536 * 7 + (clearPool.slotTotal - 1)), by decide +kernel⟩,
    ⟨pool, _, rfl, rfl⟩⟩


/-! ### The lanes -/

/-- An instance in Expert. -/
def inExpert : Inst := ⟨.expert, 0, 0, 0, 0, [], false, false, [], false⟩

/-- A queue in service with one descriptor submitted. -/
def oneIn : Xq := { Xq.off with en := true, sqLog2 := 4, cqLog2 := 4, tail := 1 }

/-- The state with queue `i` of block `code` running one descriptor. -/
def runs (s : State) (code i : Nat) : State := (instAt s code i inExpert).setXq (instKey code i) oneIn

/-- A descriptor: operation, a byte, two bytes, length in bytes 16 to 23, and the bytes from 24 on. -/
def desc (op b1 w2 len : Nat) (rest : Bytes) : Bytes :=
  padTo ([byteOf op, byteOf b1] ++ leBytes 2 w2 ++ zeros 12 ++ leBytes 8 len ++ rest) 64

/-- A part with a key of type `ty` in the last expert slot, Bracken's core 7 running one descriptor. -/
def brk (ty : KeyTy) : State := (runs pool 4 7).onData fun d => { d with slots := [(1023, ⟨zeros ty.len, ty, .expert⟩)] }

/-- An answer that is seen to be right is. -/
theorem ok_of {α β : Type} [DecidableEq α] {e : Except β α} {x : α}
    (h : (match e with | .ok y => decide (y = x) | .error _ => false) = true) : e = .ok x := by
  cases e with
  | error => cases h
  | ok y => exact congrArg _ (of_decide_eq_true h)

theorem witness_LaneDescriptors :
    (∀ op ∈ [1, 2], ∃ (s : State) (i : Fin 8) (d b key : Bytes), s.brkJudge d = none ∧ s.brkKey d true = some key ∧ 512 ≤ leAt d 16 8
      ∧ leAt d 16 8 ≤ 16777216 ∧ leAt d 16 8 % 16 = 0 ∧ b.length = leAt d 16 8 ∧ s.Runs (instKey 4 i) op d)
    ∧ (∀ op ∈ [3, 4], ∃ (s : State) (i : Fin 8) (d b a key : Bytes), s.brkJudge d = none ∧ s.brkKey d false = some key
      ∧ leAt d 16 8 ≤ 2 ^ 36 - 32 ∧ leAt d 40 8 ≤ 2 ^ 32 ∧ a.length = leAt d 40 8 ∧ s.Runs (instKey 4 i) op d
      ∧ b.length = leAt d 16 8 + (if op = 4 then 16 else 0))
    ∧ (∃ (s u : State) (i : Fin 8) (d b : Bytes) (r : Except (Nat × Nat) (KeyTy × Bytes)), s.brkJudge d = none ∧ s.Runs (instKey 4 i) 5 d
      ∧ b.length = leAt d 16 8 ∧ s.unwrapKey b none 0xFFFF 0 = (u, r))
    ∧ (∃ (s : State) (i : Fin 16) (d b : Bytes) (x : Bytes × Bytes × Nat × Bool), s.swdJudge d = none ∧ b.length = leAt d 16 8
      ∧ s.Runs (instKey 1 i) 1 d ∧ chunkOut (s.salt (leAt d 2 2)) (leAt d 32 4) (leAt d 42 2) (leAt d 2 2) 0 (leAt d 36 6)
          (chunksOf (leAt d 1 1) b) = x)
    ∧ (∃ (s : State) (i : Fin 16) (d b : Bytes) (dom : Nat), s.swdJudge d = none ∧ b.length = leAt d 16 8 ∧ s.Runs (instKey 1 i) 2 d
      ∧ s.tenantDom (leAt d 2 2) = some dom ∧ s.owns dom = true ∧ b.length = 32 ∧ 48 ≤ leAt d 32 4)
    ∧ (∃ (s : State) (i : Fin 16) (d b cf : Bytes) (n : Nat), s.swdJudge d = none ∧ b.length = leAt d 16 8 ∧ s.Runs (instKey 1 i) 3 d
      ∧ cf.length = 16 * ceilDiv (leAt d 16 8) 4096 ∧ verifyBlocks cf (leAt d 36 6) (leAt d 42 2) (leAt d 2 2) 0 (blocksOf b) = (n, none))
    ∧ (∃ (s : State) (i : Fin 16) (d b cf : Bytes) (n dt : Nat), s.swdJudge d = none ∧ b.length = leAt d 16 8 ∧ s.Runs (instKey 1 i) 3 d
      ∧ cf.length = 16 * ceilDiv (leAt d 16 8) 4096
      ∧ verifyBlocks cf (leAt d 36 6) (leAt d 42 2) (leAt d 2 2) 0 (blocksOf b) = (n, some dt))
    ∧ (∃ (s : State) (i : Fin 16) (d b frame : Bytes) (st : Nat), b.length = leAt d 16 8 ∧ leAt d 1 1 % 4 = 0 ∧ s.Runs (instKey 2 i) 1 d
      ∧ grsJudge d 1 = none ∧ gorseCompress (bitAt (leAt d 1 1) 2) none b = (frame, st) ∧ frame.length ≤ leAt d 32 8)
    ∧ (∃ (s : State) (i : Fin 16) (d b orig : Bytes), b.length = leAt d 16 8 ∧ leAt d 1 1 % 4 = 0 ∧ s.Runs (instKey 3 i) 2 d
      ∧ grsJudge d 2 = none ∧ gorseHeaderCheck none b = none ∧ gorseOrigLen b ≤ leAt d 32 8 ∧ gorseDecompress none b = .ok orig) := by
  refine ⟨?_, ?_, ?_, ?_, ?_, ?_, ?_, ?_, ?_⟩
  · intro op h
    refine ⟨brk .xts256, 7, desc op 0 1023 512 [], zeros 512, zeros 64, ?_⟩
    simp only [List.mem_cons, List.not_mem_nil, or_false] at h
    rcases h with rfl | rfl <;> unfold State.Runs <;> decide +kernel
  · intro op h
    refine ⟨brk .gcm256, 7, desc op 0 1023 1 (zeros 8), zeros (if op = 4 then 17 else 1), [], zeros 32, ?_⟩
    simp only [List.mem_cons, List.not_mem_nil, or_false] at h
    rcases h with rfl | rfl <;> unfold State.Runs <;> decide +kernel
  · exact ⟨brk .gcm256, _, 7, desc 5 0 1023 24 [], zeros 24, _, by decide +kernel, by unfold State.Runs; decide +kernel, by decide +kernel, rfl⟩
  · exact ⟨runs pool 1 15, 15, desc 1 0 7 1 [], [5], _, by decide +kernel, by decide +kernel, by unfold State.Runs; decide +kernel, rfl⟩
  · exact ⟨(runs pool 1 15).onData fun d => { d with policies := [(1, ⟨0, 0, 0, 7⟩)] }, 15, desc 2 0 7 32 (zeros 8 ++ [48]), zeros 32, 0,
      by decide +kernel, by decide +kernel, by unfold State.Runs; decide +kernel, by decide +kernel, by decide +kernel, rfl, by decide +kernel⟩
  · exact ⟨runs pool 1 15, 15, desc 3 0 7 0 [], [], [], 0, by decide +kernel, by decide +kernel, by unfold State.Runs; decide +kernel,
      by decide +kernel, rfl⟩
  · exact ⟨runs pool 1 15, 15, desc 3 0 7 1 [], [9], zeros 15 ++ [1], 0, 0x1104, by decide +kernel, by decide +kernel, by unfold State.Runs; decide +kernel,
      by decide +kernel, by decide +kernel⟩
  · exact ⟨runs pool 2 15, 15, desc 1 4 0 0 (zeros 8 ++ [24]), [], _, _, by decide +kernel, by decide +kernel, by unfold State.Runs; decide +kernel,
      by decide +kernel, rfl, by decide +kernel⟩
  · exact ⟨runs pool 3 15, 15, desc 2 0 0 24 [], (gorseCompress true none []).1, [], by decide +kernel, by decide +kernel,
      by unfold State.Runs; decide +kernel, by decide +kernel, by decide +kernel, by decide +kernel, ok_of (by decide +kernel)⟩

/-- Digest context 31, in Expert and in a given state. -/
def thistle (c : Ctx) : State := (instAt pool 5 31 inExpert).onData fun d => { d with ctxs := [(31, c)] }

theorem witness_DigestContexts :
    (∃ (s : State) (i : Fin 32), (List.range 32).find? (fun j => s.ctxHost j && (s.ctx j).st == .free) = some i.val)
    ∧ (∃ s : State, (List.range 32).find? (fun j => s.ctxHost j && (s.ctx j).st == .free) = none)
    ∧ (∃ (s : State) (i : Fin 32) (val : W32) (a : Alg), s.OneAction i val 2 ∧ Alg.ofCode (fieldOf val.toNat 1 0) = some a
      ∧ ((s.ctx i).st = .idle ∨ (s.ctx i).st = .open_))
    ∧ (∃ (s : State) (i : Fin 32) (val : W32) (len : Nat), s.OneAction i val 3 ∧ bitAt val.toNat 7 = false ∧ (s.ctx i).st = .open_
      ∧ len = (s.reg (Reg.thsCnLen i)).toNat ∧ len ≠ 0 ∧ len % (s.ctx i).alg.block = 0 ∧ len ≤ 0xFFFFFF80)
    ∧ (∃ (s : State) (i : Fin 32) (b : Bytes) (l : Fetch), (s.ctx i).st = .run ∧ (s.ctx i).feedCause l (.ok b) = none
      ∧ b.length = (s.ctx i).len)
    ∧ (∃ (s : State) (i : Fin 32) (val : W32), s.OneAction i val 5
      ∧ ((s.ctx i).st = .open_ ∨ (s.ctx i).st = .run ∨ (s.ctx i).st = .fault))
    ∧ (∃ (s : State) (i : Fin 32) (val : W32), s.OneAction i val 6 ∧ (s.ctx i).st ≠ .free)
    ∧ (∃ (s : State) (i : Fin 32) (val : W32), s.OneAction i val 4 ∧ (s.ctx i).st = .open_ ∧ fieldOf val.toNat 14 8 ≠ 0
      ∧ fieldOf val.toNat 14 8 ≤ (s.ctx i).alg.outLen)
    ∧ (∃ (s : State) (i : Fin 32) (l d : Fetch) (k : Nat), 3 ≤ i.val ∧ (s.ctx i).st = .run ∧ (s.ctx i).feedCause l d = some k
      ∧ s.rbit Reg.thsErr 31 = false) := by
  unfold State.OneAction
  exact ⟨⟨thistle Ctx.zero, 31, by decide +kernel⟩, ⟨pool, by decide +kernel⟩,
    ⟨thistle { Ctx.zero with st := .idle }, 31, 4, .sha256, by decide +kernel⟩,
    ⟨(thistle { Ctx.zero with st := .open_ }).setReg (Reg.thsCnLen 31) 0xFFFFFF80, 31, 8, 0xFFFFFF80, by decide +kernel⟩,
    ⟨thistle { Ctx.zero with st := .run, len := 64 }, 31, zeros 64, .failed, by decide +kernel⟩,
    ⟨thistle { Ctx.zero with st := .fault }, 31, 32, by decide +kernel⟩, ⟨thistle { Ctx.zero with st := .idle }, 31, 64, by decide +kernel⟩,
    ⟨thistle { Ctx.zero with st := .open_ }, 31, 0x2010, by decide +kernel⟩,
    ⟨thistle { Ctx.zero with st := .run, len := 64 }, 31, .failed, .uncorrectable, 4, by decide +kernel⟩⟩


/-! ### Groups, stripes, the journal -/

/-- A mirror of two slices in domain 0 with a unit of 4 blocks and a label area of `mib`. -/
def mirror (mib blocks : Nat) : Group :=
  ⟨false, 1, 1, 14, 0, .optimal, false, none, 0, 0xFF, 1, mib, blocks / 4, blocks, 5, [2, 3], [1], [], Reshape.none⟩

/-- A member slice of `n` blocks at the start of namespace `ns`, of failure domain `fd`. -/
def slot (k ns fd n : Nat) : Leaf := ⟨.online, ns, 0, k, fd, 0, 0, n, 0, false, false⟩

/-- A bound namespace that can be reached. -/
def nsAt (id : Nat) : Ns := ⟨List.replicate 16 (byteOf id), true, true, true, 0, 2 ^ 20, true⟩

/-- The tree of the mirror `g`, its leaves, and more nodes. -/
def tree (g : Group) (a b : Leaf) (more : List (Nat × Node)) : State :=
  { pool.onData fun d => { d with nodes := [(0, .group g), (1, .list 0), (2, .leaf a), (3, .leaf b)] ++ more, policies := [] } with
    fpt := { pool.fpt with ns := [(0, nsAt 1), (1, nsAt 2), (2, nsAt 3), (3, nsAt 4)] } }

/-- The mirror with 256 data blocks behind a label area of 1 MiB. -/
def small : State := tree (mirror 1 256) (slot 0 0 0 512) (slot 1 1 1 512) []

/-- The handle of the mirror. -/
def hMirror : Nat := 5 * 2 ^ 32

/-- A member entry: a slice of 512 blocks of a namespace from block 512 on. -/
def memberEntry (ns : Nat) : Bytes := padTo ([0, 0] ++ leBytes 2 ns ++ leBytes 2 ns ++ zeros 2 ++ leBytes 8 512 ++ leBytes 8 512) 32

/-- A command with a handle and a parameter block. -/
def blkAt (s : State) (op h : Nat) (blk : Bytes) : State := held s (ent op 1 h [] blk)

/-- A GROUP_CREATE of a mirror of two slices. -/
def createCmd : State := blkAt small 0x1001 0 ([0, 1, 1, 14, 0, 2, 1] ++ zeros 57 ++ memberEntry 2 ++ memberEntry 3)

/-- What it asks for. -/
def created : Create := ⟨false, 1, 1, 14, 0, 1, false, [memberOf (memberEntry 2), memberOf (memberEntry 3)]⟩

theorem witness_GroupCommands :
    (∃ (s : State) (e : Entry) (lab : List Bool) (c : Create) (g : Group), s.Starts 1 0x1001 e
      ∧ (s.markBegun 1).judgeCreate e lab = .ok c ∧ ((s.markBegun 1).buildGroup c).1.group? ((s.markBegun 1).buildGroup c).2 = some g)
    ∧ (∃ (s : State) (e : Entry) (i : Nat) (g : Group), (s.markBegun 1).groupOf e.h = some (i, g)
      ∧ (s.markBegun 1).groupGate g.dom (some ((s.markBegun 1).rootOf i)) = none ∧ s.Starts 1 0x1002 e ∧ g.parent = none
      ∧ (∀ p ∈ s.data.policies, p.2.root ≠ i) ∧ (s.tree i).exts = [])
    ∧ (∃ (s : State) (e : Entry) (i : Nat) (g : Group), (s.markBegun 1).groupOf e.h = some (i, g)
      ∧ (s.markBegun 1).groupGate g.dom (some ((s.markBegun 1).rootOf i)) = none ∧ s.Starts 1 0x1003 e)
    ∧ (∃ (s : State) (e : Entry) (i : Nat) (g : Group) (lab : Bool) (m : Member) (n : Nat), (s.markBegun 1).groupOf e.h = some (i, g)
      ∧ (s.markBegun 1).groupGate g.dom (some ((s.markBegun 1).rootOf i)) = none ∧ s.Starts 1 0x1004 e ∧ m = memberOf e.area ∧ m.kind = 0
      ∧ (s.markBegun 1).sliceBad m ((s.markBegun 1).labelBlocks ((s.markBegun 1).rootOf i)) g.unit lab = false
      ∧ (s.markBegun 1).largestU g ((s.markBegun 1).labelBlocks ((s.markBegun 1).rootOf i))
        ≤ (m.count - (s.markBegun 1).labelBlocks ((s.markBegun 1).rootOf i)) / g.unit * g.unit
      ∧ 1 ≤ (s.markBegun 1).nodesFree ∧ imageFits ((s.markBegun 1).labelBlocks ((s.markBegun 1).rootOf i) / 256)
        (((s.markBegun 1).treeNodes ((s.markBegun 1).rootOf i)).length + 1) = true ∧ n = ((s.markBegun 1).takeNodes 1).headD 0)
    ∧ (∃ (s : State) (e : Entry) (i : Nat) (g : Group), s.Starts 1 0x100A e ∧ (s.markBegun 1).groupOf e.h = some (i, g)
      ∧ g.outermost = true ∧ e.p 0 1 ≤ 7 ∧ g.dom ≠ e.p 0 1 ∧ (s.markBegun 1).groupGate g.dom (some i) = none
      ∧ (s.markBegun 1).groupGate (e.p 0 1) none = none ∧ (s.markBegun 1).treeBusy i = false)
    ∧ (∀ done ∈ [true, false], ∃ (s : State) (m : DomMove), s.moveAt 1 2 = some m ∧ s.allDone m.waits = done)
    ∧ (∀ quiet ∈ [true, false], ∃ (s : State) (m : DomMove), s.moveAt 1 3 = some m ∧ s.treeQuiet m.root = quiet)
    ∧ (∃ (s : State) (m : DomMove), s.moveAt 1 4 = some m ∧ m.src ≠ m.dst)
    ∧ (∃ (s : State) (e : Entry) (m : DomMove), s.moveAt 1 5 = some m ∧ s.labelling m.root = false ∧ s.imageMoved m = true
      ∧ s.entry 1 = some e) := by
  obtain ⟨g, hg⟩ := Option.isSome_iff_exists.mp (show (((createCmd.markBegun 1).buildGroup created).1.group?
    ((createCmd.markBegun 1).buildGroup created).2).isSome = true by decide +kernel)
  refine ⟨⟨createCmd, _, [], created, g, rfl, ok_of (by decide +kernel), hg⟩,
    ⟨cmdAt small 0x1002 hMirror [], _, _, _, rfl, by decide +kernel, rfl, rfl, by decide +kernel, rfl⟩,
    ⟨cmdAt small 0x1003 hMirror [], _, _, _, rfl, by decide +kernel, rfl⟩,
    ⟨blkAt small 0x1004 hMirror (memberEntry 2), _, _, _, false, _, _, rfl, by decide +kernel, rfl, rfl, by decide +kernel,
      by decide +kernel, by decide +kernel, by decide +kernel, by decide +kernel, rfl⟩,
    ⟨cmdAt { small with dhd := { small.dhd with doms := List.replicate 8 { Dom.reset with st := .owned } } } 0x100A hMirror [7], _, _, _, rfl, rfl, rfl,
      by decide +kernel, by decide +kernel, by decide +kernel, by decide +kernel, by decide +kernel⟩, ?_, ?_,
    ⟨small.onData fun d => { d with moves := [⟨1, 0, 0, 7, 4, []⟩] }, _, rfl, by decide⟩,
    ⟨(cmdAt small 0x100A hMirror [7]).onData fun d => { d with moves := [⟨1, 0, 0, 7, 5, []⟩] }, _, _, rfl, rfl, by decide +kernel, rfl⟩⟩
  · intro done h
    exact ⟨(cmdAt small 3 0 []).onData fun d => { d with moves := [⟨1, 0, 0, 7, 2, if done then [] else [1]⟩] }, _, rfl, by
      cases done <;> decide +kernel⟩
  · intro quiet h
    exact ⟨small.onData fun d => { d with moves := [⟨1, 0, 0, 7, 3, []⟩], stripesW := if quiet then [] else [⟨0, 0, [], 0, false, []⟩] }, _, rfl, by
      cases quiet <;> decide +kernel⟩


/-- A whole stripe of the mirror, ready to be written. -/
def stripeAt (issued : Bool) : StripeW := ⟨0, 4, zeros 16384, 16384, issued, []⟩

/-- A small write of block 5. -/
def smallAt (stage : Nat) : SmallW := ⟨1, 0, 5, zeros 4096, 0, 0, stage, []⟩

/-- An open run with a stripe not full. -/
def openRun : OpenRun := ⟨16, 65536, 20000, 16384, zeros 3616, false, 0⟩

/-- The tree with its record run open. -/
def opened (s : State) : State := s.setTree 0 { Tree.fresh with recRun := some openRun }

/-- A unit tag: guard, offset and generation, unit, parity, and its own check. -/
def tagOf (blk want : Bytes) (u : Byte) : Bytes :=
  let h := leBytes 4 (crc32c blk) ++ want ++ [u, 0]
  h ++ leBytes 2 (crc16 h)

theorem tagOf_says (blk want : Bytes) (u w : Byte) (hw : want.length = 8) :
    tagSays (want ++ [w]) blk (tagOf blk want u) = if u = w then .right else if u = 0xFE then .lost else .wrong := by
  obtain ⟨a, b, c, d, e, f, g, h, rfl⟩ : ∃ a b c d e f g h, want = [a, b, c, d, e, f, g, h] := by
    match want, hw with
    | [a, b, c, d, e, f, g, h], _ => exact ⟨a, b, c, d, e, f, g, h, rfl⟩
  have hc := leVal_two (crc16 (leBytes 4 (crc32c blk) ++ [a, b, c, d, e, f, g, h] ++ [u, 0])) (BitVec.isLt _)
  have hg := leVal_four (crc32c blk) (BitVec.isLt _)
  have h1 : leAt (tagOf blk [a, b, c, d, e, f, g, h] u) 14 2
    = crc16 ((tagOf blk [a, b, c, d, e, f, g, h] u).take 14) := hc
  have h2 : leAt (tagOf blk [a, b, c, d, e, f, g, h] u) 0 4 = crc32c blk := hg
  have h3 : slice (tagOf blk [a, b, c, d, e, f, g, h] u) 4 8 = [a, b, c, d, e, f, g, h] := rfl
  have h4 : slice (tagOf blk [a, b, c, d, e, f, g, h] u) 12 1 = [u] := rfl
  have h5 : (tagOf blk [a, b, c, d, e, f, g, h] u).length = 16 := rfl
  unfold tagSays
  rw [h1, h2, h3, h4, h5]
  simp

theorem witness_StripesAndReads :
    (∃ (s : State) (w : StripeW), s.data.stripesW.find? (fun w => w.root == 0 && w.block == 4 && !w.issued) = some w
      ∧ s.locked 0 4 = false ∧ s.mayWrite (s.rootDom 0) = true)
    ∧ (∃ (s : State) (g : Group) (r : OpenRun), s.group? 0 = some g ∧ (s.tree 0).recRun = some r ∧ (s.tree 0).rcpRun = none
      ∧ r.spillLo / 4096 = 4 ∧ r.sealed_ = false ∧ r.spill ≠ [] ∧ r.openedAt + 3 * s.par Par.sealMs ≤ s.clk
      ∧ s.tskFree (s.rootDom 0) = true)
    ∧ (∃ s : State, s.tskFree 0 = false)
    ∧ (∃ (s : State) (d : Fin 8), s.journalFull d = false)
    ∧ (∃ (s : State) (d : Fin 8) (at_ : Nat), s.journalFull d = true ∧ s.openStripes d = [(at_, 0, 4)])
    ∧ (∃ (s : State) (w : SmallW) (g : Group) (lo hi : Nat), s.data.smalls.find? (fun w => w.id == 1 && w.stage == 0) = some w
      ∧ s.group? w.root = some g ∧ s.smallSpan w = (lo, hi) ∧ s.smallReady w = true
      ∧ (∀ x ∈ s.data.smalls, x.root = w.root → x.id < 1 → ¬ (x.block < hi ∧ lo < x.block + x.data.length / 4096))
      ∧ s.locked w.root w.block = false ∧ s.locked w.root (hi - 1) = false
      ∧ (∀ x ∈ s.data.stripesW, x.root = w.root → ¬ (lo ≤ x.block ∧ x.block < hi)) ∧ g.st ≠ .failed ∧ s.mayWrite w.dom = true)
    ∧ (∃ (s : State) (w : SmallW), s.data.smalls.find? (fun w => w.id == 1) = some w ∧ w.stage = 1 ∧ w.acks = [])
    ∧ (∀ r ∈ [TagSays.right, .lost, .wrong], ∃ (s : State) (nsn lba i off : Nat) (l0 l : Leaf) (blk tag : Bytes),
      s.leafAt nsn lba = some (i, l0, off) ∧ s.leaf? i = some l ∧ blk.length = 4096 ∧ tag.length = 16
      ∧ tagSays (s.tagWant l off) blk tag = r) := by
  refine ⟨⟨small.onData fun d => { d with stripesW := [stripeAt false] }, _, rfl, by decide +kernel, by decide +kernel⟩,
    ⟨{ opened small with clk := 3 * 100000000 }, _, _, rfl, rfl, rfl, by decide, rfl, by decide, by decide +kernel,
      by decide +kernel⟩, ⟨instAt small 6 0 ⟨.expert, 0, 0, 0, 0, [], false, false, [], false⟩, by decide +kernel⟩,
    ⟨small, 0, by decide +kernel⟩,
    ⟨(opened small).setJournal 0 { Journal.empty with recs := [⟨1, .smallWrite, 0, [], 2 ^ 20, 2, .issued, true, true, false, false, false, 0, 0, 0, [], none⟩] },
      0, 0, by decide +kernel, by decide +kernel⟩,
    ⟨small.onData fun d => { d with smalls := [smallAt 0] }, _, _, 4, 8, rfl, rfl, by decide +kernel, rfl, by decide +kernel,
      by decide +kernel, by decide +kernel, by decide +kernel, by decide, by decide +kernel⟩,
    ⟨small.onData fun d => { d with smalls := [smallAt 1] }, _, rfl, rfl, rfl⟩, ?_⟩
  have tag : ∀ x, (tagOf (zeros 4096) (small.tagWant (slot 0 0 0 512) 20 |>.take 8) x).length = 16 := fun _ => rfl
  have said : ∀ x, tagSays (small.tagWant (slot 0 0 0 512) 20) (zeros 4096) (tagOf (zeros 4096) (small.tagWant (slot 0 0 0 512) 20 |>.take 8) x)
      = if x = 0 then .right else if x = 0xFE then .lost else .wrong := fun x => tagOf_says (zeros 4096) _ x 0 (by decide +kernel)
  have at_ : ∀ (x : Byte) (y : TagSays), (if x = 0 then TagSays.right else if x = 0xFE then .lost else .wrong) = y →
      ∃ (s : State) (nsn lba i off : Nat) (l0 l : Leaf) (blk tag : Bytes), s.leafAt nsn lba = some (i, l0, off) ∧ s.leaf? i = some l
        ∧ blk.length = 4096 ∧ tag.length = 16 ∧ tagSays (s.tagWant l off) blk tag = y := fun x y h =>
    ⟨small, 0, 276, 2, 20, _, _, zeros 4096, tagOf (zeros 4096) (small.tagWant (slot 0 0 0 512) 20 |>.take 8) x, rfl, rfl,
      by decide +kernel, tag _, (said _).trans h⟩
  intro r _
  cases r
  · exact at_ 0 _ (by decide)
  · exact at_ 0xFE _ (by decide)
  · exact at_ 1 _ (by decide)

/-- Tussock's instance 0 running one descriptor on the mirror. -/
def tussock : State := runs small 6 0

/-- A Tussock descriptor: operation, M, K and LEN, with the fields from byte 24 on. -/
def tdesc (op m k n : Nat) (rest : Bytes) : Bytes :=
  padTo ([byteOf op, byteOf m, byteOf k] ++ zeros 13 ++ leBytes 8 n ++ rest) 64

/-- Block 20 of the mirror, with its unit tag right, is read. -/
theorem tskBlock_right (blk tag : Bytes) (hb : blk.length = 4096) (ht : tag.length = 16)
    (said : tagSays (tussock.tagWant (slot 0 0 0 512) 20) blk tag = .right) : tussock.tskBlock 0 20 (.ok (blk ++ tag)) = .ok blk := by
  unfold State.tskBlock
  simp only [padTo_of_length (blk ++ tag) 4112 (by simp [hb, ht])]
  rw [show (tussock.walk 0 20).getLast? = some ⟨2, 0, 0, 276, some 0⟩ by decide +kernel]
  dsimp only
  rw [show tussock.leaf? 2 = some (slot 0 0 0 512) by decide +kernel]
  dsimp only
  rw [show tussock.listedLost (tussock.rootOf 0) 0 20 = false by decide +kernel]
  rw [show 276 - (slot 0 0 0 512).start - tussock.labelBlocks (tussock.rootOf 0) = 20 by decide +kernel]
  rw [List.take_left' hb, List.drop_left' hb, said]
  rfl

theorem witness_TussockDescriptors :
    (∃ (s : State) (i : Fin 8) (k : Nat) (d list : Bytes) (srcs : List Fetch) (us : List Bytes), k = instKey 6 i ∧ s.Runs k 1 d
      ∧ tskCodeOk d = true ∧ s.tskSrc k (srcs.headD .failed) (8 * (leAt d 1 1 + leAt d 2 1)) = .ok list
      ∧ s.tskSrcs k (leAt d 16 8) ((srcs.drop 1).take (leAt d 1 1)) = .ok us ∧ us.length = leAt d 1 1)
    ∧ (∃ (s : State) (i : Fin 8) (k : Nat) (d list : Bytes) (srcs : List Fetch) (us ds : List Bytes) (erased : List Nat), k = instKey 6 i
      ∧ s.Runs k 2 d ∧ tskCodeOk d = true ∧ s.tskSrc k (srcs.headD .failed) (8 * (leAt d 1 1 + leAt d 2 1)) = .ok list
      ∧ erased = (List.range (leAt d 1 1 + leAt d 2 1)).filter (bitAt (leAt d 24 8))
      ∧ s.tskSrcs k (leAt d 16 8) ((List.range (leAt d 1 1 + leAt d 2 1)).map fun j =>
        if erased.contains j then Fetch.ok [] else (srcs.drop 1).getD j .failed) = .ok us
      ∧ parityDecode (leAt d 16 8) (leAt d 1 1) (us.zipIdx.map fun (u, j) => if erased.contains j then none else some u) = some ds)
    ∧ (∃ (s : State) (i : Fin 8) (d : Bytes) (gi : Nat) (g : Group), s.Runs (instKey 6 i) 3 d ∧ zeroAt d 3 1 = true ∧ zeroAt d 60 4 = true
      ∧ s.tskGroup i d 1 = .ok (gi, g))
    ∧ (∃ (s : State) (i : Fin 8) (d : Bytes) (gi n : Nat) (g : Group) (srcs : List Fetch) (out : Bytes), s.Runs (instKey 6 i) 4 d
      ∧ zeroAt d 3 1 = true ∧ zeroAt d 60 4 = true ∧ n = leAt d 48 4 ∧ 1 ≤ n ∧ n ≤ 64 ∧ s.tskGroup i d n = .ok (gi, g)
      ∧ s.tskBlocks gi (leAt d 40 8) ((List.range n).map fun x => srcs.getD x .failed) = .ok out) := by
  unfold State.Runs
  refine ⟨⟨tussock, 0, _, tdesc 1 2 1 64 [], zeros 24, [.ok [], .ok [1], .ok [2]], [padTo [1] 64, padTo [2] 64], rfl, by decide +kernel,
      by decide +kernel, ok_of (by decide +kernel), ok_of (by decide +kernel), by decide +kernel⟩,
    ⟨tussock, 0, _, tdesc 2 2 1 64 [1], zeros 24, [.ok [], .failed, .ok [2], .ok [3]], [zeros 64, padTo [2] 64, padTo [3] 64],
      [padTo [1] 64, padTo [2] 64], _, rfl, by decide +kernel, by decide +kernel, ok_of (by decide +kernel), rfl, ok_of (by decide +kernel),
      by decide +kernel⟩,
    ⟨tussock, 0, tdesc 3 0 0 0 (zeros 8 ++ leBytes 8 hMirror ++ leBytes 8 255), 0, mirror 1 256, by decide +kernel, by decide +kernel,
      by decide +kernel, ok_of (by decide +kernel)⟩,
    ⟨tussock, 0, tdesc 4 0 0 0 (zeros 8 ++ leBytes 8 hMirror ++ leBytes 8 20 ++ [1]), 0, 1, mirror 1 256, [.ok (zeros 4096
      ++ tagOf (zeros 4096) (tussock.tagWant (slot 0 0 0 512) 20 |>.take 8) 0)], zeros 4096, by decide +kernel, by decide +kernel,
      by decide +kernel, by decide +kernel, by decide, by decide, ok_of (by decide +kernel), ?_⟩⟩
  have one := tskBlock_right (zeros 4096) (tagOf (zeros 4096) (tussock.tagWant (slot 0 0 0 512) 20 |>.take 8) 0) (by decide +kernel) rfl
    (tagOf_says (zeros 4096) _ 0 0 (by decide +kernel))
  have all : ∀ blk tag : Bytes, tussock.tskBlock 0 20 (.ok (blk ++ tag)) = .ok blk →
      tussock.tskBlocks 0 20 [.ok (blk ++ tag)] = .ok blk := fun blk tag h => by
    simp only [State.tskBlocks, h, Except.map, List.append_nil]
  exact all _ _ one


/-- A journal record of domain 0, of entry `eid`. -/
def jrec (ty : JTy) (st : JSt) (eid : Nat) (ack : Bool) : JRec :=
  ⟨1, ty, eid, [], 1, 2, st, true, true, ack, ack, ack, 0, 0, 0, [], none⟩

/-- A valid copy on a leaf. -/
def copyOn (i : Nat) : JCopy := ⟨some i, true, false, 0, []⟩

/-- The mirror with a label area of 128 MiB, so that its slices carry journal slots, and the journal of domain 0. -/
def slots (a b : Leaf) (more : List (Nat × Node)) (j : Journal) : State :=
  ({ tree (mirror 128 256) a b more with clk := 3 * 100000000 } : State).setJournal 0 j

/-- Two slices of two failure domains with slots. -/
def twoSlots (j : Journal) : State := slots (slot 0 0 0 33024) (slot 1 1 1 33024) [] j

theorem witness_JournalRecords :
    (∃ (s : State) (r : JRec), (s.journal 0).recs.find? (fun r => r.jseq == 1) = some r ∧ s.recAcked r = true ∧ r.ty ≠ .lost)
    ∧ (∃ (s : State) (r : JRec) (rest : List JRec), (s.journal 0).recs = r :: rest ∧ r.jseq = 1 ∧ s.recOnFlash 0 r = true)
    ∧ (∃ (s : State) (r : JRec) (e : Entry), (s.journal 0).recs.find? (fun r => r.jseq == 1 && r.st == .waiting) = some r
      ∧ s.issuesNow (s.journal 0) r = true ∧ r.since + 3 * s.par Par.jwaitMs ≤ s.clk ∧ r.eid ≠ 0 ∧ s.put r.eid = none
      ∧ s.entry r.eid = some e ∧ (s.dropRec 0 r.jseq).ez.queue = s.ez.queue)
    ∧ (∃ (s : State) (i : Nat), (s.journal 0).a.valid = true ∧ (s.journal 0).a.leaf = some i
      ∧ (∀ l, s.leaf? i = some l → l.st ≠ .online))
    ∧ (∃ (s : State) (x : Nat × Leaf), s.mayWrite 0 = true ∧ s.tskFree 0 = true ∧ s.copyMissing (s.journal 0).a = true ∧ s.copyMissing (s.journal 0).b = false
      ∧ otherCopy ((s.setJournal 0 { s.journal 0 with a := { (s.journal 0).a with leaf := none, placing := false, acks := [] } }).eligibleLeaves 0)
          (s.fdomOf ((s.journal 0).b.leaf.getD 0)) = some x)
    ∧ (∃ s : State, (s.journal 0).a.placing = true ∧ (s.journal 0).a.acks = [])
    ∧ (∃ (s : State) (r : JRec), s.copyOk (s.journal 0).a = false ∧ (s.journal 0).recs = [r] ∧ r.st ≠ .complete ∧ r.eid ≠ 0
      ∧ (s.journal 0).a.lostAt = 0 ∧ (s.journal 0).b.lostAt = 0 ∧ r.since + 3 * s.par Par.jwaitMs ≤ s.clk)
    ∧ (∃ (s : State) (x : Nat × Leaf), (s.journal 0).samefd = true ∧ s.copyOk (s.journal 0).a = true ∧ s.copyOk (s.journal 0).b = true
      ∧ (s.journal 0).newB.leaf = none ∧ s.mayWrite 0 = true ∧ s.tskFree 0 = true
      ∧ (s.eligibleLeaves 0).find? (fun e => e.2.fdom != s.fdomOf ((s.journal 0).a.leaf.getD 0)) = some x) := by
  refine ⟨⟨twoSlots { Journal.empty with recs := [jrec .smallWrite .issued 0 true] }, _, rfl, by decide +kernel, by decide⟩,
    ⟨twoSlots { Journal.empty with recs := [jrec .smallWrite .complete 0 true] }, _, _, rfl, rfl, by decide +kernel⟩,
    ⟨cmdAt (twoSlots { Journal.empty with recs := [jrec .place .waiting 1 false] }) 0x1009 0 [], _, _, rfl, by decide +kernel,
      by decide +kernel, by decide, rfl, rfl, rfl⟩,
    ⟨slots { slot 0 0 0 33024 with st := .failed } (slot 1 1 1 33024) [] { Journal.empty with a := copyOn 2 }, 2, rfl, rfl, fun l h => ?_⟩,
    ⟨twoSlots { Journal.empty with b := copyOn 3 }, (2, slot 0 0 0 33024), by decide +kernel⟩,
    ⟨twoSlots { Journal.empty with a := ⟨some 2, false, true, 0, []⟩ }, rfl, rfl⟩,
    ⟨twoSlots { Journal.empty with recs := [jrec .delete .waiting 1 false] }, _, by decide +kernel, rfl, by decide, by decide, rfl, rfl, by decide +kernel⟩,
    ⟨slots (slot 0 0 0 33024) (slot 1 1 0 33024) [(4, .leaf ⟨.online, 2, 0, 2, 1, 0, 0, 33024, 0, false, false⟩)]
      { Journal.empty with a := copyOn 2, b := copyOn 3, samefd := true }, (4, ⟨.online, 2, 0, 2, 1, 0, 0, 33024, 0, false, false⟩),
      by decide +kernel⟩⟩
  have f : ((slots { slot 0 0 0 33024 with st := .failed } (slot 1 1 1 33024) [] { Journal.empty with a := copyOn 2 }).leaf? 2).all
    (fun l => l.st != .online) = true := by decide +kernel
  rw [h] at f
  exact bne_iff_ne.mp f

/-- A mirror whose first slice is REBUILDING from stripe `n`. -/
def rebuild (g : Group) (n : Nat) (hold : Bool) : State :=
  tree g { slot 0 0 0 512 with st := .rebuilding, rbNext := n, hold := hold } (slot 1 1 1 512) []

/-- A mirror whose first slice has FAILED, with a spare attached as node 4. -/
def failedLeaf : State :=
  tree { mirror 1 256 with spares := [4] } { slot 0 0 0 512 with st := .failed } (slot 1 1 1 512)
    [(4, .leaf ⟨.spare, 2, 0, 0xFF, 2, 0, 0, 512, 0, false, false⟩)]

/-- A mirror in a reshape to K = 2. -/
def reshaping (st next : Nat) : State :=
  tree { mirror 1 256 with reshape := ⟨st, 1, 1, 2, 2, next, 64⟩, members := [2, 3, 4] } (slot 0 0 0 512) (slot 1 1 1 512)
    [(4, .leaf (slot 2 2 2 512))]

/-- A RESHAPE_START of the mirror to K = 2 with one slice more. -/
def reshapeCmd : State := blkAt small 0x1007 hMirror ([1, 2, 1] ++ zeros 61 ++ memberEntry 2)

theorem witness_RebuildAndReshape :
    (∃ (s u : State) (leaf : Nat) (l : Leaf) (g : Group) (n : Nat) (ns : List Nat), s.leaf? leaf = some l ∧ (l.st = .failed ∨ l.st = .missing)
      ∧ s.par Par.autoSpare = 1 ∧ s.owns (s.rootDom (s.rootOf leaf)) = true ∧ s.group? l.parent = some g ∧ s.spareFor l.parent g = some n
      ∧ s.takeSpare l.parent leaf n = (u, ns))
    ∧ (∃ (s : State) (leaf : Nat) (l : Leaf) (g : Group), s.leaf? leaf = some l ∧ (l.st = .failed ∨ l.st = .missing)
      ∧ s.par Par.autoSpare = 1 ∧ s.owns (s.rootDom (s.rootOf leaf)) = true ∧ s.group? l.parent = some g ∧ s.spareFor l.parent g = none)
    ∧ (∃ (s u : State) (e : Entry) (gi i n : Nat) (g : Group) (l : Leaf) (ns : List Nat), (s.markBegun 1).groupOf e.h = some (gi, g)
      ∧ (s.markBegun 1).groupGate g.dom (some ((s.markBegun 1).rootOf gi)) = none ∧ s.Starts 1 0x1005 e ∧ g.members[e.p 0 1]? = some i
      ∧ s.leaf? i = some l ∧ e.p 4 4 = noNode ∧ (l.st = .failed ∨ l.st = .missing) ∧ (s.markBegun 1).spareFor gi g = some n
      ∧ (s.markBegun 1).takeSpare gi i n = (u, ns))
    ∧ (∃ (s : State) (e : Entry) (gi x : Nat) (g : Group) (xs : List Nat), (s.markBegun 1).groupOf e.h = some (gi, g)
      ∧ (s.markBegun 1).groupGate g.dom (some ((s.markBegun 1).rootOf gi)) = none ∧ s.Starts 1 0x1006 e ∧ e.p 0 1 = 0
      ∧ ((s.markBegun 1).rebuilding g).map (fun x => x.2.rbNext) = x :: xs)
    ∧ (∃ (s : State) (e : Entry) (gi : Nat) (g : Group) (out : List (Nat × LostEntry)), (s.markBegun 1).groupOf e.h = some (gi, g)
      ∧ (s.markBegun 1).groupGate g.dom (some ((s.markBegun 1).rootOf gi)) = none ∧ s.Starts 1 0x1009 e ∧ g.outermost = true
      ∧ e.p 8 8 % 64 = 0 ∧ 1 ≤ e.p 4 4 ∧ e.p 4 4 ≤ 65536 ∧ e.ring ≠ 1023
      ∧ out = (usedLost (s.tree gi).lostList (e.p 0 4)).take (e.p 4 4))
    ∧ (∃ (s : State) (gi x : Nat) (g : Group) (xs : List Nat), s.group? gi = some g
      ∧ ((s.rebuilding g).filter fun x => !x.2.hold).map (fun x => x.2.rbNext) = x :: xs ∧ s.passMay gi g = true
      ∧ s.owns g.dom = true ∧ s.basicFree (instKey 6 g.dom) = true
      ∧ s.locked (s.rootOf gi) (s.lift gi (xs.foldl min x * (g.geoOfStripe (xs.foldl min x)).d)) = false)
    ∧ (∃ (s u : State) (e : Entry) (gi fresh : Nat) (g h : Group) (lab : List Bool) (ms : List Member), (s.markBegun 1).groupOf e.h = some (gi, g)
      ∧ (s.markBegun 1).groupGate g.dom (some ((s.markBegun 1).rootOf gi)) = none ∧ s.Starts 1 0x1007 e ∧ ms = e.members (e.p 2 1)
      ∧ 64 + 32 * e.p 2 1 ≤ e.area.length ∧ reshapeOk g (e.p 0 1) (e.p 1 1) = true ∧ e.p 0 1 + e.p 1 1 = g.m + g.k + ms.length
      ∧ (s.markBegun 1).judgeAdded gi g ms lab = none ∧ g.st = .optimal ∧ (s.markBegun 1).treeBusy ((s.markBegun 1).rootOf gi) = false
      ∧ fresh = ceilDiv (e.p 0 1 + e.p 1 1) 12 - g.lists.length + (ms.filter fun m => m.kind == 0).length ∧ fresh ≤ (s.markBegun 1).nodesFree
      ∧ imageFits ((s.markBegun 1).labelBlocks ((s.markBegun 1).rootOf gi) / 256)
        (((s.markBegun 1).treeNodes ((s.markBegun 1).rootOf gi)).length + fresh + (s.markBegun 1).memberNodes ms) = true
      ∧ u = (s.markBegun 1).beginReshape gi g (e.p 0 1) (e.p 1 1) ms ∧ u.group? gi = some h)
    ∧ (∃ (s : State) (e : Entry) (gi : Nat) (g : Group), (s.markBegun 1).groupOf e.h = some (gi, g)
      ∧ (s.markBegun 1).groupGate g.dom (some ((s.markBegun 1).rootOf gi)) = none ∧ s.Starts 1 0x1008 e)
    ∧ (∃ (s : State) (gi : Nat) (g : Group), s.group? gi = some g ∧ s.mayReshape g = true ∧ g.reshape.st = 1 ∧ s.stepBlocked gi g = false
      ∧ g.st = .optimal ∧ g.parity = false)
    ∧ (∃ (s : State) (gi : Nat) (g : Group), s.group? gi = some g ∧ s.mayReshape g = true ∧ g.reshape.st = 2 ∧ g.reshape.next < g.stripes
      ∧ g.st = .optimal)
    ∧ (∃ (s : State) (gi : Nat) (g : Group), s.group? gi = some g ∧ s.mayReshape g = true ∧ g.reshape.st = 2 ∧ g.stripes ≤ g.reshape.next)
    ∧ (∃ (s : State) (gi : Nat) (g : Group), s.group? gi = some g ∧ s.mayReshape g = true ∧ g.reshape.st = 3 ∧ g.st = .optimal) := by
  obtain ⟨h, hh⟩ := Option.isSome_iff_exists.mp (show ((((reshapeCmd.markBegun 1).beginReshape 0 (mirror 1 256) 1 2 [memberOf (memberEntry 2)]).group?
    0).isSome = true) by decide +kernel)
  refine ⟨⟨failedLeaf, _, 2, _, _, 4, _, rfl, Or.inl rfl, by decide +kernel, by decide +kernel, rfl, by decide +kernel, rfl⟩,
    ⟨tree (mirror 1 256) { slot 0 0 0 512 with st := .missing } (slot 1 1 1 512) [], 2, _, _, rfl, Or.inr rfl, by decide +kernel,
      by decide +kernel, rfl, by decide +kernel⟩,
    ⟨cmdAt failedLeaf 0x1005 hMirror [0, 0, 0, 0, 0xFF, 0xFF, 0xFF, 0xFF], _, _, _, 2, 4, _, _, _, rfl, by decide +kernel, rfl, rfl, rfl,
      by decide, Or.inl rfl, by decide +kernel, rfl⟩,
    ⟨cmdAt (rebuild (mirror 1 256) 9 true) 0x1006 hMirror [0], _, _, 9, _, [], rfl, by decide +kernel, rfl, rfl, by decide +kernel⟩,
    ⟨cmdAt (small.setTree 0 { Tree.fresh with lostList := [none, some ⟨hMirror, 3, 1, 1, 0, 0⟩] }) 0x1009 hMirror [0, 0, 0, 0, 0, 0, 1], _, _, _, _, rfl,
      by decide +kernel, rfl, rfl, by decide, by decide, by decide, by decide, rfl⟩,
    ⟨rebuild (mirror 1 256) 9 false, 0, 9, _, [], rfl, by decide +kernel, by decide +kernel, by decide +kernel, by decide +kernel, by decide +kernel⟩,
    ⟨reshapeCmd, _, _, 0, 1, mirror 1 256, h, [], [memberOf (memberEntry 2)], rfl, by decide +kernel, rfl, rfl, by decide +kernel, by decide +kernel,
      by decide +kernel, by decide +kernel, rfl, by decide +kernel, by decide +kernel, by decide +kernel, by decide +kernel, rfl, hh⟩,
    ⟨cmdAt small 0x1008 hMirror [], _, _, _, rfl, by decide +kernel, rfl⟩,
    ⟨reshaping 1 0, 0, _, rfl, by decide +kernel, rfl, by decide +kernel, rfl, rfl⟩,
    ⟨reshaping 2 63, 0, _, rfl, by decide +kernel, rfl, by decide +kernel, rfl⟩, ⟨reshaping 2 64, 0, _, rfl, by decide +kernel, rfl, by decide +kernel⟩,
    ⟨reshaping 3 7, 0, _, rfl, by decide +kernel, rfl, rfl⟩⟩


/-! ### Tape -/

/-- A part with transport 0 as given, and the boundary count far on. -/
def deck (x : Tape) : State := { pool with tape0 := x, clk := 3 * 100000000 }

/-- A mounted transport at rest. -/
def atRest : Tape := { Tape.reset with mst := .mounted }

/-- The transport's handle: the mount count and SERIAL are 0. -/
def hDeck : Nat := 0

/-- The header of a cartridge memory, of a format version, with 2 wraps and the shortest data area. -/
def cmHeader (v : Byte) : Bytes := padTo ([v] ++ zeros 15 ++ [2] ++ zeros 3 ++ leBytes 4 2450 ++ leBytes 4 16850) 252

/-- A cartridge memory whose header has a right CRC. -/
def goodCm (v : Byte) : Bytes := cmHeader v ++ leBytes 4 (crc32c (cmHeader v))

/-- The header's CRC passes. -/
theorem goodCm_crc (v : Byte) : (leAt (goodCm v) 0xFC 4 != crc32c (padTo (goodCm v) 0xFC)) = false := by
  have hl : (cmHeader v).length = 252 := padTo_length _ _
  have hg := leVal_four (crc32c (cmHeader v)) (BitVec.isLt _)
  have h4 : ∀ w, (leBytes 4 w).length = 4 := fun _ => rfl
  have h1 : slice (goodCm v) 0xFC 4 = leBytes 4 (crc32c (cmHeader v)) := by
    unfold slice goodCm
    rw [List.drop_left' hl, List.take_of_length_le (Nat.le_of_eq (h4 _))]
  have h2 : padTo (goodCm v) 0xFC = cmHeader v := by
    have : (goodCm v).length = 256 := by unfold goodCm; rw [List.length_append, hl, h4]
    unfold padTo
    rw [this, show zeros (0xFC - 256) = [] from rfl, List.append_nil]
    exact List.take_left' hl
  unfold leAt
  rw [h1, h2, hg]
  exact bne_self_eq_false _

/-- Fields below its end are those of the header. -/
theorem leAt_append (h y : Bytes) (lo n : Nat) (hn : lo + n ≤ h.length) : leAt (h ++ y) lo n = leAt h lo n := by
  unfold leAt slice
  rw [List.drop_append_of_le_length (by omega), List.take_append_of_le_length (by rw [List.length_drop]; omega)]

theorem goodCm_ok : cmBad (goodCm 0) = none := by
  unfold cmBad
  rw [goodCm_crc]
  unfold goodCm
  repeat rw [leAt_append _ _ _ _ (by decide +kernel)]
  rw [show decide (leAt (cmHeader 0) 0 1 = 1) = false by decide +kernel, Bool.false_and]
  decide +kernel

theorem badCm_bad : cmBad (goodCm 2) = some 0x1801 := by
  unfold cmBad
  rw [goodCm_crc]
  unfold goodCm
  rw [leAt_append _ _ 0 1 (by decide +kernel), show decide (1 < leAt (cmHeader 2) 0 1) = true by decide +kernel]
  rfl

/-- A position word of LAD 1 with a right CRC. -/
def posWord : BitVec 64 := 16285016256883460868

theorem witness_CartridgeLife :
    (∃ (s : State) (e : Entry) (cm : Bytes), s.part.t2 = true ∧ s.Starts 1 0x2001 e ∧ e.p 0 1 = 0 ∧ (s.tape 0).mst = .none
      ∧ (s.markBegun 1).basicFree (instKey 7 0) = true ∧ cmBad cm = none)
    ∧ (∃ (s : State) (e : Entry) (cm : Bytes) (dt : Nat), s.Starts 1 0x2001 e ∧ e.p 0 1 = 0 ∧ (s.tape 0).mst = .none
      ∧ (s.markBegun 1).basicFree (instKey 7 0) = true ∧ cmBad cm = some dt)
    ∧ (∃ s : State, s.part.t2 = true ∧ (s.tape 0).mst = .loading ∧ (s.tape 0).since + 90000 ≤ s.clk)
    ∧ (∃ s : State, s.part.t2 = true ∧ (s.tape 0).mst = .unloading)
    ∧ (∃ (s : State) (w : BitVec 64), s.part.t2 = true ∧ fieldOf w.toNat 63 56 = 0xE2 ∧ fieldOf w.toNat 27 24 = 1 ∧ posCrcOk w.toNat = true
      ∧ fieldOf w.toNat 31 28 = (s.tape 0).wrap / 32 ∧ s.tReverse 0 = false ∧ s.servoLocked 0 = true
      ∧ (s.tape 0).lastWord = some (fieldOf w.toNat 55 32 - 1, (s.tape 0).wrap / 32) ∧ 1 ≤ fieldOf w.toNat 55 32)
    ∧ (∃ s : State, s.part.t2 = true ∧ (s.tape 0).mst = .calibrating ∧ (s.tape 0).cmDirty = false)
    ∧ (∃ (s : State) (e : Entry), s.part.t2 = true ∧ s.Starts 1 0x2002 e ∧ (s.markBegun 1).cartridge e.h = some 0 ∧ (s.tape 0).mst = .mounted
      ∧ (s.markBegun 1).basicFree (instKey 7 0) = true ∧ (s.tape 0).job = none ∧ (s.tape 0).cmDirty = false)
    ∧ (∃ s : State, s.part.t2 = true ∧ (s.tape 0).mst = .rewinding ∧ s.rbit (Reg.wdrStatus 0) 15 = true ∧ (s.tape 0).speed = 0 ∧ (s.tape 0).goal = 0)
    ∧ (∃ s : State, s.part.t2 = true ∧ (s.tape 0).mst ≠ .none ∧ (s.tape 0).statusAt + 6 ≤ s.clk) := by
  unfold State.Starts
  exact ⟨⟨cmdAt (deck Tape.reset) 0x2001 0 [0], _, goodCm 0, rfl, rfl, rfl, rfl, by decide +kernel, goodCm_ok⟩,
    ⟨cmdAt (deck Tape.reset) 0x2001 0 [0], _, goodCm 2, 0x1801, rfl, rfl, rfl, by decide +kernel, badCm_bad⟩,
    ⟨deck { Tape.reset with mst := .loading }, by decide +kernel⟩, ⟨deck { Tape.reset with mst := .unloading }, by decide +kernel⟩,
    ⟨(deck { Tape.reset with lastWord := some (0, 0) }).setRbit (Reg.glnSrvStatus 0) 0 true, posWord, by decide +kernel⟩,
    ⟨deck { Tape.reset with mst := .calibrating }, by decide +kernel⟩,
    ⟨cmdAt (deck atRest) 0x2002 hDeck [], _, rfl, rfl, by decide +kernel⟩,
    ⟨(deck { Tape.reset with mst := .rewinding }).setRbit (Reg.wdrStatus 0) 15 true, by decide +kernel⟩,
    ⟨deck atRest, by decide +kernel⟩⟩

theorem witness_TapeJobs :
    (∀ code ∈ [0x2003, 0x2004], ∃ (s : State) (e : Entry), s.part.t2 = true ∧ s.Starts 1 code e ∧ (s.markBegun 1).cartridge e.h = some 0
      ∧ (s.tape 0).mst = .mounted ∧ (s.markBegun 1).basicFree (instKey 7 0) = true ∧ (s.tape 0).queue.length < 16 ∧ e.p 0 1 = 0
      ∧ 1 ≤ e.p 4 4 ∧ e.p 4 4 ≤ 2046 ∧ 64 + 32 * e.p 4 4 ≤ e.area.length)
    ∧ (∃ (s : State) (e : Entry), s.part.t2 = true ∧ s.Starts 1 0x2005 e ∧ (s.markBegun 1).cartridge e.h = some 0
      ∧ (s.tape 0).mst = .mounted ∧ (s.markBegun 1).basicFree (instKey 7 0) = true ∧ (s.tape 0).queue.length < 16)
    ∧ (∃ (s : State) (e : Entry), s.part.t2 = true ∧ s.Starts 1 0x2006 e ∧ (s.markBegun 1).cartridge e.h = some 0
      ∧ (s.tape 0).mst = .mounted ∧ (s.markBegun 1).basicFree (instKey 7 0) = true ∧ (s.tape 0).queue.length < 16 ∧ e.p 0 1 ≤ 1
      ∧ e.p 8 16 < 2 ^ (s.tape 0).cmWraps)
    ∧ (∃ (s : State) (j : TJob) (rest : List TJob), s.part.t2 = true ∧ (s.tape 0).queue = j :: rest ∧ (s.tape 0).mst = .mounted
      ∧ (s.tape 0).job = none ∧ (s.tape 0).recalRun = false ∧ s.basicFree (instKey 7 0) = true ∧ s.wState 0 = 1)
    ∧ (∃ s : State, s.part.t2 = true ∧ (s.tape 0).mst = .mounted ∧ (s.tape 0).job = none ∧ (s.tape 0).queue = [] ∧ (s.tape 0).recalRun = false
      ∧ s.rbit (Reg.glnStatus 0) 4 = false ∧ s.wState 0 = 1 ∧ (s.tape 0).idleSince + 3 * (1000 * s.par Par.tapeIdleS) ≤ s.clk
      ∧ s.basicFree (instKey 7 0) = true ∧ (s.tape 0).bgDsn < (s.tape 0).nextDsn)
    ∧ (∃ s : State, s.part.t2 = true ∧ s.rbit (Reg.glnStatus 0) 4 = true ∧ s.calIdle 0 = true)
    ∧ (∃ (s : State) (k : Nat), s.part.t2 = true ∧ (s.tape 0).mst = .mounted ∧ (s.tape 0).paused = false ∧ (s.tape 0).recalRun = false
      ∧ 0 < s.par Par.recalForceS ∧ (s.tape 0).staleSince = some k ∧ k + 3 * (1000 * s.par Par.recalForceS) ≤ s.clk ∧ s.wState 0 = 1)
    ∧ (∃ s : State, s.part.t2 = true ∧ 8 ≤ s.thm.bandRun ∧ s.thm.band ≠ s.thm.cls) := by
  unfold State.Starts
  refine ⟨?_, ⟨cmdAt (deck atRest) 0x2005 hDeck [], _, rfl, rfl, by decide +kernel⟩,
    ⟨cmdAt (deck { atRest with cm := [⟨0x10, 2⟩] }) 0x2006 hDeck [1, 0, 0, 0, 0, 0, 0, 0, 3], _, rfl, rfl, by decide +kernel⟩,
    ⟨(deck { atRest with queue := [TJob.blank 1 .verify] }).setRf (Reg.wdrStatus 0) 2 0 1, _, _, rfl, rfl, by decide +kernel⟩,
    ⟨(deck { atRest with nextDsn := 1 }).setRf (Reg.wdrStatus 0) 2 0 1, by decide +kernel⟩,
    ⟨(deck atRest).setRbit (Reg.glnStatus 0) 4 true, by decide +kernel⟩,
    ⟨(deck { atRest with staleSince := some 0 }).setRf (Reg.wdrStatus 0) 2 0 1, 0, by decide +kernel⟩,
    ⟨{ deck atRest with thm := { pool.thm with bandRun := 8, band := 3, cls := 2 } }, by decide +kernel⟩⟩
  intro code h
  simp only [List.mem_cons, List.not_mem_nil, or_false] at h
  rcases h with rfl | rfl
  · exact ⟨blkAt (deck atRest) 0x2003 hDeck ([0, 0, 0, 0, 1] ++ zeros 91), _, rfl, rfl, by decide +kernel⟩
  · exact ⟨blkAt (deck atRest) 0x2004 hDeck ([0, 0, 0, 0, 1] ++ zeros 91), _, rfl, rfl, by decide +kernel⟩

/-- Transport 0 mounted, its instance running one descriptor. -/
def deckRuns : State := runs (deck atRest) 7 0

/-- A descriptor of a transport: operation, a byte, length at byte 24, and a data set number at byte 32. -/
def wdesc (op b1 n dsn : Nat) : Bytes := padTo ([byteOf op, byteOf b1] ++ zeros 22 ++ leBytes 8 n ++ leBytes 4 dsn) 64

theorem witness_CartridgeMemoryAndDescriptors :
    (∃ (s : State) (e : Entry), s.part.t2 = true ∧ (s.tape 0).mst = .mounted ∧ s.Starts 1 0x2007 e ∧ (s.markBegun 1).cartridge e.h = some 0
      ∧ (s.markBegun 1).basicFree (instKey 7 0) = true ∧ e.ring ≠ 1023 ∧ cmRangeBad (e.p 0 4) (e.p 4 4) 0 = false)
    ∧ (∃ (s : State) (e : Entry), s.part.t2 = true ∧ (s.tape 0).mst = .mounted ∧ s.Starts 1 0x2008 e ∧ (s.markBegun 1).cartridge e.h = some 0
      ∧ (s.markBegun 1).basicFree (instKey 7 0) = true ∧ e.ring ≠ 1023 ∧ cmRangeBad (e.p 0 4) (e.p 4 4) 0xA000 = false)
    ∧ (∃ (s : State) (e : Entry), s.part.t2 = true ∧ (s.tape 0).mst = .mounted ∧ s.Starts 1 0x2009 e ∧ (s.markBegun 1).cartridge e.h = some 0)
    ∧ (∃ (s : State) (d src : Bytes), s.part.t2 = true ∧ (s.tape 0).mst = .mounted ∧ src.length = 8388608 ∧ s.Runs (instKey 7 0) 1 d
      ∧ wdrJudge d 1 = false ∧ 10048 * 1024 ≤ leAt d 24 8)
    ∧ (∃ (s : State) (d src : Bytes), s.part.t2 = true ∧ (s.tape 0).mst = .mounted ∧ src.length = 8388608 ∧ s.Runs (instKey 7 0) 2 d
      ∧ wdrJudge d 2 = false ∧ s.writable 0 = true ∧ leAt d 1 1 = 1)
    ∧ (∃ (s : State) (d src : Bytes), s.part.t2 = true ∧ (s.tape 0).mst = .mounted ∧ src.length = 8388608 ∧ s.Runs (instKey 7 0) 3 d
      ∧ wdrJudge d 3 = false ∧ 8388608 + 10048 ≤ leAt d 24 8 ∧ bitAt (leAt d 36 1) 0 = false)
    ∧ (∃ (s : State) (d src : Bytes), s.part.t2 = true ∧ (s.tape 0).mst = .mounted ∧ src.length = 8388608 ∧ s.Runs (instKey 7 0) 4 d
      ∧ wdrJudge d 4 = false ∧ leAt d 32 4 < (s.tape 0).nextDsn) := by
  have n : (zeros 8388608).length = 8388608 := List.length_replicate
  unfold State.Starts State.Runs
  exact ⟨⟨cmdAt (deck atRest) 0x2007 hDeck (leBytes 4 61440 ++ leBytes 4 4096), _, rfl, rfl, rfl, by decide +kernel⟩,
    ⟨cmdAt (deck atRest) 0x2008 hDeck (leBytes 4 40960 ++ leBytes 4 4), _, rfl, rfl, rfl, by decide +kernel⟩,
    ⟨cmdAt (deck atRest) 0x2009 hDeck [], _, rfl, rfl, rfl, by decide +kernel⟩,
    ⟨deckRuns, wdesc 1 0 (10048 * 1024) 0, zeros 8388608, rfl, rfl, n, by decide +kernel⟩,
    ⟨deckRuns, wdesc 2 1 0 0, zeros 8388608, rfl, rfl, n, by decide +kernel⟩,
    ⟨deckRuns, wdesc 3 0 (8388608 + 10048) 0, zeros 8388608, rfl, rfl, n, by decide +kernel⟩,
    ⟨runs (deck { atRest with nextDsn := 1 }) 7 0, wdesc 4 0 0 0, zeros 8388608, rfl, rfl, n, by decide +kernel⟩⟩


/-- A transport in a state of WDR_STATUS. -/
def deckIn (w : Nat) (x : Tape) : State := (deck x).setRf (Reg.wdrStatus 0) 2 0 w

/-- A host record's place, its data sets written. -/
def hostRec : TRec := { TRec.blank 1 with rseq := 9, host := true, locAddr := 64 }

/-- A transport on the data area, locked and within its speed, all write conditions holding. -/
def onArea (x : Tape) : State :=
  (((((deckIn 2 { x with mst := .mounted, tensionOk := true, cm := [⟨0x14, 16⟩, ⟨0x18, 32⟩] }).setRbit (Reg.glnSrvStatus 0) 0 true).setRbit
    (Reg.glnSrvStatus 0) 5 true).setRf (Reg.glnSrvLad 0) 23 0 20).setRbit (Reg.glnStatus 0) 5 true).setRbit (Reg.glnSrvWg 0) 0 true

theorem witness_TapeWriting :
    (∃ (s u : State), s.part.t2 = true ∧ ((s.tape 0).job.any fun j => j.kind == .migrate) = true ∧ s.wState 0 = 4
      ∧ (s.tape 0).recalRun = false ∧ (s.tape 0).mst = .mounted ∧ s.rbit (Reg.wdrStatus 0) 15 = false ∧ u = State.intake 0 [] s
      ∧ (u.tape 0).plan ≠ .eodOut ∧ (u.tape 0).toWrite = true ∧ ((u.tape 0).inputEnded = true ∨ u.par Par.startPct ≤ (u.tape 0).fillPct))
    ∧ (∃ s : State, s.part.t2 = true ∧ s.wState 0 = 4 ∧ (s.tape 0).placed = true ∧ s.rbit (Reg.wdrStatus 0) 15 = false
      ∧ (s.tape 0).goal ≠ 0 ∧ (s.tape 0).recalRun = false)
    ∧ (∃ (s : State) (sds cwi : Nat), s.part.t2 = true ∧ sds < 64 ∧ cwi < 157)
    ∧ (∀ w ∈ [2, 5, 6], ∃ s : State, s.part.t2 = true ∧ s.wState 0 = w)
    ∧ (∃ s : State, s.part.t2 = true ∧ s.wState 0 = 2 ∧ (s.tape 0).cur = none ∧ 4 ≤ (s.tape 0).fillers)
    ∧ (∃ (s : State) (k : Nat), s.part.t2 = true ∧ (s.tape 0).shortSince = some k ∧ k + 6000 ≤ s.clk ∧ (s.tape 0).badAhead = false
      ∧ (s.tape 0).stream.length < 8388608 ∧ (s.tape 0).inputEnded = false ∧ (s.tape 0).cur = none)
    ∧ (∃ s : State, s.part.t2 = true ∧ s.wState 0 = 2 ∧ (s.tape 0).cur = none ∧ (s.tape 0).plan = .go ∧ s.wrapFull 0 = true)
    ∧ (∃ (s : State) (r : TRec) (e : Entry), s.part.t2 = true ∧ (s.tape 0).recs.find? (fun r => r.rseq == 9 && !r.pad) = some r
      ∧ (s.tape 0).recPassed r = true ∧ r.host = true ∧ s.entry r.eid = some e)
    ∧ (∃ s : State, s.part.t2 = true ∧ (s.tape 0).mst = .mounted ∧ (s.tape 0).plan = .eodOut ∧ (s.tape 0).cur = none
      ∧ ∀ w ∈ (s.tape 0).sets, w.done = true)
    ∧ (∃ s : State, s.part.t2 = true ∧ s.rbit (Reg.wdrStatus 0) 3 = false ∧ s.gateOk 0 = true
      ∧ max 1 (s.rf (Reg.glnSrvWi 0) 15 12) ≤ (s.tape 0).okRun ∧ (s.tape 0).cur.isSome = true ∧ (s.tape 0).inhibit = none) := by
  refine ⟨⟨deckIn 4 { atRest with job := some (TJob.blank 1 .migrate), redo := [1] }, _, rfl, rfl, by decide +kernel, rfl, rfl, by decide +kernel, rfl,
      by decide +kernel, by decide +kernel, by decide +kernel⟩,
    ⟨deckIn 4 { atRest with placed := true, goal := 5600 }, by decide +kernel⟩, ⟨deck atRest, 63, 156, by decide +kernel⟩,
    fun w h => ⟨deckIn w atRest, rfl, ?_⟩, ⟨deckIn 2 { atRest with fillers := 4 }, by decide +kernel⟩,
    ⟨deckIn 2 { atRest with shortSince := some 0 }, 0, by decide +kernel⟩,
    ⟨onArea { atRest with wrap := 0 } |>.setRf (Reg.glnSrvLad 0) 23 0 32, by decide +kernel⟩,
    ⟨cmdAt (deckIn 2 { atRest with recs := [hostRec] }) 0x2003 0 [], _, _, rfl, rfl, by decide +kernel, rfl, rfl⟩,
    ⟨deckIn 2 { atRest with plan := .eodOut }, rfl, rfl, rfl, rfl, by decide +kernel⟩,
    ⟨onArea { atRest with okRun := 15, cur := some 1 }, by decide +kernel⟩⟩
  simp only [List.mem_cons, List.not_mem_nil, or_false] at h
  rcases h with rfl | rfl | rfl <;> decide +kernel

theorem witness_ServoAndReels :
    (∃ s : State, s.part.t2 = true ∧ (s.tape 0).mst = .mounted)
    ∧ (∃ s : State, s.part.t2 = true ∧ s.servoLocked 0 = false ∧ 8 ≤ (s.tape 0).goodRun)
    ∧ (∃ s : State, s.part.t2 = true ∧ s.servoLocked 0 = true ∧ 4 ≤ (s.tape 0).badRun ∧ s.rbit (Reg.glnSrvErr 0) 31 = false)
    ∧ (∃ s : State, s.part.t2 = true ∧ s.rbit (Reg.wdrStatus 0) 3 = true ∧ s.gateOk 0 = false ∧ s.wState 0 = 2
      ∧ (s.onTrack 0 = false ∨ s.inArea 0 = false))
    ∧ (∃ s : State, s.part.t2 = true ∧ (s.tape 0).speed ≤ (s.tape 0).goal) :=
  ⟨⟨deck atRest, rfl, rfl⟩, ⟨deck { atRest with goodRun := 8 }, by decide +kernel⟩,
    ⟨(deck { atRest with badRun := 4 }).setRbit (Reg.glnSrvStatus 0) 0 true, by decide +kernel⟩,
    ⟨(deckIn 2 atRest).setRbit (Reg.wdrStatus 0) 3 true, by decide +kernel⟩, ⟨deck atRest, by decide +kernel⟩⟩


/-- A tape record of host data with no bytes, in a data set read. -/
def readRecord : RSet := ⟨knData, tapeHeader 2 0 1 [], 0, false⟩

/-- A transport in a recall of one record of data set 1. -/
def recalling (x : Tape) : Tape :=
  { x with mst := .mounted, job := some { TJob.blank 1 .recall with host := true, entries := [⟨0, 64, 0, 0, 1, 0, none⟩] } }

/-- A frame header of data set 3 with a right CRC. -/
def frameHead : BitVec 64 := 12884935338

/-- A frame whose sync mark 1 stands where it is looked for. -/
def rx : RxFrame := ⟨100, [(100, 0, frameHead)], [], []⟩

/-- A track that has recentred. -/
def trackOn : Trk := { Trk.reset with centred := true, lock := true }

theorem witness_GleanerReading :
    (∃ s : State, s.part.t2 = true ∧ s.speedOk 0 = true)
    ∧ (∃ (s : State) (k : Fin 64), s.part.t2 = true ∧ (s.trk 0 k).centred = true ∧ s.speedOk 0 = true ∧ s.rbit (Reg.glnErr 0) 31 = false)
    ∧ (∃ (s : State) (k : Fin 64), s.part.t2 = true ∧ (s.trk 0 k).lock = true ∧ s.rbit (Reg.glnErr 0) 31 = false)
    ∧ (∃ (s : State) (k : Fin 64) (f : RxFrame) (p : Nat) (h : BitVec 64), s.part.t2 = true ∧ s.speedOk 0 = true ∧ (s.trk 0 k).centred = true
      ∧ (s.trk 0 k).erased = false ∧ s.rf (Reg.glnStatus 0) 2 0 = 2 ∧ (s.trk 0 k).frame f = .sm1 p h)
    ∧ (∃ s : State, s.part.t2 = true ∧ s.speedOk 0 = true ∧ s.rf (Reg.glnSrvPes 0) 31 16 < 1450 ∧ KMap.get? (s.tape 0).tracks 63 ≠ none)
    ∧ (∃ (s : State) (f : RecFrame) (rest : List RecFrame), s.part.t2 = true ∧ (s.tape 0).recQ = f :: rest
      ∧ (s.tape 0).hasWord f.dsn f.sds f.cwi f.wp = false ∧ s.rf (Reg.glnStatus 0) 2 0 = 4)
    ∧ (∃ s : State, s.part.t2 = true ∧ s.wState 0 = 5 ∧ (s.tape 0).rereads < s.rf (Reg.glnRec 0) 19 16
      ∧ KMap.get? (s.tape 0).got (s.readDsn 0) = none ∧ s.readDsn 0 ∉ (s.tape 0).lost
      ∧ restoreSet (s.tape 0).words (s.tape 0).wp (s.readDsn 0) = none)
    ∧ (∃ (s : State) (j : TJob) (e : TEntry) (rest : List TEntry) (r : FoundRec), s.part.t2 = true ∧ (s.tape 0).job = some j ∧ j.kind = .recall
      ∧ j.entries = e :: rest ∧ (s.tape 0).recordAt e.dsn e.off = some r ∧ r.lost = true)
    ∧ (∃ (s : State) (j : TJob) (e : TEntry) (rest : List TEntry) (r : FoundRec), s.part.t2 = true ∧ (s.tape 0).job = some j ∧ j.kind = .recall
      ∧ j.entries = e :: rest ∧ (s.tape 0).recordAt e.dsn e.off = some r ∧ r.lost = false ∧ r.ok = false)
    ∧ (∃ (s : State) (j : TJob) (e : TEntry) (rest : List TEntry) (r : FoundRec) (c : Entry) (body : Bytes), s.part.t2 = true
      ∧ (s.tape 0).job = some j ∧ j.kind = .recall ∧ j.entries = e :: rest ∧ (s.tape 0).recordAt e.dsn e.off = some r ∧ r.lost = false ∧ r.ok = true
      ∧ j.host = true ∧ leAt r.head 1 1 = 2 ∧ openHost r.body = (body, true) ∧ body.length ≤ e.len ∧ s.entry j.eid = some c)
    ∧ (∃ (s : State) (z : Fin 64), s.part.t2 = true ∧ s.ladOk 0 = true ∧ (s.tape 0).zoneAt (s.finePos 0) = z.val
      ∧ s.rf (Reg.wdrPos 0) 13 8 ≠ z.val ∧ s.speedOk 0 = false ∧ (s.tape 0).zoneBad (s.tape 0).wrap z = false ∧ (s.tape 0).badAhead = false
      ∧ (s.tape 0).passWarned = true) := by
  exact ⟨⟨onArea atRest, by decide +kernel⟩, ⟨onArea { atRest with tracks := [(63, trackOn)] }, 63, by decide +kernel⟩,
    ⟨onArea { atRest with tracks := [(63, trackOn)] }, 63, by decide +kernel⟩,
    ⟨(onArea { atRest with tracks := [(63, trackOn)] }).setRf (Reg.glnStatus 0) 2 0 2, 63, rx, 100, frameHead, by decide +kernel⟩,
    ⟨(onArea { atRest with tracks := [(63, trackOn)] }).setRf (Reg.glnSrvPes 0) 31 16 1449, by decide +kernel⟩,
    ⟨(deck { atRest with recQ := [⟨0, 1, 0, 0, 0, 0, false, []⟩] }).setRf (Reg.glnStatus 0) 2 0 4, _, _, rfl, rfl, by decide +kernel⟩,
    ⟨deckIn 5 atRest, by decide +kernel⟩,
    ⟨deck (recalling { atRest with lost := [1] }), _, _, _, ⟨[], [], true⟩, rfl, rfl, rfl, rfl, by decide +kernel, rfl⟩,
    ⟨deck (recalling { atRest with got := [(1, { readRecord with payload := 1 :: zeros 31 })] }), _, _, _, ⟨1 :: zeros 31, [], false⟩, rfl, rfl, rfl, rfl, by decide +kernel, rfl,
      by decide +kernel⟩,
    ⟨cmdAt (deck (recalling { atRest with got := [(1, readRecord)] })) 0x2004 0 [], _, _, _, ⟨tapeHeader 2 0 1 [], [], false⟩, _, [], rfl, rfl, rfl, rfl,
      by decide +kernel, rfl, by decide +kernel, rfl, by decide +kernel, by decide +kernel, by decide, rfl⟩,
    ⟨(onArea { atRest with passWarned := true }).setRbit (Reg.glnStatus 0) 5 false |>.setRf (Reg.glnSrvLad 0) 23 0 31, 63, by decide +kernel⟩⟩


/-! ### Drover and the network ports -/

/-- A connection in a state, with its state resident. -/
def conn (kind : Nat) (st : ConnSt) : Conn :=
  { kind := kind, st := st, home := 0, path := 0, sub := 0, ipv := 6, xq := 0xFF, tenant := 7, rport := 4791, rcid := 1
    saltTx := zeros 4, saltRx := zeros 4, maxMsg := 4096, addrA := zeros 16, addrB := zeros 16, slot := 1, txPsn := 0, rxPsn := 0
    txc := 0, unacked := [], sinceAck := 0, nakSent := false, retries := 0, resendBusy := none, refusedBusy := none, ops := [], txq := []
    msg := [], msgKey := 0, inbox := [], resident := true, fetching := false, lastUsed := 0, parked := [], closeEid := 0, closing := false }

/-- A part with connection `c`, its key of 16 zero bytes in slot 1, and the link of port 0 up. -/
def linked (c : Nat) (x : Conn) : State :=
  { pool.onData fun d => { d with slots := [(1, ⟨zeros 16, .gcm128, .conn c⟩)] } with
    drv := { Drv.reset with conns := [(c, x)] }
    net := { Net.reset with ports := [⟨[(0, 0)], 0, 0⟩, ⟨[], 0, 0⟩] } }

/-- A live space of tenant 7 in host memory, which every connection may write and read. -/
def space (revoked : Option Nat) : Space := ⟨3, 0, 3, 7, none, 0, 0x10000, 4096, true, revoked, 1, none⟩

/-- The linked part with space 2. -/
def spaced (x : Conn) (r : Option Nat) : State := (linked 1 x).onDrv fun d => { d with spaces := [(2, space r)] }

/-- A message of Fold that has arrived: its type, then its body from byte 16 on. -/
def message (ty : Nat) (body : Bytes) : Bytes := byteOf ty :: zeros 15 ++ body

theorem witness_ConnectionsAndSpaces :
    (∃ (s u : State) (e : Entry) (c i : Nat) (k : Bytes), s.Starts 1 0x3001 e ∧ 192 ≤ e.area.length ∧ (s.markBegun 1).connBad e = false
      ∧ e.p 3 1 = 0xFF ∧ (s.markBegun 1).connId e = some c
      ∧ (s.markBegun 1).takeKey (b2n (s.markBegun 1).clearKeys) (slice e.area 96 48) .gcm256 0xFFFF 0 = (u, .ok k) ∧ u.freeSlot = some i)
    ∧ (∃ (s : State) (e : Entry) (c : Nat) (x : Conn), s.Starts 1 0x3002 e ∧ c = e.h % 2 ^ 32 ∧ c ≠ 0 ∧ s.conn c = some x ∧ x.closing = false
      ∧ x.st = .established ∧ x.ops = [] ∧ x.txq = [] ∧ x.unacked = [] ∧ s.drv.spaces = [] ∧ s.drv.offers = [] ∧ s.data.puts = []
      ∧ s.data.slots = [])
    ∧ (∃ (s : State) (e : Entry) (x : Conn), s.Starts 1 0x3003 e ∧ s.conn (e.h % 2 ^ 32) = some x)
    ∧ (∃ (s : State) (e : Entry) (i : Nat), s.Starts 1 0x3004 e ∧ (s.markBegun 1).spaceBad e = false ∧ s.drv.spaceEntry = some i)
    ∧ (∃ (s : State) (e : Entry) (i : Nat) (x : Space), s.Starts 1 0x3005 e ∧ i = e.p 0 4 / 2 ^ 18 ∧ KMap.get? s.drv.spaces i = some x
      ∧ x.tag = e.p 0 4 % 2 ^ 18 ∧ x.live = true ∧ x.revokedAt = none)
    ∧ (∃ (s : State) (i : Nat) (x : Space), s.drv.spaces.find? (fun y => y.2.live && y.2.revokeEid == 1 && 1 != 0) = some (i, x)
      ∧ s.spaceBusy (i * 2 ^ 18 + x.tag) x = false ∧ x.bound = none)
    ∧ (∃ (s : State) (e : Entry) (k : Nat), s.Starts 1 0x3006 e
      ∧ (KMap.get? (s.markBegun 1).data.policies e.h).any (fun p => p.tenant != 0xFFFF) = true
      ∧ ((s.markBegun 1).conn (e.p 0 4)).any (fun x => x.kind == 1) = true ∧ lowestFree (s.drv.links.map (·.1)) 0 256 = some k)
    ∧ (∃ (s : State) (x : Conn), s.conn 1 = some x ∧ x.st = .opening)
    ∧ (∃ (s : State) (x : Conn), s.conn 1 = some x ∧ 0 < x.sinceAck)
    ∧ (∃ (s : State) (x : Conn), s.conn 1 = some x ∧ x.st = .established ∧ x.unacked ≠ [] ∧ s.par Par.retryMax ≤ x.retries + 1)
    ∧ (∃ (s : State) (x : Conn), s.conn 1 = some x ∧ x.st = .established ∧ x.unacked ≠ [] ∧ x.retries + 1 < s.par Par.retryMax ∧ x.retries ≠ 2)
    ∧ (∃ (s : State) (x : Conn) (n : Nat), s.conn 1 = some x ∧ x.resendBusy = some n)
    ∧ (∃ (s : State) (x : Conn), s.conn 1 = some x ∧ x.fetching = true ∧ s.residents.length < 4096)
    ∧ (∃ (s : State) (x : Conn) (m : Bytes) (ms : List Bytes), s.conn 0 = some x ∧ x.inbox = m :: ms ∧ leAt m 0 1 = 1)
    ∧ (∃ (s : State) (x : Conn) (m : Bytes) (ms : List Bytes), s.conn 0 = some x ∧ x.inbox = m :: ms ∧ leAt m 0 1 = 2 ∧ s.fpt.ns = [])
    ∧ (∃ (s : State) (x : Conn) (p : Fin 2), s.conn 0 = some x ∧ s.peerUp = true ∧ (s.pathSt p).live = true)
    ∧ (∃ (s : State) (x : Conn) (p : Fin 2), s.conn 1 = some x ∧ s.pathUp p = true ∧ 100 ≤ (s.pathSt p).run ∧ x.home = p.val ∧ x.path ≠ p.val
      ∧ x.unacked = [])
    ∧ (∃ (s : State) (x : Conn) (p : Fin 2), s.conn 1 = some x ∧ s.pathUp p = true ∧ 100 ≤ (s.pathSt p).run
      ∧ (x.home ≠ p.val ∨ x.unacked ≠ [])) := by
  unfold State.Starts
  exact ⟨⟨held clearPool (ent 0x3001 1 0 [] ([1, 0, 6, 0xFF] ++ zeros 16 ++ leBytes 8 4096 ++ zeros 36 ++ List.replicate 32 1 ++ zeros 96)), _, _, 1, 1,
      zeros 32, rfl, by decide +kernel, by decide +kernel, by decide +kernel, by decide +kernel, rfl, by decide +kernel⟩,
    ⟨cmdAt ((linked 1 (conn 0 .established)).onData fun d => { d with slots := [] }) 0x3002 1 [], _, 1, _, rfl, rfl, by decide, rfl, by decide +kernel⟩,
    ⟨cmdAt (linked 1 (conn 0 .error)) 0x3003 1 [], _, _, rfl, rfl⟩,
    ⟨cmdAt (linked 1 (conn 0 .established)) 0x3004 0 ([0, 3, 7, 0] ++ [0xFF, 0xFF, 0xFF, 0xFF] ++ zeros 8 ++ leBytes 8 (2 ^ 40)), _, 0, rfl, by decide +kernel⟩,
    ⟨cmdAt (spaced (conn 0 .established) none) 0x3005 0 (leBytes 4 (2 * 2 ^ 18 + 3)), _, 2, _, rfl, by decide, rfl, by decide +kernel⟩,
    ⟨spaced (conn 0 .established) (some 1), 2, _, rfl, by decide +kernel⟩,
    ⟨cmdAt ((linked 1 (conn 1 .established)).onData fun d => { d with policies := [(1, ⟨0, 0, 0, 7⟩)] }) 0x3006 1 [1], _, 0, rfl, by decide +kernel⟩,
    ⟨linked 1 (conn 0 .opening), _, rfl, rfl⟩, ⟨linked 1 { conn 0 .established with sinceAck := 1 }, _, rfl, by decide⟩,
    ⟨linked 1 { conn 0 .established with unacked := [Pkt.make Grmp.send 2 0 0 0 []], retries := 255 }, _, rfl, by decide +kernel⟩,
    ⟨linked 1 { conn 0 .established with unacked := [Pkt.make Grmp.send 2 0 0 0 []] }, _, rfl, by decide +kernel⟩,
    ⟨linked 1 { conn 0 .established with resendBusy := some 7 }, _, _, rfl, rfl⟩,
    ⟨linked 1 { conn 0 .established with fetching := true, resident := false }, _, rfl, by decide +kernel⟩,
    ⟨linked 0 { conn 2 .established with inbox := [message 1 (zeros 64)] }, _, _, _, rfl, rfl, by decide +kernel⟩,
    ⟨linked 0 { conn 2 .established with inbox := [message 2 (zeros 24)] }, _, _, _, rfl, rfl, by decide +kernel⟩,
    ⟨(linked 0 (conn 2 .established)).onDrv fun d => { d with paths := [⟨true, 0, none, 0⟩, ⟨true, 0, none, 0⟩] }, _, 1, rfl, by decide +kernel⟩,
    ⟨(linked 1 { conn 0 .established with path := 1 }).onDrv fun d => { d with paths := [⟨true, 0, none, 100⟩, ⟨true, 0, none, 0⟩] }, _, 0, rfl, by decide +kernel⟩,
    ⟨(linked 1 { conn 0 .established with home := 1 }).onDrv fun d => { d with paths := [⟨true, 0, none, 100⟩, ⟨true, 0, none, 0⟩] }, _, 0, rfl, by decide +kernel⟩⟩

/-- A packet of an operation for connection 1. -/
def packet (op len : Nat) : Pkt := ⟨op, 0, 0, 1, 0, 0, 0, 0, 0, len, []⟩

theorem witness_SealedPacketsOpen :
    (∃ p : Pkt, 1 ≤ p.op ∧ p.op ≤ 9 ∧ p.flags < 8 ∧ p.code < 256 ∧ (p.op ≠ Grmp.nak → p.code = 0) ∧ p.dcid < 2 ^ 32 ∧ p.psn < 2 ^ 32
      ∧ p.apsn < 2 ^ 32 ∧ p.txc < 2 ^ 64 ∧ p.key < 2 ^ 32 ∧ p.offset < 2 ^ 64 ∧ p.payload.length ≤ 8192
      ∧ (p.op = Grmp.readReq → p.payload = [] ∧ 1 ≤ p.len ∧ p.len ≤ 2 ^ 30) ∧ (p.op ≠ Grmp.readReq → p.len = p.payload.length))
    ∧ (zeros 32).length = 32 :=
  ⟨⟨packet Grmp.readReq (2 ^ 30), by decide⟩, rfl⟩

/-- A UDP datagram over IPv4 without a checksum, with a sealed payload and its tag. -/
def datagram (p : Pkt) (ct tag : Bytes) : Bytes :=
  [0x45, 0, 0, byteOf (84 + ct.length), 0, 0, 0, 0, 64, 17] ++ zeros 10 ++ zeros 4 ++ beBytes 2 (64 + ct.length) ++ zeros 2 ++ p.hdr ++ ct ++ tag

/-- The linked part with IPv4. -/
def linked4 (c : Nat) (x : Conn) : State := (linked c x).onEz fun z => { z with par := KMap.put z.par Par.ipv4En 1 }

/-- Sixteen bytes in a row. -/
theorem sixteen {t : Bytes} (h : t.length = 16) : ∃ a b c d e f g h i j k l m n o p, t = [a, b, c, d, e, f, g, h, i, j, k, l, m, n, o, p] := by
  match t, h with
  | [a, b, c, d, e, f, g, h, i, j, k, l, m, n, o, p], _ => exact ⟨a, b, c, d, e, f, g, h, i, j, k, l, m, n, o, p, rfl⟩

/-- The operations of a packet without a payload, with their LEN. -/
def bareOps : List (Nat × Nat) := [(1, 0), (2, 1), (3, 0), (4, 0), (8, 0), (9, 0), (5, 0), (6, 0)]

theorem datagram_in (x : Conn) (t : Bytes) (ht : t.length = 16) (o : Nat × Nat) (h : o ∈ bareOps) :
    ((linked4 1 x).ipIn (datagram (packet o.1 o.2) [] t)).bind parseGrmp = some (packet o.1 o.2, [], t) := by
  obtain ⟨a, b, c, d, e, f, g, i, j, k, l, m, n, q, r, s, rfl⟩ := sixteen ht
  simp only [bareOps, List.mem_cons, List.not_mem_nil, or_false] at h
  rcases h with rfl | rfl | rfl | rfl | rfl | rfl | rfl | rfl
  all_goals with_unfolding_all rfl

/-- The tag of a packet under the key of 16 zero bytes. -/
def tag0 (p : Pkt) (ct : Bytes) : Bytes := gcmTag (aesRoundKeys (zeros 16)) (zeros 12) p.hdr ct

theorem tag0_length (o : Nat × Nat) (h : o ∈ bareOps) : (tag0 (packet o.1 o.2) []).length = 16 := by
  simp only [bareOps, List.mem_cons, List.not_mem_nil, or_false] at h
  rcases h with rfl | rfl | rfl | rfl | rfl | rfl | rfl | rfl
  all_goals decide +kernel

/-- A packet under the right tag opens. -/
theorem tag0_opens (p : Pkt) : gcmDec (zeros 16) (zeros 12) p.hdr [] (tag0 p []) = some [] := by
  unfold gcmDec tag0
  exact if_pos rfl

/-- One of two tags is wrong. -/
theorem tag0_fails (p : Pkt) : ∃ t : Bytes, t.length = 16 ∧ gcmDec (zeros 16) (zeros 12) p.hdr [] t = none := by
  by_cases h : tag0 p [] = zeros 16
  · refine ⟨1 :: zeros 15, rfl, ?_⟩
    unfold tag0 at h
    unfold gcmDec
    refine if_neg ?_
    rw [h]
    decide +kernel
  · unfold tag0 at h
    refine ⟨zeros 16, rfl, ?_⟩
    unfold gcmDec
    exact if_neg h

/-- The key of connection 1. -/
theorem connKey_linked4 : (linked4 1 (conn 0 .established)).connKey (conn 0 .established) = zeros 16 := rfl

/-- The nonce of its first packet. -/
theorem iv_packet (op len : Nat) : (conn 0 .established).saltRx ++ beBytes 8 (packet op len).txc = zeros 12 := by
  show zeros 4 ++ beBytes 8 0 = zeros 12
  decide

theorem witness_ReceivedPackets :
    (∃ (s : State) (f : Bytes), (s.ipIn f).bind parseGrmp = none)
    ∧ (∃ (s : State) (f : Bytes) (p : Pkt) (ct tag : Bytes) (x : Conn), (s.ipIn f).bind parseGrmp = some (p, ct, tag)
      ∧ s.conn p.dcid = some x ∧ gcmDec (s.connKey x) (x.saltRx ++ beBytes 8 p.txc) p.hdr ct tag = none ∧ p.op = Grmp.write)
    ∧ (∀ o ∈ bareOps, ∃ (s : State) (f : Bytes) (p : Pkt) (ct tag pt : Bytes) (x : Conn), (s.ipIn f).bind parseGrmp = some (p, ct, tag)
      ∧ s.conn p.dcid = some x ∧ gcmDec (s.connKey x) (x.saltRx ++ beBytes 8 p.txc) p.hdr ct tag = some pt ∧ p.op = o.1)
    ∧ (∃ (s : State) (x : Conn) (p : Pkt), s.conn 1 = some x ∧ x.st = .established ∧ p.psn = (x.rxPsn + 2 ^ 32 - 1) % 2 ^ 32 ∧ x.rxPsn < 2 ^ 32)
    ∧ (∃ (s : State) (x : Conn) (p : Pkt), s.conn 1 = some x ∧ x.st = .established ∧ p.psn = (x.rxPsn + 1) % 2 ^ 32 ∧ x.rxPsn < 2 ^ 32
      ∧ x.refusedBusy = none)
    ∧ (∃ (s : State) (x : Conn) (p : Pkt) (i : Nat) (y : Space), s.conn 1 = some x ∧ x.st = .established ∧ p.psn = x.rxPsn ∧ p.op = Grmp.write
      ∧ s.spaceJudge 1 0 p = .ok (i, y) ∧ y.kind = 0 ∧ p.payload ≠ []) := by
  refine ⟨⟨pool, [], rfl⟩, ?_, ?_, ⟨linked 1 (conn 0 .established), _, { packet 1 0 with psn := 2 ^ 32 - 1 }, rfl, rfl, by decide, by decide⟩,
    ⟨linked 1 { conn 0 .established with rxPsn := 2 ^ 32 - 1 }, _, packet 1 0, rfl, rfl, by decide, by decide, rfl⟩,
    ⟨spaced (conn 0 .established) none, _, { packet 1 1 with key := 2 * 2 ^ 18 + 3, offset := 4095, payload := [9] }, 2, space none, rfl, rfl, rfl, rfl,
      ok_of (by decide +kernel), rfl, by decide⟩⟩
  · obtain ⟨t, ht, hd⟩ := tag0_fails (packet 1 0)
    refine ⟨linked4 1 (conn 0 .established), _, packet 1 0, [], t, conn 0 .established, datagram_in _ t ht (1, 0) (by decide), rfl, ?_, rfl⟩
    rw [connKey_linked4, iv_packet]
    exact hd
  · intro o h
    refine ⟨linked4 1 (conn 0 .established), _, packet o.1 o.2, [], _, [], conn 0 .established, datagram_in _ _ (tag0_length o h) o h, rfl, ?_, rfl⟩
    rw [connKey_linked4, iv_packet]
    exact tag0_opens _


/-- Drover's expert queue 63, bound, running one descriptor on connection 1. -/
def droverQueue (x : Xq) : State := (linked 1 { conn 0 .established with xq := 63 }).setXq (instKey 8 63) { x with bound := some 9 }

/-- A Drover descriptor: operation, flags, the queue waited for, the connection, LEN and the count waited for. -/
def ddesc (op flags wq cid len count : Nat) : Bytes :=
  padTo ([byteOf op, byteOf flags, byteOf wq, 0] ++ zeros 4 ++ leBytes 4 cid ++ zeros 20 ++ leBytes 8 len ++ leBytes 4 count) 64

/-- A replication link from connection 1, with one object waiting. -/
def shipping (y : Ship) : State :=
  (linked 1 (conn 1 .established)).onDrv fun d => { d with links := [(0, ⟨1, 1, true, 2, [y], false⟩)] }

/-- The object of no bytes, or its delete, waiting to be shipped. -/
def waiting (delete : Bool) (retry : Option Nat) : Ship := ⟨0, 7, zeros 16, 4, delete, false, 0, retry⟩

/-- A message of the peer waits on replication connection 1. -/
def replIn (m : Bytes) : State := linked 1 { conn 1 .established with inbox := [m] }

/-- An offer of the object is out. -/
def offered (m : Bytes) : State :=
  ((replIn m).onDrv fun d => { d with links := [(0, ⟨1, 1, true, 2, [], false⟩)], offers := [(0, waiting false none)] }).onData fun d => { d with objects := [obj] }

theorem witness_DroverQueuesAndReplication :
    (∀ op ∈ [1, 2, 3], ∃ (s : State) (q : Fin 64) (k : Nat) (d : Bytes), k = instKey 8 q ∧ s.Runs k op d ∧ (s.xq k).waiting = false
      ∧ s.drvRoom q = true ∧ (s.xqAdvance k).drvOk q d = true ∧ (s.xqAdvance k).drvMet d = true)
    ∧ (∀ op ∈ [1, 2, 3], ∃ (s : State) (q : Fin 64) (k : Nat) (d : Bytes), k = instKey 8 q ∧ s.Runs k op d ∧ (s.xq k).waiting = false
      ∧ s.drvRoom q = true ∧ (s.xqAdvance k).drvOk q d = true ∧ (s.xqAdvance k).drvMet d = false)
    ∧ (∀ op ∈ [1, 2, 3], ∃ (s : State) (q : Fin 64) (k : Nat) (d : Bytes), k = instKey 8 q ∧ s.Runs k op d ∧ (s.xq k).waiting = false
      ∧ s.drvRoom q = true ∧ (s.xqAdvance k).drvOk q d = false)
    ∧ (∃ (s : State) (q : Fin 64) (x : Xq), x = s.xq (instKey 8 q) ∧ x.waiting = true ∧ s.drvMet x.desc = true)
    ∧ (∃ (s : State) (q : Fin 64) (x : Xq), x = s.xq (instKey 8 q) ∧ x.waiting = true ∧ x.waitSince + 3 * s.par Par.chainTmoMs ≤ s.clk)
    ∧ (∃ (s : State) (q : Fin 64) (tag : Nat), (s.xq (instKey 8 q)).bound = some tag)
    ∧ (∃ (s : State) (x : Conn) (l : RepLink) (y : Ship) (rest : List Ship), s.conn 1 = some x ∧ KMap.get? s.drv.links 0 = some l ∧ l.conn = 1
      ∧ s.connRefuses x = none ∧ s.drv.offers = [] ∧ l.backlog = y :: rest ∧ y.sent = false ∧ s.owns y.dom = true ∧ y.delete = true
      ∧ y.retryAt = none)
    ∧ (∃ (s : State) (x : Conn) (l : RepLink) (y : Ship) (rest : List Ship) (r : Nat), s.conn 1 = some x ∧ KMap.get? s.drv.links 0 = some l
      ∧ l.conn = 1 ∧ s.connRefuses x = none ∧ s.drv.offers = [] ∧ l.backlog = y :: rest ∧ y.sent = false ∧ s.owns y.dom = true
      ∧ y.delete = true ∧ y.retryAt = some r ∧ r ≤ s.clk)
    ∧ (∃ (s : State) (x : Conn) (l : RepLink) (y : Ship) (rest : List Ship) (o : ObjRec), s.conn 1 = some x ∧ KMap.get? s.drv.links 0 = some l
      ∧ l.conn = 1 ∧ s.connRefuses x = none ∧ s.drv.offers = [] ∧ l.backlog = y :: rest ∧ y.sent = false ∧ s.owns y.dom = true
      ∧ y.delete = false ∧ y.retryAt = none ∧ s.shipObject y = some o)
    ∧ (∃ (s : State) (x : Conn) (m body : Bytes) (ms : List Bytes) (l : RepLink) (y : Ship) (o : ObjRec) (recs : List Fetch), s.conn 1 = some x
      ∧ x.inbox = m :: ms ∧ leAt m 0 1 = 0x21 ∧ s.drv.offers = [(0, y)] ∧ KMap.get? s.drv.links 0 = some l ∧ l.conn = 1 ∧ s.shipObject y = some o
      ∧ wireRecs ((o.entries.zipIdx.filter fun z => bitAt (leAt (m.drop 16) (z.2 / 8) 1) (z.2 % 8)).map fun z => (z.2, z.1)) recs = some body)
    ∧ (∃ (s : State) (x : Conn) (m : Bytes) (ms : List Bytes) (l : RepLink) (y : Ship), s.conn 1 = some x ∧ x.inbox = m :: ms ∧ leAt m 0 1 = 0x23
      ∧ s.drv.offers = [(0, y)] ∧ KMap.get? s.drv.links 0 = some l ∧ l.conn = 1 ∧ leAt m 16 2 = St.ok)
    ∧ (∃ (s : State) (x : Conn) (m : Bytes) (ms : List Bytes), s.conn 1 = some x ∧ x.inbox = m :: ms ∧ leAt m 0 1 = 0x20 ∧ s.data.puts = []
      ∧ leAt m 78 2 ≠ crc16 (slice m 16 62) ∧ 78 ≤ m.length)
    ∧ (∃ (s : State) (x : Conn) (m : Bytes) (ms : List Bytes) (o : ObjRec) (h : Nat) (pol : Policy) (g : Group), s.conn 1 = some x
      ∧ x.inbox = m :: ms ∧ leAt m 0 1 = 0x20 ∧ s.data.puts = [] ∧ leAt m 78 2 = crc16 (slice m 16 62) ∧ 80 + 64 * leAt m 44 4 ≤ m.length
      ∧ o = readRecipe 0 0 (m.drop 16) ∧ s.replPolicy o.tenant = some (h, pol) ∧ s.group? pol.root = some g ∧ s.owns g.dom = true)
    ∧ (∃ (s u v : State) (x : Conn) (m : Bytes) (ms : List Bytes) (p q : PutRec), s.conn 1 = some x ∧ x.inbox = m :: ms ∧ leAt m 0 1 = 0x22
      ∧ u = s.setConn 1 { x with inbox := ms } ∧ s.data.puts = [p] ∧ p.source = 4 ∧ p.conn = 1 ∧ p.placed = false
      ∧ u.takeWires { p with placed := true } ((p.recipe.zipIdx.filter fun z => !z.1.hit).map fun z => (z.2, z.1))
          (takeRecs (m.drop 16) ((p.recipe.zipIdx.filter fun z => !z.1.hit).length + 1) 0).1 = (v, q, none))
    ∧ (∃ (s u : State) (x : Conn) (m : Bytes) (ms : List Bytes) (o : ObjRec), s.conn 1 = some x ∧ x.inbox = m :: ms ∧ leAt m 0 1 = 0x24
      ∧ u = s.setConn 1 { x with inbox := ms } ∧ u.objectIn u.ownedDoms (leAt m 32 2) (slice m 16 16) = some o) := by
  unfold State.Runs
  refine ⟨?_, ?_, ?_, ⟨droverQueue { oneIn with waiting := true, desc := ddesc 1 0 0 1 1 0 }, 63, _, rfl, by decide +kernel⟩,
    ⟨{ droverQueue { oneIn with waiting := true } with clk := 3 * 100000000 }, 63, _, rfl, by decide +kernel⟩, ⟨droverQueue oneIn, 63, 9, by decide +kernel⟩,
    ⟨shipping (waiting true none), _, _, _, _, rfl, rfl, rfl, by decide +kernel, rfl, rfl, rfl, by decide +kernel, rfl, rfl⟩,
    ⟨shipping (waiting true (some 0)), _, _, _, _, 0, rfl, rfl, rfl, by decide +kernel, rfl, rfl, rfl, by decide +kernel, rfl, rfl, by decide +kernel⟩,
    ⟨(shipping (waiting false none)).onData fun d => { d with objects := [obj] }, _, _, _, _, _, rfl, rfl, rfl, by decide +kernel, rfl, rfl, rfl,
      by decide +kernel, rfl, rfl, rfl⟩,
    ⟨offered (message 0x21 []), _, _, _, _, _, _, _, [], rfl, rfl, by decide, rfl, rfl, rfl, rfl, rfl⟩,
    ⟨offered (message 0x23 [0, 0, 0, 0]), _, _, _, _, _, rfl, rfl, by decide, rfl, rfl, rfl, by decide⟩,
    ⟨replIn (message 0x20 (zeros 62 ++ [1, 0])), _, _, _, rfl, rfl, by decide +kernel, rfl, by decide +kernel, by decide +kernel⟩,
    ⟨(replIn (message 0x20 (zeros 64))).onData fun d => { d with policies := [(1, ⟨0, 0, 0, 0⟩)] }, _, _, _, _, _, _, _, rfl, rfl, by decide +kernel, rfl,
      by decide +kernel, by decide +kernel, rfl, rfl, rfl, by decide +kernel⟩,
    ⟨(replIn (message 0x22 [])).onData fun d => { d with puts := [{ putRec with source := 4, conn := 1, placed := false }] }, _, _, _, _, _, _, _, rfl, rfl,
      by decide, rfl, rfl, rfl, rfl, rfl, rfl⟩,
    ⟨(replIn (message 0x24 (zeros 16 ++ [7, 0]))).onData fun d => { d with objects := [obj] }, _, _, _, _, _, rfl, rfl, by decide, rfl, rfl⟩⟩
  all_goals
    intro op h
    simp only [List.mem_cons, List.not_mem_nil, or_false] at h
  · exact ⟨droverQueue oneIn, 63, _, ddesc op 0 0 1 (2 ^ 30) 0, rfl, by rcases h with rfl | rfl | rfl <;> decide +kernel⟩
  · exact ⟨droverQueue oneIn, 63, _, ddesc op 1 0 1 1 1, rfl, by rcases h with rfl | rfl | rfl <;> decide +kernel⟩
  · exact ⟨droverQueue oneIn, 63, _, ddesc op 0 0 1 0 0, rfl, by rcases h with rfl | rfl | rfl <;> decide +kernel⟩

/-- The linked part with IPv6 and IPv4 addresses of path A. -/
def addressed : State := (linked4 1 (conn 0 .established)).onEz fun z => { z with par := KMap.put (KMap.put z.par Par.netAIp60 1) Par.netAIp4 1 }

/-- An ICMPv6 message to the path's own address, its checksum right. -/
def icmpFrame (ty : Nat) (body : Bytes) : Bytes :=
  let addr := zeros 16 ++ addressed.ip6 0
  let sum := netSum (addr ++ beBytes 4 (4 + body.length) ++ beBytes 4 58 ++ [byteOf ty, 0, 0, 0] ++ body)
  [0x60, 0, 0, 0] ++ beBytes 2 (4 + body.length) ++ [58, 255] ++ addr ++ [byteOf ty, 0] ++ beBytes 2 (0xFFFF - sum) ++ body

theorem witness_NetworkPorts :
    (∃ (s : State) (port : Fin 2) (sub : Fin 8), s.subUp port sub = true ∧ (s.nport port).upSince = [((sub : Nat), s.clk)] ∧ s.rbit Reg.netErr 31 = false)
    ∧ (∃ (s : State) (port : Fin 2) (sub : Fin 8), (sub : Nat) < s.subCount port ∧ s.subUp port sub = false ∧ s.drv.conns = [] ∧ s.net.ports.length = 2)
    ∧ (∃ (s : State) (port : Fin 2) (sub : Fin 8) (t : Nat), KMap.get? (s.nport port).upSince sub = some t ∧ t + 3 ≤ s.clk)
    ∧ (∃ (s : State) (port : Fin 2) (f b : Bytes), f.length ≤ s.par Par.mtu ∧ icmp6 f = some (135, b) ∧ leAt f 7 1 = 255 ∧ slice b 4 16 = s.ip6 port
      ∧ allZero (s.ip6 port) = false)
    ∧ (∃ (s : State) (port : Fin 2) (f b : Bytes), f.length ≤ s.par Par.mtu ∧ icmp6 f = some (128, b) ∧ slice f 24 16 = s.ip6 port)
    ∧ (∃ (s : State) (port : Fin 2) (f : Bytes), f.length ≤ s.par Par.mtu ∧ s.par Par.ipv4En = 1 ∧ 28 ≤ f.length ∧ f.take 6 = [0, 1, 8, 0, 6, 4]
      ∧ slice f 6 2 = [0, 1] ∧ slice f 24 4 = s.ip4 port ∧ allZero (s.ip4 port) = false)
    ∧ (∃ s : State, s.ready = true) ∧ (∃ s : State, 2 ≤ s.net.pulses)
    ∧ (∃ s : State, s.rbit Reg.netHbt 16 = false ∧ s.rbit Reg.netErr 31 = false) ∧ (∃ (s : State) (e : Entry), s.Starts 1 0x3007 e) := by
  exact ⟨⟨linked 1 (conn 0 .established), 0, 0, by decide +kernel⟩, ⟨{ pool with net := Net.reset }, 1, 0, by decide +kernel⟩,
    ⟨{ linked 1 (conn 0 .established) with clk := 3 }, 0, 0, 0, by decide +kernel⟩,
    ⟨addressed, 0, icmpFrame 135 (zeros 4 ++ addressed.ip6 0), zeros 4 ++ addressed.ip6 0, by decide +kernel⟩,
    ⟨addressed, 0, icmpFrame 128 [1, 2, 3, 4, 5], [1, 2, 3, 4, 5], by decide +kernel⟩,
    ⟨addressed, 0, [0, 1, 8, 0, 6, 4, 0, 1] ++ zeros 16 ++ addressed.ip4 0, by decide +kernel⟩,
    ⟨up.setRbit Reg.fldStatus 0 true, by decide +kernel⟩, ⟨{ pool with net := { Net.reset with pulses := 2 } }, by decide⟩,
    ⟨pool, by decide +kernel⟩, ⟨cmdAt pool 0x3007 0 [], _, rfl⟩⟩


/-! ### Two heads -/

/-- A part whose domain 0 is as given, on a head in a state. -/
def head (h : HSt) (d : Dom) : State :=
  { linked 0 (conn 2 .established) with dhd := { Dhd.reset with hst := h, armed := true, doms := d :: List.replicate 7 Dom.reset } }

/-- The same under leases. -/
def leased (h : HSt) (d : Dom) : State := (head h d).onEz fun z => { z with par := KMap.put z.par Par.dhdMode 1 }

/-- A domain in a state. -/
def domIn (st : DSt) : Dom := { Dom.reset with st := st }

/-- The same head, far later, with a command waiting for the domain. -/
def claimed (s : State) : State := { s with clk := 3 * 100000000, dhd := { s.dhd with claims := [⟨1, [0], false⟩] } }

/-- A head that has received a message. -/
def told (h : HSt) (d : Dom) (m : Bytes) : State :=
  { head h d with drv := { Drv.reset with conns := [(0, { conn 2 .established with inbox := [m] })] } }

theorem witness_DomainOwnership :
    (∃ (s : State) (e : Entry), s.dhd.doms.length = 8 ∧ s.Starts 1 0x6010 e ∧ e.p 0 1 = 2 ^ 0 ∧ e.p 1 1 = 0 ∧ (s.dom 0).st = .unowned
      ∧ (s.markBegun 1).claimable 0 = true ∧ (s.markBegun 1).lease = false)
    ∧ (∃ s : State, s.dhd.doms.length = 8 ∧ (s.dom 0).st = .claiming ∧ (s.dom 0).pulled = false ∧ s.lease = false ∧ s.part.headB = false
      ∧ s.commanded 0 = true ∧ (s.dom 0).claimAt + 3 ≤ s.clk)
    ∧ (∃ s : State, s.dhd.doms.length = 8 ∧ (s.dom 0).st = .claiming ∧ (s.dom 0).pulled = false ∧ s.lease = false ∧ s.part.headB = true)
    ∧ (∃ s : State, s.dhd.doms.length = 8 ∧ (s.dom 0).st = .claiming ∧ (s.dom 0).pulled = true)
    ∧ (∃ s : State, s.dhd.doms.length = 8 ∧ (s.dom 0).st = .claiming ∧ s.lease = true ∧ s.commanded 0 = true ∧ (s.dom 0).claimAt + 9 ≤ s.clk)
    ∧ (∃ s : State, s.dhd.doms.length = 8 ∧ (s.dom 0).st = .loading)
    ∧ (∃ (s : State) (e : Entry), s.dhd.doms.length = 8 ∧ s.Starts 1 0x6011 e ∧ e.p 0 1 = 2 ^ 0 ∧ e.p 1 1 = 0 ∧ (s.dom 0).st = .owned)
    ∧ (∃ s : State, s.dhd.doms.length = 8 ∧ (s.dom 0).st = .releasing ∧ s.drained 0 = true ∧ (s.dom 0).toPeer = false)
    ∧ (∃ (s : State) (c : Conn) (m : Bytes) (ms : List Bytes), s.dhd.doms.length = 8 ∧ s.conn 0 = some c ∧ c.inbox = m :: ms ∧ leAt m 16 1 = 0
      ∧ leAt m 0 1 = 0x11 ∧ s.dhd.modeBad = false ∧ (s.dom 0).st = .unowned ∧ s.lease = false)
    ∧ (∃ (s : State) (c : Conn) (m : Bytes) (ms : List Bytes), s.dhd.doms.length = 8 ∧ s.conn 0 = some c ∧ c.inbox = m :: ms ∧ leAt m 16 1 = 0
      ∧ leAt m 0 1 = 0x12 ∧ (s.dom 0).given = true ∧ s.dhd.failing = false)
    ∧ (∃ (s : State) (e : Entry), s.dhd.doms.length = 8 ∧ s.Starts 1 0x6012 e) := by
  unfold State.Starts
  exact ⟨⟨cmdAt (head .alone Dom.reset) 0x6010 0 [1], _, rfl, rfl, by decide +kernel⟩,
    ⟨claimed (head .alone (domIn .claiming)), by decide +kernel⟩,
    ⟨{ head .alone (domIn .claiming) with part := { pool.part with headB := true } }, by decide +kernel⟩,
    ⟨head .alone { domIn .claiming with pulled := true }, by decide +kernel⟩, ⟨claimed (leased .active (domIn .claiming)), by decide +kernel⟩,
    ⟨head .alone (domIn .loading), by decide +kernel⟩, ⟨cmdAt (head .alone (domIn .owned)) 0x6011 0 [1], _, rfl, rfl, by decide +kernel⟩,
    ⟨{ (head .alone (domIn .releasing)) with data := Data.reset }, by decide +kernel⟩,
    ⟨told .active Dom.reset (message 0x11 (zeros 16)), _, _, _, rfl, rfl, rfl, by decide +kernel⟩,
    ⟨told .active { Dom.reset with given := true } (message 0x12 (zeros 16)), _, _, _, rfl, rfl, rfl, by decide +kernel⟩,
    ⟨cmdAt (head .active Dom.reset) 0x6012 0 [], _, rfl, rfl⟩⟩

/-- A heartbeat of path 0 for connection 0, of 32 zero bytes under the key. -/
def beat : Pkt := ⟨Grmp.heartbeat, 0, 0, 0, 0, 0, 0, 0, 0, 32, []⟩

theorem beat_in (x : Conn) (t : Bytes) (ht : t.length = 16) :
    ((linked4 0 x).ipIn (datagram beat (zeros 32) t)).bind parseGrmp = some (beat, zeros 32, t) := by
  obtain ⟨a, b, c, d, e, f, g, i, j, k, l, m, n, q, r, s, rfl⟩ := sixteen ht
  with_unfolding_all rfl

theorem beat_opens : gcmDec (zeros 16) (zeros 12) beat.hdr (zeros 32) (tag0 beat (zeros 32))
    = some (gcmCtr (aesRoundKeys (zeros 16)) (zeros 12) 2 (pieces 16 (zeros 32))) := by
  unfold gcmDec tag0
  exact if_pos rfl

theorem witness_HeartbeatsAndTakeover :
    (∃ (s : State) (c : Conn), s.conn 0 = some c ∧ c.st = .established ∧ s.linkUp 0 = true ∧ s.linkUp 1 = false ∧ s.drv.paths.length = 2)
    ∧ (∃ (s : State) (f : Bytes) (p : Pkt) (ct tag pt : Bytes) (c : Conn), (s.ipIn f).bind parseGrmp = some (p, ct, tag) ∧ p.op = Grmp.heartbeat
      ∧ p.dcid = 0 ∧ s.conn 0 = some c ∧ c.st = .established ∧ gcmDec (s.connKey c) (c.saltRx ++ beBytes 8 p.txc) p.hdr ct tag = some pt
      ∧ pt.length = 32 ∧ (s.pathSt (p.flags / 4 % 2)).rxSeq = none)
    ∧ (∃ s : State, s.ready = true ∧ s.dhd.lastKick + 3 * s.par Par.wdtMs ≤ s.clk)
    ∧ (∃ s : State, s.dhd.armed = true ∧ s.lease = true ∧ s.dhd.renewTicks = [])
    ∧ (∃ s : State, s.dhd.armed = true ∧ s.lease = true ∧ s.dhd.hst ≠ .alone ∧ (s.dom 0).st.held = true ∧ s.leaseCurrent 0 = false)
    ∧ (∃ s : State, s.dhd.doms.length = 8 ∧ 0 < (s.dom 0).fenceUntil ∧ (s.dom 0).fenceUntil ≤ s.clk)
    ∧ (∃ s : State, s.dhd.armed = true ∧ s.dhd.hst ≠ .alone ∧ s.par Par.confirmTicks ≤ s.dhd.silent ∧ (∀ j, (s.dom j).given = false)
      ∧ s.dhd.doms.length = 8 ∧ s.dhd.modeBad = false ∧ s.lease = false ∧ ((s.dom 0).st = .unowned ∨ (s.dom 0).st = .fenced))
    ∧ (∀ ty ∈ [0x15, 0x10, 0x13, 0x14], ∃ (s : State) (c : Conn) (m : Bytes) (ms : List Bytes), s.conn 0 = some c ∧ c.inbox = m :: ms
      ∧ leAt m 0 1 = ty ∧ s.dhd.hst ≠ .alone ∧ leAt m 16 1 = 0)
    ∧ (∃ (s : State) (t : Nat), s.dhd.holdStart = some t ∧ s.dhd.hst = .alone ∧ s.dhd.failing = false ∧ t + 3000 * s.par Par.failbackS ≤ s.clk) := by
  refine ⟨⟨head .active Dom.reset, _, rfl, by decide +kernel⟩, ?_,
    ⟨{ head .active Dom.reset with clk := 3 * 100000000, regs := (up.setRbit Reg.fldStatus 0 true).regs }, by decide +kernel⟩,
    ⟨leased .active Dom.reset, by decide +kernel⟩, ⟨{ leased .active (domIn .owned) with clk := 12 }, by decide +kernel⟩,
    ⟨{ head .active { domIn .owned with fenceUntil := 1 } with clk := 1 }, by decide +kernel⟩,
    ⟨{ head .active Dom.reset with dhd := { (head .active Dom.reset).dhd with silent := 100000 } }, rfl, by decide, by decide +kernel, ?_, rfl, rfl,
      by decide +kernel, Or.inl rfl⟩, ?_,
    ⟨{ head .alone Dom.reset with dhd := { (head .alone Dom.reset).dhd with holdStart := some 0 }, clk := 3 * 100000000 }, 0, by decide +kernel⟩⟩
  · refine ⟨linked4 0 (conn 2 .established), _, beat, zeros 32, _, gcmCtr (aesRoundKeys (zeros 16)) (zeros 12) 2 (pieces 16 (zeros 32)),
      conn 2 .established, beat_in _ (tag0 beat (zeros 32)) (by decide +kernel), rfl, rfl, rfl, rfl, ?_, ?_, rfl⟩
    · rw [show (linked4 0 (conn 2 .established)).connKey (conn 2 .established) = zeros 16 from rfl,
        show (conn 2 .established).saltRx ++ beBytes 8 beat.txc = zeros 12 from by decide]
      exact beat_opens
    · decide +kernel
  · intro j
    show ((Dom.reset :: List.replicate 7 Dom.reset).getD j Dom.reset).given = false
    rw [show Dom.reset :: List.replicate 7 Dom.reset = List.replicate 8 Dom.reset from rfl, List.getD_eq_getElem?_getD, List.getElem?_replicate]
    split <;> rfl
  · intro ty h
    refine ⟨told .active Dom.reset (message ty (zeros 64)), _, _, _, rfl, rfl, ?_⟩
    simp only [List.mem_cons, List.not_mem_nil, or_false] at h
    rcases h with rfl | rfl | rfl | rfl <;> decide +kernel

/-! ### Memory -/

/-- A part with 64 GiB of trained DDR, its regions placed. -/
def ddr : State := { (pool.setRf Reg.memStatus 27 16 64).setRbit Reg.memStatus 0 true with mem := { MemSt.reset with placed := some ⟨20, 0, 4, 4, 4⟩ } }

theorem witness_DdrMemory :
    (∃ (s : State) (e : Entry), s.Starts 1 0x5001 e ∧ s.rbit Reg.memStatus 3 = false ∧ e.p 0 8 % 2 ^ 30 = 0 ∧ e.p 8 8 % 2 ^ 30 = 0 ∧ 0 < e.p 8 8
      ∧ e.p 0 8 + e.p 8 8 ≤ 2 ^ 30 * s.gib ∧ s.mem.fills = [] ∧ s.initDone = false)
    ∧ (∃ (s : State) (e : Entry) (f : Fill), s.mem.fills = [f] ∧ f.running = true ∧ f.eid = 1 ∧ s.entry 1 = some e)
    ∧ (∃ (s : State) (ch : Fin 16), (List.range 16).find? s.chStale = some (ch : Nat) ∧ s.mem.retrainAt ≠ some s.clk ∧ s.rbit Reg.memStatus 0 = true
      ∧ s.rbit Reg.memErr 31 = false)
    ∧ (∃ (s : State) (port : Fin 17) (m : Merge), s.mem.merges = [m] ∧ m.port = (port : Nat) ∧ m.mask = 0xFF)
    ∧ (∃ (s : State) (port : Fin 17) (m : Merge), s.mem.merges = [m] ∧ m.port = (port : Nat) ∧ s.mem.poison.contains m.word = false)
    ∧ (∃ (s : State) (port : Fin 17) (m : Merge), s.mem.merges = [m] ∧ m.port = (port : Nat) ∧ m.mask ≠ 0xFF ∧ s.rbit Reg.memErr 31 = false)
    ∧ (∃ s : State, s.crp.boot = .booting ∧ s.crp.warmEnd = none ∧ s.skl.memFail = false ∧ (2048 : Nat) ≤ 2048) := by
  unfold State.Starts
  exact ⟨⟨cmdAt ddr 0x5001 0 (leBytes 8 (3 * 2 ^ 30) ++ leBytes 8 (2 ^ 30)), _, rfl, by decide +kernel⟩,
    ⟨{ cmdAt ddr 0x5001 0 [] with mem := { MemSt.reset with fills := [⟨1, 0, 4, 0, true⟩] } }, _, _, rfl, rfl, rfl, rfl⟩,
    ⟨ddr.setRbit (Reg.memChStat 15) 18 true, 15, by decide +kernel⟩,
    ⟨{ ddr with mem := { MemSt.reset with merges := [⟨16, 8, 0xFF⟩] } }, 16, _, rfl, rfl, rfl⟩,
    ⟨{ ddr with mem := { MemSt.reset with merges := [⟨16, 8, 1⟩], poison := [9] } }, 16, _, rfl, rfl, by decide⟩,
    ⟨{ ddr with mem := { MemSt.reset with merges := [⟨16, 8, 1⟩] } }, 16, _, rfl, rfl, by decide, by decide +kernel⟩,
    ⟨{ State.reset with crp := { State.reset.crp with boot := .booting } }, by decide +kernel⟩⟩

/-- Heather enabled, with bits of its ways set. -/
def heather (r bit : Nat) : State := (ddr.setRbit Reg.hthStatus 0 true).setRbit r bit true

theorem witness_HeatherCommands :
    (∃ (s : State) (e : Entry), s.Starts 1 0x5002 e ∧ s.hthEnabled = false ∧ s.hthCleaning = false)
    ∧ (∃ s : State, s.rbit Reg.hthStatus 4 = true ∧ s.hth.invs = [1] ∧ s.rbit Reg.hthStatus 6 = false)
    ∧ (∀ done ∈ [true, false], ∃ (s : State) (e : Entry), s.Starts 1 0x5003 e ∧ s.hthEnabled = false ∧ s.rbit Reg.hthStatus 6 = false
      ∧ s.hthCleaning = false ∧ s.rbit Reg.hthStatus 4 = false ∧ s.rbit Reg.hthStatus 3 = done)
    ∧ (∃ (s : State) (e : Entry), s.Starts 1 0x5004 e ∧ s.hthEnabled = true)
    ∧ (∃ s : State, s.hthCleaning = true ∧ s.hth.disables = [1] ∧ s.hth.invs = [] ∧ s.crp.trans = 0)
    ∧ (∃ (s : State) (e : Entry) (lo n : Nat), s.Starts 1 0x5005 e ∧ e.p 0 1 < 16 ∧ e.p 1 1 = 1 ∧ (s.markBegun 1).hthRange e = some (lo, n) ∧ 0 < n
      ∧ n ≤ 65536 ∧ s.hthEnabled = true ∧ s.wayBusy (e.p 0 1) = false ∧ s.wayStripe (e.p 0 1) = false ∧ s.wayOff (e.p 0 1) = false
      ∧ s.tooFew (e.p 0 1) = false)
    ∧ (∃ (s : State) (j : HJob), s.hth.jobs = [j] ∧ j.eid = 1 ∧ j.way < 16)
    ∧ (∃ (s : State) (e : Entry), s.Starts 1 0x5006 e ∧ e.p 0 1 < 16 ∧ e.p 1 1 = 0 ∧ s.wayStripe (e.p 0 1) = false ∧ s.wayLocked (e.p 0 1) = false
      ∧ s.tooFew (e.p 0 1) = false ∧ s.wayBusy (e.p 0 1) = false)
    ∧ (∃ (s : State) (e : Entry) (lo n : Nat), s.Starts 1 0x5007 e ∧ s.hthEnabled = true ∧ (s.markBegun 1).hthRange e = some (lo, n))
    ∧ (∃ (s : State) (way : Fin 16), s.rbit Reg.hthStatus 1 = false ∧ s.wayLocked way = false ∧ s.wayStripe way = false) := by
  unfold State.Starts
  refine ⟨⟨cmdAt ddr 0x5002 0 [], _, rfl, by decide +kernel⟩, ⟨{ ddr.setRbit Reg.hthStatus 4 true with hth := { Hth.reset with invs := [1] } }, by decide +kernel⟩,
    ?_, ⟨cmdAt (heather Reg.hthStatus 0) 0x5004 0 [], _, rfl, by decide +kernel⟩,
    ⟨{ ddr.setRbit Reg.hthStatus 2 true with hth := { Hth.reset with disables := [1] } }, by decide +kernel⟩,
    ⟨cmdAt (heather Reg.hthStatus 0) 0x5005 0 ([15, 1, 0x10] ++ zeros 13 ++ leBytes 8 128), _, 2 ^ 23, 1, rfl, by decide +kernel⟩,
    ⟨{ ddr with hth := { Hth.reset with jobs := [⟨1, 15, 0, 1, true⟩] } }, _, rfl, rfl, by decide⟩,
    ⟨cmdAt (heather Reg.hthStatus 0) 0x5006 0 [15, 0], _, rfl, by decide +kernel⟩,
    ⟨cmdAt (heather Reg.hthStatus 0) 0x5007 0 ([15, 0, 0x10] ++ zeros 13 ++ leBytes 8 128), _, 2 ^ 23, 1, rfl, by decide +kernel⟩,
    ⟨(heather Reg.hthStatus 0).setRbit Reg.hthStatus 1 false, 15, by decide +kernel⟩⟩
  intro done _
  cases done
  · exact ⟨cmdAt (ddr.setRbit Reg.hthStatus 3 false) 0x5003 0 [], _, rfl, by decide +kernel⟩
  · exact ⟨cmdAt (ddr.setRbit Reg.hthStatus 3 true) 0x5003 0 [], _, rfl, by decide +kernel⟩

theorem witness_PreloadLockRefusals :
    (∃ (s : State) (e : Entry), e.p 0 1 < 16 ∧ s.Starts 1 0x5005 e ∧ s.hthEnabled = false)
    ∧ (∃ (s : State) (e : Entry), e.p 0 1 < 16 ∧ s.Starts 1 0x5005 e ∧ s.hthEnabled = true ∧ s.wayBusy (e.p 0 1) = true)
    ∧ (∃ (s : State) (e : Entry), e.p 0 1 < 16 ∧ s.Starts 1 0x5005 e ∧ s.hthEnabled = true ∧ s.wayBusy (e.p 0 1) = false ∧ bitAt (e.p 1 1) 1 = false
      ∧ (s.markBegun 1).hthRange e = none)
    ∧ (∃ (s : State) (e : Entry) (lo : Nat), e.p 0 1 < 16 ∧ s.Starts 1 0x5005 e ∧ s.hthEnabled = true ∧ s.wayBusy (e.p 0 1) = false
      ∧ bitAt (e.p 1 1) 1 = false ∧ (s.markBegun 1).hthRange e = some (lo, 0))
    ∧ (∀ bad ∈ [(Reg.hthWaysUse, 15), (Reg.hthWays, 31)], ∃ (s : State) (e : Entry) (lo n : Nat), e.p 0 1 < 16 ∧ s.Starts 1 0x5005 e ∧ s.hthEnabled = true
      ∧ s.wayBusy (e.p 0 1) = false ∧ bitAt (e.p 1 1) 1 = false ∧ (s.markBegun 1).hthRange e = some (lo, n) ∧ 0 < n ∧ n ≤ 65536
      ∧ s.rbit bad.1 bad.2 = true ∧ (s.wayStripe (e.p 0 1) = true ∨ s.wayOff (e.p 0 1) = true))
    ∧ (∃ (s : State) (e : Entry) (lo n : Nat), e.p 0 1 < 16 ∧ s.Starts 1 0x5005 e ∧ s.hthEnabled = true
      ∧ s.wayBusy (e.p 0 1) = false ∧ bitAt (e.p 1 1) 1 = false ∧ (s.markBegun 1).hthRange e = some (lo, n) ∧ 0 < n ∧ n ≤ 65536
      ∧ bitAt (e.p 1 1) 0 = true ∧ s.wayLocked (e.p 0 1) = false ∧ s.tooFew (e.p 0 1) = true)
    ∧ (∃ s : State, s.rbit Reg.hthStatus 4 = true ∧ s.hth.invs = [1] ∧ s.rbit Reg.hthStatus 6 = false) := by
  unfold State.Starts
  refine ⟨⟨cmdAt ddr 0x5005 0 [15, 1], _, by decide, rfl, by decide +kernel⟩,
    ⟨cmdAt (heather Reg.hthWaysUse 31) 0x5005 0 [15, 1], _, by decide, rfl, by decide +kernel⟩,
    ⟨cmdAt (heather Reg.hthStatus 0) 0x5005 0 ([15, 1, 0x10] ++ zeros 13 ++ leBytes 8 1), _, by decide, rfl, by decide +kernel⟩,
    ⟨cmdAt (heather Reg.hthStatus 0) 0x5005 0 [15, 1, 0x10], _, _, by decide, rfl, by decide +kernel, by decide +kernel, by decide, rfl⟩, ?_,
    ⟨cmdAt ((heather Reg.hthStatus 0).setRf Reg.hthWays 15 0 0x3FFF) 0x5005 0 ([15, 1, 0x10] ++ zeros 13 ++ leBytes 8 (128 * 65536)), _, 2 ^ 23, 65536, by decide, rfl, by decide +kernel⟩,
    ⟨{ ddr.setRbit Reg.hthStatus 4 true with hth := { Hth.reset with invs := [1] } }, by decide +kernel⟩⟩
  intro bad h
  refine ⟨cmdAt (heather bad.1 bad.2) 0x5005 0 ([15, 1, 0x10] ++ zeros 13 ++ leBytes 8 128), _, _, _, ?_, rfl, ?_, ?_, ?_, rfl, ?_⟩ <;>
    simp only [List.mem_cons, List.not_mem_nil, or_false] at h <;> rcases h with rfl | rfl <;> decide +kernel


/-! ### Hedgerow, resets, time -/

/-- A READY part with source `n` as given. -/
def sourced (n : Nat) (x : Src) : State := pool.setSrc n x

/-- A source routed to internal target 15 at priority 1, pending or not, not masked. -/
def routed (pend : Bool) : Src := ⟨pend, false, false, none, ⟨0, 0, 15, false, 1⟩, none, none, none⟩

theorem witness_HedgerowSources :
    (∀ mask ∈ [true, false], ∃ (s : State) (n : Nat), srcExists n = true ∧ s.inP2 = false ∧ srcIsLevel n = false ∧ (s.src n).mask = mask)
    ∧ (∃ (s : State) (n : Nat) (t : Fin 16), srcExists n = true ∧ s.inP2 = false ∧ highest (s.presented t) = some n)
    ∧ (∃ (s : State) (n : Nat) (t : Fin 16), srcExists n = true ∧ s.inP2 = false ∧ s.presented t = [])
    ∧ (∃ (s : State) (n : Nat) (t : Fin 16) (val : W32), srcExists n = true ∧ s.inP2 = false ∧ fieldOf val.toNat 11 0 = n
      ∧ (s.src n).inService = some (t : Nat) ∧ (s.src n).level = false)
    ∧ (∃ (s : State) (n : Nat) (t : Fin 16) (val : W32), srcExists n = true ∧ s.inP2 = false ∧ fieldOf val.toNat 11 0 = n
      ∧ (s.src n).inService ≠ some (t : Nat))
    ∧ (∃ (s : State) (n : Nat) (word : Fin 128) (val : W32) (i : Nat), srcExists n = true ∧ s.inP2 = false
      ∧ ((List.range 32).filter fun j => val.getLsbD j) = [i] ∧ n = 32 * (word : Nat) + i ∧ s.srcByHost n = false)
    ∧ (∀ bad ∈ [true, false], ∃ (s : State) (n : Nat) (val : W32), srcExists n = true ∧ s.inP2 = false ∧ s.rf Reg.hrwSrcSel 11 0 = n
      ∧ (srcIsLevel n && (routeOf val.toNat).msix) = bad)
    ∧ (∃ (s : State) (n t : Nat), srcExists n = true ∧ s.inP2 = false ∧ (s.src n).oldTarget = some t ∧ (s.src n).pend = false)
    ∧ (∃ (s : State) (n t0 : Nat), srcExists n = true ∧ s.inP2 = false ∧ (s.src n).asleepAt = some t0 ∧ (s.src n).pend = true
      ∧ (s.src n).fallen = none ∧ (s.src n).route.msix = false ∧ s.tgtAsleep (s.src n).route.target = true) := by
  refine ⟨?_, ⟨sourced 0x62F (routed true), 0x62F, 15, by decide +kernel⟩, ⟨pool, 0, 15, by decide +kernel⟩,
    ⟨sourced 0x410 { routed false with inService := some 15 }, 0x410, 15, 0x410, by decide +kernel⟩,
    ⟨sourced 0x410 (routed false), 0x410, 15, 0x410, by decide +kernel⟩,
    ⟨pool, 0x62F, 49, 0x8000, 15, by decide +kernel⟩, ?_,
    ⟨sourced 0x410 { routed false with oldTarget := some 3 }, 0x410, 3, by decide +kernel⟩,
    ⟨(sourced 0x410 { routed true with asleepAt := some 0, route := ⟨0, 0, 7, false, 1⟩ }).setTgt 7 ⟨true, true, 0⟩, 0x410, 0, by decide +kernel⟩⟩
  · intro mask _
    cases mask
    · exact ⟨sourced 0x61F { routed false with mask := false }, 0x61F, by decide +kernel⟩
    · exact ⟨sourced 0x61F { routed false with mask := true }, 0x61F, by decide +kernel⟩
  · intro bad _
    cases bad
    · exact ⟨pool.setRf Reg.hrwSrcSel 11 0 0x500, 0x500, 0, by decide +kernel⟩
    · exact ⟨pool.setRf Reg.hrwSrcSel 11 0 0x500, 0x500, 0x200000, by decide +kernel⟩

/-- Function 0 awake, its vector 3 with an open batch of one edge. -/
def batched (mask : Bool) : State :=
  (pool.setFn 0 { pool.fn 0 with msixEn := true, bme := true, d3 := false }).setVec 0 3 ⟨1, 10, some ⟨[5], 1, 10⟩, false, mask, 0x1000, 7⟩

theorem witness_MsixMessages :
    (∃ (s : State) (fn v : Nat) (bt : EdgeBatch), (s.vec fn v).batch = some bt ∧ (s.fn fn).asleep = false ∧ s.vecMasked fn v = false
      ∧ bt.count ≤ bt.edges.length ∧ s.pair Reg.hrwCntMsgLo + 1 < 2 ^ 64)
    ∧ (∃ (s : State) (fn v : Nat) (bt : EdgeBatch), (s.vec fn v).batch = some bt ∧ (s.fn fn).asleep = false ∧ s.vecMasked fn v = true)
    ∧ (∃ (s : State) (fn v : Nat), v < s.tableSize fn) :=
  ⟨⟨batched false, 0, 3, _, rfl, by decide +kernel⟩, ⟨batched true, 0, 3, _, rfl, by decide +kernel⟩, ⟨pool, 0, 0, by decide +kernel⟩⟩

/-- A part whose boot is in a state. -/
def bootAs (c : BootSt) (more : Crp → Crp) : State := { pool with crp := more { pool.crp with boot := c } }

theorem witness_ResetCommands :
    (∃ val : W32, fieldOf val.toNat 15 8 = 0xC5 ∧ bitAt val.toNat 0 = true ∧ bitAt val.toNat 1 = false)
    ∧ (∃ val : W32, fieldOf val.toNat 15 8 = 0xC5 ∧ bitAt val.toNat 1 = true) ∧ (∃ val : W32, fieldOf val.toNat 15 8 ≠ 0xC5)
    ∧ (∃ s : State, s.crp.boot = .ready) ∧ (∃ fn : Nat, fn < 64) ∧ (∃ s : State, s.crp.boot = .held) ∧ (∃ s : State, s.crp.boot = .waitSoc)
    ∧ (∃ s : State, s.crp.corePwrEn = true ∧ s.crp.corePg = false ∧ s.crp.trans = 0 ∧ s.crp.boot = .waitCore ∧ s.crp.sysRstN = true)
    ∧ (∃ s : State, s.crp.boot = .waitCore ∧ s.crp.corePwrEn = false) ∧ (∃ s : State, s.crp.boot ≠ .off ∧ s.crp.socPg = true)
    ∧ (∃ s : State, s.crp.corePg = true ∧ s.crp.corePwrEn = true ∧ s.crp.trans = 0)
    ∧ (∃ (s : State) (t : Nat), s.upd.nowAt = some t ∧ t + 3 ≤ s.clk) :=
  ⟨⟨0xC501, by decide⟩, ⟨0xC502, by decide⟩, ⟨0xC401, by decide⟩, ⟨pool, rfl⟩, ⟨63, by decide⟩, ⟨bootAs .held id, rfl⟩, ⟨bootAs .waitSoc id, rfl⟩,
    ⟨bootAs .waitCore fun c => { c with corePwrEn := true, corePg := false, sysRstN := true }, by decide +kernel⟩,
    ⟨bootAs .waitCore fun c => { c with corePwrEn := false }, by decide +kernel⟩, ⟨bootAs .ready fun c => { c with socPg := true }, by decide +kernel⟩,
    ⟨bootAs .ready fun c => { c with corePwrEn := true, corePg := true }, by decide +kernel⟩,
    ⟨{ pool with upd := { pool.upd with nowAt := some 0 }, clk := 3 }, 0, by decide +kernel⟩⟩

/-- The READY part in P2. -/
def asleepPart : State := pool.setRf Reg.crpStatus 1 0 2

theorem witness_PowerAndThermal :
    (∃ (s : State) (dom : Fin 10), s.ready = true ∧ s.stopsByDesign dom = false ∧ (dom : Nat) ∉ [4, 5, 6])
    ∧ (∃ (s : State) (k i : Nat), s.ready = true ∧ s.inP2 = false ∧ s.par Par.p1En = 1 ∧ s.gateable.contains (k, i) = true
      ∧ s.crp.gated.contains (k, i) = false ∧ s.blockEmpty k i = true)
    ∧ (∃ (s : State) (k i : Nat), s.crp.gated.contains (k, i) = true)
    ∧ (∃ (s : State) (val : W32) (dt : Nat), s.ready = true ∧ s.crp.trans = 0 ∧ fieldOf val.toNat 1 0 = 2 ∧ s.inP2 = false ∧ s.p2Refused = some dt)
    ∧ (∃ (s : State) (val : W32), s.ready = true ∧ s.crp.trans = 0 ∧ fieldOf val.toNat 1 0 = 0 ∧ s.inP2 = true)
    ∧ (∃ s : State, s.inP2 = true ∧ s.crp.trans = 0 ∧ s.wakePending = true ∧ s.crp.linkUp = false)
    ∧ (∃ (s : State) (n : Fin 14) (temp : Int), s.sensorOn n = true ∧ 16 * (s.par Par.alarmC : Int) ≤ temp)
    ∧ (∃ (s : State) (x : Nat × Nat), x ∈ s.thm.hot ∧ 2 ≤ x.2 ∧ s.sensorOn x.1 = true ∧ s.crp.boot ≠ .tripped)
    ∧ (∃ (s : State) (t : Nat), s.thm.coolSince = some t ∧ s.crp.boot = .tripped ∧ t + 300 ≤ s.clk) :=
  ⟨⟨pool, 9, by decide +kernel⟩, ⟨pool.onEz fun z => { z with par := KMap.put z.par Par.p1En 1 }, 6, 7, by decide +kernel⟩,
    ⟨bootAs .ready fun c => { c with gated := [(6, 7)] }, 6, 7, by decide +kernel⟩, ⟨pool, 2, 0x1D01, by decide +kernel⟩,
    ⟨asleepPart, 0, by decide +kernel⟩, ⟨{ asleepPart.setSrc 0x62F (routed true) with crp := { pool.crp with linkUp := false } }, by decide +kernel⟩,
    ⟨pool, 0, 4096, by decide +kernel⟩, ⟨{ pool with thm := { pool.thm with hot := [(0, 2)] } }, (0, 2), by decide +kernel⟩,
    ⟨{ bootAs .tripped id with thm := { pool.thm with coolSince := some 0 }, clk := 300 }, 0, by decide +kernel⟩⟩

/-- What a boundary finds: the decision set late. -/
def late : TickIn := ⟨1, 2, true, [], [], []⟩

theorem witness_Ticks :
    (∃ s : State, s.crp.boot = .off) ∧ (∃ s : State, s.crp.boot ≠ .off ∧ s.crp.warmEnd = none ∧ s.ready = false)
    ∧ (∃ (s : State) (tk : TickIn), s.crp.boot ≠ .off ∧ s.crp.warmEnd = none ∧ s.ready = true ∧ s.dhd.armed = false ∧ s.fld.tel = none
      ∧ tk.late = true ∧ tk.ce = [])
    ∧ (∃ s : State, s.ready = true ∧ s.fld.ckpt + 2 ^ 22 ≤ s.tick) :=
  ⟨⟨bootAs .off id, rfl⟩, ⟨State.reset, by decide +kernel⟩, ⟨pool, late, by decide +kernel⟩,
    ⟨pool.setReg Reg.fldTickLo 0x400000, by decide +kernel⟩⟩

/-- The part with a configured telemetry, whose snapshot is due. -/
def telemetered : State :=
  { (pool.setFn 0 { pool.fn 0 with bme := true, d3 := false }).onFld fun f => { f with tel := some ⟨0x1000, 4, 0, 0⟩, telDue := true } with
    crp := { pool.crp with linkUp := true } }

theorem witness_BackgroundAndTelemetry :
    (∃ (s : State) (e : Entry), s.Starts 1 0x6004 e ∧ ([(Par.bgDdrPct, e.p 0 1), (Par.bgDrivePct, e.p 1 1), (Par.bgIdlePct, e.p 2 1)].any fun x =>
      x.2 < (parInfo x.1).lo || (parInfo x.1).hi < x.2) = false)
    ∧ (∃ (s : State) (e : Entry), s.Starts 1 0x6005 e ∧ e.p 0 1 = 0)
    ∧ (∃ (s : State) (e : Entry), s.Starts 1 0x6005 e ∧ e.p 0 1 = 2 ∧ e.p 8 8 % 64 = 0 ∧ e.ring ≠ 1023)
    ∧ (∃ (s : State) (words : Nat), s.ready = true ∧ s.inP2 = false ∧ s.initDone = true ∧ s.fld.patrolPos + words < s.patrolWords)
    ∧ (∃ (s : State) (root block : Nat) (g : Group), s.group? root = some g ∧ s.ready = true ∧ s.inP2 = false ∧ s.owns (s.rootDom root) = true
      ∧ s.verifyHere (s.rootDom root) root block = true ∧ s.treeBusy root = false ∧ g.st = .optimal ∧ s.locked root block = false
      ∧ s.tskFree (s.rootDom root) = true
      ∧ ((List.range (g.geoAt block).d).any fun k => s.blockLost root (block / (g.geoAt block).d * (g.geoAt block).d + k)) = false)
    ∧ (∃ (s : State) (p : Fin 16) (used : Nat), s.ready = true ∧ s.inP2 = false ∧ (s.port p).present = true ∧ used < s.par Par.wearWarnPct)
    ∧ (∃ (s : State) (e : Entry), s.Starts 1 0x6006 e ∧ e.p 0 8 % 4096 = 0 ∧ 4 ≤ e.p 8 1 ∧ e.p 8 1 ≤ 16 ∧ e.p 9 1 ≤ 63 ∧ e.p 10 2 ≤ 3000)
    ∧ (∃ (s : State) (c : TelCfg), s.fld.tel = some c ∧ s.ready = true ∧ s.fld.telDue = true ∧ s.crp.linkUp = true ∧ (s.fn c.fn).d3 = false
      ∧ (s.fn c.fn).bme = true)
    ∧ (∃ (s : State) (e : Entry), s.Starts 1 0x7F03 e ∧ e.p 0 1 = 0 ∧ s.ez.inst = [])
    ∧ (∃ (s : State) (e : Entry), s.Starts 1 0x7F04 e ∧ e.p 0 1 = 0 ∧ e.p 1 1 ≤ 1 ∧ e.p 2 1 < s.subCount (e.p 1 1) ∧ 1 ≤ e.p 4 4
      ∧ e.p 4 4 ≤ 10000 ∧ s.subUp (e.p 1 1) (e.p 2 1) = false) :=
  ⟨⟨cmdAt pool 0x6004 0 [10, 10, 10], _, rfl, by decide +kernel⟩, ⟨cmdAt pool 0x6005 0 [], _, rfl, by decide +kernel⟩,
    ⟨cmdAt pool 0x6005 0 [2], _, rfl, by decide +kernel⟩,
    ⟨pool.setRbit Reg.memStatus 1 true, 25165823, by decide +kernel, by decide +kernel, by decide +kernel,
      Nat.lt_of_lt_of_le (by decide +kernel : 0 + 25165823 < 0 * 2 ^ 27 + 192 * 2 ^ 20 / 8) (Nat.le_add_right _ _)⟩,
    ⟨small.onFld fun f => { f with verifyNext := [(0, 4, 8)] }, 0, 4, _, rfl, by decide +kernel⟩,
    ⟨pool.setPort 15 { Port.down with present := true }, 15, 1, by decide +kernel⟩,
    ⟨cmdAt pool 0x6006 0 (zeros 8 ++ [16, 63, 0xB8, 0x0B]), _, rfl, by decide +kernel⟩,
    ⟨telemetered, _, rfl, by decide +kernel⟩,
    ⟨cmdAt pool 0x7F03 0 [], _, rfl, by decide +kernel⟩, ⟨cmdAt pool 0x7F04 0 [0, 1, 0, 0, 0x10, 0x27], _, rfl, by decide +kernel⟩⟩

/-- An echo request for the out-of-band port's own address. -/
def oobEcho : Bytes :=
  let addr := zeros 16 ++ pool.oobLocal
  let sum := netSum (addr ++ beBytes 4 8 ++ beBytes 4 58 ++ [128, 0, 0, 0] ++ [1, 2, 3, 4])
  [0x60, 0, 0, 0] ++ beBytes 2 8 ++ [58, 255] ++ addr ++ [128, 0] ++ beBytes 2 (0xFFFF - sum) ++ [1, 2, 3, 4]

theorem witness_OutOfBandAndSmbus :
    (∃ (s : State) (p : Bytes), s.ready = true ∧ p.length = 64 ∧ (∀ h ∈ s.fld.heldOob, h.pkt ≠ p) ∧ s.fld.oobQ.length < 256)
    ∧ (∃ (s : State) (h : HeldOob) (bs : Bytes) (rest : List HeldOob), s.ready = true ∧ s.fld.heldOob = h :: rest ∧ h.pkt.length = 64
      ∧ h.reply = some bs)
    ∧ (∃ (s : State) (woff : Nat) (data : Bytes), s.ready = true ∧ woff + data.length ≤ 2 ^ 20 ∧ data.length ≤ 1024)
    ∧ (∃ (s : State) (woff len : Nat), s.ready = true ∧ woff + len ≤ 2 ^ 20 ∧ len ≤ 1024)
    ∧ (∃ (s : State) (b f : Bytes), s.ready = true ∧ f.length ≤ 1500 ∧ icmp6 f = some (128, b) ∧ s.oobIs6 (slice f 24 16) = true)
    ∧ (∃ (s : State) (a : Nat), s.smbAcks = true ∧ a = 2 * (0x4C + b2n s.part.headB))
    ∧ (∃ (key : Fin 256) (ok : Bool), (key : Nat) ≠ 0xC5 ∨ ok = false) :=
  ⟨⟨pool, pkt 3 0 0 0 [], by decide +kernel⟩,
    ⟨pool.onFld fun f => { f with heldOob := [⟨pkt 3 0 0 0 [], 7, 1, some [1, 2]⟩] }, _, _, _, by decide +kernel, rfl, by decide +kernel, rfl⟩,
    ⟨pool, 2 ^ 20 - 4, [1, 2, 3, 4], by decide +kernel⟩, ⟨pool, 2 ^ 20 - 1024, 1024, by decide +kernel⟩,
    ⟨pool, [1, 2, 3, 4], oobEcho, by decide +kernel⟩, ⟨pool, _, by decide +kernel, rfl⟩, ⟨0xC5, false, by decide⟩⟩

/-- A record of an event of Fold with SEQ `n`, and the event. -/
def event (a : Nat) : SklEv := ⟨1, 0, 2, false, 1, 0, 0, 0xFFFF, a⟩
def record (n : Nat) : SklRec := ⟨n, 0, event 5, false, 0⟩

/-- Skylark with records, events on their way and room or none. -/
def logged (rs : List SklRec) (q : List SklEv) (full : Bool) : State :=
  { pool with skl := { pool.skl with recs := rs, queue := q, full := full, next := rs.length, oldest := 0, tickLoaded := true, memFail := false } }

theorem witness_SkylarkRecords :
    (∃ (s : State) (ev : SklEv) (rest : List SklEv), s.skl.queue = ev :: rest ∧ s.skl.memFail = false ∧ s.skl.full = false
      ∧ (∀ r ∈ s.skl.recs.getLast?, s.merges ev r = false) ∧ s.skl.recs.length < 8191)
    ∧ (∃ (s : State) (ev : SklEv) (rest : List SklEv) (r : SklRec), s.skl.queue = ev :: rest ∧ s.skl.memFail = false
      ∧ s.skl.recs.getLast? = some r ∧ s.merges ev r = true)
    ∧ (∃ (s : State) (ev : SklEv) (rest : List SklEv), s.skl.queue = ev :: rest ∧ s.skl.memFail = false ∧ s.skl.full = true
      ∧ (∀ r ∈ s.skl.recs.getLast?, s.merges ev r = false) ∧ s.skl.recs ≠ [])
    ∧ (∃ (s : State) (e : Entry), s.Starts 1 0x7F01 e ∧ e.snap = none ∧ 1 ≤ e.p 4 4 ∧ e.p 4 4 ≤ 8192 ∧ e.p 8 8 % 32 = 0 ∧ e.ring ≠ 1023)
    ∧ (∃ (s : State) (e : Entry), s.Starts 1 0x7F02 e ∧ (∀ x ∈ s.ez.queue, x.op = 0x7F01 → e.eid < x.eid) ∧ seqBelow (e.p 0 4) s.skl.next = true
      ∧ s.skl.memFail = false ∧ seqBelow (e.p 0 4) s.skl.oldest = false ∧ (∃ r ∈ s.skl.recs, seqBelow (e.p 0 4) r.seq = false)) :=
  ⟨⟨logged [record 0] [event 6] false, _, _, rfl, by decide +kernel⟩, ⟨logged [record 0] [event 5] false, _, _, _, rfl, rfl, rfl, by decide +kernel⟩,
    ⟨logged [record 0] [event 6] true, _, _, rfl, by decide +kernel⟩,
    ⟨cmdAt pool 0x7F01 0 (zeros 4 ++ [0, 0x20]), _, rfl, by decide +kernel⟩,
    ⟨cmdAt (logged [record 0, record 1] [] true) 0x7F02 0 [], _, rfl, by decide +kernel⟩⟩

theorem witness_SkylarkRecordSelect :
    (∃ (s : State) (val : W32) (r : SklRec), s.skl.recs.find? (fun r => r.seq == val.toNat) = some r)
    ∧ (∃ (s : State) (val : W32), ∀ r ∈ s.skl.recs, r.seq ≠ val.toNat) :=
  ⟨⟨logged [record 0, record 1] [] true, 1, _, rfl⟩, ⟨logged [record 0, record 1] [] true, 2, by decide +kernel⟩⟩

/-- Slot 1, not selected for boot, as `x`. -/
def imaged (x : Slot) : State := pool.onUpd fun u => { u with slots := [⟨.active, [], []⟩, x] }

theorem witness_UpdStatusResult : ∃ (s : State) (e : Entry), s.Starts 1 0x7002 e := ⟨cmdAt pool 0x7002 0 [], _, rfl⟩

theorem witness_FirmwareAndAttestation :
    (∃ (s : State) (i : Nat) (x : Slot), i = s.inactive ∧ x = s.slot i ∧ i < s.upd.slots.length ∧ s.upd.active < 2)
    ∧ (∃ (s : State) (e : Entry) (i : Nat) (x : Slot) (p : Bytes), i = s.inactive ∧ x = s.slot i ∧ i < s.upd.slots.length ∧ s.upd.active < 2
      ∧ s.Starts 1 0x7001 e ∧ e.p 16 8 % 64 = 0 ∧ e.ring ≠ 1023 ∧ p.length = 65536 ∧ e.p 8 2 = 0 ∧ s.trial = false ∧ x.st = .empty)
    ∧ (∃ (s : State) (e : Entry) (i : Nat) (x : Slot) (p : Bytes), i = s.inactive ∧ x = s.slot i ∧ i < s.upd.slots.length ∧ s.upd.active < 2
      ∧ s.Starts 1 0x7001 e ∧ e.p 16 8 % 64 = 0 ∧ e.ring ≠ 1023 ∧ p.length = 65536 ∧ e.p 8 2 = 1 ∧ x.st = .receiving
      ∧ 1 < imgPieces (s.slotHead i) ∧ x.pieces ≠ [] ∧ x.bits.contains 1 = false)
    ∧ (∃ (s : State) (e : Entry) (i : Nat) (x : Slot), i = s.inactive ∧ x = s.slot i ∧ i < s.upd.slots.length ∧ s.upd.active < 2
      ∧ s.Starts 1 0x7003 e ∧ x.st = .complete ∧ x.delivered = false)
    ∧ (∃ (s : State) (e : Entry) (i : Nat) (x : Slot), i = s.inactive ∧ x = s.slot i ∧ i < s.upd.slots.length ∧ s.upd.active < 2
      ∧ s.Starts 1 0x7004 e ∧ e.p 0 1 = 0 ∧ x.st = .verified)
    ∧ (∃ (s : State) (e : Entry) (i : Nat) (x : Slot), i = s.inactive ∧ x = s.slot i ∧ i < s.upd.slots.length ∧ s.upd.active < 2
      ∧ s.Starts 1 0x7005 e ∧ e.p 0 1 = 0 ∧ x.st = .verified ∧ s.fuses.floor ≤ imgSvn (s.slotHead i))
    ∧ (∃ s : State, s.inactive < s.upd.slots.length ∧ s.upd.active < 2 ∧ s.ready = true ∧ s.upd.selftest = true ∧ (s.slot s.inactive).st = .verified)
    ∧ (∃ (s : State) (e : Entry), s.inactive < s.upd.slots.length ∧ s.upd.active < 2 ∧ s.Starts 1 0x7010 e ∧ e.p 32 8 % 64 = 0 ∧ e.ring ≠ 1023
      ∧ s.rf Reg.updAttQ 20 0 < 2 ^ 20) :=
  ⟨⟨imaged ⟨.empty, [], []⟩, _, _, rfl, rfl, by decide +kernel⟩,
    ⟨cmdAt (imaged ⟨.empty, [], []⟩) 0x7001 0 [], _, _, _, zeros 65536, rfl, rfl, by decide +kernel, by decide +kernel, rfl, by decide +kernel, by decide,
      List.length_replicate, by decide +kernel, by decide +kernel, rfl⟩,
    ⟨cmdAt (imaged ⟨.receiving, [(0, [0, 0, 2])], [0]⟩) 0x7001 0 (zeros 8 ++ [1]), _, _, _, zeros 65536, rfl, rfl, by decide +kernel, by decide +kernel, rfl,
      by decide +kernel, by decide, List.length_replicate, by decide +kernel, rfl, by decide +kernel, by decide +kernel, by decide +kernel⟩,
    ⟨cmdAt (imaged ⟨.complete, [(0, [])], [0]⟩) 0x7003 0 [], _, _, _, rfl, rfl, by decide +kernel, by decide +kernel, rfl, rfl, by decide +kernel⟩,
    ⟨cmdAt (imaged ⟨.verified, [(0, [])], [0]⟩) 0x7004 0 [], _, _, _, rfl, rfl, by decide +kernel, by decide +kernel, rfl, by decide +kernel, rfl⟩,
    ⟨{ cmdAt (imaged ⟨.verified, [(0, [])], [0]⟩) 0x7005 0 [] with fuses := { pool.fuses with floor := 0 } }, _, _, _, rfl, rfl, by decide +kernel,
      by decide +kernel, rfl, by decide +kernel, rfl, Nat.zero_le _⟩,
    ⟨(imaged ⟨.verified, [(0, [])], [0]⟩).onUpd fun u => { u with selftest := true }, by decide +kernel⟩,
    ⟨cmdAt pool 0x7010 0 [], _, by decide +kernel, by decide +kernel, rfl, by decide +kernel⟩⟩

theorem witness_EveryStepKeepsTheBankCanonical : ∃ s t : State, s.bankOk ∧ step s = .next t :=
  ⟨State.reset, _, ⟨by decide, fun x h => nomatch h⟩, rfl⟩

theorem witness_RegisterBank : (∃ s : State, s.bankOk) ∧ (∃ m : List Host.Cell, Mem.wf m = true) :=
  ⟨⟨State.reset, by decide, fun x h => nomatch h⟩, ⟨[(5, 1)], by decide⟩⟩

/-- A write command of a drive behind port 2, at a stage. -/
def driveCmd (stage : Nat) : NvCmd := ⟨5, 2, 1, 300, 4, true, .label 0 1, 0, stage, 0, false, false, 0, zeros 16, []⟩

/-- The READY part with a flash port and that command. -/
def driven (p : Nat) (x : Port) (cs : List NvCmd) : State :=
  { (pool.setPort p x).onFpt fun f => { f with cmds := cs, ns := [(3, nsAt 3)] } with clk := 3 * 100000000 }

/-- A namespace found behind a port, without labels. -/
def foundNs : Inserted := ⟨List.replicate 16 3, true, true, 2 ^ 20, 1, []⟩

theorem witness_FlashPorts :
    (∃ (s : State) (c : NvCmd), s.cmdOf 5 = some c ∧ c.stage = 0 ∧ c.at_ + 3 * s.par Par.cmdTimeoutMs ≤ s.clk ∧ s.rbit Reg.fptErr 31 = false)
    ∧ (∃ (s : State) (c : NvCmd), s.cmdOf 5 = some c ∧ c.stage = 1 ∧ c.stageAt + 3000 ≤ s.clk ∧ s.fpt.cmds = [c] ∧ c.retried = false
      ∧ c.held = false ∧ c.cid = 5)
    ∧ (∃ (s : State) (p : Fin 16), (s.port p).resetting = true ∧ (∀ c ∈ s.fpt.cmds, c.port ≠ (p : Nat)))
    ∧ (∃ (s : State) (p : Fin 16), (s.port p).dpc = false ∧ (∀ c ∈ s.fpt.cmds, c.port ≠ (p : Nat)))
    ∧ (∃ (s : State) (p : Fin 16), (s.port p).removed = true)
    ∧ (∃ (s : State) (p : Fin 16) (n : Nat) (x : Inserted) (id : Bytes), (s.port p).removed = false ∧ (s.port p).dpc = false
      ∧ (s.port p).present = true ∧ (p : Nat) < s.portCount ∧ id = padTo x.nguid 16 ∧ s.nsNumber id = some n ∧ s.data.nodes = [] ∧ x.labels = [])
    ∧ (∃ (s : State) (n : Nat) (x : Ns), s.nsOf n = some x)
    ∧ (∃ (s : State) (n : Nat) (x : Ns), s.nsOf n = some x ∧ x.present = false ∧ s.data.nodes = []) :=
  ⟨⟨driven 2 Port.down [driveCmd 0], _, rfl, by decide +kernel⟩, ⟨driven 2 Port.down [driveCmd 1], _, rfl, by decide +kernel⟩,
    ⟨driven 3 { Port.down with resetting := true } [driveCmd 0], 3, by decide +kernel⟩, ⟨driven 2 Port.down [], 2, by decide +kernel⟩,
    ⟨driven 15 { Port.down with removed := true } [], 15, by decide +kernel⟩,
    ⟨(driven 1 { Port.down with present := true } []).onData fun d => { d with nodes := [] }, 1, 3, foundNs, _, by decide +kernel, by decide +kernel,
      by decide +kernel, by decide +kernel, rfl, by decide +kernel, rfl, rfl⟩,
    ⟨driven 2 Port.down [], 3, _, rfl⟩,
    ⟨(driven 2 Port.down []).onData (fun d => { d with nodes := [] }) |>.onFpt fun f => { f with ns := [(3, { nsAt 3 with present := false })] }, 3, _, rfl, rfl, rfl⟩⟩

/-! ## Well-formedness: each check refuses a term -/

theorem test_wf_bar : (Instr.unsupportedAccess (2 ^ 22) false).wf = false := by decide
theorem test_wf_offset : (Instr.registerWrite 0x101 0).wf = false := by decide
theorem test_wf_function : (Instr.functionLevelReset 64).wf = false := by decide
theorem test_wf_vector : (Instr.hrwMod 0 2048 0).wf = false := by decide
theorem test_wf_ring : (Instr.ringDrainComplete 1024).wf = false := by decide
theorem test_wf_slot : (Instr.sqTailDoorbell 0 1023 0).wf = false := by decide
theorem test_wf_source : (Instr.sourceEdge 0x630 true).wf = false := by decide
theorem test_wf_namespace : (Instr.nsUnbind 1024).wf = false := by decide
theorem test_wf_set : (Instr.tagParityError 0 65536 true).wf = false := by decide
theorem test_wf_instance : (Instr.disableDrainComplete 9 0).wf = false := by decide
theorem test_wf_fetch : (Instr.packetConsume (.ok [1]) .failed true).wf = false := by decide
theorem test_wf_frame : (Instr.arpRequest 0 0 (zeros 9239)).wf = false := by decide +kernel
theorem test_wf_accepts : (Instr.registerWrite 0x100 0).wf = true ∧ (Instr.packetConsume (.ok (zeros 64)) .failed true).wf = true := by decide

/-! ## Values from the spec's worked examples and from the standards its rules name -/

/-- 04, worked example: the payload of "heath heath heath !". -/
theorem test_gorse_payload :
    (gorseCompress false none ([0x68, 0x65, 0x61, 0x74, 0x68, 0x20, 0x68, 0x65, 0x61, 0x74, 0x68, 0x20, 0x68, 0x65, 0x61, 0x74, 0x68, 0x20, 0x21])).1.drop 32
      = [0xC9, 0x68, 0x65, 0x61, 0x74, 0x68, 0x20, 5, 0, 0x20, 0x21] := by decide +kernel

/-- 10, worked example: bits 63 to 16 of the header of codeword 100 of sub data set 37. -/
theorem test_frame_header : (headBytes (Sys2Proof.Machine.frameHead 41207 37 100 9 1 0 false)).take 6 = [0, 0xA0, 0xF7, 0x95, 0x92, 0x48] := by decide +kernel

/-- 10, worked example: its track. -/
theorem test_frame_track : trackOf 37 100 = 9 := by decide

/-- 16, worked example: the channel of a DDR address. -/
theorem test_ddr_channel : chanOf 0x1234567880 = 1 := by decide

/-- FIPS 180-4's digest of "abc". -/
theorem test_sha256 : sha256 [0x61, 0x62, 0x63] = [0xBA, 0x78, 0x16, 0xBF, 0x8F, 0x01, 0xCF, 0xEA, 0x41, 0x41, 0x40, 0xDE, 0x5D, 0xAE, 0x22, 0x23,
    0xB0, 0x03, 0x61, 0xA3, 0x96, 0x17, 0x7A, 0x9C, 0xB4, 0x10, 0xFF, 0x61, 0xF2, 0x00, 0x15, 0xAD] := by decide +kernel

/-- FIPS 197's example with a 256-bit key. -/
theorem test_aes256 : aesEnc ((List.range 32).map byteOf) ((List.range 16).map fun n => byteOf (17 * n))
    = [0x8E, 0xA2, 0xB7, 0xCA, 0x51, 0x67, 0x45, 0xBF, 0xEA, 0xFC, 0x49, 0x90, 0x4B, 0x49, 0x60, 0x89] := by decide +kernel

/-- The usual check value of CRC-32C over "123456789". -/
theorem test_crc32c : crc32c ((List.range 9).map fun n => byteOf (0x31 + n)) = 0xE3069283 := by decide +kernel

/-- An empty queue idles (log entry 5). -/
theorem test_reset_idles : step State.reset = .next State.reset := rfl

/-- R14: a register reads its reset value until something writes it. -/
theorem test_reset_register : State.reset.reg Reg.glbAccErr = 0 := by decide +kernel

end Sys2Proof.Tests
end

section
/-! SUPPORT. What a reply can change: the shared frame of every command's final reply (R56, R57, R59). -/

namespace Sys2Proof.Machine

open Sys2Proof

/-! ## The frame of a reply -/

/-- State `s` with the parts that writing a reply can touch taken from `t`: the queue, the rings, the register bank,
Hedgerow, the packets held for the out-of-band port, and what is sent. -/
def State.takingReply (s t : State) : State :=
  { s with
    ez := { s.ez with queue := t.ez.queue, blocked := t.ez.blocked, sqs := t.ez.sqs, cqs := t.ez.cqs }
    regs := t.regs
    hrw := t.hrw
    fld := { s.fld with heldOob := t.fld.heldOob }
    out := t.out }

/-- State `t` differs from `s` in the parts that writing a reply can touch, if at all. -/
def State.ReplyFrom (s t : State) : Prop := t = s.takingReply t

theorem State.ReplyFrom.eq {s t : State} (h : s.ReplyFrom t) : t = s.takingReply t := h

theorem State.ReplyFrom.refl (s : State) : s.ReplyFrom s := rfl

theorem State.ReplyFrom.trans {s t u : State} (hst : s.ReplyFrom t) (htu : t.ReplyFrom u) : s.ReplyFrom u :=
  calc u = t.takingReply u := htu.eq
    _ = (s.takingReply t).takingReply u := congrArg (State.takingReply · u) hst.eq

/-- A step on a list of rings or commands that each time stays within the frame stays within it. -/
theorem State.ReplyFrom.foldl {α : Type} {f : State → α → State} (hf : ∀ s a, State.ReplyFrom s (f s a)) (l : List α) (s : State) :
    s.ReplyFrom (l.foldl f s) := by
  induction l generalizing s with
  | nil => exact .refl s
  | cons a l ih => exact (hf s a).trans (ih (f s a))

theorem State.replyFrom_freeEntry (s : State) (eid : Nat) : s.ReplyFrom (s.freeEntry eid) := rfl

theorem State.replyFrom_setSq (s : State) (r : Nat) (q : Sq) : s.ReplyFrom (s.setSq r q) := rfl

theorem State.replyFrom_setCq (s : State) (c : Nat) (q : Cq) : s.ReplyFrom (s.setCq c q) := rfl

theorem State.replyFrom_emit (s : State) (t : Tx) : s.ReplyFrom (s.emit t) := rfl

theorem State.replyFrom_oobReply (s : State) (r : Reply) (body : Bytes) : s.ReplyFrom (s.oobReply r body) := rfl

theorem State.replyFrom_edge (s : State) (n : Nat) : s.ReplyFrom (s.edge n) := by
  obtain ⟨h, o, e⟩ := State.edge_frame s n
  rw [e]
  rfl

theorem State.replyFrom_latch (s : State) (r : ErrReg) (inst cause : Nat) : s.ReplyFrom (s.latch r inst cause) := by
  obtain ⟨g, h, o, e⟩ := State.latch_frame s r inst cause
  rw [e]
  rfl

theorem State.replyFrom_ringErr (s : State) (r cause : Nat) : s.ReplyFrom (s.ringErr r cause) := by
  unfold State.ringErr
  refine State.ReplyFrom.trans ?_ (State.replyFrom_latch _ _ _ _)
  split
  · exact .refl s
  · split
    · exact State.replyFrom_setSq _ _ _
    · exact .refl s

theorem State.replyFrom_ringErrs (s : State) (rs : List Nat) (cause : Nat) : s.ReplyFrom (s.ringErrs rs cause) :=
  .foldl (fun s r => s.replyFrom_ringErr r cause) rs s

/-- A final reply frees its command's entry, another reply frees none. -/
theorem State.replyFrom_freeFinal (s : State) (r : Reply) : s.ReplyFrom (if r.fin then s.freeEntry r.eid else s) := by
  split
  · exact s.replyFrom_freeEntry r.eid
  · exact .refl s

theorem State.replyFrom_commitReply (s : State) (q : Sq) (c : Cq) (r : Reply) : s.ReplyFrom (s.commitReply q c r) := by
  unfold State.commitReply
  refine (s.replyFrom_freeFinal r).trans ?_
  generalize (if r.fin then s.freeEntry r.eid else s) = t
  dsimp only
  split
  · exact t.replyFrom_oobReply _ _
  · split
    · exact (t.replyFrom_setCq _ _).trans (State.replyFrom_ringErrs _ _ _)
    · split
      · exact (t.replyFrom_emit _).trans (State.replyFrom_setCq _ _ _)
      · exact ((t.replyFrom_emit _).trans (State.replyFrom_setCq _ _ _)).trans (State.replyFrom_edge _ _)

/-- Whether it is written, held or lost, a reply stays within its frame. -/
theorem State.replyFrom_reply (s : State) (r : Reply) : s.ReplyFrom (s.reply r) := by
  unfold State.reply
  split
  · exact s.replyFrom_freeFinal r
  · split
    · exact s.replyFrom_freeFinal r
    · split
      · exact s.replyFrom_freeFinal r
      · split
        · exact s.replyFrom_setCq _ _
        · exact s.replyFrom_commitReply _ _ _

theorem State.replyFrom_final (s : State) (e : Entry) (st dt : Nat) (res : Bytes) : s.ReplyFrom (s.final e st dt res) :=
  s.replyFrom_reply _

theorem State.ReplyFrom.roleKeys {s t : State} (h : s.ReplyFrom t) : t.ez.roleKeys = s.ez.roleKeys :=
  (congrArg (fun x : State => x.ez.roleKeys) h.eq :)

theorem State.ReplyFrom.sessions {s t : State} (h : s.ReplyFrom t) : t.ez.sessions = s.ez.sessions :=
  (congrArg (fun x : State => x.ez.sessions) h.eq :)

/-! ## What a reset keeps -/

/-- Keeping words of the bank through a reset changes the bank alone. -/
theorem State.foldl_keepWord_ez (old s : State) (l : List (Nat × Nat)) : (l.foldl old.keepWord s).ez = s.ez := by
  induction l generalizing s with
  | nil => rfl
  | cons x l ih => exact ih (old.keepWord s x)

/-- Role keys are kept through every reset (R68). -/
theorem State.rebuilt_roleKeys (s : State) (cold : Bool) : (s.rebuilt cold).ez.roleKeys = s.ez.roleKeys := by
  unfold State.rebuilt
  simp only [State.setRbit_ez, State.foldl_keepWord_ez]

end Sys2Proof.Machine
end

section
/-! ROLE_KEY_SET (R67, R68): its three outcomes, and the obligation they settle. -/

namespace Sys2Proof.Machine

open Sys2Proof

/-- The state once a role's key stands in NOR: with a Maintainer key, PROV is set (R67). -/
def State.storeRoleKey (s : State) (role : Nat) (key : Bytes) : State :=
  let s := s.onEz fun z => { z with roleKeys := KMap.put z.roleKeys role key }
  if role == 4 then s.setRbit Reg.fldStatus 1 true else s

@[simp] theorem State.storeRoleKey_roleKeys (s : State) (role : Nat) (key : Bytes) :
    (s.storeRoleKey role key).ez.roleKeys = KMap.put s.ez.roleKeys role key := by
  unfold State.storeRoleKey
  dsimp only
  split <;> rfl

@[simp] theorem State.storeRoleKey_sessions (s : State) (role : Nat) (key : Bytes) :
    (s.storeRoleKey role key).ez.sessions = s.ez.sessions := by
  unfold State.storeRoleKey
  dsimp only
  split <;> rfl

theorem State.storeRoleKey_maintainer_prov (s : State) (key : Bytes) :
    (s.storeRoleKey 4 key).rbit Reg.fldStatus 1 = true :=
  State.rbit_setRbit_same _ _ _ _ (by decide)

theorem State.storeRoleKey_regs_of_ne (s : State) {role : Nat} (key : Bytes) (h : role ≠ 4) :
    (s.storeRoleKey role key).regs = s.regs := by
  simp [State.storeRoleKey, h]

theorem State.storeRoleKey_reg_other (s : State) (role : Nat) (key : Bytes) {off : Nat} (h : off ≠ Reg.fldStatus) :
    (s.storeRoleKey role key).reg off = s.reg off := by
  by_cases hr : role = 4
  · subst hr
    exact State.reg_setRbit_other _ _ _ h
  · exact State.reg_congr (s.storeRoleKey_regs_of_ne key hr) off

section
variable {s : State} {eid : Nat} {e : Entry} (h : s.Starts eid 0x0005 e)
include h

/-- The step of a ROLE_KEY_SET that starts, by its role code and by what the NOR write gave. -/
theorem exec_roleKeySet_starts (ok : Bool) :
    exec (.roleKeySet eid ok) s = .next (
      if e.p 0 1 < 1 || 4 < e.p 0 1 then (s.markBegun eid).fail e St.invalidParam 0x0105
      else if !ok then (s.markBegun eid).fail e St.mediaError 0
      else ((s.markBegun eid).storeRoleKey (e.p 0 1) (slice e.area 8 32)).okReply e []) :=
  congrArg Host.Outcome.next (State.cmd_starts h _)

theorem exec_roleKeySet_badRole (hr : e.p 0 1 < 1 ∨ 4 < e.p 0 1) (ok : Bool) :
    exec (.roleKeySet eid ok) s = .next ((s.markBegun eid).fail e St.invalidParam 0x0105) := by
  rw [exec_roleKeySet_starts h, if_pos (by simpa using hr)]

theorem exec_roleKeySet_norFailed (h1 : 1 ≤ e.p 0 1) (h4 : e.p 0 1 ≤ 4) :
    exec (.roleKeySet eid false) s = .next ((s.markBegun eid).fail e St.mediaError 0) := by
  rw [exec_roleKeySet_starts h, if_neg (by simp; omega)]
  rfl

theorem exec_roleKeySet_stored (h1 : 1 ≤ e.p 0 1) (h4 : e.p 0 1 ≤ 4) :
    exec (.roleKeySet eid true) s
      = .next (((s.markBegun eid).storeRoleKey (e.p 0 1) (slice e.area 8 32)).okReply e []) := by
  rw [exec_roleKeySet_starts h, if_neg (by simp; omega)]
  rfl

end

/-- Settles O14: of the three outcomes of ROLE_KEY_SET only the stored one touches a role key, and neither a reply nor a
reset touches one after it. -/
theorem roleKeySet : Obligations.RoleKeySet := by
  unfold Obligations.RoleKeySet
  rintro s eid e _ h rfl
  refine ⟨fun h1 h4 => ⟨?stored, ?norFailed⟩, fun hr ok => exec_roleKeySet_badRole h hr ok⟩
  case stored =>
    have hu := ((s.markBegun eid).storeRoleKey (e.p 0 1) (slice e.area 8 32)).replyFrom_final e St.ok 0 []
    have hkeys := hu.roleKeys.trans (State.storeRoleKey_roleKeys _ _ _)
    have hsessions := hu.sessions.trans (State.storeRoleKey_sessions _ _ _)
    refine ⟨_, exec_roleKeySet_stored h h1 h4, hkeys, hsessions, fun cold => (State.rebuilt_roleKeys _ cold).trans hkeys, ?_,
      State.storeRoleKey_regs_of_ne _ _, fun _ => State.storeRoleKey_reg_other _ _ _⟩
    intro hmaintainer
    rw [hmaintainer]
    exact State.storeRoleKey_maintainer_prov _ _
  case norFailed =>
    have ht := (s.markBegun eid).replyFrom_final e St.mediaError 0 []
    exact ⟨_, exec_roleKeySet_norFailed h h1 h4, rfl, ht.roleKeys, ht.sessions⟩

end Sys2Proof.Machine
end

section
/-! SKL_RSEL (R500): the registers that show a record, and the obligation they settle. -/

namespace Sys2Proof.Machine

open Sys2Proof

/-! ## Zero bytes as a value -/

theorem leVal_zeros (n : Nat) : leVal (zeros n) = 0 := by
  induction n with
  | zero => rfl
  | succ n ih => simp_all [zeros, List.replicate_succ, leVal]

theorem leAt_zeros (n lo m : Nat) : leAt (zeros n) lo m = 0 := by
  unfold leAt slice zeros
  rw [List.drop_replicate, List.take_replicate]
  exact leVal_zeros _

/-! ## Setting a list of words of the bank -/

/-- Set the words at the offsets `off k`, for each `k` of a list, to `v k`. -/
def State.setRegs (s : State) (off : Nat → Nat) (v : Nat → W32) (l : List Nat) : State :=
  l.foldl (fun s k => s.setReg (off k) (v k)) s

theorem State.setRegs_skl (s : State) (off : Nat → Nat) (v : Nat → W32) (l : List Nat) :
    (s.setRegs off v l).skl = s.skl := by
  induction l generalizing s with
  | nil => rfl
  | cons k l ih => exact ih (s.setReg (off k) (v k))

theorem State.reg_setRegs_other (s : State) (off : Nat → Nat) (v : Nat → W32) {l : List Nat} {o : Nat}
    (h : ∀ k ∈ l, o ≠ off k) : (s.setRegs off v l).reg o = s.reg o := by
  induction l generalizing s with
  | nil => rfl
  | cons k l ih =>
    obtain ⟨hk, hl⟩ := List.forall_mem_cons.1 h
    calc ((s.setReg (off k) (v k)).setRegs off v l).reg o
      _ = (s.setReg (off k) (v k)).reg o := ih _ hl
      _ = s.reg o := State.reg_setReg_other _ _ hk

/-- With distinct offsets no later write overtakes an earlier one. -/
theorem State.reg_setRegs_same (s : State) {off : Nat → Nat} (v : Nat → W32) {l : List Nat} (hoff : off.Injective)
    {k : Nat} (h : k ∈ l) : (s.setRegs off v l).reg (off k) = v k := by
  induction l generalizing s with
  | nil => exact absurd h List.not_mem_nil
  | cons a l ih =>
    by_cases hl : k ∈ l
    · exact ih (s.setReg (off a) (v a)) hl
    · obtain rfl : k = a := (List.mem_cons.1 h).resolve_right hl
      have hlater : ∀ j ∈ l, off k ≠ off j := fun j hj e => hl (hoff e ▸ hj)
      calc ((s.setReg (off k) (v k)).setRegs off v l).reg (off k)
        _ = (s.setReg (off k) (v k)).reg (off k) := State.reg_setRegs_other _ _ _ hlater
        _ = v k := State.reg_setReg_same _ _ _

/-! ## The registers that show a record -/

theorem sklRecK_injective : Function.Injective Reg.sklRecK := by
  intro i j h
  unfold Reg.sklRecK at h
  omega

theorem sklRstat_ne_sklRecK (k : Nat) : Reg.sklRstat ≠ Reg.sklRecK k := by
  unfold Reg.sklRstat Reg.sklRecK
  omega

theorem State.setRecRegs_eq_setRegs (s : State) (bs : Bytes) :
    s.setRecRegs bs = s.setRegs Reg.sklRecK (fun k => BitVec.ofNat 32 (leAt bs (4 * k) 4)) (List.range 8) := rfl

/-- State `s` with SKL_RSEL, SKL_RSTAT and the words of SKL_REC_0 to SKL_REC_7 set. -/
def State.showRecord (s : State) (sel stat : W32) (bs : Bytes) : State :=
  ((s.setReg Reg.sklRsel sel).setReg Reg.sklRstat stat).setRecRegs bs

section
variable (s : State) (sel stat : W32) (bs : Bytes)

theorem State.showRecord_skl : (s.showRecord sel stat bs).skl = s.skl := State.setRegs_skl _ _ _ _

theorem State.reg_showRecord_other {o : Nat} (hsel : o ≠ Reg.sklRsel) (hstat : o ≠ Reg.sklRstat)
    (hrec : ∀ k < 8, o ≠ Reg.sklRecK k) : (s.showRecord sel stat bs).reg o = s.reg o := by
  unfold State.showRecord
  rw [State.setRecRegs_eq_setRegs, State.reg_setRegs_other _ _ _ fun k hk => hrec k (List.mem_range.1 hk),
    State.reg_setReg_other _ _ hstat, State.reg_setReg_other _ _ hsel]

theorem State.reg_showRecord_sklRecK {k : Nat} (hk : k < 8) :
    (s.showRecord sel stat bs).reg (Reg.sklRecK k) = BitVec.ofNat 32 (leAt bs (4 * k) 4) :=
  State.reg_setRegs_same _ _ sklRecK_injective (List.mem_range.2 hk)

theorem State.reg_showRecord_sklRstat : (s.showRecord sel stat bs).reg Reg.sklRstat = stat := by
  unfold State.showRecord
  rw [State.setRecRegs_eq_setRegs, State.reg_setRegs_other _ _ _ fun k _ => sklRstat_ne_sklRecK k, State.reg_setReg_same]

/-- HELD is bit 0 of what SKL_RSTAT is set to. -/
theorem State.rbit_showRecord_held : (s.showRecord sel stat bs).rbit Reg.sklRstat 0 = (fieldOf stat.toNat 0 0 == 1) := by
  unfold State.rbit State.rf
  rw [State.reg_showRecord_sklRstat]

end

section
variable {s : State} {val : W32}

/-- The step of a write to SKL_RSEL that finds a readable record. -/
theorem exec_sklRsel_held {r : SklRec} (h : s.skl.recs.find? (fun r => r.seq == val.toNat) = some r) :
    exec (.sklRsel val true) s = .next (s.showRecord val 1 r.bytes) := by
  change execSklRsel val true s = _
  simp only [execSklRsel, State.setReg_skl, h]
  rfl

/-- The step of a write to SKL_RSEL whose SEQ no record has. -/
theorem exec_sklRsel_notHeld (h : s.skl.recs.find? (fun r => r.seq == val.toNat) = none) (readOk : Bool) :
    exec (.sklRsel val readOk) s = .next (s.showRecord val 0 (zeros 32)) := by
  change execSklRsel val readOk s = _
  simp only [execSklRsel, State.setReg_skl, h]
  rfl

end

/-- Settles O54: whether or not a record has the SEQ, the write sets SKL_RSEL, SKL_RSTAT and the eight words alone, to the
record's bytes with HELD or to zeros without. -/
theorem skylarkRecordSelect : Obligations.SkylarkRecordSelect := by
  unfold Obligations.SkylarkRecordSelect
  intro s val
  cases hfind : s.skl.recs.find? (fun r => r.seq == val.toNat) with
  | some r =>
    refine ⟨_, exec_sklRsel_held hfind, State.showRecord_skl _ _ _ _,
      fun o => State.reg_showRecord_other _ _ _ _, fun r' hr' => ?held, fun hmissing => ?missing⟩
    case held =>
      obtain rfl : r = r' := Option.some.inj hr'
      exact ⟨State.rbit_showRecord_held _ _ _ _, fun k hk => State.reg_showRecord_sklRecK _ _ _ _ hk⟩
    case missing =>
      have hseq : r.seq = val.toNat := by simpa using List.find?_some hfind
      exact absurd hseq (hmissing r (List.mem_of_find?_eq_some hfind))
  | none =>
    refine ⟨_, exec_sklRsel_notHeld hfind true, State.showRecord_skl _ _ _ _,
      fun o => State.reg_showRecord_other _ _ _ _, fun _ hr => absurd hr (Option.some_ne_none _).symm,
      fun _ => ⟨State.rbit_showRecord_held _ _ _ _, fun k hk => ?_⟩⟩
    rw [State.reg_showRecord_sklRecK _ _ _ _ hk, leAt_zeros]
    rfl

end Sys2Proof.Machine
end

section
/-! UPD_STATUS (R526): what its RESULT reads of the state, and the obligation it settles. -/

namespace Sys2Proof.Machine

open Sys2Proof

/-! ## What the accessors of the image slots read -/

section
variable {s t : State} (h : t.upd = s.upd)
include h

theorem State.inactive_congr : t.inactive = s.inactive := by
  unfold State.inactive
  rw [h]

theorem State.slot_congr (i : Nat) : t.slot i = s.slot i := by
  unfold State.slot
  rw [h]

theorem State.slotHead_congr (i : Nat) : t.slotHead i = s.slotHead i := by
  unfold State.slotHead
  rw [State.slot_congr h]

theorem State.received_congr (i : Nat) : t.received i = s.received i := by
  unfold State.received
  rw [State.slot_congr h, State.slotHead_congr h]

theorem State.trial_congr : t.trial = s.trial := by
  unfold State.trial
  rw [h, State.slot_congr h]

end

/-! ## The result -/

/-- RESULT of UPD_STATUS (R526), the image fields being those of slot `i`. -/
def State.updStatusResult (s : State) (i : Nat) : Bytes :=
  [byteOf s.upd.active, byteOf (s.slot 0).st.code, byteOf (s.slot 1).st.code,
    byteOf (b2n s.trial + 2 * b2n s.upd.warned + 4 * b2n (decide (2 ^ 20 ≤ s.rf Reg.updAttQ 20 0)))]
  ++ leBytes 2 (s.received i) ++ leBytes 2 (if (s.slot i).st = .empty then 0 else imgPieces (s.slotHead i))
  ++ (if (s.slot i).st = .empty then zeros 8 else imgId (s.slotHead i))

/-- The result reads the update state and the register bank alone. -/
theorem State.updStatusResult_congr {s t : State} (hupd : t.upd = s.upd) (hregs : t.regs = s.regs) (i : Nat) :
    t.updStatusResult i = s.updStatusResult i := by
  unfold State.updStatusResult
  simp only [hupd, State.rf_congr hregs, State.slot_congr hupd, State.slotHead_congr hupd, State.received_congr hupd,
    State.trial_congr hupd]

/-- The step of an UPD_STATUS that starts: the result is read once the command has begun. -/
theorem exec_updStatus_starts {s : State} {eid : Nat} {e : Entry} (h : s.Starts eid 0x7002 e) :
    exec (.updStatus eid) s = .next
      ((s.markBegun eid).okReply e ((s.markBegun eid).updStatusResult (s.markBegun eid).inactive)) := by
  change execUpdStatus eid s = _
  simp only [execUpdStatus, State.updStatusResult, State.cmd_starts h, beq_iff_eq]

/-- Settles O55: beginning the command leaves the update state and the registers, so the result is that of the state before. -/
theorem updStatusResult : Obligations.UpdStatusResult := by
  unfold Obligations.UpdStatusResult
  rintro s eid e _ h rfl
  have hupd := State.markBegun_upd s eid
  rw [exec_updStatus_starts h, State.inactive_congr hupd, State.updStatusResult_congr hupd (State.markBegun_regs s eid)]
  rfl

end Sys2Proof.Machine
end


section
/-! Bracken's counter mode and the sealed GRMP packet (R148, R337 to R340): what is sealed opens to itself. -/

namespace Sys2Proof.Machine

open Sys2Proof

/-! ## Byte strings: exclusive or, pieces, slices -/

theorem xorBytes_length (a b : Bytes) : (xorBytes a b).length = min a.length b.length := by
  simp [xorBytes]

/-- The mask that was put on comes off again. -/
theorem xorBytes_cancel {a k : Bytes} (h : a.length ≤ k.length) : xorBytes (xorBytes a k) k = a := by
  apply List.ext_getElem
  · simp [xorBytes_length, h]
  · intro i h1 h2
    simp only [xorBytes, List.getElem_zipWith]
    rw [BitVec.xor_assoc, BitVec.xor_self, BitVec.xor_zero]

/-- The fuel of `pieces` is enough: more of it makes no difference. -/
theorem piecesAux_of_length_le {n : Nat} (hn : 0 < n) {fuel : Nat} {bs : Bytes} (h : bs.length ≤ fuel) :
    piecesAux n fuel bs = pieces n bs := by
  unfold pieces
  induction fuel using Nat.strongRecOn generalizing bs with
  | ind fuel ih =>
    match fuel, bs with
    | 0, [] => rfl
    | fuel + 1, [] => rfl
    | fuel + 1, b :: bs =>
      have hd : ((b :: bs).drop n).length ≤ bs.length := by simp; omega
      simp only [List.length_cons] at h ⊢
      simp only [piecesAux, List.isEmpty_cons, Bool.false_eq_true, if_false]
      rw [ih fuel (by omega) (by omega), ih bs.length (by omega) hd]

theorem pieces_nil (n : Nat) : pieces n [] = [] := rfl

/-- A string is cut into its first piece and the pieces of the rest. -/
theorem pieces_of_ne_nil {n : Nat} (hn : 0 < n) {bs : Bytes} (h : bs ≠ []) :
    pieces n bs = bs.take n :: pieces n (bs.drop n) := by
  cases bs with
  | nil => exact absurd rfl h
  | cons b bs =>
    rw [← piecesAux_of_length_le hn (Nat.le_refl (b :: bs).length)]
    simp only [List.length_cons, piecesAux, List.isEmpty_cons, Bool.false_eq_true, if_false]
    rw [piecesAux_of_length_le hn (by simp; omega)]

/-- A first piece of full length is cut off by itself. -/
theorem pieces_append {n : Nat} (hn : 0 < n) {a : Bytes} (ha : a.length = n) (b : Bytes) :
    pieces n (a ++ b) = a :: pieces n b := by
  have hne : a ++ b ≠ [] := by
    intro h
    rw [List.append_eq_nil_iff] at h
    simp [h.1] at ha
    omega
  rw [pieces_of_ne_nil hn hne, ← ha, List.take_left, List.drop_left]

/-- The pieces of a string whose length is a multiple of `n` all have length `n`. -/
theorem length_of_mem_pieces {n k : Nat} (hn : 0 < n) {bs : Bytes} (h : bs.length = n * k) :
    (pieces n bs).length = k ∧ ∀ p ∈ pieces n bs, p.length = n := by
  induction k generalizing bs with
  | zero =>
    obtain rfl : bs = [] := List.eq_nil_of_length_eq_zero (by simpa using h)
    simp [pieces_nil]
  | succ k ih =>
    rw [Nat.mul_succ] at h
    have hne : bs ≠ [] := by rintro rfl; simp at h; omega
    obtain ⟨hlen, hall⟩ := ih (bs := bs.drop n) (by simp [h])
    rw [pieces_of_ne_nil hn hne, List.forall_mem_cons, List.length_cons, hlen]
    exact ⟨rfl, by simp; omega, hall⟩

@[simp] theorem beBytes_length (n v : Nat) : (beBytes n v).length = n := by simp [beBytes]

/-- What big-endian bytes of a number read back as. -/
theorem beVal_beBytes {n v : Nat} (h : v < 256 ^ n) : beVal (beBytes n v) = v := by
  unfold beVal beBytes
  rw [List.reverse_reverse, leVal_leBytes _ _ h]

theorem slice_append_left {a : Bytes} (b : Bytes) {lo n : Nat} (h : lo + n ≤ a.length) :
    slice (a ++ b) lo n = slice a lo n := by
  unfold slice
  rw [List.drop_append_of_le_length (by omega), List.take_append_of_le_length (by simp; omega)]

theorem slice_append_right (a b : Bytes) {lo n : Nat} (h : a.length ≤ lo) :
    slice (a ++ b) lo n = slice b (lo - a.length) n := by
  unfold slice
  rw [List.drop_append, List.drop_eq_nil_of_le h, List.nil_append]

theorem slice_whole {a : Bytes} {n : Nat} (h : a.length ≤ n) : slice a 0 n = a := List.take_of_length_le h

/-! ## AES: blocks and round keys have 16 bytes -/

/-- Key expansion makes words of 4 bytes from words of 4 bytes. -/
theorem aesExpandAux_words {nk : Nat} (hnk : 0 < nk) (n i rc : Nat) {ws : List Bytes} (hlen : nk ≤ ws.length)
    (hws : ∀ w ∈ ws, w.length = 4) :
    (aesExpandAux nk n i rc ws).length = ws.length + n ∧ ∀ w ∈ aesExpandAux nk n i rc ws, w.length = 4 := by
  induction n generalizing i rc ws with
  | zero => exact ⟨rfl, hws⟩
  | succ n ih =>
    have hprev : (ws.headD []).length = 4 := by
      cases ws with
      | nil => simp at hlen; omega
      | cons w ws => exact hws w List.mem_cons_self
    have hold : (ws.getD (nk - 1) []).length = 4 := by
      rw [List.getD_eq_getElem?_getD, List.getElem?_eq_getElem (by omega), Option.getD_some]
      exact hws _ (List.getElem_mem _)
    simp only [aesExpandAux]
    refine (ih _ _ (by simp; omega) (List.forall_mem_cons.2 ⟨?_, hws⟩)).imp (fun h => by rw [h]; simp; omega) id
    generalize ws.headD [] = prev at hprev ⊢
    rw [xorBytes_length, hold]
    split
    · simp [xorBytes_length]; omega
    · split <;> simp [hprev]

theorem length_flatten_of_forall {n : Nat} {ws : List Bytes} (h : ∀ w ∈ ws, w.length = n) :
    ws.flatten.length = n * ws.length := by
  induction ws with
  | nil => rfl
  | cons w ws ih =>
    obtain ⟨hw, hws⟩ := List.forall_mem_cons.1 h
    simp only [List.flatten_cons, List.length_append, List.length_cons, hw, ih hws]
    rw [Nat.mul_succ, Nat.add_comm]

/-- A key of 16 or 32 bytes gives 11 or 15 round keys of 16 bytes. -/
theorem aesRoundKeys_length {key : Bytes} (h : key.length = 16 ∨ key.length = 32) :
    aesRoundKeys key ≠ [] ∧ ∀ k ∈ aesRoundKeys key, k.length = 16 := by
  obtain ⟨nk, hpos, hkey, h4⟩ : ∃ nk, 0 < nk ∧ key.length = 4 * nk ∧ (nk = 4 ∨ nk = 8) := by
    rcases h with h | h
    · exact ⟨4, by omega, h, .inl rfl⟩
    · exact ⟨8, by omega, h, .inr rfl⟩
  obtain ⟨hcount, hwords⟩ := length_of_mem_pieces (by omega) hkey
  have hdiv : key.length / 4 = nk := by omega
  obtain ⟨hlen, hall⟩ := aesExpandAux_words hpos (4 * (nk + 7) - nk) nk 1 (ws := (pieces 4 key).reverse)
    (by simp [hcount]) (by simpa using hwords)
  have hflat := length_flatten_of_forall (n := 4)
    (ws := (aesExpandAux nk (4 * (nk + 7) - nk) nk 1 (pieces 4 key).reverse).reverse) (by simpa using hall)
  rw [List.length_reverse, hlen, List.length_reverse, hcount] at hflat
  obtain ⟨hn, hk⟩ := length_of_mem_pieces (n := 16) (k := nk + 7) (by omega) (hflat.trans (by omega))
  unfold aesRoundKeys
  simp only [hdiv]
  exact ⟨fun e => by simp [e] at hn, hk⟩

/-- A block enciphered under round keys of 16 bytes has 16 bytes. -/
theorem aesEncRk_length {rks : List Bytes} (hne : rks ≠ []) (h : ∀ k ∈ rks, k.length = 16) (b : Bytes) :
    (aesEncRk rks b).length = 16 := by
  have hlast : (rks.getLastD []).length = 16 := by
    rw [List.getLastD_eq_getLast?, List.getLast?_eq_some_getLast hne, Option.getD_some]
    exact h _ (List.getLast_mem hne)
  unfold aesEncRk
  dsimp only
  rw [xorBytes_length, hlast]
  simp [gather, shiftIdx]

/-! ## Counter mode -/

section
variable {rk : List Bytes} (hrk : ∀ b, (aesEncRk rk b).length = 16) (iv : Bytes)
include hrk

theorem gcmCtr_pieces_length (c : Nat) (pt : Bytes) : (gcmCtr rk iv c (pieces 16 pt)).length = pt.length := by
  induction hn : pt.length using Nat.strongRecOn generalizing pt c with
  | ind n ih =>
    by_cases hne : pt = []
    · subst hne; exact hn
    · have hpos : 0 < pt.length := List.length_pos_iff.2 hne
      rw [pieces_of_ne_nil (by omega) hne, gcmCtr, List.length_append, xorBytes_length, hrk,
        ih (pt.drop 16).length (by simp; omega) _ _ rfl]
      simp
      omega

/-- Counter mode applied twice from one counter gives the text back. -/
theorem gcmCtr_involutive (c : Nat) (pt : Bytes) :
    gcmCtr rk iv c (pieces 16 (gcmCtr rk iv c (pieces 16 pt))) = pt := by
  induction hn : pt.length using Nat.strongRecOn generalizing pt c with
  | ind n ih =>
    by_cases hne : pt = []
    · subst hne; rfl
    · have hpos : 0 < pt.length := List.length_pos_iff.2 hne
      have hmask : xorBytes (xorBytes (pt.take 16) (aesEncRk rk (iv ++ beBytes 4 c))) (aesEncRk rk (iv ++ beBytes 4 c))
          = pt.take 16 := xorBytes_cancel (by rw [hrk, List.length_take]; exact Nat.min_le_left _ _)
      have hx : (xorBytes (pt.take 16) (aesEncRk rk (iv ++ beBytes 4 c))).length = min 16 pt.length := by
        rw [xorBytes_length, hrk]; simp
      rw [pieces_of_ne_nil (by omega) hne, gcmCtr]
      rcases Nat.lt_or_ge pt.length 16 with hshort | hlong
      · have hdrop : pt.drop 16 = [] := List.drop_eq_nil_of_le (by omega)
        have hxne : xorBytes (pt.take 16) (aesEncRk rk (iv ++ beBytes 4 c)) ≠ [] := by
          intro e; rw [e] at hx; simp at hx; omega
        rw [hdrop, pieces_nil, gcmCtr, List.append_nil, pieces_of_ne_nil (by omega) hxne,
          List.take_of_length_le (by omega), List.drop_eq_nil_of_le (by omega), pieces_nil, gcmCtr, gcmCtr, hmask,
          List.append_nil, List.take_of_length_le (by omega)]
      · rw [pieces_append (by omega) (by omega), gcmCtr, hmask, ih (pt.drop 16).length (by simp; omega) _ _ rfl,
          List.take_append_drop]

end

/-- Opening what was sealed under a key gives the text. -/
theorem gcmDec_gcmEnc {key : Bytes} (hkey : key.length = 16 ∨ key.length = 32) (iv aad pt : Bytes) :
    gcmDec key iv aad (gcmEnc key iv aad pt).1 (gcmEnc key iv aad pt).2 = some pt := by
  obtain ⟨hne, hrks⟩ := aesRoundKeys_length hkey
  unfold gcmDec gcmEnc
  rw [if_pos rfl, gcmCtr_involutive (aesEncRk_length hne hrks)]

theorem gcmEnc_length {key : Bytes} (hkey : key.length = 16 ∨ key.length = 32) (iv aad pt : Bytes) :
    (gcmEnc key iv aad pt).1.length = pt.length ∧ (gcmEnc key iv aad pt).2.length = 16 := by
  obtain ⟨hne, hrks⟩ := aesRoundKeys_length hkey
  have hblock := aesEncRk_length hne hrks
  exact ⟨gcmCtr_pieces_length hblock _ _ _, by simp [gcmEnc, gcmTag, xorBytes_length, hblock]⟩

/-! ## The header of a GRMP packet -/

/-- The fields of a header fit the bytes they have, and are those that R338 allows for the operation. -/
def Pkt.WellFormed (p : Pkt) : Prop :=
  (1 ≤ p.op ∧ p.op ≤ 9 ∧ p.flags < 8 ∧ p.code < 256 ∧ (p.op ≠ Grmp.nak → p.code = 0))
  ∧ (p.dcid < 2 ^ 32 ∧ p.psn < 2 ^ 32 ∧ p.apsn < 2 ^ 32 ∧ p.txc < 2 ^ 64 ∧ p.key < 2 ^ 32 ∧ p.offset < 2 ^ 64)
  ∧ (p.payload.length ≤ 8192
    ∧ (p.op = Grmp.readReq → p.payload = [] ∧ 1 ≤ p.len ∧ p.len ≤ 2 ^ 30)
    ∧ (p.op ≠ Grmp.readReq → p.len = p.payload.length))

@[simp] theorem Pkt.hdr_length (p : Pkt) : p.hdr.length = 40 := by simp [Pkt.hdr]

/-- One byte of a number, as a field. -/
theorem beVal_byteOf {v : Nat} (h : v < 256) : beVal [byteOf v] = v := by
  simp [beVal, leVal, byteOf]; omega

/-- The header fields as a receiver reads them from a packet that begins with the header. -/
theorem Pkt.hdr_fields {p : Pkt} (h : p.WellFormed) (rest : Bytes) :
    let be := fun lo n => beVal (slice (p.hdr ++ rest) lo n)
    (be 0 1 = 1 ∧ be 1 1 = p.op ∧ be 2 1 = p.flags ∧ be 3 1 = p.code) ∧ (be 4 4 = p.dcid ∧ be 8 4 = p.psn ∧ be 12 4 = p.apsn)
      ∧ be 16 8 = p.txc ∧ be 24 4 = p.key ∧ be 28 8 = p.offset ∧ be 36 4 = p.len := by
  obtain ⟨⟨hop1, hop9, hfl, hcode, -⟩, ⟨hd, hpsn, hapsn, htxc, hkey, hoff⟩, hpay, hread, hlen⟩ := h
  have hlen32 : p.len < 256 ^ 4 := by
    by_cases hr : p.op = Grmp.readReq
    · have := (hread hr).2.2; omega
    · have := hlen hr; omega
  have hsplit : p.hdr ++ rest = [1] ++ ([byteOf p.op] ++ ([byteOf p.flags] ++ ([byteOf p.code] ++ (beBytes 4 p.dcid
      ++ (beBytes 4 p.psn ++ (beBytes 4 p.apsn ++ (beBytes 8 p.txc ++ (beBytes 4 p.key ++ (beBytes 8 p.offset
      ++ (beBytes 4 p.len ++ rest)))))))))) := by
    simp [Pkt.hdr]
  have hone : beVal [(1 : Byte)] = 1 := rfl
  dsimp only
  rw [hsplit]
  simp (disch := simp) only [slice_append_left, slice_append_right, List.length_cons, List.length_nil,
    beBytes_length, Nat.reduceAdd, Nat.reduceSub, slice_whole]
  rw [hone, beVal_byteOf (by omega), beVal_byteOf (by omega), beVal_byteOf hcode, beVal_beBytes (by omega),
    beVal_beBytes (by omega), beVal_beBytes (by omega), beVal_beBytes (by omega), beVal_beBytes (by omega),
    beVal_beBytes (by omega), beVal_beBytes hlen32]
  simp

/-- A well-formed header is parsed to its fields, with the sealed payload and the tag. -/
theorem parseGrmp_hdr {p : Pkt} (h : p.WellFormed) {ct tag : Bytes} (hct : ct.length = p.payload.length)
    (htag : tag.length = 16) : parseGrmp (p.hdr ++ ct ++ tag) = some ({ p with payload := [] }, ct, tag) := by
  obtain ⟨⟨h0, h1, h2, h3⟩, ⟨h4, h8, h12⟩, h16, h24, h28, h36⟩ := Pkt.hdr_fields h (ct ++ tag)
  obtain ⟨⟨hop1, hop9, hfl, hcode, hnak⟩, -, hpay, hread, hlen⟩ := h
  have htotal : (p.hdr ++ (ct ++ tag)).length = 56 + ct.length := by simp [htag]; omega
  have hsealed : ((p.hdr ++ (ct ++ tag)).drop 40).take (56 + ct.length - 56) = ct := by
    rw [List.drop_left' (Pkt.hdr_length p), List.take_left' (by omega)]
  have htagAt : (p.hdr ++ (ct ++ tag)).drop (56 + ct.length - 16) = tag := by
    rw [← List.append_assoc, List.drop_left' (by simp; omega)]
  have hempty : (if p.op = Grmp.readReq then p.len < 1 || 2 ^ 30 < p.len || !ct.isEmpty else p.len != ct.length) = false := by
    split
    · next hr =>
      obtain ⟨hnil, hl1, hl2⟩ := hread hr
      obtain rfl : ct = [] := List.eq_nil_of_length_eq_zero (by rw [hct, hnil]; rfl)
      simp; omega
    · next hr => simp [hlen hr, hct]
  unfold parseGrmp
  rw [List.append_assoc]
  simp only [h0, h1, h2, h3, h4, h8, h12, h16, h24, h28, h36, htotal, hsealed, htagAt, hempty]
  rw [if_neg]
  · rfl
  · simp only [Bool.or_eq_true, Bool.and_eq_true, decide_eq_true_eq, bne_iff_ne, ne_eq, not_or, not_and, Classical.not_not]
    exact ⟨⟨⟨⟨⟨⟨by omega, by omega⟩, trivial⟩, by omega⟩, by omega⟩, by omega⟩, hnak⟩

/-- Settles O37: the header is parsed to its fields, and counter mode under the same key and nonce is its own inverse. -/
theorem sealedPacketsOpen : Obligations.SealedPacketsOpen := by
  unfold Obligations.SealedPacketsOpen
  rintro key iv p _ rfl hkey hop1 hop9 hfl hcode hnak hd hpsn hapsn htxc hk hoff hpay hread hlen
  obtain ⟨hct, htag⟩ := gcmEnc_length hkey iv p.hdr p.payload
  exact ⟨parseGrmp_hdr ⟨⟨hop1, hop9, hfl, hcode, hnak⟩, ⟨hd, hpsn, hapsn, htxc, hk, hoff⟩, hpay, hread, hlen⟩ hct htag,
    gcmDec_gcmEnc hkey iv p.hdr p.payload, hct, htag⟩

end Sys2Proof.Machine
end


section
/-! The register bank keeps its canonical form (R14): once for every operation of the model, in the model's order, then for every
command. An operation that leaves the bank alone is said to; one that writes it does so by setting words, or, at a reset and
at the end of P2 and of an expert's hold, by dropping words to their reset values. -/
namespace Sys2Proof.Machine

open Sys2Proof

/-- The canonical form of a register bank: offsets rise strictly, and no word listed equals its reset value. -/
def Canonical (m : KMap W32) : Prop := KMap.wf m = true ∧ ∀ x ∈ m, x.2 ≠ regReset x.1

theorem State.bankOk_iff_canonical (s : State) : s.bankOk ↔ Canonical s.regs := Iff.rfl

/-! ### Steps over lists -/

theorem State.canonical_foldl {α : Type} {f : State → α → State} (hf : ∀ s a, Canonical s.regs → Canonical (f s a).regs) (l : List α)
    (s : State) (h : Canonical s.regs) : Canonical (l.foldl f s).regs := by
  induction l generalizing s with
  | nil => exact h
  | cons a l ih => exact ih _ (hf _ _ h)

theorem State.foldl_regs {α : Type} {f : State → α → State} (hf : ∀ s a, (f s a).regs = s.regs) (l : List α)
    (s : State) : (l.foldl f s).regs = s.regs := by
  induction l generalizing s with
  | nil => rfl
  | cons a l ih => rw [List.foldl_cons, ih, hf]

theorem State.canonical_addPair (s : State) (lo n : Nat) (h : Canonical s.regs) : Canonical (s.addPair lo n).regs :=
  State.bankOk_addPair s lo n h

theorem State.canonical_bump (s : State) (off hi lo n : Nat) (h : Canonical s.regs) : Canonical
    (s.bump off hi lo n).regs :=
  State.bankOk_bump s off hi lo n h

theorem State.canonical_latch (s : State) (r : ErrReg) (inst cause : Nat) (h : Canonical s.regs) : Canonical
    (s.latch r inst cause).regs :=
  State.bankOk_latch s r inst cause h

theorem State.canonical_setPair (s : State) (lo v : Nat) (h : Canonical s.regs) : Canonical (s.setPair lo v).regs :=
  State.bankOk_setPair s lo v h

theorem State.canonical_setRbit (s : State) (off i : Nat) (b : Bool) (h : Canonical s.regs) : Canonical
    (s.setRbit off i b).regs :=
  State.bankOk_setRbit s off i b h

theorem State.canonical_setReg (s : State) (off : Nat) (v : W32) (h : Canonical s.regs) : Canonical
    (s.setReg off v).regs :=
  State.bankOk_setReg s off v h

theorem State.canonical_setRf (s : State) (off hi lo v : Nat) (h : Canonical s.regs) : Canonical
    (s.setRf off hi lo v).regs :=
  State.bankOk_setRf s off hi lo v h

theorem State.canonical_foldl_fst {α β : Type} {f : State × β → α → State × β}
    (hf : ∀ x a, Canonical x.1.regs → Canonical (f x a).1.regs) (l : List α) (x : State × β) (h : Canonical x.1.regs) :
    Canonical (l.foldl f x).1.regs := by
  induction l generalizing x with
  | nil => exact h
  | cons a l ih => exact ih _ (hf _ _ h)

theorem State.foldl_fst_regs {α β : Type} {f : State × β → α → State × β} (hf : ∀ x a, (f x a).1.regs = x.1.regs) (l : List α)
    (x : State × β) : (l.foldl f x).1.regs = x.1.regs := by
  induction l generalizing x with
  | nil => rfl
  | cons a l ih => rw [List.foldl_cons, ih, hf]

/-! ### Ops -/

@[simp] theorem State.onTape_regs (s : State) (t : Nat) (f : Tape → Tape) : (s.onTape t f).regs = s.regs := by
  unfold State.onTape
  grind

@[simp] theorem State.wakeFn_regs (s : State) (f : Nat) : (s.wakeFn f).regs = s.regs := by
  unfold State.wakeFn
  grind [State.emit_regs, State.setFn_regs]

@[simp] theorem State.wakeTgt_regs (s : State) (t : Nat) : (s.wakeTgt t).regs = s.regs := by
  unfold State.wakeTgt
  grind [State.emit_regs, State.setTgt_regs]

@[simp] theorem State.deliver_regs (s : State) (n : Nat) : (s.deliver n).regs = s.regs := by
  unfold State.deliver
  grind [State.setSrc_regs, State.setVec_regs, State.wakeFn_regs, State.wakeTgt_regs]

@[simp] theorem State.raise_regs (s : State) (k : Nat) : (s.raise k).regs = s.regs := by
  unfold State.raise
  grind [State.edge_regs, State.setLevel_regs]

@[simp] theorem State.event_regs (s : State) (k : Nat) : (s.event k).regs = s.regs := by
  unfold State.event
  grind [State.setLevel_regs]

@[simp] theorem State.sklFold_regs (s : State) (block inst cause arg : Nat) : (s.sklFold block inst cause arg).regs =
    s.regs := by
  unfold State.sklFold
  grind [State.record_regs]

@[simp] theorem State.sklHw_regs (s : State) (block inst cause arg : Nat) : (s.sklHw block inst cause arg).regs =
    s.regs := by
  unfold State.sklHw
  grind [State.record_regs]

@[simp] theorem State.sklStatus_regs (s : State) (block inst cause status detail arg : Nat) :
    (s.sklStatus block inst cause status detail arg).regs = s.regs := by
  unfold State.sklStatus
  grind [State.record_regs]

@[simp] theorem State.lastWord_regs (s : State) (kind dat : Nat) : (s.lastWord kind dat).regs = s.regs := by
  unfold State.lastWord
  grind [State.onSkl_regs]

/-! ### Ezlin -/

theorem State.canonical_ringErr (s : State) (r cause : Nat) (h : Canonical s.regs) : Canonical
    (s.ringErr r cause).regs := by
  unfold State.ringErr
  grind [State.canonical_latch, State.setSq_regs]

theorem State.canonical_ringErrs (s : State) (rs : List Nat) (cause : Nat) (h : Canonical s.regs) : Canonical
    (s.ringErrs rs cause).regs := by
  unfold State.ringErrs
  grind [State.canonical_ringErr, State.canonical_foldl]

@[simp] theorem State.oobReply_regs (s : State) (r : Reply) (body : Bytes) : (s.oobReply r body).regs = s.regs := by
  unfold State.oobReply
  grind [State.emit_regs, State.onFld_regs]

theorem State.canonical_commitReply (s : State) (q : Sq) (c : Cq) (r : Reply) (h : Canonical s.regs) : Canonical
    (s.commitReply q c r).regs := by
  unfold State.commitReply
  grind [State.emit_regs, State.edge_regs, State.setCq_regs, State.canonical_ringErrs, State.freeEntry_regs,
    State.oobReply_regs]

theorem State.canonical_reply (s : State) (r : Reply) (h : Canonical s.regs) : Canonical (s.reply r).regs := by
  unfold State.reply
  grind [State.setCq_regs, State.freeEntry_regs, State.canonical_commitReply]

theorem State.canonical_releaseHeld (c n : Nat) (s : State) (h : Canonical s.regs) :
    Canonical (State.releaseHeld c n s).regs := by
  induction n generalizing s with
  | zero => exact h
  | succ n ih =>
    unfold State.releaseHeld
    grind [State.canonical_commitReply, State.setCq_regs, State.freeEntry_regs]

theorem State.canonical_final (s : State) (e : Entry) (st dt : Nat) (res : Bytes) (h : Canonical s.regs) : Canonical
    (s.final e st dt res).regs := by
  unfold State.final
  grind [State.canonical_reply]

theorem State.canonical_fail (s : State) (e : Entry) (st dt : Nat) (h : Canonical s.regs) : Canonical
    (s.fail e st dt).regs := by
  unfold State.fail
  grind [State.canonical_final]

theorem State.canonical_failSilent (s : State) (e : Entry) (k : Nat) (h : Canonical s.regs) : Canonical
    (s.failSilent e k).regs := by
  unfold State.failSilent
  grind [State.canonical_final]

theorem State.canonical_okReply (s : State) (e : Entry) (res : Bytes) (h : Canonical s.regs) : Canonical
    (s.okReply e res).regs := by
  unfold State.okReply
  grind [State.canonical_final]

theorem State.canonical_pendReply (s : State) (e : Entry) (h : Canonical s.regs) : Canonical (s.pendReply e).regs :=
    by
  unfold State.pendReply
  grind [State.onEz_regs, State.canonical_reply]

theorem State.canonical_finalOf (s : State) (eid st dt : Nat) (res : Bytes) (h : Canonical s.regs) : Canonical
    (s.finalOf eid st dt res).regs := by
  unfold State.finalOf
  grind [State.canonical_final]

theorem State.canonical_cmdIf (s : State) (eid code : Nat) (p : Entry → Bool) (f : State → Entry → State)
    (hf : ∀ (t : State) a, Canonical t.regs → Canonical (f t a).regs) (h : Canonical s.regs) : Canonical
    (s.cmdIf eid code p f).regs := by
  unfold State.cmdIf
  grind [State.markBegun_regs]

theorem State.canonical_cmd (s : State) (eid code : Nat) (f : State → Entry → State)
    (hf : ∀ (t : State) a, Canonical t.regs → Canonical (f t a).regs) (h : Canonical s.regs) : Canonical
    (s.cmd eid code f).regs := by
  unfold State.cmd
  grind [State.markBegun_regs]

/-! ### Rings -/

theorem State.canonical_tailDoorbell (s : State) (r : Nat) (q : Sq) (v : Nat) (h : Canonical s.regs) : Canonical
    (s.tailDoorbell r q v).regs := by
  unfold State.tailDoorbell
  grind [State.setSq_regs, State.canonical_ringErr]

theorem State.canonical_headDoorbell (s : State) (ci : Nat) (c : Cq) (v : Nat) (h : Canonical s.regs) : Canonical
    (s.headDoorbell ci c v).regs := by
  unfold State.headDoorbell
  grind [State.setCq_regs, State.canonical_ringErrs, State.canonical_releaseHeld]

theorem canonical_execSqTailDoorbell (fn slot : Nat) (val : W32) (s : State) (h : Canonical s.regs) : ∃ u,
    execSqTailDoorbell fn slot val s = .next u ∧ Canonical u.regs := by
  refine ⟨_, rfl, ?_⟩
  grind [State.canonical_tailDoorbell]

theorem canonical_execCqHeadDoorbell (fn slot : Nat) (val : W32) (s : State) (h : Canonical s.regs) : ∃ u,
    execCqHeadDoorbell fn slot val s = .next u ∧ Canonical u.regs := by
  refine ⟨_, rfl, ?_⟩
  grind [State.canonical_headDoorbell]

@[simp] theorem State.resetRing_regs (s : State) (r : Nat) : (s.resetRing r).regs = s.regs := by
  unfold State.resetRing
  grind [State.onFld_regs, State.setSq_regs, State.setCq_regs]

@[simp] theorem State.freeRing_regs (s : State) (r : Nat) : (s.freeRing r).regs = s.regs := by
  unfold State.freeRing
  grind [State.onEz_regs, State.setSrc_regs, State.setCq_regs]

@[simp] theorem State.startRing0_regs (s : State) : (s.startRing0).regs = s.regs := by
  unfold State.startRing0
  grind [State.onEz_regs, State.setSq_regs, State.setCq_regs]

theorem State.canonical_endDrain (r : Nat) (s : State) (d : Drain × Nat) (h : Canonical s.regs) :
    Canonical (State.endDrain r s d).regs := by
  unfold State.endDrain
  grind [State.canonical_finalOf, State.freeRing_regs, State.resetRing_regs, State.startRing0_regs]

theorem State.canonical_drainDone (s : State) (r : Nat) (h : Canonical s.regs) : Canonical (s.drainDone r).regs := by
  unfold State.drainDone
  grind [State.setSq_regs, State.canonical_foldl, State.canonical_endDrain]

theorem State.canonical_addDrain (s : State) (r : Nat) (d : Drain) (eid : Nat) (h : Canonical s.regs) : Canonical
    (s.addDrain r d eid).regs := by
  unfold State.addDrain
  grind [State.setSq_regs, State.canonical_drainDone]

theorem canonical_execRingDrainComplete (ring : Nat) (s : State) (h : Canonical s.regs) : ∃ u, execRingDrainComplete
    ring s = .next u ∧ Canonical u.regs := by
  refine ⟨_, rfl, ?_⟩
  grind [State.canonical_drainDone]

theorem State.canonical_admSizes (s : State) (v : Nat) (h : Canonical s.regs) : Canonical (s.admSizes v).regs := by
  unfold State.admSizes
  grind [State.canonical_setRf]

theorem canonical_execAdmCtrlEnable (val : W32) (s : State) (h : Canonical s.regs) : ∃ u, execAdmCtrlEnable val s =
    .next u ∧ Canonical u.regs := by
  refine ⟨_, rfl, ?_⟩
  grind [State.canonical_setRbit, State.canonical_latch, State.startRing0_regs, State.canonical_admSizes]

theorem canonical_execAdmCtrlDisable (val : W32) (s : State) (h : Canonical s.regs) : ∃ u, execAdmCtrlDisable val s =
    .next u ∧ Canonical u.regs := by
  refine ⟨_, rfl, ?_⟩
  grind [State.canonical_setRbit, State.canonical_addDrain, State.canonical_admSizes]

@[simp] theorem State.touch_regs (s : State) (fn tag : Nat) : (s.touch fn tag).regs = s.regs := by
  unfold State.touch
  grind [State.onEz_regs]

theorem State.canonical_enqueue (s : State) (r : Nat) (q : Sq) (pkt : Bytes) (blk : Fetch) (ok : Bool)
    (h : Canonical s.regs) : Canonical (s.enqueue r q pkt blk ok).regs := by
  unfold State.enqueue
  grind [State.onEz_regs, State.setSq_regs, State.canonical_fail, State.touch_regs]

theorem State.canonical_consumeFrom (s : State) (z : Ez) (r : Nat) (q : Sq) (pkt : Bytes) (blk : Fetch) (ok : Bool)
    (h : Canonical s.regs) : Canonical (s.consumeFrom z r q pkt blk ok).regs := by
  unfold State.consumeFrom
  grind [State.onEz_regs, State.canonical_enqueue]

theorem State.canonical_consumeOob (s : State) (z : Ez) (q : Sq) (h : Canonical s.regs) : Canonical
    (s.consumeOob z q).regs := by
  unfold State.consumeOob
  grind [State.emit_regs, State.onEz_regs, State.onFld_regs, State.setSq_regs, State.canonical_reply,
    State.canonical_consumeFrom]

theorem canonical_execPacketConsume (pkt blk : Fetch) (replyOk : Bool) (s : State) (h : Canonical s.regs) : ∃ u,
    execPacketConsume pkt blk replyOk s = .next u ∧ Canonical u.regs := by
  refine ⟨_, rfl, ?_⟩
  grind [State.canonical_ringErr, State.canonical_consumeFrom, State.canonical_consumeOob]

theorem canonical_execPendingReply (eid : Nat) (s : State) (h : Canonical s.regs) : ∃ u, execPendingReply eid s =
    .next u ∧ Canonical u.regs := by
  refine ⟨_, rfl, ?_⟩
  grind [State.canonical_pendReply]

theorem State.canonical_createRing (s : State) (e : Entry) (r : Nat) (h : Canonical s.regs) : Canonical
    (s.createRing e r).regs := by
  unfold State.createRing
  grind [State.onEz_regs, State.setSrc_regs, State.setSq_regs, State.setCq_regs, State.canonical_okReply]

theorem canonical_execRingCreate (eid : Nat) (s : State) (h : Canonical s.regs) : ∃ u, execRingCreate eid s = .next u
    ∧ Canonical u.regs := by
  refine ⟨_, rfl, ?_⟩
  grind [State.canonical_fail, State.canonical_cmd, State.canonical_createRing]

theorem canonical_execRingDelete (eid : Nat) (s : State) (h : Canonical s.regs) : ∃ u, execRingDelete eid s = .next u
    ∧ Canonical u.regs := by
  refine ⟨_, rfl, ?_⟩
  grind [State.canonical_fail, State.canonical_cmd, State.canonical_addDrain]

theorem canonical_execRingReset (eid : Nat) (s : State) (h : Canonical s.regs) : ∃ u, execRingReset eid s = .next u ∧
    Canonical u.regs := by
  refine ⟨_, rfl, ?_⟩
  grind [State.canonical_fail, State.canonical_cmd, State.canonical_addDrain]

theorem canonical_execRingQuery (eid : Nat) (s : State) (h : Canonical s.regs) : ∃ u, execRingQuery eid s = .next u ∧
    Canonical u.regs := by
  refine ⟨_, rfl, ?_⟩
  grind [State.canonical_fail, State.canonical_okReply, State.canonical_cmd]

/-! ### Hedgerow -/

theorem canonical_execHrwClaim (target : Fin 16) (mgmt : Bool) (s : State) (h : Canonical s.regs) : ∃ u, execHrwClaim
    target mgmt s = .next u ∧ Canonical u.regs := by
  refine ⟨_, rfl, ?_⟩
  grind [State.canonical_bump, State.emit_regs, State.setSrc_regs]

theorem canonical_execHrwComplete (target : Fin 16) (val : W32) (mgmt : Bool) (s : State) (h : Canonical s.regs) : ∃
    u, execHrwComplete target val mgmt s = .next u ∧ Canonical u.regs := by
  refine ⟨_, rfl, ?_⟩
  grind [State.setSrc_regs, State.edge_regs, State.canonical_latch]

theorem State.canonical_eachSrc (s : State) (k : Nat) (val : W32) (mgmt : Bool) (f : State → Nat → State)
    (hf : ∀ (t : State) a, Canonical t.regs → Canonical (f t a).regs) (h : Canonical s.regs) : Canonical
    (s.eachSrc k val mgmt f).regs := by
  unfold State.eachSrc
  grind [State.canonical_latch, State.canonical_foldl]

theorem canonical_execHrwPendSet (word : Fin 128) (val : W32) (mgmt : Bool) (s : State) (h : Canonical s.regs) : ∃ u,
    execHrwPendSet word val mgmt s = .next u ∧ Canonical u.regs := by
  refine ⟨_, rfl, ?_⟩
  grind [State.edge_regs, State.canonical_eachSrc]

theorem canonical_execHrwPendClr (word : Fin 128) (val : W32) (mgmt : Bool) (s : State) (h : Canonical s.regs) : ∃ u,
    execHrwPendClr word val mgmt s = .next u ∧ Canonical u.regs := by
  refine ⟨_, rfl, ?_⟩
  grind [State.setSrc_regs, State.canonical_eachSrc]

@[simp] theorem State.dropEdges_regs (s : State) (n : Nat) : (s.dropEdges n).regs = s.regs := by
  unfold State.dropEdges
  grind [State.setVec_regs]

theorem canonical_execHrwMaskSet (word : Fin 128) (val : W32) (mgmt : Bool) (s : State) (h : Canonical s.regs) : ∃ u,
    execHrwMaskSet word val mgmt s = .next u ∧ Canonical u.regs := by
  refine ⟨_, rfl, ?_⟩
  grind [State.setSrc_regs, State.canonical_eachSrc, State.dropEdges_regs]

@[simp] theorem State.unmask_regs (s : State) (n : Nat) : (s.unmask n).regs = s.regs := by
  unfold State.unmask
  grind [State.setSrc_regs, State.deliver_regs]

theorem canonical_execHrwMaskClr (word : Fin 128) (val : W32) (mgmt : Bool) (s : State) (h : Canonical s.regs) : ∃ u,
    execHrwMaskClr word val mgmt s = .next u ∧ Canonical u.regs := by
  refine ⟨_, rfl, ?_⟩
  grind [State.canonical_eachSrc, State.unmask_regs]

theorem canonical_execSourceEdge (src : Nat) (routeOk : Bool) (s : State) (h : Canonical s.regs) : ∃ u, execSourceEdge
    src routeOk s = .next u ∧ Canonical u.regs := by
  refine ⟨_, rfl, ?_⟩
  grind [State.setSrc_regs, State.wakeTgt_regs, State.edge_regs, State.setLevel_regs, State.sklHw_regs,
    State.canonical_latch]

theorem State.canonical_sendMsg (s : State) (fn v : Nat) (h : Canonical s.regs) : Canonical (s.sendMsg fn v).regs :=
    by
  unfold State.sendMsg
  grind [State.canonical_addPair, State.emit_regs, State.onHrw_regs, State.setVec_regs]

theorem State.canonical_commitBatch (s : State) (fn v : Nat) (h : Canonical s.regs) : Canonical
    (s.commitBatch fn v).regs := by
  unfold State.commitBatch
  grind [State.setVec_regs, State.canonical_sendMsg]

theorem canonical_execBatchCountReached (fn vec : Nat) (s : State) (h : Canonical s.regs) : ∃ u, execBatchCountReached
    fn vec s = .next u ∧ Canonical u.regs := by
  refine ⟨_, rfl, ?_⟩
  grind [State.canonical_commitBatch]

theorem canonical_execBatchTimerExpiry (fn vec : Nat) (s : State) (h : Canonical s.regs) : ∃ u, execBatchTimerExpiry
    fn vec s = .next u ∧ Canonical u.regs := by
  refine ⟨_, rfl, ?_⟩
  grind [State.canonical_commitBatch]

theorem canonical_execHrwMod (fn vec : Nat) (val : W32) (s : State) (h : Canonical s.regs) : ∃ u, execHrwMod fn vec
    val s = .next u ∧ Canonical u.regs := by
  refine ⟨_, rfl, ?_⟩
  grind [State.setVec_regs]

theorem State.canonical_sendPba (s : State) (fn : Nat) (h : Canonical s.regs) : Canonical (s.sendPba fn).regs := by
  unfold State.sendPba
  grind [State.canonical_sendMsg, State.canonical_foldl]

theorem canonical_execMsixVectorUnmask (fn : Nat) (vec : Option Nat) (s : State) (h : Canonical s.regs) : ∃ u,
    execMsixVectorUnmask fn vec s = .next u ∧ Canonical u.regs := by
  refine ⟨_, rfl, ?_⟩
  grind [State.setVec_regs, State.setFn_regs, State.canonical_sendPba]

theorem State.canonical_commitFn (s : State) (fn : Nat) (h : Canonical s.regs) : Canonical (s.commitFn fn).regs := by
  unfold State.commitFn
  grind [State.canonical_commitBatch, State.canonical_foldl]

theorem canonical_execPmcsrD3hot (fn : Nat) (pmeEn : Bool) (s : State) (h : Canonical s.regs) : ∃ u, execPmcsrD3hot fn
    pmeEn s = .next u ∧ Canonical u.regs := by
  refine ⟨_, rfl, ?_⟩
  grind [State.emit_regs, State.setFn_regs, State.canonical_commitFn]

theorem canonical_execPmeTurnOff (s : State) (h : Canonical s.regs) : ∃ u, execPmeTurnOff s = .next u ∧ Canonical
    u.regs := by
  refine ⟨_, rfl, ?_⟩
  grind [State.emit_regs, State.canonical_commitFn, State.canonical_foldl]

@[simp] theorem State.retarget_regs (s : State) (n : Nat) (r : Route) : (s.retarget n r).regs = s.regs := by
  unfold State.retarget
  grind [State.setSrc_regs, State.deliver_regs, State.dropEdges_regs, State.foldl_regs]

theorem canonical_execHrwSrcRoute (val : W32) (mgmt : Bool) (s : State) (h : Canonical s.regs) : ∃ u, execHrwSrcRoute
    val mgmt s = .next u ∧ Canonical u.regs := by
  refine ⟨_, rfl, ?_⟩
  grind [State.canonical_latch, State.retarget_regs]

theorem canonical_execRetargetWithdraw (src : Nat) (s : State) (h : Canonical s.regs) : ∃ u, execRetargetWithdraw src
    s = .next u ∧ Canonical u.regs := by
  refine ⟨_, rfl, ?_⟩
  grind [State.setSrc_regs, State.deliver_regs]

theorem State.canonical_fallBack (s : State) (n t : Nat) (h : Canonical s.regs) : Canonical (s.fallBack n t).regs :=
    by
  unfold State.fallBack
  grind [State.canonical_bump, State.setSrc_regs, State.setVec_regs, State.wakeTgt_regs, State.canonical_latch]

theorem canonical_execWakeDeadlineExpiry (src : Nat) (s : State) (h : Canonical s.regs) : ∃ u, execWakeDeadlineExpiry
    src s = .next u ∧ Canonical u.regs := by
  refine ⟨_, rfl, ?_⟩
  grind [State.canonical_fallBack]

@[simp] theorem State.deliverWaiting_regs (s : State) (p : Src → Bool) : (s.deliverWaiting p).regs = s.regs := by
  unfold State.deliverWaiting
  grind [State.setSrc_regs, State.deliver_regs, State.foldl_regs]

theorem canonical_execTargetWake (core : Bool) (target : Nat) (s : State) (h : Canonical s.regs) : ∃ u, execTargetWake
    core target s = .next u ∧ Canonical u.regs := by
  refine ⟨_, rfl, ?_⟩
  grind [State.setFn_regs, State.setTgt_regs, State.canonical_sendPba, State.deliverWaiting_regs]

/-! ### Skylark -/

@[simp] theorem State.sklMemFail_regs (s : State) (seq : Nat) : (s.sklMemFail seq).regs = s.regs := by
  unfold State.sklMemFail
  grind [State.onSkl_regs, State.setLevel_regs, State.sklStatus_regs, State.lastWord_regs]

@[simp] theorem State.sklWrite_regs (s : State) (e : SklEv) : (s.sklWrite e).regs = s.regs := by
  unfold State.sklWrite
  grind [State.onSkl_regs, State.setLevel_regs, State.sklStatus_regs]

@[simp] theorem State.sklAccept_regs (s : State) (e : SklEv) (memOk : Bool) : (s.sklAccept e memOk).regs = s.regs :=
    by
  unfold State.sklAccept
  grind [State.onSkl_regs, State.sklMemFail_regs, State.sklWrite_regs]

theorem canonical_execSkylarkRecord (memOk : Bool) (s : State) (h : Canonical s.regs) : ∃ u, execSkylarkRecord memOk s
    = .next u ∧ Canonical u.regs := by
  refine ⟨_, rfl, ?_⟩
  grind [State.onSkl_regs, State.sklAccept_regs]

@[simp] theorem State.deliverTo_regs (s : State) (e : Entry) (addr : Nat) (data : Bytes) :
    (s.deliverTo e addr data).regs = s.regs := by
  unfold State.deliverTo
  grind [State.emit_regs, State.onFld_regs]

theorem canonical_execSklRead (eid : Nat) (bad : List Nat) (destOk : Bool) (s : State) (h : Canonical s.regs) : ∃ u,
    execSklRead eid bad destOk s = .next u ∧ Canonical u.regs := by
  refine ⟨_, rfl, ?_⟩
  grind [State.canonical_fail, State.canonical_okReply, State.canonical_cmd, State.sklMemFail_regs,
    State.deliverTo_regs, State.canonical_foldl]

theorem State.canonical_setRecRegs (s : State) (bs : Bytes) (h : Canonical s.regs) : Canonical (s.setRecRegs bs).regs
    := by
  unfold State.setRecRegs
  grind [State.canonical_setReg, State.canonical_foldl]

theorem canonical_execSklRsel (val : W32) (readOk : Bool) (s : State) (h : Canonical s.regs) : ∃ u, execSklRsel val
    readOk s = .next u ∧ Canonical u.regs := by
  refine ⟨_, rfl, ?_⟩
  grind [State.canonical_setReg, State.sklMemFail_regs, State.canonical_setRecRegs]

theorem State.sklFree_regs (s : State) (e : Entry) (through : Nat) : (s.sklFree e through).regs = s.regs := by
  unfold State.sklFree
  simp only
  split
  · rfl
  · split
    · rw [State.setLevel_regs, State.onSkl_regs, State.onSkl_regs]
    · rw [State.onSkl_regs]

theorem State.bankOk_ite {c : Prop} [Decidable c] {s t : State} (hs : s.bankOk) (ht : t.bankOk) :
    (if c then s else t).bankOk := by
  split
  · exact hs
  · exact ht

theorem State.bankOk_cmdIf {s : State} (eid code : Nat) (p : Entry → Bool) {f : State → Entry → State}
    (hf : ∀ s e, s.bankOk → (f s e).bankOk) (h : s.bankOk) : (s.cmdIf eid code p f).bankOk :=
  State.canonical_cmdIf s eid code p f hf h

theorem canonical_execSklClear (eid : Nat) (s : State) (h : Canonical s.regs) :
    ∃ u, execSklClear eid s = .next u ∧ Canonical u.regs := by
  refine ⟨_, rfl, State.bankOk_cmdIf _ _ _ (fun s e h => ?_) h⟩
  have hfree : (s.sklFree e (e.p 0 4)).bankOk := State.bankOk_congr (State.sklFree_regs _ _ _) h
  exact State.bankOk_ite (State.canonical_fail _ _ _ _ h) (State.bankOk_ite (State.canonical_fail _ _ _ _ h)
    (State.canonical_okReply _ _ _ hfree))

/-! ### Engines -/

theorem State.canonical_xqLatch (s : State) (k cause : Nat) (h : Canonical s.regs) : Canonical
    (s.xqLatch k cause).regs := by
  unfold State.xqLatch
  grind [State.canonical_latch]

theorem canonical_execXqEnable (off : Nat) (val : W32) (s : State) (h : Canonical s.regs) : ∃ u, execXqEnable off val
    s = .next u ∧ Canonical u.regs := by
  refine ⟨_, rfl, ?_⟩
  grind [State.setXq_regs, State.canonical_xqLatch]

theorem canonical_execXqDisable (off : Nat) (val : W32) (s : State) (h : Canonical s.regs) : ∃ u, execXqDisable off
    val s = .next u ∧ Canonical u.regs := by
  refine ⟨_, rfl, ?_⟩
  grind [State.setXq_regs, State.canonical_xqLatch]

theorem canonical_execXqTailWrite (off : Nat) (val : W32) (s : State) (h : Canonical s.regs) : ∃ u, execXqTailWrite
    off val s = .next u ∧ Canonical u.regs := by
  refine ⟨_, rfl, ?_⟩
  grind [State.setXq_regs, State.canonical_xqLatch]

theorem canonical_execXcqHeadWrite (off : Nat) (val : W32) (s : State) (h : Canonical s.regs) : ∃ u, execXcqHeadWrite
    off val s = .next u ∧ Canonical u.regs := by
  refine ⟨_, rfl, ?_⟩
  grind [State.setXq_regs, State.canonical_xqLatch]

theorem State.canonical_xqComplete (s : State) (k id : Nat) (r : XRes) (ok : Bool) (h : Canonical s.regs) : Canonical
    (s.xqComplete k id r ok).regs := by
  unfold State.xqComplete
  grind [State.emit_regs, State.edge_regs, State.setXq_regs, State.canonical_xqLatch]

@[simp] theorem State.xqAdvance_regs (s : State) (k : Nat) : (s.xqAdvance k).regs = s.regs := by
  unfold State.xqAdvance
  grind [State.setXq_regs]

theorem State.canonical_xqRun (s : State) (k : Nat) (desc : Fetch) (cqOk : Bool) (f : State → Bytes → State × XRes)
    (hf : ∀ (t : State) a, Canonical t.regs → Canonical (f t a).1.regs) (h : Canonical s.regs) : Canonical
    (s.xqRun k desc cqOk f).regs := by
  unfold State.xqRun
  grind [State.setXq_regs, State.canonical_xqLatch, State.canonical_xqComplete, State.xqAdvance_regs]

theorem canonical_execEngineExpertEnter (eid : Nat) (s : State) (h : Canonical s.regs) : ∃ u, execEngineExpertEnter
    eid s = .next u ∧ Canonical u.regs := by
  refine ⟨_, rfl, ?_⟩
  grind [State.canonical_fail, State.canonical_pendReply, State.canonical_cmd, State.setInst_regs]

theorem canonical_execHandoverDrainComplete (code inst : Nat) (s : State) (h : Canonical s.regs) : ∃ u,
    execHandoverDrainComplete code inst s = .next u ∧ Canonical u.regs := by
  refine ⟨_, rfl, ?_⟩
  grind [State.onData_regs, State.canonical_finalOf, State.setInst_regs]

theorem canonical_execHandoverTimeout (code inst : Nat) (s : State) (h : Canonical s.regs) : ∃ u, execHandoverTimeout
    code inst s = .next u ∧ Canonical u.regs := by
  refine ⟨_, rfl, ?_⟩
  grind [State.canonical_finalOf, State.setInst_regs]

theorem State.canonical_beginReturn (s : State) (k : Nat) (eids : List Nat) (h : Canonical s.regs) : Canonical
    (s.beginReturn k eids).regs := by
  unfold State.beginReturn
  grind [State.canonical_finalOf, State.setInst_regs, State.canonical_foldl]

theorem canonical_execEngineExpertReturn (eid : Nat) (s : State) (h : Canonical s.regs) : ∃ u, execEngineExpertReturn
    eid s = .next u ∧ Canonical u.regs := by
  refine ⟨_, rfl, ?_⟩
  grind [State.canonical_fail, State.canonical_okReply, State.canonical_cmd, State.canonical_beginReturn]

theorem State.canonical_abortDescs (s : State) (k : Nat) (descs : List Bytes) (ok : Bool) (h : Canonical s.regs) :
    Canonical (s.abortDescs k descs ok).regs := by
  unfold State.abortDescs
  grind [State.canonical_xqComplete, State.xqAdvance_regs, State.canonical_foldl]

theorem State.canonical_endReturn (s : State) (k : Nat) (h : Canonical s.regs) : Canonical (s.endReturn k).regs := by
  unfold State.endReturn
  grind [State.canonical_finalOf, State.setInst_regs, State.setXq_regs, State.canonical_foldl]

theorem State.canonical_endDisable (s : State) (k : Nat) (h : Canonical s.regs) : Canonical (s.endDisable k).regs :=
    by
  unfold State.endDisable
  grind [State.canonical_finalOf, State.setInst_regs, State.canonical_foldl]

theorem canonical_execEngineDisable (eid : Nat) (s : State) (h : Canonical s.regs) : ∃ u, execEngineDisable eid s =
    .next u ∧ Canonical u.regs := by
  refine ⟨_, rfl, ?_⟩
  grind [State.canonical_fail, State.canonical_okReply, State.canonical_cmd, State.setInst_regs,
    State.canonical_endDisable]

theorem canonical_execDisableDrainComplete (code inst : Nat) (s : State) (h : Canonical s.regs) : ∃ u,
    execDisableDrainComplete code inst s = .next u ∧ Canonical u.regs := by
  refine ⟨_, rfl, ?_⟩
  grind [State.canonical_endDisable]

theorem canonical_execEngineEnable (eid : Nat) (s : State) (h : Canonical s.regs) : ∃ u, execEngineEnable eid s =
    .next u ∧ Canonical u.regs := by
  refine ⟨_, rfl, ?_⟩
  grind [State.canonical_fail, State.canonical_okReply, State.canonical_cmd, State.setInst_regs]

theorem canonical_execEngineQuery (eid : Nat) (s : State) (h : Canonical s.regs) : ∃ u, execEngineQuery eid s = .next
    u ∧ Canonical u.regs := by
  refine ⟨_, rfl, ?_⟩
  grind [State.canonical_fail, State.canonical_okReply, State.canonical_cmd]

/-! ### Sessions -/

@[simp] theorem State.dropNonce_regs (s : State) (fn ring : Nat) : (s.dropNonce fn ring).regs = s.regs := by
  unfold State.dropNonce
  grind [State.onEz_regs]

theorem canonical_execSessionNonce (eid : Nat) (s : State) (h : Canonical s.regs) : ∃ u, execSessionNonce eid s =
    .next u ∧ Canonical u.regs := by
  refine ⟨_, rfl, ?_⟩
  grind [State.nextDraw_regs, State.onEz_regs, State.canonical_okReply, State.canonical_cmd, State.dropNonce_regs]

theorem canonical_execNonceExpiry (fn ring : Nat) (s : State) (h : Canonical s.regs) : ∃ u, execNonceExpiry fn ring s
    = .next u ∧ Canonical u.regs := by
  refine ⟨_, rfl, ?_⟩
  grind [State.dropNonce_regs]

theorem State.canonical_openSession (s : State) (e : Entry) (role : Nat) (prov : Bool) (h : Canonical s.regs) :
    Canonical (s.openSession e role prov).regs := State.canonical_reply _ _ h

@[simp] theorem State.failProof_regs (s : State) (e : Entry) (role : Nat) : (s.failProof e role).regs = s.regs := by
  unfold State.failProof
  grind [State.onEz_regs]

theorem State.canonical_judgeOpen (s : State) (e : Entry) (role : Nat) (nonce : Bytes) (h : Canonical s.regs) :
    Canonical (s.judgeOpen e role nonce).regs := by
  unfold State.judgeOpen
  grind [State.canonical_final, State.canonical_fail, State.canonical_openSession, State.failProof_regs]

theorem canonical_execSessionOpen (eid : Nat) (s : State) (h : Canonical s.regs) : ∃ u, execSessionOpen eid s = .next
    u ∧ Canonical u.regs := by
  refine ⟨_, rfl, ?_⟩
  grind [State.canonical_fail, State.canonical_cmd, State.dropNonce_regs, State.canonical_judgeOpen]

theorem canonical_execBackoffExpiry (eid : Nat) (s : State) (h : Canonical s.regs) : ∃ u, execBackoffExpiry eid s =
    .next u ∧ Canonical u.regs := by
  refine ⟨_, rfl, ?_⟩
  grind [State.onEz_regs, State.canonical_finalOf]

theorem canonical_execSessionRenew (eid : Nat) (s : State) (h : Canonical s.regs) : ∃ u, execSessionRenew eid s =
    .next u ∧ Canonical u.regs := by
  refine ⟨_, rfl, ?_⟩
  grind [State.canonical_okReply, State.canonical_cmd]

theorem State.canonical_unbindXq (s : State) (k : Nat) (h : Canonical s.regs) : Canonical (s.unbindXq k).regs := by
  unfold State.unbindXq
  grind [State.onDrv_regs, State.setXq_regs, State.canonical_xqComplete, State.canonical_foldl]

theorem State.canonical_releaseHoldings (s : State) (tag : Nat) (h : Canonical s.regs) : Canonical
    (s.releaseHoldings tag).regs := by
  unfold State.releaseHoldings
  grind [State.canonical_beginReturn, State.canonical_unbindXq, State.canonical_foldl]

@[simp] theorem State.endSession_regs (s : State) (tag : Nat) (x : Session) : (s.endSession tag x).regs = s.regs := by
  unfold State.endSession
  grind [State.onEz_regs]

theorem State.canonical_finishClose (s : State) (tag : Nat) (h : Canonical s.regs) : Canonical
    (s.finishClose tag).regs := by
  unfold State.finishClose
  grind [State.canonical_finalOf, State.endSession_regs]

theorem canonical_execSessionClose (eid : Nat) (s : State) (h : Canonical s.regs) : ∃ u, execSessionClose eid s =
    .next u ∧ Canonical u.regs := by
  refine ⟨_, rfl, ?_⟩
  grind [State.onEz_regs, State.canonical_okReply, State.canonical_cmd, State.canonical_releaseHoldings,
    State.canonical_finishClose]

theorem canonical_execSessionCloseComplete (eid : Nat) (s : State) (h : Canonical s.regs) : ∃ u,
    execSessionCloseComplete eid s = .next u ∧ Canonical u.regs := by
  refine ⟨_, rfl, ?_⟩
  grind [State.canonical_finishClose]

theorem canonical_execSessionExpiry (tag : Nat) (s : State) (h : Canonical s.regs) : ∃ u, execSessionExpiry tag s =
    .next u ∧ Canonical u.regs := by
  refine ⟨_, rfl, ?_⟩
  grind [State.canonical_releaseHoldings, State.endSession_regs]

theorem canonical_execRoleKeySet (eid : Nat) (norOk : Bool) (s : State) (h : Canonical s.regs) : ∃ u, execRoleKeySet
    eid norOk s = .next u ∧ Canonical u.regs := by
  refine ⟨_, rfl, ?_⟩
  grind [State.canonical_setRbit, State.onEz_regs, State.canonical_fail, State.canonical_okReply, State.canonical_cmd]

/-! ### Grmp -/

@[simp] theorem State.setConn_regs (s : State) (c : Nat) (x : Conn) : (s.setConn c x).regs = s.regs := by
  unfold State.setConn
  grind [State.onDrv_regs]

@[simp] theorem State.sendOn_regs (s : State) (c : Nat) (x : Conn) (path sub : Nat) (p : Pkt) :
    (s.sendOn c x path sub p).regs = s.regs := by
  unfold State.sendOn
  grind [State.emit_regs, State.tally_regs, State.setConn_regs]

@[simp] theorem State.send_regs (s : State) (c : Nat) (p : Pkt) : (s.send c p).regs = s.regs := by
  unfold State.send
  grind [State.sendOn_regs]

@[simp] theorem State.sendAck_regs (s : State) (c : Nat) : (s.sendAck c).regs = s.regs := by
  unfold State.sendAck
  grind [State.send_regs]

theorem State.canonical_sendNak (s : State) (c psn code : Nat) (h : Canonical s.regs) : Canonical
    (s.sendNak c psn code).regs := by
  unfold State.sendNak
  grind [State.canonical_bump, State.send_regs]

theorem State.pump_regs (c n : Nat) (s : State) : (s.pump c n).regs = s.regs := by
  induction n generalizing s with
  | zero => rfl
  | succ n ih =>
    unfold State.pump
    grind [State.send_regs, State.setConn_regs]

@[simp] theorem State.flush_regs (s : State) (c : Nat) : (s.flush c).regs = s.regs := by
  unfold State.flush
  grind [State.pump_regs]

theorem State.canonical_evict (s : State) (h : Canonical s.regs) : Canonical (s.evict).regs := by
  unfold State.evict
  grind [State.canonical_bump, State.setConn_regs, State.canonical_foldl]

theorem State.canonical_useConn (s : State) (c : Nat) (h : Canonical s.regs) : Canonical (s.useConn c).regs := by
  unfold State.useConn
  grind [State.canonical_bump, State.onDrv_regs, State.setConn_regs, State.canonical_evict]

theorem State.canonical_submit (s : State) (c : Nat) (who : OpFor) (read : Bool) (want laddr : Nat) (pkts : List Pkt)
    (h : Canonical s.regs) : Canonical (s.submit c who read want laddr pkts).regs := by
  unfold State.submit
  grind [State.setConn_regs, State.flush_regs, State.canonical_useConn]

theorem State.canonical_drvComplete (s : State) (q tag len st dt : Nat) (h : Canonical s.regs) : Canonical
    (s.drvComplete q tag len st dt).regs := by
  unfold State.drvComplete
  grind [State.setXq_regs, State.canonical_xqComplete]

@[simp] theorem State.ackPeer_regs (s : State) (dom jseq : Nat) : (s.ackPeer dom jseq).regs = s.regs := by
  unfold State.ackPeer
  grind [State.onData_regs]

theorem State.canonical_opEnd (s : State) (o : DOp) (st dt : Nat) (h : Canonical s.regs) : Canonical
    (s.opEnd o st dt).regs := by
  unfold State.opEnd
  grind [State.canonical_finalOf, State.canonical_drvComplete, State.ackPeer_regs, State.canonical_foldl]

theorem State.canonical_opsEnd (s : State) (os : List DOp) (st dt : Nat) (h : Canonical s.regs) : Canonical
    (s.opsEnd os st dt).regs := by
  unfold State.opsEnd
  grind [State.canonical_opEnd, State.canonical_foldl]

theorem State.canonical_takeAck (s : State) (c apsn : Nat) (h : Canonical s.regs) : Canonical (s.takeAck c apsn).regs
    := by
  unfold State.takeAck
  grind [State.setConn_regs, State.flush_regs, State.canonical_opsEnd]

theorem State.canonical_resendFrom (s : State) (c : Nat) (p : Pkt → Bool) (h : Canonical s.regs) : Canonical
    (s.resendFrom c p).regs := by
  unfold State.resendFrom
  grind [State.canonical_bump, State.send_regs, State.canonical_foldl]

theorem State.canonical_switchPath (s : State) (p : Nat) (h : Canonical s.regs) : Canonical (s.switchPath p).regs :=
    by
  unfold State.switchPath
  grind [State.canonical_bump, State.onDrv_regs, State.canonical_resendFrom, State.canonical_foldl]

theorem State.canonical_peerMsg (s : State) (ty : Nat) (body : Bytes) (h : Canonical s.regs) : Canonical
    (s.peerMsg ty body).regs := by
  unfold State.peerMsg
  grind [State.onDrv_regs, State.send_regs, State.canonical_submit, State.canonical_foldl]

theorem State.canonical_replMsg (s : State) (c ty : Nat) (body : Bytes) (h : Canonical s.regs) : Canonical
    (s.replMsg c ty body).regs := by
  unfold State.replMsg
  grind [State.onDrv_regs, State.send_regs, State.canonical_submit, State.canonical_foldl]

/-! ### Tree -/

@[simp] theorem State.setNode_regs (s : State) (i : Nat) (n : Node) : (s.setNode i n).regs = s.regs := by
  unfold State.setNode
  grind [State.onData_regs]

@[simp] theorem State.setTree_regs (s : State) (root : Nat) (t : Tree) : (s.setTree root t).regs = s.regs := by
  unfold State.setTree
  grind [State.onData_regs]

@[simp] theorem State.restate_regs (s : State) (i : Nat) : (s.restate i).regs = s.regs := by
  unfold State.restate
  grind [State.onData_regs]

/-! ### Drives -/

@[simp] theorem State.setDom_regs (s : State) (d : Nat) (x : Dom) : (s.setDom d x).regs = s.regs := by
  unfold State.setDom
  grind [State.onDhd_regs]

@[simp] theorem State.setPort_regs (s : State) (p : Nat) (x : Port) : (s.setPort p x).regs = s.regs := by
  unfold State.setPort
  grind [State.onFpt_regs]

@[simp] theorem State.driveWrite_regs (s : State) (dom : Nat) (why : Why) (x : Xfer) : (s.driveWrite dom why x).1.regs
    = s.regs := by
  unfold State.driveWrite
  grind [State.emit_regs, State.onFpt_regs, State.tally_regs]

theorem State.driveWrites_regs (s : State) (dom : Nat) (why : Why) (ws : List LeafWr) :
    (s.driveWrites dom why ws).1.regs = s.regs := by
  unfold State.driveWrites
  rw [State.foldl_fst_regs]
  exact fun x y => State.driveWrite_regs x.1 _ _ _

/-! ### Journal -/

@[simp] theorem State.setJournal_regs (s : State) (d : Nat) (j : Journal) : (s.setJournal d j).regs = s.regs := by
  unfold State.setJournal
  grind [State.onData_regs]

@[simp] theorem State.onRec_regs (s : State) (d jseq : Nat) (f : JRec → JRec) : (s.onRec d jseq f).regs = s.regs := by
  unfold State.onRec
  grind [State.setJournal_regs]

theorem State.canonical_mirror (s : State) (d jseq pos : Nat) (data : Bytes) (h : Canonical s.regs) : Canonical
    (s.mirror d jseq pos data).regs := by
  unfold State.mirror
  grind [State.canonical_submit]

@[simp] theorem State.onCopy_regs (s : State) (d which : Nat) (f : JCopy → JCopy) : (s.onCopy d which f).regs = s.regs
    := by
  unfold State.onCopy
  grind [State.setJournal_regs]

@[simp] theorem State.copyFill_regs (s : State) (d which pos : Nat) (data : Bytes) :
    (s.copyFill d which pos data).regs = s.regs := by
  unfold State.copyFill
  grind [State.driveWrites_regs, State.onCopy_regs]

@[simp] theorem State.toPlacing_regs (s : State) (d pos : Nat) (data : Bytes) : (s.toPlacing d pos data).regs = s.regs
    := by
  unfold State.toPlacing
  grind [State.copyFill_regs, State.foldl_regs]

theorem State.canonical_issueRec (s : State) (d : Nat) (r : JRec) (h : Canonical s.regs) : Canonical
    (s.issueRec d r).regs := by
  unfold State.issueRec
  grind [State.driveWrites_regs, State.setJournal_regs, State.canonical_mirror, State.toPlacing_regs]

theorem State.canonical_issueLoop (d n : Nat) (s : State) (h : Canonical s.regs) :
    Canonical (State.issueLoop d n s).regs := by
  induction n generalizing s with
  | zero => exact h
  | succ n ih =>
    unfold State.issueLoop
    grind [State.canonical_issueRec]

theorem State.canonical_issueWaiting (s : State) (d : Nat) (h : Canonical s.regs) : Canonical (s.issueWaiting d).regs
    := by
  unfold State.issueWaiting
  grind [State.canonical_issueLoop]

theorem State.canonical_makeRec (s : State) (d : Nat) (ty : JTy) (eid : Nat) (items : List (Nat × Bytes))
    (need : List (Nat × Nat)) (h : Canonical s.regs) : Canonical (s.makeRec d ty eid items need).1.regs := by
  unfold State.makeRec
  grind [State.setJournal_regs, State.canonical_issueWaiting]

theorem State.canonical_note (s : State) (d : Nat) (ty : JTy) (items : List (Nat × Bytes)) (h : Canonical s.regs) :
    Canonical (s.note d ty items).regs := by
  unfold State.note
  grind [State.canonical_makeRec]

@[simp] theorem State.ackCopy_regs (s : State) (d : Nat) (b : Bool) (jseq : Nat) : (s.ackCopy d b jseq).regs = s.regs
    := by
  unfold State.ackCopy
  grind [State.onRec_regs]

@[simp] theorem State.dropRec_regs (s : State) (d jseq : Nat) : (s.dropRec d jseq).regs = s.regs := by
  unfold State.dropRec
  grind [State.setJournal_regs]

@[simp] theorem State.writeHeader_regs (s : State) (d : Nat) : (s.writeHeader d).regs = s.regs := by
  unfold State.writeHeader
  grind [State.driveWrites_regs, State.setJournal_regs, State.foldl_regs]

@[simp] theorem State.dropLabel_regs (s : State) (root epoch : Nat) : (s.dropLabel root epoch).regs = s.regs := by
  unfold State.dropLabel
  grind [State.onData_regs]

@[simp] theorem State.clearLabels_regs (s : State) (ls : List (Nat × Leaf)) (dom : Nat) : (s.clearLabels ls dom).regs
    = s.regs := by
  unfold State.clearLabels
  grind [State.driveWrites_regs, State.foldl_regs]

@[simp] theorem State.dropTree_regs (s : State) (root : Nat) : (s.dropTree root).regs = s.regs := by
  unfold State.dropTree
  grind [State.onData_regs]

theorem State.canonical_afterLabel (s : State) (w : LabelW) (h : Canonical s.regs) : Canonical (s.afterLabel w).regs
    := by
  unfold State.afterLabel
  grind [State.canonical_finalOf, State.setTree_regs, State.clearLabels_regs, State.dropTree_regs]

theorem State.canonical_stepLabel (s : State) (w : LabelW) (h : Canonical s.regs) : Canonical (s.stepLabel w).regs := by
  unfold State.stepLabel
  grind [State.canonical_foldl_fst, State.driveWrites_regs, State.dropLabel_regs, State.canonical_afterLabel, State.onData_regs]

theorem State.canonical_writeLabels (s : State) (root eid : Nat) (after : AfterLabel) (result : Bytes)
    (h : Canonical s.regs) : Canonical (s.writeLabels root eid after result).regs := by
  unfold State.writeLabels
  grind [State.canonical_foldl_fst, State.driveWrites_regs, State.setTree_regs, State.canonical_stepLabel, State.onData_regs]

theorem State.canonical_treeChange (s : State) (root : Nat) (nodes : List Nat) (h : Canonical s.regs) : Canonical
    (s.treeChange root nodes).regs := by
  unfold State.treeChange
  grind [State.canonical_note, State.canonical_writeLabels]

theorem State.canonical_leavesTo (s : State) (root : Nat) (is : List Nat) (st : LeafSt) (h : Canonical s.regs) :
    Canonical (s.leavesTo root is st).regs := by
  unfold State.leavesTo
  grind [State.setNode_regs, State.restate_regs, State.canonical_treeChange, State.canonical_foldl]

theorem State.canonical_leafFail (s : State) (i : Nat) (h : Canonical s.regs) : Canonical (s.leafFail i).regs := by
  unfold State.leafFail
  grind [State.canonical_leavesTo]

/-! ### Index -/

@[simp] theorem State.setBucket_regs (s : State) (d n : Nat) (b : Bucket) : (s.setBucket d n b).regs = s.regs := by
  unfold State.setBucket
  grind [State.onData_regs]

@[simp] theorem State.setSlot_regs (s : State) (d : Nat) (p : Nat × Nat) (e : Option IdxEntry) :
    (s.setSlot d p e).regs = s.regs := by
  unfold State.setSlot
  grind [State.setBucket_regs]

theorem State.insertIdx_regs (s : State) (d : Nat) (e : IdxEntry) {t : State} (ht : s.insertIdx d e = some t) :
    t.regs = s.regs := by
  unfold State.insertIdx at ht
  grind [State.setBucket_regs, State.setSlot_regs]

@[simp] theorem State.updIdx_regs (s : State) (d : Nat) (key : Bytes) (p : IdxEntry → Bool)
    (f : IdxEntry → Option IdxEntry) : (s.updIdx d key p f).regs = s.regs := by
  unfold State.updIdx
  grind [State.setSlot_regs]

/-! ### Space -/

@[simp] theorem State.addStripe_regs (s : State) (root block : Nat) (data : Bytes) (zeroFrom : Nat) :
    (s.addStripe root block data zeroFrom).regs = s.regs := by
  unfold State.addStripe
  grind [State.onData_regs]

@[simp] theorem State.sealRun_regs (s : State) (root : Nat) (g : Group) (r : OpenRun) : (s.sealRun root g r).1.regs =
    s.regs := by
  unfold State.sealRun
  grind [State.addStripe_regs]

theorem State.runFor_regs (s : State) (root : Nat) (g : Group) (rcp : Bool) (n : Nat) {x : State × OpenRun}
    (hx : s.runFor root g rcp n = some x) : x.1.regs = s.regs := by
  unfold State.runFor at hx
  grind [State.sealRun_regs, State.setTree_regs]

theorem State.place_regs (s : State) (root : Nat) (rcp : Bool) (data : Bytes) {x : State × Spot}
    (hx : s.place root rcp data = some x) : x.1.regs = s.regs := by
  unfold State.place at hx
  dsimp only at hx
  split at hx
  · cases hx
  · split at hx
    · cases hx
    · next hr =>
      cases hx
      rw [State.setTree_regs, State.foldl_regs, State.runFor_regs _ _ _ _ _ hr]
      exact fun s f => State.addStripe_regs _ _ _ _ _

@[simp] theorem State.holdExt_regs (s : State) (root num : Nat) : (s.holdExt root num).regs = s.regs := by
  unfold State.holdExt
  grind [State.setTree_regs]

@[simp] theorem State.freeExt_regs (s : State) (id : Nat) : (s.freeExt id).regs = s.regs := by
  unfold State.freeExt
  grind [State.setTree_regs]

theorem State.placeRecipe_regs (s : State) (root : Nat) (data : Bytes) {x : State × Nat × Spot}
    (hx : s.placeRecipe root data = some x) : x.1.regs = s.regs := by
  unfold State.placeRecipe at hx
  dsimp only at hx
  split at hx
  · cases hx
  · next hp =>
    cases hx
    rw [State.setTree_regs, State.place_regs _ _ _ _ hp]

@[simp] theorem State.stripeDone_regs (s : State) (root block : Nat) : (s.stripeDone root block).regs = s.regs := by
  unfold State.stripeDone
  grind [State.onData_regs]

theorem State.canonical_unlose (s : State) (root block : Nat) (h : Canonical s.regs) : Canonical
    (s.unlose root block).regs := by
  unfold State.unlose
  grind [State.setTree_regs, State.canonical_note]

theorem State.canonical_issueStripe (s : State) (w : StripeW) (h : Canonical s.regs) : Canonical
    (s.issueStripe w).regs := by
  unfold State.issueStripe
  grind [State.canonical_addPair, State.onData_regs, State.driveWrites_regs, State.stripeDone_regs,
    State.canonical_unlose]

theorem canonical_execFullStripeWrite (root block : Nat) (s : State) (h : Canonical s.regs) : ∃ u, execFullStripeWrite
    root block s = .next u ∧ Canonical u.regs := by
  refine ⟨_, rfl, ?_⟩
  grind [State.canonical_issueStripe]

@[simp] theorem State.sealAt_regs (s : State) (root block : Nat) (p : OpenRun → Bool) : (s.sealAt root block p).regs =
    s.regs := by
  unfold State.sealAt
  grind [State.setTree_regs, State.sealRun_regs, State.foldl_regs]

theorem canonical_execStripeSeal (root block : Nat) (s : State) (h : Canonical s.regs) : ∃ u, execStripeSeal root
    block s = .next u ∧ Canonical u.regs := by
  refine ⟨_, rfl, ?_⟩
  grind [State.sealAt_regs]

theorem canonical_execJournalFillSeal (dom : Fin 8) (s : State) (h : Canonical s.regs) : ∃ u, execJournalFillSeal dom
    s = .next u ∧ Canonical u.regs := by
  refine ⟨_, rfl, ?_⟩
  grind [State.setJournal_regs, State.sealAt_regs, State.canonical_foldl]

@[simp] theorem State.addSmall_regs (s : State) (dom jseq : Nat) (p : PartBlk) : (s.addSmall dom jseq p).regs = s.regs
    := by
  unfold State.addSmall
  grind [State.onData_regs]

theorem canonical_execSmallWrite (id : Nat) (old : Fetch) (s : State) (h : Canonical s.regs) : ∃ u, execSmallWrite id
    old s = .next u ∧ Canonical u.regs := by
  refine ⟨_, rfl, ?_⟩
  grind [State.canonical_addPair, State.onData_regs, State.driveWrites_regs]

theorem canonical_execSmallWriteDone (id : Nat) (s : State) (h : Canonical s.regs) : ∃ u, execSmallWriteDone id s =
    .next u ∧ Canonical u.regs := by
  refine ⟨_, rfl, ?_⟩
  grind [State.onData_regs]

/-! ### Ingest -/

@[simp] theorem State.setPut_regs (s : State) (p : PutRec) : (s.setPut p).regs = s.regs := by
  unfold State.setPut
  grind [State.onData_regs]

theorem State.canonical_countFrame (s : State) (orig frame stored : Nat) (h : Canonical s.regs) : Canonical
    (s.countFrame orig frame stored).regs := by
  unfold State.countFrame
  grind [State.canonical_bump, State.canonical_addPair]

theorem State.canonical_storeChunk (s : State) (p : PutRec) (i tagBase : Nat) (fp : Bytes) (blks : List Bytes)
    (unindexed : Bool) (h : Canonical s.regs) : Canonical (s.storeChunk p i tagBase fp blks unindexed).1.regs := by
  unfold State.storeChunk
  split
  · exact h
  · dsimp only
    split
    · exact State.canonical_countFrame _ _ _ _ h
    · next hp =>
      rw [State.holdExt_regs, State.place_regs _ _ _ _ hp]
      exact State.canonical_countFrame _ _ _ _ h

@[simp] theorem State.compareFail_regs (s : State) (p : PutRec) (e : RecEntry) : (s.compareFail p e).regs = s.regs :=
    by
  unfold State.compareFail
  grind [State.onFld_regs, State.sklStatus_regs]

@[simp] theorem State.compare_regs (s : State) (p : PutRec) (i : Nat) (fp : Bytes) (blks : List Bytes) (f : Fetch) :
    (s.compare p i fp blks f).1.regs = s.regs := by
  unfold State.compare
  grind [State.compareFail_regs]

theorem State.canonical_dispatchChunk (s : State) (p : PutRec) (i tagBase : Nat) (fp : Bytes) (blks : List Bytes)
    (cmp : List Fetch) (h : Canonical s.regs) : Canonical (s.dispatchChunk p i tagBase fp blks cmp).1.regs := by
  unfold State.dispatchChunk
  grind [State.insertIdx_regs, State.canonical_storeChunk, State.compare_regs]

theorem State.canonical_dispatchAll (s : State) (p : PutRec) (salt : Bytes) (cs : List (List Bytes)) (i tagBase : Nat)
    (cmp : List Fetch) (h : Canonical s.regs) : Canonical (s.dispatchAll p salt cs i tagBase cmp).1.regs := by
  induction cs generalizing s p i tagBase cmp with
  | nil => exact h
  | cons c cs ih =>
    have hd := State.canonical_dispatchChunk s p i tagBase (fingerprint salt c.flatten) c cmp h
    unfold State.dispatchAll
    split <;> grind

@[simp] theorem State.unbindWindow_regs (s : State) (eid : Nat) : (s.unbindWindow eid).regs = s.regs := by
  unfold State.unbindWindow
  grind [State.onDrv_regs]

theorem State.canonical_countLen (s : State) (st : Nat) (h : Canonical s.regs) : Canonical (s.countLen st).regs := by
  unfold State.countLen
  grind [State.canonical_bump]

theorem State.canonical_putAnswer (s : State) (p : PutRec) (st dt : Nat) (res : Bytes) (h : Canonical s.regs) :
    Canonical (s.putAnswer p st dt res).regs := by
  unfold State.putAnswer
  grind [State.canonical_finalOf, State.canonical_replMsg]

@[simp] theorem State.putDrop_regs (s : State) (p : PutRec) : (s.putDrop p).regs = s.regs := by
  unfold State.putDrop
  grind [State.onData_regs, State.setJournal_regs, State.updIdx_regs, State.freeExt_regs, State.unbindWindow_regs,
    State.foldl_regs]

theorem State.canonical_takeSeq (s : State) (p : PutRec) (h : Canonical s.regs) : Canonical (s.takeSeq p).1.regs := by
  unfold State.takeSeq
  dsimp only
  split
  · exact h
  · next t ext sp heq =>
    have ht : Canonical t.regs := by rw [State.placeRecipe_regs _ _ _ heq]; exact h
    exact State.canonical_foldl (fun s x hs => by rw [State.addSmall_regs]; exact hs) _ _
      (State.canonical_makeRec _ _ _ _ _ _ ht)

@[simp] theorem State.removeObject_regs (s : State) (o : ObjRec) : (s.removeObject o).regs = s.regs := by
  unfold State.removeObject
  grind [State.onData_regs, State.updIdx_regs, State.foldl_regs]

@[simp] theorem State.ship_regs (s : State) (policy : Nat) (x : Ship) : (s.ship policy x).regs = s.regs := by
  unfold State.ship
  grind [State.onDrv_regs, State.event_regs, State.foldl_regs]

theorem State.applyPut_regs (s : State) (p : PutRec) {t : State} (ht : s.applyPut p = .ok t) : t.regs = s.regs := by
  unfold State.applyPut at ht
  dsimp only at ht
  split at ht
  · cases ht
  · split at ht
    · cases ht
    · next u hu =>
      cases ht
      rw [State.onData_regs, State.foldl_regs, State.foldl_regs, State.insertIdx_regs _ _ _ hu]
      · split
        · exact State.removeObject_regs _ _
        · rfl
      · intro s fp; exact State.updIdx_regs _ _ _ _ _
      · intro s r; split
        · rfl
        · exact State.updIdx_regs _ _ _ _ _

theorem State.canonical_failPut (f : Nat) (s : State) (p : PutRec) (st dt : Nat) (h : Canonical s.regs) :
    Canonical (State.failPut f s p st dt).regs := by
  have hstart : ∀ p st dt (s : State), Canonical s.regs →
      Canonical (((s.putDrop p).countLen st).putAnswer p st dt []).regs := fun p st dt s h =>
    State.canonical_putAnswer _ _ _ _ _ (State.canonical_countLen _ _ (by rw [State.putDrop_regs]; exact h))
  induction f generalizing s p st dt with
  | zero => exact hstart p st dt s h
  | succ f ih =>
    unfold State.failPut
    refine State.canonical_foldl (fun s i hs => ?_) _ _ (hstart p st dt s h)
    split
    · exact hs
    · dsimp only
      split
      · exact ih _ _ _ _ hs
      · generalize hr : List.foldl _ (s, _, none) _ = r
        have hrs : Canonical r.1.regs := by
          rw [← hr]
          refine State.canonical_foldl_fst (fun x a hx => ?_) _ _ hs
          obtain ⟨t, w, err⟩ := x
          cases err with
          | some e => exact hx
          | none => exact State.canonical_dispatchChunk _ _ _ _ _ _ _ hx
        have hset : ∀ w, Canonical (r.1.setPut w).regs := fun w => by rw [State.setPut_regs]; exact hrs
        split
        · exact ih _ _ _ _ (hset _)
        · split
          · have hseq : ∀ w v, Canonical (((r.1.setPut w).takeSeq v).1.setPut ((r.1.setPut w).takeSeq v).2.1).regs :=
              fun w v => by rw [State.setPut_regs]; exact State.canonical_takeSeq _ _ (hset w)
            split
            · exact ih _ _ _ _ (hseq _ _)
            · exact hseq _ _
          · exact hset _

theorem State.canonical_endPut (s : State) (eid st dt : Nat) (h : Canonical s.regs) :
    Canonical (s.endPut eid st dt).regs := by
  unfold State.endPut
  grind [State.canonical_failPut]

theorem State.canonical_advancePut (s : State) (eid : Nat) (h : Canonical s.regs) : Canonical (s.advancePut eid).regs
    := by
  unfold State.advancePut
  grind [State.setPut_regs, State.canonical_takeSeq, State.canonical_endPut]

theorem State.canonical_resumeWaiters (s : State) (p : PutRec) (cmp : List Fetch) (h : Canonical s.regs) :
    Canonical (s.resumeWaiters p cmp).regs := by
  unfold State.resumeWaiters
  refine State.canonical_foldl_fst (fun a i ha => ?_) _ _ h
  split
  · exact ha
  · dsimp only
    generalize hr : List.foldl _ (a.1, a.2, none) _ = r
    have hrs : Canonical r.1.regs := by
      rw [← hr]
      refine State.canonical_foldl_fst (fun x a hx => ?_) _ _ ha
      obtain ⟨t, c, err⟩ := x
      cases err with
      | some e => exact hx
      | none =>
        dsimp only
        split
        · rw [State.compare_regs]; exact hx
        · exact hx
    have hset : ∀ w, Canonical (r.1.setPut w).regs := fun w => by rw [State.setPut_regs]; exact hrs
    split
    · exact State.canonical_endPut _ _ _ _ (hset _)
    · exact State.canonical_advancePut _ _ (hset _)

theorem State.canonical_applyDelete (s : State) (d : Nat) (r : JRec) (h : Canonical s.regs) : Canonical
    (s.applyDelete d r).regs := by
  unfold State.applyDelete
  grind [State.canonical_finalOf, State.onRec_regs, State.removeObject_regs]

theorem State.canonical_applyDeletes (d n : Nat) (s : State) (h : Canonical s.regs) :
    Canonical (State.applyDeletes d n s).regs := by
  induction n generalizing s with
  | zero => exact h
  | succ n ih =>
    unfold State.applyDeletes
    grind [State.canonical_applyDelete]

@[simp] theorem State.shipPut_regs (s : State) (p : PutRec) : (s.shipPut p).regs = s.regs := by
  unfold State.shipPut
  grind [State.ship_regs]

theorem State.canonical_commitPut (s : State) (p : PutRec) (cmp : List Fetch) (h : Canonical s.regs) : Canonical
    (s.commitPut p cmp).regs := by
  unfold State.commitPut
  grind [State.canonical_addPair, State.onData_regs, State.tally_regs, State.unbindWindow_regs,
    State.canonical_putAnswer, State.applyPut_regs, State.canonical_endPut, State.canonical_resumeWaiters,
    State.canonical_applyDeletes, State.shipPut_regs]

theorem canonical_execPutCommit (eid : Nat) (cmp : List Fetch) (s : State) (h : Canonical s.regs) : ∃ u, execPutCommit
    eid cmp s = .next u ∧ Canonical u.regs := by
  refine ⟨_, rfl, ?_⟩
  grind [State.canonical_commitPut]

theorem State.canonical_runPass (s : State) (eid : Nat) (cmp : List Fetch) (h : Canonical s.regs) : Canonical
    (s.runPass eid cmp).regs := by
  unfold State.runPass
  grind [State.setPut_regs, State.canonical_dispatchAll, State.canonical_endPut, State.canonical_advancePut]

theorem State.canonical_startPut (s : State) (p : PutRec) (data : Bytes) (cmp : List Fetch) (h : Canonical s.regs) :
    Canonical (s.startPut p data cmp).regs := by
  unfold State.startPut
  grind [State.onData_regs, State.tally_regs, State.canonical_runPass]

theorem State.canonical_putData (s : State) (e : Entry) (p : PutRec) (list src : Fetch) (cmp : List Fetch)
    (h : Canonical s.regs) : Canonical (s.putData e p list src cmp).regs := by
  unfold State.putData
  grind [State.onData_regs, State.onDrv_regs, State.canonical_fail, State.canonical_failSilent,
    State.canonical_countLen, State.canonical_startPut]

theorem State.canonical_putCmd (s : State) (e : Entry) (fixed : Bool) (list src : Fetch) (cmp : List Fetch)
    (h : Canonical s.regs) : Canonical (s.putCmd e fixed list src cmp).regs := by
  unfold State.putCmd
  grind [State.canonical_fail, State.canonical_putData]

theorem canonical_execPut (eid : Nat) (list src : Fetch) (cmp : List Fetch) (s : State) (h : Canonical s.regs) : ∃ u,
    execPut eid list src cmp s = .next u ∧ Canonical u.regs := by
  refine ⟨_, rfl, ?_⟩
  grind [State.canonical_cmd, State.canonical_putCmd]

theorem canonical_execPutInline (eid : Nat) (list src : Fetch) (cmp : List Fetch) (s : State) (h : Canonical s.regs) :
    ∃ u, execPutInline eid list src cmp s = .next u ∧ Canonical u.regs := by
  refine ⟨_, rfl, ?_⟩
  grind [State.canonical_cmd, State.canonical_putCmd]

theorem canonical_execPutFixed (eid : Nat) (list src : Fetch) (cmp : List Fetch) (s : State) (h : Canonical s.regs) :
    ∃ u, execPutFixed eid list src cmp s = .next u ∧ Canonical u.regs := by
  refine ⟨_, rfl, ?_⟩
  grind [State.canonical_cmd, State.canonical_putCmd]

theorem canonical_execPutIdleTimeout (eid : Nat) (s : State) (h : Canonical s.regs) : ∃ u, execPutIdleTimeout eid s =
    .next u ∧ Canonical u.regs := by
  refine ⟨_, rfl, ?_⟩
  grind [State.canonical_endPut]

/-! ### ReadBack -/

theorem State.scatter_regs (s : State) (e : Entry) (ps : List (Nat × Nat)) (b : Bytes) :
    (s.scatter e ps b).regs = s.regs := by
  induction ps generalizing s b with
  | nil => rfl
  | cons p ps ih =>
    unfold State.scatter
    grind [State.deliverTo_regs]

theorem State.canonical_deliverGet (s : State) (e : Entry) (o : ObjRec) (d : Dest) (lo n base : Nat)
    (r : Bytes × Option (Nat × Nat)) (h : Canonical s.regs) : Canonical (s.deliverGet e o d lo n base r).regs := by
  unfold State.deliverGet
  grind [State.tally_regs, State.canonical_final, State.deliverTo_regs, State.send_regs, State.canonical_submit,
    State.scatter_regs]

theorem State.canonical_getCmd (s : State) (e : Entry) (ranged : Bool) (list : Fetch) (recs again : List Fetch)
    (destOk : Bool) (h : Canonical s.regs) : Canonical (s.getCmd e ranged list recs again destOk).regs := by
  unfold State.getCmd
  have hfail := fun st dt => State.canonical_fail s e st dt h
  have hsilent := fun k => State.canonical_failSilent s e k h
  have hdeliver := fun o d lo n base r => State.canonical_deliverGet s e o d lo n base r h
  dsimp only
  generalize St.invalidParam = st
  repeat' split
  all_goals simp only [hfail, hsilent, hdeliver]

theorem canonical_execGet (eid : Nat) (list : Fetch) (recs again : List Fetch) (destOk : Bool) (s : State)
    (h : Canonical s.regs) : ∃ u, execGet eid list recs again destOk s = .next u ∧ Canonical u.regs := by
  refine ⟨_, rfl, ?_⟩
  grind [State.canonical_cmd, State.canonical_getCmd]

theorem canonical_execGetRange (eid : Nat) (list : Fetch) (recs again : List Fetch) (destOk : Bool) (s : State)
    (h : Canonical s.regs) : ∃ u, execGetRange eid list recs again destOk s = .next u ∧ Canonical u.regs := by
  refine ⟨_, rfl, ?_⟩
  grind [State.canonical_cmd, State.canonical_getCmd]

theorem State.canonical_startDelete (s : State) (eid : Nat) (o : ObjRec) (h : Canonical s.regs) : Canonical
    (s.startDelete eid o).regs := by
  unfold State.startDelete
  grind [State.onRec_regs, State.canonical_makeRec]

@[simp] theorem State.shipDelete_regs (s : State) (o : ObjRec) : (s.shipDelete o).regs = s.regs := by
  unfold State.shipDelete
  grind [State.ship_regs, State.foldl_regs]

theorem canonical_execDeleteRef (eid : Nat) (s : State) (h : Canonical s.regs) : ∃ u, execDeleteRef eid s = .next u ∧
    Canonical u.regs := by
  refine ⟨_, rfl, ?_⟩
  grind [State.canonical_fail, State.canonical_cmd, State.canonical_startDelete, State.shipDelete_regs]

theorem canonical_execObjectStat (eid : Nat) (s : State) (h : Canonical s.regs) : ∃ u, execObjectStat eid s = .next u
    ∧ Canonical u.regs := by
  refine ⟨_, rfl, ?_⟩
  grind [State.canonical_fail, State.canonical_okReply, State.canonical_cmd]

theorem canonical_execPolicyCreate (eid : Nat) (s : State) (h : Canonical s.regs) : ∃ u, execPolicyCreate eid s =
    .next u ∧ Canonical u.regs := by
  refine ⟨_, rfl, ?_⟩
  grind [State.onData_regs, State.canonical_fail, State.canonical_okReply, State.canonical_cmd]

theorem canonical_execPolicyDestroy (eid : Nat) (s : State) (h : Canonical s.regs) : ∃ u, execPolicyDestroy eid s =
    .next u ∧ Canonical u.regs := by
  refine ⟨_, rfl, ?_⟩
  grind [State.onData_regs, State.canonical_fail, State.canonical_okReply, State.canonical_cmd]

theorem canonical_execTombstoneReclaim (dom : Fin 8) (s : State) (h : Canonical s.regs) : ∃ u, execTombstoneReclaim
    dom s = .next u ∧ Canonical u.regs := by
  refine ⟨_, rfl, ?_⟩
  grind [State.onData_regs, State.onTape_regs, State.setTree_regs, State.canonical_note, State.setSlot_regs,
    State.freeExt_regs, State.canonical_foldl]

/-! ### Keys -/

@[simp] theorem State.setSlotKey_regs (s : State) (i : Nat) (k : KeySlot) : (s.setSlotKey i k).regs = s.regs := by
  unfold State.setSlotKey
  grind [State.onData_regs]

@[simp] theorem State.emptySlots_regs (s : State) (p : Nat → KeySlot → Bool) : (s.emptySlots p).regs = s.regs := by
  unfold State.emptySlots
  grind [State.onData_regs]

theorem State.canonical_unwrapKey (s : State) (blob : Bytes) (ty : Option KeyTy) (tenant gen : Nat)
    (h : Canonical s.regs) : Canonical (s.unwrapKey blob ty tenant gen).1.regs := by
  unfold State.unwrapKey
  grind [State.canonical_bump]

theorem State.canonical_takeKey (s : State) (form : Nat) (field : Bytes) (ty : KeyTy) (tenant gen : Nat)
    (h : Canonical s.regs) : Canonical (s.takeKey form field ty tenant gen).1.regs := by
  unfold State.takeKey
  grind [State.canonical_unwrapKey]

@[simp] theorem State.setTenant_regs (s : State) (t : Nat) (x : Tenant) : (s.setTenant t x).regs = s.regs := by
  unfold State.setTenant
  grind [State.onData_regs]

theorem canonical_execTenantCreate (eid : Nat) (s : State) (h : Canonical s.regs) : ∃ u, execTenantCreate eid s =
    .next u ∧ Canonical u.regs := by
  refine ⟨_, rfl, ?_⟩
  grind [State.nextDraw_regs, State.canonical_fail, State.canonical_okReply, State.canonical_cmd,
    State.setTenant_regs]

@[simp] theorem State.beginRetire_regs (s : State) (e : Entry) (t : Nat) (gens : List Nat) (destroy : Bool) :
    (s.beginRetire e t gens destroy).regs = s.regs := by
  unfold State.beginRetire
  grind [State.onData_regs]

theorem State.canonical_endRetire (s : State) (r : Retire) (h : Canonical s.regs) : Canonical (s.endRetire r).regs :=
    by
  unfold State.endRetire
  grind [State.onData_regs, State.canonical_finalOf, State.emptySlots_regs, State.setTenant_regs]

theorem State.canonical_tryRetire (s : State) (eid : Nat) (h : Canonical s.regs) : Canonical (s.tryRetire eid).regs :=
    by
  unfold State.tryRetire
  grind [State.canonical_endRetire]

theorem canonical_execTenantDestroy (eid : Nat) (s : State) (h : Canonical s.regs) : ∃ u, execTenantDestroy eid s =
    .next u ∧ Canonical u.regs := by
  refine ⟨_, rfl, ?_⟩
  grind [State.canonical_fail, State.canonical_cmd, State.beginRetire_regs, State.canonical_tryRetire]

theorem State.canonical_keyLoad (s : State) (e : Entry) (t : Nat) (x : Tenant) (gen : Nat) (new : Bool)
    (h : Canonical s.regs) : Canonical (s.keyLoad e t x gen new).regs := by
  unfold State.keyLoad
  grind [State.canonical_fail, State.canonical_okReply, State.setSlotKey_regs, State.canonical_takeKey,
    State.setTenant_regs]

theorem canonical_execTenantKeySet (eid : Nat) (s : State) (h : Canonical s.regs) : ∃ u, execTenantKeySet eid s =
    .next u ∧ Canonical u.regs := by
  refine ⟨_, rfl, ?_⟩
  grind [State.canonical_fail, State.canonical_cmd, State.beginRetire_regs, State.canonical_tryRetire,
    State.canonical_keyLoad]

theorem canonical_execRetireComplete (eid : Nat) (s : State) (h : Canonical s.regs) : ∃ u, execRetireComplete eid s =
    .next u ∧ Canonical u.regs := by
  refine ⟨_, rfl, ?_⟩
  grind [State.canonical_tryRetire]

theorem State.canonical_keyResult (s : State) (r : Nat) (h : Canonical s.regs) : Canonical (s.keyResult r).regs := by
  unfold State.keyResult
  grind [State.canonical_setRf]

theorem State.canonical_keyRefused (s : State) (h : Canonical s.regs) : Canonical (s.keyRefused).regs := by
  unfold State.keyRefused
  grind [State.canonical_latch, State.canonical_keyResult]

theorem State.canonical_keyGo (s : State) (slot ty : Nat) (h : Canonical s.regs) : Canonical (s.keyGo slot ty).regs :=
    by
  unfold State.keyGo
  grind [State.onData_regs, State.setSlotKey_regs, State.emptySlots_regs, State.canonical_keyResult,
    State.canonical_keyRefused]

theorem State.canonical_keyloadWrite (s : State) (val : W32) (h : Canonical s.regs) : Canonical
    (s.keyloadWrite val).regs := by
  unfold State.keyloadWrite
  grind [State.canonical_setRf, State.onData_regs, State.canonical_keyGo]

theorem canonical_execKeyloadKey (val : W32) (s : State) (h : Canonical s.regs) : ∃ u, execKeyloadKey val s = .next u
    ∧ Canonical u.regs := by
  refine ⟨_, rfl, ?_⟩
  grind [State.canonical_keyloadWrite]

theorem canonical_execKeyloadHwk (val : W32) (s : State) (h : Canonical s.regs) : ∃ u, execKeyloadHwk val s = .next u
    ∧ Canonical u.regs := by
  refine ⟨_, rfl, ?_⟩
  grind [State.canonical_keyloadWrite]

theorem canonical_execKeyloadZeroize (val : W32) (s : State) (h : Canonical s.regs) : ∃ u, execKeyloadZeroize val s =
    .next u ∧ Canonical u.regs := by
  refine ⟨_, rfl, ?_⟩
  grind [State.canonical_keyloadWrite]

theorem canonical_execKeySlotFault (slot : Nat) (s : State) (h : Canonical s.regs) : ∃ u, execKeySlotFault slot s =
    .next u ∧ Canonical u.regs := by
  refine ⟨_, rfl, ?_⟩
  grind [State.canonical_bump, State.sklHw_regs, State.canonical_endPut, State.emptySlots_regs, State.canonical_foldl]

theorem State.canonical_xqOp (s : State) (k : Nat) (desc : Fetch) (cqOk : Bool) (op : Nat) (ops : List Nat)
    (f : State → Bytes → State × XRes) (hf : ∀ (t : State) a, Canonical t.regs → Canonical (f t a).1.regs)
    (h : Canonical s.regs) : Canonical (s.xqOp k desc cqOk op ops f).regs := by
  unfold State.xqOp
  grind [State.canonical_xqRun]

@[simp] theorem State.xqWrite_regs (s : State) (k addr : Nat) (data : Bytes) : (s.xqWrite k addr data).regs = s.regs
    := by
  unfold State.xqWrite
  grind [State.emit_regs]

@[simp] theorem State.brkXts_regs (s : State) (k : Nat) (enc : Bool) (src : Fetch) (d : Bytes) :
    (s.brkXts k enc src d).1.regs = s.regs := by
  unfold State.brkXts
  grind [State.xqWrite_regs]

theorem canonical_execBrkXtsEncrypt (inst : Fin 8) (desc src : Fetch) (cqOk : Bool) (s : State) (h : Canonical s.regs)
    : ∃ u, execBrkXtsEncrypt inst desc src cqOk s = .next u ∧ Canonical u.regs := by
  refine ⟨_, rfl, ?_⟩
  grind [State.canonical_xqOp, State.brkXts_regs]

theorem canonical_execBrkXtsDecrypt (inst : Fin 8) (desc src : Fetch) (cqOk : Bool) (s : State) (h : Canonical s.regs)
    : ∃ u, execBrkXtsDecrypt inst desc src cqOk s = .next u ∧ Canonical u.regs := by
  refine ⟨_, rfl, ?_⟩
  grind [State.canonical_xqOp, State.brkXts_regs]

theorem canonical_execBrkGcmEncrypt (inst : Fin 8) (desc src aad : Fetch) (cqOk : Bool) (s : State)
    (h : Canonical s.regs) : ∃ u, execBrkGcmEncrypt inst desc src aad cqOk s = .next u ∧ Canonical u.regs := by
  refine ⟨_, rfl, ?_⟩
  grind [State.canonical_xqOp, State.xqWrite_regs]

theorem canonical_execBrkGcmDecrypt (inst : Fin 8) (desc src aad : Fetch) (cqOk : Bool) (s : State)
    (h : Canonical s.regs) : ∃ u, execBrkGcmDecrypt inst desc src aad cqOk s = .next u ∧ Canonical u.regs := by
  refine ⟨_, rfl, ?_⟩
  grind [State.canonical_bump, State.canonical_xqOp, State.xqWrite_regs]

theorem canonical_execBrkUnwrap (inst : Fin 8) (desc src : Fetch) (cqOk : Bool) (s : State) (h : Canonical s.regs) : ∃
    u, execBrkUnwrap inst desc src cqOk s = .next u ∧ Canonical u.regs := by
  refine ⟨_, rfl, ?_⟩
  grind [State.setSlotKey_regs, State.canonical_unwrapKey, State.canonical_xqOp]

/-! ### Thistle -/

@[simp] theorem State.setCtx_regs (s : State) (n : Nat) (c : Ctx) : (s.setCtx n c).regs = s.regs := by
  unfold State.setCtx
  grind [State.onData_regs]

theorem State.canonical_zeroExpect (s : State) (n : Nat) (h : Canonical s.regs) : Canonical (s.zeroExpect n).regs :=
    by
  unfold State.zeroExpect
  grind [State.canonical_setReg, State.canonical_foldl]

theorem State.canonical_zeroCtx (s : State) (n : Nat) (st : CtxSt) (h : Canonical s.regs) : Canonical
    (s.zeroCtx n st).regs := by
  unfold State.zeroCtx
  grind [State.setCtx_regs, State.canonical_zeroExpect]

theorem canonical_execThsClaim (s : State) (h : Canonical s.regs) : ∃ u, execThsClaim s = .next u ∧ Canonical u.regs
    := by
  refine ⟨_, rfl, ?_⟩
  grind [State.emit_regs, State.setCtx_regs]

theorem State.canonical_refuseCtx (s : State) (n : Nat) (h : Canonical s.regs) : Canonical (s.refuseCtx n).regs := by
  unfold State.refuseCtx
  grind [State.canonical_latch, State.setCtx_regs]

theorem State.canonical_ctxAct (s : State) (n : Nat) (val : W32) (bit : Nat) (f : State → Option State)
    (hf : ∀ t u, Canonical t.regs → f t = some u → Canonical u.regs) (h : Canonical s.regs) : Canonical
    (s.ctxAct n val bit f).regs := by
  unfold State.ctxAct
  grind [State.canonical_setRf, State.canonical_latch, State.canonical_refuseCtx]

theorem canonical_execThsStart (ctx : Fin 32) (val : W32) (s : State) (h : Canonical s.regs) : ∃ u, execThsStart ctx
    val s = .next u ∧ Canonical u.regs := by
  refine ⟨_, rfl, ?_⟩
  grind [State.setCtx_regs, State.canonical_ctxAct]

theorem canonical_execThsGo (ctx : Fin 32) (val : W32) (s : State) (h : Canonical s.regs) : ∃ u, execThsGo ctx val s =
    .next u ∧ Canonical u.regs := by
  refine ⟨_, rfl, ?_⟩
  grind [State.setCtx_regs, State.canonical_ctxAct]

theorem canonical_execThsReset (ctx : Fin 32) (val : W32) (s : State) (h : Canonical s.regs) : ∃ u, execThsReset ctx
    val s = .next u ∧ Canonical u.regs := by
  refine ⟨_, rfl, ?_⟩
  grind [State.canonical_zeroCtx, State.canonical_ctxAct]

theorem canonical_execThsRelease (ctx : Fin 32) (val : W32) (s : State) (h : Canonical s.regs) : ∃ u, execThsRelease
    ctx val s = .next u ∧ Canonical u.regs := by
  refine ⟨_, rfl, ?_⟩
  grind [State.canonical_zeroCtx, State.canonical_ctxAct]

theorem canonical_execFeedComplete (ctx : Fin 32) (list data : Fetch) (s : State) (h : Canonical s.regs) : ∃ u,
    execFeedComplete ctx list data s = .next u ∧ Canonical u.regs := by
  refine ⟨_, rfl, ?_⟩
  grind [State.edge_regs, State.setCtx_regs]

theorem State.canonical_faultCtx (s : State) (n cause : Nat) (h : Canonical s.regs) : Canonical
    (s.faultCtx n cause).regs := by
  unfold State.faultCtx
  grind [State.canonical_bump, State.edge_regs, State.sklHw_regs, State.canonical_latch, State.setCtx_regs]

theorem State.canonical_foldFault (s : State) (n cause st : Nat) (h : Canonical s.regs) : Canonical
    (s.foldFault n cause st).regs := by
  unfold State.foldFault
  grind [State.canonical_fail, State.markBegun_regs, State.canonical_zeroCtx, State.canonical_faultCtx,
    State.canonical_foldl]

theorem canonical_execFeedFault (ctx : Fin 32) (list data : Fetch) (s : State) (h : Canonical s.regs) : ∃ u,
    execFeedFault ctx list data s = .next u ∧ Canonical u.regs := by
  refine ⟨_, rfl, ?_⟩
  grind [State.canonical_faultCtx, State.canonical_foldFault, State.canonical_foldl]

theorem canonical_execThsCompare (ctx : Fin 32) (val : W32) (agree mgmt : Bool) (s : State) (h : Canonical s.regs) : ∃
    u, execThsCompare ctx val agree mgmt s = .next u ∧ Canonical u.regs := by
  refine ⟨_, rfl, ?_⟩
  grind [State.canonical_bump, State.setCtx_regs, State.canonical_ctxAct, State.canonical_faultCtx,
    State.canonical_foldFault, State.canonical_foldl]

/-! ### Lanes -/

theorem canonical_execSwdChunk (lane : Fin 16) (desc src : Fetch) (cqOk : Bool) (s : State) (h : Canonical s.regs) : ∃
    u, execSwdChunk lane desc src cqOk s = .next u ∧ Canonical u.regs := by
  refine ⟨_, rfl, ?_⟩
  grind [State.canonical_xqOp, State.xqWrite_regs]

theorem canonical_execSwdLookup (lane : Fin 16) (desc src : Fetch) (cqOk : Bool) (s : State) (h : Canonical s.regs) :
    ∃ u, execSwdLookup lane desc src cqOk s = .next u ∧ Canonical u.regs := by
  refine ⟨_, rfl, ?_⟩
  grind [State.canonical_xqOp, State.xqWrite_regs]

theorem canonical_execSwdVerify (lane : Fin 16) (desc src fields : Fetch) (cqOk : Bool) (s : State)
    (h : Canonical s.regs) : ∃ u, execSwdVerify lane desc src fields cqOk s = .next u ∧ Canonical u.regs := by
  refine ⟨_, rfl, ?_⟩
  grind [State.canonical_xqOp]

@[simp] theorem State.grsImageOut_regs (s : State) (k : Nat) (d : Bytes) (h : Option Hist) (orig : Bytes) :
    (s.grsImageOut k d h orig).regs = s.regs := by
  unfold State.grsImageOut
  grind [State.xqWrite_regs]

theorem State.canonical_grsMismatch (s : State) (dt : Nat) (h : Canonical s.regs) : Canonical
    (s.grsMismatch dt).1.regs := by
  unfold State.grsMismatch
  grind [State.canonical_bump]

theorem canonical_execGrsCompress (inst : Fin 16) (desc src hist : Fetch) (cqOk : Bool) (s : State)
    (h : Canonical s.regs) : ∃ u, execGrsCompress inst desc src hist cqOk s = .next u ∧ Canonical u.regs := by
  refine ⟨_, rfl, ?_⟩
  grind [State.canonical_xqRun, State.canonical_countFrame, State.xqWrite_regs, State.grsImageOut_regs,
    State.canonical_grsMismatch]

theorem canonical_execGrsDecompress (inst : Fin 16) (desc src hist : Fetch) (cqOk : Bool) (s : State)
    (h : Canonical s.regs) : ∃ u, execGrsDecompress inst desc src hist cqOk s = .next u ∧ Canonical u.regs := by
  refine ⟨_, rfl, ?_⟩
  grind [State.canonical_xqRun, State.xqWrite_regs, State.grsImageOut_regs, State.canonical_grsMismatch]

/-! ### Groups -/

theorem State.canonical_onGroup (s : State) (e : Entry) (f : State → Nat → Group → State)
    (hf : ∀ (t : State) a b, Canonical t.regs → Canonical (f t a b).regs) (h : Canonical s.regs) : Canonical
    (s.onGroup e f).regs := by
  unfold State.onGroup
  grind [State.canonical_fail]

@[simp] theorem State.adopt_regs (s : State) (i parent slot depth labelMib : Nat) :
    (s.adopt i parent slot depth labelMib).regs = s.regs := by
  unfold State.adopt
  grind [State.onData_regs, State.setNode_regs, State.foldl_regs]

theorem State.takeMembers_regs (s : State) (gi depth labelMib : Nat) (ms : List Member) (ns : List Nat) (slot : Nat) :
    (s.takeMembers gi depth labelMib ms ns slot).1.regs = s.regs := by
  induction ms generalizing s ns slot with
  | nil => rfl
  | cons m ms ih =>
    unfold State.takeMembers
    grind [State.setNode_regs, State.adopt_regs]

theorem State.buildGroup_regs (s : State) (c : Create) : (s.buildGroup c).1.regs = s.regs := by
  unfold State.buildGroup
  grind [State.setNode_regs, State.foldl_regs, State.takeMembers_regs, State.setTree_regs, State.restate_regs, State.onData_regs]

theorem canonical_execGroupCreate (eid : Nat) (lab : List Bool) (s : State) (h : Canonical s.regs) : ∃ u,
    execGroupCreate eid lab s = .next u ∧ Canonical u.regs := by
  refine ⟨_, rfl, ?_⟩
  grind [State.canonical_fail, State.canonical_cmd, State.canonical_note, State.canonical_writeLabels,
    State.buildGroup_regs]

theorem canonical_execGroupDestroy (eid : Nat) (s : State) (h : Canonical s.regs) : ∃ u, execGroupDestroy eid s =
    .next u ∧ Canonical u.regs := by
  refine ⟨_, rfl, ?_⟩
  grind [State.canonical_fail, State.canonical_okReply, State.canonical_cmd, State.canonical_note,
    State.clearLabels_regs, State.dropTree_regs, State.canonical_onGroup]

theorem canonical_execGroupQuery (eid : Nat) (s : State) (h : Canonical s.regs) : ∃ u, execGroupQuery eid s = .next u
    ∧ Canonical u.regs := by
  refine ⟨_, rfl, ?_⟩
  grind [State.canonical_okReply, State.canonical_cmd, State.canonical_onGroup]

@[simp] theorem State.dsm_regs (s : State) (l : Leaf) (attr lba n : Nat) : (s.dsm l attr lba n).regs = s.regs := by
  unfold State.dsm
  grind [State.emit_regs]

theorem canonical_execMemberAttach (eid : Nat) (lab : Bool) (s : State) (h : Canonical s.regs) : ∃ u, execMemberAttach
    eid lab s = .next u ∧ Canonical u.regs := by
  refine ⟨_, rfl, ?_⟩
  grind [State.canonical_fail, State.canonical_cmd, State.setNode_regs, State.canonical_note,
    State.canonical_writeLabels, State.canonical_onGroup, State.dsm_regs]

@[simp] theorem State.onMove_regs (s : State) (eid : Nat) (f : DomMove → DomMove) : (s.onMove eid f).regs = s.regs :=
    by
  unfold State.onMove
  grind [State.onData_regs]

theorem canonical_execDomainMove (eid : Nat) (s : State) (h : Canonical s.regs) : ∃ u, execDomainMove eid s = .next u
    ∧ Canonical u.regs := by
  refine ⟨_, rfl, ?_⟩
  grind [State.onData_regs, State.canonical_fail, State.canonical_pendReply, State.canonical_cmd]

theorem canonical_execDomainMoveDrained (eid : Nat) (s : State) (h : Canonical s.regs) : ∃ u, execDomainMoveDrained
    eid s = .next u ∧ Canonical u.regs := by
  refine ⟨_, rfl, ?_⟩
  grind [State.onMove_regs]

theorem canonical_execDomainMoveSealed (eid : Nat) (s : State) (h : Canonical s.regs) : ∃ u, execDomainMoveSealed eid
    s = .next u ∧ Canonical u.regs := by
  refine ⟨_, rfl, ?_⟩
  grind [State.onMove_regs]

theorem State.canonical_moveEntry (s : State) (m : DomMove) (x : (Nat × Nat) × IdxEntry) (h : Canonical s.regs) :
    Canonical (s.moveEntry m x).regs := by
  unfold State.moveEntry
  grind [State.canonical_note, State.setSlot_regs, State.insertIdx_regs]

theorem canonical_execDomainMoveScanDone (eid : Nat) (s : State) (h : Canonical s.regs) : ∃ u, execDomainMoveScanDone
    eid s = .next u ∧ Canonical u.regs := by
  refine ⟨_, rfl, ?_⟩
  grind [State.onData_regs, State.setNode_regs, State.canonical_note, State.canonical_writeLabels, State.onMove_regs,
    State.canonical_moveEntry, State.canonical_foldl]

theorem canonical_execDomainMoveLabelsDone (eid : Nat) (s : State) (h : Canonical s.regs) : ∃ u,
    execDomainMoveLabelsDone eid s = .next u ∧ Canonical u.regs := by
  refine ⟨_, rfl, ?_⟩
  grind [State.onData_regs, State.canonical_finalOf]

/-! ### Copies -/

@[simp] theorem State.writeLost_regs (s : State) (root : Nat) : (s.writeLost root).regs = s.regs := by
  unfold State.writeLost
  grind [State.driveWrites_regs, State.foldl_regs]

theorem canonical_execJournalRecordComplete (dom : Fin 8) (jseq : Nat) (s : State) (h : Canonical s.regs) : ∃ u,
    execJournalRecordComplete dom jseq s = .next u ∧ Canonical u.regs := by
  refine ⟨_, rfl, ?_⟩
  grind [State.onRec_regs, State.canonical_issueWaiting, State.canonical_applyDeletes, State.writeLost_regs,
    State.canonical_foldl]

theorem canonical_execJournalRelease (dom : Fin 8) (jseq : Nat) (s : State) (h : Canonical s.regs) : ∃ u,
    execJournalRelease dom jseq s = .next u ∧ Canonical u.regs := by
  refine ⟨_, rfl, ?_⟩
  grind [State.setJournal_regs, State.canonical_issueWaiting, State.dropRec_regs, State.writeHeader_regs]

theorem State.canonical_failRec (s : State) (d : Nat) (r : JRec) (st dt : Nat) (h : Canonical s.regs) : Canonical
    (s.failRec d r st dt).regs := by
  unfold State.failRec
  grind [State.canonical_finalOf, State.dropRec_regs, State.canonical_endPut]

theorem canonical_execJournalSpaceTimeout (dom : Fin 8) (jseq : Nat) (s : State) (h : Canonical s.regs) : ∃ u,
    execJournalSpaceTimeout dom jseq s = .next u ∧ Canonical u.regs := by
  refine ⟨_, rfl, ?_⟩
  grind [State.canonical_failRec]

@[simp] theorem State.copyEvent_regs (s : State) (d : Nat) (b : Bool) (leaf : Nat) : (s.copyEvent d b leaf).regs =
    s.regs := by
  unfold State.copyEvent
  grind [State.event_regs, State.sklHw_regs]

theorem canonical_execJournalCopyLost (dom : Fin 8) (b : Bool) (s : State) (h : Canonical s.regs) : ∃ u,
    execJournalCopyLost dom b s = .next u ∧ Canonical u.regs := by
  refine ⟨_, rfl, ?_⟩
  grind [State.onCopy_regs, State.copyEvent_regs]

theorem State.canonical_placeCopy (s : State) (d which leaf : Nat) (h : Canonical s.regs) :
    Canonical (s.placeCopy d which leaf).regs := by
  unfold State.placeCopy
  have hn : ∀ (f : JCopy → JCopy) items, Canonical ((s.onCopy d which f).note d .place items).regs := fun f items =>
    State.canonical_note _ _ _ _ (by rw [State.onCopy_regs]; exact h)
  have hd : ∀ (u : State) why ws f g (l : List JRec) (h : State → JRec → State), (∀ s r, (h s r).regs = s.regs) → Canonical u.regs →
      Canonical ((((l.foldl h (u.onCopy d which f)).driveWrites d why ws).1).onCopy d which g).regs := by
    intro u why ws f g l h hh hu
    rw [State.onCopy_regs, State.driveWrites_regs, State.foldl_regs hh, State.onCopy_regs]
    exact hu
  dsimp only
  split
  · rw [State.dsm_regs]
    exact hd _ _ _ _ _ _ _ (fun s r => State.copyFill_regs _ _ _ _ _) (hn _ _)
  · exact hd _ _ _ _ _ _ _ (fun s r => State.copyFill_regs _ _ _ _ _) (hn _ _)

@[simp] theorem State.checkFd_regs (s : State) (d : Nat) : (s.checkFd d).regs = s.regs := by
  unfold State.checkFd
  grind [State.setJournal_regs, State.copyEvent_regs]

theorem canonical_execJournalCopyPlace (dom : Fin 8) (s : State) (h : Canonical s.regs) : ∃ u, execJournalCopyPlace
    dom s = .next u ∧ Canonical u.regs := by
  refine ⟨_, rfl, ?_⟩
  grind [State.setJournal_regs, State.canonical_placeCopy, State.checkFd_regs]

theorem canonical_execJournalCopyValid (dom : Fin 8) (b : Bool) (s : State) (h : Canonical s.regs) : ∃ u,
    execJournalCopyValid dom b s = .next u ∧ Canonical u.regs := by
  refine ⟨_, rfl, ?_⟩
  grind [State.setJournal_regs, State.canonical_issueWaiting]

theorem canonical_execJournalCopyTimeout (dom : Fin 8) (s : State) (h : Canonical s.regs) : ∃ u,
    execJournalCopyTimeout dom s = .next u ∧ Canonical u.regs := by
  refine ⟨_, rfl, ?_⟩
  grind [State.canonical_failRec, State.canonical_foldl]

theorem canonical_execSamefdReplace (dom : Fin 8) (s : State) (h : Canonical s.regs) : ∃ u, execSamefdReplace dom s =
    .next u ∧ Canonical u.regs := by
  refine ⟨_, rfl, ?_⟩
  grind [State.canonical_placeCopy]

/-! ### Load -/

@[simp] theorem State.dropOld_regs (s : State) (root : Nat) : (s.dropOld root).regs = s.regs := by
  unfold State.dropOld
  grind [State.setNode_regs, State.restate_regs, State.foldl_regs]

@[simp] theorem State.loadLabel_regs (s : State) (l : Label) : (s.loadLabel l).regs = s.regs := by
  unfold State.loadLabel
  grind [State.onData_regs, State.setTree_regs, State.dropTree_regs, State.dropOld_regs, State.foldl_regs]

/-! ### Expert -/

theorem State.canonical_tagFailed (s : State) (i : Nat) (l : Leaf) (addr : Bool) (h : Canonical s.regs) : Canonical
    (s.tagFailed i l addr).regs := by
  unfold State.tagFailed
  grind [State.canonical_bump, State.sklHw_regs, State.setNode_regs]

@[simp] theorem State.repairBlk_regs (s : State) (i : Nat) (l : Leaf) (off : Nat) (blk : Bytes) :
    (s.repairBlk i l off blk).regs = s.regs := by
  unfold State.repairBlk
  grind [State.driveWrites_regs]

theorem State.canonical_ncrcFail (s : State) (d eid : Nat) (h : Canonical s.regs) : Canonical (s.ncrcFail d eid).regs
    := by
  unfold State.ncrcFail
  grind [State.sklHw_regs, State.canonical_latch, State.canonical_finalOf]

theorem canonical_execMemberReadComplete (nsn lba : Nat) (readOk : Bool) (data tags : Bytes) (recon : Option Bytes)
    (eid : Nat) (nodeOk : Bool) (s : State) (h : Canonical s.regs) :
    ∃ u, execMemberReadComplete nsn lba readOk data tags recon eid nodeOk s = .next u ∧ Canonical u.regs := by
  refine ⟨_, rfl, ?_⟩
  split
  · exact h
  · dsimp only
    split
    · exact State.canonical_ncrcFail _ _ _ h
    · refine State.canonical_foldl (fun s k h => ?_) _ _ h
      split
      · exact h
      · split
        · exact h
        · exact State.canonical_finalOf _ _ _ _ _ h
        · split
          · rw [State.repairBlk_regs]; exact State.canonical_tagFailed _ _ _ _ h
          · exact State.canonical_finalOf _ _ _ _ _ (State.canonical_tagFailed _ _ _ _ h)

@[simp] theorem State.tskStore_regs (s : State) (k : Nat) (list : Bytes) (us : List (Nat × Bytes)) :
    (s.tskStore k list us).regs = s.regs := by
  unfold State.tskStore
  grind [State.xqWrite_regs, State.foldl_regs]

theorem canonical_execTskEncode (inst : Fin 8) (desc : Fetch) (srcs : List Fetch) (cqOk : Bool) (s : State)
    (h : Canonical s.regs) : ∃ u, execTskEncode inst desc srcs cqOk s = .next u ∧ Canonical u.regs := by
  refine ⟨_, rfl, ?_⟩
  grind [State.canonical_xqOp, State.tskStore_regs]

theorem canonical_execTskDecode (inst : Fin 8) (desc : Fetch) (srcs : List Fetch) (cqOk : Bool) (s : State)
    (h : Canonical s.regs) : ∃ u, execTskDecode inst desc srcs cqOk s = .next u ∧ Canonical u.regs := by
  refine ⟨_, rfl, ?_⟩
  grind [State.canonical_xqOp, State.tskStore_regs]

theorem canonical_execTskWalk (inst : Fin 8) (desc : Fetch) (_srcs : List Fetch) (cqOk : Bool) (s : State)
    (h : Canonical s.regs) : ∃ u, execTskWalk inst desc _srcs cqOk s = .next u ∧ Canonical u.regs := by
  refine ⟨_, rfl, ?_⟩
  grind [State.canonical_xqOp, State.xqWrite_regs]

theorem canonical_execTskRead (inst : Fin 8) (desc : Fetch) (srcs : List Fetch) (cqOk : Bool) (s : State)
    (h : Canonical s.regs) : ∃ u, execTskRead inst desc srcs cqOk s = .next u ∧ Canonical u.regs := by
  refine ⟨_, rfl, ?_⟩
  grind [State.canonical_xqOp, State.xqWrite_regs]

/-! ### Rebuild -/

@[simp] theorem State.takeSpare_regs (s : State) (gi old new : Nat) : (s.takeSpare gi old new).1.regs = s.regs := by
  unfold State.takeSpare
  grind [State.onData_regs, State.setNode_regs, State.restate_regs]

theorem canonical_execAutoSpareReplace (leaf : Nat) (s : State) (h : Canonical s.regs) : ∃ u, execAutoSpareReplace
    leaf s = .next u ∧ Canonical u.regs := by
  refine ⟨_, rfl, ?_⟩
  grind [State.event_regs, State.canonical_treeChange, State.takeSpare_regs]

theorem canonical_execMemberReplace (eid : Nat) (s : State) (h : Canonical s.regs) : ∃ u, execMemberReplace eid s =
    .next u ∧ Canonical u.regs := by
  refine ⟨_, rfl, ?_⟩
  grind [State.canonical_fail, State.canonical_cmd, State.canonical_note, State.canonical_writeLabels,
    State.canonical_leafFail, State.canonical_onGroup, State.takeSpare_regs]

theorem State.canonical_rebuildRec (s : State) (gi : Nat) (h : Canonical s.regs) : Canonical (s.rebuildRec gi).regs :=
    by
  unfold State.rebuildRec
  grind [State.canonical_note, State.canonical_writeLabels]

theorem State.canonical_stopPass (s : State) (gi : Nat) (h : Canonical s.regs) : Canonical (s.stopPass gi).regs := by
  unfold State.stopPass
  grind [State.onData_regs, State.canonical_rebuildRec]

theorem canonical_execMemberRebuild (eid : Nat) (s : State) (h : Canonical s.regs) : ∃ u, execMemberRebuild eid s =
    .next u ∧ Canonical u.regs := by
  refine ⟨_, rfl, ?_⟩
  grind [State.onData_regs, State.canonical_fail, State.canonical_okReply, State.canonical_cmd, State.setNode_regs,
    State.canonical_onGroup, State.canonical_rebuildRec, State.canonical_foldl]

theorem State.canonical_noteLost (s : State) (root : Nat) (e : LostEntry) (h : Canonical s.regs) : Canonical
    (s.noteLost root e).regs := by
  unfold State.noteLost
  grind [State.canonical_bump, State.sklHw_regs, State.setTree_regs, State.canonical_note, State.canonical_foldl]

theorem State.canonical_writeLostStripe (s : State) (root gi stripe cause : Nat) (blks : List (Option Bytes))
    (h : Canonical s.regs) : Canonical (s.writeLostStripe root gi stripe cause blks).regs := by
  unfold State.writeLostStripe
  grind [State.driveWrites_regs, State.canonical_noteLost]

@[simp] theorem State.passOn_regs (s : State) (ls : List (Nat × Leaf)) (stripe : Nat) (lost : Bool) :
    (s.passOn ls stripe lost).regs = s.regs := by
  unfold State.passOn
  grind [State.setNode_regs, State.foldl_regs]

theorem State.canonical_passNext (s : State) (gi : Nat) (ls : List (Nat × Leaf)) (stripe : Nat) (h : Canonical s.regs)
    : Canonical (s.passNext gi ls stripe).regs := by
  unfold State.passNext
  grind [State.onData_regs, State.canonical_leavesTo, State.canonical_rebuildRec]

theorem State.canonical_rebuildAt (s : State) (gi : Nat) (g : Group) (stripe : Nat) (units : List (List Fetch))
    (up : Option (List Bytes)) (above : List Fetch) (h : Canonical s.regs) : Canonical
    (s.rebuildAt gi g stripe units up above).regs := by
  unfold State.rebuildAt
  grind [State.driveWrites_regs, State.canonical_writeLostStripe, State.passOn_regs, State.canonical_passNext]

theorem canonical_execRebuildStep (group : Nat) (units : List (List Fetch)) (up : Option (List Bytes))
    (above : List Fetch) (s : State) (h : Canonical s.regs) : ∃ u, execRebuildStep group units up above s = .next u ∧
    Canonical u.regs := by
  refine ⟨_, rfl, ?_⟩
  grind [State.onData_regs, State.canonical_rebuildAt, State.canonical_foldl]

theorem canonical_execLostListRead (eid : Nat) (destOk : Bool) (s : State) (h : Canonical s.regs) : ∃ u,
    execLostListRead eid destOk s = .next u ∧ Canonical u.regs := by
  refine ⟨_, rfl, ?_⟩
  grind [State.canonical_fail, State.canonical_failSilent, State.canonical_okReply, State.canonical_cmd,
    State.deliverTo_regs, State.canonical_onGroup]

/-! ### Flash -/

@[simp] theorem State.dropCmd_regs (s : State) (cid : Nat) : (s.dropCmd cid).regs = s.regs := by
  unfold State.dropCmd
  grind [State.onFpt_regs]

theorem State.canonical_writeEnd (s : State) (c : NvCmd) (ok : Bool) (h : Canonical s.regs) : Canonical
    (s.writeEnd c ok).regs := by
  unfold State.writeEnd
  grind [State.onData_regs, State.setJournal_regs, State.ackCopy_regs, State.canonical_stepLabel,
    State.stripeDone_regs, State.dropCmd_regs]

theorem State.canonical_fptErr (s : State) (port cause arg : Nat) (h : Canonical s.regs) : Canonical
    (s.fptErr port cause arg).regs := by
  unfold State.fptErr
  grind [State.sklFold_regs, State.canonical_latch]

theorem State.canonical_loseWrite (s : State) (c : NvCmd) (cause : Nat) (h : Canonical s.regs) : Canonical
    (s.loseWrite c cause).regs := by
  unfold State.loseWrite
  grind [State.canonical_leafFail, State.canonical_writeEnd, State.canonical_fptErr]

@[simp] theorem State.onCmd_regs (s : State) (cid : Nat) (f : NvCmd → NvCmd) : (s.onCmd cid f).regs = s.regs := by
  unfold State.onCmd
  grind [State.onFpt_regs]

theorem State.canonical_writeFailed (s : State) (c : NvCmd) (h : Canonical s.regs) : Canonical (s.writeFailed c).regs
    := by
  unfold State.writeFailed
  grind [State.canonical_bump, State.emit_regs, State.canonical_loseWrite, State.onCmd_regs]

theorem canonical_execNvmeCompletion (cid status : Nat) (s : State) (h : Canonical s.regs) : ∃ u, execNvmeCompletion
    cid status s = .next u ∧ Canonical u.regs := by
  refine ⟨_, rfl, ?_⟩
  grind [State.setPort_regs, State.canonical_writeEnd, State.canonical_loseWrite, State.canonical_writeFailed]

theorem canonical_execNvmeCommandTimeout (cid : Nat) (s : State) (h : Canonical s.regs) : ∃ u, execNvmeCommandTimeout
    cid s = .next u ∧ Canonical u.regs := by
  refine ⟨_, rfl, ?_⟩
  grind [State.canonical_bump, State.emit_regs, State.canonical_fptErr, State.onCmd_regs]

theorem canonical_execAbortTimeout (cid : Nat) (s : State) (h : Canonical s.regs) : ∃ u, execAbortTimeout cid s =
    .next u ∧ Canonical u.regs := by
  refine ⟨_, rfl, ?_⟩
  grind [State.emit_regs, State.setPort_regs, State.canonical_writeFailed, State.canonical_foldl]

theorem State.canonical_markMissing (s : State) (nss : List Nat) (h : Canonical s.regs) : Canonical
    (s.markMissing nss).regs := by
  unfold State.markMissing
  grind [State.canonical_leavesTo, State.canonical_foldl]

theorem State.canonical_markBack (s : State) (nss : List Nat) (h : Canonical s.regs) : Canonical (s.markBack nss).regs
    := by
  unfold State.markBack
  grind [State.onData_regs, State.canonical_leavesTo, State.canonical_foldl]

@[simp] theorem State.setPresent_regs (s : State) (nss : List Nat) (b : Bool) : (s.setPresent nss b).regs = s.regs :=
    by
  unfold State.setPresent
  grind [State.onFpt_regs]

theorem canonical_execControllerReadyTimeout (port : Fin 16) (s : State) (h : Canonical s.regs) : ∃ u,
    execControllerReadyTimeout port s = .next u ∧ Canonical u.regs := by
  refine ⟨_, rfl, ?_⟩
  grind [State.setPort_regs, State.canonical_writeEnd, State.canonical_markMissing, State.setPresent_regs,
    State.canonical_foldl]

theorem State.canonical_portEvt (s : State) (p bit : Nat) (h : Canonical s.regs) : Canonical (s.portEvt p bit).regs :=
    by
  unfold State.portEvt
  grind [State.canonical_setRbit, State.raise_regs]

theorem State.canonical_contain (s : State) (p : Nat) (gone : Bool) (h : Canonical s.regs) : Canonical
    (s.contain p gone).regs := by
  unfold State.contain
  grind [State.setPort_regs, State.canonical_writeEnd, State.setPresent_regs, State.canonical_foldl]

theorem canonical_execDpcTrigger (port : Fin 16) (gone : Bool) (s : State) (h : Canonical s.regs) : ∃ u,
    execDpcTrigger port gone s = .next u ∧ Canonical u.regs := by
  refine ⟨_, rfl, ?_⟩
  grind [State.canonical_portEvt, State.canonical_contain]

theorem canonical_execPortError (port : Fin 16) (cause : Nat) (s : State) (h : Canonical s.regs) : ∃ u, execPortError
    port cause s = .next u ∧ Canonical u.regs := by
  refine ⟨_, rfl, ?_⟩
  grind [State.canonical_portEvt, State.canonical_contain]

theorem canonical_execMissingMark (port : Fin 16) (s : State) (h : Canonical s.regs) : ∃ u, execMissingMark port s =
    .next u ∧ Canonical u.regs := by
  refine ⟨_, rfl, ?_⟩
  grind [State.setPort_regs, State.canonical_markMissing]

theorem canonical_execDpcRelease (port : Fin 16) (s : State) (h : Canonical s.regs) : ∃ u, execDpcRelease port s =
    .next u ∧ Canonical u.regs := by
  refine ⟨_, rfl, ?_⟩
  grind [State.setPort_regs]

theorem State.canonical_bindNs (s : State) (port : Nat) (nguid : Bytes) (h : Canonical s.regs) : Canonical
    (s.bindNs port nguid).regs := by
  unfold State.bindNs
  grind [State.emit_regs, State.onFpt_regs, State.canonical_peerMsg, State.canonical_fptErr]

theorem State.canonical_foundNs (s : State) (port : Nat) (x : Inserted) (h : Canonical s.regs) : Canonical
    (s.foundNs port x).regs := by
  unfold State.foundNs
  grind [State.onFpt_regs, State.canonical_bindNs]

theorem canonical_execInsertionSettled (port : Fin 16) (nss : List Inserted) (speed width : Nat) (flit : Bool)
    (s : State) (h : Canonical s.regs) : ∃ u, execInsertionSettled port nss speed width flit s = .next u ∧ Canonical
    u.regs := by
  refine ⟨_, rfl, ?_⟩
  grind [State.emits_regs, State.setPort_regs, State.loadLabel_regs, State.canonical_markBack,
    State.canonical_portEvt, State.canonical_foundNs, State.canonical_foldl]

theorem canonical_execAnaChange (nsn : Nat) (state : Nat) (s : State) (h : Canonical s.regs) : ∃ u, execAnaChange nsn
    state s = .next u ∧ Canonical u.regs := by
  refine ⟨_, rfl, ?_⟩
  grind [State.onFpt_regs, State.canonical_markMissing, State.canonical_markBack]

theorem canonical_execNsUnbind (nsn : Nat) (s : State) (h : Canonical s.regs) : ∃ u, execNsUnbind nsn s = .next u ∧
    Canonical u.regs := by
  refine ⟨_, rfl, ?_⟩
  grind [State.emit_regs, State.onFpt_regs]

/-! ### Ddr -/

@[simp] theorem State.placeRegions_regs (s : State) : (s.placeRegions).regs = s.regs := by
  unfold State.placeRegions
  grind [State.onMem_regs]

theorem State.canonical_memLatch (s : State) (port cause addr : Nat) (h : Canonical s.regs) : Canonical
    (s.memLatch port cause addr).regs := by
  unfold State.memLatch
  grind [State.canonical_setReg, State.canonical_setRf, State.canonical_latch]

theorem State.canonical_countUe (s : State) (port : Nat) (h : Canonical s.regs) : Canonical (s.countUe port).regs :=
    by
  unfold State.countUe
  grind [State.canonical_bump]

@[simp] theorem State.poisonWord_regs (s : State) (word : Nat) : (s.poisonWord word).regs = s.regs := by
  unfold State.poisonWord
  grind [State.onMem_regs]

theorem State.canonical_ueRead (s : State) (port addr : Nat) (poison : Bool) (h : Canonical s.regs) : Canonical
    (s.ueRead port addr poison).regs := by
  unfold State.ueRead
  grind [State.tally_regs, State.sklHw_regs, State.canonical_memLatch, State.canonical_countUe]

theorem State.canonical_drainMerge (s : State) (m : Merge) (bad : Bool) (h : Canonical s.regs) : Canonical
    (s.drainMerge m bad).regs := by
  unfold State.drainMerge
  grind [State.onMem_regs, State.sklHw_regs, State.canonical_memLatch, State.poisonWord_regs]

theorem State.canonical_wordWrite (s : State) (word mask : Nat) (h : Canonical s.regs) : Canonical
    (s.wordWrite word mask).regs := by
  unfold State.wordWrite
  grind [State.onMem_regs, State.canonical_drainMerge]

theorem State.canonical_ddrWrite (s : State) (addr n : Nat) (h : Canonical s.regs) : Canonical
    (s.ddrWrite addr n).regs := by
  unfold State.ddrWrite
  grind [State.onMem_regs, State.canonical_wordWrite]

theorem canonical_execMergeDrain (port : Fin 17) (word : Nat) (old : Fetch) (s : State) (h : Canonical s.regs) : ∃ u,
    execMergeDrain port word old s = .next u ∧ Canonical u.regs := by
  refine ⟨_, rfl, ?_⟩
  grind [State.canonical_drainMerge]

/-! ### Drover -/

@[simp] theorem State.onConn_regs (s : State) (c : Nat) (f : Conn → Conn) : (s.onConn c f).regs = s.regs := by
  unfold State.onConn
  grind [State.setConn_regs]

@[simp] theorem State.shipFailed_regs (s : State) (link : Nat) (x : Ship) : (s.shipFailed link x).regs = s.regs := by
  unfold State.shipFailed
  grind [State.onDrv_regs, State.event_regs, State.sklFold_regs]

@[simp] theorem State.failOffers_regs (s : State) (c : Nat) : (s.failOffers c).regs = s.regs := by
  unfold State.failOffers
  grind [State.onDrv_regs, State.shipFailed_regs, State.foldl_regs]

theorem State.canonical_failWindows (s : State) (c st dt : Nat) (h : Canonical s.regs) : Canonical
    (s.failWindows c st dt).regs := by
  unfold State.failWindows
  grind [State.canonical_endPut, State.failOffers_regs, State.canonical_foldl]

@[simp] theorem State.freeSpace_regs (s : State) (i : Nat) : (s.freeSpace i).regs = s.regs := by
  unfold State.freeSpace
  grind [State.onDrv_regs]

theorem State.canonical_dropSpaces (s : State) (p : Space → Bool) (h : Canonical s.regs) : Canonical
    (s.dropSpaces p).regs := by
  unfold State.dropSpaces
  grind [State.canonical_finalOf, State.canonical_endPut, State.freeSpace_regs, State.canonical_foldl]

theorem State.canonical_finishConn (s : State) (c : Nat) (h : Canonical s.regs) : Canonical (s.finishConn c).regs :=
    by
  unfold State.finishConn
  grind [State.onDrv_regs, State.canonical_finalOf, State.setConn_regs, State.send_regs, State.canonical_opsEnd,
    State.emptySlots_regs, State.canonical_failWindows, State.canonical_dropSpaces]

theorem State.canonical_connError (s : State) (c st dt cause : Nat) (h : Canonical s.regs) : Canonical
    (s.connError c st dt cause).regs := by
  unfold State.connError
  grind [State.canonical_latch, State.setConn_regs, State.canonical_opsEnd, State.canonical_failWindows,
    State.canonical_finishConn]

theorem State.canonical_connClosed (s : State) (c : Nat) (h : Canonical s.regs) : Canonical (s.connClosed c).regs :=
    by
  unfold State.connClosed
  grind [State.setConn_regs, State.canonical_opsEnd, State.canonical_finishConn]

@[simp] theorem State.bindXq_regs (s : State) (e : Entry) : (s.bindXq e).regs = s.regs := by
  unfold State.bindXq
  grind [State.setXq_regs]

theorem canonical_execConnOpen (eid : Nat) (s : State) (h : Canonical s.regs) : ∃ u, execConnOpen eid s = .next u ∧
    Canonical u.regs := by
  refine ⟨_, rfl, ?_⟩
  grind [State.canonical_fail, State.canonical_okReply, State.canonical_cmd, State.setConn_regs, State.send_regs,
    State.canonical_useConn, State.setSlotKey_regs, State.canonical_takeKey, State.bindXq_regs]

theorem canonical_execConnClose (eid : Nat) (s : State) (h : Canonical s.regs) : ∃ u, execConnClose eid s = .next u ∧
    Canonical u.regs := by
  refine ⟨_, rfl, ?_⟩
  grind [State.canonical_fail, State.canonical_cmd, State.setConn_regs, State.canonical_opsEnd,
    State.canonical_finishConn]

theorem canonical_execConnQuery (eid : Nat) (s : State) (h : Canonical s.regs) : ∃ u, execConnQuery eid s = .next u ∧
    Canonical u.regs := by
  refine ⟨_, rfl, ?_⟩
  grind [State.canonical_fail, State.canonical_okReply, State.canonical_cmd]

theorem canonical_execSpaceCreate (eid : Nat) (s : State) (h : Canonical s.regs) : ∃ u, execSpaceCreate eid s = .next
    u ∧ Canonical u.regs := by
  refine ⟨_, rfl, ?_⟩
  grind [State.nextDraw_regs, State.onDrv_regs, State.canonical_fail, State.canonical_okReply, State.canonical_cmd]

theorem canonical_execSpaceRevoke (eid : Nat) (s : State) (h : Canonical s.regs) : ∃ u, execSpaceRevoke eid s = .next
    u ∧ Canonical u.regs := by
  refine ⟨_, rfl, ?_⟩
  grind [State.onDrv_regs, State.canonical_fail, State.canonical_cmd]

theorem canonical_execRevokeComplete (eid : Nat) (s : State) (h : Canonical s.regs) : ∃ u, execRevokeComplete eid s =
    .next u ∧ Canonical u.regs := by
  refine ⟨_, rfl, ?_⟩
  grind [State.canonical_finalOf, State.canonical_endPut, State.freeSpace_regs]

theorem State.canonical_rx (s : State) (frame : Bytes) (op : Nat) (f : State → Nat → Pkt → State)
    (hf : ∀ (t : State) a b, Canonical t.regs → Canonical (f t a b).regs) (h : Canonical s.regs) : Canonical
    (s.rx frame op f).regs := by
  unfold State.rx
  grind [State.canonical_bump, State.tally_regs]

/-- What is done with a judged packet keeps the bank's form. -/
def Verdict_.Keeps (v : Verdict_) : Prop := ∀ s : State, Canonical s.regs → Canonical (v.2 s).regs

theorem Verdict_.keeps_ite {c : Prop} [Decidable c] {v w : Verdict_} (hv : v.Keeps) (hw : w.Keeps) :
    Verdict_.Keeps (if c then v else w) := by
  split
  · exact hv
  · exact hw

theorem Verdict_.keeps_id (n : Option Nat) : Verdict_.Keeps (n, id) := fun _ h => h

theorem State.keeps_windowWrite (s : State) (x : Space) (p : Pkt) (cmp : List Fetch) : (s.windowWrite x p cmp).Keeps := by
  unfold State.windowWrite
  split
  · exact Verdict_.keeps_id _
  · refine Verdict_.keeps_ite (Verdict_.keeps_id _) (Verdict_.keeps_ite ?_ (Verdict_.keeps_ite ?_
      (Verdict_.keeps_ite (Verdict_.keeps_id _) ?_)))
    · exact fun t h => State.canonical_endPut t _ _ _ h
    · exact fun t h => State.canonical_endPut t _ _ _ h
    · intro t h
      grind [State.canonical_endPut, State.tally_regs, State.setPut_regs, State.canonical_runPass]

theorem State.keeps_mirrorWrite (s : State) (p : Pkt) : (s.mirrorWrite p).Keeps := by
  unfold State.mirrorWrite
  refine Verdict_.keeps_ite (Verdict_.keeps_id _) (Verdict_.keeps_ite ?_ ?_)
  · intro t h
    rw [State.sklHw_regs]
    exact h
  · intro t h
    exact State.canonical_ddrWrite _ _ _ (by rw [State.setJournal_regs]; exact h)

theorem State.keeps_takeWrite (s : State) (c stamp : Nat) (p : Pkt) (cmp : List Fetch) : (s.takeWrite c stamp p cmp).Keeps := by
  unfold State.takeWrite
  split
  · exact State.keeps_mirrorWrite s p
  · split
    · exact fun _ h => h
    · split
      · exact State.keeps_windowWrite _ _ _ _
      · unfold Verdict_.Keeps
        grind [State.emit_regs]

theorem State.keeps_takeRead (s : State) (c stamp : Nat) (p : Pkt) (mem : Fetch) : (s.takeRead c stamp p mem).Keeps := by
  unfold State.takeRead 
  split
  · exact Verdict_.keeps_id _
  · exact fun t h => State.canonical_submit t _ _ _ _ _ _ h

theorem State.canonical_takeResp (s : State) (c : Nat) (p : Pkt) (h : Canonical s.regs) : Canonical
    (s.takeResp c p).regs := by
  unfold State.takeResp
  grind [State.emit_regs, State.setConn_regs, State.canonical_opEnd]

theorem State.keeps_takeSend (s : State) (c : Nat) (p : Pkt) : (s.takeSend c p).Keeps := by
  unfold State.takeSend 
  split
  · exact Verdict_.keeps_id _
  · refine Verdict_.keeps_ite (Verdict_.keeps_id _) fun t h => ?_
    rw [State.onConn_regs]
    exact h

theorem State.canonical_establish (s : State) (c : Nat) (h : Canonical s.regs) : Canonical (s.establish c).regs := by
  unfold State.establish
  grind [State.onDrv_regs, State.flush_regs, State.canonical_mirror, State.onConn_regs, State.canonical_foldl]

theorem State.keeps_takePkt (s : State) (c stamp : Nat) (p : Pkt) (mem : Fetch) (cmp : List Fetch) :
    (s.takePkt c stamp p mem cmp).Keeps := by
  unfold State.takePkt
  split
  · exact State.keeps_takeWrite _ _ _ _ _
  · split
    · exact State.keeps_takeRead _ _ _ _ _
    · split
      · exact fun s h => State.canonical_takeResp s _ _ h
      · split
        · exact State.keeps_takeSend _ _ _
        · split
          · exact fun s h => State.canonical_establish s _ h
          · exact fun s h => State.canonical_connClosed s _ h

@[simp] theorem State.ackDue_regs (s : State) (c : Nat) (p : Pkt) : (s.ackDue c p).regs = s.regs := by
  unfold State.ackDue
  grind [State.setConn_regs, State.sendAck_regs]

theorem State.canonical_sequenced (s : State) (c stamp : Nat) (p : Pkt) (mem : Fetch) (cmp : List Fetch)
    (h : Canonical s.regs) : Canonical (s.sequenced c stamp p mem cmp).regs := by
  have hsend : ∀ (s : State) psn n, Canonical s.regs → Canonical (s.sendNak c psn n).regs := fun s psn n h =>
    State.canonical_sendNak s c psn n h
  unfold State.sequenced
  split
  · exact h
  · split
    · exact h
    · split
      · have hv : ∀ f, Canonical ((s.takePkt c stamp p mem cmp).2 (s.onConn c f)).regs := fun f =>
          State.keeps_takePkt s c stamp p mem cmp _ (by rw [State.onConn_regs]; exact h)
        dsimp only
        split
        · exact hsend _ _ _ h
        · split
          · exact hsend _ _ _ (hv _)
          · rw [State.ackDue_regs]; exact hv _
      · split
        · rw [State.sendAck_regs]; exact State.canonical_bump _ _ _ _ _ h
        · split
          · exact hsend _ _ _ h
          · split
            · exact h
            · exact hsend _ _ _ (by rw [State.setConn_regs]; exact h)

theorem State.canonical_park (s : State) (c port : Nat) (x : Conn) (p : Pkt) (h : Canonical s.regs) : Canonical
    (s.park c port x p).regs := by
  unfold State.park
  grind [State.onDrv_regs, State.setConn_regs, State.canonical_sendNak]

theorem State.canonical_rxSeq (s : State) (port c : Nat) (p : Pkt) (mem : Fetch) (cmp : List Fetch)
    (h : Canonical s.regs) : Canonical (s.rxSeq port c p mem cmp).regs := by
  unfold State.rxSeq
  grind [State.canonical_useConn, State.canonical_takeAck, State.canonical_finishConn, State.canonical_sequenced,
    State.canonical_park]

theorem canonical_execGrmpWrite (port : Fin 2) (frame : Bytes) (cmp : List Fetch) (s : State) (h : Canonical s.regs) :
    ∃ u, execGrmpWrite port frame cmp s = .next u ∧ Canonical u.regs := by
  refine ⟨_, rfl, ?_⟩
  grind [State.canonical_rx, State.canonical_rxSeq]

theorem canonical_execGrmpReadReq (port : Fin 2) (frame : Bytes) (mem : Fetch) (s : State) (h : Canonical s.regs) : ∃
    u, execGrmpReadReq port frame mem s = .next u ∧ Canonical u.regs := by
  refine ⟨_, rfl, ?_⟩
  grind [State.canonical_rx, State.canonical_rxSeq]

theorem canonical_execGrmpReadResp (port : Fin 2) (frame : Bytes) (s : State) (h : Canonical s.regs) : ∃ u,
    execGrmpReadResp port frame s = .next u ∧ Canonical u.regs := by
  refine ⟨_, rfl, ?_⟩
  grind [State.canonical_rx, State.canonical_rxSeq]

theorem canonical_execGrmpSend (port : Fin 2) (frame : Bytes) (s : State) (h : Canonical s.regs) : ∃ u, execGrmpSend
    port frame s = .next u ∧ Canonical u.regs := by
  refine ⟨_, rfl, ?_⟩
  grind [State.send_regs, State.canonical_rx, State.canonical_rxSeq]

theorem canonical_execGrmpHello (port : Fin 2) (frame : Bytes) (s : State) (h : Canonical s.regs) : ∃ u, execGrmpHello
    port frame s = .next u ∧ Canonical u.regs := by
  refine ⟨_, rfl, ?_⟩
  grind [State.canonical_rx, State.canonical_rxSeq]

theorem canonical_execGrmpClose (port : Fin 2) (frame : Bytes) (s : State) (h : Canonical s.regs) : ∃ u, execGrmpClose
    port frame s = .next u ∧ Canonical u.regs := by
  refine ⟨_, rfl, ?_⟩
  grind [State.canonical_rx, State.canonical_rxSeq]

theorem canonical_execGrmpAck (_port : Fin 2) (frame : Bytes) (s : State) (h : Canonical s.regs) : ∃ u, execGrmpAck
    _port frame s = .next u ∧ Canonical u.regs := by
  refine ⟨_, rfl, ?_⟩
  grind [State.canonical_takeAck, State.canonical_finishConn, State.canonical_rx]

theorem State.canonical_takeNak (s : State) (c : Nat) (p : Pkt) (h : Canonical s.regs) : Canonical
    (s.takeNak c p).regs := by
  unfold State.takeNak
  grind [State.setConn_regs, State.canonical_opsEnd, State.canonical_takeAck, State.canonical_resendFrom]

theorem canonical_execGrmpNak (_port : Fin 2) (frame : Bytes) (s : State) (h : Canonical s.regs) : ∃ u, execGrmpNak
    _port frame s = .next u ∧ Canonical u.regs := by
  refine ⟨_, rfl, ?_⟩
  grind [State.canonical_finishConn, State.canonical_rx, State.canonical_takeNak]

theorem canonical_execHelloTimer (cid : Nat) (s : State) (h : Canonical s.regs) : ∃ u, execHelloTimer cid s = .next u
    ∧ Canonical u.regs := by
  refine ⟨_, rfl, ?_⟩
  grind [State.send_regs]

theorem canonical_execAckTimer (cid : Nat) (s : State) (h : Canonical s.regs) : ∃ u, execAckTimer cid s = .next u ∧
    Canonical u.regs := by
  refine ⟨_, rfl, ?_⟩
  grind [State.sendAck_regs]

theorem canonical_execRetransmitTimeout (cid : Nat) (s : State) (h : Canonical s.regs) : ∃ u, execRetransmitTimeout
    cid s = .next u ∧ Canonical u.regs := by
  refine ⟨_, rfl, ?_⟩
  grind [State.setConn_regs, State.canonical_resendFrom, State.canonical_connError]

theorem canonical_execBusyResend (cid : Nat) (s : State) (h : Canonical s.regs) : ∃ u, execBusyResend cid s = .next u
    ∧ Canonical u.regs := by
  refine ⟨_, rfl, ?_⟩
  grind [State.setConn_regs, State.canonical_resendFrom]

@[simp] theorem State.setPath_regs (s : State) (p : Nat) (x : Path) : (s.setPath p x).regs = s.regs := by
  unfold State.setPath
  grind [State.onDrv_regs]

theorem canonical_execHeartbeatTimeout (path : Fin 2) (s : State) (h : Canonical s.regs) : ∃ u, execHeartbeatTimeout
    path s = .next u ∧ Canonical u.regs := by
  refine ⟨_, rfl, ?_⟩
  grind [State.canonical_bump, State.canonical_switchPath, State.setPath_regs]

theorem canonical_execPathReturn (path : Fin 2) (s : State) (h : Canonical s.regs) : ∃ u, execPathReturn path s =
    .next u ∧ Canonical u.regs := by
  refine ⟨_, rfl, ?_⟩
  grind [State.onDrv_regs]

theorem State.canonical_unpark (c : Nat) (ks : List Parked) (mem cmp : List Fetch) (s : State) (h : Canonical s.regs) :
    Canonical (State.unpark c ks mem cmp s).regs := by
  induction ks generalizing mem cmp s with
  | nil => exact h
  | cons k ks ih => exact ih _ _ _ (State.canonical_sequenced _ _ _ _ _ _ (State.canonical_takeAck _ _ _ h))

theorem canonical_execStateFetchComplete (cid : Nat) (mem cmp : List Fetch) (s : State) (h : Canonical s.regs) : ∃ u,
    execStateFetchComplete cid mem cmp s = .next u ∧ Canonical u.regs := by
  refine ⟨_, rfl, ?_⟩
  grind [State.setConn_regs, State.canonical_useConn, State.canonical_finishConn, State.canonical_unpark]

theorem State.canonical_takeMsg (s : State) (c ty : Nat) (f : State → Bytes → State)
    (hf : ∀ (t : State) a, Canonical t.regs → Canonical (f t a).regs) (h : Canonical s.regs) : Canonical
    (s.takeMsg c ty f).regs := by
  unfold State.takeMsg
  grind [State.setConn_regs]

theorem canonical_execPeerReleaseMsg (cid : Nat) (s : State) (h : Canonical s.regs) : ∃ u, execPeerReleaseMsg cid s =
    .next u ∧ Canonical u.regs := by
  refine ⟨_, rfl, ?_⟩
  grind [State.setJournal_regs, State.canonical_takeMsg, State.canonical_foldl]

theorem canonical_execNsbind (cid : Nat) (s : State) (h : Canonical s.regs) : ∃ u, execNsbind cid s = .next u ∧
    Canonical u.regs := by
  refine ⟨_, rfl, ?_⟩
  grind [State.emit_regs, State.onFpt_regs, State.canonical_takeMsg]

theorem State.canonical_drvStart (s : State) (q : Nat) (d : Bytes) (src : Fetch) (h : Canonical s.regs) : Canonical
    (s.drvStart q d src).regs := by
  unfold State.drvStart
  grind [State.canonical_latch, State.send_regs, State.canonical_submit, State.canonical_drvComplete]

theorem State.canonical_drvDesc (s : State) (q op : Nat) (desc src : Fetch) (h : Canonical s.regs) : Canonical
    (s.drvDesc q op desc src).regs := by
  unfold State.drvDesc
  grind [State.setXq_regs, State.canonical_xqLatch, State.xqAdvance_regs, State.canonical_drvComplete,
    State.canonical_drvStart]

theorem canonical_execDrvWrite (q : Fin 64) (desc src : Fetch) (s : State) (h : Canonical s.regs) : ∃ u, execDrvWrite
    q desc src s = .next u ∧ Canonical u.regs := by
  refine ⟨_, rfl, ?_⟩
  grind [State.canonical_drvDesc]

theorem canonical_execDrvRead (q : Fin 64) (desc src : Fetch) (s : State) (h : Canonical s.regs) : ∃ u, execDrvRead q
    desc src s = .next u ∧ Canonical u.regs := by
  refine ⟨_, rfl, ?_⟩
  grind [State.canonical_drvDesc]

theorem canonical_execDrvSend (q : Fin 64) (desc src : Fetch) (s : State) (h : Canonical s.regs) : ∃ u, execDrvSend q
    desc src s = .next u ∧ Canonical u.regs := by
  refine ⟨_, rfl, ?_⟩
  grind [State.canonical_drvDesc]

theorem canonical_execChainWaitSatisfied (q : Fin 64) (src : Fetch) (s : State) (h : Canonical s.regs) : ∃ u,
    execChainWaitSatisfied q src s = .next u ∧ Canonical u.regs := by
  refine ⟨_, rfl, ?_⟩
  grind [State.setXq_regs, State.canonical_drvStart]

theorem canonical_execChainTimeout (q : Fin 64) (s : State) (h : Canonical s.regs) : ∃ u, execChainTimeout q s = .next
    u ∧ Canonical u.regs := by
  refine ⟨_, rfl, ?_⟩
  grind [State.setXq_regs, State.canonical_drvComplete]

theorem canonical_execDrvXcount (q : Fin 64) (val : W32) (s : State) (h : Canonical s.regs) : ∃ u, execDrvXcount q val
    s = .next u ∧ Canonical u.regs := by
  refine ⟨_, rfl, ?_⟩
  grind [State.setXq_regs, State.canonical_xqLatch]

/-! ### Network -/

@[simp] theorem State.onNport_regs (s : State) (p : Nat) (f : NPort → NPort) : (s.onNport p f).regs = s.regs := by
  unfold State.onNport
  grind

theorem State.canonical_moveSubs (s : State) (p : Nat) (h : Canonical s.regs) : Canonical (s.moveSubs p).regs := by
  unfold State.moveSubs
  grind [State.onDrv_regs, State.canonical_resendFrom, State.canonical_foldl]

theorem State.canonical_portDown (s : State) (p : Nat) (h : Canonical s.regs) : Canonical (s.portDown p).regs := by
  unfold State.portDown
  grind [State.canonical_switchPath, State.setPath_regs]

theorem canonical_execSubportDown (port : Fin 2) (sub : Fin 8) (fec : Bool) (s : State) (h : Canonical s.regs) : ∃ u,
    execSubportDown port sub fec s = .next u ∧ Canonical u.regs := by
  refine ⟨_, rfl, ?_⟩
  grind [State.canonical_bump, State.event_regs, State.canonical_latch, State.onNport_regs, State.canonical_moveSubs,
    State.canonical_portDown]

theorem canonical_execSubportUp (port : Fin 2) (sub : Fin 8) (s : State) (h : Canonical s.regs) : ∃ u, execSubportUp
    port sub s = .next u ∧ Canonical u.regs := by
  refine ⟨_, rfl, ?_⟩
  grind [State.canonical_switchPath, State.onNport_regs, State.canonical_moveSubs]

theorem canonical_execSubportReturn (port : Fin 2) (sub : Fin 8) (s : State) (h : Canonical s.regs) : ∃ u,
    execSubportReturn port sub s = .next u ∧ Canonical u.regs := by
  refine ⟨_, rfl, ?_⟩
  grind [State.onDrv_regs]

theorem State.canonical_dropFrame (s : State) (p : Nat) (h : Canonical s.regs) : Canonical (s.dropFrame p).regs := by
  unfold State.dropFrame
  grind [State.canonical_bump]

theorem State.canonical_answer (s : State) (p : Nat) (kind : String) (data : Bytes) (h : Canonical s.regs) : Canonical
    (s.answer p kind data).regs := by
  unfold State.answer
  grind [State.emit_regs, State.onNport_regs, State.canonical_dropFrame]

theorem canonical_execNeighbourDiscovery (port : Fin 2) (sub : Fin 8) (frame : Bytes) (s : State)
    (h : Canonical s.regs) : ∃ u, execNeighbourDiscovery port sub frame s = .next u ∧ Canonical u.regs := by
  refine ⟨_, rfl, ?_⟩
  grind [State.canonical_dropFrame, State.canonical_answer]

theorem canonical_execEchoRequest (port : Fin 2) (_sub : Fin 8) (frame : Bytes) (s : State) (h : Canonical s.regs) : ∃
    u, execEchoRequest port _sub frame s = .next u ∧ Canonical u.regs := by
  refine ⟨_, rfl, ?_⟩
  grind [State.canonical_reply, State.canonical_dropFrame, State.canonical_answer]

theorem canonical_execArpRequest (port : Fin 2) (sub : Fin 8) (frame : Bytes) (s : State) (h : Canonical s.regs) : ∃
    u, execArpRequest port sub frame s = .next u ∧ Canonical u.regs := by
  refine ⟨_, rfl, ?_⟩
  grind [State.canonical_reply, State.canonical_dropFrame, State.canonical_answer]

theorem canonical_execUnexpectedFrame (port : Fin 2) (fcs : Bool) (s : State) (h : Canonical s.regs) : ∃ u,
    execUnexpectedFrame port fcs s = .next u ∧ Canonical u.regs := by
  refine ⟨_, rfl, ?_⟩
  grind [State.canonical_bump, State.canonical_dropFrame]

theorem canonical_execHbtPulse (s : State) (h : Canonical s.regs) : ∃ u, execHbtPulse s = .next u ∧ Canonical u.regs
    := by
  refine ⟨_, rfl, ?_⟩
  grind [State.emit_regs]

theorem canonical_execHbtEdge (widthOk : Bool) (s : State) (h : Canonical s.regs) : ∃ u, execHbtEdge widthOk s = .next
    u ∧ Canonical u.regs := by
  refine ⟨_, rfl, ?_⟩
  grind [State.canonical_setRbit, State.edge_regs]

theorem State.canonical_hbtLost (s : State) (h : Canonical s.regs) : Canonical (s.hbtLost).regs := by
  unfold State.hbtLost
  grind [State.canonical_setRbit, State.event_regs]

theorem canonical_execHbtTimeout (s : State) (h : Canonical s.regs) : ∃ u, execHbtTimeout s = .next u ∧ Canonical
    u.regs := by
  refine ⟨_, rfl, ?_⟩
  grind [State.canonical_hbtLost]

theorem canonical_execHbtStuck (s : State) (h : Canonical s.regs) : ∃ u, execHbtStuck s = .next u ∧ Canonical u.regs
    := by
  refine ⟨_, rfl, ?_⟩
  grind [State.canonical_setRbit, State.canonical_latch, State.canonical_hbtLost]

theorem canonical_execPathStatus (eid : Nat) (s : State) (h : Canonical s.regs) : ∃ u, execPathStatus eid s = .next u
    ∧ Canonical u.regs := by
  refine ⟨_, rfl, ?_⟩
  grind [State.canonical_okReply, State.canonical_cmd]

/-! ### Heads -/

@[simp] theorem State.hlk_regs (s : State) (d : Nat) (b : Bool) : (s.hlk d b).regs = s.regs := by
  unfold State.hlk
  grind [State.emit_regs, State.setDom_regs]

@[simp] theorem State.hlkFree_regs (s : State) (d : Nat) : (s.hlkFree d).regs = s.regs := by
  unfold State.hlkFree
  grind [State.hlk_regs]

theorem State.canonical_claimEnd (s : State) (c : DomCmd) (h : Canonical s.regs) : Canonical (s.claimEnd c).regs := by
  unfold State.claimEnd
  grind [State.onDhd_regs, State.canonical_finalOf]

theorem State.canonical_claimStep (s : State) (d : Nat) (ok : Bool) (h : Canonical s.regs) : Canonical
    (s.claimStep d ok).regs := by
  unfold State.claimStep
  grind [State.onDhd_regs, State.canonical_claimEnd, State.canonical_foldl]

theorem State.canonical_releaseEnd (s : State) (c : DomCmd) (h : Canonical s.regs) : Canonical (s.releaseEnd c).regs
    := by
  unfold State.releaseEnd
  grind [State.onDhd_regs, State.canonical_finalOf]

theorem State.canonical_releaseStep (s : State) (d : Nat) (ok : Bool) (h : Canonical s.regs) : Canonical
    (s.releaseStep d ok).regs := by
  unfold State.releaseStep
  grind [State.onDhd_regs, State.canonical_releaseEnd, State.canonical_foldl]

theorem State.canonical_failClaim (s : State) (d : Nat) (h : Canonical s.regs) : Canonical (s.failClaim d).regs := by
  unfold State.failClaim
  grind [State.setDom_regs, State.hlkFree_regs, State.canonical_claimStep]

theorem State.canonical_dhdCount (s : State) (lo : Nat) (h : Canonical s.regs) : Canonical (s.dhdCount lo).regs := by
  unfold State.dhdCount
  grind [State.canonical_bump]

theorem State.canonical_failbackDone (s : State) (h : Canonical s.regs) : Canonical (s.failbackDone).regs := by
  unfold State.failbackDone
  grind [State.onDhd_regs, State.canonical_dhdCount]

theorem State.canonical_ownDomain (s : State) (d : Nat) (h : Canonical s.regs) : Canonical (s.ownDomain d).regs := by
  unfold State.ownDomain
  grind [State.canonical_peerMsg, State.setDom_regs, State.canonical_markMissing, State.canonical_claimStep,
    State.canonical_failbackDone]

theorem State.canonical_enterLoading (s : State) (d : Nat) (h : Canonical s.regs) : Canonical (s.enterLoading d).regs
    := by
  unfold State.enterLoading
  grind [State.sklFold_regs, State.canonical_beginReturn, State.setDom_regs, State.canonical_ownDomain]

theorem State.canonical_startClaim (s : State) (d : Nat) (taken handed : Bool) (h : Canonical s.regs) : Canonical
    (s.startClaim d taken handed).regs := by
  unfold State.startClaim
  grind [State.setDom_regs, State.hlkFree_regs, State.canonical_enterLoading]

theorem canonical_execHlkPull (dom : Fin 8) (probe : Bool) (s : State) (h : Canonical s.regs) : ∃ u, execHlkPull dom
    probe s = .next u ∧ Canonical u.regs := by
  refine ⟨_, rfl, ?_⟩
  grind [State.hlk_regs, State.canonical_failClaim, State.canonical_dhdCount]

theorem canonical_execHlkReadback (dom : Fin 8) (low : Bool) (s : State) (h : Canonical s.regs) : ∃ u, execHlkReadback
    dom low s = .next u ∧ Canonical u.regs := by
  refine ⟨_, rfl, ?_⟩
  grind [State.canonical_latch, State.canonical_failClaim, State.canonical_enterLoading]

theorem canonical_execClaimWaitTimeout (dom : Fin 8) (s : State) (h : Canonical s.regs) : ∃ u, execClaimWaitTimeout
    dom s = .next u ∧ Canonical u.regs := by
  refine ⟨_, rfl, ?_⟩
  grind [State.canonical_failClaim]

theorem canonical_execLeaseGrantTimeout (dom : Fin 8) (s : State) (h : Canonical s.regs) : ∃ u, execLeaseGrantTimeout
    dom s = .next u ∧ Canonical u.regs := by
  refine ⟨_, rfl, ?_⟩
  grind [State.canonical_failClaim]

theorem canonical_execDomainClaim (eid : Nat) (s : State) (h : Canonical s.regs) : ∃ u, execDomainClaim eid s = .next
    u ∧ Canonical u.regs := by
  refine ⟨_, rfl, ?_⟩
  grind [State.onDhd_regs, State.canonical_pendReply, State.canonical_cmd, State.canonical_claimEnd,
    State.canonical_startClaim, State.canonical_foldl]

theorem State.canonical_startRelease (s : State) (d : Nat) (toPeer : Bool) (h : Canonical s.regs) : Canonical
    (s.startRelease d toPeer).regs := by
  unfold State.startRelease
  grind [State.setDom_regs, State.canonical_stopPass, State.canonical_foldl]

theorem canonical_execDomainRelease (eid : Nat) (s : State) (h : Canonical s.regs) : ∃ u, execDomainRelease eid s =
    .next u ∧ Canonical u.regs := by
  refine ⟨_, rfl, ?_⟩
  grind [State.onDhd_regs, State.canonical_fail, State.canonical_cmd, State.canonical_releaseEnd,
    State.canonical_startRelease, State.canonical_foldl]

theorem canonical_execDomainReleaseDrained (dom : Fin 8) (s : State) (h : Canonical s.regs) : ∃ u,
    execDomainReleaseDrained dom s = .next u ∧ Canonical u.regs := by
  refine ⟨_, rfl, ?_⟩
  grind [State.canonical_peerMsg, State.setDom_regs, State.hlkFree_regs, State.canonical_releaseStep]

theorem State.canonical_failbackNext (s : State) (h : Canonical s.regs) : Canonical (s.failbackNext).regs := by
  unfold State.failbackNext
  grind [State.canonical_failbackDone, State.canonical_startRelease]

theorem canonical_execHandover (s : State) (h : Canonical s.regs) : ∃ u, execHandover s = .next u ∧ Canonical u.regs
    := by
  refine ⟨_, rfl, ?_⟩
  grind [State.onDhd_regs, State.setJournal_regs, State.canonical_takeMsg, State.canonical_startClaim]

theorem canonical_execClaimed (s : State) (h : Canonical s.regs) : ∃ u, execClaimed s = .next u ∧ Canonical u.regs :=
    by
  refine ⟨_, rfl, ?_⟩
  grind [State.onDhd_regs, State.setDom_regs, State.canonical_takeMsg, State.canonical_releaseStep,
    State.canonical_failbackNext]

theorem State.canonical_abortDom (s : State) (d : Nat) (h : Canonical s.regs) : Canonical (s.abortDom d).regs := by
  unfold State.abortDom
  grind [State.onData_regs, State.canonical_finalOf, State.dropRec_regs, State.canonical_endPut,
    State.canonical_foldl]

theorem State.canonical_fence (s : State) (d : Nat) (h : Canonical s.regs) : Canonical (s.fence d).regs := by
  unfold State.fence
  grind [State.setDom_regs, State.hlkFree_regs, State.canonical_claimStep, State.canonical_releaseStep,
    State.canonical_dhdCount, State.canonical_abortDom]

theorem canonical_execLeaseRenew (s : State) (h : Canonical s.regs) : ∃ u, execLeaseRenew s = .next u ∧ Canonical
    u.regs := by
  refine ⟨_, rfl, ?_⟩
  grind [State.onDhd_regs]

theorem canonical_execLeaseLapse (dom : Fin 8) (s : State) (h : Canonical s.regs) : ∃ u, execLeaseLapse dom s = .next
    u ∧ Canonical u.regs := by
  refine ⟨_, rfl, ?_⟩
  grind [State.canonical_fence]

theorem canonical_execFenceExpiry (dom : Fin 8) (s : State) (h : Canonical s.regs) : ∃ u, execFenceExpiry dom s =
    .next u ∧ Canonical u.regs := by
  refine ⟨_, rfl, ?_⟩
  grind [State.emits_regs, State.onFpt_regs, State.setDom_regs]

theorem canonical_execHeartbeatTransmit (s : State) (h : Canonical s.regs) : ∃ u, execHeartbeatTransmit s = .next u ∧
    Canonical u.regs := by
  refine ⟨_, rfl, ?_⟩
  grind [State.sendOn_regs, State.setPath_regs, State.canonical_foldl]

theorem State.canonical_peerHomeSet (s : State) (home : Nat) (h : Canonical s.regs) : Canonical
    (s.peerHomeSet home).regs := by
  unfold State.peerHomeSet
  grind [State.onDhd_regs, State.event_regs, State.canonical_latch]

theorem State.canonical_peerModeIs (s : State) (mode : Nat) (h : Canonical s.regs) : Canonical
    (s.peerModeIs mode).regs := by
  unfold State.peerModeIs
  grind [State.onDhd_regs, State.event_regs, State.canonical_latch]

theorem State.canonical_conflict (s : State) (d : Nat) (h : Canonical s.regs) : Canonical (s.conflict d).regs := by
  unfold State.conflict
  grind [State.sklFold_regs, State.canonical_latch, State.canonical_peerMsg, State.canonical_fence]

theorem State.canonical_takeLease (s : State) (b : Bytes) (h : Canonical s.regs) : Canonical (s.takeLease b).regs :=
    by
  unfold State.takeLease
  grind [State.onDhd_regs, State.setDom_regs, State.canonical_enterLoading, State.canonical_foldl]

theorem State.canonical_takeBeat (s : State) (path : Nat) (p : Pkt) (h : Canonical s.regs) : Canonical
    (s.takeBeat path p).regs := by
  unfold State.takeBeat
  grind [State.onDhd_regs, State.canonical_switchPath, State.canonical_rxSeq, State.setPath_regs,
    State.canonical_peerHomeSet, State.canonical_peerModeIs, State.canonical_conflict, State.canonical_takeLease,
    State.canonical_foldl]

theorem canonical_execGrmpHeartbeat (_port : Fin 2) (frame : Bytes) (s : State) (h : Canonical s.regs) : ∃ u,
    execGrmpHeartbeat _port frame s = .next u ∧ Canonical u.regs := by
  refine ⟨_, rfl, ?_⟩
  grind [State.canonical_takeAck, State.canonical_rx, State.canonical_rxSeq, State.canonical_takeBeat]

theorem State.canonical_sendJoin (s : State) (bits : Nat) (h : Canonical s.regs) : Canonical (s.sendJoin bits).regs :=
    by
  unfold State.sendJoin
  grind [State.canonical_peerMsg]

theorem State.canonical_joinTick (s : State) (h : Canonical s.regs) : Canonical (s.joinTick).regs := by
  unfold State.joinTick
  grind [State.onDhd_regs, State.canonical_sendJoin]

theorem State.canonical_judgeHead (s : State) (h : Canonical s.regs) : Canonical (s.judgeHead).regs := by
  unfold State.judgeHead
  grind [State.onDhd_regs, State.event_regs, State.canonical_latch, State.canonical_joinTick]

theorem canonical_execPeerFailed (s : State) (h : Canonical s.regs) : ∃ u, execPeerFailed s = .next u ∧ Canonical
    u.regs := by
  refine ⟨_, rfl, ?_⟩
  grind [State.onDhd_regs, State.setDom_regs, State.canonical_releaseStep, State.canonical_dhdCount,
    State.canonical_enterLoading, State.canonical_startClaim, State.canonical_foldl]

theorem canonical_execYield (s : State) (h : Canonical s.regs) : ∃ u, execYield s = .next u ∧ Canonical u.regs := by
  refine ⟨_, rfl, ?_⟩
  grind [State.onDhd_regs, State.canonical_takeMsg]

theorem State.canonical_resync (s : State) (d : Nat) (h : Canonical s.regs) : Canonical (s.resync d).regs := by
  unfold State.resync
  grind [State.canonical_peerMsg, State.canonical_mirror, State.canonical_foldl]

theorem canonical_execJoin (s : State) (h : Canonical s.regs) : ∃ u, execJoin s = .next u ∧ Canonical u.regs := by
  refine ⟨_, rfl, ?_⟩
  grind [State.onDhd_regs, State.canonical_peerMsg, State.canonical_takeMsg, State.canonical_peerHomeSet,
    State.canonical_peerModeIs, State.canonical_sendJoin, State.canonical_resync, State.canonical_foldl]

theorem canonical_execResync (s : State) (h : Canonical s.regs) : ∃ u, execResync s = .next u ∧ Canonical u.regs := by
  refine ⟨_, rfl, ?_⟩
  grind [State.onDhd_regs, State.setJournal_regs, State.canonical_takeMsg]

theorem canonical_execResyncDone (s : State) (h : Canonical s.regs) : ∃ u, execResyncDone s = .next u ∧ Canonical
    u.regs := by
  refine ⟨_, rfl, ?_⟩
  grind [State.onDhd_regs, State.setJournal_regs, State.canonical_takeMsg]

theorem canonical_execFailbackHoldoffExpiry (s : State) (h : Canonical s.regs) : ∃ u, execFailbackHoldoffExpiry s =
    .next u ∧ Canonical u.regs := by
  refine ⟨_, rfl, ?_⟩
  grind [State.onDhd_regs, State.canonical_failbackNext]

theorem canonical_execHeadStatus (eid : Nat) (s : State) (h : Canonical s.regs) : ∃ u, execHeadStatus eid s = .next u
    ∧ Canonical u.regs := by
  refine ⟨_, rfl, ?_⟩
  grind [State.canonical_okReply, State.canonical_cmd]

/-! ### Reshape -/

theorem State.beginReshape_regs (s : State) (gi : Nat) (g : Group) (m k : Nat) (ms : List Member) :
    (s.beginReshape gi g m k ms).regs = s.regs := by
  unfold State.beginReshape
  grind [State.setNode_regs, State.foldl_regs, State.takeMembers_regs]

theorem canonical_execReshapeStart (eid : Nat) (lab : List Bool) (s : State) (h : Canonical s.regs) : ∃ u,
    execReshapeStart eid lab s = .next u ∧ Canonical u.regs := by
  refine ⟨_, rfl, ?_⟩
  grind [State.canonical_fail, State.canonical_cmd, State.canonical_note, State.canonical_writeLabels,
    State.canonical_onGroup, State.beginReshape_regs]

@[simp] theorem State.setReshape_regs (s : State) (gi : Nat) (f : Reshape → Reshape) : (s.setReshape gi f).regs =
    s.regs := by
  unfold State.setReshape
  grind [State.setNode_regs]

theorem State.canonical_holdReshape (s : State) (gi : Nat) (h : Canonical s.regs) : Canonical (s.holdReshape gi).regs
    := by
  unfold State.holdReshape
  grind [State.canonical_writeLabels, State.setReshape_regs]

theorem State.canonical_stepRec (s : State) (gi : Nat) (g : Group) (a : Nat) (ckpt : Option Bytes)
    (h : Canonical s.regs) : Canonical (s.stepRec gi g a ckpt).regs := by
  unfold State.stepRec
  grind [State.canonical_note]

theorem State.canonical_moveLost (s : State) (root gi : Nat) (g : Group) (lost : List Nat) (h : Canonical s.regs) :
    Canonical (s.moveLost root gi g lost).regs := by
  unfold State.moveLost
  grind [State.setTree_regs, State.canonical_note]

theorem State.canonical_writeStep (s : State) (gi : Nat) (g : Group) (blks : List Blk) (h : Canonical s.regs) :
    Canonical (s.writeStep gi g blks).regs := by
  unfold State.writeStep
  grind [State.driveWrites_regs, State.canonical_writeLabels, State.setReshape_regs, State.canonical_stepRec]

theorem canonical_execReshapeStep (group : Nat) (old : Fetch) (s : State) (h : Canonical s.regs) : ∃ u,
    execReshapeStep group old s = .next u ∧ Canonical u.regs := by
  refine ⟨_, rfl, ?_⟩
  grind [State.canonical_holdReshape, State.canonical_stepRec, State.canonical_moveLost, State.canonical_writeStep]

theorem canonical_execReshapeZeroStep (group : Nat) (s : State) (h : Canonical s.regs) : ∃ u, execReshapeZeroStep
    group s = .next u ∧ Canonical u.regs := by
  refine ⟨_, rfl, ?_⟩
  grind [State.canonical_holdReshape, State.canonical_writeStep]

theorem canonical_execReshapeComplete (group : Nat) (s : State) (h : Canonical s.regs) : ∃ u, execReshapeComplete
    group s = .next u ∧ Canonical u.regs := by
  refine ⟨_, rfl, ?_⟩
  grind [State.event_regs, State.setNode_regs, State.restate_regs, State.canonical_treeChange]

theorem canonical_execReshapeResume (group : Nat) (s : State) (h : Canonical s.regs) : ∃ u, execReshapeResume group s
    = .next u ∧ Canonical u.regs := by
  refine ⟨_, rfl, ?_⟩
  grind [State.setReshape_regs]

theorem canonical_execReshapeQuery (eid : Nat) (s : State) (h : Canonical s.regs) : ∃ u, execReshapeQuery eid s =
    .next u ∧ Canonical u.regs := by
  refine ⟨_, rfl, ?_⟩
  grind [State.canonical_okReply, State.canonical_cmd, State.canonical_onGroup]

/-! ### Replay -/

@[simp] theorem State.reparity_regs (s : State) (d : Nat) (x : Bytes × Bytes) : (s.reparity d x).regs = s.regs := by
  unfold State.reparity
  grind [State.driveWrites_regs]

theorem State.putIdx_regs (s : State) (d : Nat) (e : IdxEntry) : (s.putIdx d e).regs = s.regs := by
  unfold State.putIdx
  split
  · exact State.setSlot_regs _ _ _ _
  · cases hi : s.insertIdx d e with
    | none => rfl
    | some t => exact State.insertIdx_regs _ _ _ hi

@[simp] theorem State.putExt_regs (s : State) (x : ExtImg) : (s.putExt x).regs = s.regs := by
  unfold State.putExt
  grind [State.setTree_regs]

@[simp] theorem State.putNode_regs (s : State) (items : List (Nat × Bytes)) (x : Bytes) : (s.putNode items x).regs =
    s.regs := by
  unfold State.putNode
  grind [State.onData_regs, State.setNode_regs, State.foldl_regs]

@[simp] theorem State.putLost_regs (s : State) (b : Bytes) : (s.putLost b).regs = s.regs := by
  unfold State.putLost
  grind [State.setTree_regs]

@[simp] theorem State.putStep_regs (s : State) (d : Nat) (b : Bytes) : (s.putStep d b).regs = s.regs := by
  unfold State.putStep
  grind [State.driveWrites_regs, State.setReshape_regs]

@[simp] theorem State.putBlocks_regs (s : State) (d : Nat) (b : Bytes) : (s.putBlocks d b).regs = s.regs := by
  unfold State.putBlocks
  grind [State.addSmall_regs, State.foldl_regs]

@[simp] theorem State.applyItem_regs (s : State) (d : Nat) (l : Loaded) (r : RepRec) (x : Nat × Bytes) :
    (s.applyItem d l r x).regs = s.regs := by
  unfold State.applyItem
  grind [State.onCopy_regs, State.putIdx_regs, State.putExt_regs, State.putNode_regs, State.putLost_regs,
    State.putStep_regs, State.putBlocks_regs, State.foldl_regs]

@[simp] theorem State.applyRec_regs (s : State) (d : Nat) (l : Loaded) (x : RepRec × List (Bytes × Bytes)) :
    (s.applyRec d l x).regs = s.regs := by
  unfold State.applyRec
  grind [State.reparity_regs, State.applyItem_regs, State.foldl_regs]

@[simp] theorem State.loadImage_regs (s : State) (d : Nat) (l : Loaded) : (s.loadImage d l).regs = s.regs := by
  unfold State.loadImage
  grind [State.onData_regs, State.onFld_regs, State.onDrv_regs, State.setTree_regs, State.putExt_regs,
    State.foldl_regs]

@[simp] theorem State.loadObjects_regs (s : State) (d : Nat) (rcps : List (Nat × Bytes)) : (s.loadObjects d rcps).regs
    = s.regs := by
  unfold State.loadObjects
  grind [State.onData_regs]

@[simp] theorem State.replay_regs (s : State) (d : Nat) (l : Loaded) : (s.replay d l).regs = s.regs := by
  unfold State.replay
  grind [State.setJournal_regs, State.writeHeader_regs, State.loadLabel_regs, State.applyRec_regs,
    State.loadImage_regs, State.loadObjects_regs, State.foldl_regs]

theorem canonical_execReplayComplete (dom : Fin 8) (load : Option Loaded) (s : State) (h : Canonical s.regs) : ∃ u,
    execReplayComplete dom load s = .next u ∧ Canonical u.regs := by
  refine ⟨_, rfl, ?_⟩
  grind [State.canonical_ownDomain, State.replay_regs]

theorem canonical_execIndexLoadComplete (dom : Fin 8) (s : State) (h : Canonical s.regs) : ∃ u, execIndexLoadComplete
    dom s = .next u ∧ Canonical u.regs := by
  refine ⟨_, rfl, ?_⟩
  grind [State.setDom_regs]

/-! ### Image -/

theorem State.canonical_takeExt (s : State) (d root want : Nat) (h : Canonical s.regs) {x : State × Nat}
    (hx : s.takeExt d root want = some x) : Canonical x.1.regs := by
  unfold State.takeExt at hx
  grind [State.setTree_regs, State.canonical_note]

theorem State.canonical_growChain (d n : Nat) (s : State) (x : Image) (h : Canonical s.regs) :
    Canonical (State.growChain d n s x).1.regs := by
  induction n generalizing s x with
  | zero => exact h
  | succ n ih =>
    unfold State.growChain
    dsimp only
    split
    · split
      · split
        · exact h
        · next hx => exact State.canonical_takeExt _ _ _ _ h hx
      · exact h
    · split
      · exact h
      · next hx => exact ih _ _ (State.canonical_takeExt _ _ _ _ h hx)

@[simp] theorem State.writeExts_regs (s : State) (d : Nat) : (s.writeExts d).regs = s.regs := by
  unfold State.writeExts
  grind [State.setTree_regs, State.addSmall_regs, State.foldl_regs]

@[simp] theorem State.setImage_regs (s : State) (d : Nat) (x : Image) : (s.setImage d x).regs = s.regs := by
  unfold State.setImage
  grind [State.onFld_regs]

@[simp] theorem State.writeChain_regs (s : State) (d : Nat) (x : Image) (b : Nat × Bytes) : (s.writeChain d x b).regs
    = s.regs := by
  unfold State.writeChain
  grind [State.addSmall_regs]

@[simp] theorem State.startHeader_regs (s : State) (d : Nat) (x : Image) : (s.startHeader d x).regs = s.regs := by
  unfold State.startHeader
  grind [State.setImage_regs, State.writeChain_regs]

theorem State.canonical_startImage (s : State) (d : Nat) (x : Image) (h : Canonical s.regs) :
    Canonical (s.startImage d x).regs := by
  unfold State.startImage
  have hg := State.canonical_growChain d 1024 s x h
  generalize State.growChain d 1024 s x = r at hg ⊢
  obtain ⟨t, y, ok⟩ := r
  grind [State.foldl_regs, State.writeChain_regs, State.addSmall_regs, State.writeExts_regs, State.startHeader_regs,
    State.setImage_regs, State.onData_regs, State.event_regs, State.sklFold_regs]

theorem State.canonical_imageTick (s : State) (d : Nat) (h : Canonical s.regs) : Canonical (s.imageTick d).regs := by
  unfold State.imageTick
  grind [State.onData_regs, State.setJournal_regs, State.freeExt_regs, State.startHeader_regs,
    State.canonical_startImage, State.canonical_foldl]

/-! ### Memory -/

theorem State.canonical_startFill (n : Nat) (s : State) (h : Canonical s.regs) : Canonical (State.startFill n s).regs := by
  induction n generalizing s with
  | zero => exact h
  | succ n ih =>
    unfold State.startFill
    grind [State.canonical_setRbit, State.canonical_finalOf, State.onMem_regs]

theorem canonical_execMemFill (eid : Nat) (s : State) (h : Canonical s.regs) : ∃ u, execMemFill eid s = .next u ∧
    Canonical u.regs := by
  refine ⟨_, rfl, ?_⟩
  grind [State.onMem_regs, State.canonical_fail, State.canonical_cmd, State.canonical_startFill]

theorem canonical_execMemFillComplete (eid : Nat) (s : State) (h : Canonical s.regs) : ∃ u, execMemFillComplete eid s
    = .next u ∧ Canonical u.regs := by
  refine ⟨_, rfl, ?_⟩
  grind [State.canonical_setRbit, State.onMem_regs, State.canonical_finalOf, State.placeRegions_regs,
    State.canonical_startFill]

theorem State.canonical_trainSet (s : State) (n : Nat) (h : Canonical s.regs) : Canonical (s.trainSet n).regs := by
  unfold State.trainSet
  grind [State.canonical_setRf, State.canonical_setRbit]

theorem canonical_execChannelRetrain (ch : Fin 16) (ok : Bool) (s : State) (h : Canonical s.regs) : ∃ u,
    execChannelRetrain ch ok s = .next u ∧ Canonical u.regs := by
  refine ⟨_, rfl, ?_⟩
  grind [State.canonical_bump, State.onMem_regs, State.canonical_memLatch, State.canonical_trainSet]

theorem State.canonical_failRead (s : State) (eid st dt : Nat) (h : Canonical s.regs) : Canonical
    (s.failRead eid st dt).regs := by
  unfold State.failRead
  grind [State.canonical_finalOf, State.canonical_endPut]

theorem State.canonical_trapCore (s : State) (core : Nat) (h : Canonical s.regs) : Canonical (s.trapCore core).regs :=
    by
  unfold State.trapCore
  grind [State.canonical_setRbit]

theorem canonical_execUncorrectableRead (port : Fin 18) (addr : Nat) (poison : Bool) (by_ : Reader) (s : State)
    (h : Canonical s.regs) : ∃ u, execUncorrectableRead port addr poison by_ s = .next u ∧ Canonical u.regs := by
  refine ⟨_, rfl, ?_⟩
  grind [State.onMem_regs, State.onHth_regs, State.onFld_regs, State.setXq_regs, State.canonical_xqLatch,
    State.poisonWord_regs, State.canonical_ueRead, State.canonical_failRead, State.canonical_trapCore]

theorem State.canonical_enableHeather (s : State) (h : Canonical s.regs) : Canonical (s.enableHeather).regs := by
  unfold State.enableHeather
  grind [State.canonical_setRf]

theorem State.canonical_startInval (s : State) (h : Canonical s.regs) : Canonical (s.startInval).regs := by
  unfold State.startInval
  grind [State.canonical_setRbit]

theorem canonical_execHthInvalidate (eid : Nat) (s : State) (h : Canonical s.regs) : ∃ u, execHthInvalidate eid s =
    .next u ∧ Canonical u.regs := by
  refine ⟨_, rfl, ?_⟩
  grind [State.onHth_regs, State.canonical_fail, State.canonical_cmd, State.canonical_startInval]

theorem canonical_execInvalidateComplete (s : State) (h : Canonical s.regs) : ∃ u, execInvalidateComplete s = .next u
    ∧ Canonical u.regs := by
  refine ⟨_, rfl, ?_⟩
  grind [State.canonical_setRf, State.canonical_setRbit, State.onHth_regs, State.canonical_finalOf,
    State.canonical_enableHeather]

theorem canonical_execHthEnable (eid : Nat) (s : State) (h : Canonical s.regs) : ∃ u, execHthEnable eid s = .next u ∧
    Canonical u.regs := by
  refine ⟨_, rfl, ?_⟩
  grind [State.canonical_setRbit, State.canonical_fail, State.canonical_okReply, State.canonical_cmd,
    State.canonical_enableHeather]

theorem State.canonical_disableHeather (s : State) (eid : Nat) (h : Canonical s.regs) : Canonical
    (s.disableHeather eid).regs := by
  unfold State.disableHeather
  grind [State.canonical_setRbit, State.onHth_regs, State.canonical_finalOf]

theorem canonical_execHthDisable (eid : Nat) (s : State) (h : Canonical s.regs) : ∃ u, execHthDisable eid s = .next u
    ∧ Canonical u.regs := by
  refine ⟨_, rfl, ?_⟩
  grind [State.canonical_cmd, State.canonical_disableHeather]

theorem State.canonical_cleanDone (s : State) (h : Canonical s.regs) : Canonical (s.cleanDone).regs := by
  unfold State.cleanDone
  grind [State.canonical_setRbit, State.onHth_regs, State.canonical_finalOf, State.canonical_startInval,
    State.canonical_foldl]

theorem canonical_execHthPreloadLock (eid : Nat) (s : State) (h : Canonical s.regs) : ∃ u, execHthPreloadLock eid s =
    .next u ∧ Canonical u.regs := by
  refine ⟨_, rfl, ?_⟩
  grind [State.canonical_setRbit, State.onHth_regs, State.canonical_fail, State.canonical_okReply,
    State.canonical_cmd]

theorem canonical_execPreloadComplete (eid : Nat) (s : State) (h : Canonical s.regs) : ∃ u, execPreloadComplete eid s
    = .next u ∧ Canonical u.regs := by
  refine ⟨_, rfl, ?_⟩
  grind [State.canonical_setRbit, State.onHth_regs, State.canonical_finalOf]

theorem canonical_execHthWayPower (eid : Nat) (s : State) (h : Canonical s.regs) : ∃ u, execHthWayPower eid s = .next
    u ∧ Canonical u.regs := by
  refine ⟨_, rfl, ?_⟩
  grind [State.canonical_setRbit, State.onHth_regs, State.canonical_fail, State.canonical_okReply,
    State.canonical_cmd]

theorem canonical_execHthRangeInvalidate (eid : Nat) (s : State) (h : Canonical s.regs) : ∃ u, execHthRangeInvalidate
    eid s = .next u ∧ Canonical u.regs := by
  refine ⟨_, rfl, ?_⟩
  grind [State.canonical_bump, State.nextDraw_regs, State.onHth_regs, State.canonical_fail, State.canonical_okReply,
    State.canonical_cmd]

/-! ### ParamCmds -/

theorem canonical_execParamInfo (eid : Nat) (s : State) (h : Canonical s.regs) : ∃ u, execParamInfo eid s = .next u ∧
    Canonical u.regs := by
  refine ⟨_, rfl, ?_⟩
  grind [State.canonical_fail, State.canonical_okReply, State.canonical_cmd]

theorem canonical_execParamGet (eid : Nat) (s : State) (h : Canonical s.regs) : ∃ u, execParamGet eid s = .next u ∧
    Canonical u.regs := by
  refine ⟨_, rfl, ?_⟩
  grind [State.canonical_fail, State.canonical_okReply, State.canonical_cmd]

@[simp] theorem State.setPar_regs (s : State) (p v : Nat) : (s.setPar p v).regs = s.regs := by
  unfold State.setPar
  grind [State.onEz_regs]

@[simp] theorem State.storePar_regs (s : State) (p v : Nat) : (s.storePar p v).regs = s.regs := by
  unfold State.storePar
  grind [State.onEz_regs]

@[simp] theorem State.persistPar_regs (s : State) (p v : Nat) : (s.persistPar p v).regs = s.regs := by
  unfold State.persistPar
  grind [State.onEz_regs]

theorem State.applySet_regs (s : State) (p v : Nat) : (s.applySet p v).regs = s.regs := by
  unfold State.applySet
  dsimp only
  split
  · split
    · rfl
    · exact State.setPar_regs _ _ _
  · rfl
  · split
    · rfl
    · exact State.storePar_regs _ _ _

theorem State.canonical_paramSetOne (s : State) (e : Entry) (norOk : Bool) (h : Canonical s.regs) : Canonical
    (s.paramSetOne e norOk).regs := by
  unfold State.paramSetOne
  grind [State.canonical_fail, State.canonical_okReply, State.persistPar_regs, State.applySet_regs]

theorem State.joinBatch_regs (s : State) (b : Batch) : (s.joinBatch b).regs = s.regs := by
  unfold State.joinBatch
  refine State.foldl_regs (fun s x => ?_) _ _
  split
  · exact State.persistPar_regs _ _ _
  · rfl

theorem State.canonical_paramSetBatch (s : State) (e : Entry) (norOk : Bool) (h : Canonical s.regs) : Canonical
    (s.paramSetBatch e norOk).regs := by
  unfold State.paramSetBatch
  grind [State.canonical_final, State.canonical_fail, State.joinBatch_regs]

theorem canonical_execParamSet (eid : Nat) (norOk : Bool) (s : State) (h : Canonical s.regs) : ∃ u, execParamSet eid
    norOk s = .next u ∧ Canonical u.regs := by
  refine ⟨_, rfl, ?_⟩
  grind [State.canonical_cmdIf, State.canonical_paramSetOne]

theorem canonical_execParamSetBatch (eid : Nat) (norOk : Bool) (s : State) (h : Canonical s.regs) : ∃ u,
    execParamSetBatch eid norOk s = .next u ∧ Canonical u.regs := by
  refine ⟨_, rfl, ?_⟩
  grind [State.canonical_cmdIf, State.canonical_paramSetBatch]

@[simp] theorem State.applyEntry_regs (s : State) (x : Nat × Nat × Bool) : (s.applyEntry x).regs = s.regs := by
  unfold State.applyEntry
  grind [State.onEz_regs, State.setPar_regs, State.storePar_regs]

theorem State.canonical_applyDecisions (s : State) (h : Canonical s.regs) : Canonical (s.applyDecisions).regs := by
  unfold State.applyDecisions
  grind [State.onEz_regs, State.canonical_finalOf, State.applyEntry_regs, State.canonical_foldl]

/-! ### Update -/

@[simp] theorem State.setSlotOf_regs (s : State) (i : Nat) (x : Slot) : (s.setSlotOf i x).regs = s.regs := by
  unfold State.setSlotOf
  grind [State.onUpd_regs]

theorem State.canonical_updFail (s : State) (e : Entry) (piece cause st dt : Nat) (h : Canonical s.regs) : Canonical
    (s.updFail e piece cause st dt).regs := by
  unfold State.updFail
  grind [State.canonical_latch, State.canonical_fail]

theorem State.canonical_pieceZero (s : State) (e : Entry) (d : Bytes) (norOk : Bool) (h : Canonical s.regs) :
    Canonical (s.pieceZero e d norOk).regs := by
  unfold State.pieceZero
  grind [State.emit_regs, State.canonical_fail, State.canonical_okReply, State.setSlotOf_regs,
    State.canonical_updFail]

theorem State.canonical_pieceMore (s : State) (e : Entry) (k : Nat) (d : Bytes) (norOk : Bool) (h : Canonical s.regs)
    : Canonical (s.pieceMore e k d norOk).regs := by
  unfold State.pieceMore
  grind [State.emit_regs, State.canonical_fail, State.canonical_okReply, State.setSlotOf_regs,
    State.canonical_updFail]

theorem canonical_execUpdPiece (eid : Nat) (piece : Fetch) (norOk : Bool) (s : State) (h : Canonical s.regs) : ∃ u,
    execUpdPiece eid piece norOk s = .next u ∧ Canonical u.regs := by
  refine ⟨_, rfl, ?_⟩
  grind [State.canonical_fail, State.canonical_failSilent, State.canonical_cmd, State.canonical_pieceZero,
    State.canonical_pieceMore]

theorem canonical_execUpdStatus (eid : Nat) (s : State) (h : Canonical s.regs) : ∃ u, execUpdStatus eid s = .next u ∧
    Canonical u.regs := by
  refine ⟨_, rfl, ?_⟩
  grind [State.canonical_okReply, State.canonical_cmd]

theorem canonical_execUpdVerify (eid : Nat) (bad : Option Nat) (s : State) (h : Canonical s.regs) : ∃ u, execUpdVerify
    eid bad s = .next u ∧ Canonical u.regs := by
  refine ⟨_, rfl, ?_⟩
  grind [State.canonical_latch, State.canonical_final, State.canonical_fail, State.canonical_okReply,
    State.canonical_cmd, State.setSlotOf_regs, State.canonical_updFail]

theorem State.canonical_nowReply (s : State) (e : Entry) (fl : Nat) (h : Canonical s.regs) : Canonical
    (s.nowReply e fl).regs := by
  unfold State.nowReply
  grind [State.onUpd_regs, State.canonical_okReply]

@[simp] theorem State.sealFloor_regs (s : State) : (s.sealFloor).regs = s.regs := by
  unfold State.sealFloor
  grind [State.setSlotOf_regs]

@[simp] theorem State.selectSlot_regs (s : State) (i attempts : Nat) : (s.selectSlot i attempts).regs = s.regs := by
  unfold State.selectSlot
  grind [State.emit_regs, State.onUpd_regs]

theorem canonical_execUpdActivate (eid : Nat) (s : State) (h : Canonical s.regs) : ∃ u, execUpdActivate eid s = .next
    u ∧ Canonical u.regs := by
  refine ⟨_, rfl, ?_⟩
  grind [State.canonical_fail, State.canonical_cmd, State.setSlotOf_regs, State.canonical_nowReply,
    State.sealFloor_regs, State.selectSlot_regs]

theorem canonical_execUpdFallback (eid : Nat) (s : State) (h : Canonical s.regs) : ∃ u, execUpdFallback eid s = .next
    u ∧ Canonical u.regs := by
  refine ⟨_, rfl, ?_⟩
  grind [State.canonical_fail, State.canonical_cmd, State.setSlotOf_regs, State.canonical_nowReply,
    State.selectSlot_regs]

theorem State.canonical_slotInvalid (s : State) (i cause : Nat) (h : Canonical s.regs) : Canonical
    (s.slotInvalid i cause).regs := by
  unfold State.slotInvalid
  grind [State.canonical_latch, State.setSlotOf_regs]

theorem State.canonical_bootTry (s : State) (h : Canonical s.regs) : Canonical (s.bootTry).1.regs := by
  unfold State.bootTry
  grind [State.selectSlot_regs, State.canonical_slotInvalid]

theorem State.canonical_bootSelect (s : State) (h : Canonical s.regs) : Canonical (s.bootSelect).1.regs := by
  unfold State.bootSelect
  grind [State.canonical_setRbit, State.onUpd_regs, State.setSlotOf_regs, State.selectSlot_regs,
    State.canonical_slotInvalid, State.canonical_bootTry]

theorem canonical_execTrialSelftest (pass : Bool) (s : State) (h : Canonical s.regs) : ∃ u, execTrialSelftest pass s =
    .next u ∧ Canonical u.regs := by
  refine ⟨_, rfl, ?_⟩
  grind [State.onDhd_regs, State.onUpd_regs, State.canonical_latch, State.setSlotOf_regs, State.selectSlot_regs]

theorem State.canonical_attestWarm (s : State) (h : Canonical s.regs) : Canonical (s.attestWarm).regs := by
  unfold State.attestWarm
  grind [State.canonical_setRf]

theorem State.canonical_attestPor (s : State) (skip : Bool) (h : Canonical s.regs) : Canonical (s.attestPor skip).regs
    := by
  unfold State.attestPor
  grind [State.canonical_setRf]

@[simp] theorem State.guardIndex_regs (s : State) (q : Nat) : (s.guardIndex q).regs = s.regs := by
  unfold State.guardIndex
  grind [State.emit_regs, State.onUpd_regs]

theorem State.canonical_spendIndex (s : State) (q : Nat) (h : Canonical s.regs) : Canonical (s.spendIndex q).regs :=
    by
  unfold State.spendIndex
  grind [State.canonical_setRf, State.onUpd_regs, State.event_regs, State.sklFold_regs]

theorem canonical_execAttestReport (eid : Nat) (destOk : Bool) (s : State) (h : Canonical s.regs) : ∃ u,
    execAttestReport eid destOk s = .next u ∧ Canonical u.regs := by
  refine ⟨_, rfl, ?_⟩
  grind [State.nextDraw_regs, State.canonical_fail, State.canonical_okReply, State.canonical_cmd,
    State.deliverTo_regs, State.guardIndex_regs, State.canonical_spendIndex]

/-! ### Resets -/

theorem State.canonical_keepWord (old s : State) (x : Nat × Nat) (h : Canonical s.regs) :
    Canonical (old.keepWord s x).regs := State.canonical_setReg _ _ _ h

/-- The bank of power-on lists nothing. -/
theorem canonical_nil : Canonical [] := ⟨rfl, fun _ hx => absurd hx List.not_mem_nil⟩

theorem canonical_filter {m : KMap W32} (p : Nat × W32 → Bool) (h : Canonical m) : Canonical (m.filter p) :=
  ⟨KMap.wf_filter m p h.1, fun x hx => h.2 x (List.mem_filter.1 hx).1⟩

/-- A reset builds the bank anew, from whatever bank it finds. -/
theorem State.canonical_rebuilt (s : State) (cold : Bool) : Canonical (s.rebuilt cold).regs := by
  unfold State.rebuilt
  exact State.canonical_setRbit _ _ _ _ (State.canonical_foldl (fun t x ht => State.canonical_keepWord s t x ht) _ _ canonical_nil)

@[simp] theorem State.sklDrain_regs (s : State) : (s.sklDrain).regs = s.regs := by
  unfold State.sklDrain
  grind [State.onSkl_regs, State.sklAccept_regs, State.foldl_regs]

@[simp] theorem State.releasePins_regs (s : State) : (s.releasePins).regs = s.regs := by
  unfold State.releasePins
  grind [State.emit_regs, State.hlkFree_regs, State.foldl_regs]

theorem State.canonical_resetCause (s : State) (bit : Nat) (h : Canonical s.regs) : Canonical (s.resetCause bit).regs
    := by
  unfold State.resetCause
  grind [State.canonical_setRf, State.canonical_setRbit]

@[simp] theorem State.discard_regs (s : State) (xs : List Nat) : (s.discard xs).regs = s.regs := by
  unfold State.discard
  grind [State.nextDraw_regs, State.onCrp_regs, State.foldl_regs]

theorem State.canonical_startBoot (s : State) (h : Canonical s.regs) : Canonical (s.startBoot).regs := by
  unfold State.startBoot
  grind [State.onCrp_regs, State.canonical_bootSelect]

theorem State.canonical_warmReset (s : State) (bit : Nat) (h : Canonical s.regs) : Canonical (s.warmReset bit).regs :=
    by
  unfold State.warmReset
  grind [State.canonical_setRbit, State.canonical_bump, State.emit_regs, State.nextDraw_regs, State.onCrp_regs,
    State.canonical_attestWarm, State.canonical_rebuilt, canonical_filter, State.sklDrain_regs,
    State.releasePins_regs, State.canonical_resetCause, State.discard_regs, State.canonical_startBoot]

theorem State.canonical_coldReset (s : State) (bit : Nat) (boot : BootSt) (_h : Canonical s.regs) : Canonical
    (s.coldReset bit boot).regs := by
  unfold State.coldReset
  grind [State.canonical_bump, State.emit_regs, State.nextDraw_regs, State.onData_regs, State.onCrp_regs,
    State.canonical_attestWarm, State.canonical_rebuilt, canonical_filter, State.sklDrain_regs,
    State.releasePins_regs, State.canonical_resetCause, State.discard_regs, State.canonical_startBoot]

theorem State.canonical_coldCommand (s : State) (bit : Nat) (h : Canonical s.regs) : Canonical
    (s.coldCommand bit).regs := by
  unfold State.coldCommand
  grind [State.canonical_coldReset]

theorem State.canonical_loadTick (s : State) (h : Canonical s.regs) : Canonical (s.loadTick).regs := by
  unfold State.loadTick
  grind [State.canonical_setPair, State.emit_regs, State.onSkl_regs, State.onFld_regs]

theorem State.canonical_retrainStale (s : State) (h : Canonical s.regs) : Canonical (s.retrainStale).regs := by
  unfold State.retrainStale
  grind [State.canonical_bump, State.canonical_trainSet, State.canonical_foldl]

@[simp] theorem State.openOob_regs (s : State) : (s.openOob).regs = s.regs := by
  unfold State.openOob
  grind [State.setSq_regs, State.setCq_regs]

theorem State.canonical_bootDone (s : State) (h : Canonical s.regs) : Canonical s.bootDone.regs := by
  have ho : s.loadTick.openOob.bankOk := State.bankOk_congr (State.openOob_regs _) (State.canonical_loadTick _ h)
  have hr : (((s.loadTick.openOob.setRbit Reg.fldStatus 0 true).setRbit Reg.crpStatus 3 false).setRf Reg.fldCores 7 0 0xFF).bankOk :=
    State.bankOk_setRf _ _ _ _ _ (State.bankOk_setRbit _ _ _ _ (State.bankOk_setRbit _ _ _ _ ho))
  have hi : ∀ u : State, u.bankOk → (if u.initDone then u.placeRegions else u).bankOk := fun u hu =>
    State.bankOk_ite (State.bankOk_congr (State.placeRegions_regs _) hu) hu
  have hb : s.bootDone.bankOk := by
    unfold State.bootDone
    exact State.bankOk_ite (State.bankOk_congr (State.sklFold_regs _ _ _ _ _) (hi _ (State.bankOk_congr (by rw [State.onCrp_regs, State.onDhd_regs, State.onFld_regs]) hr)))
      (hi _ (State.bankOk_congr (by rw [State.onCrp_regs, State.onDhd_regs, State.onFld_regs]) hr))
  exact hb

theorem State.canonical_warmTick (s : State) (h : Canonical s.regs) : Canonical (s.warmTick).regs := by
  unfold State.warmTick
  grind [State.canonical_retrainStale, State.canonical_bootDone]

@[simp] theorem State.sklRetest_regs (s : State) (ok : Bool) : (s.sklRetest ok).regs = s.regs := by
  unfold State.sklRetest
  grind [State.onSkl_regs, State.lastWord_regs]

theorem canonical_execDdrTrainingComplete (failed : List (Fin 16)) (rate gib : Nat) (temp : Int) (sklOk : Bool)
    (s : State) (h : Canonical s.regs) : ∃ u, execDdrTrainingComplete failed rate gib temp sklOk s = .next u ∧
    Canonical u.regs := by
  refine ⟨_, rfl, ?_⟩
  grind [State.canonical_setReg, State.canonical_setRf, State.sklHw_regs, State.canonical_memLatch,
    State.canonical_trainSet, State.canonical_bootDone, State.sklRetest_regs, State.canonical_foldl]

theorem State.canonical_powerUp (s : State) : Canonical s.powerUp.regs := by
  unfold State.powerUp
  dsimp only
  refine State.canonical_attestPor _ _ ?_
  rw [State.nextDraw_regs, State.onData_regs]
  exact State.canonical_setRbit _ _ _ _ canonical_nil

theorem canonical_execPowerOnReset (s : State) (_h : Canonical s.regs) : ∃ u, execPowerOnReset s = .next u ∧ Canonical
    u.regs := by
  refine ⟨_, rfl, ?_⟩
  grind [State.emit_regs, State.releasePins_regs, State.canonical_powerUp]

theorem canonical_execPowerLoss (s : State) (_h : Canonical s.regs) : ∃ u, execPowerLoss s = .next u ∧ Canonical
    u.regs := by
  refine ⟨_, rfl, ?_⟩
  grind [State.onCrp_regs, State.releasePins_regs, State.canonical_powerUp]

theorem canonical_execColdReset (s : State) (h : Canonical s.regs) : ∃ u, execColdReset s = .next u ∧ Canonical u.regs
    := by
  refine ⟨_, rfl, ?_⟩
  grind [State.onCrp_regs, State.canonical_coldReset]

theorem canonical_execSysResetNRelease (s : State) (h : Canonical s.regs) : ∃ u, execSysResetNRelease s = .next u ∧
    Canonical u.regs := by
  refine ⟨_, rfl, ?_⟩
  grind [State.emit_regs, State.onCrp_regs, State.canonical_startBoot]

theorem canonical_execCrpResetWarm (val : W32) (s : State) (h : Canonical s.regs) : ∃ u, execCrpResetWarm val s =
    .next u ∧ Canonical u.regs := by
  refine ⟨_, rfl, ?_⟩
  grind [State.canonical_warmReset, State.canonical_coldCommand]

theorem canonical_execCrpResetCold (val : W32) (s : State) (h : Canonical s.regs) : ∃ u, execCrpResetCold val s =
    .next u ∧ Canonical u.regs := by
  refine ⟨_, rfl, ?_⟩
  grind [State.canonical_warmReset, State.canonical_coldCommand]

theorem canonical_execWatchdogExpiry (s : State) (h : Canonical s.regs) : ∃ u, execWatchdogExpiry s = .next u ∧
    Canonical u.regs := by
  refine ⟨_, rfl, ?_⟩
  grind [State.sklHw_regs, State.lastWord_regs, State.canonical_latch, State.canonical_warmReset]

theorem canonical_execActivateReset (s : State) (h : Canonical s.regs) : ∃ u, execActivateReset s = .next u ∧
    Canonical u.regs := by
  refine ⟨_, rfl, ?_⟩
  grind [State.canonical_warmReset]

theorem canonical_execTagParityError (way : Fin 16) (set : Nat) (dirty : Bool) (s : State) (h : Canonical s.regs) : ∃
    u, execTagParityError way set dirty s = .next u ∧ Canonical u.regs := by
  refine ⟨_, rfl, ?_⟩
  grind [State.canonical_bump, State.onHth_regs, State.sklHw_regs, State.lastWord_regs, State.canonical_latch,
    State.canonical_warmReset]

@[simp] theorem State.muteFn_regs (s : State) (fn : Nat) : (s.muteFn fn).regs = s.regs := by
  unfold State.muteFn
  grind [State.onEz_regs]

theorem State.canonical_cutFn (s : State) (fn : Nat) (h : Canonical s.regs) : Canonical (s.cutFn fn).regs := by
  unfold State.cutFn
  grind [State.freeEntry_regs, State.dropRec_regs, State.canonical_endPut, State.canonical_foldl]

theorem State.canonical_endSessionsOf (s : State) (fn : Nat) (h : Canonical s.regs) : Canonical
    (s.endSessionsOf fn).regs := by
  unfold State.endSessionsOf
  grind [State.freeEntry_regs, State.canonical_releaseHoldings, State.endSession_regs, State.canonical_foldl]

theorem State.canonical_dropRingsOf (s : State) (fn : Nat) (h : Canonical s.regs) : Canonical (s.dropRingsOf fn).regs
    := by
  unfold State.dropRingsOf
  grind [State.canonical_setRbit, State.onEz_regs, State.setSrc_regs, State.setSq_regs, State.freeEntry_regs,
    State.resetRing_regs, State.freeRing_regs, State.canonical_foldl]

@[simp] theorem State.clearHrwOf_regs (s : State) (fn : Nat) : (s.clearHrwOf fn).regs = s.regs := by
  unfold State.clearHrwOf
  grind [State.onHrw_regs, State.setFn_regs]

theorem State.canonical_resetFn (s : State) (fn : Nat) (h : Canonical s.regs) : Canonical (s.resetFn fn).regs := by
  unfold State.resetFn
  grind [State.canonical_dropSpaces, State.muteFn_regs, State.canonical_cutFn, State.canonical_endSessionsOf,
    State.canonical_dropRingsOf, State.clearHrwOf_regs]

theorem canonical_execFunctionLevelReset (fn : Nat) (s : State) (h : Canonical s.regs) : ∃ u, execFunctionLevelReset
    fn s = .next u ∧ Canonical u.regs := by
  refine ⟨_, rfl, ?_⟩
  grind [State.canonical_resetFn]

theorem canonical_execHostLinkReset (s : State) (h : Canonical s.regs) : ∃ u, execHostLinkReset s = .next u ∧
    Canonical u.regs := by
  refine ⟨_, rfl, ?_⟩
  grind [State.onHrw_regs, State.onCrp_regs, State.canonical_resetCause, State.discard_regs, State.canonical_resetFn,
    State.canonical_foldl]

theorem canonical_execPerstNRelease (s : State) (h : Canonical s.regs) : ∃ u, execPerstNRelease s = .next u ∧
    Canonical u.regs := by
  refine ⟨_, rfl, ?_⟩
  grind [State.onCrp_regs]

@[simp] theorem State.corePower_regs (s : State) (b : Bool) : (s.corePower b).regs = s.regs := by
  unfold State.corePower
  grind [State.emit_regs, State.onCrp_regs]

theorem canonical_execSocPgRise (s : State) (h : Canonical s.regs) : ∃ u, execSocPgRise s = .next u ∧ Canonical u.regs
    := by
  refine ⟨_, rfl, ?_⟩
  grind [State.onCrp_regs, State.corePower_regs]

theorem canonical_execCorePwrEnRetry (s : State) (h : Canonical s.regs) : ∃ u, execCorePwrEnRetry s = .next u ∧
    Canonical u.regs := by
  refine ⟨_, rfl, ?_⟩
  grind [State.corePower_regs]

theorem canonical_execSocPgFall (s : State) (h : Canonical s.regs) : ∃ u, execSocPgFall s = .next u ∧ Canonical u.regs
    := by
  refine ⟨_, rfl, ?_⟩
  grind [State.onCrp_regs, State.canonical_coldReset, State.corePower_regs]

theorem canonical_execCorePgFall (s : State) (h : Canonical s.regs) : ∃ u, execCorePgFall s = .next u ∧ Canonical
    u.regs := by
  refine ⟨_, rfl, ?_⟩
  grind [State.onCrp_regs, State.canonical_coldReset]

theorem State.canonical_showGated (s : State) (h : Canonical s.regs) : Canonical (s.showGated).regs := by
  unfold State.showGated
  grind [State.canonical_setRf]

theorem canonical_execBlockIdleGate (block inst : Nat) (s : State) (h : Canonical s.regs) : ∃ u, execBlockIdleGate
    block inst s = .next u ∧ Canonical u.regs := by
  refine ⟨_, rfl, ?_⟩
  grind [State.onCrp_regs, State.canonical_showGated]

theorem canonical_execBlockUngate (block inst : Nat) (s : State) (h : Canonical s.regs) : ∃ u, execBlockUngate block
    inst s = .next u ∧ Canonical u.regs := by
  refine ⟨_, rfl, ?_⟩
  grind [State.onCrp_regs, State.canonical_showGated]

theorem State.canonical_pstateRes (s : State) (st dt : Nat) (h : Canonical s.regs) : Canonical
    (s.pstateRes st dt).regs := by
  unfold State.pstateRes
  grind [State.canonical_setReg]

theorem State.canonical_closeAll (s : State) (h : Canonical s.regs) : Canonical (s.closeAll).regs := by
  unfold State.closeAll
  grind [State.onConn_regs, State.canonical_finishConn, State.canonical_foldl]

theorem State.canonical_dropCore (s : State) (h : Canonical s.regs) : Canonical s.dropCore.regs := by
  unfold State.dropCore
  refine State.canonical_setReg _ _ _ (State.canonical_foldl (fun s x hs => State.canonical_setReg _ _ _ hs) _ _
    (canonical_filter _ (State.canonical_dropSpaces _ _ (State.canonical_foldl (fun s c hs => ?_) _ _ h))))
  split
  · exact State.canonical_failWindows _ _ _ _ (State.canonical_opsEnd _ _ _ _ hs)
  · exact hs

theorem State.canonical_p2Leave (s : State) (h : Canonical s.regs) : Canonical (s.p2Leave).regs := by
  unfold State.p2Leave
  grind [State.canonical_setRbit, State.onCrp_regs, State.corePower_regs, State.canonical_pstateRes]

theorem State.canonical_p2Try (s : State) (h : Canonical s.regs) : Canonical (s.p2Try).regs := by
  unfold State.p2Try
  grind [State.canonical_setReg, State.canonical_setRf, State.onCrp_regs, State.canonical_commitBatch,
    State.corePower_regs, State.canonical_pstateRes, State.canonical_dropCore, State.canonical_p2Leave,
    State.canonical_foldl]

theorem State.canonical_p2Enter (s : State) (h : Canonical s.regs) : Canonical (s.p2Enter).regs := by
  unfold State.p2Enter
  grind [State.canonical_setRbit, State.onCrp_regs, State.canonical_disableHeather, State.canonical_pstateRes,
    State.canonical_closeAll, State.canonical_p2Try]

theorem State.canonical_holdReq (s : State) (r : Nat) (h : Canonical s.regs) : Canonical (s.holdReq r).regs := by
  unfold State.holdReq
  grind [State.canonical_setRf, State.onCrp_regs]

theorem State.canonical_pstateWrite (s : State) (val : W32) (h : Canonical s.regs) : Canonical
    (s.pstateWrite val).regs := by
  unfold State.pstateWrite
  grind [State.canonical_setRf, State.canonical_pstateRes, State.canonical_p2Leave, State.canonical_p2Enter,
    State.canonical_holdReq]

theorem canonical_execPstateP2Request (val : W32) (s : State) (h : Canonical s.regs) : ∃ u, execPstateP2Request val s
    = .next u ∧ Canonical u.regs := by
  refine ⟨_, rfl, ?_⟩
  grind [State.canonical_pstateWrite]

theorem canonical_execPstateP0Request (val : W32) (s : State) (h : Canonical s.regs) : ∃ u, execPstateP0Request val s
    = .next u ∧ Canonical u.regs := by
  refine ⟨_, rfl, ?_⟩
  grind [State.canonical_pstateWrite]

theorem canonical_execAlwaysOnWake (s : State) (h : Canonical s.regs) : ∃ u, execAlwaysOnWake s = .next u ∧ Canonical
    u.regs := by
  refine ⟨_, rfl, ?_⟩
  grind [State.emit_regs, State.canonical_p2Leave]

theorem canonical_execCleanComplete (s : State) (h : Canonical s.regs) : ∃ u, execCleanComplete s = .next u ∧
    Canonical u.regs := by
  refine ⟨_, rfl, ?_⟩
  grind [State.canonical_cleanDone, State.canonical_p2Try]

theorem State.canonical_p2Done (s : State) (h : Canonical s.regs) : Canonical (s.p2Done).regs := by
  unfold State.p2Done
  grind [State.canonical_setReg, State.canonical_setRf, State.canonical_bump, State.onEz_regs, State.onDhd_regs,
    State.onCrp_regs, State.onFld_regs, State.canonical_trainSet, State.discard_regs, State.canonical_pstateRes,
    State.canonical_p2Enter, State.canonical_foldl]

theorem canonical_execCorePgRise (s : State) (h : Canonical s.regs) : ∃ u, execCorePgRise s = .next u ∧ Canonical
    u.regs := by
  refine ⟨_, rfl, ?_⟩
  grind [State.emit_regs, State.onCrp_regs, State.canonical_startBoot, State.canonical_p2Done]

theorem canonical_execCorePgTimeout (s : State) (h : Canonical s.regs) : ∃ u, execCorePgTimeout s = .next u ∧
    Canonical u.regs := by
  refine ⟨_, rfl, ?_⟩
  grind [State.canonical_setRf, State.canonical_setRbit, State.onCrp_regs, State.sklStatus_regs, State.corePower_regs,
    State.canonical_pstateRes, State.canonical_p2Leave]

theorem State.canonical_clockDown (s : State) (dom : Nat) (h : Canonical s.regs) : Canonical (s.clockDown dom).regs :=
    by
  unfold State.clockDown
  grind [State.canonical_contain, State.onNport_regs, State.canonical_portDown, State.canonical_foldl]

theorem canonical_execClockFault (dom : Fin 10) (stopped : Bool) (s : State) (h : Canonical s.regs) : ∃ u,
    execClockFault dom stopped s = .next u ∧ Canonical u.regs := by
  refine ⟨_, rfl, ?_⟩
  grind [State.canonical_setRbit, State.onCrp_regs, State.raise_regs, State.sklHw_regs, State.canonical_clockDown]

theorem canonical_execPllRelock (dom : Fin 10) (s : State) (h : Canonical s.regs) : ∃ u, execPllRelock dom s = .next u
    ∧ Canonical u.regs := by
  refine ⟨_, rfl, ?_⟩
  grind [State.onCrp_regs]

theorem State.canonical_showTemp (s : State) (h : Canonical s.regs) : Canonical (s.showTemp).regs := by
  unfold State.showTemp
  grind [State.canonical_setReg, State.canonical_setRf]

theorem State.canonical_judgeAlarm (s : State) (h : Canonical s.regs) : Canonical (s.judgeAlarm).regs := by
  unfold State.judgeAlarm
  grind [State.canonical_setRbit, State.emit_regs, State.setLevel_regs, State.sklFold_regs]

theorem canonical_execThermalSample (sensor : Fin 14) (temp : Int) (s : State) (h : Canonical s.regs) : ∃ u,
    execThermalSample sensor temp s = .next u ∧ Canonical u.regs := by
  refine ⟨_, rfl, ?_⟩
  grind [State.canonical_setRf, State.canonical_showTemp, State.canonical_judgeAlarm]

theorem canonical_execThermalTrip (s : State) (h : Canonical s.regs) : ∃ u, execThermalTrip s = .next u ∧ Canonical
    u.regs := by
  refine ⟨_, rfl, ?_⟩
  grind [State.canonical_setRbit, State.emit_regs, State.onCrp_regs, State.sklHw_regs, State.lastWord_regs,
    State.canonical_coldReset, State.corePower_regs]

theorem canonical_execTripEnd (s : State) (h : Canonical s.regs) : ∃ u, execTripEnd s = .next u ∧ Canonical u.regs :=
    by
  refine ⟨_, rfl, ?_⟩
  grind [State.emit_regs, State.onCrp_regs, State.corePower_regs]

/-! ### Servo -/

theorem State.canonical_atTape (s : State) (t : Fin 2) (f : State → Nat → State)
    (hf : ∀ s n, Canonical s.regs → Canonical (f s n).regs) (h : Canonical s.regs) :
    ∃ u, s.atTape t f = .next u ∧ Canonical u.regs := by
  refine ⟨_, rfl, ?_⟩
  split
  · exact hf _ _ h
  · exact h

theorem State.canonical_setWState (s : State) (t v : Nat) (h : Canonical s.regs) : Canonical (s.setWState t v).regs :=
    by
  unfold State.setWState
  grind [State.canonical_setRf]

@[simp] theorem State.cmWrite_regs (s : State) (t off : Nat) (b : Bytes) : (s.cmWrite t off b).regs = s.regs := by
  unfold State.cmWrite
  grind [State.emit_regs, State.onTape_regs]

@[simp] theorem State.cmCrc_regs (s : State) (t lo n at_ : Nat) : (s.cmCrc t lo n at_).regs = s.regs := by
  unfold State.cmCrc
  grind [State.cmWrite_regs]

theorem State.canonical_cmFlag (s : State) (t i : Nat) (b : Bool) (h : Canonical s.regs) : Canonical
    (s.cmFlag t i b).regs := by
  unfold State.cmFlag
  grind [State.canonical_setRbit, State.cmWrite_regs, State.cmCrc_regs]

theorem State.canonical_showWprot (s : State) (t : Nat) (h : Canonical s.regs) : Canonical (s.showWprot t).regs := by
  unfold State.showWprot
  grind [State.canonical_setRbit]

theorem State.canonical_setGate (s : State) (t : Nat) (b : Bool) (h : Canonical s.regs) : Canonical
    (s.setGate t b).regs := by
  unfold State.setGate
  grind [State.canonical_setRbit, State.emit_regs]

theorem State.canonical_arm (s : State) (t : Nat) (b : Bool) (h : Canonical s.regs) : Canonical (s.arm t b).regs := by
  unfold State.arm
  grind [State.canonical_setRbit, State.canonical_setGate]

theorem State.canonical_run (s : State) (t : Nat) (mms : Nat) (rev : Bool) (rate : Nat) (h : Canonical s.regs) :
    Canonical (s.run t mms rev rate).regs := by
  unfold State.run
  grind [State.canonical_setRbit, State.onTape_regs, State.canonical_cmd]

theorem State.canonical_runStep (s : State) (t k : Nat) (h : Canonical s.regs) : Canonical (s.runStep t k).regs := by
  unfold State.runStep
  grind [State.canonical_setRf, State.canonical_run]

theorem State.canonical_changeStep (s : State) (t k : Nat) (h : Canonical s.regs) : Canonical (s.changeStep t k).regs
    := by
  unfold State.changeStep
  grind [State.canonical_setRf, State.canonical_run]

theorem State.canonical_halt (s : State) (t : Nat) (h : Canonical s.regs) : Canonical (s.halt t).regs := by
  unfold State.halt
  grind [State.canonical_run]

theorem State.canonical_targetWrap (s : State) (t w : Nat) (h : Canonical s.regs) : Canonical (s.targetWrap t w).regs
    := by
  unfold State.targetWrap
  grind [State.canonical_setRf, State.onTape_regs]

theorem State.canonical_setGlnMode (s : State) (t m : Nat) (h : Canonical s.regs) : Canonical (s.setGlnMode t m).regs
    := by
  unfold State.setGlnMode
  grind [State.canonical_setRf]

theorem State.canonical_rewind (s : State) (t : Nat) (cmOk : Bool) (h : Canonical s.regs) : Canonical
    (s.rewind t cmOk).regs := by
  unfold State.rewind
  grind [State.emit_regs, State.onTape_regs, State.canonical_latch, State.canonical_setWState, State.cmWrite_regs,
    State.canonical_arm, State.canonical_run]

theorem State.canonical_unloadGo (s : State) (t : Nat) (h : Canonical s.regs) : Canonical (s.unloadGo t).regs := by
  unfold State.unloadGo
  grind [State.onTape_regs, State.canonical_setWState, State.canonical_rewind]

theorem State.canonical_endJob (s : State) (t st dt : Nat) (h : Canonical s.regs) : Canonical (s.endJob t st dt).regs
    := by
  unfold State.endJob
  grind [State.canonical_setRf, State.canonical_setRbit, State.onTape_regs, State.canonical_finalOf,
    State.canonical_setWState, State.canonical_setGlnMode, State.canonical_unloadGo]

theorem State.canonical_abortQueue (s : State) (t : Nat) (h : Canonical s.regs) : Canonical (s.abortQueue t).regs :=
    by
  unfold State.abortQueue
  grind [State.onTape_regs, State.canonical_finalOf, State.canonical_foldl]

theorem State.canonical_dismount (s : State) (t : Nat) (h : Canonical s.regs) : Canonical (s.dismount t).regs := by
  unfold State.dismount
  grind [State.canonical_setReg, State.canonical_setRf, State.onTape_regs, State.lastWord_regs, State.canonical_cmd,
    State.canonical_arm]

@[simp] theorem State.sendUnload_regs (s : State) (t : Nat) : (s.sendUnload t).regs = s.regs := by
  unfold State.sendUnload
  grind [State.onTape_regs, State.canonical_cmd]

theorem State.canonical_mountFail (s : State) (t st dt : Nat) (h : Canonical s.regs) : Canonical
    (s.mountFail t st dt).regs := by
  unfold State.mountFail
  grind [State.onTape_regs, State.canonical_finalOf, State.canonical_arm, State.canonical_dismount,
    State.sendUnload_regs]

theorem State.canonical_transportFault (s : State) (t dt : Nat) (h : Canonical s.regs) : Canonical
    (s.transportFault t dt).regs := by
  unfold State.transportFault
  grind [State.onTape_regs, State.canonical_setWState, State.canonical_setGate, State.canonical_endJob,
    State.canonical_abortQueue, State.sendUnload_regs, State.canonical_mountFail]

@[simp] theorem State.actuatorFrame_regs (s : State) (t : Nat) : (s.actuatorFrame t).regs = s.regs := by
  unfold State.actuatorFrame
  grind [State.emit_regs]

theorem State.canonical_maybe {c : Prop} [Decidable c] (g : State → State) (hg : ∀ s, Canonical s.regs → Canonical (g s).regs)
    {s : State} (h : Canonical s.regs) : Canonical (if c then g s else s).regs := by
  split
  · exact hg _ h
  · exact h

theorem canonical_execServoSample (t : Fin 2) (ms : List ServoMeas) (speed : Nat) (s : State) (h : Canonical s.regs) :
    ∃ u, execServoSample t ms speed s = .next u ∧ Canonical u.regs := by
  refine State.canonical_atTape _ _ _ (fun s n h => ?_) h
  rw [State.actuatorFrame_regs]
  refine State.canonical_maybe (fun s => s.mountFail _ _ _) (fun s h => State.canonical_mountFail _ _ _ _ h)
    (State.canonical_maybe (fun s => s.setRf _ _ _ _) (fun s h => State.canonical_setRf _ _ _ _ _ h) ?_)
  rw [State.onTape_regs]
  have hok : Canonical (if (ms.filter servoMeasOk).isEmpty then s.setRf (Reg.glnSrvStatus n) 4 1 (bitsWhere 4 fun c =>
      (ms.filter servoMeasOk).any fun m => m.line.val == c) else
      (s.setRf (Reg.glnSrvStatus n) 4 1 (bitsWhere 4 fun c => (ms.filter servoMeasOk).any fun m => m.line.val == c)).setRf
        (Reg.glnSrvPes n) 31 16 (min 65535 speed)).regs := by
    grind [State.canonical_setRf]
  split
  · rw [State.onTape_regs, State.onTape_regs]
    exact State.canonical_setRf _ _ _ _ _ hok
  · rw [State.onTape_regs]
    exact hok

theorem canonical_execServoLock (t : Fin 2) (s : State) (h : Canonical s.regs) : ∃ u, execServoLock t s = .next u ∧
    Canonical u.regs := by
  unfold execServoLock
  refine State.canonical_atTape _ _ _ (fun s n h => ?_) h
  grind [State.canonical_setRbit, State.onTape_regs]

theorem canonical_execServoUnlock (t : Fin 2) (s : State) (h : Canonical s.regs) : ∃ u, execServoUnlock t s = .next u
    ∧ Canonical u.regs := by
  unfold execServoUnlock
  refine State.canonical_atTape _ _ _ (fun s n h => ?_) h
  grind [State.canonical_setRbit, State.canonical_bump, State.onTape_regs, State.lastWord_regs, State.canonical_latch]

theorem canonical_execPositionWord (t : Fin 2) (word : BitVec 64) (s : State) (h : Canonical s.regs) : ∃ u,
    execPositionWord t word s = .next u ∧ Canonical u.regs := by
  unfold execPositionWord
  refine State.canonical_atTape _ _ _ (fun s n h => ?_) h
  grind [State.canonical_setReg, State.canonical_setRbit, State.onTape_regs, State.lastWord_regs,
    State.canonical_latch, State.canonical_setGlnMode]

theorem canonical_execWriteGateClose (t : Fin 2) (slot : Nat) (s : State) (h : Canonical s.regs) : ∃ u,
    execWriteGateClose t slot s = .next u ∧ Canonical u.regs := by
  unfold execWriteGateClose
  refine State.canonical_atTape _ _ _ (fun s n h => ?_) h
  grind [State.canonical_bump, State.onTape_regs, State.canonical_setGate]

theorem canonical_execReelSetpointFrame (t : Fin 2) (s : State) (h : Canonical s.regs) : ∃ u, execReelSetpointFrame t
    s = .next u ∧ Canonical u.regs := by
  unfold execReelSetpointFrame
  refine State.canonical_atTape _ _ _ (fun s n h => ?_) h
  grind [State.canonical_setRf, State.emit_regs, State.onTape_regs, State.canonical_cmd]

theorem canonical_execReelLinkSilent (t : Fin 2) (s : State) (h : Canonical s.regs) : ∃ u, execReelLinkSilent t s =
    .next u ∧ Canonical u.regs := by
  unfold execReelLinkSilent
  refine State.canonical_atTape _ _ _ (fun s n h => ?_) h
  grind [State.onTape_regs, State.canonical_latch, State.canonical_transportFault]

theorem State.canonical_preamp (s : State) (t : Nat) (ok : Bool) (h : Canonical s.regs) : Canonical
    (s.preamp t ok).regs := by
  unfold State.preamp
  grind [State.emit_regs, State.canonical_latch, State.canonical_transportFault]

theorem canonical_execReelStatusFrame (t : Fin 2) (loaded wpSw tensionOk fault crcOk : Bool) (supply takeup : Nat)
    (preOk : Bool) (s : State) (h : Canonical s.regs) : ∃ u, execReelStatusFrame t loaded wpSw tensionOk fault crcOk
    supply takeup preOk s = .next u ∧ Canonical u.regs := by
  unfold execReelStatusFrame
  refine State.canonical_atTape _ _ _ (fun s n h => ?_) h
  grind [State.canonical_setRbit, State.onTape_regs, State.lastWord_regs, State.canonical_latch,
    State.canonical_finalOf, State.canonical_showWprot, State.canonical_arm, State.canonical_runStep,
    State.canonical_targetWrap, State.canonical_dismount, State.canonical_transportFault, State.canonical_preamp]

theorem canonical_execMountLoadTimeout (t : Fin 2) (s : State) (h : Canonical s.regs) : ∃ u, execMountLoadTimeout t s
    = .next u ∧ Canonical u.regs := by
  unfold execMountLoadTimeout
  refine State.canonical_atTape _ _ _ (fun s n h => ?_) h
  grind [State.canonical_mountFail]

/-! ### TapeWrite -/

@[simp] theorem State.onJob_regs (s : State) (t : Nat) (f : TJob → TJob) : (s.onJob t f).regs = s.regs := by
  unfold State.onJob
  grind [State.onTape_regs]

@[simp] theorem State.skipUnfit_regs (s : State) (t : Nat) : (s.skipUnfit t).regs = s.regs := by
  unfold State.skipUnfit
  grind [State.onJob_regs]

@[simp] theorem State.appendRec_regs (s : State) (t : Nat) (r : TRec) (kind id : Nat) (body : Bytes) :
    (s.appendRec t r kind id body).regs = s.regs := by
  unfold State.appendRec
  grind [State.onTape_regs]

@[simp] theorem State.inputLeft_regs (s : State) (t : Nat) : (s.inputLeft t).regs = s.regs := by
  unfold State.inputLeft
  grind [State.onTape_regs, State.skipUnfit_regs]

theorem State.intake_regs (t : Nat) (fs : List Fetch) (s : State) : (State.intake t fs s).regs = s.regs := by
  induction fs generalizing s with
  | nil => exact State.inputLeft_regs _ _
  | cons f fs ih =>
    unfold State.intake
    grind [State.inputLeft_regs, State.skipUnfit_regs, State.onJob_regs, State.appendRec_regs]

theorem State.canonical_sendFrame (s : State) (t track : Nat) (head cw : Bytes) (h : Canonical s.regs) : Canonical
    (s.sendFrame t track head cw).regs := by
  unfold State.sendFrame
  grind [State.canonical_addPair, State.emit_regs]

theorem State.canonical_sendCw (s : State) (t track : Nat) (w : WSet) (cw : Nat) (rew : Bool) (h : Canonical s.regs) :
    Canonical (s.sendCw t track w cw rew).regs := by
  unfold State.sendCw
  grind [State.canonical_sendFrame]

theorem State.canonical_writeSet (s : State) (t : Nat) (w : WSet) (h : Canonical s.regs) : Canonical (s.writeSet t w).regs := by
  unfold State.writeSet
  exact State.canonical_foldl (fun s p hs => State.canonical_sendCw _ _ _ _ _ _ hs) _ _
    (State.canonical_setReg _ _ _ (by rw [State.onTape_regs]; exact h))

theorem State.bankOk_newSet (s : State) (t kind : Nat) (arrays : List Bytes) (h : s.bankOk) :
    (s.newSet t kind arrays).bankOk := by
  unfold State.newSet
  have hn : ((s.tally 4 dsBytes).onTape t fun x => { x with nextDsn := (s.tape t).nextDsn + 1 }).bankOk :=
    State.bankOk_congr (by rw [State.onTape_regs, State.tally_regs]) h
  exact (State.canonical_writeSet _ _ _ hn : State.bankOk _)

theorem State.canonical_newSet (s : State) (t kind : Nat) (arrays : List Bytes) (h : Canonical s.regs) :
    Canonical (s.newSet t kind arrays).regs := State.bankOk_newSet s t kind arrays h

theorem State.canonical_writeEmpty (s : State) (t kind : Nat) (h : Canonical s.regs) : Canonical
    (s.writeEmpty t kind).regs := by
  unfold State.writeEmpty
  grind [State.canonical_newSet]

theorem State.canonical_cutSet (s : State) (t : Nat) (h : Canonical s.regs) : Canonical (s.cutSet t).regs := by
  unfold State.cutSet
  grind [State.onTape_regs, State.onJob_regs, State.canonical_newSet]

@[simp] theorem State.padSet_regs (s : State) (t : Nat) : (s.padSet t).regs = s.regs := by
  unfold State.padSet
  grind [State.onTape_regs, State.appendRec_regs]

theorem State.canonical_writeParity (s : State) (t : Nat) (g : C3Group) (h : Canonical s.regs) : Canonical
    (s.writeParity t g).regs := by
  unfold State.writeParity
  grind [State.onTape_regs, State.canonical_newSet]

theorem State.canonical_endWriting (s : State) (t st : Nat) (h : Canonical s.regs) : Canonical
    (s.endWriting t st).regs := by
  unfold State.endWriting
  grind [State.onTape_regs, State.canonical_setWState, State.canonical_setGate, State.canonical_setGlnMode]

theorem State.canonical_stopWriting (s : State) (t : Nat) (h : Canonical s.regs) : Canonical (s.stopWriting t).regs :=
    by
  unfold State.stopWriting
  grind [State.onTape_regs, State.canonical_halt, State.canonical_endWriting]

theorem State.canonical_turn (s : State) (t : Nat) (h : Canonical s.regs) : Canonical (s.turn t).regs := by
  unfold State.turn
  grind [State.onTape_regs, State.canonical_runStep, State.canonical_targetWrap, State.canonical_endJob,
    State.canonical_endWriting, State.canonical_stopWriting]

theorem State.canonical_writeNext (s : State) (t : Nat) (h : Canonical s.regs) : Canonical (s.writeNext t).regs := by
  unfold State.writeNext
  grind [State.canonical_bump, State.onTape_regs, State.canonical_writeSet, State.canonical_writeEmpty,
    State.canonical_cutSet, State.padSet_regs, State.canonical_writeParity, State.canonical_endWriting,
    State.canonical_stopWriting, State.canonical_turn]

theorem State.canonical_writeArea (s : State) (t n : Nat) (h : Canonical s.regs) : Canonical (s.writeArea t n).regs :=
    by
  unfold State.writeArea
  grind [State.canonical_bump, State.onTape_regs, State.canonical_sendFrame, State.canonical_sendCw,
    State.canonical_foldl]

theorem State.canonical_badZone (s : State) (t : Nat) (w : WSet) (h : Canonical s.regs) : Canonical
    (s.badZone t w).regs := by
  unfold State.badZone
  grind [State.canonical_bump, State.onTape_regs, State.canonical_latch, State.cmWrite_regs, State.cmCrc_regs,
    State.canonical_cmFlag, State.canonical_showWprot, State.canonical_endJob, State.onJob_regs,
    State.canonical_endWriting, State.canonical_stopWriting]

theorem State.canonical_needCopy (s : State) (t : Nat) (w : WSet) (h : Canonical s.regs) : Canonical
    (s.needCopy t w).regs := by
  unfold State.needCopy
  grind [State.onTape_regs, State.canonical_badZone]

theorem State.canonical_commitPassed (s : State) (t : Nat) (h : Canonical s.regs) : Canonical (s.commitPassed t).regs
    := by
  unfold State.commitPassed
  grind [State.onTape_regs, State.canonical_makeRec, State.canonical_foldl]

@[simp] theorem State.releaseSets_regs (s : State) (t : Nat) : (s.releaseSets t).regs = s.regs := by
  unfold State.releaseSets
  grind [State.onTape_regs]

theorem State.canonical_verdict (s : State) (t dsn cw : Nat) (pass : Bool) (h : Canonical s.regs) : Canonical
    (s.verdict t dsn cw pass).regs := by
  unfold State.verdict
  grind [State.onTape_regs, State.canonical_needCopy, State.canonical_commitPassed, State.releaseSets_regs]

theorem canonical_execFrameVerdict (t : Fin 2) (dsn sds cwi : Nat) (v : Verdict) (s : State) (h : Canonical s.regs) :
    ∃ u, execFrameVerdict t dsn sds cwi v s = .next u ∧ Canonical u.regs := by
  unfold execFrameVerdict
  refine State.canonical_atTape _ _ _ (fun s n h => ?_) h
  grind [State.canonical_verdict]

theorem State.canonical_failSlots (s : State) (t dsn lo hi : Nat) (h : Canonical s.regs) : Canonical
    (s.failSlots t dsn lo hi).regs := by
  unfold State.failSlots
  grind [State.canonical_verdict, State.canonical_foldl]

theorem canonical_execWriteGateReopen (t : Fin 2) (slot : Nat) (s : State) (h : Canonical s.regs) : ∃ u,
    execWriteGateReopen t slot s = .next u ∧ Canonical u.regs := by
  unfold execWriteGateReopen
  refine State.canonical_atTape _ _ _ (fun s n h => ?_) h
  grind [State.onTape_regs, State.canonical_setGate, State.canonical_failSlots]

theorem State.canonical_settleJob (s : State) (t : Nat) (h : Canonical s.regs) : Canonical (s.settleJob t).regs := by
  unfold State.settleJob
  grind [State.canonical_fail, State.flush_regs, State.canonical_endJob]

@[simp] theorem State.countEntry_regs (s : State) (t eid : Nat) (ok : Bool) : (s.countEntry t eid ok).regs = s.regs :=
    by
  unfold State.countEntry
  grind [State.onJob_regs]

theorem canonical_execExtentTapeCommit (t : Fin 2) (rseq : Nat) (s : State) (h : Canonical s.regs) : ∃ u,
    execExtentTapeCommit t rseq s = .next u ∧ Canonical u.regs := by
  unfold execExtentTapeCommit
  refine State.canonical_atTape _ _ _ (fun s n h => ?_) h
  grind [State.onTape_regs, State.deliverTo_regs, State.setTree_regs, State.canonical_commitPassed,
    State.canonical_settleJob, State.countEntry_regs]

@[simp] theorem State.formatCm_regs (s : State) (t : Nat) : (s.formatCm t).regs = s.regs := by
  unfold State.formatCm
  grind [State.cmWrite_regs, State.cmCrc_regs]

theorem State.canonical_startAppend (s : State) (t : Nat) (h : Canonical s.regs) : Canonical (s.startAppend t).regs :=
    by
  unfold State.startAppend
  grind [State.canonical_setRf, State.onTape_regs, State.canonical_setWState, State.cmWrite_regs,
    State.canonical_cmFlag, State.canonical_setGlnMode, State.formatCm_regs]

theorem State.canonical_beginWriting (s : State) (t : Nat) (h : Canonical s.regs) : Canonical (s.beginWriting t).regs
    := by
  unfold State.beginWriting
  grind [State.onTape_regs, State.canonical_setGate, State.canonical_writeNext, State.canonical_startAppend]

theorem canonical_execWriteStart (t : Fin 2) (input : List Fetch) (s : State) (h : Canonical s.regs) : ∃ u,
    execWriteStart t input s = .next u ∧ Canonical u.regs := by
  unfold execWriteStart
  refine State.canonical_atTape _ _ _ (fun s n h => ?_) h
  grind [State.flush_regs, State.canonical_setWState, State.canonical_runStep, State.canonical_targetWrap,
    State.onJob_regs, State.intake_regs, State.canonical_settleJob]

theorem canonical_execRampComplete (t : Fin 2) (s : State) (h : Canonical s.regs) : ∃ u, execRampComplete t s = .next
    u ∧ Canonical u.regs := by
  unfold execRampComplete
  refine State.canonical_atTape _ _ _ (fun s n h => ?_) h
  grind [State.canonical_setRf, State.canonical_setRbit, State.sendUnload_regs, State.canonical_beginWriting]

theorem canonical_execAppendResume (t : Fin 2) (s : State) (h : Canonical s.regs) : ∃ u, execAppendResume t s = .next
    u ∧ Canonical u.regs := by
  unfold execAppendResume
  refine State.canonical_atTape _ _ _ (fun s n h => ?_) h
  grind [State.onTape_regs, State.canonical_beginWriting]

theorem State.canonical_matchSpeed (s : State) (t : Nat) (h : Canonical s.regs) : Canonical (s.matchSpeed t).regs :=
    by
  unfold State.matchSpeed
  grind [State.canonical_changeStep]

theorem State.canonical_closeSet (s : State) (t : Nat) (h : Canonical s.regs) : Canonical (s.closeSet t).regs := by
  unfold State.closeSet
  grind [State.onTape_regs, State.canonical_writeArea, State.canonical_commitPassed, State.releaseSets_regs,
    State.canonical_failSlots]

theorem State.canonical_writeBoundary (s : State) (t : Nat) (input : List Fetch) (h : Canonical s.regs) : Canonical
    (s.writeBoundary t input).regs := by
  unfold State.writeBoundary
  grind [State.onTape_regs, State.canonical_setWState, State.canonical_setGate, State.canonical_endJob,
    State.intake_regs, State.canonical_stopWriting, State.canonical_writeNext, State.canonical_settleJob,
    State.canonical_matchSpeed, State.canonical_closeSet]

theorem canonical_execWriteGap (t : Fin 2) (s : State) (h : Canonical s.regs) : ∃ u, execWriteGap t s = .next u ∧
    Canonical u.regs := by
  unfold execWriteGap
  refine State.canonical_atTape _ _ _ (fun s n h => ?_) h
  grind [State.canonical_endWriting]

theorem canonical_execShortBufferStop (t : Fin 2) (s : State) (h : Canonical s.regs) : ∃ u, execShortBufferStop t s =
    .next u ∧ Canonical u.regs := by
  unfold execShortBufferStop
  refine State.canonical_atTape _ _ _ (fun s n h => ?_) h
  grind [State.canonical_bump, State.onTape_regs, State.canonical_setWState, State.canonical_setGate,
    State.canonical_writeNext]

theorem canonical_execWrapEnd (t : Fin 2) (preOk : Bool) (s : State) (h : Canonical s.regs) : ∃ u, execWrapEnd t preOk
    s = .next u ∧ Canonical u.regs := by
  unfold execWrapEnd
  refine State.canonical_atTape _ _ _ (fun s n h => ?_) h
  grind [State.onTape_regs, State.canonical_setWState, State.canonical_setGate, State.canonical_runStep,
    State.canonical_targetWrap, State.canonical_preamp, State.canonical_writeNext]

theorem State.canonical_cmUpdate (s : State) (t : Nat) (h : Canonical s.regs) : Canonical (s.cmUpdate t).regs := by
  unfold State.cmUpdate
  grind [State.onTape_regs, State.cmWrite_regs, State.cmCrc_regs, State.canonical_cmFlag, State.canonical_foldl]

theorem canonical_execCmEodUpdate (t : Fin 2) (writeOk retryOk : Bool) (s : State) (h : Canonical s.regs) : ∃ u,
    execCmEodUpdate t writeOk retryOk s = .next u ∧ Canonical u.regs := by
  unfold execCmEodUpdate
  refine State.canonical_atTape _ _ _ (fun s n h => ?_) h
  grind [State.onTape_regs, State.canonical_latch, State.canonical_fail, State.canonical_finalOf, State.flush_regs,
    State.canonical_setWState, State.canonical_halt, State.canonical_setGlnMode, State.canonical_rewind,
    State.canonical_mountFail, State.onJob_regs, State.canonical_writeEmpty, State.canonical_stopWriting,
    State.canonical_settleJob, State.canonical_cmUpdate]

/-! ### TapeRead -/

theorem State.canonical_showLocked (s : State) (t : Nat) (h : Canonical s.regs) : Canonical (s.showLocked t).regs :=
    by
  unfold State.showLocked
  grind [State.canonical_setRf]

theorem State.canonical_setTrk (s : State) (t k : Nat) (x : Trk) (h : Canonical s.regs) : Canonical
    (s.setTrk t k x).regs := by
  unfold State.setTrk
  grind [State.onTape_regs, State.canonical_showLocked]

theorem canonical_execTrackPreamble (t : Fin 2) (track : Fin 64) (s : State) (h : Canonical s.regs) : ∃ u,
    execTrackPreamble t track s = .next u ∧ Canonical u.regs := by
  unfold execTrackPreamble
  refine State.canonical_atTape _ _ _ (fun s n h => ?_) h
  grind [State.canonical_setTrk]

theorem canonical_execElasticSlip (t : Fin 2) (track : Fin 64) (s : State) (h : Canonical s.regs) : ∃ u,
    execElasticSlip t track s = .next u ∧ Canonical u.regs := by
  unfold execElasticSlip
  refine State.canonical_atTape _ _ _ (fun s n h => ?_) h
  grind [State.canonical_bump, State.nextDraw_regs, State.canonical_latch, State.canonical_setTrk]

theorem canonical_execLockLoss (t : Fin 2) (track : Fin 64) (s : State) (h : Canonical s.regs) : ∃ u, execLockLoss t
    track s = .next u ∧ Canonical u.regs := by
  unfold execLockLoss
  refine State.canonical_atTape _ _ _ (fun s n h => ?_) h
  grind [State.canonical_bump, State.canonical_latch, State.canonical_setTrk]

theorem canonical_execSpeedOkChange (t : Fin 2) (ok : Bool) (s : State) (h : Canonical s.regs) : ∃ u,
    execSpeedOkChange t ok s = .next u ∧ Canonical u.regs := by
  unfold execSpeedOkChange
  refine State.canonical_atTape _ _ _ (fun s n h => ?_) h
  grind [State.canonical_setRbit, State.onTape_regs, State.canonical_showLocked]

@[simp] theorem State.keepWordOf_regs (s : State) (t : Nat) (w : RWord) : (s.keepWordOf t w).regs = s.regs := by
  unfold State.keepWordOf
  grind [State.onTape_regs]

theorem State.canonical_queueRec (s : State) (t : Nat) (f : RecFrame) (h : Canonical s.regs) : Canonical
    (s.queueRec t f).regs := by
  unfold State.queueRec
  grind [State.canonical_setRf, State.canonical_bump, State.onTape_regs, State.canonical_latch]

theorem State.canonical_decodeFrame (s : State) (t : Nat) (i : Ident) (sds : Nat) (sm2 en : Bool) (bits : Bytes)
    (h : Canonical s.regs) : Canonical (s.decodeFrame t i sds sm2 en bits).regs := by
  unfold State.decodeFrame
  grind [State.keepWordOf_regs, State.canonical_queueRec]

theorem canonical_execFrameReceived (t : Fin 2) (track : Fin 64) (frame : RxFrame) (s : State) (h : Canonical s.regs)
    : ∃ u, execFrameReceived t track frame s = .next u ∧ Canonical u.regs := by
  unfold execFrameReceived
  refine State.canonical_atTape _ _ _ (fun s n h => ?_) h
  grind [State.canonical_bump, State.canonical_addPair, State.onTape_regs, State.canonical_setTrk,
    State.canonical_decodeFrame]

theorem canonical_execRecoveryDecode (t : Fin 2) (s : State) (h : Canonical s.regs) : ∃ u, execRecoveryDecode t s =
    .next u ∧ Canonical u.regs := by
  unfold execRecoveryDecode
  refine State.canonical_atTape _ _ _ (fun s n h => ?_) h
  grind [State.canonical_setRf, State.canonical_bump, State.onTape_regs, State.keepWordOf_regs]

theorem State.canonical_readFrom (s : State) (t dsn : Nat) (h : Canonical s.regs) : Canonical (s.readFrom t dsn).regs
    := by
  unfold State.readFrom
  grind [State.canonical_setReg, State.emit_regs, State.canonical_setGlnMode]

theorem canonical_execReread (t : Fin 2) (s : State) (h : Canonical s.regs) : ∃ u, execReread t s = .next u ∧
    Canonical u.regs := by
  unfold execReread
  refine State.canonical_atTape _ _ _ (fun s n h => ?_) h
  grind [State.emit_regs, State.onTape_regs, State.canonical_runStep, State.canonical_setGlnMode]

theorem State.canonical_recallGo (s : State) (t : Nat) (h : Canonical s.regs) : Canonical (s.recallGo t).regs := by
  unfold State.recallGo
  grind [State.canonical_readFrom]

theorem State.canonical_entryEnds (s : State) (t idx : Nat) (r : Option (Nat × Nat)) (h : Canonical s.regs) :
    Canonical (s.entryEnds t idx r).regs := by
  unfold State.entryEnds
  grind [State.canonical_fail, State.canonical_halt, State.canonical_endJob, State.onJob_regs,
    State.canonical_recallGo]

theorem State.placeExtent_regs (s : State) (root : Nat) (body : Bytes) {x : State × Nat × Nat × List StripeW}
    (hx : s.placeExtent root body = some x) : x.1.regs = s.regs := by
  unfold State.placeExtent at hx
  dsimp only at hx
  split at hx
  · cases hx
  · split at hx
    · cases hx
    · split at hx
      · cases hx
      · cases hx
        exact State.foldl_regs (fun s w => State.addStripe_regs _ _ _ _ _) _ _

theorem canonical_execRecallCommit (t : Fin 2) (idx : Nat) (destOk : Bool) (s : State) (h : Canonical s.regs) : ∃ u, execRecallCommit t idx destOk s = .next u ∧ Canonical u.regs := by
  unfold execRecallCommit
  refine State.canonical_atTape _ _ _ (fun s n h => ?_) h
  have hends : ∀ (s : State) o, Canonical s.regs → Canonical (s.entryEnds n idx o).regs := fun s o h =>
    State.canonical_entryEnds s n idx o h
  split
  · exact h
  split
  · exact h
  split
  · exact h
  dsimp only
  split
  · exact hends _ _ h
  split
  · exact hends _ _ h
  split
  · split
    · exact hends _ _ h
    split
    · exact hends _ _ h
    · refine hends _ _ ?_
      split
      · rw [State.deliverTo_regs]; exact h
      · exact h
  split
  · exact hends _ _ h
  split
  · exact hends _ _ h
  split
  · exact hends _ _ h
  split
  · exact hends _ _ (by rw [State.sklStatus_regs]; exact h)
  split
  · exact hends _ _ h
  split
  · split
    · exact h
    · exact hends _ _ (by rw [State.setTree_regs]; exact h)
  split
  · exact hends _ _ h
  · next hp =>
    rw [State.onJob_regs, State.setTree_regs]
    exact State.canonical_makeRec _ _ _ _ _ _ (by rw [State.placeExtent_regs _ _ _ hp]; exact h)

theorem State.canonical_endVerify (s : State) (t : Nat) (j : TJob) (h : Canonical s.regs) : Canonical
    (s.endVerify t j).regs := by
  unfold State.endVerify
  grind [State.canonical_halt, State.canonical_endJob, State.onJob_regs]

/-- What the end of a data set's reading notes: the set is there or lost, and the counts of a verify (R286, R287). -/
def State.noteRead (s : State) (t : Nat) (j : TJob) (d : Nat) (r : Option RSet) : State :=
  let s := match r with
    | some y =>
      let s := (s.tally 5 dsBytes).onTape t fun x => { x with got := KMap.put x.got d y, rereads := 0 }
      if y.c3 then s.bump (Reg.wdrCntRead t) 15 0 1 else s
    | none =>
      let s := (s.onTape t fun x => { x with lost := d :: x.lost, rereads := 0 }).bump (Reg.wdrCntRead t) 31 16 1
      if j.eid = 0 then (s.event (Reg.fldBgStat + 2)).sklFold (0x20 + 4 * t) t 0 d else s
  (s.setGlnMode t 2).onJob t fun j => if j.kind != .verify then j else
    { j with nOk := j.nOk + 1, nC3 := j.nC3 + b2n (r.any (·.c3)), nLost := j.nLost + b2n r.isNone }

/-- How a job goes on once a data set has been read. -/
def State.afterRead (s : State) (t : Nat) (j : TJob) (d : Nat) (queued paused : Bool) : State :=
  if j.abort then (s.endJob t St.aborted 0x1801).halt t
  else if j.eid = 0 && queued then
    ((s.onTape t fun x => { x with bgDsn := d + 1 }).endJob t St.ok 0).halt t
  else
    let s := if paused then s.halt t else s
    match j.kind with
    | .verify =>
      if j.last ≤ d then
        match (s.tape t).job with
        | some j => (s.onTape t fun x => { x with bgDsn := if j.eid = 0 then 0 else x.bgDsn }).endVerify t j
        | none => s
      else s.readFrom t (d + 1)
    | _ => s.recallGo t

theorem State.readBoundary_eq (s : State) (t : Nat) : s.readBoundary t =
    match (s.tape t).job with
    | none => s
    | some j =>
      let r := restoreSet (s.tape t).words (s.tape t).wp (s.readDsn t)
      if r.isNone && (s.tape t).rereads < s.rf (Reg.glnRec t) 19 16 then s
      else (s.noteRead t j (s.readDsn t) r).afterRead t j (s.readDsn t) (!(s.tape t).queue.isEmpty) (s.tape t).paused := rfl

theorem State.canonical_noteRead (s : State) (t : Nat) (j : TJob) (d : Nat) (r : Option RSet) (h : Canonical s.regs) :
    Canonical (s.noteRead t j d r).regs := by
  unfold State.noteRead
  rw [State.onJob_regs]
  refine State.canonical_setGlnMode _ _ _ ?_
  cases r <;> grind [State.canonical_bump, State.tally_regs, State.onTape_regs, State.event_regs, State.sklFold_regs]

theorem State.canonical_afterRead (s : State) (t : Nat) (j : TJob) (d : Nat) (queued paused : Bool) (h : Canonical s.regs) :
    Canonical (s.afterRead t j d queued paused).regs := by
  unfold State.afterRead
  grind [State.onTape_regs, State.canonical_halt, State.canonical_endJob, State.canonical_readFrom, State.canonical_recallGo,
    State.canonical_endVerify]

theorem State.canonical_readBoundary (s : State) (t : Nat) (h : Canonical s.regs) : Canonical (s.readBoundary t).regs := by
  rw [State.readBoundary_eq]
  split
  · exact h
  · dsimp only
    split
    · exact h
    · exact State.canonical_afterRead _ _ _ _ _ _ (State.canonical_noteRead _ _ _ _ _ h)

theorem State.canonical_recoverBoundary (s : State) (t : Nat) (h : Canonical s.regs) : Canonical
    (s.recoverBoundary t).regs := by
  unfold State.recoverBoundary
  grind [State.onTape_regs, State.canonical_readFrom]

theorem canonical_execDataSetBoundary (t : Fin 2) (input : List Fetch) (s : State) (h : Canonical s.regs) : ∃ u,
    execDataSetBoundary t input s = .next u ∧ Canonical u.regs := by
  unfold execDataSetBoundary
  refine State.canonical_atTape _ _ _ (fun s n h => ?_) h
  grind [State.canonical_writeBoundary, State.canonical_readBoundary, State.canonical_recoverBoundary]

/-! ### TapeCmds -/

@[simp] theorem State.leaveZone_regs (s : State) (t k : Nat) : (s.leaveZone t k).regs = s.regs := by
  unfold State.leaveZone
  grind [State.onTape_regs]

theorem canonical_execZoneBoundaryCross (t : Fin 2) (zone : Fin 64) (bad : List Nat) (s : State)
    (h : Canonical s.regs) : ∃ u, execZoneBoundaryCross t zone bad s = .next u ∧ Canonical u.regs := by
  unfold execZoneBoundaryCross
  refine State.canonical_atTape _ _ _ (fun s n h => ?_) h
  grind [State.canonical_setRf, State.nextDraw_regs, State.onTape_regs, State.event_regs, State.sklHw_regs,
    State.canonical_latch, State.canonical_setWState, State.canonical_setGate, State.canonical_setGlnMode,
    State.canonical_writeNext, State.canonical_setTrk, State.leaveZone_regs, State.canonical_foldl]

theorem canonical_execActivityClassChange (s : State) (h : Canonical s.regs) : ∃ u, execActivityClassChange s = .next
    u ∧ Canonical u.regs := by
  refine ⟨_, rfl, ?_⟩
  grind [State.canonical_setRf]

theorem State.canonical_goStale (s : State) (t : Nat) (h : Canonical s.regs) : Canonical (s.goStale t).regs := by
  unfold State.goStale
  grind [State.canonical_setRbit, State.canonical_bump, State.onTape_regs, State.event_regs]

theorem State.canonical_checkStale (s : State) (t : Nat) (h : Canonical s.regs) : Canonical (s.checkStale t).regs :=
    by
  unfold State.checkStale
  grind [State.canonical_goStale]

theorem State.canonical_startCal (s : State) (t : Nat) (h : Canonical s.regs) : Canonical (s.startCal t).regs := by
  unfold State.startCal
  grind [State.onTape_regs, State.canonical_runStep, State.canonical_targetWrap, State.canonical_setGlnMode]

theorem canonical_execRecalibrate (t : Fin 2) (s : State) (h : Canonical s.regs) : ∃ u, execRecalibrate t s = .next u
    ∧ Canonical u.regs := by
  unfold execRecalibrate
  refine State.canonical_atTape _ _ _ (fun s n h => ?_) h
  grind [State.canonical_startCal]

theorem canonical_execForcedRecal (t : Fin 2) (s : State) (h : Canonical s.regs) : ∃ u, execForcedRecal t s = .next u
    ∧ Canonical u.regs := by
  unfold execForcedRecal
  refine State.canonical_atTape _ _ _ (fun s n h => ?_) h
  grind [State.canonical_bump, State.onTape_regs, State.canonical_halt, State.canonical_stopWriting]

@[simp] theorem State.takeSeeds_regs (s : State) (t : Nat) (rs : List CalResult) : (s.takeSeeds t rs).regs = s.regs :=
    by
  unfold State.takeSeeds
  grind [State.onTape_regs, State.foldl_regs]

theorem State.canonical_recordSet (s : State) (t src : Nat) (h : Canonical s.regs) : Canonical
    (s.recordSet t src).regs := by
  unfold State.recordSet
  grind [State.canonical_setReg, State.canonical_setRf, State.canonical_setRbit, State.onTape_regs,
    State.canonical_latch, State.canonical_goStale]

theorem canonical_execCalibrationComplete (t : Fin 2) (src : Nat) (results : List CalResult) (s : State)
    (h : Canonical s.regs) : ∃ u, execCalibrationComplete t src results s = .next u ∧ Canonical u.regs := by
  unfold execCalibrationComplete
  refine State.canonical_atTape _ _ _ (fun s n h => ?_) h
  grind [State.canonical_bump, State.onTape_regs, State.canonical_finalOf, State.canonical_setWState,
    State.canonical_setGate, State.canonical_runStep, State.canonical_halt, State.canonical_targetWrap,
    State.canonical_setGlnMode, State.canonical_endJob, State.onJob_regs, State.canonical_readFrom,
    State.takeSeeds_regs, State.canonical_recordSet, State.canonical_foldl]

theorem State.canonical_onCartridge (s : State) (e : Entry) (f : State → Nat → State)
    (hf : ∀ (t : State) a, Canonical t.regs → Canonical (f t a).regs) (h : Canonical s.regs) : Canonical
    (s.onCartridge e f).regs := by
  unfold State.onCartridge
  grind [State.canonical_fail]

theorem State.canonical_queueJob (s : State) (e : Entry) (t : Nat) (j : TJob) (h : Canonical s.regs) : Canonical
    (s.queueJob e t j).regs := by
  unfold State.queueJob
  grind [State.onTape_regs, State.canonical_fail]

theorem State.canonical_entryJob (s : State) (e : Entry) (t : Nat) (kind : JobKind) (h : Canonical s.regs) : Canonical
    (s.entryJob e t kind).regs := by
  unfold State.entryJob
  grind [State.canonical_fail, State.flush_regs, State.canonical_queueJob]

theorem canonical_execTapeMigrate (eid : Nat) (s : State) (h : Canonical s.regs) : ∃ u, execTapeMigrate eid s = .next
    u ∧ Canonical u.regs := by
  refine ⟨_, rfl, ?_⟩
  grind [State.canonical_cmd, State.canonical_onCartridge, State.canonical_entryJob]

theorem canonical_execTapeRecall (eid : Nat) (s : State) (h : Canonical s.regs) : ∃ u, execTapeRecall eid s = .next u
    ∧ Canonical u.regs := by
  refine ⟨_, rfl, ?_⟩
  grind [State.canonical_cmd, State.canonical_onCartridge, State.canonical_entryJob]

theorem canonical_execTapeVerify (eid : Nat) (s : State) (h : Canonical s.regs) : ∃ u, execTapeVerify eid s = .next u
    ∧ Canonical u.regs := by
  refine ⟨_, rfl, ?_⟩
  grind [State.canonical_cmd, State.canonical_onCartridge, State.canonical_queueJob]

theorem canonical_execTapeCalibrate (eid : Nat) (s : State) (h : Canonical s.regs) : ∃ u, execTapeCalibrate eid s =
    .next u ∧ Canonical u.regs := by
  refine ⟨_, rfl, ?_⟩
  grind [State.canonical_fail, State.canonical_cmd, State.canonical_onCartridge, State.canonical_queueJob]

theorem State.canonical_startRead (s : State) (t : Nat) (h : Canonical s.regs) : Canonical (s.startRead t).regs := by
  unfold State.startRead
  grind [State.canonical_setWState, State.canonical_runStep, State.canonical_setGlnMode]

theorem State.canonical_startJob (s : State) (t : Nat) (j : TJob) (h : Canonical s.regs) : Canonical
    (s.startJob t j).regs := by
  unfold State.startJob
  grind [State.onTape_regs, State.canonical_fail, State.canonical_setWState, State.canonical_runStep,
    State.canonical_setGlnMode, State.canonical_endJob, State.onJob_regs, State.canonical_readFrom,
    State.canonical_recallGo, State.canonical_startCal, State.canonical_startRead]

theorem canonical_execTapeJobStart (t : Fin 2) (s : State) (h : Canonical s.regs) : ∃ u, execTapeJobStart t s = .next
    u ∧ Canonical u.regs := by
  unfold execTapeJobStart
  refine State.canonical_atTape _ _ _ (fun s n h => ?_) h
  grind [State.onTape_regs, State.canonical_startJob]

theorem canonical_execTapeIdleVerify (t : Fin 2) (s : State) (h : Canonical s.regs) : ∃ u, execTapeIdleVerify t s =
    .next u ∧ Canonical u.regs := by
  unfold execTapeIdleVerify
  refine State.canonical_atTape _ _ _ (fun s n h => ?_) h
  grind [State.canonical_setRbit, State.canonical_startJob]

theorem canonical_execCmRead (eid : Nat) (destOk : Bool) (s : State) (h : Canonical s.regs) : ∃ u, execCmRead eid
    destOk s = .next u ∧ Canonical u.regs := by
  refine ⟨_, rfl, ?_⟩
  grind [State.canonical_fail, State.canonical_failSilent, State.canonical_okReply, State.canonical_cmd,
    State.deliverTo_regs, State.canonical_onCartridge]

theorem canonical_execCmWrite (eid : Nat) (src : Fetch) (s : State) (h : Canonical s.regs) : ∃ u, execCmWrite eid src
    s = .next u ∧ Canonical u.regs := by
  refine ⟨_, rfl, ?_⟩
  grind [State.canonical_fail, State.canonical_failSilent, State.canonical_okReply, State.canonical_cmd,
    State.cmWrite_regs, State.canonical_onCartridge]

theorem canonical_execTapeStatus (eid : Nat) (s : State) (h : Canonical s.regs) : ∃ u, execTapeStatus eid s = .next u
    ∧ Canonical u.regs := by
  refine ⟨_, rfl, ?_⟩
  grind [State.canonical_fail, State.canonical_okReply, State.canonical_cmd]

theorem canonical_execCartridgeMount (eid : Nat) (cm : Fetch) (s : State) (h : Canonical s.regs) : ∃ u,
    execCartridgeMount eid cm s = .next u ∧ Canonical u.regs := by
  refine ⟨_, rfl, ?_⟩
  grind [State.canonical_setRf, State.canonical_setRbit, State.onTape_regs, State.canonical_fail,
    State.canonical_pendReply, State.canonical_cmd, State.canonical_showWprot]

theorem canonical_execCartridgeUnload (eid : Nat) (s : State) (h : Canonical s.regs) : ∃ u, execCartridgeUnload eid s
    = .next u ∧ Canonical u.regs := by
  refine ⟨_, rfl, ?_⟩
  grind [State.onTape_regs, State.canonical_fail, State.canonical_cmd, State.canonical_arm, State.canonical_unloadGo,
    State.canonical_endJob, State.canonical_abortQueue, State.sendUnload_regs, State.onJob_regs]

theorem State.canonical_wdrOp (s : State) (t : Fin 2) (desc : Fetch) (cqOk : Bool) (op out : Nat)
    (f : State → Nat → Bytes → State × XRes) (hf : ∀ s n d, Canonical s.regs → Canonical (f s n d).1.regs)
    (h : Canonical s.regs) : ∃ u, s.wdrOp t desc cqOk op out f = .next u ∧ Canonical u.regs := by
  refine State.canonical_atTape _ _ _ (fun s n h => State.canonical_xqRun _ _ _ _ _ (fun s d h => ?_) h) h
  split
  · exact h
  · split
    · exact h
    · exact hf _ _ _ h

theorem canonical_execWdrEncode (t : Fin 2) (desc src : Fetch) (cqOk : Bool) (s : State) (h : Canonical s.regs) : ∃ u,
    execWdrEncode t desc src cqOk s = .next u ∧ Canonical u.regs := by
  unfold execWdrEncode
  refine State.canonical_wdrOp _ _ _ _ _ _ _ (fun s n d h => ?_) h
  grind [State.xqWrite_regs]

theorem canonical_execWdrWriteDs (t : Fin 2) (desc src : Fetch) (cqOk : Bool) (s : State) (h : Canonical s.regs) : ∃
    u, execWdrWriteDs t desc src cqOk s = .next u ∧ Canonical u.regs := by
  unfold execWdrWriteDs
  refine State.canonical_wdrOp _ _ _ _ _ _ _ (fun s n d h => ?_) h
  grind [State.emit_regs, State.onTape_regs, State.canonical_setGate, State.canonical_targetWrap,
    State.canonical_newSet, State.canonical_writeEmpty, State.canonical_startAppend]

theorem canonical_execWdrReadDs (t : Fin 2) (desc : Fetch) (_src : Fetch) (cqOk : Bool) (s : State)
    (h : Canonical s.regs) : ∃ u, execWdrReadDs t desc _src cqOk s = .next u ∧ Canonical u.regs := by
  unfold execWdrReadDs
  refine State.canonical_wdrOp _ _ _ _ _ _ _ (fun s n d h => ?_) h
  grind [State.xqWrite_regs]

theorem canonical_execWdrLocate (t : Fin 2) (desc : Fetch) (_src : Fetch) (cqOk : Bool) (s : State)
    (h : Canonical s.regs) : ∃ u, execWdrLocate t desc _src cqOk s = .next u ∧ Canonical u.regs := by
  unfold execWdrLocate
  refine State.canonical_wdrOp _ _ _ _ _ _ _ (fun s n d h => ?_) h
  grind [State.onTape_regs, State.canonical_readFrom, State.canonical_startRead]

theorem State.canonical_returnTape (s : State) (t : Nat) (h : Canonical s.regs) : Canonical (s.returnTape t).regs := by
  have hf : Canonical (State.onTape { s with regs := s.regs.filter fun x => !(glnSettings t).contains x.1 } t Tape.readDone).regs := by
    rw [State.onTape_regs]
    exact canonical_filter _ h
  unfold State.returnTape
  dsimp only
  split
  · refine State.canonical_stopWriting _ _ ?_
    rw [State.onTape_regs]
    split
    · exact State.canonical_cmUpdate _ _ (State.canonical_writeEmpty _ _ _ (State.canonical_closeSet _ _ hf))
    · exact hf
  · exact hf

theorem canonical_execReturnComplete (code inst : Nat) (descs : List Bytes) (cqOk : Bool) (s : State)
    (h : Canonical s.regs) : ∃ u, execReturnComplete code inst descs cqOk s = .next u ∧ Canonical u.regs := by
  refine ⟨_, rfl, ?_⟩
  grind [State.canonical_abortDescs, State.canonical_endReturn, State.canonical_zeroCtx, State.canonical_returnTape]

/-! ### Tick -/

@[simp] theorem State.latchCounts_regs (s : State) (tk : TickIn) : (s.latchCounts tk).regs = s.regs := by
  unfold State.latchCounts
  grind [State.onFld_regs, State.foldl_regs]

theorem State.canonical_countCe (s : State) (tk : TickIn) (h : Canonical s.regs) : Canonical (s.countCe tk).regs := by
  unfold State.countCe
  grind [State.canonical_bump, State.sklFold_regs, State.canonical_foldl]

theorem State.canonical_decide_ (s : State) (late : Bool) (h : Canonical s.regs) :
    Canonical (s.decide_ late).regs := by
  unfold State.decide_
  split
  · rw [State.onFld_regs]
    exact State.canonical_bump _ _ _ _ _ h
  · have ha := State.canonical_applyDecisions s h
    generalize s.applyDecisions = t at ha ⊢
    grind [State.onFld_regs]

theorem State.canonical_leaseFence (s : State) (h : Canonical s.regs) : Canonical (s.leaseFence).regs := by
  unfold State.leaseFence
  grind [State.canonical_fence, State.canonical_foldl]

@[simp] theorem State.telTick_regs (s : State) : (s.telTick).regs = s.regs := by
  unfold State.telTick
  grind [State.onFld_regs]

theorem State.canonical_checkIn (s : State) (silent : List (Fin 8)) (h : Canonical s.regs) : Canonical
    (s.checkIn silent).regs := by
  unfold State.checkIn
  grind [State.canonical_setRf, State.onDhd_regs, State.onFld_regs]

theorem State.canonical_takeImon (s : State) (tk : TickIn) (h : Canonical s.regs) : Canonical (s.takeImon tk).regs :=
    by
  unfold State.takeImon
  grind [State.canonical_setRf]

theorem State.canonical_takeDimms (s : State) (tk : TickIn) (h : Canonical s.regs) : Canonical (s.takeDimms tk).regs
    := by
  unfold State.takeDimms
  grind [State.canonical_setRf, State.canonical_setRbit, State.canonical_foldl]

theorem State.canonical_tapeTick (s : State) (t : Nat) (h : Canonical s.regs) : Canonical (s.tapeTick t).regs := by
  unfold State.tapeTick
  grind [State.canonical_setRf, State.onTape_regs, State.canonical_checkStale]

theorem State.canonical_sendTails (s : State) (h : Canonical s.regs) : Canonical (s.sendTails).regs := by
  unfold State.sendTails
  grind [State.canonical_peerMsg]

theorem State.canonical_tickUse (s : State) (h : Canonical s.regs) : Canonical (s.tickUse).regs := by
  unfold State.tickUse
  grind [State.canonical_setRf, State.canonical_setRbit, State.nextDraw_regs]

theorem State.canonical_tickFold (s : State) (tk : TickIn) (h : Canonical s.regs) : Canonical (s.tickFold tk).regs :=
    by
  unfold State.tickFold
  grind [State.canonical_judgeHead, State.canonical_imageTick, State.canonical_p2Try, State.canonical_checkIn,
    State.canonical_takeImon, State.canonical_takeDimms, State.canonical_tapeTick, State.canonical_sendTails,
    State.canonical_tickUse, State.canonical_foldl]

theorem canonical_execTickBoundary (tk : TickIn) (s : State) (h : Canonical s.regs) : ∃ u, execTickBoundary tk s =
    .next u ∧ Canonical u.regs := by
  refine ⟨_, rfl, ?_⟩
  grind [State.canonical_setPair, State.edge_regs, State.canonical_warmTick, State.latchCounts_regs,
    State.canonical_countCe, State.canonical_decide_, State.canonical_leaseFence, State.telTick_regs,
    State.canonical_tickFold]

theorem canonical_execTickCheckpoint (s : State) (h : Canonical s.regs) : ∃ u, execTickCheckpoint s = .next u ∧
    Canonical u.regs := by
  refine ⟨_, rfl, ?_⟩
  grind [State.emit_regs, State.onFld_regs]

theorem canonical_execBgBudgetSet (eid : Nat) (s : State) (h : Canonical s.regs) : ∃ u, execBgBudgetSet eid s = .next
    u ∧ Canonical u.regs := by
  refine ⟨_, rfl, ?_⟩
  grind [State.canonical_fail, State.canonical_cmd, State.joinBatch_regs]

theorem State.canonical_patrolBad (s : State) (port addr : Nat) (h : Canonical s.regs) : Canonical
    (s.patrolBad port addr).regs := by
  unfold State.patrolBad
  grind [State.onMem_regs, State.canonical_ueRead]

theorem State.bankOk_patrolMove {s : State} (h : s.bankOk) (words n : Nat) :
    (if words ≤ n then (s.onFld fun f => { f with patrolPos := 0, patrolPass := f.patrolPass + 1 }).setRbit Reg.fldBgStat 0 false
      else (s.onFld fun f => { f with patrolPos := n }).setRbit Reg.fldBgStat 0 true).bankOk :=
  State.bankOk_ite (State.bankOk_setRbit _ _ _ _ (State.bankOk_congr (State.onFld_regs _ _) h))
    (State.bankOk_setRbit _ _ _ _ (State.bankOk_congr (State.onFld_regs _ _) h))

theorem canonical_execPatrolScrub (words : Nat) (bad : List (Fin 18 × Nat)) (s : State) (h : Canonical s.regs) :
    ∃ u, execPatrolScrub words bad s = .next u ∧ Canonical u.regs := by
  have hb : (bad.foldl (fun s x => s.patrolBad x.1 x.2) s).bankOk :=
    State.canonical_foldl (fun s x hs => State.canonical_patrolBad s x.1 x.2 hs) bad s h
  refine ⟨_, rfl, ?_⟩
  change State.bankOk _
  exact State.bankOk_ite h (State.bankOk_patrolMove hb _ _)

theorem canonical_execScrubStart (eid : Nat) (destOk : Bool) (s : State) (h : Canonical s.regs) : ∃ u, execScrubStart
    eid destOk s = .next u ∧ Canonical u.regs := by
  refine ⟨_, rfl, ?_⟩
  grind [State.canonical_setRbit, State.nextDraw_regs, State.onFld_regs, State.canonical_fail,
    State.canonical_failSilent, State.canonical_okReply, State.canonical_cmd, State.deliverTo_regs]

theorem State.canonical_verifyPast (s : State) (d root next : Nat) (h : Canonical s.regs) : Canonical
    (s.verifyPast d root next).regs := by
  unfold State.verifyPast
  grind [State.canonical_setRbit, State.onFld_regs]

theorem State.canonical_verifyStripe (s : State) (root block : Nat) (data : Bytes) (units : List Fetch)
    (h : Canonical s.regs) : Canonical (s.verifyStripe root block data units).regs := by
  unfold State.verifyStripe
  grind [State.canonical_bump, State.tally_regs, State.sklFold_regs, State.driveWrites_regs,
    State.canonical_tagFailed, State.repairBlk_regs, State.canonical_foldl]

theorem canonical_execStripeVerify (root block : Nat) (data : Fetch) (units : List Fetch) (s : State)
    (h : Canonical s.regs) : ∃ u, execStripeVerify root block data units s = .next u ∧ Canonical u.regs := by
  refine ⟨_, rfl, ?_⟩
  grind [State.onFld_regs, State.canonical_verifyPast, State.canonical_verifyStripe]

theorem canonical_execSmartRead (port : Fin 16) (used : Nat) (s : State) (h : Canonical s.regs) : ∃ u, execSmartRead
    port used s = .next u ∧ Canonical u.regs := by
  refine ⟨_, rfl, ?_⟩
  grind [State.emit_regs, State.onFld_regs, State.event_regs, State.sklFold_regs]

theorem canonical_execTelemetryConfig (eid : Nat) (s : State) (h : Canonical s.regs) : ∃ u, execTelemetryConfig eid s
    = .next u ∧ Canonical u.regs := by
  refine ⟨_, rfl, ?_⟩
  grind [State.onFld_regs, State.canonical_fail, State.canonical_okReply, State.canonical_cmd]

theorem canonical_execTelemetrySnapshot (s : State) (h : Canonical s.regs) : ∃ u, execTelemetrySnapshot s = .next u ∧
    Canonical u.regs := by
  refine ⟨_, rfl, ?_⟩
  grind [State.canonical_setRf, State.canonical_bump, State.emit_regs, State.nextDraw_regs, State.onFld_regs]

/-! ### Board -/

theorem State.canonical_oobDrop (s : State) (h : Canonical s.regs) : Canonical (s.oobDrop).regs := by
  unfold State.oobDrop
  grind [State.canonical_bump]

theorem State.canonical_atOob (s : State) (f : State → State) (hf : ∀ s, Canonical s.regs → Canonical (f s).regs)
    (h : Canonical s.regs) : ∃ u, s.atOob f = .next u ∧ Canonical u.regs := by
  refine ⟨_, rfl, ?_⟩
  split
  · exact hf _ (State.canonical_setRbit _ _ _ _ h)
  · exact h

theorem canonical_execOobPacket (xid : Nat) (pkt : Bytes) (s : State) (h : Canonical s.regs) : ∃ u, execOobPacket xid
    pkt s = .next u ∧ Canonical u.regs := by
  unfold execOobPacket
  refine State.canonical_atOob _ _ (fun s h => ?_) h
  grind [State.canonical_bump, State.emit_regs, State.onFld_regs, State.setSq_regs, State.canonical_reply,
    State.canonical_oobDrop]

theorem canonical_execWinWrite (xid woff : Nat) (data : Bytes) (s : State) (h : Canonical s.regs) : ∃ u, execWinWrite
    xid woff data s = .next u ∧ Canonical u.regs := by
  unfold execWinWrite
  refine State.canonical_atOob _ _ (fun s h => ?_) h
  grind [State.emit_regs, State.onFld_regs, State.canonical_oobDrop]

theorem canonical_execWinRead (xid woff len : Nat) (s : State) (h : Canonical s.regs) : ∃ u, execWinRead xid woff len
    s = .next u ∧ Canonical u.regs := by
  unfold execWinRead
  refine State.canonical_atOob _ _ (fun s h => ?_) h
  grind [State.emit_regs, State.canonical_oobDrop]

theorem State.canonical_oobAnswer (s : State) (kind : String) (data : Bytes) (h : Canonical s.regs) : Canonical
    (s.oobAnswer kind data).regs := by
  unfold State.oobAnswer
  grind [State.emit_regs, State.onFld_regs, State.canonical_oobDrop]

theorem canonical_execOobFrameAnswer (kind : Nat) (frame : Bytes) (s : State) (h : Canonical s.regs) : ∃ u,
    execOobFrameAnswer kind frame s = .next u ∧ Canonical u.regs := by
  unfold execOobFrameAnswer
  refine State.canonical_atOob _ _ (fun s h => ?_) h
  grind [State.canonical_reply, State.canonical_oobDrop, State.canonical_oobAnswer]

theorem State.canonical_smbRead (s : State) (code : Nat) (data : Bytes) (h : Canonical s.regs) :
    ∃ u, s.smbRead code data = .next u ∧ Canonical u.regs := by
  refine ⟨_, rfl, ?_⟩
  split <;> exact h

theorem canonical_execSmbusReadStatus (s : State) (h : Canonical s.regs) : ∃ u, execSmbusReadStatus s = .next u ∧
    Canonical u.regs :=
  State.canonical_smbRead _ _ _ h

theorem canonical_execSmbusReadTemp (s : State) (h : Canonical s.regs) : ∃ u, execSmbusReadTemp s = .next u ∧
    Canonical u.regs :=
  State.canonical_smbRead _ _ _ h

theorem canonical_execSmbusReadFeTemp (t : Fin 2) (s : State) (h : Canonical s.regs) : ∃ u, execSmbusReadFeTemp t s =
    .next u ∧ Canonical u.regs :=
  State.canonical_smbRead _ _ _ h

theorem canonical_execSmbusReadImon (s : State) (h : Canonical s.regs) : ∃ u, execSmbusReadImon s = .next u ∧
    Canonical u.regs :=
  State.canonical_smbRead _ _ _ h

theorem canonical_execSmbusReadHead (s : State) (h : Canonical s.regs) : ∃ u, execSmbusReadHead s = .next u ∧
    Canonical u.regs :=
  State.canonical_smbRead _ _ _ h

theorem canonical_execSmbusReadRstCause (s : State) (h : Canonical s.regs) : ∃ u, execSmbusReadRstCause s = .next u ∧
    Canonical u.regs :=
  State.canonical_smbRead _ _ _ h

theorem canonical_execSmbusReadUnitId (s : State) (h : Canonical s.regs) : ∃ u, execSmbusReadUnitId s = .next u ∧
    Canonical u.regs :=
  State.canonical_smbRead _ _ _ h

theorem canonical_execSmbusReadVersion (s : State) (h : Canonical s.regs) : ∃ u, execSmbusReadVersion s = .next u ∧
    Canonical u.regs :=
  State.canonical_smbRead _ _ _ h

theorem canonical_execSmbusColdReset (key : Byte) (pecOk : Bool) (s : State) (h : Canonical s.regs) : ∃ u,
    execSmbusColdReset key pecOk s = .next u ∧ Canonical u.regs := by
  refine ⟨_, rfl, ?_⟩
  grind [State.canonical_coldCommand]

theorem canonical_execSmbusWarmReset (key : Byte) (pecOk : Bool) (s : State) (h : Canonical s.regs) : ∃ u,
    execSmbusWarmReset key pecOk s = .next u ∧ Canonical u.regs := by
  refine ⟨_, rfl, ?_⟩
  grind [State.canonical_warmReset]

theorem canonical_execDiagSelftest (eid : Nat) (failed : List (Nat × Nat)) (s : State) (h : Canonical s.regs) : ∃ u,
    execDiagSelftest eid failed s = .next u ∧ Canonical u.regs := by
  refine ⟨_, rfl, ?_⟩
  grind [State.onDhd_regs, State.sklFold_regs, State.canonical_final, State.canonical_okReply, State.canonical_cmd]

theorem canonical_execDiagLoopback (eid : Nat) (bits errs : Nat) (s : State) (h : Canonical s.regs) : ∃ u,
    execDiagLoopback eid bits errs s = .next u ∧ Canonical u.regs := by
  refine ⟨_, rfl, ?_⟩
  grind [State.canonical_fail, State.canonical_failSilent, State.canonical_okReply, State.canonical_cmd]

/-! ### Replic -/

theorem canonical_execReplLinkCreate (eid : Nat) (s : State) (h : Canonical s.regs) : ∃ u, execReplLinkCreate eid s =
    .next u ∧ Canonical u.regs := by
  refine ⟨_, rfl, ?_⟩
  grind [State.onDrv_regs, State.canonical_fail, State.canonical_okReply, State.canonical_cmd]

@[simp] theorem State.shipGone_regs (s : State) (link : Nat) (x : Ship) : (s.shipGone link x).regs = s.regs := by
  unfold State.shipGone
  grind [State.onDrv_regs]

theorem State.canonical_shipNext (s : State) (link : Nat) (p : Ship → Bool) (h : Canonical s.regs) : Canonical
    (s.shipNext link p).regs := by
  unfold State.shipNext
  grind [State.onDrv_regs, State.canonical_replMsg, State.shipGone_regs]

theorem canonical_execReplShip (link : Nat) (s : State) (h : Canonical s.regs) : ∃ u, execReplShip link s = .next u ∧
    Canonical u.regs := by
  refine ⟨_, rfl, ?_⟩
  grind [State.canonical_shipNext]

theorem canonical_execReplRetry (link : Nat) (s : State) (h : Canonical s.regs) : ∃ u, execReplRetry link s = .next u
    ∧ Canonical u.regs := by
  refine ⟨_, rfl, ?_⟩
  grind [State.canonical_shipNext]

theorem State.takeOffer_regs (s : State) (c : Nat) {x : State × Nat × Ship} (hx : s.takeOffer c = some x) :
    x.1.regs = s.regs := by
  unfold State.takeOffer at hx
  obtain ⟨o, -, rfl⟩ := Option.map_eq_some_iff.1 hx
  rfl

theorem canonical_execWant (cid : Nat) (recs : List Fetch) (s : State) (h : Canonical s.regs) : ∃ u, execWant cid recs
    s = .next u ∧ Canonical u.regs := by
  refine ⟨_, rfl, ?_⟩
  grind [State.onDrv_regs, State.canonical_replMsg, State.shipFailed_regs, State.canonical_takeMsg]

theorem canonical_execDone (cid : Nat) (s : State) (h : Canonical s.regs) :
    ∃ u, execDone cid s = .next u ∧ Canonical u.regs := by
  refine ⟨_, rfl, State.canonical_takeMsg _ _ _ _ (fun s b h => ?_) h⟩
  split
  · exact h
  · next hx =>
    have ht := State.takeOffer_regs _ _ hx
    grind [State.shipFailed_regs, State.shipGone_regs]

theorem State.canonical_refuseOffer (s : State) (cid st dt : Nat) (h : Canonical s.regs) : Canonical
    (s.refuseOffer cid st dt).regs := by
  unfold State.refuseOffer
  grind [State.canonical_replMsg]

theorem canonical_execOffer (cid : Nat) (s : State) (h : Canonical s.regs) : ∃ u, execOffer cid s = .next u ∧
    Canonical u.regs := by
  refine ⟨_, rfl, ?_⟩
  grind [State.onEz_regs, State.onData_regs, State.canonical_replMsg, State.canonical_endPut, State.canonical_takeMsg,
    State.canonical_refuseOffer, State.canonical_foldl]

theorem State.placeWire_regs (s : State) (p : PutRec) (i : Nat) (e : RecEntry) (rec_ : Bytes) (un : Bool) :
    (s.placeWire p i e rec_ un).1.regs = s.regs := by
  unfold State.placeWire
  split
  · rfl
  · next heq => rw [State.holdExt_regs, State.place_regs _ _ _ _ heq]

@[simp] theorem State.takeWire_regs (s : State) (p : PutRec) (i : Nat) (e : RecEntry) (r : FoundRec) :
    (s.takeWire p i e r).1.regs = s.regs := by
  unfold State.takeWire
  grind [State.insertIdx_regs, State.placeWire_regs]

theorem State.takeWires_regs (s : State) (p : PutRec) (es : List (Nat × RecEntry)) (rs : List FoundRec) :
    (s.takeWires p es rs).1.regs = s.regs := by
  induction es generalizing s p rs with
  | nil => rfl
  | cons e es ih =>
    have hw := State.takeWire_regs s p e.1 e.2 (rs.headD ⟨[], [], true⟩)
    unfold State.takeWires
    split <;> grind

theorem canonical_execRecords (cid : Nat) (s : State) (h : Canonical s.regs) : ∃ u, execRecords cid s = .next u ∧
    Canonical u.regs := by
  refine ⟨_, rfl, ?_⟩
  grind [State.setPut_regs, State.canonical_endPut, State.canonical_advancePut, State.canonical_takeMsg,
    State.takeWires_regs]

theorem canonical_execReplDelete (cid : Nat) (s : State) (h : Canonical s.regs) : ∃ u, execReplDelete cid s = .next u
    ∧ Canonical u.regs := by
  refine ⟨_, rfl, ?_⟩
  grind [State.canonical_startDelete, State.shipDelete_regs, State.canonical_takeMsg]

/-! ### Registers -/

theorem State.canonical_badAccess (s : State) (off : Nat) (write : Bool) (h : Canonical s.regs) : Canonical
    (s.badAccess off write).regs := by
  unfold State.badAccess
  grind [State.canonical_setReg, State.canonical_bump, State.emit_regs, State.setLevel_regs]

theorem canonical_execUnsupportedAccess (off : Nat) (write : Bool) (s : State) (h : Canonical s.regs) : ∃ u,
    execUnsupportedAccess off write s = .next u ∧ Canonical u.regs := by
  refine ⟨_, rfl, ?_⟩
  grind [State.canonical_badAccess]

theorem State.canonical_after {s : State} {o : Host.Outcome State Fault Refusal} (h : ∃ u, o = .next u ∧ Canonical u.regs) :
    Canonical (s.after o).regs := by
  obtain ⟨u, rfl, hu⟩ := h
  exact hu

theorem State.canonical_clearRc (s : State) (off : Nat) (h : Canonical s.regs) : Canonical (s.clearRc off).regs := by
  unfold State.clearRc
  grind [State.canonical_setRf, State.onCrp_regs, State.canonical_foldl]

theorem State.canonical_readEffect (s : State) (off : Nat) (h : Canonical s.regs) : Canonical (s.readEffect off).regs
    := by
  unfold State.readEffect
  grind [State.nextDraw_regs, State.canonical_clearRc]

theorem State.canonical_readReg (s : State) (off : Nat) (h : Canonical s.regs) : Canonical (s.readReg off).regs := by
  unfold State.readReg
  split
  · exact State.canonical_badAccess _ _ _ h
  · split
    · exact h
    · split
      · exact State.canonical_after (canonical_execThsClaim _ h)
      · split
        · exact State.canonical_after (canonical_execHrwClaim _ _ _ h)
        · exact State.canonical_readEffect _ _ h

theorem canonical_execRcFieldRead (off : Nat) (s : State) (h : Canonical s.regs) : ∃ u, execRcFieldRead off s = .next
    u ∧ Canonical u.regs := by
  refine ⟨_, rfl, ?_⟩
  grind [State.canonical_readReg]

theorem canonical_execPairLoRead (off : Nat) (s : State) (h : Canonical s.regs) : ∃ u, execPairLoRead off s = .next u
    ∧ Canonical u.regs := by
  refine ⟨_, rfl, ?_⟩
  grind [State.canonical_readReg]

theorem State.canonical_clearErr (s : State) (off : Nat) (h : Canonical s.regs) : Canonical (s.clearErr off).regs :=
    by
  unfold State.clearErr
  grind [State.canonical_setReg, State.canonical_setPair, State.setLevel_regs]

theorem State.canonical_writeFields (s : State) (off v : Nat) (h : Canonical s.regs) : Canonical
    (s.writeFields off v).regs := by
  unfold State.writeFields
  grind [State.canonical_setRf, State.canonical_foldl]

@[simp] theorem State.fallLevels_regs (s : State) (off : Nat) : (s.fallLevels off).regs = s.regs := by
  unfold State.fallLevels
  grind [State.setLevel_regs, State.foldl_regs]

theorem State.canonical_writeGuard (s : State) (off : Nat) (h : Canonical s.regs) {t : State}
    (ht : s.writeGuard off = some t) : Canonical t.regs := by
  unfold State.writeGuard at ht
  grind [State.canonical_latch, State.canonical_xqLatch]

@[simp] theorem State.stage_regs (s : State) (off : Nat) (val : W32) : (s.stage off val).regs = s.regs := by
  unfold State.stage
  grind

theorem State.canonical_applyPair (s : State) (off : Nat) (val : W32) (h : Canonical s.regs) : Canonical
    (s.applyPair off val).regs := by
  unfold State.applyPair
  grind [State.canonical_writeFields]

theorem State.canonical_ctxCtrl (s : State) (n : Fin 32) (val : W32) (h : Canonical s.regs) :
    Canonical (s.ctxCtrl n val).regs := by
  unfold State.ctxCtrl
  split
  · exact State.canonical_after (canonical_execThsStart _ _ _ h)
  · split
    · exact State.canonical_after (canonical_execThsGo _ _ _ h)
    · split
      · exact State.canonical_after (canonical_execThsCompare _ _ _ _ _ h)
      · split
        · exact State.canonical_after (canonical_execThsReset _ _ _ h)
        · split
          · exact State.canonical_after (canonical_execThsRelease _ _ _ h)
          · exact State.canonical_writeFields _ _ _ h

/-- What a write that a register's block takes for itself answers, where it answers. -/
def State.OwnKeeps (o : Option State) : Prop := ∀ t, o = some t → Canonical t.regs

theorem State.ownKeeps_none : State.OwnKeeps none := fun _ ht => nomatch ht

theorem State.ownKeeps_some {t : State} (h : Canonical t.regs) : State.OwnKeeps (some t) := fun _ ht => Option.some.inj ht ▸ h

theorem State.ownKeeps_after {s : State} {o : Host.Outcome State Fault Refusal} (h : ∃ u, o = .next u ∧ Canonical u.regs) :
    State.OwnKeeps (some (s.after o)) := State.ownKeeps_some (State.canonical_after h)

theorem State.ownKeeps_dite {c : Prop} [Decidable c] {a : c → State} (h : ∀ hc, Canonical (a hc).regs) :
    State.OwnKeeps (if hc : c then some (a hc) else none) := by
  split
  · exact State.ownKeeps_some (h _)
  · exact State.ownKeeps_none

theorem State.ownKeeps_writeOwn (s : State) (off : Nat) (val : W32) (h : Canonical s.regs) :
    State.OwnKeeps (s.writeOwn off val) := by
  unfold State.writeOwn
  dsimp only
  split
  · refine State.ownKeeps_after ?_
    split
    · exact canonical_execAdmCtrlEnable _ _ h
    · exact canonical_execAdmCtrlDisable _ _ h
  split
  · refine State.ownKeeps_after ?_
    split
    · exact canonical_execSqTailDoorbell _ _ _ _ h
    · exact canonical_execCqHeadDoorbell _ _ _ _ h
  split
  · exact State.ownKeeps_some (State.canonical_keyloadWrite _ _ h)
  split
  · exact State.ownKeeps_after (canonical_execHrwSrcRoute _ _ _ h)
  split
  · refine State.ownKeeps_after ?_
    split
    · exact canonical_execCrpResetCold _ _ h
    · exact canonical_execCrpResetWarm _ _ h
  split
  · exact State.ownKeeps_some (State.canonical_pstateWrite _ _ h)
  split
  · exact State.ownKeeps_after (canonical_execSklRsel _ _ _ h)
  split
  · refine State.ownKeeps_after ?_
    split
    · exact canonical_execXqEnable _ _ _ h
    · exact canonical_execXqDisable _ _ _ h
  · exact State.ownKeeps_after (canonical_execXqTailWrite _ _ _ h)
  · exact State.ownKeeps_after (canonical_execXcqHeadWrite _ _ _ h)
  · split
    · exact State.ownKeeps_some (by rw [State.onData_regs]; exact h)
    · exact State.ownKeeps_after (canonical_execHrwMod _ _ _ _ h)
    · split
      · exact State.ownKeeps_dite fun _ => State.canonical_after (canonical_execDrvXcount _ _ _ h)
      · split
        · exact State.ownKeeps_dite fun _ => State.canonical_ctxCtrl _ _ _ h
        · split
          · refine State.ownKeeps_after ?_
            split
            · exact canonical_execHrwPendSet _ _ _ _ h
            · exact canonical_execHrwPendClr _ _ _ _ h
            · exact canonical_execHrwMaskSet _ _ _ _ h
            · exact canonical_execHrwMaskClr _ _ _ _ h
          · exact State.ownKeeps_dite fun _ => State.canonical_after (canonical_execHrwComplete _ _ _ _ h)
          · split
            · refine State.ownKeeps_some ?_
              split
              · exact State.canonical_clearErr _ _ h
              · exact h
            · exact State.ownKeeps_none

theorem State.canonical_writeOwn (s : State) (off : Nat) (val : W32) (h : Canonical s.regs) {t : State}
    (ht : s.writeOwn off val = some t) : Canonical t.regs := State.ownKeeps_writeOwn s off val h t ht

theorem State.canonical_writeReg (s : State) (off : Nat) (val : W32) (h : Canonical s.regs) : Canonical
    (s.writeReg off val).regs := by
  unfold State.writeReg
  grind [State.canonical_badAccess, State.canonical_writeFields, State.fallLevels_regs, State.canonical_writeGuard,
    State.stage_regs, State.canonical_applyPair, State.canonical_writeOwn]

theorem canonical_execRegisterWrite (off : Nat) (val : W32) (s : State) (h : Canonical s.regs) : ∃ u,
    execRegisterWrite off val s = .next u ∧ Canonical u.regs := by
  refine ⟨_, rfl, ?_⟩
  grind [State.canonical_writeReg]

theorem canonical_execPairLoWrite (off : Nat) (val : W32) (s : State) (h : Canonical s.regs) : ∃ u, execPairLoWrite
    off val s = .next u ∧ Canonical u.regs := by
  refine ⟨_, rfl, ?_⟩
  grind [State.canonical_writeReg]

theorem canonical_execPairHiWrite (off : Nat) (val : W32) (s : State) (h : Canonical s.regs) : ∃ u, execPairHiWrite
    off val s = .next u ∧ Canonical u.regs := by
  refine ⟨_, rfl, ?_⟩
  grind [State.canonical_writeReg]

/-! ### Every command -/

/-- Every command answers a next state whose bank is canonical where the bank was. -/
theorem canonical_exec (c : Instr) (s : State) (h : Canonical s.regs) : ∃ u, exec c s = .next u ∧ Canonical u.regs := by
  cases c with
  | unsupportedAccess off write => exact canonical_execUnsupportedAccess off write s h
  | registerWrite off val => exact canonical_execRegisterWrite off val s h
  | pairLoWrite off val => exact canonical_execPairLoWrite off val s h
  | pairHiWrite off val => exact canonical_execPairHiWrite off val s h
  | pairLoRead off => exact canonical_execPairLoRead off s h
  | rcFieldRead off => exact canonical_execRcFieldRead off s h
  | sqTailDoorbell fn slot val => exact canonical_execSqTailDoorbell fn slot val s h
  | cqHeadDoorbell fn slot val => exact canonical_execCqHeadDoorbell fn slot val s h
  | admCtrlEnable val => exact canonical_execAdmCtrlEnable val s h
  | admCtrlDisable val => exact canonical_execAdmCtrlDisable val s h
  | packetConsume pkt blk replyOk => exact canonical_execPacketConsume pkt blk replyOk s h
  | pendingReply eid => exact canonical_execPendingReply eid s h
  | sessionNonce eid => exact canonical_execSessionNonce eid s h
  | nonceExpiry fn ring => exact canonical_execNonceExpiry fn ring s h
  | sessionOpen eid => exact canonical_execSessionOpen eid s h
  | backoffExpiry eid => exact canonical_execBackoffExpiry eid s h
  | sessionRenew eid => exact canonical_execSessionRenew eid s h
  | sessionExpiry tag => exact canonical_execSessionExpiry tag s h
  | sessionClose eid => exact canonical_execSessionClose eid s h
  | sessionCloseComplete eid => exact canonical_execSessionCloseComplete eid s h
  | roleKeySet eid norOk => exact canonical_execRoleKeySet eid norOk s h
  | ringCreate eid => exact canonical_execRingCreate eid s h
  | ringDelete eid => exact canonical_execRingDelete eid s h
  | ringReset eid => exact canonical_execRingReset eid s h
  | ringDrainComplete ring => exact canonical_execRingDrainComplete ring s h
  | ringQuery eid => exact canonical_execRingQuery eid s h
  | engineExpertEnter eid => exact canonical_execEngineExpertEnter eid s h
  | handoverDrainComplete code inst => exact canonical_execHandoverDrainComplete code inst s h
  | handoverTimeout code inst => exact canonical_execHandoverTimeout code inst s h
  | engineExpertReturn eid => exact canonical_execEngineExpertReturn eid s h
  | returnComplete code inst descs cqOk => exact canonical_execReturnComplete code inst descs cqOk s h
  | engineQuery eid => exact canonical_execEngineQuery eid s h
  | engineDisable eid => exact canonical_execEngineDisable eid s h
  | disableDrainComplete code inst => exact canonical_execDisableDrainComplete code inst s h
  | engineEnable eid => exact canonical_execEngineEnable eid s h
  | xqEnable off val => exact canonical_execXqEnable off val s h
  | xqDisable off val => exact canonical_execXqDisable off val s h
  | xqTailWrite off val => exact canonical_execXqTailWrite off val s h
  | xcqHeadWrite off val => exact canonical_execXcqHeadWrite off val s h
  | paramGet eid => exact canonical_execParamGet eid s h
  | paramSet eid norOk => exact canonical_execParamSet eid norOk s h
  | paramSetBatch eid norOk => exact canonical_execParamSetBatch eid norOk s h
  | paramInfo eid => exact canonical_execParamInfo eid s h
  | put eid list src cmp => exact canonical_execPut eid list src cmp s h
  | putInline eid list src cmp => exact canonical_execPutInline eid list src cmp s h
  | putFixed eid list src cmp => exact canonical_execPutFixed eid list src cmp s h
  | putCommit eid cmp => exact canonical_execPutCommit eid cmp s h
  | putIdleTimeout eid => exact canonical_execPutIdleTimeout eid s h
  | get eid list recs again destOk => exact canonical_execGet eid list recs again destOk s h
  | getRange eid list recs again destOk => exact canonical_execGetRange eid list recs again destOk s h
  | deleteRef eid => exact canonical_execDeleteRef eid s h
  | objectStat eid => exact canonical_execObjectStat eid s h
  | tenantCreate eid => exact canonical_execTenantCreate eid s h
  | tenantDestroy eid => exact canonical_execTenantDestroy eid s h
  | policyCreate eid => exact canonical_execPolicyCreate eid s h
  | policyDestroy eid => exact canonical_execPolicyDestroy eid s h
  | tombstoneReclaim dom => exact canonical_execTombstoneReclaim dom s h
  | swdChunk lane desc src cqOk => exact canonical_execSwdChunk lane desc src cqOk s h
  | swdLookup lane desc src cqOk => exact canonical_execSwdLookup lane desc src cqOk s h
  | swdVerify lane desc src fields cqOk => exact canonical_execSwdVerify lane desc src fields cqOk s h
  | grsCompress inst desc src hist cqOk => exact canonical_execGrsCompress inst desc src hist cqOk s h
  | grsDecompress inst desc src hist cqOk => exact canonical_execGrsDecompress inst desc src hist cqOk s h
  | tenantKeySet eid => exact canonical_execTenantKeySet eid s h
  | retireComplete eid => exact canonical_execRetireComplete eid s h
  | keyloadKey val => exact canonical_execKeyloadKey val s h
  | keyloadHwk val => exact canonical_execKeyloadHwk val s h
  | keyloadZeroize val => exact canonical_execKeyloadZeroize val s h
  | keySlotFault slot => exact canonical_execKeySlotFault slot s h
  | brkXtsEncrypt inst desc src cqOk => exact canonical_execBrkXtsEncrypt inst desc src cqOk s h
  | brkXtsDecrypt inst desc src cqOk => exact canonical_execBrkXtsDecrypt inst desc src cqOk s h
  | brkGcmEncrypt inst desc src aad cqOk => exact canonical_execBrkGcmEncrypt inst desc src aad cqOk s h
  | brkGcmDecrypt inst desc src aad cqOk => exact canonical_execBrkGcmDecrypt inst desc src aad cqOk s h
  | brkUnwrap inst desc src cqOk => exact canonical_execBrkUnwrap inst desc src cqOk s h
  | thsClaim => exact canonical_execThsClaim s h
  | thsStart ctx val => exact canonical_execThsStart ctx val s h
  | thsGo ctx val => exact canonical_execThsGo ctx val s h
  | feedComplete ctx list data => exact canonical_execFeedComplete ctx list data s h
  | feedFault ctx list data => exact canonical_execFeedFault ctx list data s h
  | thsCompare ctx val agree mgmt => exact canonical_execThsCompare ctx val agree mgmt s h
  | thsReset ctx val => exact canonical_execThsReset ctx val s h
  | thsRelease ctx val => exact canonical_execThsRelease ctx val s h
  | groupCreate eid lab => exact canonical_execGroupCreate eid lab s h
  | groupDestroy eid => exact canonical_execGroupDestroy eid s h
  | groupQuery eid => exact canonical_execGroupQuery eid s h
  | memberAttach eid lab => exact canonical_execMemberAttach eid lab s h
  | domainMove eid => exact canonical_execDomainMove eid s h
  | domainMoveDrained eid => exact canonical_execDomainMoveDrained eid s h
  | domainMoveSealed eid => exact canonical_execDomainMoveSealed eid s h
  | domainMoveScanDone eid => exact canonical_execDomainMoveScanDone eid s h
  | domainMoveLabelsDone eid => exact canonical_execDomainMoveLabelsDone eid s h
  | fullStripeWrite root block => exact canonical_execFullStripeWrite root block s h
  | stripeSeal root block => exact canonical_execStripeSeal root block s h
  | journalFillSeal dom => exact canonical_execJournalFillSeal dom s h
  | smallWrite id old => exact canonical_execSmallWrite id old s h
  | smallWriteDone id => exact canonical_execSmallWriteDone id s h
  | memberReadComplete nsn lba readOk data tags recon eid nodeOk => exact canonical_execMemberReadComplete nsn lba readOk data tags recon eid nodeOk s h
  | tskEncode inst desc srcs cqOk => exact canonical_execTskEncode inst desc srcs cqOk s h
  | tskDecode inst desc srcs cqOk => exact canonical_execTskDecode inst desc srcs cqOk s h
  | tskWalk inst desc srcs cqOk => exact canonical_execTskWalk inst desc srcs cqOk s h
  | tskRead inst desc srcs cqOk => exact canonical_execTskRead inst desc srcs cqOk s h
  | journalRecordComplete dom jseq => exact canonical_execJournalRecordComplete dom jseq s h
  | journalRelease dom jseq => exact canonical_execJournalRelease dom jseq s h
  | journalSpaceTimeout dom jseq => exact canonical_execJournalSpaceTimeout dom jseq s h
  | journalCopyLost dom b => exact canonical_execJournalCopyLost dom b s h
  | journalCopyPlace dom => exact canonical_execJournalCopyPlace dom s h
  | journalCopyValid dom b => exact canonical_execJournalCopyValid dom b s h
  | journalCopyTimeout dom => exact canonical_execJournalCopyTimeout dom s h
  | samefdReplace dom => exact canonical_execSamefdReplace dom s h
  | autoSpareReplace leaf => exact canonical_execAutoSpareReplace leaf s h
  | memberReplace eid => exact canonical_execMemberReplace eid s h
  | memberRebuild eid => exact canonical_execMemberRebuild eid s h
  | rebuildStep group units up above => exact canonical_execRebuildStep group units up above s h
  | lostListRead eid destOk => exact canonical_execLostListRead eid destOk s h
  | reshapeStart eid lab => exact canonical_execReshapeStart eid lab s h
  | reshapeStep group old => exact canonical_execReshapeStep group old s h
  | reshapeZeroStep group => exact canonical_execReshapeZeroStep group s h
  | reshapeComplete group => exact canonical_execReshapeComplete group s h
  | reshapeResume group => exact canonical_execReshapeResume group s h
  | reshapeQuery eid => exact canonical_execReshapeQuery eid s h
  | nvmeCompletion cid status => exact canonical_execNvmeCompletion cid status s h
  | nvmeCommandTimeout cid => exact canonical_execNvmeCommandTimeout cid s h
  | abortTimeout cid => exact canonical_execAbortTimeout cid s h
  | controllerReadyTimeout port => exact canonical_execControllerReadyTimeout port s h
  | dpcTrigger port gone => exact canonical_execDpcTrigger port gone s h
  | missingMark port => exact canonical_execMissingMark port s h
  | dpcRelease port => exact canonical_execDpcRelease port s h
  | insertionSettled port nss speed width flit => exact canonical_execInsertionSettled port nss speed width flit s h
  | anaChange nsn state => exact canonical_execAnaChange nsn state s h
  | portError port cause => exact canonical_execPortError port cause s h
  | nsUnbind nsn => exact canonical_execNsUnbind nsn s h
  | tapeMigrate eid => exact canonical_execTapeMigrate eid s h
  | tapeRecall eid => exact canonical_execTapeRecall eid s h
  | tapeVerify eid => exact canonical_execTapeVerify eid s h
  | tapeJobStart t => exact canonical_execTapeJobStart t s h
  | cmRead eid destOk => exact canonical_execCmRead eid destOk s h
  | cmWrite eid src => exact canonical_execCmWrite eid src s h
  | tapeStatus eid => exact canonical_execTapeStatus eid s h
  | writeStart t input => exact canonical_execWriteStart t input s h
  | dataSetBoundary t input => exact canonical_execDataSetBoundary t input s h
  | frameVerdict t dsn sds cwi v => exact canonical_execFrameVerdict t dsn sds cwi v s h
  | writeGap t => exact canonical_execWriteGap t s h
  | shortBufferStop t => exact canonical_execShortBufferStop t s h
  | appendResume t => exact canonical_execAppendResume t s h
  | wrapEnd t preOk => exact canonical_execWrapEnd t preOk s h
  | cmEodUpdate t writeOk retryOk => exact canonical_execCmEodUpdate t writeOk retryOk s h
  | extentTapeCommit t rseq => exact canonical_execExtentTapeCommit t rseq s h
  | recallCommit t idx destOk => exact canonical_execRecallCommit t idx destOk s h
  | rampComplete t => exact canonical_execRampComplete t s h
  | wdrEncode t desc src cqOk => exact canonical_execWdrEncode t desc src cqOk s h
  | wdrWriteDs t desc src cqOk => exact canonical_execWdrWriteDs t desc src cqOk s h
  | wdrReadDs t desc src cqOk => exact canonical_execWdrReadDs t desc src cqOk s h
  | wdrLocate t desc src cqOk => exact canonical_execWdrLocate t desc src cqOk s h
  | trackPreamble t track => exact canonical_execTrackPreamble t track s h
  | frameReceived t track frame => exact canonical_execFrameReceived t track frame s h
  | elasticSlip t track => exact canonical_execElasticSlip t track s h
  | lockLoss t track => exact canonical_execLockLoss t track s h
  | speedOkChange t ok => exact canonical_execSpeedOkChange t ok s h
  | recoveryDecode t => exact canonical_execRecoveryDecode t s h
  | reread t => exact canonical_execReread t s h
  | zoneBoundaryCross t zone bad => exact canonical_execZoneBoundaryCross t zone bad s h
  | activityClassChange => exact canonical_execActivityClassChange s h
  | recalibrate t => exact canonical_execRecalibrate t s h
  | forcedRecal t => exact canonical_execForcedRecal t s h
  | tapeCalibrate eid => exact canonical_execTapeCalibrate eid s h
  | calibrationComplete t src results => exact canonical_execCalibrationComplete t src results s h
  | servoSample t ms speed => exact canonical_execServoSample t ms speed s h
  | servoLock t => exact canonical_execServoLock t s h
  | servoUnlock t => exact canonical_execServoUnlock t s h
  | positionWord t word => exact canonical_execPositionWord t word s h
  | reelSetpointFrame t => exact canonical_execReelSetpointFrame t s h
  | reelStatusFrame t loaded wpSw tensionOk fault crcOk supply takeup preOk => exact canonical_execReelStatusFrame t loaded wpSw tensionOk fault crcOk supply takeup preOk s h
  | reelLinkSilent t => exact canonical_execReelLinkSilent t s h
  | writeGateClose t slot => exact canonical_execWriteGateClose t slot s h
  | writeGateReopen t slot => exact canonical_execWriteGateReopen t slot s h
  | cartridgeMount eid cm => exact canonical_execCartridgeMount eid cm s h
  | mountLoadTimeout t => exact canonical_execMountLoadTimeout t s h
  | cartridgeUnload eid => exact canonical_execCartridgeUnload eid s h
  | connOpen eid => exact canonical_execConnOpen eid s h
  | connClose eid => exact canonical_execConnClose eid s h
  | connQuery eid => exact canonical_execConnQuery eid s h
  | spaceCreate eid => exact canonical_execSpaceCreate eid s h
  | spaceRevoke eid => exact canonical_execSpaceRevoke eid s h
  | revokeComplete eid => exact canonical_execRevokeComplete eid s h
  | replLinkCreate eid => exact canonical_execReplLinkCreate eid s h
  | grmpWrite port frame cmp => exact canonical_execGrmpWrite port frame cmp s h
  | grmpReadReq port frame mem => exact canonical_execGrmpReadReq port frame mem s h
  | grmpReadResp port frame => exact canonical_execGrmpReadResp port frame s h
  | grmpSend port frame => exact canonical_execGrmpSend port frame s h
  | grmpAck port frame => exact canonical_execGrmpAck port frame s h
  | grmpNak port frame => exact canonical_execGrmpNak port frame s h
  | grmpHeartbeat port frame => exact canonical_execGrmpHeartbeat port frame s h
  | grmpHello port frame => exact canonical_execGrmpHello port frame s h
  | grmpClose port frame => exact canonical_execGrmpClose port frame s h
  | helloTimer cid => exact canonical_execHelloTimer cid s h
  | heartbeatTransmit => exact canonical_execHeartbeatTransmit s h
  | ackTimer cid => exact canonical_execAckTimer cid s h
  | retransmitTimeout cid => exact canonical_execRetransmitTimeout cid s h
  | busyResend cid => exact canonical_execBusyResend cid s h
  | heartbeatTimeout path => exact canonical_execHeartbeatTimeout path s h
  | pathReturn path => exact canonical_execPathReturn path s h
  | stateFetchComplete cid mem cmp => exact canonical_execStateFetchComplete cid mem cmp s h
  | peerReleaseMsg cid => exact canonical_execPeerReleaseMsg cid s h
  | nsbind cid => exact canonical_execNsbind cid s h
  | offer cid => exact canonical_execOffer cid s h
  | want cid recs => exact canonical_execWant cid recs s h
  | records cid => exact canonical_execRecords cid s h
  | done cid => exact canonical_execDone cid s h
  | replDelete cid => exact canonical_execReplDelete cid s h
  | replShip link => exact canonical_execReplShip link s h
  | replRetry link => exact canonical_execReplRetry link s h
  | drvWrite q desc src => exact canonical_execDrvWrite q desc src s h
  | drvRead q desc src => exact canonical_execDrvRead q desc src s h
  | drvSend q desc src => exact canonical_execDrvSend q desc src s h
  | chainWaitSatisfied q src => exact canonical_execChainWaitSatisfied q src s h
  | chainTimeout q => exact canonical_execChainTimeout q s h
  | drvXcount q val => exact canonical_execDrvXcount q val s h
  | pathStatus eid => exact canonical_execPathStatus eid s h
  | subportUp port sub => exact canonical_execSubportUp port sub s h
  | subportDown port sub fec => exact canonical_execSubportDown port sub fec s h
  | subportReturn port sub => exact canonical_execSubportReturn port sub s h
  | neighbourDiscovery port sub frame => exact canonical_execNeighbourDiscovery port sub frame s h
  | echoRequest port sub frame => exact canonical_execEchoRequest port sub frame s h
  | arpRequest port sub frame => exact canonical_execArpRequest port sub frame s h
  | hbtPulse => exact canonical_execHbtPulse s h
  | hbtEdge widthOk => exact canonical_execHbtEdge widthOk s h
  | hbtTimeout => exact canonical_execHbtTimeout s h
  | hbtStuck => exact canonical_execHbtStuck s h
  | domainClaim eid => exact canonical_execDomainClaim eid s h
  | hlkPull dom probe => exact canonical_execHlkPull dom probe s h
  | hlkReadback dom low => exact canonical_execHlkReadback dom low s h
  | claimWaitTimeout dom => exact canonical_execClaimWaitTimeout dom s h
  | leaseGrantTimeout dom => exact canonical_execLeaseGrantTimeout dom s h
  | domainRelease eid => exact canonical_execDomainRelease eid s h
  | domainReleaseDrained dom => exact canonical_execDomainReleaseDrained dom s h
  | handover => exact canonical_execHandover s h
  | claimed => exact canonical_execClaimed s h
  | headStatus eid => exact canonical_execHeadStatus eid s h
  | watchdogExpiry => exact canonical_execWatchdogExpiry s h
  | leaseRenew => exact canonical_execLeaseRenew s h
  | leaseLapse dom => exact canonical_execLeaseLapse dom s h
  | peerFailed => exact canonical_execPeerFailed s h
  | fenceExpiry dom => exact canonical_execFenceExpiry dom s h
  | replayComplete dom load => exact canonical_execReplayComplete dom load s h
  | indexLoadComplete dom => exact canonical_execIndexLoadComplete dom s h
  | yield => exact canonical_execYield s h
  | join => exact canonical_execJoin s h
  | resync => exact canonical_execResync s h
  | resyncDone => exact canonical_execResyncDone s h
  | failbackHoldoffExpiry => exact canonical_execFailbackHoldoffExpiry s h
  | memFill eid => exact canonical_execMemFill eid s h
  | memFillComplete eid => exact canonical_execMemFillComplete eid s h
  | ddrTrainingComplete failed rate gib temp sklOk => exact canonical_execDdrTrainingComplete failed rate gib temp sklOk s h
  | channelRetrain ch ok => exact canonical_execChannelRetrain ch ok s h
  | mergeDrain port word old => exact canonical_execMergeDrain port word old s h
  | uncorrectableRead port addr poison by_ => exact canonical_execUncorrectableRead port addr poison by_ s h
  | hthInvalidate eid => exact canonical_execHthInvalidate eid s h
  | invalidateComplete => exact canonical_execInvalidateComplete s h
  | hthEnable eid => exact canonical_execHthEnable eid s h
  | hthDisable eid => exact canonical_execHthDisable eid s h
  | cleanComplete => exact canonical_execCleanComplete s h
  | hthPreloadLock eid => exact canonical_execHthPreloadLock eid s h
  | preloadComplete eid => exact canonical_execPreloadComplete eid s h
  | hthWayPower eid => exact canonical_execHthWayPower eid s h
  | hthRangeInvalidate eid => exact canonical_execHthRangeInvalidate eid s h
  | tagParityError way set dirty => exact canonical_execTagParityError way set dirty s h
  | sourceEdge src routeOk => exact canonical_execSourceEdge src routeOk s h
  | hrwClaim target mgmt => exact canonical_execHrwClaim target mgmt s h
  | hrwComplete target val mgmt => exact canonical_execHrwComplete target val mgmt s h
  | hrwPendSet word val mgmt => exact canonical_execHrwPendSet word val mgmt s h
  | hrwPendClr word val mgmt => exact canonical_execHrwPendClr word val mgmt s h
  | hrwMaskSet word val mgmt => exact canonical_execHrwMaskSet word val mgmt s h
  | hrwMaskClr word val mgmt => exact canonical_execHrwMaskClr word val mgmt s h
  | hrwSrcRoute val mgmt => exact canonical_execHrwSrcRoute val mgmt s h
  | hrwMod fn vec val => exact canonical_execHrwMod fn vec val s h
  | batchCountReached fn vec => exact canonical_execBatchCountReached fn vec s h
  | batchTimerExpiry fn vec => exact canonical_execBatchTimerExpiry fn vec s h
  | retargetWithdraw src => exact canonical_execRetargetWithdraw src s h
  | wakeDeadlineExpiry src => exact canonical_execWakeDeadlineExpiry src s h
  | targetWake core target => exact canonical_execTargetWake core target s h
  | pmcsrD3hot fn pmeEn => exact canonical_execPmcsrD3hot fn pmeEn s h
  | pmeTurnOff => exact canonical_execPmeTurnOff s h
  | powerOnReset => exact canonical_execPowerOnReset s h
  | coldReset => exact canonical_execColdReset s h
  | crpResetWarm val => exact canonical_execCrpResetWarm val s h
  | crpResetCold val => exact canonical_execCrpResetCold val s h
  | hostLinkReset => exact canonical_execHostLinkReset s h
  | functionLevelReset fn => exact canonical_execFunctionLevelReset fn s h
  | clockFault dom stopped => exact canonical_execClockFault dom stopped s h
  | blockIdleGate block inst => exact canonical_execBlockIdleGate block inst s h
  | blockUngate block inst => exact canonical_execBlockUngate block inst s h
  | pstateP2Request val => exact canonical_execPstateP2Request val s h
  | pstateP0Request val => exact canonical_execPstateP0Request val s h
  | alwaysOnWake => exact canonical_execAlwaysOnWake s h
  | corePgRise => exact canonical_execCorePgRise s h
  | corePgTimeout => exact canonical_execCorePgTimeout s h
  | corePgFall => exact canonical_execCorePgFall s h
  | socPgFall => exact canonical_execSocPgFall s h
  | thermalSample sensor temp => exact canonical_execThermalSample sensor temp s h
  | thermalTrip => exact canonical_execThermalTrip s h
  | tripEnd => exact canonical_execTripEnd s h
  | tickBoundary tk => exact canonical_execTickBoundary tk s h
  | tickCheckpoint => exact canonical_execTickCheckpoint s h
  | bgBudgetSet eid => exact canonical_execBgBudgetSet eid s h
  | scrubStart eid destOk => exact canonical_execScrubStart eid destOk s h
  | patrolScrub words bad => exact canonical_execPatrolScrub words bad s h
  | stripeVerify root block data units => exact canonical_execStripeVerify root block data units s h
  | tapeIdleVerify t => exact canonical_execTapeIdleVerify t s h
  | smartRead port used => exact canonical_execSmartRead port used s h
  | telemetryConfig eid => exact canonical_execTelemetryConfig eid s h
  | telemetrySnapshot => exact canonical_execTelemetrySnapshot s h
  | oobPacket xid pkt => exact canonical_execOobPacket xid pkt s h
  | winWrite xid woff data => exact canonical_execWinWrite xid woff data s h
  | winRead xid woff len => exact canonical_execWinRead xid woff len s h
  | oobFrameAnswer kind frame => exact canonical_execOobFrameAnswer kind frame s h
  | smbusReadStatus => exact canonical_execSmbusReadStatus s h
  | smbusReadTemp => exact canonical_execSmbusReadTemp s h
  | smbusReadFeTemp t => exact canonical_execSmbusReadFeTemp t s h
  | smbusReadImon => exact canonical_execSmbusReadImon s h
  | smbusReadHead => exact canonical_execSmbusReadHead s h
  | smbusReadRstCause => exact canonical_execSmbusReadRstCause s h
  | smbusReadUnitId => exact canonical_execSmbusReadUnitId s h
  | smbusReadVersion => exact canonical_execSmbusReadVersion s h
  | smbusColdReset key pecOk => exact canonical_execSmbusColdReset key pecOk s h
  | smbusWarmReset key pecOk => exact canonical_execSmbusWarmReset key pecOk s h
  | diagSelftest eid failed => exact canonical_execDiagSelftest eid failed s h
  | diagLoopback eid bits errs => exact canonical_execDiagLoopback eid bits errs s h
  | skylarkRecord memOk => exact canonical_execSkylarkRecord memOk s h
  | sklRead eid bad destOk => exact canonical_execSklRead eid bad destOk s h
  | sklClear eid => exact canonical_execSklClear eid s h
  | sklRsel val readOk => exact canonical_execSklRsel val readOk s h
  | updPiece eid piece norOk => exact canonical_execUpdPiece eid piece norOk s h
  | updStatus eid => exact canonical_execUpdStatus eid s h
  | updVerify eid bad => exact canonical_execUpdVerify eid bad s h
  | updActivate eid => exact canonical_execUpdActivate eid s h
  | activateReset => exact canonical_execActivateReset s h
  | updFallback eid => exact canonical_execUpdFallback eid s h
  | trialSelftest pass => exact canonical_execTrialSelftest pass s h
  | attestReport eid destOk => exact canonical_execAttestReport eid destOk s h
  | socPgRise => exact canonical_execSocPgRise s h
  | sysResetNRelease => exact canonical_execSysResetNRelease s h
  | perstNRelease => exact canonical_execPerstNRelease s h
  | powerLoss => exact canonical_execPowerLoss s h
  | pllRelock dom => exact canonical_execPllRelock dom s h
  | corePwrEnRetry => exact canonical_execCorePwrEnRetry s h
  | msixVectorUnmask fn vec => exact canonical_execMsixVectorUnmask fn vec s h
  | unexpectedFrame port fcs => exact canonical_execUnexpectedFrame port fcs s h

/-- Settles O58: an idle step changes nothing, and each command keeps the bank's form. -/
theorem everyStepKeepsTheBankCanonical : Obligations.EveryStepKeepsTheBankCanonical := by
  unfold Obligations.EveryStepKeepsTheBankCanonical
  intro s t h hstep
  unfold step at hstep
  split at hstep
  · cases hstep
    exact h
  · next c rest _ =>
    obtain ⟨u, hu, hcanonical⟩ := canonical_exec c { s with pending := rest } h
    rw [hu] at hstep
    cases hstep
    exact hcanonical

/-- Settles O3: every arm of the dispatch is a next state. -/
theorem noCommandStops : Obligations.NoCommandStops := by
  unfold Obligations.NoCommandStops
  intro c s
  cases c <;> exact ⟨_, rfl⟩

end Sys2Proof.Machine
end


section
/-! The register bank as BAR0 reaches it: what it reads back, which offsets are plain registers of the bank, and what a read and a
write of one do (R9 to R14). -/
namespace Sys2Proof.Machine

open Sys2Proof

/-! ### The bank and byte buffers are determined by what they read -/

/-- A key below the first one of a table in order is not there. -/
theorem KMap.get?_of_lt {α : Type} (m : KMap α) (k : Nat) (h : ∀ x ∈ m, k < x.1) : KMap.get? m k = none := by
  induction m with
  | nil => rfl
  | cons e m ih =>
    have hk := h e (by simp)
    rw [KMap.get?, if_neg (by omega), ih fun x hx => h x (by simp [hx])]

/-- Tables in order that answer alike are equal. -/
theorem KMap.eq_of_get? {α : Type} (m n : KMap α) (hm : KMap.wf m = true) (hn : KMap.wf n = true)
    (h : ∀ k, KMap.get? m k = KMap.get? n k) : m = n := by
  induction m generalizing n with
  | nil =>
    cases n with
    | nil => rfl
    | cons e n => simpa [KMap.get?] using h e.1
  | cons d m ih =>
    cases n with
    | nil => simpa [KMap.get?] using h d.1
    | cons e n =>
      obtain ⟨hd, wm⟩ := (KMap.wf_cons d m).1 hm
      obtain ⟨he, wn⟩ := (KMap.wf_cons e n).1 hn
      have key : d.1 = e.1 := by
        rcases Nat.lt_trichotomy d.1 e.1 with hlt | heq | hgt
        · have := h d.1
          rw [KMap.get?_of_lt (e :: n) d.1 (by
            intro x hx
            rcases List.mem_cons.1 hx with rfl | hx
            · exact hlt
            · exact Nat.lt_trans hlt (he x hx))] at this
          simp [KMap.get?] at this
        · exact heq
        · have := h e.1
          rw [KMap.get?_of_lt (d :: m) e.1 (by
            intro x hx
            rcases List.mem_cons.1 hx with rfl | hx
            · exact hgt
            · exact Nat.lt_trans hgt (hd x hx))] at this
          simp [KMap.get?] at this
      have val : d.2 = e.2 := by simpa [KMap.get?, key] using h d.1
      have tail : m = n := by
        refine ih n wm wn fun k => ?_
        by_cases hk : k = d.1
        · rw [hk, KMap.get?_of_lt m _ hd, KMap.get?_of_lt n _ (key ▸ he)]
        · simpa [KMap.get?, hk, key ▸ hk] using h k
      rw [tail, Prod.ext key val]

/-- What a table holds is one of its entries. -/
theorem KMap.mem_of_get? {α : Type} {m : KMap α} {k : Nat} {v : α} (h : KMap.get? m k = some v) : (k, v) ∈ m := by
  induction m with
  | nil => cases h
  | cons e m ih =>
    rw [KMap.get?] at h
    split at h
    · cases h; simp_all
    · exact List.mem_cons_of_mem _ (ih h)

/-- A canonical bank lists a word exactly where it reads other than its reset value. -/
theorem Canonical.get?_eq {m : KMap W32} (h : Canonical m) (o : Nat) :
    KMap.get? m o = if KMap.getD m o (regReset o) = regReset o then none else some (KMap.getD m o (regReset o)) := by
  unfold KMap.getD
  cases e : KMap.get? m o with
  | none => simp
  | some v => simp [h.2 _ (KMap.mem_of_get? e)]

/-- Canonical banks that read alike are equal. -/
theorem State.regs_eq_of_reg_eq {s t : State} (hs : s.bankOk) (ht : t.bankOk) (h : ∀ o, t.reg o = s.reg o) : t.regs = s.regs := by
  refine KMap.eq_of_get? _ _ ht.1 hs.1 fun k => ?_
  have hk : KMap.getD t.regs k (regReset k) = KMap.getD s.regs k (regReset k) := h k
  rw [Canonical.get?_eq ht, Canonical.get?_eq hs, hk]

theorem Mem.get_of_lt (m : Mem) (a : Nat) (h : ∀ x ∈ m, a < x.1) : Mem.get m a = Mem.blank := by
  induction m with
  | nil => rfl
  | cons c m ih =>
    have hc := h c (by simp)
    rw [Mem.get, if_neg (by omega), ih fun x hx => h x (by simp [hx])]

theorem Mem.get_erase_same (m : Mem) (a : Nat) (h : Mem.wf m = true) : Mem.get (Mem.erase m a) a = Mem.blank := by
  induction m with
  | nil => rfl
  | cons c m ih =>
    obtain ⟨-, hc, wm⟩ := (Mem.wf_cons c m).1 h
    rw [Mem.erase]
    split
    · next e => exact Mem.get_of_lt m a (e ▸ hc)
    · next e => rw [Mem.get, if_neg e, ih wm]

theorem Mem.get_erase_other (m : Mem) {a i : Nat} (h : i ≠ a) : Mem.get (Mem.erase m a) i = Mem.get m i := by
  induction m with
  | nil => rfl
  | cons c m ih =>
    rw [Mem.erase]
    split
    · next e => rw [Mem.get, if_neg (by omega)]
    · rw [Mem.get, Mem.get, ih]

theorem Mem.get_set_same (m : Mem) (a : Nat) (b : Byte) (h : Mem.wf m = true) : Mem.get (Mem.set m a b) a = b := by
  unfold Mem.set
  split
  · next e => rw [Mem.get_erase_same m a h, e]
  · exact Mem.get_insert_same m a b

theorem Mem.get_set_other (m : Mem) {a i : Nat} (b : Byte) (h : i ≠ a) : Mem.get (Mem.set m a b) i = Mem.get m i := by
  unfold Mem.set
  split
  · exact Mem.get_erase_other m h
  · exact Mem.get_insert_other m b h

/-- A write leaves the bytes outside it. -/
theorem Mem.get_write_other (m : Mem) (a : Nat) (bs : Bytes) (i : Nat) (h : i < a ∨ a + bs.length ≤ i) :
    Mem.get (Mem.write m a bs) i = Mem.get m i := by
  induction bs generalizing m a with
  | nil => rfl
  | cons b bs ih =>
    rw [List.length_cons] at h
    rw [Mem.write, ih _ _ (by omega), Mem.get_set_other _ _ (by omega)]

/-- A write stores each of its bytes. -/
theorem Mem.get_write_same (m : Mem) (a : Nat) (bs : Bytes) (h : Mem.wf m = true) (i : Nat) (hi : i < bs.length) :
    Mem.get (Mem.write m a bs) (a + i) = bs[i] := by
  induction bs generalizing m a i with
  | nil => cases hi
  | cons b bs ih =>
    rw [Mem.write]
    cases i with
    | zero => rw [Mem.get_write_other _ _ _ _ (.inl (by omega))]; exact Mem.get_set_same m a b h
    | succ i =>
      have := ih (Mem.set m a b) (a + 1) (Mem.wf_set m a b h) i (by simpa using hi)
      rw [show a + (i + 1) = a + 1 + i by omega, this, List.getElem_cons_succ]

theorem Mem.read_write_same (m : Mem) (a : Nat) (bs : Bytes) (h : Mem.wf m = true) :
    Mem.read (Mem.write m a bs) a bs.length = bs := by
  refine List.ext_getElem (by simp [Mem.read]) fun i h1 h2 => ?_
  simp only [Mem.read, List.getElem_map, List.getElem_range]
  exact Mem.get_write_same m a bs h i h2

/-- Settles O59: a canonical table is determined by what it answers, and a byte written reads back. -/
theorem registerBank : Obligations.RegisterBank := by
  unfold Obligations.RegisterBank
  refine ⟨fun s off v hs => ⟨State.bankOk_setReg s off v hs, State.reg_setReg_same s off v,
    fun o ho => State.reg_setReg_other s v ho, fun t ht h => State.regs_eq_of_reg_eq hs ht h⟩,
    fun m a b hm => ⟨Mem.wf_write m a b hm, Mem.read_write_same m a b hm, fun c hc => ?_⟩⟩
  simp [Mem.read, Mem.get_write_other m a b c hc]

/-! ### The queue of commands and the state after reset -/

/-- Settles O1: the front command runs with the queue's rest. -/
theorem stepRunsFront : Obligations.StepRunsFront := by
  unfold Obligations.StepRunsFront
  intro c rest s h
  simp [step, h]

/-- Settles O2: an empty queue leaves the state, and the table decodes no word. -/
theorem emptyQueueIdles : Obligations.EmptyQueueIdles := by
  unfold Obligations.EmptyQueueIdles
  exact ⟨fun s h => by simp [step, h], fun nbits w => ⟨rfl, fun s => rfl⟩⟩

theorem State.reg_reset (off : Nat) : State.reset.reg off = regReset off := rfl

theorem State.dom_reset (d : Nat) : State.reset.dom d = Dom.reset := by
  show (List.replicate 8 Dom.reset).getD d Dom.reset = Dom.reset
  rw [List.getD_eq_getElem?_getD, List.getElem?_replicate]
  split <;> rfl

/-- Settles O57: the bank of the reset state lists no word, and the other tables are empty. -/
theorem resetState : Obligations.ResetState := by
  unfold Obligations.ResetState
  refine ⟨⟨rfl, fun x hx => ?_⟩, State.reg_reset, rfl, ?_, rfl, rfl, rfl, rfl, fun t => ?_, fun d => ?_⟩
  · cases hx
  · decide +kernel
  · unfold State.tape; split <;> rfl
  · rw [State.owns, State.dom_reset]; rfl

/-! ### Accesses without a register -/

/-- The word GLB_ACC_ERR takes where its VALID is 0. -/
theorem State.badAccess_fresh {s : State} (off : Nat) (write : Bool) (h : s.rbit Reg.glbAccErr 31 = false) :
    s.badAccess off write = ((s.setReg Reg.glbAccErr (BitVec.ofNat 32 (2 ^ 31 + 4 * fieldOf off 21 2 + b2n write))).setLevel
      (eventSrc Reg.glbAccErr) true).emit (.unsupported off) := by
  simp [State.badAccess, h]

/-- A further unsupported access counts in MORE. -/
theorem State.badAccess_more {s : State} (off : Nat) (write : Bool) (h : s.rbit Reg.glbAccErr 31 = true) :
    s.badAccess off write = (s.bump Reg.glbAccErr 29 22 1).emit (.unsupported off) := by
  simp [State.badAccess, h]

/-- An unsupported access changes GLB_ACC_ERR, Hedgerow and what is sent. -/
theorem State.badAccess_frame (s : State) (off : Nat) (write : Bool) : ∃ w h o, s.badAccess off write
    = { (s.setReg Reg.glbAccErr w) with hrw := h, out := o ++ [.unsupported off] } := by
  by_cases hv : s.rbit Reg.glbAccErr 31 = true
  · rw [State.badAccess_more off write hv]
    exact ⟨_, _, _, rfl⟩
  · rw [State.badAccess_fresh off write (by simpa using hv)]
    obtain ⟨h, o, e⟩ := State.setLevel_frame
      (s.setReg Reg.glbAccErr (BitVec.ofNat 32 (2 ^ 31 + 4 * fieldOf off 21 2 + b2n write))) (eventSrc Reg.glbAccErr) true
    rw [e]
    exact ⟨_, h, o, rfl⟩

/-- An offset no map defines is absent. -/
theorem State.absent_of_regAt_none (s : State) {off : Nat} (h : regAt off = none) : s.absent off = true := by
  simp [State.absent, h]

/-- Settles O4: the first such access sets the register, the others count, and an undefined offset is absent. -/
theorem accessesWithoutARegister : Obligations.AccessesWithoutARegister := by
  unfold Obligations.AccessesWithoutARegister
  refine ⟨fun off write s => ⟨s.badAccess off write, rfl, ?_⟩, fun off val s h4 hlt hoff => ?_⟩
  · obtain ⟨w, h, o, e⟩ := State.badAccess_frame s off write
    refine ⟨by simp [e], fun hv => ?_, fun hv => ?_, fun o ho => ?_, ?_⟩
    · simp [State.badAccess_fresh off write hv]
    · rw [State.badAccess_more off write hv]
      exact ⟨State.rf_bump_same s _ _ _ _ (by decide) (by decide),
        State.rf_bump_other s _ _ _ _ _ _ (by decide) (by decide) (.inl (by decide))⟩
    · rw [e]; exact State.reg_setReg_other s w ho
    · rw [e]; simp
  · have hb : barOff off = true := by simpa [barOff, h4] using hlt
    have ha := State.absent_of_regAt_none s hoff
    exact ⟨by simp [exec, execRcFieldRead, State.readReg, hb, ha], by simp [exec, execRegisterWrite, State.writeReg, hb, ha]⟩

/-! ### Plain registers: those that are only the bank's words -/

/-- An offset whose register no state takes away (but a warm reset) and no digest context or claim answers for. -/
structure PlainOff (off : Nat) : Prop where
  bar : barOff off = true
  defined : (regAt off).isSome = true
  noTape : off < 0x200000 ∨ 0x300000 ≤ off
  noPort : setIdx off (Reg.fptLink 0) 32 16 = none
  noTarget : setIdx off (Reg.hrwTnClaim 0) 32 16 = none
  noMod : famIdx off (Reg.hrwModV 0) 4 2048 = none
  noCtx : ctxAt off = none
  noClaim : famIdx off (Reg.hrwTnClaim 0) 32 16 = none
  noThs : off ≠ Reg.thsClaim

/-- A plain offset answers while no warm reset runs. -/
theorem State.absent_plain {s : State} {off : Nat} (hw : s.crp.warmEnd = none) (h : PlainOff off) : s.absent off = false := by
  have hr : (regAt off).isNone = false := by simpa using h.defined
  have ht : (decide (0x200000 ≤ off) && decide (off < 0x300000)) = false := by
    have := h.noTape
    simp only [Bool.and_eq_false_iff, decide_eq_false_iff_not]
    omega
  simp only [State.absent, hw, hr, h.noPort, h.noTarget, h.noMod, Bool.and_assoc, ht]
  simp

/-- A read of a plain register. -/
theorem State.readReg_plain {s : State} {off : Nat} (hw : s.crp.warmEnd = none) (h : PlainOff off) :
    s.readReg off = (s.readEffect off).emit (.readData off (s.halfOr off)) := by
  simp [State.readReg, h.bar, State.absent_plain hw h, State.ctxHidden, h.noCtx, h.noClaim, h.noThs]

/-- An offset whose write no owner guards and no command of its own answers. -/
structure PlainWrite (off : Nat) : Prop extends PlainOff off where
  noXq : xqAt off = none
  noGln : glnGuard off = none
  noOwn : off ∉ [Reg.fldAdmCtrl, Reg.brkKeyload, Reg.hrwSrcRoute, Reg.crpReset, Reg.crpPstate, Reg.sklRsel]
  noBell : off < 0x20000 ∨ 0x20000 + 8 * 1023 ≤ off
  noKeyin : famIdx off (Reg.brkKeyinK 0) 4 16 = none
  noXcount : setIdx off (Reg.drvXcount 0) 64 64 = none
  noCtrl : famIdx off (Reg.thsCnCtrl 0) 256 32 = none
  noPend : famIdx off (Reg.hrwPendSetK 0) 4 512 = none
  noComplete : famIdx off (Reg.hrwTnComplete 0) 32 16 = none
  noErr : errAt off = false

theorem State.writeOwn_plain (s : State) {off : Nat} (h : PlainWrite off) (val : W32) : s.writeOwn off val = none := by
  have hb : ¬ (0x20000 ≤ off ∧ off < 0x20000 + 8 * 1023) := by have := h.noBell; omega
  have ho := h.noOwn
  simp only [List.mem_cons, List.not_mem_nil, or_false, not_or] at ho
  obtain ⟨h1, h2, h3, h4, h5, h6⟩ := ho
  simp [State.writeOwn, h1, h2, h3, h4, h5, h6, h.noXq, h.noKeyin, h.noMod, h.noXcount, h.noCtrl, h.noPend, h.noComplete, h.noErr]
  omega

/-- A write of a plain register: a lower half is staged, an upper half applied, any other stored field by field. -/
theorem State.writeReg_plain {s : State} {off : Nat} (hw : s.crp.warmEnd = none) (h : PlainWrite off) (val : W32) :
    s.writeReg off val = if isLo off then s.stage off val else if isHi off then s.applyPair off val
      else (s.writeFields off val.toNat).fallLevels off := by
  simp [State.writeReg, h.bar, State.absent_plain hw h.toPlainOff, State.writeGuard, h.noXq, h.noCtx, h.noGln, State.writeOwn_plain s h]

/-- A write of a register whose one field is RW sets that field. -/
theorem State.writeFields_one (s : State) {off hi lo rst : Nat} (h : (regAt off).map (·.fields) = some [⟨hi, lo, .rw, rst⟩]) (v : Nat)
    (hg : off ≠ Reg.glnRec 0 ∧ off ≠ Reg.glnRec 1) : s.writeFields off v = s.setRf off hi lo (fieldOf v hi lo) := by
  obtain ⟨r, hr, hf⟩ := Option.map_eq_some_iff.1 h
  simp [State.writeFields, hr, hf, fieldIn, hg]

/-- A field cleared stays clear when another field of the word is cleared. -/
theorem State.rf_clear_setRf (s : State) (o off hi lo hi' lo' : Nat) (hl : lo ≤ hi) (hh : hi < 32) (h : s.rf o hi' lo' = 0) :
    (s.setRf off hi lo 0).rf o hi' lo' = 0 := by
  by_cases ho : o = off
  · subst ho
    unfold State.rf at h ⊢
    rw [State.toNat_setRf _ _ _ _ _ hl hh]
    apply Nat.eq_of_testBit_eq
    intro i
    have hi := congrArg (·.testBit i) h
    simp only [testBit_fieldOf, Nat.zero_testBit] at hi ⊢
    rw [testBit_withField _ _ _ _ _ hl]
    split <;> simp_all
  · rw [State.rf_setRf_reg s _ _ _ _ _ ho, h]

/-- Clearing fields of a word, one after another, leaves the other words and clears each of them. -/
theorem State.foldl_clear (fs : List RegField) (s : State) (off : Nat) (hfs : ∀ f ∈ fs, f.lo ≤ f.hi ∧ f.hi < 32) :
    (∀ o, o ≠ off → (fs.foldl (fun s f => s.setRf off f.hi f.lo 0) s).reg o = s.reg o)
    ∧ (∀ hi lo, s.rf off hi lo = 0 → (fs.foldl (fun s f => s.setRf off f.hi f.lo 0) s).rf off hi lo = 0)
    ∧ ∀ f ∈ fs, (fs.foldl (fun s f => s.setRf off f.hi f.lo 0) s).rf off f.hi f.lo = 0 := by
  induction fs generalizing s with
  | nil => simp
  | cons f fs ih =>
    obtain ⟨hl, hh⟩ := hfs f (by simp)
    obtain ⟨hreg, hstay, hclr⟩ := ih (s.setRf off f.hi f.lo 0) fun g hg => hfs g (by simp [hg])
    refine ⟨fun o ho => ?_, fun hi lo h => hstay hi lo (State.rf_clear_setRf s _ _ _ _ _ _ hl hh h), fun g hg => ?_⟩
    · rw [List.foldl_cons, hreg o ho, State.reg_setRf_other _ _ _ _ ho]
    · rcases List.mem_cons.1 hg with rfl | hg
      · exact hstay _ _ (by rw [State.rf_setRf_same _ _ _ _ _ hl hh, Nat.zero_mod])
      · exact hclr g hg

/-- Clearing fields leaves what is not of the bank. -/
theorem State.foldl_setRf_frame (fs : List RegField) (s : State) (off : Nat) :
    fs.foldl (fun s f => s.setRf off f.hi f.lo 0) s
      = { s with regs := (fs.foldl (fun s f => s.setRf off f.hi f.lo 0) s).regs } := by
  induction fs generalizing s with
  | nil => rfl
  | cons f fs ih => rw [List.foldl_cons, ih]; rfl

/-- The registers with read-to-clear fields whose other fields are the bank's own. -/
def rcCounters : List Nat := [Reg.fldTickStat, Reg.fldTelStat, Reg.swdCntLenerr, Reg.grsCntEvents, Reg.brkCntEvents, Reg.tskCntTagerr,
  Reg.drvCntNak, Reg.dhdCnt, Reg.memSramEcc, Reg.hthCntEvents, Reg.hrwCntEvents]

/-- The selectors with one RW field, and the bases of ring 0, half by half. -/
def rwPlain : List Nat := [Reg.fptNsSel, Reg.hrwSrcSel, Reg.stlSel, Reg.fldAdmSqBaseLo, Reg.fldAdmCqBaseLo, Reg.fldAdmSqBaseLo + 4,
  Reg.fldAdmCqBaseLo + 4]

theorem plainOff_of_mem {off : Nat} (h : off ∈ rcCounters ++ rwPlain ++ [Reg.fldTickLo, Reg.fldTickLo + 4]) : PlainOff off := by
  have all : ∀ off ∈ rcCounters ++ rwPlain ++ [Reg.fldTickLo, Reg.fldTickLo + 4],
      barOff off = true ∧ (regAt off).isSome = true ∧ (off < 0x200000 ∨ 0x300000 ≤ off) ∧ setIdx off (Reg.fptLink 0) 32 16 = none
      ∧ setIdx off (Reg.hrwTnClaim 0) 32 16 = none ∧ famIdx off (Reg.hrwModV 0) 4 2048 = none ∧ ctxAt off = none
      ∧ famIdx off (Reg.hrwTnClaim 0) 32 16 = none ∧ off ≠ Reg.thsClaim := by decide +kernel
  obtain ⟨h1, h2, h3, h4, h5, h6, h7, h8, h9⟩ := all off h
  exact ⟨h1, h2, h3, h4, h5, h6, h7, h8, h9⟩

theorem plainWrite_of_mem {off : Nat} (h : off ∈ rwPlain) : PlainWrite off := by
  have all : ∀ off ∈ rwPlain, xqAt off = none ∧ glnGuard off = none
      ∧ off ∉ [Reg.fldAdmCtrl, Reg.brkKeyload, Reg.hrwSrcRoute, Reg.crpReset, Reg.crpPstate, Reg.sklRsel]
      ∧ (off < 0x20000 ∨ 0x20000 + 8 * 1023 ≤ off) ∧ famIdx off (Reg.brkKeyinK 0) 4 16 = none
      ∧ setIdx off (Reg.drvXcount 0) 64 64 = none ∧ famIdx off (Reg.thsCnCtrl 0) 256 32 = none
      ∧ famIdx off (Reg.hrwPendSetK 0) 4 512 = none ∧ famIdx off (Reg.hrwTnComplete 0) 32 16 = none ∧ errAt off = false := by
    decide +kernel
  obtain ⟨h1, h2, h3, h4, h5, h6, h7, h8, h9, h10⟩ := all off h
  exact ⟨plainOff_of_mem (by simp [h]), h1, h2, h3, h4, h5, h6, h7, h8, h9, h10⟩

/-! ### Reads of read-to-clear registers -/

/-- A read-to-clear counter shows the word the bank holds. -/
theorem State.view_rcCounter (s : State) {off : Nat} (h : off ∈ rcCounters) : s.view off = (s.reg off).toNat := by
  simp only [rcCounters, List.mem_cons, List.not_mem_nil, or_false] at h
  rcases h with rfl | rfl | rfl | rfl | rfl | rfl | rfl | rfl | rfl | rfl | rfl <;> rfl

/-- The fields of a read-to-clear register that a read clears lie within its word. -/
theorem rcFields_ok {off : Nat} (h : off ∈ rcCounters) : ∀ f ∈ ((regAt off).map (·.fields)).getD [], f.lo ≤ f.hi ∧ f.hi < 32 := by
  have all : ∀ off ∈ rcCounters, ∀ f ∈ ((regAt off).map (·.fields)).getD [], f.lo ≤ f.hi ∧ f.hi < 32 := by decide +kernel
  exact all off h

theorem isLo_rcCounter {off : Nat} (h : off ∈ rcCounters) : isLo off = false ∧ isHi off = false ∧ off ≠ Reg.stlXstat := by
  have all : ∀ off ∈ rcCounters, isLo off = false ∧ isHi off = false ∧ off ≠ Reg.stlXstat := by decide +kernel
  exact all off h

/-- Clearing the RC fields of a register goes through the fields of its family. -/
theorem State.clearRc_eq (s : State) {off : Nat} (h : (regAt off).isSome = true) (hx : off ≠ Reg.stlXstat) :
    s.clearRc off = ((((regAt off).map (·.fields)).getD []).filter fun f => f.acc == .rc).foldl (fun s f => s.setRf off f.hi f.lo 0) s := by
  obtain ⟨r, hr⟩ := Option.isSome_iff_exists.1 h
  simp [State.clearRc, hr, hx]

/-- Settles O6: the read returns the bank's word, and each RC field is set to 0. -/
theorem readClearsCounters : Obligations.ReadClearsCounters := by
  unfold Obligations.ReadClearsCounters
  intro off s hw h
  have hm : off ∈ rcCounters := h
  have hp : PlainOff off := plainOff_of_mem (by simp [hm])
  obtain ⟨hlo, hhi, hx⟩ := isLo_rcCounter hm
  refine ⟨s.readReg off, rfl, ?_⟩
  have hread : s.readReg off = ((s.clearRc off).nextDraw).emit (.readData off (s.reg off).toNat) := by
    rw [State.readReg_plain hw hp]
    simp [State.readEffect, State.halfOr, hlo, hhi, State.view_rcCounter s hm]
  obtain ⟨hreg, -, hclr⟩ := State.foldl_clear
    ((((regAt off).map (·.fields)).getD []).filter fun f => f.acc == .rc) s off fun f hf =>
      rcFields_ok hm f (List.mem_filter.1 hf).1
  rw [hread, State.clearRc_eq s hp.defined hx]
  refine ⟨?_, fun f hf hacc => hclr f (List.mem_filter.2 ⟨hf, by simp [hacc]⟩), hreg⟩
  rw [State.foldl_setRf_frame]
  rfl

/-! ### Writes of plain fields and of register pairs -/

/-- A register outside the clock status and the ports' events raises and ends no level. -/
theorem State.fallLevels_other (s : State) {off : Nat} (h1 : off ≠ Reg.crpClkStat) (h2 : famIdx off (Reg.fptEvt 0) 32 16 = none) :
    s.fallLevels off = s := by
  simp [State.fallLevels, h1, h2]

/-- A write of a selector sets its field. -/
theorem State.writeReg_selector {s : State} {off hi : Nat} (hw : s.crp.warmEnd = none)
    (h : (off, hi) ∈ [(Reg.fptNsSel, 9), (Reg.hrwSrcSel, 11), (Reg.stlSel, 4)]) (val : W32) :
    s.writeReg off val = s.setRf off hi 0 (fieldOf val.toNat hi 0) := by
  have all : ∀ x ∈ [(Reg.fptNsSel, 9), (Reg.hrwSrcSel, 11), (Reg.stlSel, 4)], x.1 ∈ rwPlain ∧ isLo x.1 = false ∧ isHi x.1 = false
      ∧ (regAt x.1).map (·.fields) = some [⟨x.2, 0, .rw, 0⟩] ∧ (x.1 ≠ Reg.glnRec 0 ∧ x.1 ≠ Reg.glnRec 1)
      ∧ x.1 ≠ Reg.crpClkStat ∧ famIdx x.1 (Reg.fptEvt 0) 32 16 = none := by decide +kernel
  obtain ⟨hm, hlo, hhi, hf, hg, hc, he⟩ := all _ h
  simp only at hm hlo hhi hf hg hc he
  rw [State.writeReg_plain hw (plainWrite_of_mem hm), hlo, hhi, State.writeFields_one s hf _ hg]
  exact State.fallLevels_other _ hc he

/-- The halves of ring 0's bases: their fields, and that they are halves. -/
theorem admBase_facts {off : Nat} (h : off = Reg.fldAdmSqBaseLo ∨ off = Reg.fldAdmCqBaseLo) :
    off ∈ rwPlain ∧ off + 4 ∈ rwPlain ∧ isLo off = true ∧ isLo (off + 4) = false ∧ isHi (off + 4) = true
      ∧ (regAt off).map (·.fields) = some [⟨31, 12, .rw, 0⟩] ∧ (regAt (off + 4)).map (·.fields) = some [⟨31, 0, .rw, 0⟩]
      ∧ (off ≠ Reg.glnRec 0 ∧ off ≠ Reg.glnRec 1) ∧ (off + 4 ≠ Reg.glnRec 0 ∧ off + 4 ≠ Reg.glnRec 1) := by
  have all : ∀ off ∈ [Reg.fldAdmSqBaseLo, Reg.fldAdmCqBaseLo],
      off ∈ rwPlain ∧ off + 4 ∈ rwPlain ∧ isLo off = true ∧ isLo (off + 4) = false ∧ isHi (off + 4) = true
      ∧ (regAt off).map (·.fields) = some [⟨31, 12, .rw, 0⟩] ∧ (regAt (off + 4)).map (·.fields) = some [⟨31, 0, .rw, 0⟩]
      ∧ (off ≠ Reg.glnRec 0 ∧ off ≠ Reg.glnRec 1) ∧ (off + 4 ≠ Reg.glnRec 0 ∧ off + 4 ≠ Reg.glnRec 1) := by decide +kernel
  exact all off (by simpa using h)

/-- A lower half is held until its upper half is written. -/
theorem State.writeReg_admLo {s : State} {off : Nat} (hw : s.crp.warmEnd = none)
    (h : off = Reg.fldAdmSqBaseLo ∨ off = Reg.fldAdmCqBaseLo) (val : W32) : s.writeReg off val = s.stage off val := by
  obtain ⟨hm, -, hlo, -⟩ := admBase_facts h
  rw [State.writeReg_plain hw (plainWrite_of_mem hm), hlo, if_pos rfl]

/-- The upper half brings the staged lower one with it. -/
theorem State.writeReg_admHi {s : State} {off : Nat} (hw : s.crp.warmEnd = none)
    (h : off = Reg.fldAdmSqBaseLo ∨ off = Reg.fldAdmCqBaseLo) {lo : W32} (hlo : KMap.get? s.staged off = some lo) (val : W32) :
    s.writeReg (off + 4) val
      = ({ s.setRf off 31 12 (fieldOf lo.toNat 31 12) with staged := KMap.del s.staged off }).setRf (off + 4) 31 0
        (fieldOf val.toNat 31 0) := by
  obtain ⟨-, hm, -, hl, hh, hf, hf', hg, hg'⟩ := admBase_facts h
  rw [State.writeReg_plain hw (plainWrite_of_mem hm), hl, hh, State.applyPair, Nat.add_sub_cancel, hlo]
  simp [State.writeFields_one _ hf _ hg, State.writeFields_one _ hf' _ hg']

/-- A whole field of a word is the word. -/
theorem fieldOf_word (w : W32) : fieldOf w.toNat 31 0 = w.toNat := by
  exact Nat.mod_eq_of_lt w.isLt

/-- A word all of whose bits are set is that value. -/
theorem State.reg_setRf_word (s : State) (off : Nat) (v : W32) : (s.setRf off 31 0 v.toNat).reg off = v := by
  refine BitVec.eq_of_toNat_eq ?_
  have h := State.rf_setRf_same s off 31 0 v.toNat (by decide) (by decide)
  rw [State.rf, fieldOf_word, Nat.mod_eq_of_lt v.isLt] at h
  exact h

theorem fieldOf_fieldOf (v hi lo : Nat) : fieldOf v hi lo % 2 ^ (hi + 1 - lo) = fieldOf v hi lo := Nat.mod_eq_of_lt (fieldOf_lt v hi lo)

/-- The halves of Fold's tick count show the bank's words. -/
theorem State.view_tick (s : State) : s.view Reg.fldTickLo = (s.reg Reg.fldTickLo).toNat
    ∧ s.view (Reg.fldTickLo + 4) = (s.reg (Reg.fldTickLo + 4)).toNat := ⟨rfl, rfl⟩

theorem State.clearRc_tickLo (s : State) : s.clearRc Reg.fldTickLo = s := rfl

theorem isHi_tick : isLo Reg.fldTickLo = true ∧ isHi Reg.fldTickLo = false ∧ isLo (Reg.fldTickLo + 4) = false
    ∧ isHi (Reg.fldTickLo + 4) = true := by decide +kernel

/-- A read of the lower half of the tick count returns it and latches the upper half. -/
theorem State.readReg_tickLo {s : State} (hw : s.crp.warmEnd = none) : s.readReg Reg.fldTickLo
    = ({ s.nextDraw with latched := KMap.put s.latched Reg.fldTickLo (s.reg (Reg.fldTickLo + 4)) }).emit
      (.readData Reg.fldTickLo (s.reg Reg.fldTickLo).toNat) := by
  obtain ⟨hlo, hhi, -, -⟩ := isHi_tick
  obtain ⟨hv, hv'⟩ := State.view_tick s
  rw [State.readReg_plain hw (plainOff_of_mem (by simp)), State.readEffect, State.halfOr, hlo, hhi, State.clearRc_tickLo, hv, hv',
    BitVec.ofNat_toNat]
  simp

/-- A read of the upper half returns what the read of the lower one latched. -/
theorem State.out_readReg_tickHi {s : State} (hw : s.crp.warmEnd = none) {hi : W32}
    (h : KMap.get? s.latched Reg.fldTickLo = some hi) :
    (s.readReg (Reg.fldTickLo + 4)).out = s.out ++ [.readData (Reg.fldTickLo + 4) hi.toNat] := by
  obtain ⟨-, -, hlo, hhi⟩ := isHi_tick
  rw [State.readReg_plain hw (plainOff_of_mem (by simp)), State.readEffect, State.halfOr, hlo, hhi, Nat.add_sub_cancel, if_pos rfl, h]
  rfl

/-- Settles O5: a selector's field is set, a base's halves take effect together, and the tick count reads as one value. -/
theorem registerWrites : Obligations.RegisterWrites := by
  unfold Obligations.RegisterWrites
  refine ⟨fun off hi val s hw h => ?_, fun off val s hw h => ⟨?_, fun lo hlo => ?_⟩, fun s hw => ?_⟩
  · have hhi : hi < 31 := by
      have all : ∀ x ∈ [(Reg.fptNsSel, 9), (Reg.hrwSrcSel, 11), (Reg.stlSel, 4)], x.2 < 31 := by decide
      exact all _ h
    refine ⟨s.setRf off hi 0 (fieldOf val.toNat hi 0), congrArg Host.Outcome.next (State.writeReg_selector hw h val), ?_, ?_, ?_, rfl⟩
    · rw [State.rf_setRf_same _ _ _ _ _ (Nat.zero_le _) (by omega), fieldOf_fieldOf]
    · exact State.rf_setRf_other _ _ _ _ _ _ _ (Nat.zero_le _) (by omega) (.inr (by omega))
    · exact fun o ho => State.reg_setRf_other _ _ _ _ ho
  · exact congrArg Host.Outcome.next (State.writeReg_admLo hw h val)
  · refine ⟨_, congrArg Host.Outcome.next (State.writeReg_admHi hw h hlo val), ?_, ?_, ?_, fun o h1 h2 => ?_⟩
    · rw [State.rf_setRf_reg _ _ _ _ _ _ (by omega)]
      exact (State.rf_setRf_same s off 31 12 _ (by decide) (by decide)).trans (fieldOf_fieldOf _ 31 12)
    · rw [fieldOf_word, State.reg_setRf_word]
    · exact KMap.get?_del_same s.staged off
    · rw [State.reg_setRf_other _ _ _ _ h2]
      exact State.reg_setRf_other s _ _ _ h1
  · refine ⟨_, congrArg Host.Outcome.next (State.readReg_tickLo hw), rfl, KMap.get?_put_same _ _ _, fun o => rfl, fun u hu hl => ?_⟩
    exact ⟨_, rfl, State.out_readReg_tickHi hu (hl ▸ KMap.get?_put_same _ _ _)⟩

end Sys2Proof.Machine
end


section
/-! Ezlin: the latching of errors, final replies, doorbells, PENDING replies (R45 to R59). -/
namespace Sys2Proof.Machine

open Sys2Proof

/-! ### Latched errors -/

/-- The parts of an error register's word lie within it, apart from each other and from VALID; the number, where it has bits of
its own, lies apart too. -/
structure ErrReg.Apart (r : ErrReg) : Prop where
  inst : r.il ≤ r.ih ∧ r.ih < 31
  cause : r.cl ≤ r.ch ∧ r.ch < 31
  more : r.ml ≤ r.mh ∧ r.mh < 31
  moreCause : r.ch < r.ml

/-- The first error of a register is latched with its cause. -/
theorem State.latch_first {s : State} {r : ErrReg} (hr : r.Apart) (hv : s.rbit r.off 31 = false) (inst cause : Nat) :
    (s.latch r inst cause).rf r.off r.ch r.cl = cause % 2 ^ (r.ch + 1 - r.cl) ∧ (s.latch r inst cause).rbit r.off 31 = true := by
  obtain ⟨hc, hc'⟩ := hr.cause
  obtain ⟨hm, hm'⟩ := hr.more
  have hcm := hr.moreCause
  unfold State.latch
  rw [if_neg (by simp [hv])]
  constructor
  · rw [State.rf_congr (State.setLevel_regs _ _ _)]
    unfold State.setRbit
    rw [State.rf_setRf_other _ _ _ _ _ _ _ (Nat.le_refl 31) (by decide) (.inl hc'),
      State.rf_setRf_other _ _ _ _ _ _ _ hm (by omega) (.inl hcm), State.rf_setRf_same _ _ _ _ _ hc (by omega)]
  · unfold State.rbit
    rw [State.rf_congr (State.setLevel_regs _ _ _)]
    exact State.rbit_setRbit_same _ _ _ _ (by decide)

theorem errRing_apart : errRing.Apart := ⟨by decide, by decide, by decide, by decide⟩

@[simp] theorem State.latch_ez (s : State) (r : ErrReg) (inst cause : Nat) : (s.latch r inst cause).ez = s.ez := by
  obtain ⟨g, h, o, e⟩ := State.latch_frame s r inst cause
  rw [e]

@[simp] theorem State.latch_data (s : State) (r : ErrReg) (inst cause : Nat) : (s.latch r inst cause).data = s.data := by
  obtain ⟨g, h, o, e⟩ := State.latch_frame s r inst cause
  rw [e]

@[simp] theorem State.sq_latch (s : State) (r : ErrReg) (inst cause k : Nat) : (s.latch r inst cause).sq k = s.sq k := by
  unfold State.sq; rw [State.latch_ez]

@[simp] theorem State.cq_latch (s : State) (r : ErrReg) (inst cause k : Nat) : (s.latch r inst cause).cq k = s.cq k := by
  unfold State.cq; rw [State.latch_ez]

/-! ### Rings in Error -/

/-- A ring put into Error keeps an earlier cause. -/
theorem State.sq_ringErr {s : State} {r : Nat} {q : Sq} (h : s.sq r = some q) (cause : Nat) :
    (s.ringErr r cause).sq r = some { q with err := if q.err = 0 then cause else q.err } := by
  unfold State.ringErr
  simp only [h, State.sq_latch]
  by_cases hq : q.err = 0
  · simp [hq]
  · simp [hq, h]

@[simp] theorem State.cq_ringErr (s : State) (r cause c : Nat) : (s.ringErr r cause).cq c = s.cq c := by
  unfold State.ringErr
  rw [State.cq_latch]
  split
  · rfl
  · split <;> rfl

@[simp] theorem State.queue_ringErr (s : State) (r cause : Nat) : (s.ringErr r cause).ez.queue = s.ez.queue := by
  unfold State.ringErr
  rw [State.latch_ez]
  split
  · rfl
  · split <;> rfl

/-- The error of a ring is latched in FLD_RING_ERR. -/
theorem State.ringErr_latched {s : State} (r cause : Nat) (hv : s.rbit Reg.fldRingErr 31 = false) :
    (s.ringErr r cause).rf Reg.fldRingErr 15 12 = cause % 2 ^ 4 ∧ (s.ringErr r cause).rbit Reg.fldRingErr 31 = true := by
  unfold State.ringErr
  refine State.latch_first errRing_apart ?_ r cause
  split
  · exact hv
  · split <;> exact hv

/-! ### Final replies -/

/-- What an edge sends follows what was sent before. -/
theorem State.wakeFn_out (s : State) (f : Nat) : ∃ more, (s.wakeFn f).out = s.out ++ more := by
  unfold State.wakeFn
  dsimp only
  split
  · exact ⟨_, rfl⟩
  · exact ⟨[], by simp⟩

theorem State.wakeTgt_out (s : State) (k : Nat) : ∃ more, (s.wakeTgt k).out = s.out ++ more := by
  unfold State.wakeTgt
  dsimp only
  split
  · exact ⟨_, rfl⟩
  · exact ⟨[], by simp⟩

theorem State.deliver_out (s : State) (n : Nat) : ∃ more, (s.deliver n).out = s.out ++ more := by
  unfold State.deliver
  dsimp only
  split
  · split
    · exact State.wakeFn_out _ _
    · exact ⟨[], by simp⟩
  · split
    · exact State.wakeTgt_out _ _
    · exact ⟨[], by simp⟩

theorem State.edge_out (s : State) (n : Nat) : ∃ more, (s.edge n).out = s.out ++ more := by
  unfold State.edge
  dsimp only
  split
  · exact ⟨[], by simp⟩
  · split
    · exact ⟨[], by simp⟩
    · exact State.deliver_out _ _

/-- A completion ring after a reply has been written to it. -/
def Cq.written (c : Cq) : Cq :=
  { c with
    wp := if c.wp + 1 = 2 ^ c.log2 then 0 else c.wp + 1
    phase := if c.wp + 1 = 2 ^ c.log2 then !c.phase else c.phase
    unread := c.unread + 1 }

/-- A final reply that its completion ring takes at once. -/
theorem State.final_eq {s : State} {e : Entry} {q : Sq} {c : Cq} (st dt : Nat) (res : Bytes) (hr : e.ring ≠ 1023)
    (hq : s.sq e.ring = some q) (hc : s.cq q.cq = some c) (hu : c.usable = true) (hh : c.held = []) (hroom : c.unread < 2 ^ c.log2)
    (hok : e.replyOk = true) : s.final e st dt res =
      if (e.reply true st dt res).noint then
        (((s.freeEntry e.eid).emit (.hostWrite q.fn (c.base + 32 * c.wp) (replyBytes (e.reply true st dt res) q.head c.phase))).setCq
          q.cq c.written)
      else (((s.freeEntry e.eid).emit (.hostWrite q.fn (c.base + 32 * c.wp) (replyBytes (e.reply true st dt res) q.head c.phase))).setCq
          q.cq c.written).edge e.ring := by
  have hfull : ¬ 2 ^ c.log2 ≤ c.unread := by omega
  have hring : (e.reply true st dt res).ring = e.ring := rfl
  have hfin : (e.reply true st dt res).fin = true := rfl
  have hrok : (e.reply true st dt res).ok = true := hok
  have heid : (e.reply true st dt res).eid = e.eid := rfl
  unfold State.final State.reply
  simp only [hring, hq, hc, hu, hh, State.commitReply, hfin, hrok, heid]
  simp [hfull, hr, Cq.written, hh, hu]

theorem replyBytes_length (r : Reply) (h : Nat) (ph : Bool) : (replyBytes r h ph).length = 32 := by
  simp [replyBytes]

/-- The bytes of a command's final reply. -/
theorem replyBytes_final (e : Entry) (st dt : Nat) (res : Bytes) (h : Nat) (ph : Bool) :
    replyBytes (e.reply true st dt res) h ph = leBytes 2 st ++ leBytes 2 dt ++ leBytes 2 (pktSeq e.pkt) ++ leBytes 2 e.ring
      ++ leBytes 2 h ++ leBytes 1 (b2n ph) ++ [0] ++ leBytes 4 e.tag ++ padTo res 16 := by
  unfold replyBytes Entry.reply
  rfl

/-- Settles O7: the completion ring takes the reply at once, and an edge changes neither rings nor queue. -/
theorem finalReplyIsWritten : Obligations.FinalReplyIsWritten := by
  unfold Obligations.FinalReplyIsWritten
  intro s e st dt res q c hr hq hc hu hh hroom hok
  rw [State.final_eq st dt res hr hq hc hu hh hroom hok]
  generalize hw : ((s.freeEntry e.eid).emit
    (.hostWrite q.fn (c.base + 32 * c.wp) (replyBytes (e.reply true st dt res) q.head c.phase))).setCq q.cq c.written = w
  have hcq : w.cq q.cq = some c.written := by rw [← hw]; exact State.cq_setCq_same _ _ _
  have hent : w.entry e.eid = none := by rw [← hw]; exact State.entry_freeEntry s e.eid
  have hout : w.out = s.out ++ .hostWrite q.fn (c.base + 32 * c.wp) (replyBytes (e.reply true st dt res) q.head c.phase) :: [] := by
    rw [← hw]; rfl
  split
  · exact ⟨[], _, hout, replyBytes_final _ _ _ _ _ _, replyBytes_length _ _ _, hcq, hent⟩
  · obtain ⟨more, hmore⟩ := State.edge_out w e.ring
    refine ⟨more, _, by rw [hmore, hout, List.append_assoc]; rfl, replyBytes_final _ _ _ _ _ _, replyBytes_length _ _ _, ?_, ?_⟩
    · unfold State.cq at hcq ⊢; rw [State.edge_ez, hcq]; rfl
    · unfold State.entry at hent ⊢; rw [State.edge_ez, hent]

/-! ### Doorbells -/

theorem State.ringOn_of {s : State} {r : Nat} (h : r ≠ 0 ∨ s.rbit Reg.fldAdmCtrl 0 = true) : s.ringOn r = true := by
  unfold State.ringOn
  rcases h with h | h <;> simp [h]

/-- With no reply held none is released. -/
theorem State.releaseHeld_none (c : Nat) (s : State) : State.releaseHeld c 0 s = s := rfl

/-- A submission doorbell of a ring in service. -/
theorem exec_sqTailDoorbell {s : State} {fn slot r : Nat} {q : Sq} (hd : s.doorbellRing fn slot = some r) (hq : s.sq r = some q)
    (hon : r ≠ 0 ∨ s.rbit Reg.fldAdmCtrl 0 = true) (val : W32) :
    exec (.sqTailDoorbell fn slot val) s = .next (s.tailDoorbell r q (fieldOf val.toNat 15 0)) := by
  simp only [exec, execSqTailDoorbell, hd, hq, State.ringOn_of hon, if_true]

/-- A completion doorbell of a ring in service. -/
theorem exec_cqHeadDoorbell {s : State} {fn slot r : Nat} {q : Sq} {c : Cq} (hd : s.doorbellRing fn slot = some r)
    (hq : s.sq r = some q) (hc : s.cq q.cq = some c) (hon : r ≠ 0 ∨ s.rbit Reg.fldAdmCtrl 0 = true) (val : W32) :
    exec (.cqHeadDoorbell fn slot val) s = .next (s.headDoorbell q.cq c (fieldOf val.toNat 15 0)) := by
  simp only [exec, execCqHeadDoorbell, hd, hq, hc, State.ringOn_of hon, Bool.true_or, if_true]

/-- A completion head within the ring, with no reply held. -/
theorem State.headDoorbell_within {s : State} {c : Cq} {v : Nat} (ci : Nat) (hh : c.held = []) (h : v < 2 ^ c.log2) :
    s.headDoorbell ci c v = s.setCq ci { c with head := v, unread := (c.wp + 2 ^ c.log2 - v) % 2 ^ c.log2 } := by
  have : ¬ 2 ^ c.log2 ≤ v := by omega
  simp [State.headDoorbell, hh, this, State.releaseHeld_none]

/-- A completion head beyond the ring, with no reply held. -/
theorem State.headDoorbell_beyond {s : State} {c : Cq} {v : Nat} (ci : Nat) (hh : c.held = []) (h : 2 ^ c.log2 ≤ v) :
    s.headDoorbell ci c v
      = (s.setCq ci { c with usable := false, needReset := s.boundRings ci }).ringErrs (s.boundRings ci) 1 := by
  simp [State.headDoorbell, hh, h, State.releaseHeld_none]

/-- Settles O9: a doorbell within the ring moves the index, one beyond it puts the ring into Error. -/
theorem doorbells : Obligations.Doorbells := by
  unfold Obligations.Doorbells
  intro s fn slot r val q v hv
  subst hv
  refine ⟨fun hd => ⟨by simp only [exec, execSqTailDoorbell, hd], by simp only [exec, execCqHeadDoorbell, hd]⟩,
    fun hd hq hon => ⟨fun hlt => ?_, fun hge => ?_, fun c hc hh hlt => ?_⟩, fun hd hq hon c hc hh hge hb => ?_⟩
  · rw [exec_sqTailDoorbell hd hq hon, State.tailDoorbell, if_neg (by omega)]
  · rw [exec_sqTailDoorbell hd hq hon, State.tailDoorbell, if_pos hge]
    exact ⟨_, rfl, State.sq_ringErr hq 1, State.ringErr_latched r 1⟩
  · rw [exec_cqHeadDoorbell hd hq hc hon, State.headDoorbell_within _ hh hlt]
  · rw [exec_cqHeadDoorbell hd hq hc hon, State.headDoorbell_beyond _ hh hge, hb]
    refine ⟨_, rfl, ?_, ?_⟩
    · exact (State.cq_ringErr _ _ _ _).trans (State.cq_setCq_same s q.cq { c with usable := false, needReset := [r] })
    · exact State.sq_ringErr (s := s.setCq q.cq { c with usable := false, needReset := [r] }) hq 1

/-! ### PENDING replies -/

/-- Settles O12: the reply follows the change of the entry, and nothing happens where one of its conditions fails. -/
theorem pendingReply : Obligations.PendingReply := by
  unfold Obligations.PendingReply
  intro s eid e he
  have heid : e.eid = eid := by simpa using List.find?_some he
  refine ⟨fun hclk hhw hpend hno hheld => ?_, fun h => ?_⟩
  · refine ⟨s.onEz fun z => { z with queue := z.queue.map fun x => if x.eid == e.eid then { x with pended := true } else x },
      ?_, ?_, rfl⟩
    · simp only [exec, execPendingReply, he, msTicks, State.pendReply, hhw, hpend, hno, hheld]
      rw [if_neg (by simp; omega)]
      rfl
    · have hq : (s.ez.queue.map fun x => if x.eid == e.eid then { x with pended := true } else x).find? (fun x => x.eid == eid)
          = (s.ez.queue.find? fun x => x.eid == eid).map fun x => if x.eid == e.eid then { x with pended := true } else x := by
        rw [List.find?_map]
        congr 2
        funext x
        simp only [Function.comp]
        split <;> rfl
      exact hq.trans (by rw [show s.ez.queue.find? (fun x => x.eid == eid) = some e from he]; simp)
  · simp only [exec, execPendingReply, he, msTicks, State.pendReply]
    congr 1
    rcases h with h | h | h | h | h
    · simp [h]
    · simp [h]
    · simp [h]
    · simp [h]
    · simp [h]

end Sys2Proof.Machine
end


section
/-! Rings and consumption: ring 0's control, the RING_ commands, drains, and a packet's way into its queue (R42 to R50, R557,
R558). -/
namespace Sys2Proof.Machine

open Sys2Proof

/-! ### What a command's beginning leaves -/

@[simp] theorem State.sq_markBegun (s : State) (eid r : Nat) : (s.markBegun eid).sq r = s.sq r := rfl
@[simp] theorem State.cq_markBegun (s : State) (eid c : Nat) : (s.markBegun eid).cq c = s.cq c := rfl

@[simp] theorem State.src_setSrc_same (s : State) (n : Nat) (x : Src) : (s.setSrc n x).src n = x := by
  unfold State.src State.setSrc State.onHrw
  dsimp only
  split
  · next h => rw [KMap.getD_del_same, h]
  · exact KMap.getD_put_same _ _ _ _

theorem State.src_setSrc_other (s : State) {n j : Nat} (x : Src) (h : j ≠ n) : (s.setSrc n x).src j = s.src j := by
  unfold State.src State.setSrc State.onHrw
  dsimp only
  split
  · exact KMap.getD_del_other _ _ h
  · exact KMap.getD_put_other _ _ _ h

@[simp] theorem State.sq_setSrc (s : State) (n : Nat) (x : Src) (r : Nat) : (s.setSrc n x).sq r = s.sq r := rfl
@[simp] theorem State.cq_setSrc (s : State) (n : Nat) (x : Src) (c : Nat) : (s.setSrc n x).cq c = s.cq c := rfl

/-! ### FLD_ADM_CTRL -/

/-- The sizes a write of FLD_ADM_CTRL stores, and what it leaves. -/
theorem State.admSizes_rf (s : State) (v : Nat) :
    (s.admSizes v).rf Reg.fldAdmCtrl 8 4 = fieldOf v 8 4 ∧ (s.admSizes v).rf Reg.fldAdmCtrl 16 12 = fieldOf v 16 12
      ∧ (s.admSizes v).rf Reg.fldAdmCtrl 0 0 = s.rf Reg.fldAdmCtrl 0 0 := by
  unfold State.admSizes
  refine ⟨?_, ?_, ?_⟩
  · rw [State.rf_setRf_other _ _ _ _ _ _ _ (by decide) (by decide) (by decide), State.rf_setRf_same _ _ _ _ _ (by decide) (by decide)]
    exact fieldOf_fieldOf v 8 4
  · rw [State.rf_setRf_same _ _ _ _ _ (by decide) (by decide)]
    exact fieldOf_fieldOf v 16 12
  · rw [State.rf_setRf_other _ _ _ _ _ _ _ (by decide) (by decide) (by decide),
      State.rf_setRf_other _ _ _ _ _ _ _ (by decide) (by decide) (by decide)]

theorem State.admSizes_reg_other (s : State) (v : Nat) {o : Nat} (h : o ≠ Reg.fldAdmCtrl) : (s.admSizes v).reg o = s.reg o := by
  unfold State.admSizes
  rw [State.reg_setRf_other _ _ _ _ h, State.reg_setRf_other _ _ _ _ h]

theorem State.admSizes_ez (s : State) (v : Nat) : (s.admSizes v).ez = s.ez := rfl

/-- Ring 0 goes into service where it did not exist: a new completion ring, both empty. -/
theorem State.startRing0_new {s : State} (h : s.sq 0 = none) : s.startRing0 =
    ((s.onEz fun z => { z with nextCq := z.nextCq + 1 }).setCq s.ez.nextCq (Cq.fresh s.admCqBase (s.rf Reg.fldAdmCtrl 16 12) 0xFFFF)).setSq 0
      ⟨0, 0, s.admSqBase, s.rf Reg.fldAdmCtrl 8 4, 0, 0, 0, s.ez.nextCq, []⟩ := by
  simp only [State.startRing0, h]

theorem badLog2_of_within {n : Nat} (h : 4 ≤ n ∧ n ≤ 16) : badLog2 n = false := by
  simp only [badLog2, Bool.or_eq_false_iff, decide_eq_false_iff_not]
  omega

theorem badLog2_of_outside {n : Nat} (h : n < 4 ∨ 16 < n) : badLog2 n = true := by
  simp only [badLog2, Bool.or_eq_true, decide_eq_true_eq]
  omega

/-! ### Drains -/

/-- Setting a key twice keeps the second value. -/
theorem KMap.put_put {α : Type} (m : KMap α) (k : Nat) (a b : α) : KMap.put (KMap.put m k a) k b = KMap.put m k b := by
  induction m with
  | nil => simp [KMap.put]
  | cons e m ih =>
    obtain ⟨j, v⟩ := e
    simp only [KMap.put]
    by_cases h1 : k < j
    · simp [h1, KMap.put]
    · by_cases h2 : k = j
      · simp [h2, KMap.put]
      · simp [h1, h2, KMap.put, ih]

theorem State.setSq_setSq (s : State) (r : Nat) (a b : Sq) : (s.setSq r a).setSq r b = s.setSq r b := by
  unfold State.setSq State.onEz
  simp only [KMap.put_put]

/-- A drain of a ring without outstanding commands ends at once. -/
theorem State.addDrain_idle {s : State} {r : Nat} {q : Sq} (hq : s.sq r = some q) (hd : q.drains = []) (ho : s.outstanding r = false)
    (d : Drain) (eid : Nat) : s.addDrain r d eid = State.endDrain r (s.setSq r q) (d, eid) := by
  have ho' : (s.setSq r { q with drains := [(d, eid)] }).outstanding r = false := ho
  have hq' : ({ q with drains := [] } : Sq) = q := by rw [← hd]
  simp only [State.addDrain, hq, hd, List.nil_append, State.drainDone, State.sq_setSq_same, ho', State.setSq_setSq, hq']
  rfl

/-! ### Freeing and resetting a ring -/

@[simp] theorem State.queue_freeRing (s : State) (r : Nat) : (s.freeRing r).ez.queue = s.ez.queue := by
  unfold State.freeRing
  split
  · rfl
  · dsimp only
    split
    · rfl
    · split <;> rfl

theorem State.sq_freeRing {s : State} {r : Nat} {q : Sq} (h : s.sq r = some q) (j : Nat) :
    (s.freeRing r).sq j = if j = r then none else s.sq j := by
  have hdel : KMap.get? (KMap.del s.ez.sqs r) j = if j = r then none else s.sq j := by
    split
    · next e => rw [e, KMap.get?_del_same]
    · next e => exact KMap.get?_del_other _ e
  unfold State.freeRing
  rw [h]
  dsimp only
  split
  · exact hdel
  · split
    · exact hdel
    · exact hdel

@[simp] theorem State.queue_resetRing (s : State) (r : Nat) : (s.resetRing r).ez.queue = s.ez.queue := by
  unfold State.resetRing
  split
  · rfl
  · dsimp only
    split <;> split <;> rfl

theorem State.sq_resetRing {s : State} {r : Nat} {q : Sq} (h : s.sq r = some q) (j : Nat) :
    (s.resetRing r).sq j = if j = r then some { q with head := 0, tail := 0, err := 0 } else s.sq j := by
  have hput : KMap.get? (KMap.put s.ez.sqs r { q with head := 0, tail := 0, err := 0 }) j
      = if j = r then some { q with head := 0, tail := 0, err := 0 } else s.sq j := by
    split
    · next e => rw [e, KMap.get?_put_same]
    · next e => exact KMap.get?_put_other _ _ e
  unfold State.resetRing
  rw [h]
  dsimp only
  split <;> split <;> exact hput

theorem State.setSq_reg (s : State) (r : Nat) (q : Sq) (o : Nat) : (s.setSq r q).reg o = s.reg o := rfl

theorem State.sq_setSq (s : State) (r j : Nat) (q : Sq) : (s.setSq r q).sq j = if j = r then some q else s.sq j := by
  split
  · next e => rw [e, State.sq_setSq_same]
  · next e => exact State.sq_setSq_other _ _ e

/-! ### The RING_ commands -/

/-! ### FLD_ADM_CTRL, case by case -/

/-- Ring 0 goes into service. -/
theorem admCtrlEnable_starts {s : State} {val : W32} (hready : s.ready = true) (hen : s.rbit Reg.fldAdmCtrl 0 = false)
    (hsq : s.sq 0 = none) (hn : 4 ≤ fieldOf val.toNat 8 4 ∧ fieldOf val.toNat 8 4 ≤ 16)
    (hm : 4 ≤ fieldOf val.toNat 16 12 ∧ fieldOf val.toNat 16 12 ≤ 16) :
    ∃ t c, execAdmCtrlEnable val s = .next t ∧ t.rbit Reg.fldAdmCtrl 0 = true
      ∧ t.sq 0 = some ⟨0, 0, s.pair Reg.fldAdmSqBaseLo, fieldOf val.toNat 8 4, 0, 0, 0, c, []⟩
      ∧ t.cq c = some (Cq.fresh (s.pair Reg.fldAdmCqBaseLo) (fieldOf val.toNat 16 12) 0xFFFF)
      ∧ ∀ off, off ≠ Reg.fldAdmCtrl → t.reg off = s.reg off := by
  obtain ⟨h8, h16, -⟩ := State.admSizes_rf s val.toNat
  generalize hu : (s.admSizes val.toNat).setRbit Reg.fldAdmCtrl 0 true = u
  have hreg : ∀ off, off ≠ Reg.fldAdmCtrl → u.reg off = s.reg off := fun off ho => by
    rw [← hu, State.reg_setRbit_other _ _ _ ho, State.admSizes_reg_other s _ ho]
  have hpair : ∀ lo, lo ≠ Reg.fldAdmCtrl → lo + 4 ≠ Reg.fldAdmCtrl → u.pair lo = s.pair lo := fun lo h1 h2 => by
    rw [State.pair, hreg lo h1, hreg (lo + 4) h2, State.pair]
  have hrf : ∀ hi lo, 1 ≤ lo → u.rf Reg.fldAdmCtrl hi lo = (s.admSizes val.toNat).rf Reg.fldAdmCtrl hi lo := fun hi lo h => by
    rw [← hu]; exact State.rf_setRf_other _ _ _ _ _ _ _ (by decide) (by decide) (.inr h)
  have hsq' : u.sq 0 = none := by rw [← hu]; exact hsq
  have hbit : u.rbit Reg.fldAdmCtrl 0 = true := by rw [← hu]; exact State.rbit_setRbit_same _ _ _ _ (by decide)
  have hgo : execAdmCtrlEnable val s = .next u.startRing0 := by
    simp [execAdmCtrlEnable, hready, hen, h8, h16, badLog2_of_within hn, badLog2_of_within hm, hu, hsq']
  rw [hgo, State.startRing0_new hsq']
  refine ⟨_, u.ez.nextCq, rfl, hbit, ?_, ?_, hreg⟩
  · rw [State.sq_setSq_same, hrf _ _ (by decide), h8, State.admSqBase, hpair _ (by decide) (by decide)]
  · rw [State.cq_setSq, State.cq_setCq_same, hrf _ _ (by decide), h16, State.admCqBase, hpair _ (by decide) (by decide)]

/-- A size outside the range latches BAD_SIZE. -/
theorem admCtrlEnable_badSize {s : State} {val : W32} (hready : s.ready = true) (hen : s.rbit Reg.fldAdmCtrl 0 = false)
    (hn : fieldOf val.toNat 8 4 < 4 ∨ 16 < fieldOf val.toNat 8 4) (hv : s.rbit Reg.fldRingErr 31 = false) :
    ∃ t, execAdmCtrlEnable val s = .next t ∧ t.rbit Reg.fldAdmCtrl 0 = false ∧ t.rf Reg.fldRingErr 15 12 = 4
      ∧ t.rbit Reg.fldRingErr 31 = true ∧ t.ez = s.ez := by
  obtain ⟨h8, -, h0⟩ := State.admSizes_rf s val.toNat
  have hv' : (s.admSizes val.toNat).rbit Reg.fldRingErr 31 = false := by
    rw [State.rbit, State.rf, State.admSizes_reg_other s _ (by decide)]; exact hv
  have hen' : (s.admSizes val.toNat).rbit Reg.fldAdmCtrl 0 = false := by rw [State.rbit, h0]; exact hen
  obtain ⟨hcause, hvalid⟩ := State.latch_first errRing_apart hv' 0 4
  refine ⟨(s.admSizes val.toNat).latch errRing 0 4, ?_, ?_, hcause, hvalid, ?_⟩
  · simp [execAdmCtrlEnable, hready, hen, h8, badLog2_of_outside hn]
  · rw [State.rbit, State.rf, State.latch_reg_other _ _ _ _ (show Reg.fldAdmCtrl ≠ errRing.off by decide)]
    exact hen'
  · rw [State.latch_ez, State.admSizes_ez]

/-- Clearing EN resets an idle ring 0. -/
theorem admCtrlDisable_idle {s : State} {val : W32} {q : Sq} (hen : s.rbit Reg.fldAdmCtrl 0 = true) (hq : s.sq 0 = some q)
    (hd : q.drains = []) (ho : s.outstanding 0 = false) :
    ∃ t, execAdmCtrlDisable val s = .next t ∧ t.rbit Reg.fldAdmCtrl 0 = false
      ∧ t.sq 0 = some { q with head := 0, tail := 0, err := 0 } ∧ ∀ off, off ≠ Reg.fldAdmCtrl → t.reg off = s.reg off := by
  generalize hu : s.setRbit Reg.fldAdmCtrl 0 false = u
  have hoff : u.rbit Reg.fldAdmCtrl 0 = false := by rw [← hu]; exact State.rbit_setRbit_same _ _ _ _ (by decide)
  have hq' : u.sq 0 = some q := by rw [← hu]; exact hq
  have ho' : u.outstanding 0 = false := by rw [← hu]; exact ho
  have hoff' : (u.setSq 0 q).rbit Reg.fldAdmCtrl 0 = false := hoff
  refine ⟨(u.setSq 0 q).resetRing 0, ?_, ?_, ?_, fun off hoff => ?_⟩
  · simp [execAdmCtrlDisable, hen, hu, State.addDrain_idle hq' hd ho', State.endDrain, hoff']
  · rw [State.rbit, State.rf_congr (State.resetRing_regs _ _)]
    exact hoff'
  · rw [State.sq_resetRing (State.sq_setSq_same _ _ _), if_pos rfl]
  · rw [State.reg_congr (State.resetRing_regs _ _), State.setSq_reg, ← hu]
    exact State.reg_setRbit_other _ _ _ hoff

/-! ### The RING_ commands -/

section
variable {s : State} {eid : Nat} {e : Entry}

/-- RING_CREATE for the physical function with a completion ring of its own. -/
theorem ringCreate_own (h : s.Starts eid 0x0010 e) (hbad : (s.markBegun eid).ringParamsBad e = false) (hfn : e.p 22 1 = 0)
    (hshare : e.p 18 2 = 0xFFFF) (hvec : e.p 20 2 = 0xFFFF ∨ e.p 20 2 < (s.markBegun eid).par Par.pfVectors) {r : Nat}
    (hfree : lowestFree (s.ez.sqs.map (·.1)) 1 1022 = some r) :
    execRingCreate eid s = .next ((((((s.markBegun eid).onEz fun z => { z with nextCq := z.nextCq + 1 }).setCq s.ez.nextCq
        (Cq.fresh (e.p 8 8) (e.p 17 1) (e.p 20 2))).setSq r ⟨0, r, e.p 0 8, e.p 16 1, 0, 0, 0, s.ez.nextCq, []⟩).setSrc r
          (ringSrc 0 (e.p 20 2))).okReply e (leBytes 2 r ++ [0, 0] ++ leBytes 4 (0x20000 + 8 * r))) := by
  have hv : ¬ (e.p 20 2 ≠ 0xFFFF ∧ (s.markBegun eid).par Par.pfVectors ≤ e.p 20 2) := by omega
  have hv' : ((e.p 20 2 != 0xFFFF) && decide ((s.markBegun eid).tableSize 0 ≤ e.p 20 2)) = false := by
    simpa [State.tableSize] using hv
  have hfree' : lowestFree ((s.markBegun eid).ez.sqs.map (·.1)) 1 1022 = some r := hfree
  unfold execRingCreate
  rw [State.cmd_starts h]
  dsimp only
  rw [hbad, hfn, hv', hfree']
  simp [State.createRing, hfn, hshare, Cq.fresh, State.cq_setSq, State.cq_setCq_same]
  rfl

/-- RING_DELETE of an idle ring. -/
theorem ringDelete_idle (h : s.Starts eid 0x0011 e) {q : Sq} (hunk : (s.markBegun eid).ringUnknown e = false) (h0 : e.p 0 2 ≠ 0)
    (h1023 : e.p 0 2 ≠ 1023) (hself : e.p 0 2 ≠ e.ring) (hq : s.sq (e.p 0 2) = some q) (hd : q.drains = [])
    (ho : s.outstanding (e.p 0 2) = false) :
    execRingDelete eid s = .next ((((s.markBegun eid).setSq (e.p 0 2) q).freeRing (e.p 0 2)).okReply e []) := by
  have ho' : (s.markBegun eid).outstanding (e.p 0 2) = false := (State.outstanding_markBegun _ _ _).trans ho
  unfold execRingDelete
  rw [State.cmd_starts h]
  dsimp only
  rw [if_neg (by simp [hunk, h0, h1023, hself]), State.addDrain_idle (s := s.markBegun eid) hq hd ho', State.endDrain]
  dsimp only
  rw [h.finalOf (u := ((s.markBegun eid).setSq (e.p 0 2) q).freeRing (e.p 0 2)) (State.queue_freeRing _ _)]
  rfl

/-- RING_RESET of an idle ring. -/
theorem ringReset_idle (h : s.Starts eid 0x0012 e) {q : Sq} (hunk : (s.markBegun eid).ringUnknown e = false) (h0 : e.p 0 2 ≠ 0)
    (hself : e.p 0 2 ≠ e.ring) (hq : s.sq (e.p 0 2) = some q) (hd : q.drains = []) (ho : s.outstanding (e.p 0 2) = false) :
    execRingReset eid s = .next ((((s.markBegun eid).setSq (e.p 0 2) q).resetRing (e.p 0 2)).okReply e []) := by
  have ho' : (s.markBegun eid).outstanding (e.p 0 2) = false := (State.outstanding_markBegun _ _ _).trans ho
  unfold execRingReset
  rw [State.cmd_starts h]
  dsimp only
  rw [if_neg (by simp [hunk, h0, hself]), State.addDrain_idle (s := s.markBegun eid) hq hd ho', State.endDrain]
  dsimp only
  rw [h.finalOf (u := ((s.markBegun eid).setSq (e.p 0 2) q).resetRing (e.p 0 2)) (State.queue_resetRing _ _)]
  rfl

/-- RING_DRAIN_COMPLETE of a ring that waits to be reset. -/
theorem ringDrainComplete_reset {r : Nat} {q : Sq} (he : s.entry eid = some e) (hq : s.sq r = some q)
    (hd : q.drains = [(.reset, eid)]) (ho : s.outstanding r = false) :
    execRingDrainComplete r s = .next (((s.setSq r { q with drains := [] }).resetRing r).okReply e []) := by
  unfold execRingDrainComplete State.drainDone
  simp only [hq, hd, ho, List.isEmpty_cons, Bool.or_self, List.foldl_cons, List.foldl_nil, State.endDrain]
  rw [State.finalOf_queue he (u := (s.setSq r { q with drains := [] }).resetRing r) (State.queue_resetRing _ _)]
  rfl

/-- RING_QUERY of a ring with its completion ring. -/
theorem ringQuery_ring (h : s.Starts eid 0x0013 e) {q : Sq} {c : Cq} (hunk : (s.markBegun eid).ringUnknown e = false)
    (hvf : e.ofVf = true → e.p 0 2 ≠ 0) (hq : s.sq (e.p 0 2) = some q) (hc : s.cq q.cq = some c) :
    execRingQuery eid s = .next ((s.markBegun eid).okReply e ((s.markBegun eid).ringResult q c)) := by
  have hvf' : (e.ofVf && e.p 0 2 == 0) = false := by simpa using hvf
  unfold execRingQuery
  rw [State.cmd_starts h]
  simp only [hunk, hvf', State.sq_markBegun, State.cq_markBegun, hq, hc]
  rfl
end

/-- Settles O10: the sizes decide whether ring 0 starts, and a drain of an idle ring ends at once. -/
theorem ringCommands : Obligations.RingCommands := by
  unfold Obligations.RingCommands
  refine ⟨fun s val n m hn hm => ?_, fun s eid e b hb => ?_⟩
  · subst hn hm
    exact ⟨admCtrlEnable_starts, admCtrlEnable_badSize, fun q => admCtrlDisable_idle⟩
  · subst hb
    refine ⟨fun h hbad hfn hshare hvec r hfree => ⟨_, s.ez.nextCq, ringCreate_own h hbad hfn hshare hvec hfree, ?_⟩,
      fun h r q hr hunk h0 h1023 hself hq hd ho => ?_, fun h r q hr hunk h0 hself hq hd ho => ?_,
      fun r q he hq hd ho => ⟨_, ringDrainComplete_reset he hq hd ho, ?_⟩,
      fun h q c hunk hvf hq hc => ringQuery_ring h hunk hvf hq hc⟩
    · refine ⟨State.sq_setSq_same _ _ _, State.cq_setCq_same _ _ _, State.src_setSrc_same _ _ _, fun j hj => ?_⟩
      exact State.sq_setSq_other _ _ hj
    · subst hr
      refine ⟨_, ringDelete_idle h hunk h0 h1023 hself hq hd ho, ?_, fun j hj => ?_⟩
      · rw [State.sq_freeRing (State.sq_setSq_same _ _ _), if_pos rfl]
      · rw [State.sq_freeRing (State.sq_setSq_same _ _ _), if_neg hj, State.sq_setSq_other _ _ hj, State.sq_markBegun]
    · subst hr
      refine ⟨_, ringReset_idle h hunk h0 hself hq hd ho, ?_, fun j hj => ?_⟩
      · rw [State.sq_resetRing (State.sq_setSq_same _ _ _), if_pos rfl]
      · rw [State.sq_resetRing (State.sq_setSq_same _ _ _), if_neg hj, State.sq_setSq_other _ _ hj, State.sq_markBegun]
    · rw [State.sq_resetRing (State.sq_setSq_same _ _ _), if_pos rfl]

end Sys2Proof.Machine
end


section
/-! A packet's consumption: the arbiter's choice, the new queue entry, and the checks that judge it at once (R48 to R50, R54,
R487). -/
namespace Sys2Proof.Machine

open Sys2Proof

/-- The arbiter changes its own place alone. -/
theorem State.arbitrate_ez {s : State} {r : Nat} {z : Ez} (h : s.arbitrate = some (r, z)) :
    z = { s.ez with lastWin := z.lastWin, turn := z.turn, first0 := z.first0, first1023 := z.first1023 } := by
  unfold State.arbitrate at h
  dsimp only at h
  repeat' split at h
  all_goals cases h
  all_goals rfl

@[simp] theorem State.queue_touch (s : State) (fn tag : Nat) : (s.touch fn tag).ez.queue = s.ez.queue := by
  unfold State.touch; split <;> rfl

@[simp] theorem State.sqs_touch (s : State) (fn tag : Nat) : (s.touch fn tag).ez.sqs = s.ez.sqs := by
  unfold State.touch; split <;> rfl

@[simp] theorem State.nextEid_touch (s : State) (fn tag : Nat) : (s.touch fn tag).ez.nextEid = s.ez.nextEid := by
  unfold State.touch; split <;> rfl

@[simp] theorem State.fld_touch (s : State) (fn tag : Nat) : (s.touch fn tag).fld = s.fld := by
  unfold State.touch; split <;> rfl

/-- A packet's ring and queue once it has been handed over, before its checks judge it. -/
def State.enqueued (s : State) (r : Nat) (q : Sq) (pkt : Bytes) (blk : Fetch) (ok : Bool) : State :=
  ((s.setSq r { q with head := (q.head + 1) % 2 ^ q.log2 }).touch q.fn (pktTag pkt)).onEz fun z =>
    { z with
      nextEid := z.nextEid + 1
      queue := z.queue ++ [s.newEntry r q.fn pkt blk ok]
      turn := if (q.head + 1) % 2 ^ q.log2 == q.tail then 0
        else ((s.setSq r { q with head := (q.head + 1) % 2 ^ q.log2 }).touch q.fn (pktTag pkt)).ez.turn }

theorem State.enqueue_eq (s : State) (r : Nat) (q : Sq) (pkt : Bytes) (blk : Fetch) (ok : Bool) :
    s.enqueue r q pkt blk ok = match s.checkPacket r q.fn pkt blk with
      | none => s.enqueued r q pkt blk ok
      | some (st, dt) => (s.enqueued r q pkt blk ok).fail (s.newEntry r q.fn pkt blk ok) st dt := by
  unfold State.enqueue State.enqueued
  dsimp only
  split <;> simp_all

theorem State.queue_enqueued (s : State) (r : Nat) (q : Sq) (pkt : Bytes) (blk : Fetch) (ok : Bool) :
    (s.enqueued r q pkt blk ok).ez.queue = s.ez.queue ++ [s.newEntry r q.fn pkt blk ok] := by
  simp [State.enqueued, State.setSq]

theorem State.nextEid_enqueued (s : State) (r : Nat) (q : Sq) (pkt : Bytes) (blk : Fetch) (ok : Bool) :
    (s.enqueued r q pkt blk ok).ez.nextEid = s.ez.nextEid + 1 := by
  simp [State.enqueued, State.setSq]

theorem State.sq_enqueued (s : State) (r : Nat) (q : Sq) (pkt : Bytes) (blk : Fetch) (ok : Bool) :
    (s.enqueued r q pkt blk ok).sq r = some { q with head := (q.head + 1) % 2 ^ q.log2 } := by
  have : (s.enqueued r q pkt blk ok).ez.sqs = (s.setSq r { q with head := (q.head + 1) % 2 ^ q.log2 }).ez.sqs := by
    simp [State.enqueued]
  rw [State.sq, this]
  exact State.sq_setSq_same s r _

theorem State.fld_enqueued (s : State) (r : Nat) (q : Sq) (pkt : Bytes) (blk : Fetch) (ok : Bool) :
    (s.enqueued r q pkt blk ok).fld = s.fld := by
  simp [State.enqueued]

theorem State.queueRoom_congr {s t : State} (h : t.ez.queue = s.ez.queue) (hw : Bool) : t.queueRoom hw = s.queueRoom hw := by
  unfold State.queueRoom; rw [h]

/-- A packet whose queue has room and whose fence is met is handed over. -/
theorem State.consumeFrom_room {s : State} {p : Bytes} {r : Nat} (hroom : s.queueRoom (isHwOp (pktOp p)) = true)
    (hf : pktFlag p 2 = false ∨ s.outstanding r = false) (z : Ez) (q : Sq) (blk : Fetch) (ok : Bool) :
    s.consumeFrom z r q p blk ok = ({ s with ez := z } : State).enqueue r q p blk ok := by
  have : (pktFlag p 2 && s.outstanding r) = false := by rcases hf with h | h <;> simp [h]
  simp [State.consumeFrom, hroom, this]

/-- A packet of a ring is consumed. -/
theorem packetConsume_ring {s : State} {r : Nat} {z : Ez} {q : Sq} {p : Bytes} (ha : s.arbitrate = some (r, z)) (hr : r ≠ 1023)
    (hq : s.sq r = some q) (hp : p.length = 64) (hroom : s.queueRoom (isHwOp (pktOp p)) = true)
    (hf : pktFlag p 2 = false ∨ s.outstanding r = false) (blk : Fetch) (ok : Bool) :
    execPacketConsume (.ok p) blk ok s = .next (({ s with ez := z } : State).enqueue r q p blk ok) := by
  simp only [execPacketConsume, ha, hq, hr, if_false, padTo_of_length p 64 hp, State.consumeFrom_room hroom hf]

/-- A packet whose fetch fails puts its ring into Error. -/
theorem packetConsume_failed {s : State} {r : Nat} {z : Ez} {q : Sq} (ha : s.arbitrate = some (r, z)) (hr : r ≠ 1023)
    (hq : s.sq r = some q) (blk : Fetch) (ok : Bool) :
    execPacketConsume .failed blk ok s = .next (({ s with ez := z } : State).ringErr r 2) := by
  simp only [execPacketConsume, ha, hq, hr, if_false]

/-! ### The out-of-band port's ring -/

/-- A reply leaves the number of the next entry. -/
theorem State.ReplyFrom.nextEid {s t : State} (h : s.ReplyFrom t) : t.ez.nextEid = s.ez.nextEid := by
  rw [h.eq]; rfl

theorem State.nextEid_enqueue (s : State) (r : Nat) (q : Sq) (pkt : Bytes) (blk : Fetch) (ok : Bool) :
    (s.enqueue r q pkt blk ok).ez.nextEid = s.ez.nextEid + 1 := by
  rw [State.enqueue_eq]
  split
  · exact State.nextEid_enqueued _ _ _ _ _ _
  · exact (State.replyFrom_final _ _ _ _ _).nextEid.trans (State.nextEid_enqueued _ _ _ _ _ _)

/-- The packets the window holds once one more is held: the last 256. -/
@[irreducible] def heldWith (l : List HeldOob) (h : HeldOob) : List HeldOob := (l ++ [h]).drop (l.length + 1 - 256)

theorem heldWith_eq (l : List HeldOob) (h : HeldOob) : heldWith l h = (l ++ [h]).drop (l.length + 1 - 256) := by
  unfold heldWith; rfl

theorem mem_heldWith (l : List HeldOob) (h : HeldOob) : h ∈ heldWith l h := by
  rw [heldWith_eq, List.drop_append_of_le_length (by omega)]
  exact List.mem_append_right _ (List.mem_singleton.2 rfl)

/-- The state in which the front packet of the port is judged: the packet has left the port and is held. -/
def State.oobTaken (s : State) (z : Ez) (p : Bytes) (xid : Nat) (rest : List (Bytes × Nat)) : State :=
  { s with ez := z, fld := { s.fld with oobQ := rest, heldOob := heldWith s.fld.heldOob (HeldOob.mk p xid s.ez.nextEid none) } }

theorem State.held_oobTaken (s : State) (z : Ez) (p : Bytes) (xid : Nat) (rest : List (Bytes × Nat)) :
    HeldOob.mk p xid s.ez.nextEid none ∈ (s.oobTaken z p xid rest).fld.heldOob := by
  unfold State.oobTaken
  exact mem_heldWith _ _

/-- The front packet of the port is consumed. -/
theorem packetConsume_oob {s : State} {z : Ez} {q : Sq} {p : Bytes} {xid : Nat} {rest : List (Bytes × Nat)}
    (ha : s.arbitrate = some (1023, z)) (hq : s.sq 1023 = some q) (hport : s.fld.oobQ = (p, xid) :: rest)
    (hnew : ∀ h ∈ s.fld.heldOob, h.pkt ≠ p) (hroom : s.queueRoom (isHwOp (pktOp p)) = true)
    (hf : pktFlag p 2 = false ∨ s.outstanding 1023 = false) (f blk : Fetch) (ok : Bool) :
    execPacketConsume f blk ok s = .next ((s.oobTaken z p xid rest).enqueue 1023 q p (s.windowBlock p) true) := by
  have hfind : s.fld.heldOob.find? (fun h => h.pkt == p) = none := List.find?_eq_none.2 fun h hh => by simpa using hnew h hh
  have hz : z.nextEid = s.ez.nextEid := by rw [State.arbitrate_ez ha]
  have hne : ((s.oobTaken z p xid rest).enqueue 1023 q p (s.windowBlock p) true).ez.nextEid ≠ s.ez.nextEid := by
    rw [State.nextEid_enqueue]
    show z.nextEid + 1 ≠ _
    omega
  have hroom' : (s.onFld fun f => { f with oobQ := rest, heldOob := heldWith f.heldOob (HeldOob.mk p xid s.ez.nextEid none) }).queueRoom
      (isHwOp (pktOp p)) = true := (State.queueRoom_congr rfl _).trans hroom
  have hcons : State.consumeFrom (s.onFld fun f =>
      { f with oobQ := rest, heldOob := heldWith f.heldOob (HeldOob.mk p xid s.ez.nextEid none) }) z 1023 q p (s.windowBlock p) true
      = (s.oobTaken z p xid rest).enqueue 1023 q p (s.windowBlock p) true :=
    State.consumeFrom_room hroom' hf z q _ _
  unfold execPacketConsume
  rw [ha]
  dsimp only
  rw [hq]
  dsimp only
  rw [if_pos rfl]
  unfold State.consumeOob
  rw [hport]
  dsimp only
  rw [hfind]
  dsimp only
  simp only [← heldWith_eq]
  rw [if_neg]
  · exact congrArg Host.Outcome.next hcons
  · rw [beq_iff_eq]
    exact fun h => hne ((congrArg (fun t : State => t.ez.nextEid) hcons).symm.trans h)

/-- Settles O11: the arbiter leaves queue and entry numbers, and the packet is handed over with what is fixed then. -/
theorem packetConsumption : Obligations.PacketConsumption := by
  unfold Obligations.PacketConsumption
  refine ⟨fun s r z q p blk ok ha hr hq hp => ⟨fun hroom hf => ?_, ?_⟩, fun s z q p xid rest f blk ok ha hq hport hnew hroom hf => ?_⟩
  · have hz := State.arbitrate_ez ha
    have hqz : z.queue = s.ez.queue := by rw [hz]
    have hnz : z.nextEid = s.ez.nextEid := by rw [hz]
    refine ⟨({ s with ez := z } : State).enqueued r q p blk ok, ({ s with ez := z } : State).newEntry r q.fn p blk ok, ?_, ?_, hnz, rfl,
      rfl, rfl, rfl, rfl, rfl, rfl, rfl, State.sq_enqueued _ _ _ _ _ _, ?_⟩
    · rw [State.queue_enqueued, ← hqz]
    · rw [State.nextEid_enqueued, ← hnz]
    · exact (packetConsume_ring ha hr hq hp hroom hf blk ok).trans (congrArg Host.Outcome.next (State.enqueue_eq _ _ _ _ _ _))
  · have hz := State.arbitrate_ez ha
    have hq' : ({ s with ez := z } : State).sq r = some q := by
      show KMap.get? z.sqs r = _; rw [hz]; exact hq
    exact ⟨_, packetConsume_failed ha hr hq blk ok, by rw [State.queue_ringErr, hz], State.sq_ringErr hq' 2⟩
  · have hz := State.arbitrate_ez ha
    have hqz : z.queue = s.ez.queue := by rw [hz]
    have hnz : z.nextEid = s.ez.nextEid := by rw [hz]
    refine ⟨s.oobTaken z p xid rest, (s.oobTaken z p xid rest).enqueued 1023 q p (s.windowBlock p) true,
      (s.oobTaken z p xid rest).newEntry 1023 q.fn p (s.windowBlock p) true, rfl, State.held_oobTaken s z p xid rest, rfl,
      State.fld_enqueued _ _ _ _ _ _, ?_, hnz, rfl, rfl, rfl, rfl, rfl, rfl, State.sq_enqueued _ _ _ _ _ _, ?_⟩
    · rw [State.queue_enqueued]
      exact congrArg (· ++ _) hqz
    · exact (packetConsume_oob ha hq hport hnew hroom hf f blk ok).trans (congrArg Host.Outcome.next (State.enqueue_eq _ _ _ _ _ _))

end Sys2Proof.Machine
end


section
/-! Sessions: nonces, proofs and their back-off, renewing, expiry and closing (R61 to R73). -/
namespace Sys2Proof.Machine

open Sys2Proof

/-! ### Replies and the queue -/

@[simp] theorem State.queue_ringErrs (s : State) (rs : List Nat) (cause : Nat) : (s.ringErrs rs cause).ez.queue = s.ez.queue := by
  unfold State.ringErrs
  induction rs generalizing s with
  | nil => rfl
  | cons r rs ih => rw [List.foldl_cons, ih, State.queue_ringErr]

/-- A reply leaves the queue, or takes its own command from it. -/
theorem State.queue_reply (s : State) (r : Reply) :
    (s.reply r).ez.queue = s.ez.queue ∨ (s.reply r).ez.queue = s.ez.queue.filter fun e => e.eid != r.eid := by
  have hfree : ∀ u : State, u.ez.queue = s.ez.queue → ∀ t : State, (t = if r.fin then u.freeEntry r.eid else u) →
      t.ez.queue = s.ez.queue ∨ t.ez.queue = s.ez.queue.filter fun e => e.eid != r.eid := by
    rintro u hu t rfl
    split
    · exact .inr (by simp only [State.freeEntry, State.onEz_ez, hu])
    · exact .inl hu
  have hcommit : ∀ q c, (s.commitReply q c r).ez.queue = (if r.fin then s.freeEntry r.eid else s).ez.queue := by
    intro q c
    unfold State.commitReply
    dsimp only
    split
    · rfl
    · split
      · exact (State.queue_ringErrs _ _ _).trans rfl
      · split
        · rfl
        · rw [State.edge_ez]; rfl
  unfold State.reply
  split
  · exact hfree s rfl _ rfl
  · split
    · exact hfree s rfl _ rfl
    · split
      · exact hfree s rfl _ rfl
      · split
        · exact .inl rfl
        · rw [hcommit]; exact hfree s rfl _ rfl

/-- A reply of one command leaves the others held. -/
theorem State.entry_reply_other (s : State) {r : Reply} {eid : Nat} (h : r.eid ≠ eid) : (s.reply r).entry eid = s.entry eid := by
  unfold State.entry
  rcases State.queue_reply s r with hq | hq
  · rw [hq]
  · rw [hq, List.find?_filter]
    congr 1
    funext e
    by_cases he : e.eid = eid
    · simp [he, Ne.symm h]
    · simp [he]

theorem State.entry_finalOf_other (s : State) {i eid : Nat} (h : i ≠ eid) (st dt : Nat) (res : Bytes) :
    (s.finalOf i st dt res).entry eid = s.entry eid := by
  unfold State.finalOf
  split
  · rfl
  · next e he =>
    have hi : e.eid = i := by simpa using List.find?_some he
    exact State.entry_reply_other s (by rw [Entry.reply]; exact hi ▸ h)

/-! ### Nonces -/

theorem State.nonce_none_dropNonce (s : State) (fn ring : Nat) : (s.dropNonce fn ring).nonce fn ring = none := by
  unfold State.nonce State.dropNonce State.onEz
  rw [List.find?_eq_none]
  intro n hn
  have := (List.mem_filter.1 hn).2
  grind

section
variable {s : State} {eid : Nat} {e : Entry}

/-- The state in which SESSION_NONCE replies. -/
def State.nonceDrawn (s : State) (eid : Nat) (e : Entry) : State :=
  ((s.markBegun eid).nextDraw.dropNonce e.fn e.ring).onEz fun z =>
    { z with nonces := z.nonces ++ [⟨e.fn, e.ring, s.drawn 16, s.clk⟩] }

theorem sessionNonce_starts (h : s.Starts eid 0x0001 e) :
    execSessionNonce eid s = .next ((s.nonceDrawn eid e).okReply e (s.drawn 16)) := by
  unfold execSessionNonce
  rw [State.cmd_starts h]
  rfl

/-- The nonce drawn is the valid one of the function and ring. -/
theorem State.nonce_nonceDrawn (s : State) (eid : Nat) (e : Entry) :
    (s.nonceDrawn eid e).nonce e.fn e.ring = some ⟨e.fn, e.ring, s.drawn 16, s.clk⟩ := by
  have hnone := State.nonce_none_dropNonce (s.markBegun eid).nextDraw e.fn e.ring
  show (((s.markBegun eid).nextDraw.dropNonce e.fn e.ring).ez.nonces ++ [(⟨e.fn, e.ring, s.drawn 16, s.clk⟩ : Nonce)]).find?
    (fun n => n.fn == e.fn && n.ring == e.ring && decide (s.clk < n.at_ + nonceTicks)) = _
  rw [List.find?_append, show (((s.markBegun eid).nextDraw.dropNonce e.fn e.ring).ez.nonces.find? fun n =>
    n.fn == e.fn && n.ring == e.ring && decide (s.clk < n.at_ + nonceTicks)) = none from hnone]
  simp [nonceTicks, msTicks]

/-- It is the only one of the function and ring. -/
theorem State.nonces_nonceDrawn (s : State) (eid : Nat) (e : Entry) :
    ((s.nonceDrawn eid e).ez.nonces.filter fun n => n.fn == e.fn && n.ring == e.ring)
      = [⟨e.fn, e.ring, s.drawn 16, s.clk⟩] := by
  unfold State.nonceDrawn State.dropNonce
  simp only [State.onEz_ez, List.filter_append, List.filter_filter]
  rw [List.filter_eq_nil_iff.2 (by simp)]
  simp

theorem nonceExpiry_gone {fn ring : Nat} (h : s.nonce fn ring = none) :
    execNonceExpiry fn ring s = .next (s.dropNonce fn ring) := by
  simp [execNonceExpiry, h]

/-! ### Opening -/

/-- SESSION_OPEN of a Monitor, Operator or Expert role comes to the judging of the proof, the nonce used up. -/
theorem sessionOpen_judged (h : s.Starts eid 0x0002 e) (h1 : 1 ≤ e.p 0 1) (h3 : e.p 0 1 ≤ 3) (hr : e.ring ≠ 1023) {n : Nonce}
    (hn : s.nonce e.fn e.ring = some n) :
    execSessionOpen eid s = .next (((s.markBegun eid).dropNonce e.fn e.ring).judgeOpen e (e.p 0 1) n.value) := by
  have hn' : (s.markBegun eid).nonce e.fn e.ring = some n := hn
  unfold execSessionOpen
  rw [State.cmd_starts h]
  dsimp only
  rw [if_neg (by simp; omega), if_neg (by simp [hr]), hn']

/-- The conditions of a proof's judging: a key, no back-off, fewer than 256 sessions. -/
theorem State.judgeOpen_proof {u : State} {role : Nat} {key : Bytes} (h3 : role ≤ 3) (hkey : KMap.get? u.ez.roleKeys role = some key)
    (hback : u.ez.backoff.getD (role - 1) 0 ≤ e.at_) (hroom : u.ez.sessions.length < 256) (nonce : Bytes) :
    u.judgeOpen e role nonce = if slice e.area 8 32 = hmac256 key (u.proofMsg nonce role e) then u.openSession e role false
      else u.failProof e role := by
  have hrole : (role == 4) = false := by simp; omega
  have hprov : u.provOpen e role = false := by simp [State.provOpen, hrole]
  have hb : ¬ e.at_ < u.ez.backoff.getD (role - 1) 0 := by omega
  have hs : ¬ 256 ≤ u.ez.sessions.length := by omega
  unfold State.judgeOpen
  simp only [hprov, hkey, hb, hs, hrole]
  simp

/-- SESSION_OPEN opens a session or counts a failure, by the proof. -/
theorem sessionOpen_proof (h : s.Starts eid 0x0002 e) (h1 : 1 ≤ e.p 0 1) (h3 : e.p 0 1 ≤ 3) (hr : e.ring ≠ 1023) {n : Nonce}
    (hn : s.nonce e.fn e.ring = some n) {key : Bytes} (hkey : KMap.get? s.ez.roleKeys (e.p 0 1) = some key)
    (hback : s.ez.backoff.getD (e.p 0 1 - 1) 0 ≤ e.at_) (hroom : s.ez.sessions.length < 256) :
    execSessionOpen eid s = .next (if slice e.area 8 32 = hmac256 key (s.proofMsg n.value (e.p 0 1) e)
      then ((s.markBegun eid).dropNonce e.fn e.ring).openSession e (e.p 0 1) false
      else ((s.markBegun eid).dropNonce e.fn e.ring).failProof e (e.p 0 1)) :=
  (sessionOpen_judged h h1 h3 hr hn).trans (congrArg Host.Outcome.next
    (State.judgeOpen_proof (u := (s.markBegun eid).dropNonce e.fn e.ring) h3 hkey hback hroom n.value))

/-- The state in which an opened session's reply is written. -/
def State.opened (s : State) (e : Entry) (role : Nat) : State :=
  s.nextDraw.onEz fun z =>
    { z with
      sessions := KMap.put z.sessions s.newTag ⟨e.fn, role, s.clk, false, false, none, []⟩
      issued := (z.issued ++ [s.newTag]).drop (z.issued.length + 1 - 4096)
      authFail := z.authFail.set (role - 1) 0 }

theorem State.openSession_eq (u : State) (role : Nat) : u.openSession e role false
    = (u.opened e role).reply { e.reply true St.ok 0 (leBytes 4 (u.par Par.sessionIdleS)) with tag := u.newTag } := by
  unfold State.openSession State.opened
  rfl

theorem backoffExpiry_due {d : HeldDenied} (he : s.entry eid = some e) (hd : s.ez.denied.find? (fun d => d.eid == eid) = some d)
    (hdue : d.until_ ≤ s.clk) : execBackoffExpiry eid s
      = .next ((s.onEz fun z => { z with denied := z.denied.filter fun x => x.eid != eid }).fail e St.accessDenied 0x0302) := by
  unfold execBackoffExpiry
  rw [hd]
  dsimp only
  rw [if_pos hdue, State.finalOf_queue he (by rfl)]
  rfl

/-! ### Holdings of a session -/

/-- What the return of a session's holdings keeps: its sessions, and the entry of a command that no handover waits for. -/
structure State.Keeps (s t : State) (eid : Nat) : Prop where
  sessions : t.ez.sessions = s.ez.sessions
  entry : t.entry eid = s.entry eid

theorem State.Keeps.refl (s : State) (eid : Nat) : s.Keeps s eid := ⟨rfl, rfl⟩

theorem State.Keeps.trans {s t u : State} {eid : Nat} (h : s.Keeps t eid) (h' : t.Keeps u eid) : s.Keeps u eid :=
  ⟨h'.sessions.trans h.sessions, h'.entry.trans h.entry⟩

theorem State.Keeps.of_ez {s t : State} (eid : Nat) (hs : t.ez.sessions = s.ez.sessions) (hq : t.ez.queue = s.ez.queue) :
    s.Keeps t eid := ⟨hs, by unfold State.entry; rw [hq]⟩

theorem State.sessions_finalOf (s : State) (i st dt : Nat) (res : Bytes) : (s.finalOf i st dt res).ez.sessions = s.ez.sessions := by
  unfold State.finalOf
  split
  · rfl
  · exact (State.replyFrom_final _ _ _ _ _).sessions

/-- No handover under way waits for a command. -/
def State.NotEntering (s : State) (eid : Nat) : Prop := ∀ k, (s.inst k).ctl = .handing → (s.inst k).enterEid ≠ eid

theorem State.inst_finalOf (s : State) (i st dt : Nat) (res : Bytes) (k : Nat) : (s.finalOf i st dt res).inst k = s.inst k := by
  unfold State.finalOf
  split
  · rfl
  · unfold State.inst
    rw [(State.replyFrom_final _ _ _ _ _).eq]
    rfl

theorem State.inst_setInst (s : State) (k j : Nat) (x : Inst) : (s.setInst k x).inst j = if j = k then x else s.inst j := by
  split
  · next h => rw [h, State.inst_setInst_same]
  · next h => exact State.inst_setInst_other _ _ h

theorem State.beginReturn_keeps (s : State) (k eid : Nat) (h : s.NotEntering eid) :
    s.Keeps (s.beginReturn k []) eid ∧ (s.beginReturn k []).NotEntering eid := by
  unfold State.beginReturn
  dsimp only
  split
  · exact ⟨State.Keeps.refl s eid, h⟩
  · next hk =>
    refine ⟨⟨State.sessions_finalOf _ _ _ _ _, State.entry_finalOf_other _ (h k hk) _ _ _⟩, fun j hj => ?_⟩
    rw [List.foldl_nil, State.inst_finalOf, State.inst_setInst] at hj ⊢
    split at hj
    · cases hj
    · rw [if_neg ‹_›]; exact h j hj
  · refine ⟨State.Keeps.of_ez eid rfl rfl, fun j hj => ?_⟩
    rw [State.inst_setInst] at hj ⊢
    split at hj
    · cases hj
    · rw [if_neg ‹_›]; exact h j hj

theorem State.xqComplete_keeps (s : State) (k id : Nat) (r : XRes) (ok : Bool) (eid : Nat) : s.Keeps (s.xqComplete k id r ok) eid := by
  unfold State.xqComplete
  dsimp only
  split
  · exact State.Keeps.of_ez eid (by unfold State.xqLatch; rw [State.latch_ez]) (by unfold State.xqLatch; rw [State.latch_ez])
  · exact State.Keeps.of_ez eid (by rw [State.edge_ez]; rfl) (by rw [State.edge_ez]; rfl)

theorem State.foldl_keeps {α : Type} {f : State → α → State} {eid : Nat} (hf : ∀ s a, State.Keeps s (f s a) eid) (l : List α)
    (s : State) : s.Keeps (l.foldl f s) eid := by
  induction l generalizing s with
  | nil => exact State.Keeps.refl s eid
  | cons a l ih => exact (hf s a).trans (ih (f s a))

theorem State.unbindXq_keeps (s : State) (k eid : Nat) : s.Keeps (s.unbindXq k) eid := by
  unfold State.unbindXq
  dsimp only
  refine State.Keeps.trans (t := List.foldl _ _ _) ?_ (State.Keeps.of_ez eid rfl rfl)
  refine State.Keeps.trans (State.Keeps.of_ez (s := s) (t := s.onDrv _) eid rfl rfl) (State.foldl_keeps (fun s a => ?_) _ _)
  split
  · exact State.Keeps.refl s eid
  · exact State.xqComplete_keeps _ _ _ _ _ _

theorem State.releaseHoldings_sessions (s : State) (tag : Nat) : (s.releaseHoldings tag).ez.sessions = s.ez.sessions := by
  have hret : ∀ (l : List Nat) (s : State), (l.foldl (fun s k => s.beginReturn k []) s).ez.sessions = s.ez.sessions := by
    intro l
    induction l with
    | nil => exact fun s => rfl
    | cons k l ih =>
      intro s
      rw [List.foldl_cons, ih]
      unfold State.beginReturn
      dsimp only
      split
      · rfl
      · exact State.sessions_finalOf _ _ _ _ _
      · rfl
  unfold State.releaseHoldings
  dsimp only
  exact (State.foldl_keeps (fun s k => State.unbindXq_keeps s k 0) _ _).sessions.trans (hret _ s)

/-- The return of what a session holds keeps a command that no handover waits for. -/
theorem State.releaseHoldings_keeps (s : State) (tag eid : Nat) (h : s.NotEntering eid) : s.Keeps (s.releaseHoldings tag) eid := by
  have hret : ∀ (l : List Nat) (s : State), s.NotEntering eid → s.Keeps (l.foldl (fun s k => s.beginReturn k []) s) eid := by
    intro l
    induction l with
    | nil => exact fun s _ => State.Keeps.refl s eid
    | cons k l ih =>
      intro s h
      obtain ⟨hk, hn⟩ := State.beginReturn_keeps s k eid h
      exact hk.trans (ih _ hn)
  unfold State.releaseHoldings
  dsimp only
  exact (hret _ s h).trans (State.foldl_keeps (fun s k => State.unbindXq_keeps s k eid) _ _)

/-! ### Renewing, expiry, closing -/

theorem sessionRenew_starts (h : s.Starts eid 0x0003 e) : execSessionRenew eid s = .next ((s.markBegun eid).okReply e []) := by
  unfold execSessionRenew
  rw [State.cmd_starts h]

theorem sessionExpiry_idle {tag : Nat} {x : Session} (hx : KMap.get? s.ez.sessions tag = some x) (hc : x.closing = false)
    (hidle : x.lastUse + 3 * (1000 * s.par Par.sessionIdleS) ≤ s.clk) :
    execSessionExpiry tag s = .next ((s.endSession tag x).releaseHoldings tag) := by
  simp [execSessionExpiry, hx, hc, msTicks, hidle]

theorem sessionExpiry_live {tag : Nat} {x : Session} (hx : KMap.get? s.ez.sessions tag = some x)
    (h : x.closing = true ∨ s.clk < x.lastUse + 3 * (1000 * s.par Par.sessionIdleS)) : execSessionExpiry tag s = .next s := by
  rcases h with h | h
  · simp [execSessionExpiry, hx, h]
  · have hn : ¬ x.lastUse + msTicks (1000 * s.par Par.sessionIdleS) ≤ s.clk := Nat.not_le.2 h
    simp [execSessionExpiry, hx, hn]

/-- A close whose commands have all replied ends its session. -/
theorem State.finishClose_done {tag : Nat} {x : Session} (hx : KMap.get? s.ez.sessions tag = some x) (hc : x.closeEid = some eid)
    (hdone : s.allDone x.waits = true) (he : s.entry eid = some e) : s.finishClose tag = (s.endSession tag x).okReply e [] := by
  unfold State.finishClose
  rw [hx]
  dsimp only
  rw [hc]
  dsimp only
  rw [if_pos hdone, State.finalOf_queue he (by rfl)]
  rfl

/-- The close point of a session, as it is noted. -/
def Session.closed (x : Session) (eid : Nat) : Session := { x with closing := true, closeEid := some eid, waits := [] }

/-- A close with no other command of the session outstanding ends it at once. -/
theorem sessionClose_alone (h : s.Starts eid 0x0004 e) {x : Session} (hx : KMap.get? s.ez.sessions e.tag = some x)
    (hc : x.closing = false) (hadm : ((s.markBegun eid).admitted fun y => y.tag == e.tag && y.fn == e.fn && y.eid != eid) = [])
    (hent : ∀ k ∈ s.ez.inst, k.2.enterEid ≠ eid) : ∃ u : State, execSessionClose eid s = .next (u.okReply e [])
      ∧ u.ez.sessions = KMap.del (KMap.put s.ez.sessions e.tag (x.closed eid)) e.tag := by
  generalize hw : (s.markBegun eid).onEz (fun z => { z with sessions := KMap.put z.sessions e.tag (x.closed eid) }) = w
  have hgo : execSessionClose eid s = .next ((w.releaseHoldings e.tag).finishClose e.tag) := by
    have hx' : KMap.get? (s.markBegun eid).ez.sessions e.tag = some x := hx
    unfold execSessionClose
    rw [State.cmd_starts h]
    dsimp only
    rw [hx']
    dsimp only
    rw [hadm, if_neg (by simp [hc]), ← hw]
    rfl
  have hwn : w.NotEntering eid := fun k hk => by
    have hk' : (s.inst k).ctl = .handing := by rw [← hw] at hk; exact hk
    rw [← hw]
    show (s.inst k).enterEid ≠ eid
    unfold State.inst KMap.getD at hk' ⊢
    cases hg : KMap.get? s.ez.inst k with
    | none => rw [hg] at hk'; cases hk'
    | some y => exact hent _ (KMap.mem_of_get? hg)
  have hkeep := State.releaseHoldings_keeps w e.tag eid hwn
  have hses : w.ez.sessions = KMap.put s.ez.sessions e.tag (x.closed eid) := by rw [← hw]; rfl
  have hwe : w.entry eid = some { e with begun := true } := by rw [← hw]; exact h.begun
  refine ⟨(w.releaseHoldings e.tag).endSession e.tag (x.closed eid), ?_, ?_⟩
  · have hx' : KMap.get? (w.releaseHoldings e.tag).ez.sessions e.tag = some (x.closed eid) := by
      rw [hkeep.sessions, hses, KMap.get?_put_same]
    rw [hgo, State.finishClose_done hx' rfl rfl (hkeep.entry.trans hwe)]
    rfl
  · show KMap.del (w.releaseHoldings e.tag).ez.sessions e.tag = _
    rw [hkeep.sessions, hses]

theorem sessionCloseComplete_done {tag : Nat} {x : Session}
    (hfind : s.ez.sessions.find? (fun p => p.2.closeEid == some eid) = some (tag, x)) (hx : KMap.get? s.ez.sessions tag = some x)
    (hdone : s.allDone x.waits = true) (he : s.entry eid = some e) :
    execSessionCloseComplete eid s = .next ((s.endSession tag x).okReply e []) := by
  have hc : x.closeEid = some eid := by simpa using List.find?_some hfind
  unfold execSessionCloseComplete
  rw [hfind]
  dsimp only
  rw [State.finishClose_done hx hc hdone he]
end

/-- Settles O13: each command's own step, with the queue and sessions it keeps. -/
theorem sessions : Obligations.Sessions := by
  unfold Obligations.Sessions
  refine ⟨fun s eid e => ⟨fun h => ?_, fun fn ring hn => ?_⟩, fun s eid e role n key hrole h1 h3 hr =>
    ⟨fun h hn hkey hback hroom => ⟨fun hproof => ?_, fun hproof => ?_⟩, fun d he hd hdue => ⟨_, backoffExpiry_due he hd hdue, rfl⟩⟩,
    fun s eid e tag x => ⟨fun h => sessionRenew_starts h, fun hx hc hidle => ⟨_, sessionExpiry_idle hx hc hidle,
      State.releaseHoldings_sessions _ _⟩, fun hx hlive => sessionExpiry_live hx hlive,
      fun h hx hc hadm hent => sessionClose_alone h hx hc hadm hent,
      fun hfind hx hdone he => ⟨_, sessionCloseComplete_done hfind hx hdone he, rfl⟩⟩⟩
  · exact ⟨_, sessionNonce_starts h, State.nonce_nonceDrawn s eid e, by rw [State.nonces_nonceDrawn]; rfl, rfl, rfl, rfl⟩
  · refine ⟨_, nonceExpiry_gone hn, fun n hmem hfn hring => ?_, rfl⟩
    simp [State.dropNonce, hfn, hring] at hmem
  · subst hrole
    refine ⟨((s.markBegun eid).dropNonce e.fn e.ring).opened e (e.p 0 1), _, ?_, KMap.get?_put_same _ _ _, rfl,
      State.nonce_none_dropNonce (s.markBegun eid) _ _, rfl, rfl⟩
    rw [show exec (.sessionOpen eid) s = execSessionOpen eid s from rfl,
      sessionOpen_proof h h1 h3 hr hn hkey hback hroom, if_pos hproof, State.openSession_eq]
    rfl
  · subst hrole
    refine ⟨((s.markBegun eid).dropNonce e.fn e.ring).failProof e (e.p 0 1), _, ?_, rfl, rfl, rfl, rfl,
      State.nonce_none_dropNonce (s.markBegun eid) _ _, rfl⟩
    rw [show exec (.sessionOpen eid) s = execSessionOpen eid s from rfl,
      sessionOpen_proof h h1 h3 hr hn hkey hback hroom, if_neg hproof]

end Sys2Proof.Machine
end


section
/-! Engine instances and expert queues: handover, return, disable and enable, and the registers of a queue (R75 to R79, R560,
R561). -/
namespace Sys2Proof.Machine

open Sys2Proof

@[simp] theorem State.inst_markBegun (s : State) (eid k : Nat) : (s.markBegun eid).inst k = s.inst k := rfl

section
variable {s : State} {eid : Nat} {e : Entry}

/-! ### Handover and return -/

theorem engineExpertEnter_basic (h : s.Starts eid 0x4001 e) (hok : (s.markBegun eid).targetOk e false = true)
    (hb : (s.inst e.target).ctl = .basic) : execEngineExpertEnter eid s = .next (((s.markBegun eid).setInst e.target
      { s.inst e.target with ctl := .handing, holder := e.tag, holderFn := e.fn, t0 := s.clk, enterEid := eid }).pendReply e) := by
  unfold execEngineExpertEnter
  rw [State.cmd_starts h]
  simp only [hok, State.inst_markBegun, hb]
  rfl

theorem handoverDrainComplete_done {code inst : Nat} (hc : code ≠ 5) (hh : (s.inst (instKey code inst)).ctl = .handing)
    (he : s.entry (s.inst (instKey code inst)).enterEid = some e) (hw : s.basicWork (instKey code inst) = false) :
    execHandoverDrainComplete code inst s = .next ((s.setInst (instKey code inst)
      { s.inst (instKey code inst) with ctl := .expert, enterEid := 0 }).okReply e []) := by
  simp only [execHandoverDrainComplete, hh, hw, hc, if_false]
  rw [State.finalOf_queue he (by rfl)]
  rfl

theorem handoverTimeout_work {code inst : Nat} (hh : (s.inst (instKey code inst)).ctl = .handing)
    (he : s.entry (s.inst (instKey code inst)).enterEid = some e) (hw : s.basicWork (instKey code inst) = true)
    (ht : (s.inst (instKey code inst)).t0 + msTicks 100 ≤ s.clk) : execHandoverTimeout code inst s
      = .next ((s.setInst (instKey code inst) { s.inst (instKey code inst) with
          ctl := .basic, holder := 0, holderFn := 0xFF, enterEid := 0 }).fail e St.timeout 0) := by
  unfold execHandoverTimeout
  dsimp only
  rw [if_pos (by simp [hh, hw, ht]), State.finalOf_queue he (by rfl)]
  rfl

theorem engineExpertReturn_expert (h : s.Starts eid 0x4002 e) (hok : (s.markBegun eid).targetOk e false = true)
    (hx : (s.inst e.target).ctl = .expert) (hold : (s.inst e.target).holder = e.tag) :
    execEngineExpertReturn eid s = .next ((s.markBegun eid).setInst e.target
      { s.inst e.target with ctl := .returning, retEids := (s.inst e.target).retEids ++ [eid] }) := by
  unfold execEngineExpertReturn State.beginReturn
  rw [State.cmd_starts h]
  simp [hok, hx, hold]

theorem returnComplete_one {code inst : Nat} (h5 : code ≠ 5) (h7 : code ≠ 7) (hr : (s.inst (instKey code inst)).ctl = .returning)
    (hids : (s.inst (instKey code inst)).retEids = [eid]) (he : s.entry eid = some e) (ok : Bool) :
    execReturnComplete code inst [] ok s = .next (((s.setInst (instKey code inst)
      { s.inst (instKey code inst) with ctl := .basic, holder := 0, holderFn := 0xFF, retEids := [] }).setXq (instKey code inst)
        Xq.off).okReply e []) := by
  have hne : ((s.inst (instKey code inst)).ctl != .returning) = false := by simp [hr]
  simp only [execReturnComplete, hne, h5, h7, if_false, List.take_nil, State.abortDescs, List.foldl_nil, State.endReturn, hids,
    List.foldl_cons]
  rw [State.finalOf_queue he (by rfl)]
  rfl

theorem engineQuery_shown (h : s.Starts eid 0x4003 e) (hok : (s.markBegun eid).targetOk e true = true) :
    execEngineQuery eid s = .next ((s.markBegun eid).okReply e
      [byteOf (s.inst e.target).ctl.code, byteOf (b2n (s.inst e.target).disabled + 2 * b2n (s.inst e.target).disabling
          + 4 * b2n (s.inst e.target).enQueued),
        byteOf (if (s.inst e.target).ctl = .basic then 0xFF else (s.inst e.target).holderFn)]) := by
  unfold execEngineQuery
  rw [State.cmd_starts h]
  simp [hok]

/-! ### Disable and enable -/

/-- The end of a disable drain with one command that waits for it. -/
theorem State.endDisable_one {k : Nat} (hd : (s.inst k).disabling = true) (hw : s.basicWork k = false)
    (hids : (s.inst k).disEids = [eid]) : s.endDisable k = (s.setInst k { s.inst k with
      disabled := !(s.inst k).enQueued, disabling := false, enQueued := false, disEids := [] }).finalOf eid St.ok 0 [] := by
  simp [State.endDisable, hd, hw, hids]

theorem engineDisable_idle (h : s.Starts eid 0x4004 e) (hok : (s.markBegun eid).targetOk e false = true)
    (hb : (s.inst e.target).ctl = .basic) (hdis : (s.inst e.target).disabled = false) (hids : (s.inst e.target).disEids = [])
    (hen : (s.inst e.target).enQueued = false) (hw : s.basicWork e.target = false) :
    ∃ u : State, execEngineDisable eid s = .next (u.okReply e [])
      ∧ u.inst e.target = { s.inst e.target with disabled := true, disabling := false } ∧ ∀ j, j ≠ e.target → u.inst j = s.inst j := by
  generalize hw' : (s.markBegun eid).setInst e.target
    { s.inst e.target with disabling := true, disEids := (s.inst e.target).disEids ++ [eid] } = w
  have hinst : w.inst e.target = { s.inst e.target with disabling := true, disEids := [eid] } := by
    rw [← hw', State.inst_setInst_same, hids]; rfl
  have hwork : w.basicWork e.target = false := by rw [← hw']; exact hw
  have hgo : execEngineDisable eid s = .next (w.endDisable e.target) := by
    unfold execEngineDisable
    rw [State.cmd_starts h]
    dsimp only
    rw [if_neg (by simp [hok]), if_neg (by simp [hb]), if_neg (by simp [hdis])]
    exact congrArg (fun t => Host.Outcome.next (State.endDisable t e.target)) hw'
  refine ⟨w.setInst e.target { w.inst e.target with
      disabled := !(w.inst e.target).enQueued, disabling := false, enQueued := false, disEids := [] }, ?_, ?_, fun j hj => ?_⟩
  · rw [hgo, State.endDisable_one (eid := eid) (by rw [hinst]) hwork (by rw [hinst]),
      h.finalOf (by rw [← hw']; rfl)]
    rfl
  · rw [State.inst_setInst_same, hinst]
    simp [hen, ← hids]
  · rw [State.inst_setInst_other _ _ hj, ← hw', State.inst_setInst_other _ _ hj, State.inst_markBegun]

theorem disableDrainComplete_one {code inst : Nat} (hd : (s.inst (instKey code inst)).disabling = true)
    (hw : s.basicWork (instKey code inst) = false) (hids : (s.inst (instKey code inst)).disEids = [eid]) (he : s.entry eid = some e) :
    execDisableDrainComplete code inst s = .next ((s.setInst (instKey code inst) { s.inst (instKey code inst) with
      disabled := !(s.inst (instKey code inst)).enQueued, disabling := false, enQueued := false, disEids := [] }).okReply e []) := by
  unfold execDisableDrainComplete
  rw [State.endDisable_one hd hw hids, State.finalOf_queue he (by rfl)]
  rfl

theorem engineEnable_stopped (h : s.Starts eid 0x4005 e) (hok : (s.markBegun eid).targetOk e false = true)
    (hd : (s.inst e.target).disabling = false) : execEngineEnable eid s
      = .next (((s.markBegun eid).setInst e.target { s.inst e.target with disabled := false }).okReply e []) := by
  unfold execEngineEnable
  rw [State.cmd_starts h]
  simp [hok, hd]

theorem engineEnable_draining (h : s.Starts eid 0x4005 e) (hok : (s.markBegun eid).targetOk e false = true)
    (hd : (s.inst e.target).disabling = true) (hq : (s.inst e.target).enQueued = false) : execEngineEnable eid s
      = .next (((s.markBegun eid).setInst e.target { s.inst e.target with enQueued := true }).fail e St.enableQueued 0x0601) := by
  unfold execEngineEnable
  rw [State.cmd_starts h]
  simp [hok, hd, hq]

/-! ### The registers of an expert queue -/

/-- The error registers of the queues' blocks. -/
theorem xqErr_apart (k : Nat) : (xqErr k).1.Apart := by
  unfold xqErr
  dsimp only
  split <;> constructor <;> simp [errSwd, errGrs, errBrk, errTsk, errWdr, errDrv]

/-- A word with a bit set is not zero. -/
theorem State.reg_ne_zero_of_rbit {off i : Nat} (h : s.rbit off i = true) : s.reg off ≠ 0#32 := by
  intro h0
  simp [State.rbit, State.rf, h0, fieldOf] at h

/-- After an error has been latched its register's VALID is 1. -/
theorem State.latch_valid {r : ErrReg} (hr : r.Apart) (inst cause : Nat) : (s.latch r inst cause).rbit r.off 31 = true := by
  by_cases hv : s.rbit r.off 31 = true
  · have hb := State.rf_bump_other s r.off r.mh r.ml 1 31 31 hr.more.1 (by have := hr.more.2; omega) (.inr hr.more.2)
    unfold State.latch
    rw [if_pos hv, State.rbit, hb]
    exact hv
  · exact (State.latch_first hr (by simpa using hv) inst cause).2

/-- A write to a queue that is not held changes its block's error register, Hedgerow and what is sent. -/
theorem State.xqLatch_effect (k cause : Nat) : (s.xqLatch k cause).ez = s.ez ∧ (s.xqLatch k cause).data = s.data
    ∧ (s.xqLatch k cause).reg (xqErr k).1.off ≠ 0#32 ∧ ∀ r, r ≠ (xqErr k).1.off → (s.xqLatch k cause).reg r = s.reg r :=
  ⟨State.latch_ez _ _ _ _, State.latch_data _ _ _ _, State.reg_ne_zero_of_rbit (State.latch_valid (xqErr_apart k) _ _),
    fun _ hr => State.latch_reg_other _ _ _ _ hr⟩

variable {off k o : Nat} {val : W32}

theorem xqEnable_held (hat : xqAt off = some (k, o)) (hh : s.xqHeld k = true) (hen : (s.xq k).en = false)
    (hn : 4 ≤ fieldOf val.toNat 8 4 ∧ fieldOf val.toNat 8 4 ≤ 16) (hm : 4 ≤ fieldOf val.toNat 16 12 ∧ fieldOf val.toNat 16 12 ≤ 16) :
    execXqEnable off val s = .next (s.setXq k ((s.xq k).start (fieldOf val.toNat 8 4) (fieldOf val.toNat 16 12))) := by
  simp [execXqEnable, hat, hh, hen, badLog2_of_within hn, badLog2_of_within hm]

theorem xqDisable_held (hat : xqAt off = some (k, o)) (hh : s.xqHeld k = true) (hen : (s.xq k).en = true) :
    execXqDisable off val s = .next (s.setXq k { s.xq k with en := false, halt := false, waiting := false, desc := [] }) := by
  simp [execXqDisable, hat, hh, hen]

theorem xqTailWrite_held (hat : xqAt off = some (k, o)) (hh : s.xqHeld k = true) (hen : (s.xq k).en = true)
    (hv : fieldOf val.toNat 15 0 < 2 ^ (s.xq k).sqLog2) :
    execXqTailWrite off val s = .next (s.setXq k { s.xq k with tail := fieldOf val.toNat 15 0 }) := by
  simp [execXqTailWrite, hat, hh, hen, hv]

theorem xcqHeadWrite_held (hat : xqAt off = some (k, o)) (hh : s.xqHeld k = true) (hen : (s.xq k).en = true)
    (hv : fieldOf val.toNat 15 0 < 2 ^ (s.xq k).cqLog2) : execXcqHeadWrite off val s = .next (s.setXq k { s.xq k with
      unread := ((s.xq k).cqWp + 2 ^ (s.xq k).cqLog2 - fieldOf val.toNat 15 0) % 2 ^ (s.xq k).cqLog2 }) := by
  simp [execXcqHeadWrite, hat, hh, hen, hv]

/-- A write of a register of a queue that is not held latches cause 1. -/
theorem xqWrite_notHeld (hat : xqAt off = some (k, o)) (hh : s.xqHeld k = false) {c : Instr}
    (hc : c ∈ [Instr.xqEnable off val, .xqDisable off val, .xqTailWrite off val, .xcqHeadWrite off val]) :
    exec c s = .next (s.xqLatch k 1) := by
  simp only [List.mem_cons, List.not_mem_nil, or_false] at hc
  rcases hc with rfl | rfl | rfl | rfl
  · show execXqEnable off val s = _
    simp [execXqEnable, hat, hh]
  · show execXqDisable off val s = _
    simp [execXqDisable, hat, hh]
  · show execXqTailWrite off val s = _
    simp [execXqTailWrite, hat, hh]
  · show execXcqHeadWrite off val s = _
    simp [execXcqHeadWrite, hat, hh]
end

/-- Settles O15: each command's own step on the engine or queue it names. -/
theorem engineInstances : Obligations.EngineInstances := by
  unfold Obligations.EngineInstances
  refine ⟨fun s eid e b k hb => ?_, fun s eid e b k hb => ?_, fun s off k o val n m v hat hn hm hv => ?_⟩
  · subst hb
    refine ⟨fun h hk hok hbasic => ?_, fun code inst hk h5 hh he => ?_, fun h hk hok hx hold => ?_,
      fun code inst ok hk h5 h7 hr hids he => ?_, fun h hok => engineQuery_shown h hok⟩
    · subst hk; exact engineExpertEnter_basic h hok hbasic
    · subst hk
      exact ⟨handoverDrainComplete_done h5 hh he, handoverTimeout_work hh he⟩
    · subst hk; exact engineExpertReturn_expert h hok hx hold
    · subst hk; exact returnComplete_one h5 h7 hr hids he ok
  · subst hb
    refine ⟨fun h hk hok hbasic hdis hids hen hw => ?_, fun code inst hk hd hw hids he => ?_, fun h hk hok => ?_⟩
    · subst hk; exact engineDisable_idle h hok hbasic hdis hids hen hw
    · subst hk; exact disableDrainComplete_one hd hw hids he
    · subst hk
      exact ⟨engineEnable_stopped h hok, engineEnable_draining h hok⟩
  · subst hn hm hv
    refine ⟨fun hh => ⟨fun hen hn hm => ?_, xqDisable_held hat hh, xqTailWrite_held hat hh, xcqHeadWrite_held hat hh⟩,
      fun hh c hc => ⟨_, xqWrite_notHeld hat hh hc, State.xqLatch_effect k 1⟩⟩
    refine ⟨_, (s.xq k).start (fieldOf val.toNat 8 4) (fieldOf val.toNat 16 12), xqEnable_held hat hh hen hn hm, ?_, rfl, rfl, rfl, rfl, rfl,
      rfl, rfl, rfl, rfl, rfl, rfl⟩
    exact KMap.getD_put_same _ _ _ _

end Sys2Proof.Machine
end


section
/-! Objects: a PUT's start from each source, its pass and its commit, and what a GET delivers (R21, R24, R107, R114 to R119). -/
namespace Sys2Proof.Machine

open Sys2Proof

/-! ### PUTs in flight -/

/-- A PUT that has just been added is the one of its number. -/
theorem State.put_append {s t : State} {p : PutRec} {eid : Nat} (h : s.put eid = none) (hp : p.eid = eid)
    (ht : t.data.puts = s.data.puts ++ [p]) : t.put eid = some p := by
  unfold State.put at h ⊢
  rw [ht, List.find?_append, h]
  simp [hp]

/-- A PUT that has been taken away is not in flight. -/
theorem State.put_filter {s : State} {puts : List PutRec} {eid : Nat} (h : s.data.puts = puts.filter fun x => x.eid != eid) :
    s.put eid = none := by
  unfold State.put
  rw [h, List.find?_eq_none]
  intro x hx
  simpa using (List.mem_filter.1 hx).2

section
variable {s : State} {eid : Nat} {e : Entry} {pol : Policy} {g : Group} {list src : Fetch} {cmp : List Fetch}

/-- The forms of PUT that pass their checks go on to their data. -/
theorem put_judged {c : Instr} {fixed : Bool}
    (hc : (c = .put eid list src cmp ∧ s.Starts eid 0x0101 e ∧ fixed = false)
      ∨ (c = .putInline eid list src cmp ∧ s.Starts eid 0x0102 e ∧ fixed = false)
      ∨ (c = .putFixed eid list src cmp ∧ s.Starts eid 0x0103 e ∧ fixed = true))
    (hj : (s.markBegun eid).putJudge e = .ok (pol, g)) :
    exec c s = .next ((s.markBegun eid).putData e ((s.markBegun eid).newPut e pol g fixed) list src cmp) := by
  have hrun : (s.markBegun eid).putCmd e fixed list src cmp
      = (s.markBegun eid).putData e ((s.markBegun eid).newPut e pol g fixed) list src cmp := by
    unfold State.putCmd; rw [hj]
  rcases hc with ⟨rfl, h, rfl⟩ | ⟨rfl, h, rfl⟩ | ⟨rfl, h, rfl⟩
  · exact congrArg Host.Outcome.next ((State.cmd_starts h _).trans hrun)
  · exact congrArg Host.Outcome.next ((State.cmd_starts h _).trans hrun)
  · exact congrArg Host.Outcome.next ((State.cmd_starts h _).trans hrun)

/-- The number of the entry that starts. -/
theorem Starts_put_eid {c : Instr} {fixed : Bool}
    (hc : (c = .put eid list src cmp ∧ s.Starts eid 0x0101 e ∧ fixed = false)
      ∨ (c = .putInline eid list src cmp ∧ s.Starts eid 0x0102 e ∧ fixed = false)
      ∨ (c = .putFixed eid list src cmp ∧ s.Starts eid 0x0103 e ∧ fixed = true)) : e.eid = eid := by
  rcases hc with ⟨-, h, -⟩ | ⟨-, h, -⟩ | ⟨-, h, -⟩ <;> exact h.eid_eq

/-- A PUT whose bytes are all there starts with them. -/
theorem State.putData_start {b : State} {p : PutRec} {data : Bytes} (hlen : data.length = p.length)
    (hsrc : (p.source = 0 ∧ src = .ok data)
      ∨ (p.source = 1 ∧ src = .ok data ∧ ∃ l, list = .ok l ∧ p.length ≤ sgBytes (l.take (16 * e.p 36 4)))
      ∨ (p.source = 3 ∧ (e.blk.drop 64).take p.length = data ∧ (e.blk.drop 64).length < p.length + 64)) :
    b.putData e p list src cmp = b.startPut p data cmp := by
  unfold State.putData
  rcases hsrc with ⟨h, rfl⟩ | ⟨h, rfl, l, rfl, hl⟩ | ⟨h, rfl, hl⟩
  · simp only [h]
    rw [padTo_of_length _ _ hlen]
  · simp only [h]
    rw [if_neg (by omega), padTo_of_length _ _ hlen]
  · have hle : ¬ (e.blk.drop 64).length < p.length := by
      rw [List.length_take] at hlen
      omega
    simp only [h]
    rw [if_neg hle, if_neg (by omega)]

/-- The pass over a PUT's bytes where every chunk goes its way. -/
theorem State.runPass_ok {w v : State} {u x : PutRec} (hu : w.put eid = some u)
    (hd : w.dispatchAll { u with placed := true, recipe := (chunksOf u.mode u.landing).map fun k => hitEntry [] 0 0 0 0 k }
      (w.salt u.tenant) (chunksOf u.mode u.landing) 0 0 cmp = (v, x, none)) :
    w.runPass eid cmp = (v.setPut x).advancePut eid := by
  unfold State.runPass
  rw [hu]
  dsimp only
  rw [hd]

/-- A PUT from an INGEST window takes it. -/
theorem State.putData_window {b : State} {p : PutRec} {i : Nat} (hs : p.source = 2) (hw : b.windowFor p = .ok i) :
    b.putData e p list src cmp = (b.onDrv fun d => { d with spaces := KMap.upd d.spaces i fun x => { x with bound := some p.eid } }).onData
      fun d => { d with puts := d.puts ++ [p] } := by
  unfold State.putData
  simp only [hs, hw]

theorem putIdleTimeout_idle {p : PutRec} (hp : s.put eid = some p) (hs : p.source = 2) (hpl : p.placed = false)
    (ht : p.lastByte + msTicks (s.par Par.putIdleMs) ≤ s.clk) :
    execPutIdleTimeout eid s = .next (s.endPut eid St.timeout 0x1101) := by
  simp [execPutIdleTimeout, hp, hs, hpl, ht]
end

/-- Settles O17: each source gives the PUT its bytes, and the pass goes over them. -/
theorem putStarts : Obligations.PutStarts := by
  unfold Obligations.PutStarts
  refine ⟨fun s eid e b fixed c list src cmp pol g p data hb hc hj hp hlen hsrc hnone => ?_,
    fun s eid e b list src cmp p hb => ⟨fun pol g i h hj hp hs hw => ?_, fun hp hs hpl ht => putIdleTimeout_idle hp hs hpl ht⟩⟩
  · subst hb
    have heid := Starts_put_eid hc
    have hpe : p.eid = eid := by rw [hp]; exact heid
    have hgo : exec c s = .next ((((s.markBegun eid).tally 0 data.length).onData fun d =>
        { d with puts := d.puts ++ [{ p with landing := data }] }).runPass eid cmp) := by
      rw [put_judged hc hj, ← hp, State.putData_start hlen hsrc, State.startPut, hpe]
    have hput := State.put_append (t := ((s.markBegun eid).tally 0 data.length).onData fun d =>
      { d with puts := d.puts ++ [{ p with landing := data }] }) (p := { p with landing := data }) hnone hpe rfl
    exact ⟨{ p with landing := data }, _, hgo, rfl, rfl, rfl, rfl, fun v x hd =>
      hgo.trans (congrArg Host.Outcome.next (State.runPass_ok hput hd))⟩
  · subst hb
    have heid := h.eid_eq
    have hpe : p.eid = eid := by rw [hp]; exact heid
    refine ⟨_, (put_judged (.inl ⟨rfl, h, rfl⟩) hj).trans (congrArg Host.Outcome.next ((congrArg (fun q =>
      (s.markBegun eid).putData e q list src cmp) hp.symm).trans (State.putData_window hs hw))), rfl, ?_, rfl, rfl⟩
    rw [hpe]
    rfl

/-! ### Commit -/

/-- The object a commit makes. -/
theorem State.applyPut_object {s u : State} {p : PutRec} (h : s.applyPut p = .ok u) : ∃ o ∈ u.data.objects, o.dom = p.dom
    ∧ o.tenant = p.tenant ∧ o.objId = p.objId ∧ o.length = p.length ∧ o.entries = p.recipe ∧ o.jseq = p.jseq ∧ o.extent = p.rcpExt
    ∧ o.dead = none := by
  unfold State.applyPut at h
  dsimp only at h
  repeat' split at h
  all_goals cases h
  all_goals exact ⟨_, List.mem_append_right _ (List.mem_singleton.2 rfl), rfl, rfl, rfl, rfl, rfl, rfl, rfl, rfl⟩

/-- The state in which a committed PUT is answered. -/
def State.committed (u : State) (p : PutRec) : State :=
  ((((((u.addPair Reg.swdCntChunksLo p.recipe.length).addPair Reg.swdCntHitsLo p.hits).tally 8 1).tally 10 p.recipe.length).tally 11
    p.hits).onData fun d => { d with puts := d.puts.filter fun x => x.eid != p.eid }).unbindWindow p.eid

/-- A count that another count's pair does not overlap. -/
theorem State.pair_addPair_other (s : State) {lo o : Nat} (n : Nat) (h1 : o ≠ lo) (h2 : o ≠ lo + 4) (h3 : o + 4 ≠ lo)
    (h4 : o + 4 ≠ lo + 4) : (s.addPair lo n).pair o = s.pair o := by
  unfold State.addPair State.setPair State.pair
  rw [State.reg_setReg_other _ _ h2, State.reg_setReg_other _ _ h1, State.reg_setReg_other _ _ h4, State.reg_setReg_other _ _ h3]

theorem State.pair_addPair_same (s : State) (lo n : Nat) : (s.addPair lo n).pair lo = (s.pair lo + n) % 2 ^ 64 :=
  State.pair_setPair_same _ _ _ (Nat.mod_lt _ (by decide))

theorem State.committed_hits (u : State) (p : PutRec) :
    (u.committed p).pair Reg.swdCntHitsLo = (u.pair Reg.swdCntHitsLo + p.hits) % 2 ^ 64 := by
  have h := State.pair_addPair_same (u.addPair Reg.swdCntChunksLo p.recipe.length) Reg.swdCntHitsLo p.hits
  rw [State.pair_addPair_other u _ (by decide) (by decide) (by decide) (by decide)] at h
  exact h

/-- A PUT that commits is answered, shipped, and lets the PUTs and deletions that waited go on. -/
theorem State.commitPut_ok {s u : State} {p : PutRec} (h : s.applyPut p = .ok u) (cmp : List Fetch) : ∃ n, s.commitPut p cmp
    = State.applyDeletes p.dom n ((((u.committed p).putAnswer p St.ok 0
        (leBytes 4 p.recipe.length ++ leBytes 4 p.hits ++ leBytes 8 p.stored)).shipPut p).resumeWaiters p cmp) := by
  unfold State.commitPut
  rw [h]
  exact ⟨_, rfl⟩

/-- Settles O18: the PUT's turn has come, so its record is applied and answered. -/
theorem putCommits : Obligations.PutCommits := by
  unfold Obligations.PutCommits
  intro s u eid cmp p hp heid hj hst hrec hturn hmay happly
  have hcomplete : ((s.journal p.dom).recs.all fun r => r.jseq != p.jseq || r.st == .complete) = true := by
    rw [List.all_eq_true]
    intro r hr
    by_cases hrj : r.jseq = p.jseq
    · simp [hrec r hr hrj]
    · simp [hrj]
  have hgo : exec (.putCommit eid cmp) s = .next (s.commitPut p cmp) := by
    show execPutCommit eid cmp s = _
    simp [execPutCommit, hp, hcomplete, hj, hst, hturn, hmay]
  obtain ⟨o, ho, hfields⟩ := State.applyPut_object happly
  obtain ⟨n, hcommit⟩ := State.commitPut_ok happly cmp
  refine ⟨u.committed p, n, hgo.trans (congrArg Host.Outcome.next hcommit), ?_, rfl, ⟨o, ho, hfields⟩, State.committed_hits u p⟩
  exact State.put_filter (puts := u.data.puts) (by rw [heid.symm]; rfl)

/-! ### GET -/

/-- A GET whose object is found, in range and readable delivers it. -/
theorem State.getCmd_host {b : State} {e : Entry} {ranged : Bool} {list : Fetch} {recs again : List Fetch} {k lo n : Nat} {o : ObjRec}
    (hkind : e.p 18 1 = 0) (hrange : ranged = true → e.p 28 4 ≠ 0) (ht : KMap.get? b.data.tenants (e.p 16 2) ≠ none)
    (hf : e.found = some k) (ho : b.data.objects.find? (fun x => x.extent == k) = some o)
    (hlo : lo = if ranged then e.p 20 8 else 0) (hn : n = if ranged then e.p 28 4 else o.length) (hfit : lo + n ≤ o.length)
    (hmay : b.mayWrite o.dom = true) (h1 : b.anyBasic 1 = true) (h3 : b.anyBasic 3 = true) (h4 : b.anyBasic 4 = true)
    (h6 : b.basicFree (instKey 6 o.dom) = true) (hroom : n ≤ e.h / 2 ^ 32) (hr : e.ring ≠ 1023) :
    b.getCmd e ranged list recs again true = b.deliverGet e o (.host (e.p 32 8) (e.h / 2 ^ 32)) lo n
      (((((partsFrom 0 o.entries).filter fun p => decide (p.off < lo + n) && decide (lo < p.off + p.len)).head?).map (·.off)).getD lo)
      (b.openParts e.eid (e.p 16 2) ((partsFrom 0 o.entries).filter fun p => decide (p.off < lo + n) && decide (lo < p.off + p.len))
        recs again []) := by
  have hbad : ¬ (decide (2 < e.p 18 1) || (ranged && decide (e.p 28 4 = 0))) = true := by
    simp only [hkind, Bool.or_eq_true, Bool.and_eq_true, decide_eq_true_eq]
    rintro (h | ⟨h, h'⟩)
    · omega
    · exact hrange h h'
  have hten : ¬ (KMap.get? b.data.tenants (e.p 16 2)).isNone = true := by simpa using ht
  have hfind : (e.found.bind fun k => b.data.objects.find? fun o => o.extent == k) = some o := by rw [hf]; exact ho
  have hdest : b.getDest e list = .ok (some (.host (e.p 32 8) (e.h / 2 ^ 32))) := by simp only [State.getDest, hkind]
  have hout : e.outside (e.p 32 8) n = false := by simp [Entry.outside, hr]
  have hlen : ¬ (Dest.host (e.p 32 8) (e.h / 2 ^ 32)).len < n := Nat.not_lt.2 hroom
  unfold State.getCmd
  dsimp only
  rw [if_neg hbad, if_neg hten, hfind]
  dsimp only
  rw [← hlo, ← hn, if_neg (Nat.not_lt.2 hfit), if_neg (by simp [hmay]), if_neg (by simp [h1, h3, h4, h6]), hdest]
  dsimp only
  rw [if_neg hlen, if_neg (by simp [hout]), if_neg (by decide)]

/-- Settles O19: the object is read in order, and the bytes asked for go to the host. -/
theorem getDelivers : Obligations.GetDelivers := by
  unfold Obligations.GetDelivers
  intro s eid e b ranged c list recs again k o lo n ps out hb hc hkind ht hf ho hfit hmay h1 h3 h4 h6 hroom hr hps hopen
  subst hb hps
  have hpart : exec c s = .next ((s.markBegun eid).getCmd e ranged list recs again true)
      ∧ (ranged = true → e.p 28 4 ≠ 0) ∧ lo = (if ranged then e.p 20 8 else 0) ∧ n = if ranged then e.p 28 4 else o.length := by
    rcases hc with ⟨rfl, h, rfl, hlo, hn⟩ | ⟨rfl, h, rfl, hlo, hn, hn0⟩
    · exact ⟨congrArg Host.Outcome.next (State.cmd_starts h _), nofun, hlo, hn⟩
    · exact ⟨congrArg Host.Outcome.next (State.cmd_starts h _), fun _ => hn ▸ hn0, hlo, hn⟩
  obtain ⟨hgo, hrange, hlo, hn⟩ := hpart
  rw [hgo, State.getCmd_host (b := s.markBegun eid) hkind hrange ht hf ho hlo hn hfit hmay h1 h3 h4 h6 hroom hr, hopen]
  refine ⟨_, _, rfl, rfl, ?_, ?_, ?_⟩
  all_goals rw [State.deliverTo, if_neg (by simpa using hr)]
  all_goals rfl

end Sys2Proof.Machine
end


section
/-! Replacement, the rebuild pass, the lost list and on-line reshape of groups (R228 to R240). -/
namespace Sys2Proof.Machine

open Sys2Proof

/-- A group command that names a group it may act on. -/
theorem State.onGroup_ok {b : State} {e : Entry} {gi : Nat} {g : Group} (h : b.groupOf e.h = some (gi, g))
    (hg : b.groupGate g.dom (some (b.rootOf gi)) = none) (f : State → Nat → Group → State) : b.onGroup e f = f b gi g := by
  unfold State.onGroup
  rw [h]
  dsimp only
  rw [hg]

/-- A state in which a leaf is out of the group. -/
def LeafSt.out (st : LeafSt) : Prop := st = .failed ∨ st = .missing

section
variable {s : State} {eid : Nat} {e : Entry}

/-! ### Replacement -/

section
variable {leaf : Nat} {l : Leaf} {g : Group}

/-- A failed leaf of an owned domain looks for a spare. -/
theorem autoSpareReplace_failed (hl : s.leaf? leaf = some l) (hst : l.st.out) (hp : s.par Par.autoSpare = 1)
    (ho : s.owns (s.rootDom (s.rootOf leaf)) = true) (hg : s.group? l.parent = some g) :
    execAutoSpareReplace leaf s = .next (match s.spareFor l.parent g with
      | none => s.event (Reg.tskTree + 0x1000)
      | some n => (s.takeSpare l.parent leaf n).1.treeChange (s.rootOf leaf) (s.takeSpare l.parent leaf n).2) := by
  have hst' : ((l.st != .failed && l.st != .missing) || s.par Par.autoSpare != 1 || !s.owns (s.rootDom (s.rootOf leaf))) = false := by
    rcases hst with h | h <;> simp [h, hp, ho]
  simp only [execAutoSpareReplace, hl, hst', hg]
  rfl
end

section
variable {gi : Nat} {g : Group}

theorem memberReplace_spare (h : s.Starts eid 0x1005 e) (hgo : (s.markBegun eid).groupOf e.h = some (gi, g))
    (hgate : (s.markBegun eid).groupGate g.dom (some ((s.markBegun eid).rootOf gi)) = none) {i n : Nat} {l : Leaf} {u : State}
    {ns : List Nat} (hi : g.members[e.p 0 1]? = some i) (hl : s.leaf? i = some l) (hname : e.p 4 4 = noNode) (hst : l.st.out)
    (hsp : (s.markBegun eid).spareFor gi g = some n) (htake : (s.markBegun eid).takeSpare gi i n = (u, ns)) :
    execMemberReplace eid s
      = .next ((u.note g.dom .tree (ns.map u.nodeItem)).writeLabels ((s.markBegun eid).rootOf gi) eid .reply []) := by
  have hl' : (s.markBegun eid).leaf? i = some l := hl
  unfold execMemberReplace
  rw [State.cmd_starts h, State.onGroup_ok hgo hgate]
  rcases hst with hst | hst
  · simp [hi, hl', hname, hst, hsp, htake]
  · simp [hi, hl', hname, hst, hsp, htake]

/-- MEMBER_REBUILD that runs or resumes a pass. -/
theorem memberRebuild_run (h : s.Starts eid 0x1006 e) (hgo : (s.markBegun eid).groupOf e.h = some (gi, g))
    (hgate : (s.markBegun eid).groupGate g.dom (some ((s.markBegun eid).rootOf gi)) = none) (h0 : e.p 0 1 = 0) {x : Nat} {xs : List Nat}
    (hx : ((s.markBegun eid).rebuilding g).map (fun x => x.2.rbNext) = x :: xs) :
    execMemberRebuild eid s = .next ((((s.markBegun eid).rebuilding g).foldl (fun s x => s.setNode x.1 (.leaf { x.2 with hold := false }))
      (s.markBegun eid)).okReply e (leBytes 8 (xs.foldl min x) ++ leBytes 8 g.stripes)) := by
  unfold execMemberRebuild
  rw [State.cmd_starts h, State.onGroup_ok hgo hgate]
  simp only [h0, hx]
  rfl

/-- The position LOST_LIST_READ goes on at: that of the next used entry, if there is one. -/
def lostNext (used : List (Nat × LostEntry)) (max : Nat) : Nat :=
  match used[max]? with
  | some x => x.1
  | none => 0xFFFFFFFF

theorem lostNext_end {used : List (Nat × LostEntry)} {max : Nat} (h : (used.take max).length = used.length) :
    lostNext used max = 0xFFFFFFFF := by
  rw [List.length_take] at h
  unfold lostNext
  rw [List.getElem?_eq_none (by omega)]

theorem lostListRead_host (h : s.Starts eid 0x1009 e) (hgo : (s.markBegun eid).groupOf e.h = some (gi, g))
    (hgate : (s.markBegun eid).groupGate g.dom (some ((s.markBegun eid).rootOf gi)) = none) (hout : g.outermost = true)
    (ha : e.p 8 8 % 64 = 0) (h1 : 1 ≤ e.p 4 4) (h2 : e.p 4 4 ≤ 65536) (hr : e.ring ≠ 1023) :
    execLostListRead eid true s = .next (((s.markBegun eid).emit (.hostWrite e.fn (e.p 8 8)
        (((usedLost (s.tree gi).lostList (e.p 0 4)).take (e.p 4 4)).flatMap fun x => x.2.bytes))).okReply e
      (leBytes 4 ((usedLost (s.tree gi).lostList (e.p 0 4)).take (e.p 4 4)).length
        ++ leBytes 4 (lostNext (usedLost (s.tree gi).lostList (e.p 0 4)) (e.p 4 4))
        ++ [byteOf (b2n ((s.markBegun eid).lostFull gi))])) := by
  have hbad : ¬ (e.p 8 8 % 64 != 0 || e.p 4 4 = 0 || decide (65536 < e.p 4 4)) = true := by
    simp [ha]
    omega
  have hout' : ∀ a n, e.outside a n = false := fun a n => by simp [Entry.outside, hr]
  have hring : ¬ (e.ring == 1023) = true := by simp [hr]
  unfold execLostListRead
  rw [State.cmd_starts h, State.onGroup_ok hgo hgate]
  dsimp only
  rw [if_neg (by simp [hout]), if_neg hbad, if_neg (by simp [hout']), if_neg (by decide), State.deliverTo, if_neg hring]
  rfl
end

/-! ### The pass -/

theorem rebuildStep_runs {gi : Nat} {g : Group} {x : Nat} {xs : List Nat} (hg : s.group? gi = some g)
    (hx : ((s.rebuilding g).filter fun x => !x.2.hold).map (fun x => x.2.rbNext) = x :: xs) (hp : s.passMay gi g = true)
    (ho : s.owns g.dom = true) (hb : s.basicFree (instKey 6 g.dom) = true)
    (hlock : s.locked (s.rootOf gi) (s.lift gi (xs.foldl min x * (g.geoOfStripe (xs.foldl min x)).d)) = false)
    (units : List (List Fetch)) (up : Option (List Bytes)) (above : List Fetch) :
    execRebuildStep gi units up above s = .next ((s.onData fun d => { d with passes := (gi :: d.passes).eraseDups }).rebuildAt gi g
      (xs.foldl min x) units up above) := by
  unfold execRebuildStep
  rw [hg]
  dsimp only
  rw [hx]
  dsimp only
  rw [if_neg (by simp [hp, ho, hb, hlock])]

/-! ### Reshape -/

theorem reshapeStart_ok (h : s.Starts eid 0x1007 e) {gi : Nat} {g : Group} (hgo : (s.markBegun eid).groupOf e.h = some (gi, g))
    (hgate : (s.markBegun eid).groupGate g.dom (some ((s.markBegun eid).rootOf gi)) = none) {lab : List Bool} {u : State} {n : Group}
    (hlen : 64 + 32 * e.p 2 1 ≤ e.area.length) (hok : reshapeOk g (e.p 0 1) (e.p 1 1) = true)
    (hsum : e.p 0 1 + e.p 1 1 = g.m + g.k + (e.members (e.p 2 1)).length)
    (hj : (s.markBegun eid).judgeAdded gi g (e.members (e.p 2 1)) lab = none) (hst : g.st = .optimal)
    (hbusy : (s.markBegun eid).treeBusy ((s.markBegun eid).rootOf gi) = false)
    (hfree : ceilDiv (e.p 0 1 + e.p 1 1) 12 - g.lists.length + ((e.members (e.p 2 1)).filter fun m => m.kind == 0).length
      ≤ (s.markBegun eid).nodesFree)
    (hfits : imageFits ((s.markBegun eid).labelBlocks ((s.markBegun eid).rootOf gi) / 256)
      (((s.markBegun eid).treeNodes ((s.markBegun eid).rootOf gi)).length
        + (ceilDiv (e.p 0 1 + e.p 1 1) 12 - g.lists.length + ((e.members (e.p 2 1)).filter fun m => m.kind == 0).length)
        + (s.markBegun eid).memberNodes (e.members (e.p 2 1))) = true)
    (hu : u = (s.markBegun eid).beginReshape gi g (e.p 0 1) (e.p 1 1) (e.members (e.p 2 1))) (hn : u.group? gi = some n) :
    ∃ items, execReshapeStart eid lab s = .next ((u.note g.dom .tree items).writeLabels ((s.markBegun eid).rootOf gi) eid .reply
      (leBytes 2 n.reshape.gen ++ zeros 6 ++ leBytes 8 n.reshape.stop)) := by
  unfold execReshapeStart
  rw [State.cmd_starts h, State.onGroup_ok hgo hgate]
  dsimp only
  rw [if_neg (by omega), if_neg (by simp [hok, hsum]), hj]
  dsimp only
  rw [if_neg (by simp [hst]), if_neg (by simp [hbusy]), if_neg (by omega), if_neg (by simp [hfits]), ← hu, hn]
  exact ⟨_, rfl⟩

theorem reshapeQuery_shown (h : s.Starts eid 0x1008 e) {gi : Nat} {g : Group} (hgo : (s.markBegun eid).groupOf e.h = some (gi, g))
    (hgate : (s.markBegun eid).groupGate g.dom (some ((s.markBegun eid).rootOf gi)) = none) :
    execReshapeQuery eid s = .next ((s.markBegun eid).okReply e
      ([byteOf g.reshape.st, byteOf g.reshape.m, byteOf g.reshape.k, 0] ++ leBytes 6 g.reshape.next ++ leBytes 6 g.reshape.stop)) := by
  unfold execReshapeQuery
  rw [State.cmd_starts h, State.onGroup_ok hgo hgate]

section
variable {gi : Nat} {g : Group}

/-- The data of a group's next new stripe, from the blocks read in the old layout. -/
def Group.stepData (g : Group) (old : Bytes) : List Bytes :=
  (List.range g.newGeo.d).map fun i =>
    if g.reshape.next * g.newGeo.d + i < g.dataBlocks then padTo (slice old (4096 * i) 4096) 4096 else zeros 4096

/-- The blocks a step of a group writes. -/
def State.stepBlks (s : State) (gi : Nat) (g : Group) (old : Bytes) : List Blk :=
  (g.stepData old).zipIdx.map fun x => ⟨x.1, true, decide (g.dataBlocks ≤ g.reshape.next * g.newGeo.d + x.2),
    s.oldLost (s.rootOf gi) gi g (g.reshape.next * g.newGeo.d + x.2)⟩

theorem State.stepBlks_data {i : Nat} (s : State) (gi : Nat) (g : Group) (old : Bytes) (hi : i < g.newGeo.d)
    (hd : g.reshape.next * g.newGeo.d + i < g.dataBlocks) :
    ((s.stepBlks gi g old)[i]?.map Blk.data) = some (padTo (slice old (4096 * i) 4096) 4096) := by
  simp [State.stepBlks, Group.stepData, hi, hd]

/-- A step of a mirror needs no checkpoint. -/
theorem reshapeStep_mirror (hg : s.group? gi = some g) (hm : s.mayReshape g = true) (hst : g.reshape.st = 1)
    (hb : s.stepBlocked gi g = false) (ho : g.st = .optimal) (hp : g.parity = false) (old : Bytes) :
    execReshapeStep gi (.ok old) s = .next ((s.moveLost (s.rootOf gi) gi g ((List.range g.newGeo.d).filter fun i =>
      s.oldLost (s.rootOf gi) gi g (g.reshape.next * g.newGeo.d + i))).writeStep gi g (s.stepBlks gi g old)) := by
  unfold execReshapeStep
  rw [hg]
  dsimp only
  rw [if_neg (by simp [hst, hm, hb]), if_neg (by simp [ho]), if_neg (by simp [hp])]
  rfl

theorem reshapeZeroStep_runs (hg : s.group? gi = some g) (hm : s.mayReshape g = true) (hst : g.reshape.st = 2)
    (hn : g.reshape.next < g.stripes) (ho : g.st = .optimal) :
    execReshapeZeroStep gi s = .next (s.writeStep gi g (List.replicate g.newGeo.d ⟨zeros 4096, true, true, false⟩)) := by
  unfold execReshapeZeroStep
  rw [hg]
  dsimp only
  rw [if_neg (by simp [hst, hm, hn]), if_neg (by simp [ho])]

theorem reshapeComplete_done (hg : s.group? gi = some g) (hm : s.mayReshape g = true) (hst : g.reshape.st = 2)
    (hn : g.stripes ≤ g.reshape.next) : execReshapeComplete gi s = .next ((((s.setNode gi (.group { g with
        m := g.reshape.m, k := g.reshape.k, gen := g.reshape.gen
        stripes := s.stripesOf (s.labelBlocks (s.rootOf gi)) g.unit g.members
        dataBlocks := s.stripesOf (s.labelBlocks (s.rootOf gi)) g.unit g.members * g.newGeo.d
        reshape := Reshape.none })).restate gi).treeChange (s.rootOf gi) (s.upFrom gi)).event (Reg.tskBg + 0x1000)) := by
  unfold execReshapeComplete
  rw [hg]
  dsimp only
  rw [if_neg (by simp [hst, hm, hn])]

theorem reshapeResume_held (hg : s.group? gi = some g) (hm : s.mayReshape g = true) (hst : g.reshape.st = 3) (ho : g.st = .optimal) :
    execReshapeResume gi s = .next (s.setNode gi (.group { g with reshape := { g.reshape with st := g.reshape.heldIn, heldIn := 0 } })) := by
  simp [execReshapeResume, hg, hm, hst, ho, State.setReshape]
end
end

/-- A group node that has just been set. -/
theorem State.group?_setNode (s : State) (i : Nat) (g : Group) : (s.setNode i (.group g)).group? i = some g := by
  unfold State.group? State.setNode groupIn
  simp [KMap.get?_put_same]

/-- Settles O28: a spare, a pass and a reshape each take the step their state allows. -/
theorem rebuildAndReshape : Obligations.RebuildAndReshape := by
  unfold Obligations.RebuildAndReshape
  refine ⟨fun s eid e b hb => ⟨fun leaf l g hl hst hp ho hg => ⟨fun n u ns hsp htake => ?_, fun hsp => ?_⟩,
      fun gi g hgo hgate => ⟨fun i l n u ns h hi hl hname hst hsp htake => ?_, fun x xs w h h0 hx hw => ?_,
        fun out h hout ha h1 h2 hr ho => ?_⟩,
      fun gi g x xs units up above hg hx hp ho hbf hlock => ⟨_, rebuildStep_runs hg hx hp ho hbf hlock units up above, rfl⟩⟩,
    fun s eid e b hb => ⟨fun gi g hgo hgate => ⟨fun lab ms u n fresh h hms hlen hok hsum hj hst hbusy hfresh hfree hfits hu hn => ?_,
        fun h => ?_⟩,
      fun gi g hg hm => ⟨fun old hst hbl ho hp => ⟨_, _, reshapeStep_mirror hg hm hst hbl ho hp old, ?_,
          fun i hi hd => State.stepBlks_data s gi g old hi hd⟩,
        fun hst hn ho => reshapeZeroStep_runs hg hm hst hn ho,
        fun hst hn => ⟨_, _, reshapeComplete_done hg hm hst hn, rfl, rfl⟩,
        fun hst ho => ⟨_, reshapeResume_held hg hm hst ho, State.group?_setNode s gi _⟩⟩⟩⟩
  · exact (autoSpareReplace_failed hl hst hp ho hg).trans (by rw [hsp]; dsimp only; rw [htake])
  · exact (autoSpareReplace_failed hl hst hp ho hg).trans (by rw [hsp])
  · subst hb; exact memberReplace_spare h hgo hgate hi hl hname hst hsp htake
  · subst hb hw; exact memberRebuild_run h hgo hgate h0 hx
  · subst hb ho
    exact ⟨_, lostListRead_host h hgo hgate hout ha h1 h2 hr, fun hl => lostNext_end hl⟩
  · subst hb hms hfresh
    exact reshapeStart_ok h hgo hgate hlen hok hsum hj hst hbusy hfree hfits hu hn
  · subst hb; exact reshapeQuery_shown h hgo hgate
  · simp [State.stepBlks, Group.stepData]

end Sys2Proof.Machine
end


section
/-! The flash ports: drive commands, removal and insertion, namespace numbers (R242 to R252). -/
namespace Sys2Proof.Machine

open Sys2Proof

/-! ### What errors and port events leave unchanged -/

theorem State.setLevel_out (s : State) (n : Nat) (b : Bool) : ∃ more, (s.setLevel n b).out = s.out ++ more := by
  unfold State.setLevel
  dsimp only
  split
  · exact State.edge_out _ _
  · exact ⟨[], by simp [State.setSrc]⟩

theorem State.latch_out (s : State) (r : ErrReg) (inst cause : Nat) : ∃ more, (s.latch r inst cause).out = s.out ++ more := by
  unfold State.latch
  by_cases h : s.rbit r.off 31 = true
  · rw [if_pos h]
    exact ⟨[], by rw [State.bump, State.setRf_out, List.append_nil]⟩
  · rw [if_neg h]
    obtain ⟨more, h⟩ := State.setLevel_out ((((s.setRf r.off r.ih r.il inst).setRf r.off r.ch r.cl cause).setRf r.off r.mh r.ml
      0).setRbit r.off 31 true) (eventSrc r.off) true
    rw [State.setRbit, State.setRf_out, State.setRf_out, State.setRf_out, State.setRf_out] at h
    exact ⟨more, h⟩

@[simp] theorem State.latch_fpt (s : State) (r : ErrReg) (inst cause : Nat) : (s.latch r inst cause).fpt = s.fpt := by
  obtain ⟨g, h, o, e⟩ := State.latch_frame s r inst cause
  rw [e]

@[simp] theorem State.fptErr_fpt (s : State) (port cause arg : Nat) : (s.fptErr port cause arg).fpt = s.fpt :=
  State.latch_fpt s errFpt port cause

theorem errFpt_apart : errFpt.Apart := ⟨by decide, by decide, by decide, by decide⟩

/-- Setting a bit of FPT_EVT reaches that register, the interrupts and what is sent. -/
theorem State.portEvt_frame (s : State) (p bit : Nat) : ∃ g h o, s.portEvt p bit = { s with regs := g, hrw := h, out := o } := by
  unfold State.portEvt
  split
  · exact ⟨_, _, _, rfl⟩
  · obtain ⟨h, o, e⟩ := State.raise_frame (s.setRbit (Reg.fptEvt p) bit true) (Reg.fptEvt p)
    exact ⟨_, h, o, e⟩

@[simp] theorem State.portEvt_fpt (s : State) (p bit : Nat) : (s.portEvt p bit).fpt = s.fpt := by
  obtain ⟨g, h, o, e⟩ := State.portEvt_frame s p bit
  rw [e]

@[simp] theorem State.portEvt_data (s : State) (p bit : Nat) : (s.portEvt p bit).data = s.data := by
  obtain ⟨g, h, o, e⟩ := State.portEvt_frame s p bit
  rw [e]

@[simp] theorem State.portEvt_par (s : State) (p bit : Nat) : (s.portEvt p bit).par = s.par := by
  obtain ⟨g, h, o, e⟩ := State.portEvt_frame s p bit
  rw [e]
  rfl

theorem State.rbit_congr {s t : State} (h : t.regs = s.regs) (off i : Nat) : t.rbit off i = s.rbit off i := by
  unfold State.rbit
  rw [State.rf_congr h]

theorem State.portEvt_set (s : State) (p : Nat) {bit : Nat} (h : bit < 32) : (s.portEvt p bit).rbit (Reg.fptEvt p) bit = true := by
  unfold State.portEvt
  split
  next hb => exact hb
  · rw [State.rbit_congr (State.raise_regs _ _)]
    exact State.rbit_setRbit_same _ _ _ _ h

theorem State.portEvt_keeps (s : State) (p : Nat) {bit j : Nat} (h : bit < 32) (hj : j ≠ bit) :
    (s.portEvt p bit).rbit (Reg.fptEvt p) j = s.rbit (Reg.fptEvt p) j := by
  unfold State.portEvt
  split
  · rfl
  · rw [State.rbit_congr (State.raise_regs _ _)]
    exact State.rbit_setRbit_other _ _ _ _ _ h hj

theorem State.portEvt_reg (s : State) (p bit : Nat) {o : Nat} (h : o ≠ Reg.fptEvt p) : (s.portEvt p bit).reg o = s.reg o := by
  unfold State.portEvt
  split
  · rfl
  · rw [State.reg_congr (State.raise_regs _ _)]
    exact State.reg_setRbit_other _ _ _ h

/-! ### Drive commands -/

section
variable {s : State} {cid : Nat} {c : NvCmd}

theorem nvmeCompletion_ok (h : s.cmdOf cid = some c) :
    execNvmeCompletion cid 0 s = .next ((s.setPort c.port { s.port c.port with resetting := false }).writeEnd c true) := by
  simp [execNvmeCompletion, h]

theorem nvmeCommandTimeout_aborts (h : s.cmdOf cid = some c) (h0 : c.stage = 0) (ht : c.at_ + msTicks (s.par Par.cmdTimeoutMs) ≤ s.clk) :
    execNvmeCommandTimeout cid s = .next ((((s.onCmd cid fun c => { c with stage := 1, stageAt := s.clk }).emit
      (.nvmeAdmin "Abort" c.port cid)).bump (Reg.fptCnt c.port) 15 0 1).fptErr c.port 1 c.nsn) := by
  simp [execNvmeCommandTimeout, h, h0, ht]

theorem abortTimeout_resets (h : s.cmdOf cid = some c) (h1 : c.stage = 1) (ht : c.stageAt + msTicks 1000 ≤ s.clk)
    (hc : s.fpt.cmds = [c]) (hr : c.retried = false) (hh : c.held = false) :
    execAbortTimeout cid s = .next (((((s.setPort c.port { s.port c.port with resetting := true }).emit
      (.nvmeAdmin "controller reset" c.port 0)).onCmd c.cid fun c => { c with retried := true, stage := 0, at_ := s.clk }).bump
        (Reg.fptCnt c.port) 31 16 1).emit (.nvme c.cid c.nsn c.lba c.n c.data c.tags)) := by
  have hf : ([c].filter fun x => x.port == c.port && !x.held) = [c] := by simp [hh]
  have hcmds : ((s.setPort c.port { s.port c.port with resetting := true }).emit
      (.nvmeAdmin "controller reset" c.port 0)).fpt.cmds = [c] := hc
  unfold execAbortTimeout
  rw [h]
  dsimp only
  rw [if_pos (by simp [h1, ht]), hcmds, hf, List.foldl_cons, List.foldl_nil, State.writeFailed, hr]
  rfl

/-- The retry of the one command that is outstanding. -/
theorem State.onCmd_one {t : State} (h : t.fpt.cmds = [c]) (f : NvCmd → NvCmd) : (t.onCmd c.cid f).fpt.cmds = [f c] := by
  simp [State.onCmd, State.onFpt, h]

/-- No command on a port means that none is ended with it. -/
theorem filter_port_nil {cmds : List NvCmd} {p : Nat} (h : ∀ c ∈ cmds, c.port ≠ p) : (cmds.filter fun c => c.port == p) = [] := by
  simpa [List.filter_eq_nil_iff] using h

theorem controllerReadyTimeout_lost {p : Fin 16} (hr : (s.port p).resetting = true) (hc : ∀ c ∈ s.fpt.cmds, c.port ≠ (p : Nat)) :
    execControllerReadyTimeout p s = .next (((s.setPort p { s.port p with resetting := false }).setPresent (s.nsBehind p)
      false).markMissing (s.nsBehind p)) := by
  have hcmds : ((s.setPort p { s.port p with resetting := false }).setPresent (s.nsBehind p) false).fpt.cmds = s.fpt.cmds := rfl
  unfold execControllerReadyTimeout
  dsimp only
  rw [hr, if_neg (by decide), hcmds, filter_port_nil hc, List.foldl_nil]
end

/-! ### Removal -/

section
variable {s : State} {p : Nat} {gone : Bool}

theorem State.contain_idle (hc : ∀ c ∈ s.fpt.cmds, c.port ≠ p) : s.contain p gone =
    (s.setPort p { Port.down with dpc := true, present := (s.port p).present && !gone, removed := true }).setPresent
      (s.nsBehind p) false := by
  unfold State.contain
  dsimp only
  generalize hw : State.setPresent _ _ false = w
  have hcmds : w.fpt.cmds = s.fpt.cmds := by rw [← hw]; rfl
  rw [hcmds, filter_port_nil hc, List.foldl_nil, ← hw]
  rfl

@[simp] theorem State.port_setPort (s : State) (p : Nat) (x : Port) : (s.setPort p x).port p = x := KMap.getD_put_same _ _ _ _

theorem State.port_contain (hc : ∀ c ∈ s.fpt.cmds, c.port ≠ p) : (s.contain p gone).port p =
    { Port.down with dpc := true, present := (s.port p).present && !gone, removed := true } := by
  rw [State.contain_idle hc]
  exact State.port_setPort _ _ _

/-- What was behind a contained port is absent. -/
theorem State.contain_absent (hc : ∀ c ∈ s.fpt.cmds, c.port ≠ p) {x : Nat × Ns} (hx : x ∈ (s.contain p gone).fpt.ns)
    (hp : x.2.port = p) : x.2.present = false := by
  rw [State.contain_idle hc] at hx
  obtain ⟨i, n⟩ := x
  simp only [State.setPresent, State.onFpt, State.setPort, KMap.mapV, List.mem_map, Prod.mk.injEq] at hx
  obtain ⟨y, hy, rfl, rfl⟩ := hx
  dsimp only at hp ⊢
  by_cases hb : (s.nsBehind p).contains y.1 = true
  · rw [if_pos hb]
  · refine absurd ?_ hb
    rw [if_neg hb] at hp
    have hyp : y.2.port = p := hp
    rw [List.contains_iff_mem]
    exact List.mem_map.2 ⟨y, List.mem_filter.2 ⟨hy, by simp [hyp]⟩, rfl⟩

/-- The events of a containment. -/
def State.containEvents (s : State) (p : Nat) (b : Bool) : State := if b then (s.portEvt p 4).portEvt p 5 else s.portEvt p 4

@[simp] theorem State.containEvents_fpt (s : State) (p : Nat) (b : Bool) : (s.containEvents p b).fpt = s.fpt := by
  unfold State.containEvents
  split <;> simp

theorem State.containEvents_set (s : State) (p : Nat) (b : Bool) : (s.containEvents p b).rbit (Reg.fptEvt p) 4 = true := by
  have h4 := State.portEvt_set s p (bit := 4) (by decide)
  unfold State.containEvents
  split
  · rw [State.portEvt_keeps _ _ (by decide) (by decide), h4]
  · exact h4

end

theorem dpcTrigger_contains {s : State} {p : Fin 16} (gone : Bool) (hd : (s.port p).dpc = false) :
    execDpcTrigger p gone s = .next ((s.contain p gone).containEvents p (gone && (s.port p).present)) := by
  unfold execDpcTrigger State.containEvents
  rw [hd]
  dsimp only
  rw [if_neg (by decide)]

theorem missingMark_due {s : State} {p : Fin 16} (h : (s.port p).removed = true) :
    execMissingMark p s = .next ((s.setPort p { s.port p with removed := false }).markMissing (s.nsBehind p)) := by
  simp [execMissingMark, h]

theorem portError_noted {s : State} {p : Fin 16} {c : Nat} (h : c = 0 ∨ c = 1 ∨ c = 3) :
    execPortError p c s = .next (s.portEvt p c) := by
  unfold execPortError
  rw [if_neg (by omega)]
  dsimp only
  rw [if_neg (by simp; omega)]

/-! ### Insertion and namespace numbers -/

/-- Without nodes there are no trees, so no leaf is back. -/
theorem State.markBack_empty {s : State} (h : s.data.nodes = []) (nss : List Nat) : s.markBack nss = s := by
  simp [State.markBack, State.leavesWhere, State.roots, h]

theorem State.foundNs_bound {s : State} {port n : Nat} {x : Inserted} (h : s.nsNumber (padTo x.nguid 16) = some n) :
    s.foundNs port x = s.onFpt fun f =>
      { f with ns := KMap.put f.ns n ⟨padTo x.nguid 16, true, x.qualified, x.mset, port, x.lbas, x.ana != 3 && x.ana != 4⟩ } := by
  unfold State.foundNs
  dsimp only
  rw [if_neg (by simp [h]), h]

/-- The commands that set a controller up. -/
def setUp (p : Nat) : List Tx :=
  [.nvmeAdmin "CC.EN" p 1, .nvmeAdmin "Set Features Host Identifier" p 0x81, .nvmeAdmin "Set Features Number of Queues" p 16]

theorem insertionSettled_one {s : State} {p : Fin 16} {n : Nat} (x : Inserted) (speed width : Nat) (flit : Bool)
    (hr : (s.port p).removed = false) (hd : (s.port p).dpc = false) (hp : (s.port p).present = true) (hlt : (p : Nat) < s.portCount)
    (hn : s.nsNumber (padTo x.nguid 16) = some n) (hnodes : s.data.nodes = []) (hl : x.labels = []) :
    execInsertionSettled p [x] speed width flit s = .next
      (((s.setPort p ⟨speed % 4, width % 32, flit, false, true, false, false⟩).emits (setUp p)).onFpt fun f =>
        { f with ns := KMap.put f.ns n ⟨padTo x.nguid 16, true, x.qualified, x.mset, p, x.lbas, x.ana != 3 && x.ana != 4⟩ }) := by
  unfold execInsertionSettled
  dsimp only
  rw [if_neg (by simp [hr, hd]; exact hlt), if_pos hp]
  rw [List.foldl_cons, List.foldl_nil, State.foundNs_bound (n := n), State.markBack_empty]
  · simp [hl, setUp]
  · exact hnodes
  · exact hn

theorem anaChange_lost {s : State} {n : Nat} {x : Ns} {st : Nat} (h : s.nsOf n = some x) (hst : st = 3 ∨ st = 4) :
    execAnaChange n st s = .next ((s.onFpt fun f => { f with ns := KMap.put f.ns n { x with anaOk := false } }).markMissing [n]) := by
  rcases hst with rfl | rfl <;> simp [execAnaChange, h]

theorem nsUnbind_free {s : State} {n : Nat} {x : Ns} (h : s.nsOf n = some x) (hp : x.present = false) (hn : s.data.nodes = []) :
    execNsUnbind n s = .next ((s.onFpt fun f => { f with ns := KMap.del f.ns n, full := false }).emit
      (.nor "namespace table" (s.onFpt fun f => { f with ns := KMap.del f.ns n, full := false }).fpt.table)) := by
  simp [execNsUnbind, h, hp, hn]

/-- Settles O29: each event of a port takes the step that its command or namespace is due. -/
theorem flashPorts : Obligations.FlashPorts := by
  unfold Obligations.FlashPorts
  refine ⟨fun s cid c => ⟨fun h => ⟨nvmeCompletion_ok h, fun h0 ht hv => ?_, fun h1 ht hc hr hh hid => ?_⟩,
      fun p hr hc => controllerReadyTimeout_lost hr hc⟩,
    fun s p n => ⟨fun gone hd hc => ⟨_, dpcTrigger_contains gone hd, ?_, ?_, State.containEvents_set _ _ _, fun x hx hp _ => ?_⟩,
      fun h => missingMark_due h, rfl,
      fun x id speed width flit hr hd hp hlt hid hn hnodes hl => ?_,
      fun x st h hst => anaChange_lost h hst,
      fun c hc => ⟨_, portError_noted hc, State.portEvt_set _ _ (by omega), fun o ho => State.portEvt_reg _ _ _ ho,
        State.portEvt_data _ _ _, State.portEvt_fpt _ _ _⟩,
      fun x h hp hn => ⟨_, nsUnbind_free h hp hn, KMap.get?_del_same _ _, rfl, fun m hm => KMap.get?_del_other _ hm⟩⟩⟩
  · have ht' : c.at_ + msTicks (s.par Par.cmdTimeoutMs) ≤ s.clk := ht
    refine ⟨_, nvmeCommandTimeout_aborts h h0 ht', ?_⟩
    generalize hw : ((s.onCmd cid fun c => { c with stage := 1, stageAt := s.clk }).emit
      (.nvmeAdmin "Abort" c.port cid)).bump (Reg.fptCnt c.port) 15 0 1 = w
    have hvalid : w.rbit errFpt.off 31 = false := by
      have hne : errFpt.off ≠ Reg.fptCnt c.port := by
        show (0x1D0004 : Nat) ≠ 0x1D0108 + 32 * c.port
        omega
      rw [← hw]
      unfold State.rbit State.rf
      rw [State.reg_bump_other _ _ _ _ hne]
      exact hv
    obtain ⟨hcause, hvalid'⟩ := State.latch_first errFpt_apart hvalid c.port 1
    obtain ⟨more, hout⟩ := State.latch_out w errFpt c.port 1
    refine ⟨hvalid', hcause, ⟨more, ?_⟩, fun x hx hid => ?_⟩
    · refine hout.trans ?_
      rw [← hw]
      simp [State.bump, State.setRf, State.setReg, State.emit, State.onCmd, State.onFpt]
    · rw [State.fptErr_fpt, ← hw] at hx
      obtain ⟨y, hy, rfl⟩ := List.mem_map.1 (show x ∈ s.fpt.cmds.map _ from hx)
      by_cases hyc : y.cid = cid
      · simp [hyc]
      · simp [hyc] at hid
  · subst hid
    have ht' : c.stageAt + msTicks 1000 ≤ s.clk := ht
    refine ⟨_, abortTimeout_resets h h1 ht' hc hr hh, congrArg Port.resetting (State.port_setPort s c.port _), ?_, ?_⟩
    · rw [State.emit_out, State.bump, State.setRf_out]
      exact List.append_assoc _ _ _
    · exact State.onCmd_one (c := c) hc _
  · rw [State.port, State.containEvents_fpt]
    exact congrArg Port.dpc (State.port_contain hc)
  · rw [State.port, State.containEvents_fpt]
    exact congrArg Port.removed (State.port_contain hc)
  · rw [State.containEvents_fpt] at hx
    exact State.contain_absent hc hx hp
  · subst hid
    exact ⟨_, insertionSettled_one x speed width flit hr hd hp hlt hn hnodes hl, State.port_setPort _ _ _, KMap.get?_put_same
      (s.setPort p ⟨speed % 4, width % 32, flit, false, true, false, false⟩).fpt.ns n _⟩

end Sys2Proof.Machine
end


section
/-! Bracken: tenant spaces, the tenants' keys and the loading of key slots (R93, R119, R154 to R161). -/
namespace Sys2Proof.Machine

open Sys2Proof

/-! ### Tenant spaces -/

section
variable {s : State} {eid : Nat} {e : Entry}

@[simp] theorem State.tenant_markBegun (s : State) (eid t : Nat) : (s.markBegun eid).tenant t = s.tenant t := rfl

@[simp] theorem State.tenant_setTenant (s : State) (t : Nat) (x : Tenant) : (s.setTenant t x).tenant t = some x := KMap.get?_put_same _ _ _

theorem tenantCreate_ok (h : s.Starts eid 0x0201 e) (hle : e.p 0 2 ≤ 16383) (hn : s.tenant (e.p 0 2) = none) :
    execTenantCreate eid s = .next
      (if pktFlag e.pkt 0 then ((s.markBegun eid).setTenant (e.p 0 2) ⟨slice e.blk 64 64, 0, []⟩).okReply e []
      else ((s.markBegun eid).nextDraw.setTenant (e.p 0 2) ⟨s.drawn 64, 0, []⟩).okReply e []) := by
  unfold execTenantCreate
  rw [State.cmd_starts h]
  dsimp only
  rw [if_neg (by omega), State.tenant_markBegun, hn, if_neg (by decide)]
  rfl

theorem tenantDestroy_waits (h : s.Starts eid 0x0202 e) {x : Tenant} (hx : s.tenant (e.p 0 2) = some x)
    (ho : ∀ o ∈ s.data.objects, o.tenant = e.p 0 2 → o.dead ≠ none) (hp : ∀ p ∈ s.data.policies, p.2.tenant ≠ e.p 0 2)
    (hc : s.drv.conns = []) (hs : s.drv.spaces = []) :
    execTenantDestroy eid s = .next (((s.markBegun eid).beginRetire e (e.p 0 2) x.live true).tryRetire eid) := by
  have hobj : ((s.markBegun eid).data.objects.any fun o => o.tenant == e.p 0 2 && o.dead.isNone) = false := by
    simpa [State.markBegun] using ho
  have hpol : ((s.markBegun eid).data.policies.any fun p => p.2.tenant == e.p 0 2) = false := by
    rw [List.any_eq_false]
    exact fun p hp' => by simpa using hp p hp'
  have hconns : (s.markBegun eid).drv.conns = [] := hc
  have hspaces : (s.markBegun eid).drv.spaces = [] := hs
  unfold execTenantDestroy
  rw [State.cmd_starts h]
  dsimp only
  rw [State.tenant_markBegun, hx]
  dsimp only
  rw [hobj, hpol, hconns, hspaces, if_neg (by simp)]

/-- The tenant table's record of a space once some generations have ended. -/
def Tenant.without (x : Tenant) (gens : List Nat) : Tenant := { x with live := x.live.filter fun g => !gens.contains g }

/-- The state a retire that ends leaves before its reply: the keys zeroized, the wait over, the tenant table changed. -/
def State.retired (s : State) (r : Retire) (x : Tenant) : State :=
  let u := (s.emptySlots fun _ k => match k.bind with
    | .tenant t g => t == r.tenant && r.gens.contains g
    | _ => false).onData fun d => { d with retires := d.retires.filter fun q => q.eid != r.eid }
  if r.destroy then u.onData fun d => { d with tenants := KMap.del d.tenants r.tenant } else u.setTenant r.tenant (x.without r.gens)

theorem State.endRetire_eq {r : Retire} {x : Tenant} (hx : s.tenant r.tenant = some x) :
    s.endRetire r = (s.retired r x).finalOf r.eid St.ok 0 (if r.destroy then [] else (x.without r.gens).result) := by
  unfold State.endRetire State.retired
  dsimp only
  generalize hw : State.onData _ (fun d => { d with retires := _ }) = w
  have hxw : w.tenant r.tenant = some x := by rw [← hw]; exact hx
  rw [hxw]
  by_cases hd : r.destroy = true
  · simp [hd]
  · simp [hd, Tenant.without]

theorem State.retired_queue (r : Retire) (x : Tenant) : (s.retired r x).ez.queue = s.ez.queue := by
  unfold State.retired
  dsimp only
  split <;> rfl

/-- No slot holds the key of a generation that has ended. -/
theorem State.retired_slots {r : Retire} {x : Tenant} {k : Nat × KeySlot} (hk : k ∈ (s.retired r x).data.slots) {g : Nat}
    (hg : g ∈ r.gens) : k.2.bind ≠ .tenant r.tenant g := by
  have hslots : k ∈ KMap.keep s.data.slots fun _ k => !(match k.bind with
      | .tenant t g => t == r.tenant && r.gens.contains g
      | _ => false) := by
    unfold State.retired at hk
    dsimp only at hk
    split at hk <;> exact hk
  intro hbind
  have := (List.mem_filter.1 hslots).2
  simp [hbind, hg] at this

theorem State.retired_tenant (r : Retire) (x : Tenant) : (s.retired r x).tenant r.tenant =
    if r.destroy then none else some (x.without r.gens) := by
  unfold State.retired
  dsimp only
  by_cases hd : r.destroy = true
  · rw [if_pos hd, if_pos hd]
    exact KMap.get?_del_same _ _
  · rw [if_neg hd, if_neg hd]
    exact State.tenant_setTenant _ _ _

theorem State.retired_retires {r : Retire} {x : Tenant} {q : Retire} (hq : q ∈ (s.retired r x).data.retires) : q.eid ≠ r.eid := by
  have hmem : q ∈ s.data.retires.filter fun q => q.eid != r.eid := by
    unfold State.retired at hq
    dsimp only at hq
    split at hq <;> exact hq
  simpa using (List.mem_filter.1 hmem).2

theorem retireComplete_ends {r : Retire} {x : Tenant} (hr : s.data.retires.find? (fun r => r.eid == eid) = some r) (hid : r.eid = eid)
    (hready : s.retireReady r = true) (hx : s.tenant r.tenant = some x) (he : s.entry eid = some e) :
    execRetireComplete eid s
      = .next ((s.retired r x).okReply e (if r.destroy then [] else (x.without r.gens).result)) := by
  unfold execRetireComplete State.tryRetire
  rw [hr]
  dsimp only
  rw [if_pos hready, State.endRetire_eq hx, hid, State.finalOf_queue he (State.retired_queue r x)]
  rfl

/-! ### TENANT_KEY_SET -/

section
variable {x : Tenant}

theorem State.clearKeys_markBegun (s : State) (eid : Nat) : (s.markBegun eid).clearKeys = s.clearKeys := rfl

/-- A key that is accepted goes into the lowest free slot. -/
theorem State.keyLoad_stores {b u : State} {t gen k' i : Nat} {k : Bytes} {new : Bool} (hk' : k' = gen)
    (hk : b.takeKey (e.p 3 1) (slice e.area 64 80) .xts256 t gen = (u, .ok k)) (hslot : u.tenantSlot t gen = none)
    (hi : u.freeSlot = some i) : b.keyLoad e t x gen new =
      ((u.setSlotKey i ⟨k, .xts256, .tenant t k'⟩).setTenant t
        (if new then { x with cur := gen, live := x.live ++ [gen] } else x)).okReply e
        (if new then { x with cur := gen, live := x.live ++ [gen] } else x : Tenant).result := by
  subst hk'
  unfold State.keyLoad
  rw [hk]
  dsimp only
  rw [hslot, hi]
  rfl

/-- The part of TENANT_KEY_SET that its own checks leave. -/
theorem tenantKeySet_judged (h : s.Starts eid 0x0203 e) (hx : s.tenant (e.p 0 2) = some x) (hop : e.p 2 1 ≤ 2)
    (hform : e.p 3 1 = b2n s.clearKeys) : execTenantKeySet eid s = .next
      (if (if e.p 2 1 = 0 then e.p 4 2 != x.cur + 1 else !x.live.contains (e.p 4 2)) || (e.p 2 1 == 2 && e.p 4 2 == x.cur) then
        (s.markBegun eid).fail e St.invalidParam 0x1303
      else if e.p 2 1 == 0 && decide (4 ≤ x.live.length) then (s.markBegun eid).fail e St.noSpace 0x1302
      else if e.p 2 1 = 2 then ((s.markBegun eid).beginRetire e (e.p 0 2) [e.p 4 2] false).tryRetire eid
      else (s.markBegun eid).keyLoad e (e.p 0 2) x (e.p 4 2) (e.p 2 1 == 0)) := by
  have hform1 : e.p 3 1 ≤ 1 := by
    rw [hform]
    cases s.clearKeys <;> decide
  unfold execTenantKeySet
  rw [State.cmd_starts h]
  dsimp only
  rw [if_neg (by simp; omega), State.tenant_markBegun, hx]
  dsimp only
  rw [State.clearKeys_markBegun, if_neg (by simp [hform])]

theorem tenantKeySet_new (h : s.Starts eid 0x0203 e) (hx : s.tenant (e.p 0 2) = some x) (hform : e.p 3 1 = b2n s.clearKeys)
    {u : State} {k : Bytes} {i : Nat} (hop : e.p 2 1 = 0) (hgen : e.p 4 2 = x.cur + 1) (hlive : x.live.length < 4)
    (hk : (s.markBegun eid).takeKey (e.p 3 1) (slice e.area 64 80) .xts256 (e.p 0 2) (e.p 4 2) = (u, .ok k))
    (hslot : u.tenantSlot (e.p 0 2) (e.p 4 2) = none) (hi : u.freeSlot = some i) :
    execTenantKeySet eid s = .next (((u.setSlotKey i ⟨k, .xts256, .tenant (e.p 0 2) (e.p 4 2)⟩).setTenant (e.p 0 2)
      { x with cur := e.p 4 2, live := x.live ++ [e.p 4 2] }).okReply e
        (({ x with cur := e.p 4 2, live := x.live ++ [e.p 4 2] } : Tenant).result)) := by
  rw [tenantKeySet_judged h hx (by omega) hform, if_neg (by simp [hop, hgen]), if_neg (by simp; omega), if_neg (by omega),
    State.keyLoad_stores rfl hk hslot hi, hop]
  rfl

theorem tenantKeySet_reload (h : s.Starts eid 0x0203 e) (hx : s.tenant (e.p 0 2) = some x) (hform : e.p 3 1 = b2n s.clearKeys)
    {u : State} {k : Bytes} {i : Nat} (hop : e.p 2 1 = 1) (hgen : x.live.contains (e.p 4 2) = true)
    (hk : (s.markBegun eid).takeKey (e.p 3 1) (slice e.area 64 80) .xts256 (e.p 0 2) (e.p 4 2) = (u, .ok k))
    (hslot : u.tenantSlot (e.p 0 2) (e.p 4 2) = none) (hi : u.freeSlot = some i) :
    execTenantKeySet eid s = .next (((u.setSlotKey i ⟨k, .xts256, .tenant (e.p 0 2) (e.p 4 2)⟩).setTenant (e.p 0 2) x).okReply
      e x.result) := by
  rw [tenantKeySet_judged h hx (by omega) hform, if_neg (by rw [hop, hgen]; simp), if_neg (by simp [hop]), if_neg (by omega),
    State.keyLoad_stores rfl hk hslot hi, hop]
  rfl

theorem tenantKeySet_retire (h : s.Starts eid 0x0203 e) (hx : s.tenant (e.p 0 2) = some x) (hform : e.p 3 1 = b2n s.clearKeys)
    (hop : e.p 2 1 = 2) (hgen : x.live.contains (e.p 4 2) = true) (hcur : e.p 4 2 ≠ x.cur) :
    execTenantKeySet eid s = .next (((s.markBegun eid).beginRetire e (e.p 0 2) [e.p 4 2] false).tryRetire eid) := by
  rw [tenantKeySet_judged h hx (by omega) hform, if_neg (by rw [hop, hgen]; simpa using hcur), if_neg (by simp [hop]), if_pos hop]
end
end

/-! ### BRK_KEYLOAD -/

section
variable {s : State} {val : W32}

/-- BRK_KEYLOAD with its SLOT and TYPE kept. -/
def State.keyloadHeld (s : State) (val : W32) : State :=
  (s.setRf Reg.brkKeyload 15 0 (fieldOf val.toNat 15 0)).setRf Reg.brkKeyload 18 16 (fieldOf val.toNat 18 16)

theorem State.keyloadHeld_reg (s : State) (val : W32) {o : Nat} (h : o ≠ Reg.brkKeyload) : (s.keyloadHeld val).reg o = s.reg o := by
  unfold State.keyloadHeld
  rw [State.reg_setRf_other _ _ _ _ h, State.reg_setRf_other _ _ _ _ h]

theorem State.keyloadHeld_data (s : State) (val : W32) : (s.keyloadHeld val).data = s.data := rfl

/-- A GO runs and BRK_KEYIN clears after it. -/
theorem State.keyloadWrite_go (hgo : bitAt val.toNat 31 = true) : s.keyloadWrite val =
    ((s.keyloadHeld val).keyGo (fieldOf val.toNat 15 0) (fieldOf val.toNat 18 16)).onData fun d =>
      { d with keyin := List.replicate 16 0 } := by
  unfold State.keyloadWrite
  dsimp only
  rw [if_pos hgo]
  rfl

theorem State.keyResult_ok (s : State) (f : Data → Data) : ((s.keyResult 0).onData f).rf Reg.brkKeystat 3 1 = 0 :=
  (State.rf_setRf_same s Reg.brkKeystat 3 1 0 (by decide) (by decide)).trans (Nat.zero_mod _)

/-- The codes of key types. -/
theorem KeyTy.code_lt {n : Nat} {ty : KeyTy} (h : KeyTy.ofCode n = some ty) : n < 4 := by
  rcases Nat.lt_or_ge n 4 with hlt | hge
  · exact hlt
  · obtain ⟨m, rfl⟩ : ∃ m, n = m + 4 := ⟨n - 4, by omega⟩
    cases h

theorem keyloadKey_stores {ty : KeyTy} (hgo : bitAt val.toNat 31 = true) (hty : KeyTy.ofCode (fieldOf val.toNat 18 16) = some ty)
    (hc : s.clearKeys = true) (hx : s.coreExpert = true) (hs : s.expertSlot (fieldOf val.toNat 15 0) = true)
    (hh : ty.halvesEqual (s.keyinBytes.take ty.len) = false) :
    execKeyloadKey val s = .next ((((s.keyloadHeld val).setSlotKey (fieldOf val.toNat 15 0)
      ⟨s.keyinBytes.take ty.len, ty, .expert⟩).keyResult 0).onData fun d => { d with keyin := List.replicate 16 0 }) := by
  have hlt := KeyTy.code_lt hty
  have hc' : (s.keyloadHeld val).clearKeys = true := hc
  have hx' : (s.keyloadHeld val).coreExpert = true := hx
  have hs' : (s.keyloadHeld val).expertSlot (fieldOf val.toNat 15 0) = true := hs
  have hk : (s.keyloadHeld val).keyinBytes = s.keyinBytes := rfl
  unfold execKeyloadKey
  rw [if_pos (by simp [hgo, hlt]), State.keyloadWrite_go hgo, State.keyGo, if_neg (by omega), hc', hx', hs', if_neg (by decide),
    if_neg (by omega), hty]
  dsimp only
  rw [hk, hh, if_neg (by decide)]

theorem keyloadHwk_stores (hgo : bitAt val.toNat 31 = true) (hty : fieldOf val.toNat 18 16 = 4)
    (hprov : s.rbit Reg.fldStatus 1 = false) : execKeyloadHwk val s = .next ((((s.keyloadHeld val).onData fun d =>
      { d with hwk := some (s.keyinBytes.take 32) }).keyResult 0).onData fun d => { d with keyin := List.replicate 16 0 }) := by
  have hprov' : (s.keyloadHeld val).rbit Reg.fldStatus 1 = false := by
    unfold State.rbit State.rf
    rw [State.keyloadHeld_reg _ _ (by decide)]
    exact hprov
  unfold execKeyloadHwk
  rw [if_pos (by simp [hgo, hty]), State.keyloadWrite_go hgo, State.keyGo, if_pos hty, hprov', if_neg (by decide)]
  rfl

theorem keyloadZeroize_empties (hgo : bitAt val.toNat 31 = true) (hty : fieldOf val.toNat 18 16 = 7)
    (hc : s.clearKeys = true) (hx : s.coreExpert = true) (hs : s.expertSlot (fieldOf val.toNat 15 0) = true) :
    execKeyloadZeroize val s = .next ((((s.keyloadHeld val).emptySlots fun i _ => i == fieldOf val.toNat 15 0).keyResult 0).onData
      fun d => { d with keyin := List.replicate 16 0 }) := by
  have hc' : (s.keyloadHeld val).clearKeys = true := hc
  have hx' : (s.keyloadHeld val).coreExpert = true := hx
  have hs' : (s.keyloadHeld val).expertSlot (fieldOf val.toNat 15 0) = true := hs
  unfold execKeyloadZeroize
  rw [if_pos (by simp [hgo, hty]), State.keyloadWrite_go hgo, State.keyGo, if_neg (by omega), hc', hx', hs', if_neg (by decide),
    if_pos hty]

theorem keySlotFault_empties {n : Nat} {k : KeySlot} (hk : KMap.get? s.data.slots n = some k) (hp : s.data.puts = []) :
    execKeySlotFault n s = .next (((s.emptySlots fun i _ => i == n).bump Reg.brkCntEvents 31 16 1).sklHw 0x0D 0 0 n) := by
  have hputs : (((s.emptySlots fun i _ => i == n).bump Reg.brkCntEvents 31 16 1).sklHw 0x0D 0 0 n).data.puts = [] := hp
  unfold execKeySlotFault
  rw [hk]
  dsimp only
  rw [hputs]
  rfl
end

/-- Settles O21: a tenant space, its generations' keys and the key slots change as their commands ask. -/
theorem tenantsAndKeys : Obligations.TenantsAndKeys := by
  unfold Obligations.TenantsAndKeys
  refine ⟨fun s eid e b hb => ⟨fun h hle hn => ?_, fun x h hx ho hp hc hs => ?_, fun r x hr hid hready hx he =>
      ⟨s.retired r x, retireComplete_ends hr hid hready hx he, fun k hk g hg => State.retired_slots hk hg, State.retired_tenant r x,
        fun q hq => hid ▸ State.retired_retires hq⟩⟩,
    fun s eid e b x hb h hx hform => ⟨fun u k i hop hgen hlive hk hslot hi => ?_, fun u k i hop hgen hk hslot hi => ?_,
      fun hop hgen hcur => ?_⟩,
    fun s val slot hslot => ⟨fun ty hgo hty hc hx hs hh => ?_, fun hgo hty hprov => ⟨_, keyloadHwk_stores hgo hty hprov, rfl,
      State.keyResult_ok _ _, rfl⟩, fun hgo hty hc hx hs => ?_, fun n k hk hp => ⟨_, keySlotFault_empties hk hp, rfl, ?_⟩⟩⟩
  · by_cases hf : pktFlag e.pkt 0 = true
    · refine ⟨(s.markBegun eid).setTenant (e.p 0 2) ⟨slice e.blk 64 64, 0, []⟩, (tenantCreate_ok h hle hn).trans (by rw [if_pos hf]), ?_,
      rfl, rfl⟩
      rw [if_pos hf]
      exact State.tenant_setTenant _ _ _
    · refine ⟨(s.markBegun eid).nextDraw.setTenant (e.p 0 2) ⟨s.drawn 64, 0, []⟩, (tenantCreate_ok h hle hn).trans (by rw [if_neg hf]),
      ?_, rfl, rfl⟩
      rw [if_neg hf]
      exact State.tenant_setTenant _ _ _
  · subst hb; exact tenantDestroy_waits h hx ho hp hc hs
  · subst hb; exact tenantKeySet_new h hx hform hop hgen hlive hk hslot hi
  · subst hb; exact tenantKeySet_reload h hx hform hop hgen hk hslot hi
  · subst hb; exact tenantKeySet_retire h hx hform hop hgen hcur
  · subst hslot; exact ⟨_, keyloadKey_stores hgo hty hc hx hs hh, rfl, State.keyResult_ok _ _, rfl⟩
  · subst hslot; exact ⟨_, keyloadZeroize_empties hgo hty hc hx hs, rfl, State.keyResult_ok _ _, rfl⟩
  · rw [State.rf_congr (State.sklHw_regs _ _ _ _ _), State.rf_bump_same _ _ _ _ _ (by decide) (by decide)]
    rfl

end Sys2Proof.Machine
end


section
/-! Expert descriptors of Bracken, of Sward's lanes and of Gorse (R121, R139 to R142, R164). -/
namespace Sys2Proof.Machine

open Sys2Proof

/-! ### A descriptor that runs -/

section
variable {s : State} {k op : Nat} {d : Bytes} {ok : Bool}

/-- A ready queue runs the descriptor that was fetched, and completes it. -/
theorem State.xqRun_done (h : s.Runs k op d) {f : State → Bytes → State × XRes} {t : State} {r : XRes} (hf : f s d = (t, r))
    (hr : r.halt = false) : s.xqRun k (.ok d) ok f = t.done k d r ok := by
  obtain ⟨hready, hlen, -⟩ := h
  unfold State.xqRun
  rw [hready, if_neg (by decide)]
  dsimp only
  rw [padTo_of_length d 64 hlen, hf]
  dsimp only
  rw [hr, if_neg (by decide)]
  rfl

/-- The same for a step that one operation code has to itself. -/
theorem State.xqOp_done (h : s.Runs k op d) {ops : List Nat} {f : State → Bytes → State × XRes} {t : State} {r : XRes}
    (hf : f s d = (t, r)) (hr : r.halt = false) : s.xqOp k (.ok d) ok op ops f = t.done k d r ok := by
  unfold State.xqOp
  dsimp only
  rw [if_neg (by simp [h.2.2]), State.xqRun_done h hf hr]

end

/-! ### Bracken -/

section
variable {s : State} {i : Fin 8} {d b a key : Bytes} {ok : Bool}

theorem State.brkSrc_ok (k : Nat) {n : Nat} (h : b.length = n) : s.brkSrc k (.ok b) n = .ok b := by
  unfold State.brkSrc
  dsimp only
  rw [padTo_of_length b n h]

theorem State.brkXts_ok (k : Nat) (enc : Bool) (hj : s.brkJudge d = none) (hk : s.brkKey d true = some key) (h1 : 512 ≤ leAt d 16 8)
    (h2 : leAt d 16 8 ≤ 16777216) (h16 : leAt d 16 8 % 16 = 0) (hb : b.length = leAt d 16 8) : s.brkXts k enc (.ok b) d =
      (s.xqWrite k (leAt d 24 8) (if enc then xtsEnc key (slice d 48 16) b else xtsDec key (slice d 48 16) b),
        ⟨St.ok, 0, leAt d 16 8, 0, false⟩) := by
  unfold State.brkXts
  dsimp only
  rw [hj]
  dsimp only
  rw [hk]
  dsimp only
  rw [if_neg (by simp [h16]; omega), State.brkSrc_ok k hb]

theorem State.brkGcmIn_ok (k : Nat) {extra : Nat} (hj : s.brkJudge d = none) (hk : s.brkKey d false = some key)
    (h1 : leAt d 16 8 ≤ 2 ^ 36 - 32) (h2 : leAt d 40 8 ≤ 2 ^ 32) (ha : a.length = leAt d 40 8)
    (hb : b.length = leAt d 16 8 + extra) : s.brkGcmIn k extra (.ok b) (.ok a) d = .ok (key, b, a) := by
  unfold State.brkGcmIn
  rw [hj]
  dsimp only
  rw [hk]
  dsimp only
  rw [if_neg (by omega), if_neg (by omega), State.brkSrc_ok k hb, State.brkSrc_ok k ha]

theorem brkXtsEncrypt_runs (hj : s.brkJudge d = none) (hk : s.brkKey d true = some key) (h1 : 512 ≤ leAt d 16 8)
    (h2 : leAt d 16 8 ≤ 16777216) (h16 : leAt d 16 8 % 16 = 0) (hb : b.length = leAt d 16 8) (h : s.Runs (instKey 4 i) 1 d) :
    execBrkXtsEncrypt i (.ok d) (.ok b) ok s = .next ((s.xqWrite (instKey 4 i) (leAt d 24 8) (xtsEnc key (slice d 48 16) b)).done
      (instKey 4 i) d ⟨St.ok, 0, leAt d 16 8, 0, false⟩ ok) :=
  congrArg Host.Outcome.next (State.xqOp_done h (State.brkXts_ok _ true hj hk h1 h2 h16 hb) rfl)

theorem brkXtsDecrypt_runs (hj : s.brkJudge d = none) (hk : s.brkKey d true = some key) (h1 : 512 ≤ leAt d 16 8)
    (h2 : leAt d 16 8 ≤ 16777216) (h16 : leAt d 16 8 % 16 = 0) (hb : b.length = leAt d 16 8) (h : s.Runs (instKey 4 i) 2 d) :
    execBrkXtsDecrypt i (.ok d) (.ok b) ok s = .next ((s.xqWrite (instKey 4 i) (leAt d 24 8) (xtsDec key (slice d 48 16) b)).done
      (instKey 4 i) d ⟨St.ok, 0, leAt d 16 8, 0, false⟩ ok) :=
  congrArg Host.Outcome.next (State.xqOp_done h (State.brkXts_ok _ false hj hk h1 h2 h16 hb) rfl)

theorem brkGcmEncrypt_runs (hj : s.brkJudge d = none) (hk : s.brkKey d false = some key) (h1 : leAt d 16 8 ≤ 2 ^ 36 - 32)
    (h2 : leAt d 40 8 ≤ 2 ^ 32) (ha : a.length = leAt d 40 8) (h : s.Runs (instKey 4 i) 3 d) (hb : b.length = leAt d 16 8) :
    execBrkGcmEncrypt i (.ok d) (.ok b) (.ok a) ok s = .next ((s.xqWrite (instKey 4 i) (leAt d 24 8)
      ((gcmEnc key (slice d 48 12) a b).1 ++ (gcmEnc key (slice d 48 12) a b).2)).done (instKey 4 i) d
        ⟨St.ok, 0, leAt d 16 8 + 16, 0, false⟩ ok) :=
  congrArg Host.Outcome.next (State.xqOp_done h (by rw [State.brkGcmIn_ok _ hj hk h1 h2 ha hb]) rfl)

/-- The outcome of a GCM decryption: the text, or zeros and a mismatch that is counted. -/
theorem brkGcmDecrypt_runs (hj : s.brkJudge d = none) (hk : s.brkKey d false = some key) (h1 : leAt d 16 8 ≤ 2 ^ 36 - 32)
    (h2 : leAt d 40 8 ≤ 2 ^ 32) (ha : a.length = leAt d 40 8) (h : s.Runs (instKey 4 i) 4 d) (hb : b.length = leAt d 16 8 + 16) :
    execBrkGcmDecrypt i (.ok d) (.ok b) (.ok a) ok s = .next (
      match gcmDec key (slice d 48 12) a (b.take (leAt d 16 8)) (b.drop (leAt d 16 8)) with
      | some p => (s.xqWrite (instKey 4 i) (leAt d 24 8) p).done (instKey 4 i) d ⟨St.ok, 0, leAt d 16 8, 0, false⟩ ok
      | none => ((s.xqWrite (instKey 4 i) (leAt d 24 8) (zeros (leAt d 16 8))).bump Reg.brkCntEvents 15 0 1).done (instKey 4 i) d
          (XRes.fail St.checkMismatch 0x1303) ok) := by
  have hin := State.brkGcmIn_ok (instKey 4 i) hj hk h1 h2 ha hb
  refine congrArg Host.Outcome.next ?_
  cases hdec : gcmDec key (slice d 48 12) a (b.take (leAt d 16 8)) (b.drop (leAt d 16 8)) with
  | none => exact State.xqOp_done h (by simp only [hin, hdec]) rfl
  | some p => exact State.xqOp_done h (by simp only [hin, hdec]) rfl

theorem brkUnwrap_ok (hj : s.brkJudge d = none) (h : s.Runs (instKey 4 i) 5 d) (hb : b.length = leAt d 16 8) {u : State} {ty : KeyTy}
    (hu : s.unwrapKey b none 0xFFFF 0 = (u, .ok (ty, key))) : execBrkUnwrap i (.ok d) (.ok b) ok s
      = .next ((u.setSlotKey (leAt d 2 2) ⟨key, ty, .expert⟩).done (instKey 4 i) d ⟨St.ok, 0, 0, 0, false⟩ ok) :=
  congrArg Host.Outcome.next (State.xqOp_done h (by simp only [hj, State.brkSrc_ok (instKey 4 i) hb, hu]) rfl)

theorem brkUnwrap_error (hj : s.brkJudge d = none) (h : s.Runs (instKey 4 i) 5 d) (hb : b.length = leAt d 16 8) {u : State}
    {st dt : Nat} (hu : s.unwrapKey b none 0xFFFF 0 = (u, .error (st, dt))) : execBrkUnwrap i (.ok d) (.ok b) ok s
      = .next (u.done (instKey 4 i) d (XRes.fail st dt) ok) :=
  congrArg Host.Outcome.next (State.xqOp_done h (by simp only [hj, State.brkSrc_ok (instKey 4 i) hb, hu]) rfl)
end

/-! ### Sward's lanes -/

section
variable {s : State} {i : Fin 16} {d b : Bytes} {ok : Bool}

theorem State.swdSrc_ok (k : Nat) {n : Nat} (h : b.length = n) : s.swdSrc k (.ok b) n = .ok b := by
  unfold State.swdSrc
  dsimp only
  rw [padTo_of_length b n h]

theorem swdChunk_runs (hj : s.swdJudge d = none) (hb : b.length = leAt d 16 8) {recs cfs : Bytes} {used : Nat} {all : Bool}
    (h : s.Runs (instKey 1 i) 1 d) (hc : chunkOut (s.salt (leAt d 2 2)) (leAt d 32 4) (leAt d 42 2) (leAt d 2 2) 0 (leAt d 36 6)
      (chunksOf (leAt d 1 1) b) = (recs, cfs, used, all)) :
    execSwdChunk i (.ok d) (.ok b) ok s = .next (((s.xqWrite (instKey 1 i) (leAt d 24 8) recs).xqWrite (instKey 1 i) (leAt d 44 8)
      cfs).done (instKey 1 i) d ⟨if all then St.ok else St.noSpace, if all then 0 else 0x1102, swdLen (recs.length / 48) used, 0,
        false⟩ ok) :=
  congrArg Host.Outcome.next (State.xqOp_done h (by simp only [hj, State.swdSrc_ok (instKey 1 i) hb, hc]) rfl)

/-- A lookup of one fingerprint writes its entry, or zeros. -/
theorem swdLookup_one (hj : s.swdJudge d = none) (hb : b.length = leAt d 16 8) {dom : Nat} (h : s.Runs (instKey 1 i) 2 d)
    (hdom : s.tenantDom (leAt d 2 2) = some dom) (ho : s.owns dom = true) (h32 : b.length = 32) (hroom : 48 ≤ leAt d 32 4) :
    execSwdLookup i (.ok d) (.ok b) ok s = .next ((s.xqWrite (instKey 1 i) (leAt d 24 8)
      (((s.lookup dom b false).map s.idxBytes).getD (zeros 48))).done (instKey 1 i) d ⟨St.ok, 0, swdLen 1 32, 0, false⟩ ok) := by
  have hp : ((pieces 32 b).filter fun f => f.length == 32) = [b] := by
    have := pieces_append (by decide : 0 < 32) h32 []
    rw [List.append_nil, pieces_nil] at this
    simp [this, h32]
  have hn : min 1 (leAt d 32 4 / 48) = 1 := by omega
  refine congrArg Host.Outcome.next (State.xqOp_done h ?_ rfl)
  simp only [hj, hdom]
  rw [if_neg (by simp [ho]), State.swdSrc_ok (instKey 1 i) hb]
  simp [hp, hn]

theorem swdVerify_ok {cf : Bytes} (hj : s.swdJudge d = none) (hb : b.length = leAt d 16 8) (h : s.Runs (instKey 1 i) 3 d)
    (hcf : cf.length = 16 * ceilDiv (leAt d 16 8) 4096) {n : Nat}
    (hv : verifyBlocks cf (leAt d 36 6) (leAt d 42 2) (leAt d 2 2) 0 (blocksOf b) = (n, none)) :
    execSwdVerify i (.ok d) (.ok b) (.ok cf) ok s
      = .next (s.done (instKey 1 i) d ⟨St.ok, 0, swdLen 0 (leAt d 16 8), 0, false⟩ ok) :=
  congrArg Host.Outcome.next (State.xqOp_done h
    (by simp only [hj, State.swdSrc_ok (instKey 1 i) hb, State.swdSrc_ok (instKey 1 i) hcf, hv]) rfl)

theorem swdVerify_mismatch {cf : Bytes} (hj : s.swdJudge d = none) (hb : b.length = leAt d 16 8) (h : s.Runs (instKey 1 i) 3 d)
    (hcf : cf.length = 16 * ceilDiv (leAt d 16 8) 4096) {n dt : Nat}
    (hv : verifyBlocks cf (leAt d 36 6) (leAt d 42 2) (leAt d 2 2) 0 (blocksOf b) = (n, some dt)) :
    execSwdVerify i (.ok d) (.ok b) (.ok cf) ok s = .next (s.done (instKey 1 i) d ⟨St.checkMismatch, dt,
      swdLen 0 (min (leAt d 16 8) (4096 * n)), 0, false⟩ ok) :=
  congrArg Host.Outcome.next (State.xqOp_done h
    (by simp only [hj, State.swdSrc_ok (instKey 1 i) hb, State.swdSrc_ok (instKey 1 i) hcf, hv]) rfl)

theorem swdLen_zero (n : Nat) : swdLen 0 n = 2 ^ 32 * n := Nat.zero_add _
end

/-! ### Gorse -/

section
variable {s : State} {i : Fin 16} {d b : Bytes} {h : Fetch} {ok : Bool}

/-- A descriptor without HIST_IN and HIST_OUT. -/
theorem noHist (hfl : leAt d 1 1 % 4 = 0) : bitAt (leAt d 1 1) 0 = false ∧ bitAt (leAt d 1 1) 1 = false := by
  have h0 : leAt d 1 1 % 2 = 0 := by omega
  have h1 : leAt d 1 1 / 2 % 2 = 0 := by omega
  exact ⟨by simp [bitAt, h0], by simp [bitAt, Nat.testBit_succ, h1]⟩

theorem State.grsHist_none (k : Nat) (hfl : leAt d 1 1 % 4 = 0) : s.grsHist k d h = .ok none := by
  simp [State.grsHist, (noHist hfl).1]

theorem State.grsImageOut_none (k : Nat) (hfl : leAt d 1 1 % 4 = 0) (x : Option Hist) (orig : Bytes) : s.grsImageOut k d x orig = s := by
  simp [State.grsImageOut, (noHist hfl).2]

theorem grsCompress_runs (hb : b.length = leAt d 16 8) (hfl : leAt d 1 1 % 4 = 0) {frame : Bytes} {st : Nat}
    (hr : s.Runs (instKey 2 i) 1 d) (hj : grsJudge d 1 = none) (hc : gorseCompress (bitAt (leAt d 1 1) 2) none b = (frame, st))
    (hlen : frame.length ≤ leAt d 32 8) : execGrsCompress i (.ok d) (.ok b) h ok s =
      .next (((s.countFrame b.length frame.length st).xqWrite (instKey 2 i) (leAt d 24 8) frame).done (instKey 2 i) d
        ⟨St.ok, 0, frame.length, crc32c b, false⟩ ok) := by
  refine congrArg Host.Outcome.next (State.xqRun_done hr ?_ rfl)
  simp only [hj, State.grsHist_none (instKey 2 i) hfl, State.grsSrc, padTo_of_length b _ hb, Option.map_none, hc,
    State.grsImageOut_none (instKey 2 i) hfl]
  rw [if_neg (by omega)]

theorem grsDecompress_runs (hb : b.length = leAt d 16 8) (hfl : leAt d 1 1 % 4 = 0) {orig : Bytes}
    (hr : s.Runs (instKey 3 i) 2 d) (hj : grsJudge d 2 = none) (hh : gorseHeaderCheck none b = none)
    (hlen : gorseOrigLen b ≤ leAt d 32 8) (hd : gorseDecompress none b = .ok orig) : execGrsDecompress i (.ok d) (.ok b) h ok s =
      .next ((s.xqWrite (instKey 3 i) (leAt d 24 8) orig).done (instKey 3 i) d ⟨St.ok, 0, orig.length, crc32c orig, false⟩ ok) := by
  refine congrArg Host.Outcome.next (State.xqRun_done hr ?_ rfl)
  simp only [hj, State.grsHist_none (instKey 3 i) hfl, State.grsSrc, padTo_of_length b _ hb, Option.map_none, hh, hd,
    State.grsImageOut_none (instKey 3 i) hfl]
  rw [if_neg (by omega)]
end

/-- Settles O22: each valid descriptor of a core, a lane or a compressor writes its result and completes. -/
theorem laneDescriptors : Obligations.LaneDescriptors := by
  unfold Obligations.LaneDescriptors
  refine ⟨fun s i k d b a key ok hk hj => ?_, fun s i k d b cf ok hk hj hb => ?_, fun s i d b h ok hb hfl => ⟨?_, ?_⟩⟩
  · subst hk
    refine ⟨fun hkey h1 h2 h16 hb => ⟨brkXtsEncrypt_runs hj hkey h1 h2 h16 hb, brkXtsDecrypt_runs hj hkey h1 h2 h16 hb⟩,
      fun hkey h1 h2 ha => ⟨brkGcmEncrypt_runs hj hkey h1 h2 ha, brkGcmDecrypt_runs hj hkey h1 h2 ha⟩, fun u r h hb hu => ?_⟩
    match r, hu with
    | .ok (ty, key), hu => exact brkUnwrap_ok hj h hb hu
    | .error (st, dt), hu => exact brkUnwrap_error hj h hb hu
  · subst hk
    refine ⟨fun recs cfs used all h hc => swdChunk_runs hj hb h hc,
      fun dom h hdom ho h32 hroom => swdLookup_one hj hb h hdom ho h32 hroom, fun h hcf => ⟨fun n hv => ?_, fun n dt hv => ?_⟩⟩
    · exact (swdVerify_ok hj hb h hcf hv).trans (by rw [swdLen_zero])
    · exact (swdVerify_mismatch hj hb h hcf hv).trans (by rw [swdLen_zero])
  · rintro k frame st rfl hr hj hc hlen
    exact grsCompress_runs hb hfl hr hj hc hlen
  · rintro k orig rfl hr hj hh hlen hd
    exact grsDecompress_runs hb hfl hr hj hh hlen hd

end Sys2Proof.Machine
end


section
/-! Thistle: claims, actions, feeds, compares and faults of digest contexts (R169 to R184). -/
namespace Sys2Proof.Machine

open Sys2Proof

/-! ### Contexts and what reaches them -/

theorem State.ctx_congr {s t : State} (h : t.data = s.data) (j : Nat) : t.ctx j = s.ctx j := by
  unfold State.ctx
  rw [h]

@[simp] theorem State.ctx_setCtx_same (s : State) (n : Nat) (c : Ctx) : (s.setCtx n c).ctx n = c := KMap.getD_put_same _ _ _ _

theorem State.ctx_setCtx_other (s : State) {n j : Nat} (c : Ctx) (h : j ≠ n) : (s.setCtx n c).ctx j = s.ctx j :=
  KMap.getD_put_other _ _ _ h

theorem State.reg_setCtx (s : State) (n : Nat) (c : Ctx) (o : Nat) : (s.setCtx n c).reg o = s.reg o :=
  State.reg_congr (State.onData_regs _ _) o

@[simp] theorem State.edge_data (s : State) (n : Nat) : (s.edge n).data = s.data := by
  obtain ⟨h, o, e⟩ := State.edge_frame s n
  rw [e]

theorem State.setRegs_data (s : State) (off : Nat → Nat) (v : Nat → W32) (l : List Nat) : (s.setRegs off v l).data = s.data := by
  induction l generalizing s with
  | nil => rfl
  | cons k l ih => exact ih (s.setReg (off k) (v k))

theorem errThs_apart : errThs.Apart := ⟨by decide, by decide, by decide, by decide⟩

/-- The first error of a register is latched with its number, where that has bits below those of the cause. -/
theorem State.latch_first_inst {s : State} {r : ErrReg} (hr : r.Apart) (hi : r.ih < r.cl) (hv : s.rbit r.off 31 = false)
    (inst cause : Nat) : (s.latch r inst cause).rf r.off r.ih r.il = inst % 2 ^ (r.ih + 1 - r.il) := by
  obtain ⟨hinst, hinst'⟩ := hr.inst
  obtain ⟨hc, hc'⟩ := hr.cause
  obtain ⟨hm, hm'⟩ := hr.more
  have hcm := hr.moreCause
  unfold State.latch
  rw [if_neg (by simp [hv]), State.rf_congr (State.setLevel_regs _ _ _)]
  unfold State.setRbit
  rw [State.rf_setRf_other _ _ _ _ _ _ _ (Nat.le_refl 31) (by decide) (.inl hinst'),
    State.rf_setRf_other _ _ _ _ _ _ _ hm (by omega) (.inl (by omega)), State.rf_setRf_other _ _ _ _ _ _ _ hc (by omega) (.inl hi),
    State.rf_setRf_same _ _ _ _ _ hinst (by omega)]

/-! ### A write of the control register -/

/-- The fields that a write of THS_Cn_CTRL keeps. -/
def State.ctlKept (s : State) (n : Nat) (val : W32) : State :=
  ((s.setRf (Reg.thsCnCtrl n) 1 0 (fieldOf val.toNat 1 0)).setRf (Reg.thsCnCtrl n) 7 7 (fieldOf val.toNat 7 7)).setRf
    (Reg.thsCnCtrl n) 14 8 (fieldOf val.toNat 14 8)

section
variable {s : State} {n : Nat} {val : W32} {bit : Nat}

theorem State.ctlKept_reg (s : State) (val : W32) {o : Nat} (h : o ≠ Reg.thsCnCtrl n) : (s.ctlKept n val).reg o = s.reg o := by
  unfold State.ctlKept
  rw [State.reg_setRf_other _ _ _ _ h, State.reg_setRf_other _ _ _ _ h, State.reg_setRf_other _ _ _ _ h]

@[simp] theorem State.ctlKept_data (s : State) (n : Nat) (val : W32) : (s.ctlKept n val).data = s.data := by
  unfold State.ctlKept
  rw [State.setRf_data, State.setRf_data, State.setRf_data]

@[simp] theorem State.ctlKept_ctx (s : State) (n : Nat) (val : W32) (j : Nat) : (s.ctlKept n val).ctx j = s.ctx j :=
  State.ctx_congr (State.ctlKept_data s n val) j

theorem State.ctxAct_runs (h : s.OneAction n val bit) {f : State → Option State} {t : State} (hf : f (s.ctlKept n val) = some t) :
    s.ctxAct n val bit f = t := by
  obtain ⟨hhost, hbit, hone⟩ := h
  unfold State.ctxAct
  dsimp only
  rw [if_neg (by simp [hbit]), if_neg (by simp [hhost]), hone, if_neg (by simp)]
  unfold State.ctlKept at hf
  rw [hf]

theorem expect_injective (n : Nat) : Function.Injective (Reg.thsCnExpectK n) := by
  intro i j h
  unfold Reg.thsCnExpectK at h
  omega

theorem State.zeroExpect_eq (s : State) (n : Nat) :
    s.zeroExpect n = s.setRegs (Reg.thsCnExpectK n) (fun _ => 0) (List.range 16) := rfl

theorem State.zeroCtx_ctx (s : State) (n : Nat) (st : CtxSt) :
    (s.zeroCtx n st).ctx n = { Ctx.zero with st := st, cause := (s.ctx n).cause } := by
  unfold State.zeroCtx
  rw [State.zeroExpect_eq, State.ctx_congr (State.setRegs_data _ _ _ _), State.ctx_setCtx_same]

theorem State.zeroCtx_expect (s : State) (n : Nat) (st : CtxSt) {j : Nat} (hj : j < 16) :
    (s.zeroCtx n st).reg (Reg.thsCnExpectK n j) = 0#32 := by
  unfold State.zeroCtx
  rw [State.zeroExpect_eq]
  exact State.reg_setRegs_same _ _ (expect_injective n) (List.mem_range.2 hj)

theorem ctrl_ne_expect (n j : Nat) : Reg.thsCnExpectK n j ≠ Reg.thsCnCtrl n := by
  unfold Reg.thsCnExpectK Reg.thsCnCtrl
  omega

theorem thsCntEvents_ne_ctrl (n : Nat) : Reg.thsCntEvents ≠ Reg.thsCnCtrl n := by
  unfold Reg.thsCntEvents Reg.thsCnCtrl
  omega

theorem thsCnLen_ne_ctrl (n : Nat) : Reg.thsCnLen n ≠ Reg.thsCnCtrl n := by
  unfold Reg.thsCnLen Reg.thsCnCtrl
  omega
end

/-! ### Actions and feeds -/

section
variable {s : State} {i : Fin 32} {val : W32}

theorem thsClaim_found {n : Nat} (h : (List.range 32).find? (fun j => s.ctxHost j && (s.ctx j).st == .free) = some n) :
    execThsClaim s = .next ((s.setCtx n { s.ctx n with st := .idle }).emit (.readData Reg.thsClaim n)) := by
  unfold execThsClaim
  rw [h]

theorem thsClaim_none (h : (List.range 32).find? (fun j => s.ctxHost j && (s.ctx j).st == .free) = none) :
    execThsClaim s = .next (s.emit (.readData Reg.thsClaim 0x00400000)) := by
  unfold execThsClaim
  rw [h]

theorem thsStart_opens {a : Alg} (h : s.OneAction i val 2) (ha : Alg.ofCode (fieldOf val.toNat 1 0) = some a)
    (hst : (s.ctx i).st = .idle ∨ (s.ctx i).st = .open_) : execThsStart i val s = .next ((s.ctlKept i val).setCtx i
      { s.ctx i with st := .open_, alg := a, h := a.iv, count := 0, eq := false, ne := false }) := by
  refine congrArg Host.Outcome.next (State.ctxAct_runs h ?_)
  rw [ha, State.ctlKept_ctx]
  rcases hst with hst | hst <;> simp [hst]

theorem thsGo_runs {len : Nat} (h : s.OneAction i val 3) (h7 : bitAt val.toNat 7 = false) (hst : (s.ctx i).st = .open_)
    (hlen : len = (s.reg (Reg.thsCnLen i)).toNat) (h0 : len ≠ 0) (hblk : len % (s.ctx i).alg.block = 0) (hle : len ≤ 0xFFFFFF80) :
    execThsGo i val s = .next ((s.ctlKept i val).setCtx i { s.ctx i with st := .run, eq := false, ne := false, len := len, sg := 0 }) := by
  refine congrArg Host.Outcome.next (State.ctxAct_runs h ?_)
  dsimp only
  rw [State.ctlKept_reg s val (thsCnLen_ne_ctrl i), ← hlen, State.ctlKept_ctx, h7, if_neg (by simp [hst, h0, hblk]; omega)]
  rfl

theorem feedComplete_absorbs {b : Bytes} {l : Fetch} (hst : (s.ctx i).st = .run) (hc : (s.ctx i).feedCause l (.ok b) = none)
    (hb : b.length = (s.ctx i).len) : execFeedComplete i l (.ok b) s = .next ((s.setCtx i { s.ctx i with
      st := .open_
      h := shaFeed (s.ctx i).alg (s.ctx i).h b
      count := (s.ctx i).count + (s.ctx i).len
      digest := shaDigest (s.ctx i).alg (shaFeed (s.ctx i).alg (s.ctx i).h b) }).edge (ctxSrc i)) := by
  unfold execFeedComplete
  dsimp only
  rw [hst, hc, show ((CtxSt.run == CtxSt.run) && (none : Option Nat).isNone) = true from rfl]
  dsimp only
  rw [padTo_of_length b _ hb]

theorem thsReset_zeroes (h : s.OneAction i val 5) (hst : (s.ctx i).st = .open_ ∨ (s.ctx i).st = .run ∨ (s.ctx i).st = .fault) :
    execThsReset i val s = .next ((s.ctlKept i val).zeroCtx i .idle) := by
  refine congrArg Host.Outcome.next (State.ctxAct_runs h ?_)
  dsimp only
  rw [State.ctlKept_ctx]
  rcases hst with hst | hst | hst <;> rw [hst] <;> rfl

theorem thsRelease_zeroes (h : s.OneAction i val 6) (hst : (s.ctx i).st ≠ .free) :
    execThsRelease i val s = .next ((s.ctlKept i val).zeroCtx i .free) := by
  refine congrArg Host.Outcome.next (State.ctxAct_runs h ?_)
  rw [State.ctlKept_ctx, if_neg (by simpa using hst)]

/-! ### Compares and faults -/

/-- The bytes of a context's expect registers. -/
def State.expected (s : State) (n : Nat) : Bytes := (List.range 16).flatMap fun j => leBytes 4 (s.reg (Reg.thsCnExpectK n j)).toNat

theorem State.ctlKept_expected (s : State) (n : Nat) (val : W32) : (s.ctlKept n val).expected n = s.expected n := by
  unfold State.expected
  simp only [State.ctlKept_reg s val (ctrl_ne_expect n _)]

/-- The state a compare leaves: EQ or NE set, and a mismatch counted. -/
def State.compared (s : State) (n : Nat) (val : W32) (same : Bool) : State :=
  let t := (s.ctlKept n val).setCtx n { s.ctx n with eq := same, ne := !same }
  if same then t else t.bump Reg.thsCntEvents 31 16 1

theorem thsCompare_judged {same : Bool} (h : s.OneAction i val 4) (hst : (s.ctx i).st = .open_) (h0 : fieldOf val.toNat 14 8 ≠ 0)
    (hle : fieldOf val.toNat 14 8 ≤ (s.ctx i).alg.outLen) (hsame : same = ((padTo (s.ctx i).digest 64).take (fieldOf val.toNat 14 8)
      == (s.expected i).take (fieldOf val.toNat 14 8))) :
    execThsCompare i val true false s = .next (s.compared i val same) := by
  have hexp : ((List.range 16).flatMap fun j => leBytes 4 ((s.ctlKept i val).reg (Reg.thsCnExpectK i j)).toNat) = s.expected i :=
    State.ctlKept_expected s i val
  unfold execThsCompare State.compared
  rw [if_neg (by decide)]
  refine congrArg Host.Outcome.next (State.ctxAct_runs h ?_)
  dsimp only
  rw [hexp, State.ctlKept_ctx, ← hsame, if_neg (by simp [hst, h0]; omega), if_neg (by decide)]

theorem State.compared_ctx (s : State) (n : Nat) (val : W32) (same : Bool) (j : Nat) : (s.compared n val same).ctx j =
    ((s.ctlKept n val).setCtx n { s.ctx n with eq := same, ne := !same }).ctx j := by
  unfold State.compared
  dsimp only
  split
  · rfl
  · exact State.ctx_congr (State.bump_data _ _ _ _ _) j

theorem State.compared_differs (s : State) (n : Nat) (val : W32) : (s.compared n val false).rf Reg.thsCntEvents 31 16 =
    min 0xFFFF (s.rf Reg.thsCntEvents 31 16 + 1) := by
  have hreg : (s.ctlKept n val).rf Reg.thsCntEvents 31 16 = s.rf Reg.thsCntEvents 31 16 := by
    unfold State.rf
    rw [State.ctlKept_reg s val (thsCntEvents_ne_ctrl n)]
  have hset : ∀ c, ((s.ctlKept n val).setCtx n c).rf Reg.thsCntEvents 31 16 = (s.ctlKept n val).rf Reg.thsCntEvents 31 16 :=
    fun c => State.rf_congr (State.onData_regs _ _) _ _ _
  unfold State.compared
  dsimp only
  rw [if_neg (by decide), State.rf_bump_same _ _ _ _ _ (by decide) (by decide), hset, hreg]
  rfl

theorem State.compared_equal (s : State) (n : Nat) (val : W32) :
    (s.compared n val true).reg Reg.thsCntEvents = s.reg Reg.thsCntEvents := by
  unfold State.compared
  dsimp only
  rw [if_pos rfl]
  exact (State.reg_congr (State.onData_regs _ _) _).trans (State.ctlKept_reg s val (thsCntEvents_ne_ctrl n))

theorem feedFault_faults {l d : Fetch} {k : Nat} (hi : 3 ≤ i.val) (hst : (s.ctx i).st = .run)
    (hc : (s.ctx i).feedCause l d = some k) : execFeedFault i l d s = .next (s.faultCtx i k) := by
  unfold execFeedFault
  dsimp only
  rw [if_neg (by omega), hst, hc]
  rfl
end

/-- A context faults: it is zeroed, and its cause is latched and counted. -/
theorem State.faultCtx_effect {s : State} {n : Nat} (hn : n < 32) (k : Nat) (hv : s.rbit Reg.thsErr 31 = false) :
    (s.faultCtx n k).data = (s.setCtx n { s.ctx n with st := .fault, h := [], count := 0, digest := [], cause := k }).data
      ∧ (s.faultCtx n k).rbit Reg.thsErr 31 = true ∧ (s.faultCtx n k).rf Reg.thsErr 11 8 = k % 16
      ∧ (s.faultCtx n k).rf Reg.thsErr 4 0 = n
      ∧ (s.faultCtx n k).rf Reg.thsCntEvents 15 0 = min 0xFFFF (s.rf Reg.thsCntEvents 15 0 + 1) := by
  obtain ⟨w, hw⟩ : ∃ w, w = (s.setCtx n { s.ctx n with st := .fault, h := [], count := 0, digest := [], cause := k }).edge (ctxSrc n) :=
    ⟨_, rfl⟩
  have hwregs : w.regs = s.regs := by rw [hw, State.edge_regs]; rfl
  have hwv : w.rbit errThs.off 31 = false := (State.rbit_congr hwregs _ _).trans hv
  obtain ⟨hcause, hvalid⟩ := State.latch_first errThs_apart hwv n k
  have hinst := State.latch_first_inst errThs_apart (by decide) hwv n k
  have hother : ∀ o ≠ Reg.thsCntEvents, ((w.latch errThs n k).bump Reg.thsCntEvents 15 0 1).reg o = (w.latch errThs n k).reg o :=
    fun o ho => State.reg_bump_other _ _ _ _ ho
  have herr := hother Reg.thsErr (by decide)
  have hcnt : ((w.latch errThs n k).bump Reg.thsCntEvents 15 0 1).rf Reg.thsCntEvents 15 0 = min 0xFFFF (s.rf Reg.thsCntEvents 15 0 + 1) := by
    rw [State.rf_bump_same _ _ _ _ _ (by decide) (by decide)]
    unfold State.rf
    rw [State.latch_reg_other _ _ _ _ (by decide), State.reg_congr hwregs]
    rfl
  have hregs : (s.faultCtx n k).regs = ((w.latch errThs n k).bump Reg.thsCntEvents 15 0 1).regs := by
    unfold State.faultCtx
    dsimp only
    rw [← hw]
    split
    · exact State.sklHw_regs _ _ _ _ _
    · rfl
  refine ⟨?_, ?_, ?_, ?_, (State.rf_congr hregs _ _ _).trans hcnt⟩
  · have hdata : ((w.latch errThs n k).bump Reg.thsCntEvents 15 0 1).data = w.data := by rw [State.bump_data, State.latch_data]
    have hwdata : w.data = (s.setCtx n { s.ctx n with st := .fault, h := [], count := 0, digest := [], cause := k }).data := by
      rw [hw, State.edge_data]
    rw [← hwdata, ← hdata]
    unfold State.faultCtx
    dsimp only
    rw [← hw]
    split <;> rfl
  · rw [State.rbit_congr hregs]
    unfold State.rbit State.rf at hvalid ⊢
    rw [herr]
    exact hvalid
  · rw [State.rf_congr hregs]
    unfold State.rf at hcause ⊢
    rw [herr]
    exact hcause
  · rw [State.rf_congr hregs]
    unfold State.rf at hinst ⊢
    rw [herr]
    exact hinst.trans (Nat.mod_eq_of_lt hn)

/-- Settles O23: each action, feed, compare and fault of a context leaves it as its rule says. -/
theorem digestContexts : Obligations.DigestContexts := by
  unfold Obligations.DigestContexts
  refine ⟨fun s i n val c hn hc => ?_, fun s i n val c hn hc => ?_⟩
  · subst hn hc
    exact ⟨fun h => ⟨_, thsClaim_found h, congrArg Ctx.st (State.ctx_setCtx_same s i _), rfl, rfl,
        fun j hj => State.ctx_setCtx_other s _ hj⟩,
      fun h => thsClaim_none h,
      fun a h ha hst => ⟨_, thsStart_opens h ha hst, State.ctx_setCtx_same _ _ _, fun j hj => State.ctx_setCtx_other _ _ hj,
        fun off ho => (State.reg_setCtx _ _ _ _).trans (State.ctlKept_reg s val ho)⟩,
      fun len h h7 hst hlen h0 hblk hle => ⟨_, thsGo_runs h h7 hst hlen h0 hblk hle, State.ctx_setCtx_same _ _ _,
        fun j hj => State.ctx_setCtx_other _ _ hj, fun off ho => (State.reg_setCtx _ _ _ _).trans (State.ctlKept_reg s val ho)⟩,
      fun b l hst hcause hb => feedComplete_absorbs hst hcause hb,
      fun h hst => ⟨_, thsReset_zeroes h hst, State.zeroCtx_ctx _ _ _, fun j hj => State.zeroCtx_expect _ _ _ hj⟩,
      fun h hst => ⟨_, thsRelease_zeroes h hst, State.zeroCtx_ctx _ _ _, fun j hj => State.zeroCtx_expect _ _ _ hj⟩⟩
  · subst hn hc
    refine ⟨fun same h hst h0 hle hsame => ⟨_, thsCompare_judged h hst h0 hle hsame, ?_, ?_, ?_, fun j hj => ?_⟩,
      fun l d k hi hst hcause hv => ?_⟩
    · rw [State.compared_ctx, State.ctx_setCtx_same]
    · rintro rfl; exact State.compared_differs s i val
    · rintro rfl; exact State.compared_equal s i val
    · rw [State.compared_ctx, State.ctx_setCtx_other _ _ hj, State.ctlKept_ctx]
    · obtain ⟨hdata, hvalid, hk, hinst, hcnt⟩ := State.faultCtx_effect i.isLt k hv
      exact ⟨_, feedFault_faults hi hst hcause, (State.ctx_congr hdata i).trans (State.ctx_setCtx_same _ _ _), hvalid, hk, hinst, hcnt,
        fun j hj => (State.ctx_congr hdata j).trans (State.ctx_setCtx_other _ _ hj)⟩

end Sys2Proof.Machine
end


section
/-! Stripes, small writes, and member reads as their unit tags judge them (R189, R197, R198, R200, R206, R207, R234). -/
namespace Sys2Proof.Machine

open Sys2Proof

/-! ### Drive writes -/

/-- A drive write reaches the flash ports, Fold's counts and what is sent. -/
theorem State.driveWrite_frame (s : State) (dom : Nat) (why : Why) (x : Xfer) :
    ∃ f l o, (s.driveWrite dom why x).1 = { s with fpt := f, fld := l, out := o } := by
  unfold State.driveWrite
  split
  · exact ⟨_, _, _, rfl⟩
  · dsimp only
    split
    · exact ⟨_, _, _, rfl⟩
    · split <;> exact ⟨_, _, _, rfl⟩

theorem State.driveWrites_frame (s : State) (dom : Nat) (why : Why) (ws : List LeafWr) :
    ∃ f l o, (s.driveWrites dom why ws).1 = { s with fpt := f, fld := l, out := o } := by
  unfold State.driveWrites
  generalize hxs : xfersOf ws = xs
  generalize hcs : ([] : List Nat) = cs
  clear hcs hxs
  induction xs generalizing s cs with
  | nil => exact ⟨_, _, _, rfl⟩
  | cons x xs ih =>
    obtain ⟨f, l, o, e⟩ := State.driveWrite_frame s dom why x
    obtain ⟨f', l', o', e'⟩ := ih (s.driveWrite dom why x).1 (cs ++ (s.driveWrite dom why x).2)
    exact ⟨f', l', o', by rw [List.foldl_cons, e', e]⟩

@[simp] theorem State.driveWrites_data (s : State) (dom : Nat) (why : Why) (ws : List LeafWr) :
    (s.driveWrites dom why ws).1.data = s.data := by
  obtain ⟨f, l, o, e⟩ := State.driveWrites_frame s dom why ws
  rw [e]

/-! ### Stripes -/

section
variable {s : State} {root block : Nat}

theorem fullStripeWrite_issues {w : StripeW}
    (hw : s.data.stripesW.find? (fun w => w.root == root && w.block == block && !w.issued) = some w)
    (hl : s.locked root block = false) (hm : s.mayWrite (s.rootDom root) = true) :
    execFullStripeWrite root block s = .next (s.issueStripe w) := by
  simp [execFullStripeWrite, hw, hl, hm]

/-- The stripes of a list that are marked as issued where they are the stripe `w`. -/
def issuedAs (w : StripeW) (cs : List Nat) (xs : List StripeW) : List StripeW :=
  xs.map fun x => if x.root == w.root && x.block == w.block && !x.issued then { x with issued := true, acks := cs } else x

theorem issuedAs_issued {w : StripeW} {cs : List Nat} {xs : List StripeW} {x : StripeW} (hx : x ∈ issuedAs w cs xs)
    (hr : x.root = w.root) (hb : x.block = w.block) : x.issued = true := by
  obtain ⟨y, -, rfl⟩ := List.mem_map.1 hx
  by_cases hy : (y.root == w.root && y.block == w.block && !y.issued) = true
  · rw [if_pos hy]
  · rw [if_neg hy] at hr hb ⊢
    simpa [hr, hb] using hy

/-- The stripes that issuing a stripe leaves are marked as issued, and then perhaps dropped. -/
theorem State.issueStripe_stripes (s : State) (w : StripeW) :
    ∃ cs xs, ∀ x ∈ (s.issueStripe w).data.stripesW, x ∈ issuedAs w cs xs := by
  unfold State.issueStripe
  dsimp only
  generalize State.driveWrites _ _ _ _ = r
  refine ⟨r.2, r.1.data.stripesW, fun x hx => ?_⟩
  split at hx
  · exact (List.mem_filter.1 hx).1
  · exact hx

/-- No stripe stays unissued where one has been issued. -/
theorem State.issueStripe_issued {w x : StripeW} (hx : x ∈ (s.issueStripe w).data.stripesW) (hr : x.root = w.root)
    (hb : x.block = w.block) : x.issued = true := by
  obtain ⟨cs, xs, h⟩ := State.issueStripe_stripes s w
  exact issuedAs_issued (h x hx) hr hb

/-! ### Seals -/

@[simp] theorem State.tree_setTree (s : State) (root : Nat) (t : Tree) : (s.setTree root t).tree root = t := KMap.getD_put_same _ _ _ _

/-- A run with its open stripe sealed. -/
def OpenRun.shut (r : OpenRun) : OpenRun :=
  let keep := (r.spillLo + r.spill.length) / 4096 * 4096
  { r with spillLo := keep, spill := r.spill.drop (keep - r.spillLo), sealed_ := true }

theorem State.sealRun_open {g : Group} {r : OpenRun} (h : r.sealed_ = false) (hne : r.spill ≠ []) : s.sealRun root g r =
    (s.addStripe root (r.spillLo / 4096) (padTo r.spill (4096 * (g.geoAt (r.spillLo / 4096)).d)) r.spill.length, r.shut) := by
  unfold State.sealRun
  rw [h, if_neg (by simpa using hne)]
  rfl

/-- Sealing the open stripe of one run of a tree, where it is due. -/
def State.sealOne (s : State) (root block : Nat) (g : Group) (p : OpenRun → Bool) (rcp : Bool) : State :=
  match (s.tree root).run rcp with
  | some r =>
    if s.tskFree (s.rootDom root) && r.spillLo / 4096 = block && p r then
      let (s, r) := s.sealRun root g r
      s.setTree root ((s.tree root).setRun rcp r)
    else s
  | none => s

theorem State.sealAt_eq {g : Group} (hg : s.group? root = some g) (p : OpenRun → Bool) :
    s.sealAt root block p = (s.sealOne root block g p false).sealOne root block g p true := by
  unfold State.sealAt
  rw [hg]
  rfl

theorem State.sealOne_none {g : Group} {p : OpenRun → Bool} {rcp : Bool} (h : (s.tree root).run rcp = none) :
    s.sealOne root block g p rcp = s := by
  unfold State.sealOne
  rw [h]

theorem State.sealOne_busy {g : Group} {p : OpenRun → Bool} {rcp : Bool} (hf : s.tskFree (s.rootDom root) = false) :
    s.sealOne root block g p rcp = s := by
  unfold State.sealOne
  split
  · rw [hf, if_neg (by simp)]
  · rfl

theorem State.sealOne_open {g : Group} {r : OpenRun} {p : OpenRun → Bool} (hr : (s.tree root).recRun = some r)
    (hb : r.spillLo / 4096 = block) (ho : r.sealed_ = false) (hne : r.spill ≠ []) (hf : s.tskFree (s.rootDom root) = true)
    (hp : p r = true) : s.sealOne root block g p false =
      (s.addStripe root block (padTo r.spill (4096 * (g.geoAt block).d)) r.spill.length).setTree root
        { s.tree root with recRun := some r.shut } := by
  have hrec : (s.tree root).run false = some r := hr
  unfold State.sealOne
  rw [hrec]
  dsimp only
  rw [if_pos (by simp [hf, hb, hp]), State.sealRun_open ho hne, hb]
  rfl

/-- The open stripe of the records run is sealed, where the tree has no recipes run. -/
theorem State.sealAt_record {g : Group} {r : OpenRun} {p : OpenRun → Bool} (hg : s.group? root = some g)
    (hr : (s.tree root).recRun = some r) (hrcp : (s.tree root).rcpRun = none) (hb : r.spillLo / 4096 = block) (ho : r.sealed_ = false)
    (hne : r.spill ≠ []) (hf : s.tskFree (s.rootDom root) = true) (hp : p r = true) : s.sealAt root block p =
      (s.addStripe root block (padTo r.spill (4096 * (g.geoAt block).d)) r.spill.length).setTree root
        { s.tree root with recRun := some r.shut } := by
  rw [State.sealAt_eq hg, State.sealOne_open hr hb ho hne hf hp, State.sealOne_none]
  rw [State.tree_setTree]
  exact hrcp

theorem stripeSeal_due {g : Group} {r : OpenRun} (hg : s.group? root = some g) (hr : (s.tree root).recRun = some r)
    (hrcp : (s.tree root).rcpRun = none) (hb : r.spillLo / 4096 = block) (ho : r.sealed_ = false) (hne : r.spill ≠ [])
    (ht : r.openedAt + msTicks (s.par Par.sealMs) ≤ s.clk) (hf : s.tskFree (s.rootDom root) = true) :
    execStripeSeal root block s = .next ((s.addStripe root block (padTo r.spill (4096 * (g.geoAt block).d)) r.spill.length).setTree
      root { s.tree root with recRun := some r.shut }) :=
  congrArg Host.Outcome.next (State.sealAt_record hg hr hrcp hb ho hne hf (by simp [ht]))

theorem stripeSeal_waits (hf : s.tskFree (s.rootDom root) = false) : execStripeSeal root block s = .next s := by
  refine congrArg Host.Outcome.next ?_
  cases hg : s.group? root with
  | none => simp only [State.sealAt, hg]
  | some g => rw [State.sealAt_eq hg, State.sealOne_busy hf, State.sealOne_busy hf]

@[simp] theorem State.journal_setJournal (s : State) (d : Nat) (j : Journal) : (s.setJournal d j).journal d = j :=
  KMap.getD_put_same _ _ _ _

/-- Whether a journal seals has no part in how full it is. -/
theorem State.journalFull_sealing (s : State) (d : Nat) (b : Bool) :
    (s.setJournal d { s.journal d with sealing := b }).journalFull d = s.journalFull d := by
  unfold State.journalFull
  rw [State.journal_setJournal]
  rfl

theorem journalFillSeal_ends {d : Fin 8} (h : s.journalFull d = false) :
    execJournalFillSeal d s = .next (s.setJournal d { s.journal d with sealing := false }) := by
  unfold execJournalFillSeal
  dsimp only
  rw [State.journalFull_sealing, h, if_pos (by decide)]

theorem journalFillSeal_seals {d : Fin 8} {at_ : Nat} (h : s.journalFull d = true) (ho : s.openStripes d = [(at_, root, block)]) :
    execJournalFillSeal d s = .next ((s.setJournal d { s.journal d with sealing := true }).sealAt root block fun _ => true) := by
  have ho' : (s.setJournal d { s.journal d with sealing := true }).openStripes d = [(at_, root, block)] := ho
  unfold execJournalFillSeal
  dsimp only
  rw [State.journalFull_sealing, h, if_neg (by decide), ho', List.foldl_cons, List.foldl_nil]

/-! ### Small writes -/

theorem smallWrite_issues {id lo hi : Nat} {w : SmallW} {g : Group} {old : Bytes}
    (hw : s.data.smalls.find? (fun w => w.id == id && w.stage == 0) = some w) (hg : s.group? w.root = some g)
    (hspan : s.smallSpan w = (lo, hi)) (hready : s.smallReady w = true)
    (hbefore : ∀ x ∈ s.data.smalls, x.root = w.root → x.id < id → ¬ (x.block < hi ∧ lo < x.block + x.data.length / 4096))
    (h1 : s.locked w.root w.block = false) (h2 : s.locked w.root (hi - 1) = false)
    (h3 : ∀ x ∈ s.data.stripesW, x.root = w.root → ¬ (lo ≤ x.block ∧ x.block < hi)) (hst : g.st ≠ .failed)
    (hm : s.mayWrite w.dom = true) : ∃ t cs, execSmallWrite id (.ok old) s = .next t
      ∧ t.data.smalls = s.data.smalls.map fun x => if x.id == id then { x with stage := 1, acks := cs } else x := by
  have hb : (s.data.smalls.any fun x => x.root == w.root && decide (x.id < id) && decide (x.block < hi)
      && decide (lo < x.block + x.data.length / 4096)) = false := by
    rw [List.any_eq_false]
    intro x hx h
    simp only [Bool.and_eq_true, beq_iff_eq, decide_eq_true_eq] at h
    obtain ⟨⟨⟨hroot, hid⟩, hlt⟩, hgt⟩ := h
    exact hbefore x hx hroot hid ⟨hlt, hgt⟩
  have hs : (s.data.stripesW.any fun x => x.root == w.root && decide (lo ≤ x.block) && decide (x.block < hi)) = false := by
    rw [List.any_eq_false]
    intro x hx h
    simp only [Bool.and_eq_true, beq_iff_eq, decide_eq_true_eq] at h
    obtain ⟨⟨hroot, hle⟩, hlt⟩ := h
    exact h3 x hx hroot ⟨hle, hlt⟩
  unfold execSmallWrite
  rw [hw]
  dsimp only
  rw [hg]
  dsimp only
  rw [hspan]
  dsimp only
  rw [hready, hb, h1, h2, hs, hm, if_neg (by simpa using hst)]
  generalize hr : State.driveWrites _ _ _ _ = r
  refine ⟨_, r.2, rfl, ?_⟩
  rw [State.onData_data, ← hr, State.driveWrites_data]
  rfl

theorem smallWriteDone_drops {id : Nat} {w : SmallW} (hw : s.data.smalls.find? (fun w => w.id == id) = some w) (h1 : w.stage = 1)
    (ha : w.acks = []) : execSmallWriteDone id s
      = .next { s with data := { s.data with smalls := s.data.smalls.filter fun x => x.id != id } } := by
  simp [execSmallWriteDone, hw, h1, ha, State.onData]
end

/-! ### Member reads -/

section
variable {s : State} {nsn lba eid i off : Nat} {blk tag : Bytes} {l0 l : Leaf}

/-- What one block of a member read does, by what its unit tag says. -/
def State.blockRead (s : State) (i : Nat) (l : Leaf) (off eid : Nat) (verdict : TagSays) (addr : Bool) (recon : Option Bytes) : State :=
  match verdict with
  | .right => s
  | .lost => s.finalOf eid St.stripeLost 0x1502 []
  | .wrong =>
    match recon with
    | some r => (s.tagFailed i l addr).repairBlk i l off (padTo (slice r 0 4096) 4096)
    | none => (s.tagFailed i l addr).finalOf eid St.stripeLost 0x1501 []

theorem memberReadComplete_one (hat : s.leafAt nsn lba = some (i, l0, off)) (hl : s.leaf? i = some l) (hb : blk.length = 4096)
    (ht : tag.length = 16) (readOk : Bool) (r : Option Bytes) : execMemberReadComplete nsn lba readOk blk tag r eid true s
      = .next (s.blockRead i l off eid (if readOk then tagSays (s.tagWant l off) blk tag else .wrong) (readOk && tagErrIsAddr blk tag) r) := by
  have hn : blk.length / 4096 = 1 := by rw [hb]
  have hblk : slice blk (4096 * 0) 4096 = blk := slice_whole (Nat.le_of_eq hb)
  have htag : slice tag (16 * 0) 16 = tag := slice_whole (Nat.le_of_eq ht)
  unfold execMemberReadComplete
  rw [hat]
  dsimp only
  rw [if_neg (by decide), hn, List.range_one, List.foldl_cons, List.foldl_nil, hl]
  dsimp only
  rw [hblk, htag, Nat.add_zero, Nat.mul_zero]
  rfl

/-- A block as it is reconstructed is whole. -/
theorem whole_block {r : Bytes} (h : r.length = 4096) : padTo (slice r 0 4096) 4096 = r := by
  rw [slice_whole (Nat.le_of_eq h), padTo_of_length r 4096 h]

theorem memberReadComplete_badNode (hat : s.leafAt nsn lba = some (i, l0, off)) (r : Option Bytes) (readOk : Bool) :
    execMemberReadComplete nsn lba readOk blk tag r eid false s = .next (s.ncrcFail (s.rootDom (s.rootOf i)) eid) := by
  unfold execMemberReadComplete
  rw [hat]
  dsimp only
  rw [if_pos (by decide)]
end

/-- Settles O25: stripes and small writes go on when nothing holds them, and a block is read as its tag says. -/
theorem stripesAndReads : Obligations.StripesAndReads := by
  unfold Obligations.StripesAndReads
  refine ⟨fun s root block => ⟨fun w hw hl hm => ⟨fullStripeWrite_issues hw hl hm, fun x hx hr hb => ?_⟩,
      fun g r d hg hr hrcp hb ho hne ht hf hd => ?_, fun hf => stripeSeal_waits hf,
      fun d => ⟨fun h => journalFillSeal_ends h, fun at_ h ho => journalFillSeal_seals h ho⟩,
      fun id w g old lo hi hw hg hspan hready hbefore h1 h2 h3 hst hm =>
        smallWrite_issues hw hg hspan hready hbefore h1 h2 h3 hst hm,
      fun id w hw h1 ha => ⟨_, smallWriteDone_drops hw h1 ha, rfl⟩⟩,
    fun s nsn lba blk tag eid i l0 l off hat hl hb ht => ?_⟩
  · have hwrb := List.find?_some hw
    simp only [Bool.and_eq_true, beq_iff_eq] at hwrb
    obtain ⟨⟨hwr, hwb⟩, -⟩ := hwrb
    exact State.issueStripe_issued hx (hr.trans hwr.symm) (hb.trans hwb.symm)
  · subst hd
    exact ⟨_, stripeSeal_due hg hr hrcp hb ho hne ht hf, rfl, by rw [State.tree_setTree]; rfl⟩
  · have hread := memberReadComplete_one (eid := eid) hat hl hb ht
    refine ⟨fun hs r => ?_, fun hs r => ?_, fun hs => ⟨fun r hr => ?_, ?_⟩, fun r hr => ?_,
      fun r ok => memberReadComplete_badNode hat r ok⟩
    · exact (hread true r).trans (by rw [if_pos rfl, hs]; rfl)
    · exact (hread true r).trans (by rw [if_pos rfl, hs]; rfl)
    · exact (hread true (some r)).trans (by rw [if_pos rfl, hs, State.blockRead, whole_block hr, Bool.true_and])
    · exact (hread true none).trans (by rw [if_pos rfl, hs, State.blockRead, Bool.true_and])
    · exact (hread false (some r)).trans (by rw [if_neg (by decide), State.blockRead, whole_block hr, Bool.false_and])

end Sys2Proof.Machine
end


section
/-! Expert descriptors of Tussock (R192, R195, R218). -/
namespace Sys2Proof.Machine

open Sys2Proof

section
variable {s : State} {i : Fin 8} {d list : Bytes} {srcs : List Fetch} {us : List Bytes} {ok : Bool}

theorem tskEncode_runs (h : s.Runs (instKey 6 i) 1 d) (hd : tskCodeOk d = true)
    (hl : s.tskSrc (instKey 6 i) (srcs.headD .failed) (8 * (leAt d 1 1 + leAt d 2 1)) = .ok list)
    (hu : s.tskSrcs (instKey 6 i) (leAt d 16 8) ((srcs.drop 1).take (leAt d 1 1)) = .ok us) (hm : us.length = leAt d 1 1) :
    execTskEncode i (.ok d) srcs ok s = .next ((s.tskStore (instKey 6 i) list
        ((parityEncode (leAt d 16 8) (leAt d 2 1) us).zipIdx.map fun (p, j) => (leAt d 1 1 + j, p))).done (instKey 6 i) d
      ⟨St.ok, 0, leAt d 16 8 * (parityEncode (leAt d 16 8) (leAt d 2 1) us).length, 0, false⟩ ok) := by
  refine congrArg Host.Outcome.next (State.xqOp_done h ?_ rfl)
  dsimp only
  rw [hd, if_neg (by decide), hl, hu]
  dsimp only
  rw [hm, Nat.sub_self, List.replicate_zero, List.append_nil]

theorem tskDecode_runs {ds : List Bytes} (h : s.Runs (instKey 6 i) 2 d) (hd : tskCodeOk d = true)
    (hl : s.tskSrc (instKey 6 i) (srcs.headD .failed) (8 * (leAt d 1 1 + leAt d 2 1)) = .ok list) {erased : List Nat}
    (he : erased = (List.range (leAt d 1 1 + leAt d 2 1)).filter (bitAt (leAt d 24 8)))
    (hu : s.tskSrcs (instKey 6 i) (leAt d 16 8) ((List.range (leAt d 1 1 + leAt d 2 1)).map fun j =>
      if erased.contains j then Fetch.ok [] else (srcs.drop 1).getD j .failed) = .ok us)
    (hp : parityDecode (leAt d 16 8) (leAt d 1 1) (us.zipIdx.map fun (u, j) => if erased.contains j then none else some u) = some ds) :
    execTskDecode i (.ok d) srcs ok s = .next ((s.tskStore (instKey 6 i) list
        (erased.map fun j => (j, (ds ++ parityEncode (leAt d 16 8) (leAt d 2 1) ds).getD j []))).done (instKey 6 i) d
      ⟨St.ok, 0, leAt d 16 8 * erased.length, 0, false⟩ ok) := by
  refine congrArg Host.Outcome.next (State.xqOp_done h ?_ rfl)
  dsimp only
  rw [hd, if_neg (by decide), ← he, hl, hu]
  dsimp only
  rw [hp, Option.getD_some]

theorem tskWalk_runs {gi : Nat} {g : Group} (h : s.Runs (instKey 6 i) 3 d) (h3 : zeroAt d 3 1 = true) (h60 : zeroAt d 60 4 = true)
    (hg : s.tskGroup i d 1 = .ok (gi, g)) : execTskWalk i (.ok d) srcs ok s =
      .next ((s.xqWrite (instKey 6 i) (leAt d 52 8) ((s.walk gi (leAt d 40 8)).flatMap WalkStep.bytes)).done (instKey 6 i) d
        ⟨St.ok, 0, ((s.walk gi (leAt d 40 8)).flatMap WalkStep.bytes).length, 0, false⟩ ok) := by
  refine congrArg Host.Outcome.next (State.xqOp_done h ?_ rfl)
  dsimp only
  rw [if_neg (by simp [h.2.2, h3, h60]), hg]

theorem tskRead_runs {gi : Nat} {g : Group} {out : Bytes} (h : s.Runs (instKey 6 i) 4 d) (h3 : zeroAt d 3 1 = true)
    (h60 : zeroAt d 60 4 = true) (h1 : 1 ≤ leAt d 48 4) (h64 : leAt d 48 4 ≤ 64) (hg : s.tskGroup i d (leAt d 48 4) = .ok (gi, g))
    (hb : s.tskBlocks gi (leAt d 40 8) ((List.range (leAt d 48 4)).map fun x => srcs.getD x .failed) = .ok out) :
    execTskRead i (.ok d) srcs ok s
      = .next ((s.xqWrite (instKey 6 i) (leAt d 52 8) out).done (instKey 6 i) d ⟨St.ok, 0, out.length, 0, false⟩ ok) := by
  refine congrArg Host.Outcome.next (State.xqOp_done h ?_ rfl)
  dsimp only
  rw [if_neg (by simp [h.2.2, h3, h60]; omega), hg]
  dsimp only
  rw [hb]
end

/-- Settles O26: each valid descriptor of Tussock writes its units, records or blocks and completes. -/
theorem tussockDescriptors : Obligations.TussockDescriptors := by
  unfold Obligations.TussockDescriptors
  rintro s i k d srcs list us ok rfl
  refine ⟨tskEncode_runs, fun erased ds h hd hl he hu hp => tskDecode_runs h hd hl he hu hp, fun gi g out h h3 h60 hg ho => ?_,
    fun gi g n out h h3 h60 hn h1 h64 hg hb => ?_⟩
  · subst ho; exact tskWalk_runs (srcs := srcs) h h3 h60 hg
  · subst hn; exact tskRead_runs h h3 h60 h1 h64 hg hb

end Sys2Proof.Machine
end


section
/-! The journal: records as they complete, are released or fail, and the placement of the copies (R220 to R225). -/
namespace Sys2Proof.Machine

open Sys2Proof

section
variable {s : State} {d : Fin 8} {jseq : Nat} {r : JRec}

/-! ### Records -/

theorem journalRecordComplete_acked (hr : (s.journal d).recs.find? (fun r => r.jseq == jseq) = some r) (ha : s.recAcked r = true)
    (hty : r.ty ≠ .lost) : ∃ n, execJournalRecordComplete d jseq s
      = .next (State.applyDeletes d n ((s.onRec d jseq fun r => { r with st := .complete }).issueWaiting d)) := by
  refine ⟨(((s.onRec d jseq fun r => { r with st := .complete }).issueWaiting d).journal d).recs.length + 1, ?_⟩
  unfold execJournalRecordComplete
  rw [hr]
  dsimp only
  rw [if_neg (by simp [ha]), if_neg (by simpa using hty)]

theorem journalRelease_oldest {rest : List JRec} {u : State} (hr : (s.journal d).recs = r :: rest) (hj : r.jseq = jseq)
    (hf : s.recOnFlash d r = true) (hu : u = ((s.dropRec d jseq).writeHeader d).issueWaiting d) : execJournalRelease d jseq s
      = .next (u.setJournal d { u.journal d with sealing := (u.journal d).sealing && u.journalFull d }) := by
  unfold execJournalRelease
  rw [hr]
  dsimp only
  rw [if_pos (by simp [hj, hf]), hu]

/-- The command that a record is for fails where it is no PUT. -/
theorem State.failRec_command {e : Entry} (h0 : r.eid ≠ 0) (hp : s.put r.eid = none) (he : s.entry r.eid = some e)
    (hq : (s.dropRec d r.jseq).ez.queue = s.ez.queue) (st dt : Nat) : s.failRec d r st dt = (s.dropRec d r.jseq).fail e st dt := by
  unfold State.failRec
  rw [if_neg h0, hp, if_neg (by decide), State.finalOf_queue he hq]
  rfl

theorem journalSpaceTimeout_fails {e : Entry}
    (hr : (s.journal d).recs.find? (fun r => r.jseq == jseq && r.st == .waiting) = some r)
    (hi : s.issuesNow (s.journal d) r = true) (ht : r.since + s.jwait ≤ s.clk) (h0 : r.eid ≠ 0) (hp : s.put r.eid = none)
    (he : s.entry r.eid = some e) (hq : (s.dropRec d r.jseq).ez.queue = s.ez.queue) :
    execJournalSpaceTimeout d jseq s = .next ((s.dropRec d r.jseq).fail e St.noSpace 0x1505) := by
  unfold execJournalSpaceTimeout
  rw [hr]
  dsimp only
  rw [if_pos (by simp [hi, ht]), State.failRec_command h0 hp he hq]

/-! ### Copies -/

theorem journalCopyLost_a {i : Nat} (hv : (s.journal d).a.valid = true) (hi : (s.journal d).a.leaf = some i)
    (hl : ∀ l, s.leaf? i = some l → l.st ≠ .online) : execJournalCopyLost d false s
      = .next ((s.onCopy d 0 fun c => { c with valid := false, lostAt := s.clk }).copyEvent d false i) := by
  have hoff : ((s.journal d).a.leaf.any fun i => (s.leaf? i).any fun l => l.st == .online) = false := by
    rw [hi, Option.any_some]
    cases h : s.leaf? i with
    | none => rfl
    | some l => simpa using hl l h
  unfold execJournalCopyLost
  dsimp only
  rw [if_neg (by decide : ¬ (false = true)), if_pos (by rw [hv]; exact congrArg (!·) hoff), hi]
  rfl

/-- A journal whose copy A is forgotten. -/
def Journal.withoutA (j : Journal) : Journal := { j with a := { j.a with leaf := none, placing := false, acks := [] } }

theorem journalCopyPlace_a {x : Nat × Leaf} (hm : s.mayWrite d = true) (hf : s.tskFree d = true)
    (ha : s.copyMissing (s.journal d).a = true) (hb : s.copyMissing (s.journal d).b = false)
    (hx : otherCopy ((s.setJournal d (s.journal d).withoutA).eligibleLeaves d) (s.fdomOf ((s.journal d).b.leaf.getD 0)) = some x) :
    execJournalCopyPlace d s
      = .next (((s.setJournal d (s.journal d).withoutA).placeCopy d 0 x.1).checkFd d) := by
  unfold execJournalCopyPlace
  dsimp only
  rw [ha, hb, if_neg (by simp [hm, hf]), if_neg (by decide)]
  unfold Journal.withoutA at hx
  simp only [if_true, Bool.false_eq_true, if_false, hx]
  rfl

/-- A record as it counts for a copy that has just become valid. -/
def JRec.heldByA (r : JRec) : JRec := if r.st != .issued then r else { r with toA := true, ackA := true }

theorem journalCopyValid_a (hp : (s.journal d).a.placing = true) (ha : (s.journal d).a.acks = []) :
    execJournalCopyValid d false s = .next ((s.setJournal d { s.journal d with
      a := { (s.journal d).a with valid := true, placing := false, lostAt := 0 }
      recs := (s.journal d).recs.map JRec.heldByA }).issueWaiting d) := by
  unfold execJournalCopyValid
  dsimp only
  rw [if_neg (by decide : ¬ (false = true)), show (s.journal d).copy 0 = (s.journal d).a from rfl, hp, ha, if_neg (by decide)]
  rfl

theorem journalCopyTimeout_fails (hc : s.copyOk (s.journal d).a = false) (hr : (s.journal d).recs = [r]) (hst : r.st ≠ .complete)
    (h0 : r.eid ≠ 0) (hla : (s.journal d).a.lostAt = 0) (hlb : (s.journal d).b.lostAt = 0) (ht : r.since + s.jwait ≤ s.clk) :
    execJournalCopyTimeout d s = .next (s.failRec d r St.mediaError 0x1503) := by
  unfold execJournalCopyTimeout
  dsimp only
  rw [hc, if_neg (by simp), hr, hla, hlb]
  simp [hst, h0, ht]

theorem samefdReplace_places {x : Nat × Leaf} (hs : (s.journal d).samefd = true) (ha : s.copyOk (s.journal d).a = true)
    (hb : s.copyOk (s.journal d).b = true) (hn : (s.journal d).newB.leaf = none) (hm : s.mayWrite d = true) (hf : s.tskFree d = true)
    (hx : (s.eligibleLeaves d).find? (fun e => e.2.fdom != s.fdomOf ((s.journal d).a.leaf.getD 0)) = some x) :
    execSamefdReplace d s = .next (s.placeCopy d 2 x.1) := by
  unfold execSamefdReplace
  dsimp only
  rw [hx, if_neg (by simp [hs, ha, hb, hn, hm, hf])]
end

/-- Settles O27: a record and a copy take the step that their acknowledgements, or their time, allow. -/
theorem journalRecords : Obligations.JournalRecords := by
  unfold Obligations.JournalRecords
  refine ⟨fun s d jseq r => ⟨fun hr ha hty => ?_, fun rest u hr hj hf hu => journalRelease_oldest hr hj hf hu,
      fun e hr hi ht h0 hp he hq => journalSpaceTimeout_fails hr hi ht h0 hp he hq⟩,
    fun s d j hj => ?_⟩
  · obtain ⟨n, h⟩ := journalRecordComplete_acked hr ha hty
    exact ⟨_, n, h, rfl⟩
  · subst hj
    exact ⟨fun i hv hi hl => ⟨_, journalCopyLost_a hv hi hl, rfl⟩, fun x hm hf ha hb hx => journalCopyPlace_a hm hf ha hb hx,
      fun hp ha => ⟨_, journalCopyValid_a hp ha, rfl⟩,
      fun r hc hr hst h0 hla hlb ht => journalCopyTimeout_fails hc hr hst h0 hla hlb ht,
      fun x hs ha hb hn hm hf hx => samefdReplace_places hs ha hb hn hm hf hx⟩

end Sys2Proof.Machine
end


section
/-! The transports: what reaches their state, and their registers (08, 10 to 12). -/
namespace Sys2Proof.Machine

open Sys2Proof

/-! ### Operations that leave the transports -/

theorem State.tape_congr {s u : State} (h0 : u.tape0 = s.tape0) (h1 : u.tape1 = s.tape1) (k : Nat) : u.tape k = s.tape k := by
  unfold State.tape
  rw [h0, h1]

section
variable (s : State) (k : Nat)

@[simp] theorem State.tape_setReg (off : Nat) (v : W32) : (s.setReg off v).tape k = s.tape k := State.tape_congr rfl rfl k
@[simp] theorem State.tape_setRf (off hi lo v : Nat) : (s.setRf off hi lo v).tape k = s.tape k := State.tape_congr rfl rfl k
@[simp] theorem State.tape_setRbit (off i : Nat) (b : Bool) : (s.setRbit off i b).tape k = s.tape k := State.tape_congr rfl rfl k
@[simp] theorem State.tape_bump (off hi lo n : Nat) : (s.bump off hi lo n).tape k = s.tape k := State.tape_congr rfl rfl k
@[simp] theorem State.tape_emit (x : Tx) : (s.emit x).tape k = s.tape k := State.tape_congr rfl rfl k
@[simp] theorem State.tape_nextDraw : s.nextDraw.tape k = s.tape k := State.tape_congr rfl rfl k
@[simp] theorem State.tape_sklHw (block inst cause arg : Nat) : (s.sklHw block inst cause arg).tape k = s.tape k :=
  State.tape_congr rfl rfl k
@[simp] theorem State.tape_setWState (t v : Nat) : (s.setWState t v).tape k = s.tape k := State.tape_congr rfl rfl k
@[simp] theorem State.tape_setGlnMode (t m : Nat) : (s.setGlnMode t m).tape k = s.tape k := State.tape_congr rfl rfl k
@[simp] theorem State.tape_showWprot (t : Nat) : (s.showWprot t).tape k = s.tape k := State.tape_congr rfl rfl k
@[simp] theorem State.tape_markBegun (eid : Nat) : (s.markBegun eid).tape k = s.tape k := State.tape_congr rfl rfl k

@[simp] theorem State.tape_latch (r : ErrReg) (inst cause : Nat) : (s.latch r inst cause).tape k = s.tape k := by
  obtain ⟨g, h, o, e⟩ := State.latch_frame s r inst cause
  rw [e]
  exact State.tape_congr rfl rfl k

@[simp] theorem State.tape_event (n : Nat) : (s.event n).tape k = s.tape k := by
  obtain ⟨h, o, e⟩ := State.event_frame s n
  rw [e]
  exact State.tape_congr rfl rfl k

theorem State.ReplyFrom.tape {s u : State} (h : s.ReplyFrom u) (k : Nat) : u.tape k = s.tape k := by
  rw [h.eq]
  exact State.tape_congr rfl rfl k

theorem State.replyFrom_finalOf (eid st dt : Nat) (res : Bytes) : s.ReplyFrom (s.finalOf eid st dt res) := by
  unfold State.finalOf
  split
  · exact State.ReplyFrom.refl s
  · exact State.replyFrom_final _ _ _ _ _

@[simp] theorem State.tape_finalOf (eid st dt : Nat) (res : Bytes) : (s.finalOf eid st dt res).tape k = s.tape k :=
  (State.replyFrom_finalOf s eid st dt res).tape k

@[simp] theorem State.tape_pendReply (e : Entry) : (s.pendReply e).tape k = s.tape k := by
  unfold State.pendReply
  split
  · rfl
  · rw [(State.replyFrom_reply _ _).tape]
    exact State.tape_congr rfl rfl k

@[simp] theorem State.tape_setGate (t : Nat) (b : Bool) : (s.setGate t b).tape k = s.tape k := by
  unfold State.setGate
  split
  · rfl
  · exact State.tape_congr rfl rfl k

@[simp] theorem State.tape_arm (t : Nat) (b : Bool) : (s.arm t b).tape k = s.tape k := by
  unfold State.arm
  dsimp only
  split
  · exact State.tape_congr rfl rfl k
  · rw [State.tape_setGate]
    exact State.tape_congr rfl rfl k
end

/-! ### Changing a transport -/

section
variable (s : State) (t : Nat) (f : Tape → Tape)

@[simp] theorem State.tape_onTape_same : (s.onTape t f).tape t = f (s.tape t) := by
  unfold State.onTape State.tape
  split <;> rfl

theorem State.tape_onTape_other {j : Nat} (h : ¬ (t = 0 ↔ j = 0)) : (s.onTape t f).tape j = s.tape j := by
  unfold State.onTape State.tape
  by_cases ht : t = 0
  · rw [if_pos ht, if_neg (fun hj => h ⟨fun _ => hj, fun _ => ht⟩), if_neg (fun hj => h ⟨fun _ => hj, fun _ => ht⟩)]
  · have hj : j = 0 := Classical.byContradiction fun hj => h ⟨fun h => absurd h ht, fun h => absurd h hj⟩
    rw [if_neg ht, if_pos hj, if_pos hj]

/-- The other fields stay. -/
theorem State.onTape_frame : ∃ x y, s.onTape t f = { s with tape0 := x, tape1 := y } := by
  unfold State.onTape
  split <;> exact ⟨_, _, rfl⟩

@[simp] theorem State.onTape_out : (s.onTape t f).out = s.out := by
  obtain ⟨x, y, e⟩ := State.onTape_frame s t f
  rw [e]
@[simp] theorem State.onTape_clk : (s.onTape t f).clk = s.clk := by
  obtain ⟨x, y, e⟩ := State.onTape_frame s t f
  rw [e]
@[simp] theorem State.onTape_ez : (s.onTape t f).ez = s.ez := by
  obtain ⟨x, y, e⟩ := State.onTape_frame s t f
  rw [e]
@[simp] theorem State.onTape_part : (s.onTape t f).part = s.part := by
  obtain ⟨x, y, e⟩ := State.onTape_frame s t f
  rw [e]
@[simp] theorem State.onTape_data : (s.onTape t f).data = s.data := by
  obtain ⟨x, y, e⟩ := State.onTape_frame s t f
  rw [e]
@[simp] theorem State.onTape_fld : (s.onTape t f).fld = s.fld := by
  obtain ⟨x, y, e⟩ := State.onTape_frame s t f
  rw [e]
@[simp] theorem State.onTape_upd : (s.onTape t f).upd = s.upd := by
  obtain ⟨x, y, e⟩ := State.onTape_frame s t f
  rw [e]
@[simp] theorem State.par_onTape : (s.onTape t f).par = s.par := by
  obtain ⟨x, y, e⟩ := State.onTape_frame s t f
  rw [e]
  rfl
@[simp] theorem State.reg_onTape (o : Nat) : (s.onTape t f).reg o = s.reg o := State.reg_congr (State.onTape_regs s t f) o
@[simp] theorem State.rf_onTape (o hi lo : Nat) : (s.onTape t f).rf o hi lo = s.rf o hi lo :=
  State.rf_congr (State.onTape_regs s t f) o hi lo
@[simp] theorem State.rbit_onTape (o i : Nat) : (s.onTape t f).rbit o i = s.rbit o i :=
  State.rbit_congr (State.onTape_regs s t f) o i
end

/-! ### Fields of other registers -/

section
variable (s : State) {off o : Nat} (h : o ≠ off)
include h

theorem State.rf_setReg_off (v : W32) (hi lo : Nat) : (s.setReg off v).rf o hi lo = s.rf o hi lo := by
  unfold State.rf
  rw [State.reg_setReg_other _ _ h]
theorem State.rf_setRbit_off (i : Nat) (b : Bool) (hi lo : Nat) : (s.setRbit off i b).rf o hi lo = s.rf o hi lo := by
  unfold State.rf
  rw [State.reg_setRbit_other _ _ _ h]
theorem State.rf_bump_off (hi lo n hi' lo' : Nat) : (s.bump off hi lo n).rf o hi' lo' = s.rf o hi' lo' := by
  unfold State.rf
  rw [State.reg_bump_other _ _ _ _ h]
theorem State.rbit_setReg_off (v : W32) (i : Nat) : (s.setReg off v).rbit o i = s.rbit o i := by
  unfold State.rbit
  rw [State.rf_setReg_off s h]
theorem State.rbit_setRf_off (hi lo v i : Nat) : (s.setRf off hi lo v).rbit o i = s.rbit o i := by
  unfold State.rbit
  rw [State.rf_setRf_reg _ _ _ _ _ _ h]
theorem State.rbit_setRbit_off (i : Nat) (b : Bool) (j : Nat) : (s.setRbit off i b).rbit o j = s.rbit o j := by
  unfold State.rbit
  rw [State.rf_setRbit_off s h]
theorem State.rbit_bump_off (hi lo n i : Nat) : (s.bump off hi lo n).rbit o i = s.rbit o i := by
  unfold State.rbit
  rw [State.rf_bump_off s h]
end

@[simp] theorem State.rbit_emit (s : State) (x : Tx) (o i : Nat) : (s.emit x).rbit o i = s.rbit o i := rfl

/-- Two registers of a transport, or of its Gleaner, are apart. -/
theorem tapeReg_ne {a b : Nat} (t : Nat) (h : a ≠ b) : a + 262144 * t ≠ b + 262144 * t := by omega

section
variable (t : Nat)
theorem srvLad_ne_srvStatus : Reg.glnSrvLad t ≠ Reg.glnSrvStatus t := tapeReg_ne t (by decide)
theorem srvLad_ne_glnStatus : Reg.glnSrvLad t ≠ Reg.glnStatus t := tapeReg_ne t (by decide)
theorem srvStatus_ne_glnStatus : Reg.glnSrvStatus t ≠ Reg.glnStatus t := tapeReg_ne t (by decide)
theorem srvWg_ne_srvStatus : Reg.glnSrvWg t ≠ Reg.glnSrvStatus t := tapeReg_ne t (by decide)
theorem srvWg_ne_wdrStatus : Reg.glnSrvWg t ≠ Reg.wdrStatus t := tapeReg_ne t (by decide)
theorem srvStatus_ne_wdrStatus : Reg.glnSrvStatus t ≠ Reg.wdrStatus t := tapeReg_ne t (by decide)
theorem glnStatus_ne_wdrStatus : Reg.glnStatus t ≠ Reg.wdrStatus t := tapeReg_ne t (by decide)
theorem glnStatus_ne_wdrPos : Reg.glnStatus t ≠ Reg.wdrPos t := tapeReg_ne t (by decide)
end

/-- Setting a field leaves a bit outside it. -/
theorem State.rbit_setRf_apart (s : State) (off hi lo v : Nat) {i : Nat} (h : lo ≤ hi) (hh : hi < 32) (hd : i < lo ∨ hi < i) :
    (s.setRf off hi lo v).rbit off i = s.rbit off i := by
  unfold State.rbit
  rw [State.rf_setRf_other _ _ _ _ _ _ _ h hh (by omega)]

theorem State.wState_setWState (s : State) (t v : Nat) : (s.setWState t v).wState t = v % 8 :=
  State.rf_setRf_same _ _ _ _ _ (by decide) (by decide)

end Sys2Proof.Machine
end


section
/-! A cartridge's life in a transport: mount, load, acquisition, calibration, unload (R281, R324, R327 to R336). -/
namespace Sys2Proof.Machine

open Sys2Proof

/-! ### Registers and motion of a transport -/

section
variable (s : State) (t : Nat)

@[simp] theorem State.tape_run_same (mms : Nat) (rev : Bool) (rate : Nat) : (s.run t mms rev rate).tape t =
    { s.tape t with cmd := 0, goal := if rev then -(2 * mms : Int) else (2 * mms : Int), rate := rate } := by
  unfold State.run
  rw [State.tape_setRbit, State.tape_onTape_same]

/-- A command to the reels leaves the state of the transport as its register shows it. -/
theorem State.wState_run (mms : Nat) (rev : Bool) (rate : Nat) : (s.run t mms rev rate).wState t = s.wState t := by
  unfold State.run State.wState State.setRbit
  rw [State.rf_setRf_other _ _ _ _ _ _ _ (Nat.le_refl _) (by decide) (.inl (by decide)), State.rf_onTape]

theorem State.tape_run_other (mms : Nat) (rev : Bool) (rate : Nat) {j : Nat} (h : ¬ (t = 0 ↔ j = 0)) :
    (s.run t mms rev rate).tape j = s.tape j := by
  unfold State.run
  rw [State.tape_setRbit, State.tape_onTape_other _ _ _ h]

@[simp] theorem State.tape_targetWrap_same (w : Nat) : (s.targetWrap t w).tape t =
    { s.tape t with wrap := w, coarse := (s.tape t).coarse || (s.tape t).wrap / 32 != w / 32 } := by
  unfold State.targetWrap
  dsimp only
  simp

@[simp] theorem State.tape_runStep_same (k : Nat) : (s.runStep t k).tape t =
    { s.tape t with cmd := 0, goal := if s.tReverse t then -(2 * stepSpeed k : Int) else (2 * stepSpeed k : Int), rate := 5 } := by
  unfold State.runStep
  rw [State.tape_run_same, State.tape_setRf]

@[simp] theorem State.tape_preamp_ok (j : Nat) : (s.preamp t true).tape j = s.tape j := by
  unfold State.preamp
  dsimp only
  rw [if_pos rfl, State.tape_emit]

@[simp] theorem State.setGate_ez (b : Bool) : (s.setGate t b).ez = s.ez := by
  unfold State.setGate
  split
  · rfl
  · simp

@[simp] theorem State.arm_ez (b : Bool) : (s.arm t b).ez = s.ez := by
  unfold State.arm
  dsimp only
  split
  · simp
  · simp

/-- A transport after its cartridge has gone. -/
theorem State.tape_dismount : ((s.dismount t).tape t).mst = .none ∧ ((s.dismount t).tape t).cm = []
    ∧ ((s.dismount t).tape t).mountCount = ((s.tape t).mountCount + 1) % 2 ^ 24 := by
  unfold State.dismount
  dsimp only
  refine ⟨?_, ?_, ?_⟩
  · simp
  · simp
  · simp only [State.tape_setRf, State.tape_setReg, State.tape_onTape_same, State.tape_arm]

theorem State.dismount_ez : (s.dismount t).ez = s.ez := by
  unfold State.dismount
  dsimp only
  simp

theorem State.atTape_t2 (hs : s.part.t2 = true) (t : Fin 2) (f : State → Nat → State) : s.atTape t f = .next (f s t.val) := by
  unfold State.atTape
  rw [if_pos hs]
end

@[simp] theorem State.latch_clk (s : State) (r : ErrReg) (inst cause : Nat) : (s.latch r inst cause).clk = s.clk := by
  obtain ⟨g, h, o, e⟩ := State.latch_frame s r inst cause
  rw [e]

@[simp] theorem State.tape_goStale (s : State) (t : Nat) : (s.goStale t).tape t = { s.tape t with staleSince := some s.clk } := by
  unfold State.goStale
  simp

/-- The seeds of a pass and its set leave the mount as it is. -/
theorem State.tape_takeSeeds (s : State) (t : Nat) (rs : List CalResult) :
    ∃ zs cs, (s.takeSeeds t rs).tape t = { s.tape t with zones := zs, calRes := cs } := by
  unfold State.takeSeeds
  induction rs generalizing s with
  | nil => exact ⟨_, _, rfl⟩
  | cons r rs ih =>
    obtain ⟨zs, cs, h⟩ := ih _
    rw [List.foldl_cons, h, State.tape_onTape_same]
    exact ⟨zs, cs, rfl⟩

theorem State.tape_recordSet (s : State) (t src : Nat) : ∃ st, (s.recordSet t src).tape t = { s.tape t with staleSince := st } := by
  unfold State.recordSet
  dsimp only
  split
  · exact ⟨some s.clk, by rw [State.tape_goStale]; simp⟩
  · exact ⟨none, by simp⟩

/-- Without a running job there is none to change. -/
theorem State.tape_onJob_none {s : State} {t : Nat} (h : (s.tape t).job = none) (f : TJob → TJob) :
    (s.onJob t f).tape t = s.tape t := by
  have hjob : (s.tape t).job.map f = (s.tape t).job := by rw [h]; rfl
  rw [State.onJob, State.tape_onTape_same, hjob]

/-- The queued jobs are gone. -/
theorem State.tape_abortQueue (s : State) (t : Nat) : (s.abortQueue t).tape t = { s.tape t with queue := [] } := by
  unfold State.abortQueue
  dsimp only
  rw [(State.ReplyFrom.foldl (fun s (j : TJob) => State.replyFrom_finalOf s j.eid St.aborted 0x1801 []) _ _).tape,
    State.tape_onTape_same]

section
variable (s : State) (t : Nat)

/-- A write gate that is driven low touches the registers that show it. -/
theorem State.rbit_setGate_other (b : Bool) {o : Nat} (i : Nat) (hw : o ≠ Reg.wdrStatus t) (hg : o ≠ Reg.glnSrvStatus t) :
    (s.setGate t b).rbit o i = s.rbit o i := by
  unfold State.setGate
  split
  · rfl
  · rw [State.rbit_emit, State.rbit_setRbit_off _ hg, State.rbit_setRbit_off _ hw]

/-- A disarmed gate shows as disarmed. -/
theorem State.rbit_arm_false : (s.arm t false).rbit (Reg.glnSrvWg t) 0 = false := by
  unfold State.arm
  dsimp only
  rw [if_neg (by decide), State.rbit_setGate_other _ _ _ _ (srvWg_ne_wdrStatus t) (srvWg_ne_srvStatus t),
    State.rbit_setRbit_off _ (srvWg_ne_srvStatus t), State.rbit_setRbit_same _ _ _ _ (by decide)]

@[simp] theorem State.rbit_cmWrite (at_ : Nat) (b : Bytes) (o i : Nat) : (s.cmWrite t at_ b).rbit o i = s.rbit o i := by
  unfold State.cmWrite
  rw [State.rbit_emit, State.rbit_onTape]

theorem State.rbit_run_other (mms : Nat) (rev : Bool) (rate : Nat) {o : Nat} (i : Nat) (h : o ≠ Reg.wdrStatus t) :
    (s.run t mms rev rate).rbit o i = s.rbit o i := by
  unfold State.run
  rw [State.rbit_setRbit_off _ h, State.rbit_onTape]

@[simp] theorem State.tape_cmWrite (at_ : Nat) (b : Bytes) : (s.cmWrite t at_ b).tape t =
    { s.tape t with cm := Mem.write (s.tape t).cm at_ b } := by
  unfold State.cmWrite
  rw [State.tape_emit, State.tape_onTape_same]

/-- A rewind: the gate is disarmed, and what was being written is given up. -/
theorem State.rewind_effect : ((s.rewind t true).tape t).mst = .rewinding ∧ ((s.rewind t true).tape t).queue = (s.tape t).queue
    ∧ ((s.rewind t true).tape t).unloadEid = (s.tape t).unloadEid ∧ (s.rewind t true).rbit (Reg.glnSrvWg t) 0 = false := by
  unfold State.rewind
  dsimp only
  rw [if_pos rfl]
  refine ⟨by simp, by simp [Tape.dropWriter], by simp [Tape.dropWriter], ?_⟩
  rw [State.rbit_onTape, State.rbit_run_other _ _ _ _ _ _ (srvWg_ne_wdrStatus t), State.rbit_emit, State.setWState,
    State.rbit_setRf_off _ (srvWg_ne_wdrStatus t), State.rbit_onTape, State.rbit_cmWrite, State.rbit_cmWrite, State.rbit_arm_false]

theorem State.unloadGo_clean (hm : (s.tape t).mst = .finishing) (hj : (s.tape t).job = none) (hd : (s.tape t).cmDirty = false) :
    s.unloadGo t = s.rewind t true := by
  unfold State.unloadGo
  rw [if_neg (by simp [hm, hj]), if_neg (by simp [hd])]
end

section
variable {s : State} {t : Fin 2} {eid : Nat} {e : Entry} (hs : s.part.t2 = true)

theorem other_transport (t : Fin 2) : ¬ ((t : Nat) = 0 ↔ 1 - (t : Nat) = 0) := by omega

/-! ### Mounting -/

/-- A mount in which the cartridge memory is good starts the load. -/
theorem cartridgeMount_loads (h : s.Starts eid 0x2001 e) (ht : e.p 0 1 = t) (hm : (s.tape t).mst = .none)
    (hb : (s.markBegun eid).basicFree (instKey 7 t) = true) {cm : Bytes} (hc : cmBad cm = none) :
    ∃ u : State, execCartridgeMount eid (.ok cm) s = .next u ∧ (u.tape t).mst = .loading ∧ (u.tape t).mountEid = eid
      ∧ (u.tape t).cmd = 2 ∧ (u.tape t).cm = Mem.ofBytesAt 0 (cm.take 65536) ∧ ∀ j, ¬ ((t : Nat) = 0 ↔ j = 0) → u.tape j = s.tape j := by
  unfold execCartridgeMount
  rw [State.cmd_starts h]
  dsimp only
  rw [ht, if_neg (by omega), State.tape_markBegun, if_neg (by simp [hm]), if_neg (by simp [hb]), hc]
  dsimp only
  refine ⟨_, rfl, ?_, ?_, ?_, ?_, fun j hj => ?_⟩
  · simp
  · simp
  · simp
  · simp
  · simp [State.tape_onTape_other _ _ _ hj]

theorem cartridgeMount_bad (h : s.Starts eid 0x2001 e) (ht : e.p 0 1 = t) (hm : (s.tape t).mst = .none)
    (hb : (s.markBegun eid).basicFree (instKey 7 t) = true) {cm : Bytes} {dt : Nat} (hc : cmBad cm = some dt) :
    execCartridgeMount eid (.ok cm) s = .next (((s.markBegun eid).pendReply e).fail e St.mediaError dt) := by
  unfold execCartridgeMount
  rw [State.cmd_starts h]
  dsimp only
  rw [ht, if_neg (by omega), State.tape_markBegun, if_neg (by simp [hm]), if_neg (by simp [hb]), hc]

include hs

theorem mountLoadTimeout_fails (hm : (s.tape t).mst = .loading) (ht : (s.tape t).since + msTicks 30000 ≤ s.clk) :
    execMountLoadTimeout t s = .next (s.mountFail t St.mediaError 0x1805) := by
  unfold execMountLoadTimeout
  rw [State.atTape_t2 s hs]
  dsimp only
  rw [if_neg (by simp [hm]; omega)]

/-- LOADED starts the acquisition on wrap 0 at step 4. -/
theorem reelStatusFrame_loaded (hm : (s.tape t).mst = .loading) (wp tn : Bool) (a c : Nat) :
    ∃ u : State, execReelStatusFrame t true wp tn false true a c true s = .next u ∧ (u.tape t).mst = .acquiring
      ∧ (u.tape t).wrap = 0 ∧ (u.tape t).goal = 5600 ∧ (u.tape t).statusAt = s.clk := by
  unfold execReelStatusFrame
  rw [State.atTape_t2 s hs]
  dsimp only
  rw [if_neg (by decide), if_neg (by decide)]
  simp only [State.tape_showWprot, State.tape_setRbit, State.tape_onTape_same, hm, if_true]
  refine ⟨_, rfl, ?_⟩
  split <;> simp [State.tReverse, stepSpeed]

/-- The loss of LOADED ends an unload. -/
theorem reelStatusFrame_unloaded (hm : (s.tape t).mst = .unloading) (wp tn : Bool) (a c : Nat) :
    ∃ v : State, execReelStatusFrame t false wp tn false true a c true s
        = .next (v.finalOf (if (s.tape t).unloadEid = 0 then (s.tape t).mountEid else (s.tape t).unloadEid) (s.tape t).endSt.1
          (s.tape t).endSt.2 [])
      ∧ (v.tape t).mst = .none ∧ (v.tape t).cm = [] ∧ (v.tape t).mountCount = ((s.tape t).mountCount + 1) % 2 ^ 24 ∧ v.ez = s.ez := by
  unfold execReelStatusFrame
  rw [State.atTape_t2 s hs]
  dsimp only
  rw [if_neg (by decide), if_neg (by decide)]
  simp only [State.tape_showWprot, State.tape_setRbit, State.tape_onTape_same, hm, Bool.false_eq_true, if_false]
  refine ⟨_, rfl, ?_⟩
  generalize hw : State.showWprot _ _ = w
  obtain ⟨hmst, hcm, hcount⟩ := State.tape_dismount w t
  have hwc : (w.tape t).mountCount = (s.tape t).mountCount := by rw [← hw]; simp
  have hwe : w.ez = s.ez := by
    rw [← hw]
    unfold State.showWprot
    simp
  exact ⟨hmst, hcm, hwc ▸ hcount, (State.dismount_ez w t).trans hwe⟩

/-! ### Position and calibration -/

/-- The second word in a row of a locked servo makes the longitudinal address valid. -/
theorem positionWord_valid (w : BitVec 64) (hsync : fieldOf w.toNat 63 56 = 0xE2) (hfmt : fieldOf w.toNat 27 24 = 1)
    (hcrc : posCrcOk w.toNat = true) (hband : fieldOf w.toNat 31 28 = (s.tape t).wrap / 32) (hrev : s.tReverse t = false)
    (hlock : s.servoLocked t = true) (hlast : (s.tape t).lastWord = some (fieldOf w.toNat 55 32 - 1, (s.tape t).wrap / 32))
    (h1 : 1 ≤ fieldOf w.toNat 55 32) : ∃ u : State, execPositionWord t w s = .next u
      ∧ u.reg (Reg.glnSrvLad t) = BitVec.ofNat 32 (fieldOf w.toNat 55 32) ∧ u.ladOk t = true
      ∧ (u.tape t).mst = (if (s.tape t).mst = .acquiring then .calibrating else (s.tape t).mst) := by
  have htwo : ladFollows false (fieldOf w.toNat 55 32 - 1) (fieldOf w.toNat 55 32) = true := by
    simp [ladFollows]
    omega
  unfold execPositionWord
  rw [State.atTape_t2 s hs]
  dsimp only
  rw [if_neg (by simp [hsync, hfmt]), if_neg (by simp [hcrc]), hlast]
  simp only [hband, hrev, htwo, Option.any_some, BEq.rfl, Bool.true_or, Bool.and_self, Bool.not_true, Bool.false_or, if_true]
  have hlock' : ∀ f, (s.onTape t f).servoLocked t = true := fun f => by
    unfold State.servoLocked
    rw [State.rbit_onTape]
    exact hlock
  rw [hlock', if_neg (by decide)]
  generalize hv : State.setRbit _ _ 5 true = v
  have hvm : (v.tape t).mst = (s.tape t).mst := by rw [← hv]; simp
  have hvl : v.reg (Reg.glnSrvLad t) = BitVec.ofNat 32 (fieldOf w.toNat 55 32) := by
    rw [← hv, State.reg_setRbit_other _ _ _ (srvLad_ne_srvStatus t), State.reg_setReg_same]
  have hvo : v.ladOk t = true := by
    rw [← hv]
    exact State.rbit_setRbit_same _ _ _ _ (by decide)
  rw [hvm]
  by_cases hm : (s.tape t).mst = .acquiring
  · rw [if_pos (by simp [hm]), if_pos hm]
    refine ⟨_, rfl, ?_, ?_, by simp⟩
    · unfold State.setGlnMode
      rw [State.reg_setRf_other _ _ _ _ (srvLad_ne_glnStatus t), State.reg_onTape, hvl]
    · unfold State.setGlnMode State.ladOk
      rw [State.rbit_setRf_off _ (srvStatus_ne_glnStatus t), State.rbit_onTape]
      exact hvo
  · rw [if_neg (by simp [hm]), if_neg hm]
    exact ⟨v, rfl, hvl, hvo, hvm⟩

theorem calibrationComplete_mounts (hm : (s.tape t).mst = .calibrating) (hd : (s.tape t).cmDirty = false) (src : Nat)
    (rs : List CalResult) : ∃ u : State, execCalibrationComplete t src rs s
        = .next (u.finalOf (s.tape t).mountEid St.ok 0 (u.mountResult t))
      ∧ (u.tape t).mst = .mounted ∧ (u.tape t).goal = 0 ∧ u.wState t = 1 := by
  unfold execCalibrationComplete
  rw [State.atTape_t2 s hs]
  dsimp only
  rw [if_pos (by simp [hm])]
  generalize (if rs.isEmpty = true then 0 else if src = 2 then 2 else 1) = k
  obtain ⟨zs, cs, hseeds⟩ := State.tape_takeSeeds s t rs
  obtain ⟨st, hset⟩ := State.tape_recordSet (s.takeSeeds t rs) t k
  generalize hw : State.setGlnMode _ t 0 = w
  have hwt : w.tape t = { s.tape t with zones := zs, calRes := cs, staleSince := st } := by
    rw [← hw, State.tape_setGlnMode, State.tape_setGate, hset, hseeds]
  have hwd : (w.tape t).cmDirty = false := by rw [hwt]; exact hd
  have hwe : (w.tape t).mountEid = (s.tape t).mountEid := by rw [hwt]
  rw [if_neg (by simp [hwd]), hwe]
  refine ⟨_, rfl, ?_, ?_, ?_⟩
  · simp [State.halt]
  · simp [State.halt]
  · unfold State.halt
    rw [State.wState_run, State.wState_setWState]

/-! ### Unloading -/

omit hs in
theorem cartridgeUnload_rewinds (h : s.Starts eid 0x2002 e) (hc : (s.markBegun eid).cartridge e.h = some (t : Nat))
    (hm : (s.tape t).mst = .mounted) (hb : (s.markBegun eid).basicFree (instKey 7 t) = true) (hj : (s.tape t).job = none)
    (hd : (s.tape t).cmDirty = false) : ∃ u : State, execCartridgeUnload eid s = .next u ∧ (u.tape t).mst = .rewinding
      ∧ (u.tape t).queue = [] ∧ (u.tape t).unloadEid = eid ∧ u.rbit (Reg.glnSrvWg t) 0 = false := by
  unfold execCartridgeUnload
  rw [State.cmd_starts h]
  dsimp only
  rw [hc]
  dsimp only
  rw [State.tape_markBegun, hm]
  dsimp only
  rw [if_neg (by simp [hb])]
  generalize hw : (if bitAt (e.p 0 1) 0 = true then _ else _ : State) = w
  have hwt : w.tape t = { s.tape t with queue := [], mst := .finishing, unloadEid := eid, endSt := (St.ok, 0), recalRun := false } := by
    rw [← hw]
    split
    · rw [State.tape_onJob_none, State.tape_onTape_same, State.tape_abortQueue, State.tape_markBegun]
      rw [State.tape_onTape_same, State.tape_abortQueue, State.tape_markBegun]
      exact hj
    · rw [State.tape_onTape_same, State.tape_abortQueue, State.tape_markBegun]
  have hwj : (w.tape t).job = none := by rw [hwt]; exact hj
  have hwd : (w.tape t).cmDirty = false := by rw [hwt]; exact hd
  rw [hwj, Option.any_none, if_neg (by decide), State.unloadGo_clean w t (by rw [hwt]) hwj hwd]
  obtain ⟨hmst, hq, hu, hg⟩ := State.rewind_effect w t
  exact ⟨_, rfl, hmst, by rw [hq, hwt], by rw [hu, hwt], hg⟩

include hs

/-- A rewound tape at rest is unloaded. -/
theorem rampComplete_unloads (hm : (s.tape t).mst = .rewinding) (h15 : s.rbit (Reg.wdrStatus t) 15 = true)
    (hsp : (s.tape t).speed = 0) (hg : (s.tape t).goal = 0) : ∃ u : State, execRampComplete t s = .next u
      ∧ (u.tape t).mst = .unloading ∧ (u.tape t).cmd = 3 := by
  unfold execRampComplete
  rw [State.atTape_t2 s hs]
  dsimp only
  rw [if_neg (by simp [h15, hsp, hg]), if_pos (by simp [hm]), if_pos hg]
  exact ⟨_, rfl, by simp [State.sendUnload], by simp [State.sendUnload]⟩

theorem reelLinkSilent_fails (hm : (s.tape t).mst ≠ .none) (ht : (s.tape t).statusAt + 6 ≤ s.clk) :
    execReelLinkSilent t s = .next (((s.latch (errSrv t) 0 2).onTape t fun y => { y with statusAt := s.clk }).transportFault t
      0x1805) := by
  unfold execReelLinkSilent
  rw [State.atTape_t2 s hs]
  dsimp only
  rw [if_neg (by simp [hm]; omega)]
end

/-- Settles O30: each event of a cartridge's life takes the mount to its next state. -/
theorem cartridgeLife : Obligations.CartridgeLife := by
  unfold Obligations.CartridgeLife
  rintro s t eid e b x hs rfl rfl
  refine ⟨fun cm h ht hm hb => ⟨fun hc => ?_, fun dt hc => cartridgeMount_bad h ht hm hb hc⟩,
    fun hm ht => mountLoadTimeout_fails hs hm ht, fun hm wp tn a c => reelStatusFrame_loaded hs hm wp tn a c,
    fun hm wp tn a c => reelStatusFrame_unloaded hs hm wp tn a c,
    fun w hsync hfmt hcrc hband hrev hlock hlast h1 => positionWord_valid hs w hsync hfmt hcrc hband hrev hlock hlast h1,
    fun src rs hm hd => calibrationComplete_mounts hs hm hd src rs,
    fun h hc hm hb hj hd => cartridgeUnload_rewinds h hc hm hb hj hd,
    fun hm h15 hsp hg => rampComplete_unloads hs hm h15 hsp hg, fun hm ht => reelLinkSilent_fails hs hm ht⟩
  obtain ⟨u, hu, hmst, heid, hcmd, hcm, hother⟩ := cartridgeMount_loads h ht hm hb hc
  exact ⟨u, hu, hmst, heid, hcmd, hcm, hother _ (other_transport t)⟩

end Sys2Proof.Machine
end


section
/-! The jobs of a transport: queueing, start, background verification and recalibration (R282, R283, R286, R287, R312 to R315, R480). -/
namespace Sys2Proof.Machine

open Sys2Proof

section
variable {s : State} {t : Fin 2} {eid : Nat} {e : Entry}

/-- A command on a mounted cartridge runs. -/
theorem State.onCartridge_mounted {b : State} {t : Nat} (hc : b.cartridge e.h = some t) (hm : (b.tape t).mst = .mounted)
    (hb : b.basicFree (instKey 7 t) = true) (f : State → Nat → State) : b.onCartridge e f = f b t := by
  unfold State.onCartridge
  rw [hc]
  dsimp only
  rw [hm]
  dsimp only
  rw [if_pos hb]

/-! ### Queueing -/

theorem State.queueJob_room {b : State} {t : Nat} (hq : (b.tape t).queue.length < 16) (j : TJob) :
    b.queueJob e t j = b.onTape t fun x => { x with queue := x.queue ++ [j] } := by
  unfold State.queueJob
  rw [if_neg (by omega)]

/-- A job on extents, as its command asks for it. -/
theorem State.entryJob_extents {b : State} {t : Nat} (kind : JobKind) (hq : (b.tape t).queue.length < 16) (h0 : e.p 0 1 = 0)
    (h1 : 1 ≤ e.p 4 4) (hn : e.p 4 4 ≤ 2046) (ha : 64 + 32 * e.p 4 4 ≤ e.area.length) : b.entryJob e t kind =
      b.onTape t fun x => { x with queue := x.queue ++ [{ TJob.blank e.eid kind with
        host := false, entries := tapeEntries e.area (e.p 4 4), locAddr := e.p 8 8
        flush := kind == .migrate && bitAt (e.p 1 1) 0, keep := kind == .migrate && bitAt (e.p 1 1) 1 }] } := by
  unfold State.entryJob
  dsimp only
  rw [h0, if_neg (by simp; omega), if_neg (by omega), if_neg (by simp), State.queueJob_room hq]
  rfl

section
variable (hc : (s.markBegun eid).cartridge e.h = some (t : Nat)) (hm : (s.tape t).mst = .mounted)
  (hb : (s.markBegun eid).basicFree (instKey 7 t) = true) (hq : (s.tape t).queue.length < 16)
include hc hm hb hq

theorem tapeMigrate_queues (h : s.Starts eid 0x2003 e) (h0 : e.p 0 1 = 0) (h1 : 1 ≤ e.p 4 4) (hn : e.p 4 4 ≤ 2046)
    (ha : 64 + 32 * e.p 4 4 ≤ e.area.length) : execTapeMigrate eid s = .next ((s.markBegun eid).onTape t fun y => { y with queue :=
      y.queue ++ [{ TJob.blank e.eid .migrate with entries := tapeEntries e.area (e.p 4 4), locAddr := e.p 8 8
                                                   flush := bitAt (e.p 1 1) 0, keep := bitAt (e.p 1 1) 1 }] }) := by
  unfold execTapeMigrate
  rw [State.cmd_starts h, State.onCartridge_mounted hc (by rw [State.tape_markBegun, hm]) hb,
    State.entryJob_extents .migrate (by rw [State.tape_markBegun]; exact hq) h0 h1 hn ha]
  rfl

theorem tapeRecall_queues (h : s.Starts eid 0x2004 e) (h0 : e.p 0 1 = 0) (h1 : 1 ≤ e.p 4 4) (hn : e.p 4 4 ≤ 2046)
    (ha : 64 + 32 * e.p 4 4 ≤ e.area.length) : execTapeRecall eid s = .next ((s.markBegun eid).onTape t fun y => { y with queue :=
      y.queue ++ [{ TJob.blank e.eid .recall with entries := tapeEntries e.area (e.p 4 4), locAddr := e.p 8 8 }] }) := by
  unfold execTapeRecall
  rw [State.cmd_starts h, State.onCartridge_mounted hc (by rw [State.tape_markBegun, hm]) hb,
    State.entryJob_extents .recall (by rw [State.tape_markBegun]; exact hq) h0 h1 hn ha]
  rfl

theorem tapeVerify_queues (h : s.Starts eid 0x2005 e) : execTapeVerify eid s = .next ((s.markBegun eid).onTape t fun y =>
    { y with queue := y.queue ++ [{ TJob.blank eid .verify with first := e.p 0 4, last := e.p 4 4, deep := bitAt (e.p 8 1) 0 }] }) := by
  unfold execTapeVerify
  rw [State.cmd_starts h, State.onCartridge_mounted hc (by rw [State.tape_markBegun, hm]) hb,
    State.queueJob_room (by rw [State.tape_markBegun]; exact hq)]

theorem tapeCalibrate_queues (h : s.Starts eid 0x2006 e) (hmode : e.p 0 1 ≤ 1) (hw : e.p 8 16 < 2 ^ (s.tape t).cmWraps) :
    execTapeCalibrate eid s = .next ((s.markBegun eid).onTape t fun y =>
      { y with queue := y.queue ++ [{ TJob.blank eid .calibrate with mode := e.p 0 1, wraps := e.p 8 16 }] }) := by
  unfold execTapeCalibrate
  rw [State.cmd_starts h, State.onCartridge_mounted hc (by rw [State.tape_markBegun, hm]) hb, State.tape_markBegun,
    if_neg (by simp; exact ⟨hmode, hw⟩), State.queueJob_room (by rw [State.tape_markBegun]; exact hq)]
end

/-! ### Start and idle time -/

section
variable (hs : s.part.t2 = true)
include hs

theorem tapeJobStart_next {j : TJob} {rest : List TJob} (hq : (s.tape t).queue = j :: rest) (hm : (s.tape t).mst = .mounted)
    (hj : (s.tape t).job = none) (hr : (s.tape t).recalRun = false) (hb : s.basicFree (instKey 7 t) = true) (hw : s.wState t = 1) :
    execTapeJobStart t s = .next ((s.onTape t fun y => { y with queue := rest }).startJob t j) := by
  unfold execTapeJobStart
  rw [State.atTape_t2 s hs]
  dsimp only
  rw [hq]
  dsimp only
  rw [if_neg (by simp [hm, hj, hr, hb, hw])]

theorem tapeIdleVerify_starts (hm : (s.tape t).mst = .mounted) (hj : (s.tape t).job = none) (hq : (s.tape t).queue = [])
    (hr : (s.tape t).recalRun = false) (hp : s.rbit (Reg.glnStatus t) 4 = false) (hw : s.wState t = 1)
    (ht : (s.tape t).idleSince + msTicks (1000 * s.par Par.tapeIdleS) ≤ s.clk) (hb : s.basicFree (instKey 7 t) = true)
    (hd : (s.tape t).bgDsn < (s.tape t).nextDsn) : execTapeIdleVerify t s = .next ((s.setRbit Reg.fldBgStat 2 true).startJob t
      { TJob.blank 0 .verify with first := (s.tape t).bgDsn, last := 0xFFFFFFFF }) := by
  unfold execTapeIdleVerify
  rw [State.atTape_t2 s hs]
  dsimp only
  rw [if_neg (by simp [hm, hj, hq, hr, hp, hw, hb]; omega)]

theorem recalibrate_starts (hp : s.rbit (Reg.glnStatus t) 4 = true) (hi : s.calIdle t = true) : ∃ u : State,
    execRecalibrate t s = .next u ∧ (u.tape t).recalRun = true ∧ u.rf (Reg.glnStatus t) 2 0 = 3 ∧ (u.tape t).wrap = 0
      ∧ (u.tape t).goal = 5600 := by
  unfold execRecalibrate
  rw [State.atTape_t2 s hs]
  rw [if_pos (by simp [hp, hi])]
  unfold State.startCal
  refine ⟨_, rfl, by simp, ?_, by simp, by simp [State.tReverse, stepSpeed]⟩
  unfold State.runStep State.run State.targetWrap
  dsimp only
  rw [State.rf_setRbit_off _ (glnStatus_ne_wdrStatus t), State.rf_onTape, State.rf_setRf_reg _ _ _ _ _ _ (glnStatus_ne_wdrStatus t),
    State.rf_setRf_reg _ _ _ _ _ _ (glnStatus_ne_wdrPos t), State.rf_setRf_reg _ _ _ _ _ _ (srvStatus_ne_glnStatus t).symm,
    State.rf_setRf_reg _ _ _ _ _ _ (srvStatus_ne_glnStatus t).symm, State.rf_setRf_reg _ _ _ _ _ _ (srvStatus_ne_glnStatus t).symm,
    State.rf_onTape]
  exact State.rf_setRf_same _ _ _ _ _ (by decide) (by decide)

theorem forcedRecal_pauses {k : Nat} (hm : (s.tape t).mst = .mounted) (hp : (s.tape t).paused = false)
    (hr : (s.tape t).recalRun = false) (h0 : 0 < s.par Par.recalForceS) (hk : (s.tape t).staleSince = some k)
    (ht : k + msTicks (1000 * s.par Par.recalForceS) ≤ s.clk) (hw : s.wState t = 1) :
    execForcedRecal t s = .next (s.onTape t fun y => { y with paused := true }) := by
  have hw' : ∀ f, (s.onTape t f).wState t = 1 := fun f => (State.rf_onTape _ _ _ _ _ _).trans hw
  unfold execForcedRecal
  rw [State.atTape_t2 s hs]
  dsimp only
  rw [if_neg (by simp [hm, hp, hr, hk, ht]; omega), hw', if_neg (by simp), if_neg (by simp)]

theorem activityClassChange_follows (hrun : 8 ≤ s.thm.bandRun) (hne : s.thm.band ≠ s.thm.cls) : ∃ u : State,
    execActivityClassChange s = .next u ∧ u.thm.cls = s.thm.band ∧ u.rf (Reg.glnCond 0) 9 8 = s.thm.band % 4
      ∧ u.rf (Reg.glnCond 1) 9 8 = s.thm.band % 4 := by
  unfold execActivityClassChange
  rw [if_neg (by simp [hne]; omega)]
  dsimp only
  rw [if_pos hs]
  refine ⟨_, rfl, rfl, ?_, State.rf_setRf_same _ _ _ _ _ (by decide) (by decide)⟩
  rw [State.rf_setRf_reg _ _ _ _ _ _ (by decide)]
  exact State.rf_setRf_same _ _ _ _ _ (by decide) (by decide)
end
end

/-- Settles O31: a job joins the queue of its transport, and the transport takes the work that is next. -/
theorem tapeJobs : Obligations.TapeJobs := by
  unfold Obligations.TapeJobs
  rintro s t eid e b x hs rfl rfl
  exact ⟨fun hc hm hb hq => ⟨fun h0 h1 hn ha => ⟨fun h => tapeMigrate_queues hc hm hb hq h h0 h1 hn ha,
        fun h => tapeRecall_queues hc hm hb hq h h0 h1 hn ha⟩,
      fun h => tapeVerify_queues hc hm hb hq h, fun h hmode hw => tapeCalibrate_queues hc hm hb hq h hmode hw⟩,
    fun j rest hq hm hj hr hb hw => tapeJobStart_next hs hq hm hj hr hb hw,
    fun hm hj hq hr hp hw ht hb hd => tapeIdleVerify_starts hs hm hj hq hr hp hw ht hb hd,
    fun hp hi => recalibrate_starts hs hp hi,
    fun k hm hp hr h0 hk ht hw => forcedRecal_pauses hs hm hp hr h0 hk ht hw,
    fun hrun hne => activityClassChange_follows hs hrun hne⟩

end Sys2Proof.Machine
end


section
/-! Cartridge memory, status, and a transport's expert descriptors (R288, R290, R291). -/
namespace Sys2Proof.Machine

open Sys2Proof

/-! ### What writing leaves of a transport -/

section
variable (s : State) (t k : Nat)

@[simp] theorem State.tape_addPair (lo n : Nat) : (s.addPair lo n).tape k = s.tape k := State.tape_congr rfl rfl k
@[simp] theorem State.tape_tally (i n : Nat) : (s.tally i n).tape k = s.tape k := State.tape_congr rfl rfl k

theorem State.foldl_tape {α : Type} {f : State → α → State} (h : ∀ u x, (f u x).tape k = u.tape k) (xs : List α) :
    (xs.foldl f s).tape k = s.tape k := by
  induction xs generalizing s with
  | nil => rfl
  | cons x xs ih => rw [List.foldl_cons, ih, h]

@[simp] theorem State.tape_sendCw (track : Nat) (w : WSet) (cw : Nat) (rew : Bool) : (s.sendCw t track w cw rew).tape k = s.tape k := by
  unfold State.sendCw State.sendFrame
  rw [State.tape_addPair, State.tape_emit]

theorem State.foldl_sendCw_tape (w : WSet) (place : List (Nat × Nat)) :
    (place.foldl (fun s p => s.sendCw t p.1 w p.2 false) s).tape k = s.tape k := by
  refine State.foldl_tape s k (fun u x => ?_) place
  exact State.tape_sendCw u t k x.1 w x.2 false

/-- A data set that is written is the one in progress. -/
theorem State.tape_writeSet (w : WSet) : ((s.writeSet t w).tape t).cur = some w.dsn
    ∧ ((s.writeSet t w).tape t).nextDsn = (s.tape t).nextDsn := by
  unfold State.writeSet
  dsimp only
  rw [State.foldl_sendCw_tape, State.tape_setReg, State.tape_onTape_same]
  exact ⟨rfl, rfl⟩

theorem State.tape_newSet (kind : Nat) (arrays : List Bytes) : ((s.newSet t kind arrays).tape t).cur = some (s.tape t).nextDsn
    ∧ ((s.newSet t kind arrays).tape t).nextDsn = (s.tape t).nextDsn + 1 := by
  unfold State.newSet
  dsimp only
  refine ⟨(State.tape_writeSet _ t _).1, (State.tape_writeSet _ t _).2.trans ?_⟩
  rw [State.tape_onTape_same]

/-- Nothing but the cartridge memory of a transport changed. -/
def State.CmOnly (u v : State) (t : Nat) : Prop := ∃ m, v.tape t = { u.tape t with cm := m }

variable {s t}

theorem State.CmOnly.trans {u v w : State} (h : u.CmOnly v t) (h' : v.CmOnly w t) : u.CmOnly w t := by
  obtain ⟨m, e⟩ := h
  obtain ⟨m', e'⟩ := h'
  exact ⟨m', by rw [e', e]⟩

theorem State.cmOnly_cmWrite (s : State) (off : Nat) (b : Bytes) : s.CmOnly (s.cmWrite t off b) t := ⟨_, State.tape_cmWrite s t off b⟩

theorem State.cmOnly_cmFlag (s : State) (i : Nat) (b : Bool) : s.CmOnly (s.cmFlag t i b) t := by
  obtain ⟨m, e⟩ := (State.cmOnly_cmWrite (t := t) s 1 [byteOf (setBitTo ((s.tape t).cmAt 1 1) i b)]).trans (State.cmOnly_cmWrite _ 0xFC _)
  exact ⟨m, (State.tape_setRbit _ t _ 4 _).trans e⟩

theorem State.cmOnly_formatCm (s : State) : s.CmOnly (s.formatCm t) t := by
  unfold State.formatCm State.cmCrc
  exact (State.cmOnly_cmWrite s _ _).trans <| (State.cmOnly_cmWrite _ _ _).trans <| (State.cmOnly_cmWrite _ _ _).trans <|
    (State.cmOnly_cmWrite _ _ _).trans <| (State.cmOnly_cmWrite _ _ _).trans <| (State.cmOnly_cmWrite _ _ _).trans <|
    State.cmOnly_cmWrite _ _ _

/-- An append starts at the DSN that is next. -/
theorem State.tape_startAppend (s : State) (t : Nat) : ((s.startAppend t).tape t).nextDsn = (s.tape t).nextDsn := by
  unfold State.startAppend
  dsimp only
  rw [State.setGlnMode, State.tape_setRf, State.tape_setWState]
  generalize hu : (if (s.tape t).appended then s else _) = u
  have hn : (u.tape t).nextDsn = (s.tape t).nextDsn := by
    subst hu
    split
    · rfl
    · rw [State.tape_setRf, State.tape_cmWrite, State.tape_onTape_same]
      split
      · obtain ⟨m, e⟩ := State.cmOnly_formatCm (t := t) s
        rw [e]
      · rfl
  split
  · exact hn
  · obtain ⟨m, e⟩ := State.cmOnly_cmFlag (t := t) u 1 true
    rw [e]
    exact hn
end

/-! ### Cartridge memory and status -/

section
variable {s : State} {t : Fin 2} {eid : Nat} {e : Entry}

section
variable (hc : (s.markBegun eid).cartridge e.h = some (t : Nat)) (hm : (s.tape t).mst = .mounted)
  (hb : (s.markBegun eid).basicFree (instKey 7 t) = true) (hr : e.ring ≠ 1023)
include hc hm hb hr

theorem cmRead_delivers (h : s.Starts eid 0x2007 e) (hbad : cmRangeBad (e.p 0 4) (e.p 4 4) 0 = false) :
    execCmRead eid true s = .next (((s.markBegun eid).deliverTo e (e.p 8 8) (Mem.read (s.tape t).cm (e.p 0 4) (e.p 4 4))).okReply e
      []) := by
  unfold execCmRead
  rw [State.cmd_starts h, State.onCartridge_mounted hc (by rw [State.tape_markBegun, hm]) hb, hbad, if_neg (by decide),
    if_neg (by simp [Entry.outside, hr]), State.tape_markBegun]
  rfl

theorem cmWrite_writes (h : s.Starts eid 0x2008 e) (hbad : cmRangeBad (e.p 0 4) (e.p 4 4) 0xA000 = false) (src : Bytes) :
    execCmWrite eid (.ok src) s = .next (((s.markBegun eid).cmWrite t (e.p 0 4) (padTo src (e.p 4 4))).okReply e []) := by
  unfold execCmWrite
  rw [State.cmd_starts h, State.onCartridge_mounted hc (by rw [State.tape_markBegun, hm]) hb, hbad, if_neg (by decide),
    if_neg (by simp [Entry.outside, hr]), if_neg (by simp [hr])]
end

theorem tapeStatus_replies (h : s.Starts eid 0x2009 e) (hc : (s.markBegun eid).cartridge e.h = some (t : Nat)) :
    execTapeStatus eid s = .next ((s.markBegun eid).okReply e (leBytes 1 (s.wState t) ++ leBytes 1 (s.rf (Reg.wdrStatus t) 19 16)
      ++ leBytes 1 (s.tape t).fillPct ++ [0] ++ leBytes 4 (s.readDsn t) ++ leBytes 4 (s.tape t).wp ++ leBytes 1 (s.tape t).wrap)) := by
  unfold execTapeStatus
  rw [State.cmd_starts h, hc]
  dsimp only
  rw [State.tape_markBegun]
  rfl
end

/-! ### Expert descriptors -/

section
variable {s : State} {t : Fin 2} {d : Bytes} {ok : Bool} {op : Nat} (hs : s.part.t2 = true) (h : s.Runs (instKey 7 t) op d)
include hs h

theorem State.wdrOp_done (hj : wdrJudge d op = false) {out : Nat} (ho : out ≤ leAt d 24 8) {f : State → Nat → Bytes → State × XRes}
    {u : State} {r : XRes} (hf : f s t d = (u, r)) (hr : r.halt = false) :
    s.wdrOp t (.ok d) ok op out f = .next (u.done (instKey 7 t) d r ok) := by
  unfold State.wdrOp
  rw [State.atTape_t2 s hs]
  exact congrArg Host.Outcome.next (State.xqRun_done h (by rw [hj, if_neg (by decide), if_neg (by omega), hf]) hr)
end

theorem State.wdrSrc_ok (s : State) (k : Nat) {src : Bytes} (h : src.length = 8388608) : s.wdrSrc k (.ok src) = .ok src := by
  unfold State.wdrSrc
  dsimp only
  rw [padTo_of_length src dsBytes h]

/-- The status bytes of a data set as it was read. -/
def readStatus (ws : List RWord) : Bytes := (List.range 64).flatMap fun j => (List.range 157).map fun i =>
  byteOf (match ws.find? fun w => w.sds == j && w.cwi == i with
    | some w => min 254 w.corr
    | none => 255)

theorem readStatus_length (ws : List RWord) : (readStatus ws).length = 10048 := by
  unfold readStatus
  rw [List.length_flatMap]
  simp only [List.length_map, List.length_range, List.map_const', List.sum_replicate_nat]

section
variable {s : State} {t : Fin 2} {d : Bytes} {ok : Bool} (hs : s.part.t2 = true) (hm : (s.tape t).mst = .mounted)

include hs in
theorem wdrEncode_delivers {src : Bytes} (hsrc : src.length = 8388608) (h : s.Runs (instKey 7 t) 1 d) (hj : wdrJudge d 1 = false)
    (ho : 10048 * 1024 ≤ leAt d 24 8) : ∃ out, execWdrEncode t (.ok d) (.ok src) ok s
      = .next ((s.xqWrite (instKey 7 t) (leAt d 16 8) out).done (instKey 7 t) d ⟨St.ok, 0, out.length, 0, false⟩ ok)
    ∧ out = (List.range 10048).flatMap (codeword ((s.tape t).nextArrays knData true src 0xFFFFFFFF 0)) :=
  ⟨_, State.wdrOp_done hs h hj ho (by rw [State.wdrSrc_ok s _ hsrc]) rfl, rfl⟩

include hs hm in
theorem wdrWriteDs_writes {src : Bytes} (hsrc : src.length = 8388608) (h : s.Runs (instKey 7 t) 2 d) (hj : wdrJudge d 2 = false)
    (hw : s.writable t = true) (h1 : leAt d 1 1 = 1) : ∃ v : State, execWdrWriteDs t (.ok d) (.ok src) ok s
      = .next (v.done (instKey 7 t) d ⟨St.ok, 0, 0, 0, false⟩ ok)
    ∧ (v.tape t).nextDsn = (s.tape t).nextDsn + 1 ∧ (v.tape t).cur = some (s.tape t).nextDsn := by
  refine ⟨_, State.wdrOp_done hs h hj (Nat.zero_le _) (by
    rw [if_neg (by simp [hm]), if_neg (by simp [hw]), State.wdrSrc_ok s _ hsrc]) rfl, ?_⟩
  have h4 : ¬ leAt d 1 1 = 4 := by omega
  rw [if_neg h4]
  generalize hu : (if Tape.zoneBad _ _ _ then State.emit _ _ else _) = u
  have hn : (u.tape t).nextDsn = (s.tape t).nextDsn := by
    subst hu
    split <;> simp [State.tape_startAppend]
  obtain ⟨hcur, hnext⟩ := State.tape_newSet u t knData ((u.tape t).nextArrays knData true src 0xFFFFFFFF 0)
  rw [hn] at hcur hnext
  split
  · rw [State.tape_setGate]
    exact ⟨hnext, hcur⟩
  · rw [State.tape_onTape_same]
    exact ⟨hnext, hcur⟩

include hs hm in
theorem wdrReadDs_delivers {src : Bytes} (h : s.Runs (instKey 7 t) 3 d) (hj : wdrJudge d 3 = false) (ho : 8388608 + 10048 ≤ leAt d 24 8)
    (h3 : bitAt (leAt d 36 1) 0 = false) {y : RSet} (hy : restoreSet (s.tape t).words (s.tape t).wp (leAt d 32 4) = some y) :
    execWdrReadDs t (.ok d) (.ok src) ok s = .next ((s.xqWrite (instKey 7 t) (leAt d 16 8) (y.payload
      ++ readStatus (wordsOf (s.tape t).words (s.tape t).wp (leAt d 32 4)))).done (instKey 7 t) d
        ⟨St.ok, 0, 8388608 + 10048, 0, false⟩ ok) := by
  unfold execWdrReadDs
  refine State.wdrOp_done hs h hj ho ?_ rfl
  dsimp only
  rw [if_neg (by simp [hm]), h3, if_neg (by decide), hy]
  rfl

include hs hm in
theorem wdrReadDs_fails {src : Bytes} (h : s.Runs (instKey 7 t) 3 d) (hj : wdrJudge d 3 = false) (ho : 8388608 + 10048 ≤ leAt d 24 8)
    (h3 : bitAt (leAt d 36 1) 0 = false) (hy : restoreSet (s.tape t).words (s.tape t).wp (leAt d 32 4) = none) :
    execWdrReadDs t (.ok d) (.ok src) ok s = .next (s.done (instKey 7 t) d (XRes.fail St.mediaError 0x1601) ok) := by
  unfold execWdrReadDs
  refine State.wdrOp_done hs h hj ho ?_ rfl
  dsimp only
  rw [if_neg (by simp [hm]), h3, if_neg (by decide), hy]
  rfl

include hs hm in
theorem wdrLocate_positions {src : Bytes} (h : s.Runs (instKey 7 t) 4 d) (hj : wdrJudge d 4 = false)
    (hd : leAt d 32 4 < (s.tape t).nextDsn) : execWdrLocate t (.ok d) (.ok src) ok s
      = .next ((((s.onTape t Tape.readDone).readFrom t (leAt d 32 4)).startRead t).done (instKey 7 t) d ⟨St.ok, 0, 0, 0, false⟩ ok) :=
  State.wdrOp_done hs h hj (Nat.zero_le _) (by dsimp only; rw [if_neg (by simp [hm]), if_neg (by omega)]) rfl
end

/-- Settles O32: each command on a mounted cartridge, and each descriptor of its transport. -/
theorem cartridgeMemoryAndDescriptors : Obligations.CartridgeMemoryAndDescriptors := by
  unfold Obligations.CartridgeMemoryAndDescriptors
  rintro s t eid e b x k hs rfl rfl rfl hm
  refine ⟨fun hc hb hr => ⟨fun h hbad => cmRead_delivers hc hm hb hr h hbad, fun src h hbad => cmWrite_writes hc hm hb hr h hbad src⟩,
    fun h hc => tapeStatus_replies h hc, fun d src ok hsrc => ⟨fun h hj ho => wdrEncode_delivers hs hsrc h hj ho,
      fun h hj hw h1 => wdrWriteDs_writes hs hm hsrc h hj hw h1, fun h hj ho h3 => ⟨readStatus (wordsOf (s.tape t).words (s.tape t).wp (leAt d 32 4)),
        readStatus_length _, ?_⟩,
      fun h hj hd => wdrLocate_positions (src := src) hs hm h hj hd⟩⟩
  split
  next y hy => exact wdrReadDs_delivers (src := src) hs hm h hj ho h3 hy
  next hy => exact wdrReadDs_fails (src := src) hs hm h hj ho h3 hy

end Sys2Proof.Machine
end


section
/-! The writing of tape (R265 to R278, R284, R332). -/
namespace Sys2Proof.Machine

open Sys2Proof

section
variable {s : State} {t : Fin 2}

theorem State.rbit_setGate_same (s : State) (t : Nat) (b : Bool) : (s.setGate t b).rbit (Reg.wdrStatus t) 3 = b := by
  unfold State.setGate
  split
  next h => exact beq_iff_eq.1 h
  next => rw [State.rbit_emit, State.rbit_setRbit_off _ (srvStatus_ne_wdrStatus t).symm, State.rbit_setRbit_same _ _ _ _ (by decide)]

/-- While nothing is written the gate is closed. -/
theorem State.endWriting_effect (s : State) (t st : Nat) : (s.endWriting t st).wState t = st % 8
    ∧ (s.endWriting t st).rbit (Reg.wdrStatus t) 3 = false := by
  unfold State.endWriting State.setGlnMode
  constructor
  · rw [State.wState, State.rf_setRf_reg _ _ _ _ _ _ (glnStatus_ne_wdrStatus t).symm]
    exact State.wState_setWState _ t st
  · rw [State.rbit_setRf_off _ (glnStatus_ne_wdrStatus t).symm, State.setWState, State.rbit_setRf_apart _ _ _ _ _ (by decide) (by decide)
      (.inr (by decide)), State.rbit_setGate_same]

section
variable (hs : s.part.t2 = true)
include hs

theorem writeStart_starts {input : List Fetch} {u : State} (hj : ((s.tape t).job.any fun j => j.kind == .migrate) = true)
    (hw : s.wState t = 4) (hr : (s.tape t).recalRun = false) (hm : (s.tape t).mst = .mounted) (h15 : s.rbit (Reg.wdrStatus t) 15 = false)
    (hu : u = State.intake t input s) (hp : (u.tape t).plan ≠ .eodOut) (hwr : (u.tape t).toWrite = true)
    (hgo : (u.tape t).inputEnded = true ∨ u.par Par.startPct ≤ (u.tape t).fillPct) : execWriteStart t input s
      = .next (((u.setWState t 4).targetWrap t (u.tape t).apWrap).runStep t (u.tape t).startStep) := by
  unfold execWriteStart
  rw [State.atTape_t2 s hs]
  dsimp only
  rw [if_neg (by rw [hj]; simp [hw, hr, hm, h15]), ← hu, if_neg (by simp [hp]), if_neg (by simp [hwr]), if_pos (by simpa using hgo)]

theorem appendResume_writes (hw : s.wState t = 4) (hp : (s.tape t).placed = true) (h15 : s.rbit (Reg.wdrStatus t) 15 = false)
    (hg : (s.tape t).goal ≠ 0) (hr : (s.tape t).recalRun = false) :
    execAppendResume t s = .next ((s.onTape t fun y => { y with placed := false }).beginWriting t) := by
  unfold execAppendResume
  rw [State.atTape_t2 s hs]
  dsimp only
  rw [if_neg (by simp [hw, hp, h15, hg, hr])]

theorem frameVerdict_judges (dsn : Nat) {sds cwi : Nat} (v : Verdict) (h1 : sds < 64) (h2 : cwi < 157) :
    execFrameVerdict t dsn sds cwi v s = .next (s.verdict t dsn (157 * sds + cwi)
      (v.sm1 && v.crcOk && v.hdrOk && v.c1Ok && decide (v.corrected ≤ s.par Par.rwwMargin))) := by
  unfold execFrameVerdict
  rw [State.atTape_t2 s hs, if_neg (by simp; omega)]

theorem dataSetBoundary_writes (input : List Fetch) (hw : s.wState t = 2) :
    execDataSetBoundary t input s = .next (s.writeBoundary t input) := by
  unfold execDataSetBoundary
  rw [State.atTape_t2 s hs, hw]
  rfl

theorem dataSetBoundary_reads (input : List Fetch) (hw : s.wState t = 5) :
    execDataSetBoundary t input s = .next (s.readBoundary t) := by
  unfold execDataSetBoundary
  rw [State.atTape_t2 s hs, hw]
  rfl

theorem dataSetBoundary_recovers (input : List Fetch) (hw : s.wState t = 6) :
    execDataSetBoundary t input s = .next (s.recoverBoundary t) := by
  unfold execDataSetBoundary
  rw [State.atTape_t2 s hs, hw]
  rfl

theorem writeGap_stops (hw : s.wState t = 2) (hc : (s.tape t).cur = none) (hf : 4 ≤ (s.tape t).fillers) :
    execWriteGap t s = .next (s.endWriting t 3) := by
  unfold execWriteGap
  rw [State.atTape_t2 s hs]
  dsimp only
  rw [if_neg (by simp [hw, hc]; omega)]

theorem shortBufferStop_stops {k : Nat} (hk : (s.tape t).shortSince = some k) (ht : k + msTicks 2000 ≤ s.clk)
    (hb : (s.tape t).badAhead = false) (hl : (s.tape t).stream.length < dsBytes) (hi : (s.tape t).inputEnded = false)
    (hc : (s.tape t).cur = none) {u : State}
    (hu : u = (((s.onTape t fun y => { y with plan := .stop }).setWState t 2).bump (Reg.wdrCntEvents t) 31 16 1).writeNext t) :
    execShortBufferStop t s = .next (if u.wState t == 2 && u.gateOk t then u.setGate t true else u) := by
  unfold execShortBufferStop
  rw [State.atTape_t2 s hs]
  dsimp only
  rw [if_neg (by simp [hk, hb, hi, hc]; omega), ← hu]

theorem wrapEnd_turns (hw : s.wState t = 2) (hc : (s.tape t).cur = none) (hp : (s.tape t).plan = .go) (hf : s.wrapFull t = true)
    {u : State} (hu : u = ((s.onTape t fun y => { y with plan := .turn, badAhead := false }).setWState t 2).writeNext t) :
    execWrapEnd t true s = .next ((if u.wState t == 2 && u.gateOk t then u.setGate t true else u).preamp t true) := by
  unfold execWrapEnd
  rw [State.atTape_t2 s hs]
  dsimp only
  rw [if_neg (by simp [hw, hc, hp, hf]), ← hu]

theorem extentTapeCommit_host {rseq : Nat} {r : TRec} {e : Entry}
    (hr : (s.tape t).recs.find? (fun r => r.rseq == rseq && !r.pad) = some r) (hp : (s.tape t).recPassed r = true)
    (hh : r.host = true) (he : s.entry r.eid = some e) : execExtentTapeCommit t rseq s
      = .next ((((s.deliverTo e r.locAddr (leBytes 8 ((s.tape t).cmAt 8 8) ++ leBytes 4 r.dsn ++ leBytes 4 r.off)).onTape t fun y =>
        { y with recs := y.recs.filter fun q => q.rseq != rseq }).countEntry t r.eid true).settleJob t) := by
  unfold execExtentTapeCommit
  rw [State.atTape_t2 s hs]
  dsimp only
  rw [hr]
  dsimp only
  rw [if_neg (by simp [hp]), if_pos hh, he]

theorem cmEodUpdate_settles (hm : (s.tape t).mst = .mounted) (hp : (s.tape t).plan = .eodOut) (hc : (s.tape t).cur = none)
    (hd : ∀ w ∈ (s.tape t).sets, w.done = true) {u : State}
    (hu : u = ((s.onTape t fun y => { y with sets := [], pend := [], copies := [] }).cmUpdate t).stopWriting t) :
    execCmEodUpdate t true true s = .next ((u.onJob t fun j => { j with flush := false }).settleJob t) := by
  have hdone : ((s.tape t).sets.all fun w => w.done || w.kind == knEod) = true := List.all_eq_true.2 fun w hw => by rw [hd w hw]; rfl
  unfold execCmEodUpdate
  rw [State.atTape_t2 s hs]
  dsimp only
  rw [if_neg (by simp [hm]), if_neg (by rw [hdone]; simp [hp, hc])]
  simp only [Bool.or_self, if_true]
  rw [← hu, if_neg (by simp [hm])]

theorem writeGateReopen_opens (slot : Nat) (h3 : s.rbit (Reg.wdrStatus t) 3 = false) (hg : s.gateOk t = true)
    (hok : max 1 (s.rf (Reg.glnSrvWi t) 15 12) ≤ (s.tape t).okRun) (hc : (s.tape t).cur.isSome = true)
    (hi : (s.tape t).inhibit = none) : execWriteGateReopen t slot s
      = .next ((s.onTape t fun y => { y with inhibit := none }).setGate t true) := by
  have hcur : (s.tape t).cur.isNone = false := by rw [← Option.not_isSome, hc]; rfl
  unfold execWriteGateReopen
  rw [State.atTape_t2 s hs]
  dsimp only
  rw [if_neg (by rw [h3, hg, hcur]; simp [Nat.not_lt.2 hok]), hi]
end
end

/-- Settles O33: each step of writing. -/
theorem tapeWriting : Obligations.TapeWriting := by
  unfold Obligations.TapeWriting
  rintro s t x hs rfl
  exact ⟨fun input u hj hw hr hm h15 hu hp hwr hgo => writeStart_starts hs hj hw hr hm h15 hu hp hwr hgo,
    fun hw hp h15 hg hr => appendResume_writes hs hw hp h15 hg hr,
    fun dsn sds cwi v h1 h2 => frameVerdict_judges hs dsn v h1 h2,
    fun input => ⟨dataSetBoundary_writes hs input, dataSetBoundary_reads hs input, dataSetBoundary_recovers hs input⟩,
    fun hw hc hf => ⟨_, writeGap_stops hs hw hc hf, State.endWriting_effect s t 3⟩,
    fun k u hk ht hb hl hi hc hu => shortBufferStop_stops hs hk ht hb hl hi hc hu,
    fun u hw hc hp hf hu => wrapEnd_turns hs hw hc hp hf hu,
    fun rseq r e hr hp hh he => extentTapeCommit_host hs hr hp hh he,
    fun hm hp hc hd u hu => cmEodUpdate_settles hs hm hp hc hd hu,
    fun slot h3 hg hok hc hi => writeGateReopen_opens hs slot h3 hg hok hc hi⟩

end Sys2Proof.Machine
end


section
/-! Gleaner's reading, and what a recall makes of what was read (R286, R294 to R307, R309). -/
namespace Sys2Proof.Machine

open Sys2Proof

theorem KMap.get?_mapV {α : Type} (m : KMap α) (f : Nat → α → α) (k : Nat) :
    KMap.get? (KMap.mapV m f) k = (KMap.get? m k).map (f k) := by
  induction m with
  | nil => rfl
  | cons e m ih =>
    unfold KMap.mapV at ih
    simp only [KMap.mapV, List.map_cons, KMap.get?]
    split
    next h => rw [h]; rfl
    next => exact ih

/-! ### Tracks -/

section
variable (s : State) (t k : Nat)

theorem State.trk_congr {s u : State} {t : Nat} (h : (u.tape t).tracks = (s.tape t).tracks) (k : Nat) : u.trk t k = s.trk t k := by
  unfold State.trk
  rw [h]

@[simp] theorem State.tape_showLocked (j : Nat) : (s.showLocked t).tape j = s.tape j := State.tape_setRf s j _ _ _ _

@[simp] theorem State.tape_setTrk (x : Trk) : (s.setTrk t k x).tape t = { s.tape t with tracks := KMap.put (s.tape t).tracks k x } := by
  unfold State.setTrk
  rw [State.tape_showLocked, State.tape_onTape_same]

@[simp] theorem State.trk_setTrk_same (x : Trk) : (s.setTrk t k x).trk t k = x := by
  unfold State.trk
  rw [State.tape_setTrk, KMap.getD_put_same]

theorem State.trk_setTrk_other (x : Trk) {j : Nat} (h : j ≠ k) : (s.setTrk t k x).trk t j = s.trk t j := by
  unfold State.trk
  rw [State.tape_setTrk]
  exact KMap.getD_put_other _ _ _ h

theorem State.reg_setTrk (x : Trk) {o : Nat} (h : o ≠ Reg.glnStatus t) : (s.setTrk t k x).reg o = s.reg o := by
  unfold State.setTrk State.showLocked
  rw [State.reg_setRf_other _ _ _ _ h, State.reg_onTape]

theorem State.rf_setTrk (x : Trk) {o : Nat} (h : o ≠ Reg.glnStatus t) (hi lo : Nat) : (s.setTrk t k x).rf o hi lo = s.rf o hi lo := by
  unfold State.rf
  rw [State.reg_setTrk s t k x h]

theorem State.rbit_setTrk (x : Trk) {o : Nat} (h : o ≠ Reg.glnStatus t) (i : Nat) : (s.setTrk t k x).rbit o i = s.rbit o i := by
  unfold State.rbit
  rw [State.rf_setTrk s t k x h]

/-- A track takes up the zone that is next at its next preamble. -/
def State.noteNext (s : State) (t : Nat) (z : Nat × Nat) (k : Nat) : State := s.setTrk t k { s.trk t k with nextZone := some z }

theorem State.foldl_noteNext (z : Nat × Nat) (n : Nat) :
    (∃ ts, (((List.range n).foldl (fun s k => s.noteNext t z k) s).tape t) = { s.tape t with tracks := ts })
    ∧ ∀ k < n, (((List.range n).foldl (fun s k => s.noteNext t z k) s).trk t k).nextZone = some z := by
  induction n with
  | zero => exact ⟨⟨_, rfl⟩, fun k hk => absurd hk (Nat.not_lt_zero k)⟩
  | succ n ih =>
    obtain ⟨⟨ts, htape⟩, hnext⟩ := ih
    rw [List.range_succ, List.foldl_append]
    generalize (List.range n).foldl (fun s k => s.noteNext t z k) s = u at htape hnext ⊢
    refine ⟨⟨_, (State.tape_setTrk u t n _).trans (by rw [htape])⟩, fun k hk => ?_⟩
    rcases Nat.lt_succ_iff_lt_or_eq.1 hk with hk | rfl
    · exact (congrArg Trk.nextZone (State.trk_setTrk_other u t n _ (Nat.ne_of_lt hk))).trans (hnext k hk)
    · exact congrArg Trk.nextZone (State.trk_setTrk_same u t k _)
end

theorem errGln_apart (t : Nat) : (errGln t).Apart :=
  ⟨by simp [errGln], by simp [errGln], by simp [errGln], by simp [errGln]⟩

section
variable (t : Nat)
theorem glnErr_ne_glnStatus : Reg.glnErr t ≠ Reg.glnStatus t := tapeReg_ne t (by decide)
theorem glnErr_ne_cntTiming : Reg.glnErr t ≠ Reg.glnCntTiming t := tapeReg_ne t (by decide)
theorem cntTiming_ne_glnStatus : Reg.glnCntTiming t ≠ Reg.glnStatus t := tapeReg_ne t (by decide)
end

/-- The first error of a transport's Gleaner on a track. -/
theorem State.latch_gln {s : State} {t : Nat} (hv : s.rbit (Reg.glnErr t) 31 = false) (k : Fin 64) {cause : Nat} (hc : cause < 16) :
    (s.latch (errGln t) k cause).rbit (Reg.glnErr t) 31 = true ∧ (s.latch (errGln t) k cause).rf (Reg.glnErr t) 11 8 = cause
    ∧ (s.latch (errGln t) k cause).rf (Reg.glnErr t) 5 0 = (k : Nat) := by
  obtain ⟨hcause, hvalid⟩ := State.latch_first (errGln_apart t) hv k cause
  exact ⟨hvalid, hcause.trans (Nat.mod_eq_of_lt hc), (State.latch_first_inst (errGln_apart t) (by simp [errGln]) hv k cause).trans
    (Nat.mod_eq_of_lt k.isLt)⟩

/-- What the recovery engine makes of a frame, by what it decodes. -/
def State.recoveryEnds (s : State) (t : Nat) (f : RecFrame) : Option (Bytes × Nat) → State
  | some (info, corr) => (s.keepWordOf t ⟨f.dsn, f.kind, f.sds, f.cwi, f.wp, padTo info 960, corr⟩).bump (Reg.glnCntRec t) 15 0 1
  | none => s.bump (Reg.glnCntRec t) 31 16 1

section
variable {s : State} {t : Fin 2} (hs : s.part.t2 = true)
include hs

theorem trackPreamble_locks (k : Fin 64) (hv : s.speedOk t = true) : ∃ u : State, execTrackPreamble t k s = .next u
    ∧ (u.trk t k).lock = true ∧ (u.trk t k).fill = 32 ∧ (u.trk t k).erased = false ∧ (u.trk t k).centred = true
    ∧ (u.trk t k).regs = s.glnWords t ∧ ∀ j, j ≠ (k : Nat) → u.trk t j = s.trk t j := by
  unfold execTrackPreamble
  rw [State.atTape_t2 s hs]
  dsimp only
  rw [if_neg (by simp [hv])]
  refine ⟨_, rfl, ?_⟩
  rw [State.trk_setTrk_same]
  refine ⟨?_, ?_, ?_, ?_, ?_, fun j hj => State.trk_setTrk_other _ _ _ _ hj⟩ <;> split <;> rfl

theorem elasticSlip_erases (k : Fin 64) (hc : (s.trk t k).centred = true) (hv : s.speedOk t = true)
    (he : s.rbit (Reg.glnErr t) 31 = false) : ∃ u : State, execElasticSlip t k s = .next u ∧ (u.trk t k).erased = true
    ∧ u.rbit (Reg.glnErr t) 31 = true ∧ u.rf (Reg.glnErr t) 11 8 = 2 ∧ u.rf (Reg.glnErr t) 5 0 = (k : Nat)
    ∧ u.rf (Reg.glnCntTiming t) 15 0 = min 0xFFFF (s.rf (Reg.glnCntTiming t) 15 0 + 1) := by
  unfold execElasticSlip
  rw [State.atTape_t2 s hs]
  dsimp only
  rw [if_neg (by simp [hc, hv])]
  generalize hx : ({ s.trk t k with erased := true, fill := _ } : Trk) = x
  have he' : ((s.setTrk t k x).nextDraw).rbit (Reg.glnErr t) 31 = false :=
    (State.rbit_setTrk s t k x (glnErr_ne_glnStatus t) 31).trans he
  obtain ⟨hvalid, hcause, hinst⟩ := State.latch_gln he' k (cause := 2) (by decide)
  refine ⟨_, rfl, ?_, ?_, ?_, ?_, ?_⟩
  · rw [State.trk_congr (s := s.setTrk t k x) (by rw [State.tape_bump, State.tape_latch, State.tape_nextDraw]), State.trk_setTrk_same, ← hx]
  · rw [State.rbit_bump_off _ (glnErr_ne_cntTiming t), hvalid]
  · rw [State.rf_bump_off _ (glnErr_ne_cntTiming t), hcause]
  · rw [State.rf_bump_off _ (glnErr_ne_cntTiming t), hinst]
  · rw [State.rf_bump_same _ _ _ _ _ (by decide) (by decide), State.rf, State.latch_reg_other _ _ _ _ (glnErr_ne_cntTiming t).symm]
    exact congrArg (fun n => min 0xFFFF (n + 1)) (State.rf_setTrk s t k x (cntTiming_ne_glnStatus t) 15 0)

theorem lockLoss_unlocks (k : Fin 64) (hl : (s.trk t k).lock = true) (he : s.rbit (Reg.glnErr t) 31 = false) :
    ∃ u : State, execLockLoss t k s = .next u ∧ (u.trk t k).lock = false ∧ u.rf (Reg.glnErr t) 11 8 = 3
      ∧ u.rf (Reg.glnErr t) 5 0 = (k : Nat) := by
  unfold execLockLoss
  rw [State.atTape_t2 s hs]
  dsimp only
  rw [if_neg (by simp [hl])]
  generalize hx : ({ s.trk t k with lock := false } : Trk) = x
  obtain ⟨-, hcause, hinst⟩ := State.latch_gln ((State.rbit_setTrk s t k x (glnErr_ne_glnStatus t) 31).trans he) k (cause := 3) (by decide)
  refine ⟨_, rfl, ?_, ?_, ?_⟩
  · rw [State.trk_congr (s := s.setTrk t k x) (by rw [State.tape_bump, State.tape_latch]), State.trk_setTrk_same, ← hx]
  · rw [State.rf_bump_off _ (glnErr_ne_cntTiming t), hcause]
  · rw [State.rf_bump_off _ (glnErr_ne_cntTiming t), hinst]

theorem frameReceived_sm1 (k : Fin 64) (f : RxFrame) {p : Nat} {h : BitVec 64} (hv : s.speedOk t = true) (hc : (s.trk t k).centred = true)
    (he : (s.trk t k).erased = false) (hm : s.rf (Reg.glnStatus t) 2 0 = 2) (hf : (s.trk t k).frame f = .sm1 p h) :
    ∃ u : State, execFrameReceived t k f s = .next (u.decodeFrame t (identOf k h) (fieldOf h.toNat 39 34) false
        ((s.trk t k).field 4 0 0 == 1) f.bits)
      ∧ (u.trk t k).lastSm1 = some p ∧ (u.tape t).words = (s.tape t).words := by
  unfold execFrameReceived
  rw [State.atTape_t2 s hs]
  dsimp only
  rw [hm, if_neg (by simp [hv, hc]), if_neg (by simp [he]), hf]
  dsimp only
  rw [if_pos (by decide)]
  generalize hx : ({ s.trk t k with lastSm1 := some p, predict := none, slot := _ } : Trk) = x
  refine ⟨_, rfl, ?_, ?_⟩
  · rw [State.trk_congr (s := s.setTrk t k x) (by rw [State.tape_onTape_same, State.tape_addPair]), State.trk_setTrk_same, ← hx]
  · rw [State.tape_onTape_same, State.tape_addPair, State.tape_setTrk]

/-! ### Speed and recovery -/

theorem speedOkChange_erases (hv : s.speedOk t = true) (hlow : s.rf (Reg.glnSrvPes t) 31 16 < 1450) : ∃ u : State,
    execSpeedOkChange t false s = .next u ∧ u.speedOk t = false
    ∧ ∀ k, KMap.get? (s.tape t).tracks k ≠ none → (u.trk t k).lock = false ∧ (u.trk t k).erased = true := by
  unfold execSpeedOkChange
  rw [State.atTape_t2 s hs]
  dsimp only
  rw [if_neg (by simp [hv]; omega), if_neg (by decide)]
  refine ⟨_, rfl, ?_, fun k hk => ?_⟩
  · unfold State.speedOk State.showLocked
    rw [State.rbit_setRf_apart _ _ _ _ _ (by decide) (by decide) (.inl (by decide)), State.rbit_onTape,
      State.rbit_setRbit_same _ _ _ _ (by decide)]
  · obtain ⟨y, hy⟩ := Option.ne_none_iff_exists'.1 hk
    rw [State.trk, State.tape_showLocked, State.tape_onTape_same, State.tape_setRbit, KMap.getD, KMap.get?_mapV, hy]
    exact ⟨rfl, rfl⟩

section
variable {f : RecFrame} {rest : List RecFrame} (hq : (s.tape t).recQ = f :: rest) (hw : (s.tape t).hasWord f.dsn f.sds f.cwi f.wp = false)
  (hm : s.rf (Reg.glnStatus t) 2 0 = 4)
include hq hw hm

theorem recoveryDecode_takes : execRecoveryDecode t s = .next ((s.onTape t fun x => { x with recQ := rest }).recoveryEnds t f
    (Config.recoverDecode ((s.trk t f.track).field 4 7 4) ((s.trk t f.track).field 4 11 8) f.sm2 f.bits)) := by
  have htrk : (s.onTape t fun x => { x with recQ := rest }).trk t f.track = s.trk t f.track :=
    State.trk_congr (by rw [State.tape_onTape_same]) _
  unfold execRecoveryDecode
  rw [State.atTape_t2 s hs]
  dsimp only
  rw [hq]
  dsimp only
  rw [State.rf_onTape, if_pos hm, if_neg (by rw [State.tape_onTape_same]; exact ne_true_of_eq_false hw), htrk]
  cases Config.recoverDecode ((s.trk t f.track).field 4 7 4) ((s.trk t f.track).field 4 11 8) f.sm2 f.bits <;> rfl

theorem recoveryDecode_some {info : Bytes} {n : Nat} (hd : Config.recoverDecode ((s.trk t f.track).field 4 7 4)
    ((s.trk t f.track).field 4 11 8) f.sm2 f.bits = some (info, n)) : ∃ u : State, execRecoveryDecode t s = .next u
      ∧ (u.tape t).recQ = rest ∧ (u.tape t).words = (s.tape t).words ++ [⟨f.dsn, f.kind, f.sds, f.cwi, f.wp, padTo info 960, n⟩]
      ∧ u.rf (Reg.glnCntRec t) 15 0 = min 0xFFFF (s.rf (Reg.glnCntRec t) 15 0 + 1) := by
  refine ⟨_, (recoveryDecode_takes hs hq hw hm).trans (by rw [hd]), ?_⟩
  unfold State.recoveryEnds
  rw [State.tape_bump, State.keepWordOf, State.tape_onTape_same, State.tape_onTape_same, if_neg (by exact ne_true_of_eq_false hw)]
  refine ⟨rfl, rfl, ?_⟩
  rw [State.rf_bump_same _ _ _ _ _ (by decide) (by decide), State.keepWordOf, State.rf_onTape, State.rf_onTape]
  rfl

theorem recoveryDecode_none (hd : Config.recoverDecode ((s.trk t f.track).field 4 7 4)
    ((s.trk t f.track).field 4 11 8) f.sm2 f.bits = none) : ∃ u : State, execRecoveryDecode t s = .next u
      ∧ (u.tape t).recQ = rest ∧ (u.tape t).words = (s.tape t).words
      ∧ u.rf (Reg.glnCntRec t) 31 16 = min 0xFFFF (s.rf (Reg.glnCntRec t) 31 16 + 1) := by
  refine ⟨_, (recoveryDecode_takes hs hq hw hm).trans (by rw [hd]), ?_⟩
  unfold State.recoveryEnds
  rw [State.tape_bump, State.tape_onTape_same]
  refine ⟨rfl, rfl, ?_⟩
  rw [State.rf_bump_same _ _ _ _ _ (by decide) (by decide), State.rf_onTape]
  rfl
end

theorem reread_starts (hw : s.wState t = 5) (hr : (s.tape t).rereads < s.rf (Reg.glnRec t) 19 16)
    (hg : KMap.get? (s.tape t).got (s.readDsn t) = none) (hl : s.readDsn t ∉ (s.tape t).lost)
    (hn : restoreSet (s.tape t).words (s.tape t).wp (s.readDsn t) = none) : ∃ u : State, execReread t s = .next u
      ∧ (u.tape t).rereads = (s.tape t).rereads + 1 ∧ u.rf (Reg.glnStatus t) 2 0 = 4
      ∧ u.out = s.out ++ [.tape t "LOCATE_DSN" (s.readDsn t) []] := by
  unfold execReread
  rw [State.atTape_t2 s hs]
  dsimp only
  rw [if_neg (by simp [hw, hg, hl, hn]; omega)]
  refine ⟨_, rfl, ?_, ?_, ?_⟩
  · rw [State.tape_runStep_same, State.tape_setGlnMode, State.tape_emit, State.tape_onTape_same]
  · unfold State.runStep State.run
    rw [State.rf_setRbit_off _ (glnStatus_ne_wdrStatus t), State.rf_onTape, State.rf_setRf_reg _ _ _ _ _ _ (glnStatus_ne_wdrStatus t)]
    exact State.rf_setRf_same _ _ _ _ _ (by decide) (by decide)
  · unfold State.runStep State.run
    refine (State.onTape_out _ _ _).trans ?_
    exact congrArg (· ++ [Tx.tape t "LOCATE_DSN" (s.readDsn t) []]) (State.onTape_out s t _)

/-! ### Recall -/

omit hs in
theorem TJob.filter_recall {j : TJob} (hk : j.kind = .recall) : ((some j).filter fun j : TJob => j.kind == .recall) = some j := by
  rw [Option.filter_some, if_pos (by simp [hk])]

omit hs in
theorem TEntry.filter_head (e : TEntry) (rest : List TEntry) :
    ((e :: rest).head?.filter fun x : TEntry => x.idx == e.idx) = some e := by
  rw [List.head?_cons, Option.filter_some, if_pos (beq_self_eq_true e.idx)]

section
variable {j : TJob} {e : TEntry} {rest : List TEntry} {r : FoundRec} (hj : (s.tape t).job = some j) (hk : j.kind = .recall)
  (he : j.entries = e :: rest) (hr : (s.tape t).recordAt e.dsn e.off = some r)
include hj hk he hr

theorem recallCommit_lost (hl : r.lost = true) :
    execRecallCommit t e.idx true s = .next (s.entryEnds t e.idx (some (St.mediaError, 0x1601))) := by
  unfold execRecallCommit
  rw [State.atTape_t2 s hs]
  dsimp only
  rw [hj, TJob.filter_recall hk]
  dsimp only
  rw [he, TEntry.filter_head]
  dsimp only
  rw [hr]
  dsimp only
  rw [if_pos hl]

theorem recallCommit_mismatch (hl : r.lost = false) (ho : r.ok = false) :
    execRecallCommit t e.idx true s = .next (s.entryEnds t e.idx (some (St.checkMismatch, 0x1601))) := by
  unfold execRecallCommit
  rw [State.atTape_t2 s hs]
  dsimp only
  rw [hj, TJob.filter_recall hk]
  dsimp only
  rw [he, TEntry.filter_head]
  dsimp only
  rw [hr]
  dsimp only
  rw [if_neg (by simp [hl]), if_pos (by simp [ho])]

theorem recallCommit_host {c : Entry} {body : Bytes} (hl : r.lost = false) (ho : r.ok = true) (hh : j.host = true)
    (h2 : leAt r.head 1 1 = 2) (hb : openHost r.body = (body, true)) (hlen : body.length ≤ e.len) (hc : s.entry j.eid = some c) :
    execRecallCommit t e.idx true s = .next ((s.deliverTo c e.id body).entryEnds t e.idx none) := by
  unfold execRecallCommit
  rw [State.atTape_t2 s hs]
  dsimp only
  rw [hj, TJob.filter_recall hk]
  dsimp only
  rw [he, TEntry.filter_head]
  dsimp only
  rw [hr]
  dsimp only
  rw [if_neg (by simp [hl]), if_neg (by simp [ho]), if_pos hh, hb]
  dsimp only
  rw [if_neg (by simp [h2]), if_neg (by omega), hc, if_pos rfl]
end

/-! ### Zones -/

theorem zoneBoundaryCross_loads (z : Fin 64) (hok : s.ladOk t = true) (hz : (s.tape t).zoneAt (s.finePos t) = (z : Nat))
    (hne : s.rf (Reg.wdrPos t) 13 8 ≠ (z : Nat)) (hv : s.speedOk t = false) (hbad : (s.tape t).zoneBad (s.tape t).wrap z = false)
    (ha : (s.tape t).badAhead = false) (hp : (s.tape t).passWarned = true) : ∃ u : State, execZoneBoundaryCross t z [] s = .next u
      ∧ u.rf (Reg.wdrPos t) 13 8 = (z : Nat) ∧ (∀ k, k < 64 → (u.trk t k).nextZone = some ((s.tape t).wrap, (z : Nat)))
      ∧ (u.tape t).zonePass = (s.tape t).zonePass.set z ((s.tape t).zonePass.getD z 0 + 1) := by
  obtain ⟨⟨ts, htape⟩, hnext⟩ := State.foldl_noteNext s t ((s.tape t).wrap, (z : Nat)) 64
  unfold execZoneBoundaryCross
  rw [State.atTape_t2 s hs]
  dsimp only
  rw [if_neg (by simp [hok, hz, hne]), if_neg (ne_true_of_eq_false hbad), if_neg (ne_true_of_eq_false ha), if_neg (ne_true_of_eq_false hv),
    if_neg (by simp [hp])]
  refine ⟨_, rfl, ?_, fun k hk => ?_, ?_⟩
  · rw [State.rf_onTape, State.rf_setRf_same _ _ _ _ _ (by decide) (by decide)]
    exact Nat.mod_eq_of_lt z.isLt
  · refine Eq.trans (congrArg Trk.nextZone (State.trk_congr ?_ k)) (hnext k hk)
    rw [State.tape_onTape_same, State.tape_setRf]
    rfl
  · rw [State.tape_onTape_same, State.tape_setRf]
    have hpass := congrArg Tape.zonePass htape
    exact congrArg (fun l : List Nat => l.set z (l.getD z 0 + 1)) hpass
end

/-- Settles O34: each step of reading. -/
theorem gleanerReading : Obligations.GleanerReading := by
  unfold Obligations.GleanerReading
  rintro s t x hs rfl
  refine ⟨fun k f => ⟨trackPreamble_locks hs k, elasticSlip_erases hs k, lockLoss_unlocks hs k,
      fun p h hv hc he hm hf => frameReceived_sm1 hs k f hv hc he hm hf⟩, speedOkChange_erases hs, fun f rest hq hw hm => ?_,
    reread_starts hs, fun j e rest r hj hk he hr => ⟨recallCommit_lost hs hj hk he hr, recallCommit_mismatch hs hj hk he hr,
      fun c body hl ho hh h2 hb hlen hc => recallCommit_host hs hj hk he hr hl ho hh h2 hb hlen hc⟩,
    zoneBoundaryCross_loads hs⟩
  cases hd : Config.recoverDecode ((s.trk t f.track).field 4 7 4) ((s.trk t f.track).field 4 11 8) f.sm2 f.bits with
  | none => exact recoveryDecode_none hs hq hw hm hd
  | some w => exact recoveryDecode_some hs hq hw hm hd

end Sys2Proof.Machine
end


section
/-! The servo, the write gate's own events, and the reels (R319 to R323, R327, R331, R332). -/
namespace Sys2Proof.Machine

open Sys2Proof

theorem errSrv_apart (t : Nat) : (errSrv t).Apart :=
  ⟨by simp [errSrv], by simp [errSrv], by simp [errSrv], by simp [errSrv]⟩

section
variable (t : Nat)
theorem srvErr_ne_srvStatus : Reg.glnSrvErr t ≠ Reg.glnSrvStatus t := tapeReg_ne t (by decide)
theorem srvErr_ne_srvCnt : Reg.glnSrvErr t ≠ Reg.glnSrvCnt t := tapeReg_ne t (by decide)
theorem srvCnt_ne_srvStatus : Reg.glnSrvCnt t ≠ Reg.glnSrvStatus t := tapeReg_ne t (by decide)
theorem srvCnt_ne_wdrStatus : Reg.glnSrvCnt t ≠ Reg.wdrStatus t := tapeReg_ne t (by decide)
end

theorem State.rbit_setRbit_apart (s : State) (off : Nat) {i j : Nat} (b : Bool) (hi : i < 32) (h : j ≠ i) :
    (s.setRbit off i b).rbit off j = s.rbit off j :=
  State.rbit_setRf_apart s off i i (b2n b) (Nat.le_refl i) hi (by omega)

/-- Driving the gate leaves every register but the two that show it. -/
theorem State.rf_setGate_other (s : State) (t : Nat) (b : Bool) {o : Nat} (hi lo : Nat) (hw : o ≠ Reg.wdrStatus t)
    (hg : o ≠ Reg.glnSrvStatus t) : (s.setGate t b).rf o hi lo = s.rf o hi lo := by
  unfold State.setGate
  split
  · rfl
  · rw [State.rf_emit, State.rf_setRbit_off _ hg, State.rf_setRbit_off _ hw]

section
variable {s : State} {t : Fin 2} (hs : s.part.t2 = true)
include hs

theorem servoSample_none (speed : Nat) (hm : (s.tape t).mst = .mounted) : ∃ u : State, execServoSample t [] speed s = .next u
    ∧ (u.tape t).badRun = (s.tape t).badRun + 1 ∧ (u.tape t).goodRun = 0 ∧ (u.tape t).okRun = 0 ∧ (u.tape t).u = (s.tape t).u
    ∧ (u.tape t).travel = (s.tape t).travel + 25 * speed
    ∧ u.out = s.out ++ [.actuator t (if (s.tape t).coarse then actuatorWord 2 ((s.tape t).wrap / 32)
      else actuatorWord 1 (word16 (s.tape t).u))] := by
  unfold execServoSample
  rw [State.atTape_t2 s hs]
  dsimp only
  simp only [List.filter_nil, List.any_nil, List.isEmpty_nil, Bool.or_self, Bool.and_self, Bool.false_eq_true, if_false, if_true]
  generalize hv : s.setRf (Reg.glnSrvStatus t) 4 1 _ = v
  have hvtape : v.tape t = s.tape t := by rw [← hv, State.tape_setRf]
  have hvout : v.out = s.out := by rw [← hv]; rfl
  generalize hw : (if State.ladOk _ _ then _ else _ : State) = w
  have hwtape : w.tape t = { s.tape t with goodRun := 0, badRun := (s.tape t).badRun + 1, okRun := 0
                                           travel := (s.tape t).travel + 25 * speed } := by
    rw [← hw]
    split <;> simp [hvtape]
  have hwout : w.out = s.out := by
    rw [← hw]
    split
    · exact ((State.onTape_out _ _ _).trans (State.onTape_out _ _ _)).trans hvout
    · exact ((State.onTape_out _ _ _).trans (State.onTape_out _ _ _)).trans hvout
  rw [if_neg (by simp [hwtape, hm])]
  refine ⟨_, rfl, ?_⟩
  unfold State.actuatorFrame
  dsimp only
  rw [State.tape_emit, hwtape, if_neg (by simp [hm])]
  exact ⟨rfl, rfl, rfl, rfl, rfl, congrArg (· ++ _) hwout⟩

theorem servoLock_locks (hl : s.servoLocked t = false) (hg : 8 ≤ (s.tape t).goodRun) : ∃ u : State, execServoLock t s = .next u
    ∧ u.servoLocked t = true ∧ (u.tape t).coarse = false ∧ u.out = s.out ∧ ∀ o, o ≠ Reg.glnSrvStatus t → u.reg o = s.reg o := by
  unfold execServoLock
  rw [State.atTape_t2 s hs]
  rw [if_neg (by simp [hl]; omega)]
  refine ⟨_, rfl, ?_, ?_, State.onTape_out _ _ _, fun o ho => ?_⟩
  · rw [State.servoLocked, State.rbit_onTape, State.rbit_setRbit_same _ _ _ _ (by decide)]
  · rw [State.tape_onTape_same]
  · rw [State.reg_onTape, State.reg_setRbit_other _ _ _ ho]

theorem servoUnlock_unlocks (hl : s.servoLocked t = true) (hb : 4 ≤ (s.tape t).badRun) (he : s.rbit (Reg.glnSrvErr t) 31 = false) :
    ∃ u : State, execServoUnlock t s = .next u ∧ u.servoLocked t = false ∧ u.ladOk t = false ∧ u.rbit (Reg.glnSrvErr t) 31 = true
      ∧ u.rf (Reg.glnSrvErr t) 11 8 = 1 ∧ u.rf (Reg.glnSrvCnt t) 31 16 = min 0xFFFF (s.rf (Reg.glnSrvCnt t) 31 16 + 1) := by
  unfold execServoUnlock
  rw [State.atTape_t2 s hs]
  rw [if_neg (by simp [hl]; omega)]
  generalize hv : (State.onTape _ _ _ : State) = v
  have h0 : v.rbit (Reg.glnSrvStatus t) 0 = false := by
    rw [← hv, State.rbit_onTape, State.rbit_setRbit_apart _ _ _ (by decide) (by decide), State.rbit_setRbit_same _ _ _ _ (by decide)]
  have h5 : v.rbit (Reg.glnSrvStatus t) 5 = false := by
    rw [← hv, State.rbit_onTape, State.rbit_setRbit_same _ _ _ _ (by decide)]
  have he' : v.rbit (errSrv t).off 31 = false := by
    rw [← hv, State.rbit_onTape]
    exact ((State.rbit_setRbit_off _ (srvErr_ne_srvStatus t) _ _ _).trans (State.rbit_setRbit_off _ (srvErr_ne_srvStatus t) _ _ _)).trans he
  have hcnt : v.rf (Reg.glnSrvCnt t) 31 16 = s.rf (Reg.glnSrvCnt t) 31 16 := by
    rw [← hv, State.rf_onTape, State.rf_setRbit_off _ (srvCnt_ne_srvStatus t), State.rf_setRbit_off _ (srvCnt_ne_srvStatus t)]
  have hstatus : ∀ i, ((v.latch (errSrv t) 0 1).bump (Reg.glnSrvCnt t) 31 16 1).rbit (Reg.glnSrvStatus t) i
      = v.rbit (Reg.glnSrvStatus t) i := fun i => by
    rw [State.rbit_bump_off _ (srvCnt_ne_srvStatus t).symm, State.rbit, State.rf,
      State.latch_reg_other _ _ _ _ (srvErr_ne_srvStatus t).symm]
    rfl
  obtain ⟨hcause, hvalid⟩ := State.latch_first (errSrv_apart t) he' 0 1
  refine ⟨_, rfl, (hstatus 0).trans h0, (hstatus 5).trans h5, ?_, ?_, ?_⟩
  · rw [State.rbit_bump_off _ (srvErr_ne_srvCnt t)]
    exact hvalid
  · rw [State.rf_bump_off _ (srvErr_ne_srvCnt t)]
    exact hcause
  · rw [State.rf_bump_same _ _ _ _ _ (by decide) (by decide), State.rf, State.latch_reg_other _ _ _ _ (srvErr_ne_srvCnt t).symm]
    exact congrArg (fun n => min 0xFFFF (n + 1)) hcnt

theorem writeGateClose_closes (slot : Nat) (h3 : s.rbit (Reg.wdrStatus t) 3 = true) (hg : s.gateOk t = false) :
    ∃ u : State, execWriteGateClose t slot s = .next u ∧ u.rbit (Reg.wdrStatus t) 3 = false
      ∧ u.out = s.out ++ [.pin "WG" t false]
      ∧ (s.wState t = 2 → (s.onTrack t = false ∨ s.inArea t = false) → (u.tape t).inhibit = some slot
        ∧ u.rf (Reg.glnSrvCnt t) 15 0 = min 0xFFFF (s.rf (Reg.glnSrvCnt t) 15 0 + 1)) := by
  have hout : (s.setGate t false).out = s.out ++ [.pin "WG" t false] := by
    unfold State.setGate
    rw [h3, if_neg (by decide)]
    rfl
  have hgate := State.rbit_setGate_same s t false
  have hcnt := State.rf_setGate_other s t false 15 0 (srvCnt_ne_wdrStatus t) (srvCnt_ne_srvStatus t)
  unfold execWriteGateClose
  rw [State.atTape_t2 s hs]
  dsimp only
  rw [if_neg (by simp [h3, hg])]
  refine ⟨_, rfl, ?_⟩
  split
  next =>
    refine ⟨?_, ?_, fun _ _ => ⟨?_, ?_⟩⟩
    · rw [State.rbit_bump_off _ (srvCnt_ne_wdrStatus t).symm, State.rbit_onTape, hgate]
    · exact (State.onTape_out _ _ _).trans hout
    · rw [State.tape_bump, State.tape_onTape_same]
    · rw [State.rf_bump_same _ _ _ _ _ (by decide) (by decide), State.rf_onTape, hcnt]
      rfl
  next hoff =>
    exact ⟨hgate, hout, fun hw hor => absurd (by rcases hor with h | h <;> simp [hw, h]) hoff⟩

theorem reelSetpointFrame_ramps (h : (s.tape t).speed ≤ (s.tape t).goal) : ∃ u : State, execReelSetpointFrame t s = .next u
    ∧ (u.tape t).speed = (if (s.tape t).speed < (s.tape t).goal then min (s.tape t).goal ((s.tape t).speed + (s.tape t).rate)
      else (s.tape t).goal)
    ∧ (u.tape t).goal = (s.tape t).goal ∧ ∃ frame, u.out = s.out ++ [.reel t frame] := by
  unfold execReelSetpointFrame
  rw [State.atTape_t2 s hs]
  refine ⟨_, rfl, ?_, ?_, ⟨_, congrArg (· ++ [Tx.reel t _]) (State.onTape_out _ _ _)⟩⟩
  · rw [State.tape_setRf, State.tape_emit, State.tape_onTape_same]
    dsimp only
    split
    · rfl
    · omega
  · rw [State.tape_setRf, State.tape_emit, State.tape_onTape_same]
end

/-- Settles O35: each event of the servo, the gate and the reels. -/
theorem servoAndReels : Obligations.ServoAndReels := by
  unfold Obligations.ServoAndReels
  rintro s t x hs rfl
  exact ⟨fun speed hm => servoSample_none hs speed hm, servoLock_locks hs, servoUnlock_unlocks hs, writeGateClose_closes hs,
    reelSetpointFrame_ramps hs⟩

end Sys2Proof.Machine
end


section
/-! Connections and spaces, and the timers and paths of a connection (R249, R340 to R360). -/
namespace Sys2Proof.Machine

open Sys2Proof

/-! ### Tables and free numbers -/

theorem not_mem_of_lowestFree {used : List Nat} {lo n k : Nat} (h : lowestFree used lo n = some k) : k ∉ used := by
  induction n generalizing lo with
  | zero => cases h
  | succ n ih =>
    unfold lowestFree at h
    split at h
    · exact ih h
    next hc =>
      obtain rfl := Option.some.inj h
      simpa using hc

theorem KMap.get?_eq_none_iff {α : Type} (m : KMap α) (k : Nat) : KMap.get? m k = none ↔ k ∉ m.map (·.1) := by
  induction m with
  | nil => simp [KMap.get?]
  | cons e m ih =>
    unfold KMap.get?
    split
    next h => simp [h]
    next h => simp [ih, h]

/-- A number that was free names nothing but what is put there. -/
theorem KMap.eq_of_mem_put {α : Type} {m : KMap α} {k : Nat} (h : KMap.get? m k = none) {v x : α} (hx : (k, x) ∈ KMap.put m k v) :
    x = v := by
  rcases KMap.mem_put m k v _ hx with e | hm
  · exact (Prod.mk.inj e).2
  · exact absurd (List.mem_map_of_mem (f := Prod.fst) hm) ((KMap.get?_eq_none_iff m k).1 h)

/-- A fold that keeps what it has or takes the next yields one of the list. -/
theorem foldl_pick_mem {α : Type} {f : Option α → α → Option α} (hf : ∀ b e, f b e = b ∨ f b e = some e) {l : List α} {b : Option α}
    {y : α} (h : l.foldl f b = some y) : b = some y ∨ y ∈ l := by
  induction l generalizing b with
  | nil => exact .inl h
  | cons e l ih =>
    rcases ih h with hb | hl
    · rcases hf b e with h' | h'
      · exact .inl (h'.symm.trans hb)
      · obtain rfl := Option.some.inj (h'.symm.trans hb)
        exact .inr List.mem_cons_self
    · exact .inr (List.mem_cons_of_mem e hl)

/-! ### Connections -/

section
variable (s : State)

theorem State.conn_congr {s u : State} (h : u.drv = s.drv) (c : Nat) : u.conn c = s.conn c := by
  unfold State.conn
  rw [h]

@[simp] theorem State.conn_setConn_same (c : Nat) (x : Conn) : (s.setConn c x).conn c = some x := KMap.get?_put_same _ _ _

theorem State.conn_setConn_other (c : Nat) (x : Conn) {j : Nat} (h : j ≠ c) : (s.setConn c x).conn j = s.conn j :=
  KMap.get?_put_other _ _ h

@[simp] theorem State.conn_markBegun (eid c : Nat) : (s.markBegun eid).conn c = s.conn c := rfl

theorem State.setConn_setConn (c : Nat) (x y : Conn) : (s.setConn c x).setConn c y = s.setConn c y := by
  unfold State.setConn State.onDrv
  dsimp only
  rw [KMap.put_put]

/-! A packet that is sent reaches its connection, the tallies and what is sent. -/

theorem State.conn_send_other (c : Nat) (p : Pkt) {j : Nat} (h : j ≠ c) : (s.send c p).conn j = s.conn j := by
  unfold State.send
  split
  · rfl
  · exact State.conn_setConn_other _ c _ h

theorem State.send_data (c : Nat) (p : Pkt) : (s.send c p).data = s.data := by
  unfold State.send
  split <;> rfl

theorem State.send_spaces (c : Nat) (p : Pkt) : (s.send c p).drv.spaces = s.drv.spaces := by
  unfold State.send
  split <;> rfl

theorem State.send_offers (c : Nat) (p : Pkt) : (s.send c p).drv.offers = s.drv.offers := by
  unfold State.send
  split <;> rfl

/-- A connection that is pinned stays on die. -/
theorem State.evict_pinned {s : State} {c : Nat} (h : ∀ x, (c, x) ∈ s.drv.conns → x.pinned c = true) : s.evict.conn c = s.conn c := by
  unfold State.evict
  split
  · rfl
  · dsimp only
    split
    · rfl
    next j y hbest =>
      have hmem := (foldl_pick_mem (fun b e => by
        cases b with
        | none => exact .inr rfl
        | some f =>
          dsimp only
          split
          · exact .inr rfl
          · exact .inl rfl) hbest).resolve_left (by simp)
      obtain ⟨hres, hpin⟩ := List.mem_filter.1 hmem
      have hin := (List.mem_filter.1 hres).1
      refine State.conn_setConn_other _ j _ fun hjc => ?_
      subst hjc
      simp [h y hin] at hpin

theorem State.evict_data : s.evict.data = s.data := by
  unfold State.evict
  split
  · rfl
  · dsimp only
    split <;> rfl

theorem State.takeKey_ok {s u : State} {form : Nat} {field : Bytes} {ty : KeyTy} {tenant gen : Nat} {k : Bytes}
    (h : s.takeKey form field ty tenant gen = (u, .ok k)) : u = s := by
  unfold State.takeKey at h
  split at h
  · unfold State.unwrapKey at h
    grind
  · dsimp only at h
    split at h <;> simp at h
    exact h.1.symm

/-- The number a connection is opened with is free. -/
theorem State.conn_connId {b : State} {e : Entry} {c : Nat} (hbad : b.connBad e = false) (hid : b.connId e = some c) :
    b.conn c = none := by
  unfold State.connBad at hbad
  simp only [Bool.or_eq_false_iff] at hbad
  obtain ⟨⟨⟨⟨_, h0⟩, _⟩, _⟩, hgiven⟩ := hbad
  unfold State.connId at hid
  split at hid
  next hk =>
    obtain rfl := Option.some.inj hid
    simpa [hk] using h0
  next hk =>
    split at hid
    next hp =>
      obtain rfl := Option.some.inj hid
      simpa [hk, hp] using hgiven
    next => exact (KMap.get?_eq_none_iff _ _).2 (not_mem_of_lowestFree hid)

/-- A new connection that is used stands on die. -/
theorem State.useConn_new {u : State} {c : Nat} (hfree : u.conn c = none) {x : Conn} (hx : x.unacked ≠ []) :
    ((u.setConn c x).useConn c).conn c = some { x with resident := true, fetching := false, lastUsed := u.drv.useClock + 1 }
    ∧ ((u.setConn c x).useConn c).data = u.data := by
  unfold State.useConn
  rw [State.conn_setConn_same]
  dsimp only
  generalize hv : (if x.resident = true then _ else _ : State) = v
  have hdrv : v.drv = { u.drv with conns := KMap.put u.drv.conns c x, useClock := u.drv.useClock + 1 } := by
    rw [← hv]
    split <;> rfl
  have hdata : v.data = u.data := by
    rw [← hv]
    split <;> rfl
  rw [hdrv]
  dsimp only
  generalize hy : ({ x with resident := true, fetching := false, lastUsed := u.drv.useClock + 1 } : Conn) = y
  have hput : (v.setConn c y).drv.conns = KMap.put u.drv.conns c y := by
    refine (congrArg (fun d : Drv => KMap.put d.conns c y) hdrv).trans ?_
    exact KMap.put_put _ _ _ _
  refine ⟨?_, (State.evict_data _).trans hdata⟩
  rw [State.evict_pinned fun z hz => ?_, State.conn_setConn_same]
  rw [hput] at hz
  rw [KMap.eq_of_mem_put hfree hz, ← hy]
  simp [Conn.pinned, hx]
end

/-! ### The commands -/

section
variable {s : State} {eid : Nat} {e : Entry}

theorem connOpen_opens {c i : Nat} {u : State} {k : Bytes} (h : s.Starts eid 0x3001 e) (hlen : 192 ≤ e.area.length)
    (hbad : (s.markBegun eid).connBad e = false) (hx : e.p 3 1 = 0xFF) (hid : (s.markBegun eid).connId e = some c)
    (hk : (s.markBegun eid).takeKey (b2n (s.markBegun eid).clearKeys) (slice e.area 96 48) .gcm256 0xFFFF 0 = (u, .ok k))
    (hi : u.freeSlot = some i) : ∃ v : State, execConnOpen eid s
      = .next ((v.send c (Pkt.make Grmp.hello 2 0 0 0 [])).okReply e (leBytes 4 c))
    ∧ KMap.get? v.data.slots i = some ⟨k, .gcm256, .conn c⟩
    ∧ (v.conn c).any (fun x => x.st == .opening && x.slot == i && x.resident) = true := by
  have hfree := State.conn_connId hbad hid
  obtain rfl := State.takeKey_ok hk
  have hbind : ∀ w : State, w.bindXq e = w := fun w => by
    unfold State.bindXq
    dsimp only
    rw [if_pos (by simp [hx])]
  obtain ⟨hconn, hdata⟩ := State.useConn_new (u := (s.markBegun eid).setSlotKey i ⟨k, .gcm256, .conn c⟩) hfree
    (x := (s.markBegun eid).newConn e c i) (by simp [State.newConn])
  unfold execConnOpen
  rw [State.cmd_starts h, if_neg (by omega), hbad, if_neg (by decide), if_neg (by simp [hx]), hid]
  dsimp only
  rw [hk]
  dsimp only
  rw [hi]
  dsimp only
  rw [hbind]
  refine ⟨_, rfl, ?_, ?_⟩
  · rw [hdata]
    exact KMap.get?_put_same _ _ _
  · rw [hconn]
    simp [State.newConn]

theorem connClose_ends {c : Nat} {x : Conn} (h : s.Starts eid 0x3002 e) (hc : c = e.h % 2 ^ 32) (h0 : c ≠ 0) (hx : s.conn c = some x)
    (hcl : x.closing = false) (hst : x.st = .established) (hops : x.ops = []) (htx : x.txq = []) (hun : x.unacked = [])
    (hsp : s.drv.spaces = []) (hof : s.drv.offers = []) (hput : s.data.puts = []) : ∃ v : State,
      execConnClose eid s = .next (v.finalOf eid St.ok 0 []) ∧ v.conn c = none ∧ ∀ j, j ≠ c → v.conn j = s.conn j := by
  unfold execConnClose
  rw [State.cmd_starts h, ← hc]
  dsimp only
  rw [if_neg h0, State.conn_markBegun, hx]
  dsimp only
  rw [if_neg (by simp [hcl]), hops, htx]
  simp only [List.filter_nil, State.opsEnd, List.foldl_nil]
  generalize hy : ({ x with closing := true, closeEid := eid, parked := [], fetching := false, ops := [], txq := [], txPsn := _ } : Conn) = y
  have hyst : y.st = .established ∧ y.closing = true ∧ y.closeEid = eid ∧ y.ops = [] ∧ y.txq = [] ∧ y.unacked = [] := by
    subst hy
    exact ⟨hst, rfl, rfl, rfl, rfl, hun⟩
  clear hy
  obtain ⟨hyst, hyc, hye, hyo, hyt, hyu⟩ := hyst
  unfold State.finishConn
  rw [State.conn_setConn_same]
  dsimp only
  rw [if_neg (by simp [hyc, hyt, hyu]), hyo, State.setConn_setConn, State.opsEnd, List.foldl_nil, if_pos (by simp [hyst])]
  generalize hw : ((s.markBegun eid).setConn c _).send c _ = w
  have hother : ∀ j, j ≠ c → w.conn j = s.conn j := fun j hj => by
    rw [← hw, State.conn_send_other _ _ _ hj, State.conn_setConn_other _ _ _ hj, State.conn_markBegun]
  have hwput : w.data.puts = [] := by
    rw [← hw, State.send_data]
    exact hput
  have hwsp : w.drv.spaces = [] := by
    rw [← hw, State.send_spaces]
    exact hsp
  have hwof : w.drv.offers = [] := by
    rw [← hw, State.send_offers]
    exact hof
  have hfail : (w.failWindows c St.aborted 0x1901).drv = w.drv := by
    unfold State.failWindows State.failOffers
    simp only [hwsp, hwput, List.filterMap_nil, List.filter_nil, List.map_nil, List.nil_append, List.foldl_nil, hwof]
    unfold State.onDrv
    dsimp only
    rw [hwof, List.filter_nil, ← hwof]
  generalize hv : w.failWindows c St.aborted 0x1901 = v at hfail
  have hdrop : (v.dropSpaces fun y => y.conn == some c) = v := by
    unfold State.dropSpaces
    rw [hfail, hwsp, List.filter_nil, List.foldl_nil]
  have hconn : ∀ j, j ≠ c → KMap.get? v.drv.conns j = s.conn j := fun j hj => by
    rw [hfail]
    exact hother j hj
  rw [hdrop, hye]
  exact ⟨_, rfl, KMap.get?_del_same _ _, fun j hj => (KMap.get?_del_other _ hj).trans (hconn j hj)⟩

theorem connQuery_replies {x : Conn} (h : s.Starts eid 0x3003 e) (hx : s.conn (e.h % 2 ^ 32) = some x) :
    execConnQuery eid s = .next ((s.markBegun eid).okReply e ([byteOf x.st.code, byteOf x.kind, byteOf x.path, byteOf (b2n x.resident)]
      ++ leBytes 4 x.unacked.length ++ leBytes 8 x.txc)) := by
  unfold execConnQuery
  rw [State.cmd_starts h, State.conn_markBegun, hx]

/-- The tag a new space takes in an entry, by what the entry held and a random number. -/
def newTag (old : Option Space) (r : Nat) : Nat :=
  match old with
  | some x => (x.tag + 1 + r % (2 ^ 18 - 1)) % 2 ^ 18
  | none => r % 2 ^ 18

theorem newTag_lt (old : Option Space) (r : Nat) : newTag old r < 2 ^ 18 := by
  unfold newTag
  split <;> exact Nat.mod_lt _ (by decide)

theorem newTag_ne (x : Space) (r : Nat) : newTag (some x) r ≠ x.tag := by
  unfold newTag
  dsimp only
  omega

theorem spaceCreate_creates {i : Nat} (h : s.Starts eid 0x3004 e) (hbad : (s.markBegun eid).spaceBad e = false)
    (hi : s.drv.spaceEntry = some i) : ∃ (u : State) (tag : Nat), execSpaceCreate eid s
      = .next (u.okReply e (leBytes 4 (i * 2 ^ 18 + tag))) ∧ tag < 2 ^ 18
    ∧ (∀ old, KMap.get? s.drv.spaces i = some old → old.tag < 2 ^ 18 → tag ≠ old.tag)
    ∧ KMap.get? u.drv.spaces i = some ⟨tag, e.p 0 1, e.p 1 1, e.p 2 2, if e.p 4 4 = 0xFFFFFFFF then none else some (e.p 4 4), e.fn,
        e.p 8 8, e.p 16 8, true, none, 0, none⟩
    ∧ u.drv.conns = s.drv.conns ∧ u.data = s.data ∧ u.fresh = s.fresh + 1 := by
  have hb : (s.markBegun eid).drv.spaceEntry = some i := hi
  unfold execSpaceCreate
  rw [State.cmd_starts h, hbad, if_neg (by decide), hb]
  refine ⟨_, newTag (KMap.get? s.drv.spaces i) (leVal ((s.markBegun eid).drawn 4)), rfl, newTag_lt _ _, fun old hold _ => ?_,
    KMap.get?_put_same _ _ _, rfl, rfl, rfl⟩
  rw [hold]
  exact newTag_ne old _

theorem spaceRevoke_revokes {i : Nat} {x : Space} (h : s.Starts eid 0x3005 e) (hi : i = e.p 0 4 / 2 ^ 18)
    (hx : KMap.get? s.drv.spaces i = some x) (ht : x.tag = e.p 0 4 % 2 ^ 18) (hl : x.live = true) (hr : x.revokedAt = none) :
    execSpaceRevoke eid s = .next ((s.markBegun eid).onDrv fun d => { d with
      useClock := d.useClock + 1
      spaces := KMap.put d.spaces i { x with revokedAt := some (d.useClock + 1), revokeEid := eid } }) := by
  have hb : KMap.get? (s.markBegun eid).drv.spaces i = some x := hx
  unfold execSpaceRevoke
  rw [State.cmd_starts h, ← hi]
  dsimp only
  rw [hb]
  dsimp only
  rw [if_neg (by simp [ht, hl]), if_neg (by simp [hr])]

theorem revokeComplete_frees {i : Nat} {x : Space}
    (hf : s.drv.spaces.find? (fun y => y.2.live && y.2.revokeEid == eid && eid != 0) = some (i, x))
    (hbusy : s.spaceBusy (i * 2 ^ 18 + x.tag) x = false) (hb : x.bound = none) :
    execRevokeComplete eid s = .next ((s.freeSpace i).finalOf eid St.ok 0 []) := by
  unfold execRevokeComplete
  rw [hf]
  dsimp only
  rw [if_neg (ne_true_of_eq_false hbusy), hb]

theorem replLinkCreate_creates {k : Nat} (h : s.Starts eid 0x3006 e)
    (hp : (KMap.get? (s.markBegun eid).data.policies e.h).any (fun p => p.tenant != 0xFFFF) = true)
    (hc : ((s.markBegun eid).conn (e.p 0 4)).any (fun x => x.kind == 1) = true)
    (hk : lowestFree (s.drv.links.map (·.1)) 0 256 = some k) : execReplLinkCreate eid s
      = .next (((s.markBegun eid).onDrv fun d => { d with
        links := KMap.put d.links k ⟨e.h, e.p 0 4, bitAt (e.p 4 1) 0, e.p 8 8, [], false⟩ }).okReply e (leBytes 2 k)) := by
  have hb : lowestFree ((s.markBegun eid).drv.links.map (·.1)) 0 256 = some k := hk
  unfold execReplLinkCreate
  rw [State.cmd_starts h]
  dsimp only
  rw [hp, hc, if_neg (by decide), hb]
end

/-! ### Timers and paths -/

section
variable {s : State} {c : Nat} {x : Conn} (hx : s.conn c = some x)
include hx

theorem helloTimer_sends (hst : x.st = .opening) : execHelloTimer c s = .next (s.send c (Pkt.make Grmp.hello 2 0 0 0 [])) := by
  unfold execHelloTimer
  rw [hx]
  dsimp only
  rw [if_pos (by simp [hst])]

theorem ackTimer_sends (ha : 0 < x.sinceAck) : execAckTimer c s = .next (s.sendAck c) := by
  unfold execAckTimer
  rw [hx]
  dsimp only
  rw [if_neg (by omega)]

theorem retransmitTimeout_last (hst : x.st = .established) (hun : x.unacked ≠ []) (hn : s.par Par.retryMax ≤ x.retries + 1) :
    execRetransmitTimeout c s = .next (s.connError c St.timeout 0x1901 6) := by
  unfold execRetransmitTimeout
  rw [hx]
  dsimp only
  rw [if_neg (by simp [hst, hun]), if_pos hn]

theorem retransmitTimeout_resends (hst : x.st = .established) (hun : x.unacked ≠ []) (hn : x.retries + 1 < s.par Par.retryMax)
    (h2 : x.retries ≠ 2) : execRetransmitTimeout c s
      = .next ((s.setConn c { x with retries := x.retries + 1 }).resendFrom c fun _ => true) := by
  have hpath : (if (decide (x.retries + 1 = 3) && c != 0 && s.pathUp (1 - x.path)) = true then 1 - x.path else x.path) = x.path := by
    rw [if_neg (by simp [h2])]
  unfold execRetransmitTimeout
  rw [hx]
  dsimp only
  rw [if_neg (by simp [hst, hun]), if_neg (by omega), hpath, if_pos rfl]

theorem busyResend_resends {n : Nat} (hn : x.resendBusy = some n) : execBusyResend c s
    = .next ((s.setConn c { x with resendBusy := none }).resendFrom c fun p => psnLe n p.psn) := by
  unfold execBusyResend
  rw [hx]
  dsimp only
  rw [hn]

theorem stateFetchComplete_unparks (mem cmp : List Fetch) (hf : x.fetching = true) (hr : s.residents.length < 4096) :
    execStateFetchComplete c mem cmp s
      = .next ((State.unpark c x.parked mem cmp ((s.setConn c { x with parked := [] }).useConn c)).finishConn c) := by
  unfold execStateFetchComplete
  rw [hx]
  dsimp only
  have hroom : decide (4096 ≤ s.residents.length) = false := decide_eq_false (Nat.not_le.2 hr)
  simp only [hf, hroom, Bool.not_true, Bool.false_and, Bool.or_false, Bool.false_eq_true, if_false]

/-! ### Messages of the peer -/

omit hx in
theorem leAt_drop (m : Bytes) (k lo n : Nat) : leAt (m.drop k) lo n = leAt m (k + lo) n := by
  unfold leAt slice
  rw [List.drop_drop]

omit hx in
/-- The peer's tail of a domain's journal, as a message gives it. -/
def State.takeTail (s : State) (b : Bytes) (d : Nat) : State := s.setJournal d { s.journal d with peerTail := leAt b (8 * d) 8 }

omit hx in
theorem State.journal_takeTails (s : State) (b : Bytes) (n : Nat) : (((List.range n).foldl (fun s d => s.takeTail b d) s).drv = s.drv)
    ∧ ∀ d < n, (((List.range n).foldl (fun s d => s.takeTail b d) s).journal d).peerTail = leAt b (8 * d) 8 := by
  induction n with
  | zero => exact ⟨rfl, fun d hd => absurd hd (Nat.not_lt_zero d)⟩
  | succ n ih =>
    obtain ⟨hdrv, htail⟩ := ih
    rw [List.range_succ, List.foldl_append]
    generalize (List.range n).foldl (fun s d => s.takeTail b d) s = u at hdrv htail ⊢
    refine ⟨hdrv, fun d hd => ?_⟩
    rcases Nat.lt_succ_iff_lt_or_eq.1 hd with hd | rfl
    · exact (congrArg Journal.peerTail (KMap.getD_put_other u.data.journals _ _ (Nat.ne_of_lt hd))).trans (htail d hd)
    · exact congrArg Journal.peerTail (State.journal_setJournal u d _)

theorem State.takeMsg_first {m : Bytes} {ms : List Bytes} (hm : x.inbox = m :: ms) {ty : Nat} (ht : leAt m 0 1 = ty)
    (f : State → Bytes → State) : s.takeMsg c ty f = f (s.setConn c { x with inbox := ms }) (m.drop 16) := by
  unfold State.takeMsg
  rw [hx]
  dsimp only
  rw [hm]
  dsimp only
  rw [if_pos ht]

theorem peerReleaseMsg_takes {m : Bytes} {ms : List Bytes} (hm : x.inbox = m :: ms) (ht : leAt m 0 1 = 1) : ∃ u : State,
    execPeerReleaseMsg c s = .next u ∧ u.conn c = some { x with inbox := ms }
    ∧ ∀ d : Fin 8, (u.journal d).peerTail = leAt m (16 + 8 * d) 8 := by
  obtain ⟨hdrv, htail⟩ := State.journal_takeTails (s.setConn c { x with inbox := ms }) (m.drop 16) 8
  exact ⟨_, congrArg Host.Outcome.next (State.takeMsg_first hx hm ht _), (State.conn_congr hdrv c).trans (State.conn_setConn_same _ _ _),
    fun d => (htail d d.isLt).trans (leAt_drop _ _ _ _)⟩

theorem nsbind_binds {m : Bytes} {ms : List Bytes} (hm : x.inbox = m :: ms) (ht : leAt m 0 1 = 2) (hns : s.fpt.ns = []) : ∃ u : State,
    execNsbind c s = .next u ∧ u.nsOf (leAt m 16 2) = some ⟨slice m 24 16, false, false, false, 0, 0, true⟩
    ∧ u.conn c = some { x with inbox := ms } ∧ u.data = s.data := by
  have hslice : slice (m.drop 16) 8 16 = slice m 24 16 := by
    unfold slice
    rw [List.drop_drop]
  refine ⟨_, congrArg Host.Outcome.next (State.takeMsg_first hx hm ht _), ?_, State.conn_setConn_same _ _ _, rfl⟩
  have hb : (s.setConn c { x with inbox := ms }).fpt.ns = [] := hns
  unfold State.nsOf State.emit State.onFpt
  dsimp only
  rw [hb, hslice, leAt_drop]
  exact KMap.get?_put_same _ _ _

omit hx in
theorem heartbeatTimeout_downs (p : Fin 2) (hp : s.peerUp = true) (hl : (s.pathSt p).live = true) : execHeartbeatTimeout p s
    = .next (((s.setPath p { s.pathSt p with live := false, run := 0 }).bump Reg.drvCntPath 31 16 1).switchPath p) := by
  unfold execHeartbeatTimeout
  dsimp only
  rw [if_pos (by simp [hp, hl])]

theorem pathReturn_returns (p : Fin 2) (hp : s.pathUp p = true) (hr : 100 ≤ (s.pathSt p).run) : ∃ u : State,
    execPathReturn p s = .next u
    ∧ (x.home = (p : Nat) → x.path ≠ (p : Nat) → x.unacked = [] → u.conn c = some { x with path := p, sub := s.subFor p c })
    ∧ ((x.home ≠ (p : Nat) ∨ x.unacked ≠ []) → u.conn c = some x) ∧ u.regs = s.regs ∧ u.out = s.out := by
  have hconn : KMap.get? s.drv.conns c = some x := hx
  unfold execPathReturn
  rw [if_pos (by simp [hp, hr])]
  refine ⟨_, rfl, fun hh hpa hun => ?_, fun hor => ?_, rfl, rfl⟩
  · unfold State.conn State.onDrv
    dsimp only
    rw [KMap.get?_mapV, hconn, Option.map_some, if_pos (by simp [hh, hpa, hun])]
  · unfold State.conn State.onDrv
    dsimp only
    rw [KMap.get?_mapV, hconn, Option.map_some, if_neg (by rcases hor with h | h <;> simp [h])]
end

/-- Settles O36: each command, and each timer and message of a connection. -/
theorem connectionsAndSpaces : Obligations.ConnectionsAndSpaces := by
  unfold Obligations.ConnectionsAndSpaces
  constructor
  · rintro s eid e b rfl
    refine ⟨fun c u k i h hlen hbad hx hid hk hi => connOpen_opens h hlen hbad hx hid hk hi,
      fun c x h hc h0 hx hcl hst hops htx hun hsp hof hput _ => connClose_ends h hc h0 hx hcl hst hops htx hun hsp hof hput,
      fun x h hx => connQuery_replies h hx, fun i h hbad hi => spaceCreate_creates h hbad hi,
      fun i x h hi hx ht hl hr => spaceRevoke_revokes h hi hx ht hl hr, fun i x hf hbusy hb => revokeComplete_frees hf hbusy hb,
      fun k h hp hc hk => replLinkCreate_creates h hp hc hk⟩
  · intro s c x hx
    exact ⟨helloTimer_sends hx, ackTimer_sends hx, fun hst hun => ⟨retransmitTimeout_last hx hst hun, retransmitTimeout_resends hx hst hun⟩,
      fun n hn => busyResend_resends hx hn, stateFetchComplete_unparks hx, fun m ms hm ht => peerReleaseMsg_takes hx hm ht,
      fun m ms hm ht hns => nsbind_binds hx hm ht hns, fun p => ⟨heartbeatTimeout_downs p, pathReturn_returns hx p⟩⟩

end Sys2Proof.Machine
end


section
/-! Received packets (R337 to R345, R353 to R358). -/
namespace Sys2Proof.Machine

open Sys2Proof

section
variable {s : State} {f : Bytes} {p : Pkt} {ct tag : Bytes} {x : Conn} {op : Nat} (g : State → Nat → Pkt → State)

theorem State.rx_malformed (h : (s.ipIn f).bind parseGrmp = none) : s.rx f op g = s.bump Reg.drvCntRx 31 16 1 := by
  unfold State.rx
  rw [h]

section
variable (h : (s.ipIn f).bind parseGrmp = some (p, ct, tag)) (hop : p.op = op) (hx : s.conn p.dcid = some x)
include h hop hx

theorem State.rx_badTag (ht : gcmDec (s.connKey x) (x.saltRx ++ beBytes 8 p.txc) p.hdr ct tag = none) :
    s.rx f op g = s.bump Reg.drvCntRx 15 0 1 := by
  unfold State.rx
  rw [h]
  dsimp only
  rw [if_neg (by simp [hop]), hx]
  dsimp only
  rw [ht]

theorem State.rx_opened {pt : Bytes} (ht : gcmDec (s.connKey x) (x.saltRx ++ beBytes 8 p.txc) p.hdr ct tag = some pt) :
    s.rx f op g = g (s.tally 6 pt.length) p.dcid { p with payload := pt } := by
  unfold State.rx
  rw [h]
  dsimp only
  rw [if_neg (by simp [hop]), hx]
  dsimp only
  rw [ht]
end
end

/-! ### The order of packets -/

section
variable {s : State} {c : Nat} {x : Conn} (hx : s.conn c = some x) (hst : x.st = .established)
include hx hst

theorem State.sequenced_duplicate {p : Pkt} (hp : p.psn = (x.rxPsn + 2 ^ 32 - 1) % 2 ^ 32) (stamp : Nat)
    (mem : Fetch) (cmp : List Fetch) : s.sequenced c stamp p mem cmp = (s.bump Reg.drvCntRetx 31 16 1).sendAck c := by
  have hne : ¬ p.psn = x.rxPsn := by omega
  have hle : psnLe p.psn ((x.rxPsn + 2 ^ 32 - 1) % 2 ^ 32) = true := by
    unfold psnLe
    rw [decide_eq_true_eq]
    omega
  unfold State.sequenced
  rw [hx]
  dsimp only
  rw [if_neg (by simp [hst]), if_neg hne, if_pos hle]

theorem State.sequenced_ahead {p : Pkt} (hp : p.psn = (x.rxPsn + 1) % 2 ^ 32) (hr : x.rxPsn < 2 ^ 32) (hb : x.refusedBusy = none)
    (stamp : Nat) (mem : Fetch) (cmp : List Fetch) : s.sequenced c stamp p mem cmp
      = if x.nakSent then s else (s.setConn c { x with nakSent := true }).sendNak c p.psn 2 := by
  have hne : ¬ p.psn = x.rxPsn := by omega
  have hle : psnLe p.psn ((x.rxPsn + 2 ^ 32 - 1) % 2 ^ 32) = false := by
    unfold psnLe
    rw [decide_eq_false_iff_not]
    omega
  unfold State.sequenced
  rw [hx]
  dsimp only
  rw [if_neg (by simp [hst]), if_neg hne, if_neg (ne_true_of_eq_false hle), if_neg (by simp [hb])]

omit hx hst in
/-- A WRITE to a space of host memory writes its bytes there. -/
theorem State.takePkt_hostWrite {p : Pkt} {stamp i : Nat} {y : Space} (hop : p.op = Grmp.write) (h0 : c ≠ 0)
    (hj : s.spaceJudge c stamp p = .ok (i, y)) (hk : y.kind = 0) (hpay : p.payload ≠ []) (mem : Fetch) (cmp : List Fetch) :
    ∃ eff, s.takePkt c stamp p mem cmp = (none, eff)
      ∧ ∀ u : State, eff u = u.emit (.hostWrite y.fn (y.base + p.offset) p.payload) := by
  unfold State.takePkt State.takeWrite
  rw [if_pos hop, if_neg h0, hj]
  dsimp only
  rw [if_neg (by omega)]
  exact ⟨_, rfl, fun u => if_neg (by simp [hpay])⟩

theorem State.sequenced_hostWrite {p : Pkt} {stamp i : Nat} {y : Space} (hp : p.psn = x.rxPsn) (hop : p.op = Grmp.write) (h0 : c ≠ 0)
    (hj : s.spaceJudge c stamp p = .ok (i, y)) (hk : y.kind = 0) (hpay : p.payload ≠ []) (mem : Fetch) (cmp : List Fetch) :
    ∃ v : State, s.sequenced c stamp p mem cmp = v.ackDue c p ∧ v.out = s.out ++ [.hostWrite y.fn (y.base + p.offset) p.payload]
      ∧ v.conn c = some { x with rxPsn := (x.rxPsn + 1) % 2 ^ 32, nakSent := false, refusedBusy := none } := by
  obtain ⟨eff, htake, heff⟩ := State.takePkt_hostWrite hop h0 hj hk hpay mem cmp
  unfold State.sequenced
  rw [hx]
  dsimp only
  rw [if_neg (by simp [hst]), if_pos hp, htake]
  dsimp only
  rw [if_neg (by simp [consumes]), heff, State.onConn, hx]
  exact ⟨_, rfl, rfl, State.conn_setConn_same _ _ _⟩
end

/-- Settles O38: the drops, each operation, and the order of packets. -/
theorem receivedPackets : Obligations.ReceivedPackets := by
  unfold Obligations.ReceivedPackets
  intro s port f mem cmp
  refine ⟨fun h => ?_, ?_, fun c x p stamp hx hst => ⟨fun hp _ => State.sequenced_duplicate hx hst hp stamp mem cmp,
    fun hp hr hb => State.sequenced_ahead hx hst hp hr hb stamp mem cmp,
    fun i y hp hop h0 hj hk hpay => State.sequenced_hostWrite hx hst hp hop h0 hj hk hpay mem cmp⟩⟩
  · have hdrop : ∀ op g, s.rx f op g = s.bump Reg.drvCntRx 31 16 1 := fun op g => State.rx_malformed g h
    simp only [List.forall_mem_cons]
    refine ⟨?_, ?_, ?_, ?_, ?_, ?_, ?_, ?_, ?_, fun _ hc => nomatch hc⟩ <;> exact congrArg Host.Outcome.next (hdrop _ _)
  · rintro p ct tag x pt u q h hx rfl rfl
    refine ⟨fun ht hop => congrArg Host.Outcome.next (State.rx_badTag _ h hop hx ht), fun ht =>
      ⟨fun hop => ?_, fun hop => ?_, fun hop => ?_, fun hop => ?_, fun hop => ?_, fun hop => ?_, fun hop => ?_, fun hop => ?_⟩⟩ <;>
      exact congrArg Host.Outcome.next (State.rx_opened _ h hop hx ht)

end Sys2Proof.Machine
end


section
/-! Drover's expert queues and replication (R361 to R364). -/
namespace Sys2Proof.Machine

open Sys2Proof

/-! ### Expert queues -/

section
variable {s : State} {q : Fin 64} {d : Bytes} {op : Nat}

/-- A descriptor that may run is judged once the queue has moved past it. -/
theorem State.drvDesc_judged (h : s.Runs (instKey 8 q) op d) (hw : (s.xq (instKey 8 q)).waiting = false) (hr : s.drvRoom q = true)
    (src : Fetch) : s.drvDesc q op (.ok d) src =
      if !(s.xqAdvance (instKey 8 q)).drvOk q d then (s.xqAdvance (instKey 8 q)).drvComplete q (leAt d 4 4) 0 St.invalidParam 0x1904
      else if !(s.xqAdvance (instKey 8 q)).drvMet d then (s.xqAdvance (instKey 8 q)).setXq (instKey 8 q)
        { (s.xqAdvance (instKey 8 q)).xq (instKey 8 q) with waiting := true, waitSince := s.clk, desc := d }
      else (s.xqAdvance (instKey 8 q)).drvStart q d src := by
  obtain ⟨hready, hlen, hop⟩ := h
  unfold State.drvDesc
  dsimp only
  rw [if_neg (by simp [hready, hw, hr]), padTo_of_length d 64 hlen, if_neg (by simp [hop])]
  rfl

theorem State.drvDesc_runs (h : s.Runs (instKey 8 q) op d) (hw : (s.xq (instKey 8 q)).waiting = false) (hr : s.drvRoom q = true)
    (src : Fetch) : ((s.xqAdvance (instKey 8 q)).drvOk q d = true → (s.xqAdvance (instKey 8 q)).drvMet d = true →
        s.drvDesc q op (.ok d) src = (s.xqAdvance (instKey 8 q)).drvStart q d src)
    ∧ ((s.xqAdvance (instKey 8 q)).drvOk q d = true → (s.xqAdvance (instKey 8 q)).drvMet d = false → ∃ u : State,
        s.drvDesc q op (.ok d) src = u ∧ (u.xq (instKey 8 q)).waiting = true ∧ (u.xq (instKey 8 q)).waitSince = s.clk
        ∧ (u.xq (instKey 8 q)).desc = d ∧ u.out = s.out ∧ u.drv = s.drv)
    ∧ ((s.xqAdvance (instKey 8 q)).drvOk q d = false → s.drvDesc q op (.ok d) src
        = (s.xqAdvance (instKey 8 q)).drvComplete q (leAt d 4 4) 0 St.invalidParam 0x1904) := by
  rw [State.drvDesc_judged h hw hr]
  refine ⟨fun hok hmet => ?_, fun hok hmet => ?_, fun hok => ?_⟩
  · rw [if_neg (by simp [hok]), if_neg (by simp [hmet])]
  · rw [if_neg (by simp [hok]), if_pos (by simp [hmet])]
    exact ⟨_, rfl, by simp, by simp, by simp, rfl, rfl⟩
  · rw [if_pos (by simp [hok])]
end

section
variable {s : State} {q : Fin 64}

theorem chainWaitSatisfied_starts (hw : (s.xq (instKey 8 q)).waiting = true) (hm : s.drvMet (s.xq (instKey 8 q)).desc = true)
    (src : Fetch) : execChainWaitSatisfied q src s = .next ((s.setXq (instKey 8 q)
      { s.xq (instKey 8 q) with waiting := false, desc := [] }).drvStart q (s.xq (instKey 8 q)).desc src) := by
  unfold execChainWaitSatisfied
  dsimp only
  rw [if_pos (by simp [hw, hm])]

theorem chainTimeout_completes (hw : (s.xq (instKey 8 q)).waiting = true)
    (ht : (s.xq (instKey 8 q)).waitSince + msTicks (s.par Par.chainTmoMs) ≤ s.clk) : execChainTimeout q s
      = .next ((s.setXq (instKey 8 q) { s.xq (instKey 8 q) with waiting := false, desc := [] }).drvComplete q
        (leAt (s.xq (instKey 8 q)).desc 4 4) 0 St.timeout 0x1902) := by
  unfold execChainTimeout
  dsimp only
  rw [if_pos (by simp [hw, ht])]

theorem drvXcount_sets {tag : Nat} (hb : (s.xq (instKey 8 q)).bound = some tag) (val : W32) : execDrvXcount q val s
    = .next (s.setXq (instKey 8 q) { s.xq (instKey 8 q) with count := val.toNat }) := by
  unfold execDrvXcount
  dsimp only
  rw [hb, if_neg (by simp)]
end

/-! ### The source of a replication -/

section
variable {s : State} {c link : Nat} {x : Conn} {l : RepLink} {y : Ship} {rest : List Ship} (hx : s.conn c = some x)
  (hl : KMap.get? s.drv.links link = some l) (hc : l.conn = c)

include hl hc in
theorem State.linkConn_of : s.linkConn link = c := by
  unfold State.linkConn
  rw [hl, ← hc]
  rfl

section
variable (hr : s.connRefuses x = none) (hof : s.drv.offers = []) (hb : l.backlog = y :: rest) (ho : s.owns y.dom = true)
  {p : Ship → Bool} (hp : p y = true)
include hx hl hc hr hof hb ho hp

theorem State.shipNext_delete (hd : y.delete = true) : s.shipNext link p
    = (s.replMsg c 0x24 (padTo y.objId 16 ++ leBytes 2 y.tenant)).shipGone link y := by
  unfold State.shipNext
  rw [hl]
  dsimp only
  rw [hc, hx, hof, if_neg (by simp [hr]), hb, List.find?_cons_of_pos hp]
  dsimp only
  rw [if_neg (by simp [ho]), if_pos hd]

theorem State.shipNext_offer (hd : y.delete = false) {o : ObjRec} (hobj : s.shipObject y = some o) : ∃ v : State, s.shipNext link p
    = v.replMsg c 0x20 (recipeBytes o.objId o.tenant o.mode o.length o.jseq o.tick o.entries)
    ∧ v.drv.offers = s.drv.offers ++ [(link, { y with sent := true, retryAt := none })] := by
  unfold State.shipNext
  rw [hl]
  dsimp only
  rw [hc, hx, hof, if_neg (by simp [hr]), hb, List.find?_cons_of_pos hp]
  dsimp only
  rw [if_neg (by simp [ho]), if_neg (ne_true_of_eq_false hd), hobj]
  exact ⟨_, rfl, congrArg (· ++ _) hof⟩
end

section
variable {m : Bytes} {ms : List Bytes} (hin : x.inbox = m :: ms)
include hx hin

include hl hc in
theorem want_answers {o : ObjRec} {body : Bytes} {recs : List Fetch} (ht : leAt m 0 1 = 0x21) (hof : s.drv.offers = [(link, y)])
    (hobj : s.shipObject y = some o) (hw : wireRecs ((o.entries.zipIdx.filter fun z =>
      bitAt (leAt (m.drop 16) (z.2 / 8) 1) (z.2 % 8)).map fun z => (z.2, z.1)) recs = some body) :
    execWant c recs s = .next ((s.setConn c { x with inbox := ms }).replMsg c 0x22 body) := by
  refine congrArg Host.Outcome.next ((State.takeMsg_first hx hin ht _).trans ?_)
  generalize hu : s.setConn c { x with inbox := ms } = u
  have huof : u.drv.offers = [(link, y)] := by rw [← hu]; exact hof
  have hulink : u.linkConn link = c := by rw [← hu]; exact State.linkConn_of (s := s) hl hc
  have huobj : u.shipObject y = some o := by rw [← hu]; exact hobj
  dsimp only
  rw [huof, List.find?_cons_of_pos (by simp [hulink])]
  dsimp only
  rw [huobj]
  dsimp only [Option.map_some, Option.getD_some, Option.bind_some]
  rw [hw]

include hl hc in
theorem done_ends (ht : leAt m 0 1 = 0x23) (hof : s.drv.offers = [(link, y)]) (hok : leAt m 16 2 = St.ok) :
    execDone c s = .next (((s.setConn c { x with inbox := ms }).onDrv fun d => { d with offers := [] }).shipGone link y) := by
  refine congrArg Host.Outcome.next ((State.takeMsg_first hx hin ht _).trans ?_)
  generalize hu : s.setConn c { x with inbox := ms } = u
  have huof : u.drv.offers = [(link, y)] := by rw [← hu]; exact hof
  have hulink : u.linkConn link = c := by rw [← hu]; exact State.linkConn_of (s := s) hl hc
  have htake : u.takeOffer c = some (u.onDrv fun d => { d with offers := [] }, link, y) := by
    unfold State.takeOffer
    rw [huof, List.find?_cons_of_pos (by simp [hulink]), Option.map_some]
    unfold State.onDrv
    dsimp only
    rw [huof]
    simp
  rw [htake]
  dsimp only
  rw [leAt_drop, if_pos hok]

/-! ### Its target -/

theorem offer_refuses (ht : leAt m 0 1 = 0x20) (hput : s.data.puts = []) (hcrc : leAt m 78 2 ≠ crc16 (slice m 16 62)) :
    execOffer c s = .next ((s.setConn c { x with inbox := ms }).replMsg c 0x23 (leBytes 2 St.checkMismatch ++ leBytes 2 0x1901)) := by
  refine congrArg Host.Outcome.next ((State.takeMsg_first hx hin ht _).trans ?_)
  generalize hu : s.setConn c { x with inbox := ms } = u
  have huput : u.data.puts = [] := by rw [← hu]; exact hput
  dsimp only
  rw [huput, List.filter_nil, List.map_nil, List.foldl_nil, leAt_drop, if_pos (by simp only [Bool.or_eq_true]; exact .inl (bne_iff_ne.2 hcrc))]
  rfl

theorem offer_takes {h : Nat} {pol : Policy} {g : Group} (ht : leAt m 0 1 = 0x20) (hput : s.data.puts = [])
    (hcrc : leAt m 78 2 = crc16 (slice m 16 62)) (hlen : 80 + 64 * leAt m 44 4 ≤ m.length)
    (hpol : s.replPolicy (readRecipe 0 0 (m.drop 16)).tenant = some (h, pol)) (hg : s.group? pol.root = some g)
    (ho : s.owns g.dom = true) : ∃ (v : State) (p : PutRec) (mask : Bytes), execOffer c s = .next (v.replMsg c 0x21 mask)
      ∧ v.data.puts = [p] ∧ p.eid = s.ez.nextEid ∧ p.source = 4 ∧ p.conn = c ∧ p.placed = false
      ∧ p.tenant = (readRecipe 0 0 (m.drop 16)).tenant ∧ p.objId = (readRecipe 0 0 (m.drop 16)).objId
      ∧ p.length = (readRecipe 0 0 (m.drop 16)).length ∧ p.recipe.length = (readRecipe 0 0 (m.drop 16)).entries.length
      ∧ mask.length = ceilDiv (readRecipe 0 0 (m.drop 16)).entries.length 8 := by
  have hrun := State.takeMsg_first hx hin ht
  generalize hu : s.setConn c { x with inbox := ms } = u at hrun
  have huput : u.data.puts = [] := by rw [← hu]; exact hput
  have hupol : u.replPolicy (readRecipe 0 0 (m.drop 16)).tenant = some (h, pol) := by rw [← hu]; exact hpol
  have hug : u.group? pol.root = some g := by rw [← hu]; exact hg
  have huo : u.owns g.dom = true := by rw [← hu]; exact ho
  have h44 : leAt m (16 + 28) 4 = leAt m 44 4 := rfl
  have huz : u.ez.nextEid = s.ez.nextEid := by rw [← hu]; rfl
  unfold execOffer
  rw [hrun]
  dsimp only
  rw [huput, List.filter_nil, List.map_nil, List.foldl_nil, leAt_drop, leAt_drop, if_neg (by
    simp only [Bool.or_eq_true, decide_eq_true_eq, bne_iff_ne, not_or, Classical.not_not, Nat.not_lt, List.length_drop]
    exact ⟨hcrc, Nat.le_sub_of_add_le (by omega)⟩), hupol]
  dsimp only
  rw [hug]
  dsimp only
  rw [if_neg (by simp [huo])]
  refine ⟨_, _, _, rfl, congrArg (· ++ _) huput, huz, rfl, rfl, rfl, rfl, rfl, rfl, ?_, ?_⟩
  · simp
  · simp

theorem records_advance {p q : PutRec} {v : State} (ht : leAt m 0 1 = 0x22) (hput : s.data.puts = [p]) (hs : p.source = 4)
    (hpc : p.conn = c) (hpl : p.placed = false) (htake : (s.setConn c { x with inbox := ms }).takeWires { p with placed := true }
      ((p.recipe.zipIdx.filter fun z => !z.1.hit).map fun z => (z.2, z.1))
      (takeRecs (m.drop 16) ((p.recipe.zipIdx.filter fun z => !z.1.hit).length + 1) 0).1 = (v, q, none)) :
    execRecords c s = .next ((v.setPut q).advancePut p.eid) := by
  refine congrArg Host.Outcome.next ((State.takeMsg_first hx hin ht _).trans ?_)
  generalize hu : s.setConn c { x with inbox := ms } = u at htake
  have huput : u.data.puts = [p] := by rw [← hu]; exact hput
  dsimp only
  rw [huput, List.find?_cons_of_pos (by simp [hs, hpc, hpl])]
  dsimp only
  rw [List.length_map, htake]

theorem replDelete_deletes {o : ObjRec} (ht : leAt m 0 1 = 0x24) (hobj : (s.setConn c { x with inbox := ms }).objectIn
    (s.setConn c { x with inbox := ms }).ownedDoms (leAt m 32 2) (slice m 16 16) = some o) :
    execReplDelete c s = .next (((s.setConn c { x with inbox := ms }).startDelete 0 o).shipDelete o) := by
  refine congrArg Host.Outcome.next ((State.takeMsg_first hx hin ht _).trans ?_)
  generalize s.setConn c { x with inbox := ms } = u at hobj ⊢
  have hobj' : u.objectIn u.ownedDoms (leAt (m.drop 16) 16 2) ((m.drop 16).take 16) = some o := by
    rw [leAt_drop]
    exact hobj
  rw [hobj']
end
end

/-- Settles O39: the descriptors, and each message of a replication. -/
theorem droverQueuesAndReplication : Obligations.DroverQueuesAndReplication := by
  unfold Obligations.DroverQueuesAndReplication
  constructor
  · rintro s q k x d src rfl rfl
    refine ⟨fun op c hm h hw hr => ?_, fun hw hm => chainWaitSatisfied_starts hw hm src, chainTimeout_completes,
      fun val tag hb => drvXcount_sets hb val⟩
    obtain ⟨hgo, hwait, hbad⟩ := State.drvDesc_runs h hw hr src
    have hc : exec c s = .next (s.drvDesc q op (.ok d) src) := by
      simp only [List.mem_cons, Prod.mk.injEq, List.not_mem_nil, or_false] at hm
      rcases hm with ⟨rfl, rfl⟩ | ⟨rfl, rfl⟩ | ⟨rfl, rfl⟩ <;> rfl
    rw [hc]
    refine ⟨fun hok hmet => congrArg Host.Outcome.next (hgo hok hmet), fun hok hmet => ?_, fun hok => congrArg Host.Outcome.next (hbad hok)⟩
    obtain ⟨u, hu, hrest⟩ := hwait hok hmet
    exact ⟨u, congrArg Host.Outcome.next hu, hrest⟩
  · rintro s c link x m ms u hx rfl
    refine ⟨fun l y rest hl hc hr hof hb hsent ho => ⟨fun hd => ⟨fun hret => ?_, fun r hret hle => ?_⟩, fun o hd hret hobj => ?_⟩,
      fun hin => ⟨fun l y o body recs ht hof hl hc hobj hw => want_answers hx hl hc hin ht hof hobj hw,
        fun l y ht hof hl hc hok => done_ends hx hl hc hin ht hof hok, fun ht hput hcrc _ => offer_refuses hx hin ht hput hcrc, ?_,
        fun p v q ht hput hs hpc hpl htake => records_advance hx hin ht hput hs hpc hpl htake,
        fun o ht hobj => replDelete_deletes hx hin ht hobj⟩⟩
    · exact congrArg Host.Outcome.next (State.shipNext_delete hx hl hc hr hof hb ho (by simp [hsent, hret]) hd)
    · exact congrArg Host.Outcome.next (State.shipNext_delete hx hl hc hr hof hb ho (by simp [hsent, hret, hle]) hd)
    · obtain ⟨v, hv, hoff⟩ := State.shipNext_offer hx hl hc hr hof hb ho (p := fun x => !x.sent && x.retryAt.isNone)
        (by simp [hsent, hret]) hd hobj
      exact ⟨v, congrArg Host.Outcome.next hv, hoff.trans (by rw [hof]; rfl)⟩
    · rintro o h pol g ht hput hcrc hlen rfl hpol hg ho
      exact offer_takes hx hin ht hput hcrc hlen hpol hg ho

end Sys2Proof.Machine
end


section
/-! The network ports (R368 to R376). -/
namespace Sys2Proof.Machine

open Sys2Proof

theorem errNet_apart : errNet.Apart := ⟨by decide, by decide, by decide, by decide⟩

theorem netErr_ne_netCntLink (p : Nat) : Reg.netErr ≠ Reg.netCntLink p := by
  unfold Reg.netErr Reg.netCntLink
  omega

/-! ### Subports -/

section
variable {s : State} {p : Nat}

theorem State.nport_congr {u : State} (h : u.net = s.net) (p : Nat) : u.nport p = s.nport p := by
  unfold State.nport
  rw [h]

theorem State.nport_onNport (h : p < s.net.ports.length) (f : NPort → NPort) : (s.onNport p f).nport p = f (s.nport p) := by
  unfold State.onNport State.nport
  dsimp only
  rw [List.getD_eq_getElem?_getD, List.getElem?_set_self h]
  rfl

theorem State.lt_of_upSince {x : Nat × Nat} (h : (s.nport p).upSince = [x]) : p < s.net.ports.length := by
  rcases Nat.lt_or_ge p s.net.ports.length with hp | hp
  · exact hp
  · unfold State.nport at h
    rw [List.getD_eq_getElem?_getD, List.getElem?_eq_none hp] at h
    cases h

/-- What is latched, counted and raised leaves the ports. -/
theorem State.latch_bump_event_net (s : State) (r : ErrReg) (inst cause off n : Nat) :
    (((s.latch r inst cause).bump off 15 0 1).event n).net = s.net := by
  obtain ⟨h, o, e⟩ := State.event_frame ((s.latch r inst cause).bump off 15 0 1) n
  obtain ⟨g, h', o', e'⟩ := State.latch_frame s r inst cause
  rw [e, e']
  rfl

theorem subportDown_downs {port : Fin 2} {sub : Fin 8} (fec : Bool) (hu : s.subUp port sub = true)
    (h1 : (s.nport port).upSince = [((sub : Nat), s.clk)]) : ∃ u : State, execSubportDown port sub fec s = .next (u.portDown port)
    ∧ u.linkUp port = false ∧ u.rf (Reg.netCntLink port) 15 0 = min 0xFFFF (s.rf (Reg.netCntLink port) 15 0 + 1)
    ∧ (s.rbit Reg.netErr 31 = false → u.rbit Reg.netErr 31 = true ∧ u.rf Reg.netErr 11 8 = if fec then 2 else 1) := by
  unfold execSubportDown
  dsimp only
  rw [if_neg (by simp [hu])]
  generalize hv : s.onNport port _ = v
  have hvport : (v.nport port).upSince = [] := by
    rw [← hv, State.nport_onNport (State.lt_of_upSince h1), h1]
    simp [KMap.del]
  have hvregs : v.regs = s.regs := by
    rw [← hv]
    rfl
  generalize hw : ((v.latch errNet _ _).bump _ 15 0 1).event _ = w
  have hlink : w.linkUp port = false := by
    have hnet : w.net = v.net := by
      rw [← hw]
      exact State.latch_bump_event_net v _ _ _ _ _
    unfold State.linkUp
    rw [State.nport_congr hnet, hvport]
    rfl
  rw [if_neg (ne_true_of_eq_false hlink)]
  refine ⟨w, rfl, hlink, ?_, fun he => ?_⟩
  · rw [← hw, State.rf_congr (State.event_regs _ _), State.rf_bump_same _ _ _ _ _ (by decide) (by decide), State.rf,
      State.latch_reg_other _ _ _ _ (show Reg.netCntLink port ≠ errNet.off from (netErr_ne_netCntLink port).symm)]
    exact congrArg (fun n => min 0xFFFF (n + 1)) (State.rf_congr hvregs _ _ _)
  · have hv31 : v.rbit errNet.off 31 = false := (State.rbit_congr hvregs _ _).trans he
    obtain ⟨hcause, hvalid⟩ := State.latch_first errNet_apart hv31 ((port : Nat) + 2 * sub) (if fec then 2 else 1)
    rw [← hw, State.rbit_congr (State.event_regs _ _), State.rbit_bump_off _ (netErr_ne_netCntLink port),
      State.rf_congr (State.event_regs _ _), State.rf_bump_off _ (netErr_ne_netCntLink port)]
    refine ⟨hvalid, hcause.trans ?_⟩
    cases fec <;> rfl

/-- With no connections, moving them changes nothing else. -/
theorem State.moveSubs_idle (hc : s.drv.conns = []) (p : Nat) : (s.moveSubs p).net = s.net ∧ (s.moveSubs p).regs = s.regs
    ∧ (s.moveSubs p).out = s.out ∧ (s.moveSubs p).drv.conns = [] := by
  unfold State.moveSubs
  dsimp only
  rw [hc]
  refine ⟨rfl, rfl, rfl, ?_⟩
  unfold State.onDrv
  simp [hc, KMap.mapV]

theorem State.switchPath_idle (hc : s.drv.conns = []) (p : Nat) : (s.switchPath p).net = s.net ∧ (s.switchPath p).regs = s.regs
    ∧ (s.switchPath p).out = s.out := by
  unfold State.switchPath
  split
  · exact ⟨rfl, rfl, rfl⟩
  · dsimp only
    rw [hc]
    exact ⟨rfl, rfl, rfl⟩

theorem subportUp_ups {port : Fin 2} {sub : Fin 8} (hn : (sub : Nat) < s.subCount port) (hu : s.subUp port sub = false)
    (hc : s.drv.conns = []) (hp : s.net.ports.length = 2) : ∃ u : State, execSubportUp port sub s = .next u ∧ u.subUp port sub = true
    ∧ u.linkUp port = true ∧ u.regs = s.regs ∧ u.out = s.out := by
  unfold execSubportUp
  dsimp only
  rw [if_neg (by simp [hu]; omega)]
  generalize hv : s.onNport port _ = v
  have hvport : KMap.get? (v.nport port).upSince sub = some s.clk := by
    rw [← hv, State.nport_onNport (by omega)]
    exact KMap.get?_put_same _ _ _
  have hvconns : v.drv.conns = [] := by
    rw [← hv]
    exact hc
  obtain ⟨hwnet, hwregs, hwout, hwconns⟩ := State.moveSubs_idle hvconns port
  generalize v.moveSubs port = w at hwnet hwregs hwout hwconns
  have hend : ∀ u : State, u.net = w.net → u.regs = w.regs → u.out = w.out → u.subUp port sub = true ∧ u.linkUp port = true
      ∧ u.regs = s.regs ∧ u.out = s.out := fun u hnet hregs hout => by
    have huport : KMap.get? (u.nport port).upSince sub = some s.clk := by
      rw [State.nport_congr (hnet.trans hwnet), hvport]
    refine ⟨?_, ?_, hregs.trans (hwregs.trans ?_), hout.trans (hwout.trans ?_)⟩
    · rw [State.subUp, huport]
      rfl
    · unfold State.linkUp
      cases hl : (u.nport port).upSince with
      | nil =>
        rw [hl] at huport
        cases huport
      | cons x l => rfl
    · rw [← hv]
      rfl
    · rw [← hv]
      rfl
  refine ⟨_, rfl, ?_⟩
  split
  · obtain ⟨hnet, hregs, hout⟩ := State.switchPath_idle hwconns (1 - port)
    exact hend _ hnet hregs hout
  · exact hend w rfl rfl rfl

theorem subportReturn_returns {port : Fin 2} {sub : Fin 8} {t : Nat} (h : KMap.get? (s.nport port).upSince sub = some t)
    (ht : t + msTicks 1 ≤ s.clk) : execSubportReturn port sub s
      = .next (s.onDrv fun d => { d with conns := KMap.mapV d.conns fun c x =>
        if x.path == (port : Nat) && c % s.subCount port == (sub : Nat) && x.unacked.isEmpty then { x with sub := sub } else x }) := by
  unfold execSubportReturn
  dsimp only
  rw [h]
  dsimp only
  rw [if_neg (by omega)]

/-! ### Frames -/

section
variable {port : Fin 2} {sub : Fin 8} {f b : Bytes} (hm : f.length ≤ s.par Par.mtu)
include hm

theorem neighbourDiscovery_answers (h : icmp6 f = some (135, b)) (h255 : leAt f 7 1 = 255) (ht : slice b 4 16 = s.ip6 port)
    (hz : allZero (s.ip6 port) = false) : execNeighbourDiscovery port sub f s
      = .next (s.answer port "neighbour advertisement" (slice f 8 16 ++ s.ip6 port ++ s.mac port sub)) := by
  unfold execNeighbourDiscovery
  rw [if_neg (by omega), h]
  change Host.Outcome.next (if _ then s.answer port _ (slice f 8 16 ++ slice b 4 16 ++ s.mac port sub) else s) = _
  rw [ht, if_pos (by simp [h255, hz])]

theorem echoRequest_answers (h : icmp6 f = some (128, b)) (ht : slice f 24 16 = s.ip6 port) : execEchoRequest port sub f s
    = .next (s.answer port "echo reply" (slice f 8 16 ++ b)) := by
  unfold execEchoRequest
  rw [if_neg (by omega), h]
  change Host.Outcome.next (if _ then s.answer port _ (slice f 8 16 ++ b) else s) = _
  rw [if_pos (by simp [ht])]

theorem arpRequest_answers (h4 : s.par Par.ipv4En = 1) (hl : 28 ≤ f.length) (h6 : f.take 6 = [0, 1, 8, 0, 6, 4])
    (hop : slice f 6 2 = [0, 1]) (ht : slice f 24 4 = s.ip4 port) (hz : allZero (s.ip4 port) = false) : execArpRequest port sub f s
      = .next (s.answer port "arp reply" ([0, 1, 8, 0, 6, 4, 0, 2] ++ s.mac port sub ++ s.ip4 port ++ slice f 8 10)) := by
  unfold execArpRequest
  rw [if_neg (by simp [h4, h6]; omega), if_pos (by simp [hop, ht, hz])]
end

/-! ### The heartbeat lines -/

theorem State.hbtLost_effect (s : State) : s.hbtLost.rbit Reg.netStatus 2 = false ∧ s.hbtLost.net.pulses = 0
    ∧ ∀ o, o ≠ Reg.netStatus → s.hbtLost.reg o = s.reg o := by
  unfold State.hbtLost
  dsimp only
  split
  · refine ⟨?_, ?_, fun o ho => ?_⟩
    · rw [State.rbit_congr (State.event_regs _ _), State.rbit_setRbit_same _ _ _ _ (by decide)]
    · obtain ⟨h, o, e⟩ := State.event_frame (({ s with net := { s.net with pulses := 0 } } : State).setRbit Reg.netStatus 2 false) Reg.netHbt
      rw [e]
      rfl
    · rw [State.reg_congr (State.event_regs _ _), State.reg_setRbit_other _ _ _ ho]
      rfl
  next h => exact ⟨Bool.eq_false_iff.2 h, rfl, fun _ _ => rfl⟩

theorem hbtEdge_counts (s : State) : ∃ u : State, execHbtEdge true s = .next u ∧ u.net.pulses = min (s.net.pulses + 1) 3
    ∧ u.net.edge = true ∧ (2 ≤ s.net.pulses → u.rbit Reg.netStatus 2 = true) ∧ u.rbit Reg.netHbt 16 = false := by
  unfold execHbtEdge
  rw [if_pos rfl]
  dsimp only
  refine ⟨_, rfl, ?_⟩
  split
  · refine ⟨rfl, rfl, fun _ => State.rbit_setRbit_same _ _ _ _ (by decide), ?_⟩
    rw [State.rbit_setRbit_off _ (show Reg.netHbt ≠ Reg.netStatus by decide), State.rbit_setRbit_same _ _ _ _ (by decide)]
  next h => exact ⟨rfl, rfl, fun h2 => absurd (by omega) h, State.rbit_setRbit_same _ _ _ _ (by decide)⟩

theorem hbtStuck_latches (h16 : s.rbit Reg.netHbt 16 = false) (he : s.rbit Reg.netErr 31 = false) : ∃ u : State,
    execHbtStuck s = .next u ∧ u.rbit Reg.netHbt 16 = true ∧ u.rbit Reg.netStatus 2 = false ∧ u.rf Reg.netErr 11 8 = 4
    ∧ u.rbit Reg.netErr 31 = true := by
  unfold execHbtStuck
  rw [if_neg (ne_true_of_eq_false h16)]
  generalize hv : s.setRbit Reg.netHbt 16 true = v
  have hv31 : v.rbit errNet.off 31 = false := by
    rw [← hv]
    exact (State.rbit_setRbit_off _ (show Reg.netErr ≠ Reg.netHbt by decide) _ _ _).trans he
  have hv16 : v.rbit Reg.netHbt 16 = true := by rw [← hv, State.rbit_setRbit_same _ _ _ _ (by decide)]
  obtain ⟨hcause, hvalid⟩ := State.latch_first errNet_apart hv31 0 4
  obtain ⟨hstatus, -, hother⟩ := State.hbtLost_effect (v.latch errNet 0 4)
  refine ⟨_, rfl, ?_, hstatus, ?_, ?_⟩
  · rw [State.rbit, State.rf, hother _ (by decide), State.latch_reg_other _ _ _ _ (show Reg.netHbt ≠ errNet.off by decide)]
    exact hv16
  · rw [State.rf, hother _ (by decide)]
    exact hcause
  · rw [State.rbit, State.rf, hother _ (by decide)]
    exact hvalid

/-! ### PATH_STATUS -/

theorem pathStatus_replies {eid : Nat} {e : Entry} (h : s.Starts eid 0x3007 e) : ∃ rest, execPathStatus eid s
    = .next ((s.markBegun eid).okReply e ([byteOf (b2n (s.pathUp 0)), byteOf (b2n (s.pathUp 1)), byteOf (s.subMask 0),
      byteOf (s.subMask 1)] ++ rest)) ∧ rest.length = 12 := by
  unfold execPathStatus
  rw [State.cmd_starts h]
  have hsplit : ∀ (a b c d x y z w : Byte) (l : Bytes), [a, b, c, d, x, y, z, w] ++ l = [a, b, c, d] ++ ([x, y, z, w] ++ l) :=
    fun _ _ _ _ _ _ _ _ _ => rfl
  simp only [List.append_assoc]
  rw [hsplit]
  refine ⟨[byteOf (s.par Par.netModeA + 4 * s.par Par.netModeB), byteOf (b2n s.hbtIn + 2 * b2n (s.rbit Reg.netHbt 16)), 0, 0]
    ++ (leBytes 2 (s.hbAge 0) ++ (leBytes 2 (s.hbAge 1) ++ (leBytes 2 s.hbtAge ++ [0, 0]))), rfl, ?_⟩
  simp
end

/-- Settles O40: each event of the ports, and PATH_STATUS. -/
theorem networkPorts : Obligations.NetworkPorts := by
  unfold Obligations.NetworkPorts
  intro s port sub f
  refine ⟨fun fec hu h1 => subportDown_downs fec hu h1, fun hn hu hc hp => subportUp_ups hn hu hc hp,
    fun t h ht => subportReturn_returns h ht, fun hm => ⟨fun b h h255 ht hz => neighbourDiscovery_answers hm h h255 ht hz,
      fun b h ht => echoRequest_answers (sub := sub) hm h ht, fun h4 hl h6 hop ht hz => arpRequest_answers hm h4 hl h6 hop ht hz⟩,
    ⟨_, rfl, State.rf_bump_same _ _ _ _ _ (by decide) (by decide), fun o ho => State.reg_bump_other _ _ _ _ ho⟩,
    fun hr => congrArg Host.Outcome.next (if_pos hr), hbtEdge_counts s, ?_, hbtStuck_latches, fun eid e h => pathStatus_replies h⟩
  obtain ⟨hstatus, hpulses, -⟩ := State.hbtLost_effect s
  exact ⟨_, rfl, hstatus, hpulses⟩

end Sys2Proof.Machine
end


section
/-! Dual-head operation: what leaves the domains and the head's state alone. -/
namespace Sys2Proof.Machine

open Sys2Proof

section
variable (s : State)

/-! ### Frames: operations that leave dual-head operation as it is -/

theorem State.ReplyFrom.dhd {s u : State} (h : s.ReplyFrom u) : u.dhd = s.dhd := by
  rw [h.eq]
  rfl

theorem State.foldl_dhd {α : Type} {f : State → α → State} (hf : ∀ s a, (f s a).dhd = s.dhd) (l : List α) (s : State) :
    (l.foldl f s).dhd = s.dhd := by
  induction l generalizing s with
  | nil => rfl
  | cons a l ih => rw [List.foldl_cons, ih, hf]

theorem State.foldl_fst_dhd {α β : Type} {f : State × β → α → State × β} (hf : ∀ x a, (f x a).1.dhd = x.1.dhd) (l : List α)
    (x : State × β) : (l.foldl f x).1.dhd = x.1.dhd := by
  induction l generalizing x with
  | nil => rfl
  | cons a l ih => rw [List.foldl_cons, ih, hf]

@[simp] theorem State.dhd_bump (off hi lo n : Nat) : (s.bump off hi lo n).dhd = s.dhd := rfl
@[simp] theorem State.dhd_emit (x : Tx) : (s.emit x).dhd = s.dhd := rfl
@[simp] theorem State.dhd_onData (f : Data → Data) : (s.onData f).dhd = s.dhd := rfl
@[simp] theorem State.dhd_onDrv (f : Drv → Drv) : (s.onDrv f).dhd = s.dhd := rfl
@[simp] theorem State.dhd_setConn (c : Nat) (x : Conn) : (s.setConn c x).dhd = s.dhd := rfl
@[simp] theorem State.dhd_setJournal (d : Nat) (j : Journal) : (s.setJournal d j).dhd = s.dhd := rfl
@[simp] theorem State.dhd_setTree (root : Nat) (t : Tree) : (s.setTree root t).dhd = s.dhd := rfl

@[simp] theorem State.dhd_onCopy (d which : Nat) (f : JCopy → JCopy) : (s.onCopy d which f).dhd = s.dhd := rfl
@[simp] theorem State.dhd_dropTree (root : Nat) : (s.dropTree root).dhd = s.dhd := rfl

@[simp] theorem State.dhd_latch (r : ErrReg) (inst cause : Nat) : (s.latch r inst cause).dhd = s.dhd :=
  (State.replyFrom_latch s r inst cause).dhd

@[simp] theorem State.dhd_event (n : Nat) : (s.event n).dhd = s.dhd := by
  obtain ⟨h, o, e⟩ := State.event_frame s n
  rw [e]

@[simp] theorem State.dhd_finalOf (eid st dt : Nat) (res : Bytes) : (s.finalOf eid st dt res).dhd = s.dhd :=
  (State.replyFrom_finalOf s eid st dt res).dhd

@[simp] theorem State.dhd_pendReply (e : Entry) : (s.pendReply e).dhd = s.dhd := by
  unfold State.pendReply
  split
  · rfl
  · exact (State.replyFrom_reply _ _).dhd

@[simp] theorem State.dhd_send (c : Nat) (p : Pkt) : (s.send c p).dhd = s.dhd := by
  unfold State.send
  split <;> rfl

theorem State.dhd_pump (c n : Nat) : (s.pump c n).dhd = s.dhd := by
  induction n generalizing s with
  | zero => rfl
  | succ n ih =>
    unfold State.pump
    grind [State.dhd_send, State.dhd_setConn]

theorem State.dhd_evict : s.evict.dhd = s.dhd := by
  unfold State.evict
  grind [State.dhd_bump, State.dhd_setConn]

theorem State.dhd_useConn (c : Nat) : (s.useConn c).dhd = s.dhd := by
  unfold State.useConn
  grind [State.dhd_bump, State.dhd_onDrv, State.dhd_setConn, State.dhd_evict]

@[simp] theorem State.dhd_submit (c : Nat) (who : OpFor) (read : Bool) (want laddr : Nat) (pkts : List Pkt) :
    (s.submit c who read want laddr pkts).dhd = s.dhd := by
  unfold State.submit State.flush
  grind [State.dhd_setConn, State.dhd_pump, State.dhd_useConn]

@[simp] theorem State.dhd_peerMsg (ty : Nat) (body : Bytes) : (s.peerMsg ty body).dhd = s.dhd := by
  unfold State.peerMsg
  grind [State.dhd_onDrv, State.dhd_submit]

@[simp] theorem State.dhd_mirror (d jseq pos : Nat) (data : Bytes) : (s.mirror d jseq pos data).dhd = s.dhd := by
  unfold State.mirror
  grind [State.dhd_submit]

@[simp] theorem State.dhd_driveWrites (dom : Nat) (why : Why) (ws : List LeafWr) : (s.driveWrites dom why ws).1.dhd = s.dhd := by
  obtain ⟨f, l, o, e⟩ := State.driveWrites_frame s dom why ws
  rw [e]

theorem State.dhd_toPlacing (d pos : Nat) (data : Bytes) : (s.toPlacing d pos data).dhd = s.dhd := by
  refine State.foldl_dhd (fun s w => ?_) _ _
  unfold State.copyFill
  grind [State.dhd_driveWrites, State.dhd_onCopy]

theorem State.dhd_issueRec (d : Nat) (r : JRec) : (s.issueRec d r).dhd = s.dhd := by
  unfold State.issueRec
  grind [State.dhd_driveWrites, State.dhd_setJournal, State.dhd_mirror, State.dhd_toPlacing]

theorem State.dhd_issueLoop (d n : Nat) : (State.issueLoop d n s).dhd = s.dhd := by
  induction n generalizing s with
  | zero => rfl
  | succ n ih =>
    unfold State.issueLoop
    grind [State.dhd_issueRec]

theorem State.dhd_note (d : Nat) (ty : JTy) (items : List (Nat × Bytes)) : (s.note d ty items).dhd = s.dhd := by
  unfold State.note State.makeRec State.issueWaiting
  grind [State.dhd_setJournal, State.dhd_issueLoop]

theorem State.dhd_clearLabels (ls : List (Nat × Leaf)) (dom : Nat) : (s.clearLabels ls dom).dhd = s.dhd :=
  State.foldl_dhd (fun s _ => State.dhd_driveWrites s _ _ _) _ _

theorem State.dhd_afterLabel (w : LabelW) : (s.afterLabel w).dhd = s.dhd := by
  unfold State.afterLabel
  grind [State.dhd_clearLabels, State.dhd_setTree, State.dhd_dropTree, State.dhd_finalOf]

theorem State.dhd_stepLabel (w : LabelW) : (s.stepLabel w).dhd = s.dhd := by
  unfold State.stepLabel State.dropLabel
  grind [State.foldl_fst_dhd, State.dhd_driveWrites, State.dhd_onData, State.dhd_afterLabel]

theorem State.dhd_writeLabels (root eid : Nat) (after : AfterLabel) (result : Bytes) :
    (s.writeLabels root eid after result).dhd = s.dhd := by
  unfold State.writeLabels
  grind [State.foldl_fst_dhd, State.dhd_driveWrites, State.dhd_setTree, State.dhd_stepLabel, State.dhd_onData]

@[simp] theorem State.dhd_stopPass (gi : Nat) : (s.stopPass gi).dhd = s.dhd := by
  unfold State.stopPass State.rebuildRec
  grind [State.dhd_note, State.dhd_writeLabels, State.dhd_onData]
end

/-! ### Domains -/

section
variable {s : State} {d : Nat}

theorem State.dom_congr {u : State} (h : u.dhd = s.dhd) (d : Nat) : u.dom d = s.dom d := by
  unfold State.dom
  rw [h]

theorem State.dom_setDom_same (h : d < s.dhd.doms.length) (x : Dom) : (s.setDom d x).dom d = x := by
  unfold State.setDom State.dom State.onDhd
  dsimp only
  rw [List.getD_eq_getElem?_getD, List.getElem?_set_self h]
  rfl

theorem State.dom_setDom_other (x : Dom) {j : Nat} (h : j ≠ d) : (s.setDom d x).dom j = s.dom j := by
  unfold State.setDom State.dom State.onDhd
  dsimp only
  rw [List.getD_eq_getElem?_getD, List.getElem?_set_ne h.symm, List.getD_eq_getElem?_getD]

@[simp] theorem State.doms_setDom (s : State) (d : Nat) (x : Dom) : (s.setDom d x).dhd.doms.length = s.dhd.doms.length :=
  List.length_set ..

/-- Releasing a line changes that domain alone. -/
theorem State.hlkFree_effect (s : State) (d : Nat) : (s.hlkFree d).dhd.doms.length = s.dhd.doms.length
    ∧ (s.hlkFree d).dhd.claims = s.dhd.claims ∧ (s.hlkFree d).dhd.peerOwned = s.dhd.peerOwned
    ∧ (s.hlkFree d).dhd.hst = s.dhd.hst ∧ ∀ j, j ≠ d → (s.hlkFree d).dom j = s.dom j := by
  unfold State.hlkFree
  split
  · exact ⟨State.doms_setDom s d _, rfl, rfl, rfl, fun j hj => State.dom_setDom_other _ hj⟩
  · exact ⟨rfl, rfl, rfl, rfl, fun _ _ => rfl⟩

/-- The end of a release leaves the domains. -/
theorem State.releaseStep_effect (s : State) (d : Nat) (ok : Bool) : ∃ r, (s.releaseStep d ok).dhd = { s.dhd with releases := r } := by
  unfold State.releaseStep
  generalize hu : (State.onDhd _ _ : State) = u
  have hbase : ∃ r, u.dhd = { s.dhd with releases := r } := ⟨_, by rw [← hu]; rfl⟩
  clear hu
  dsimp only
  generalize u.dhd.releases = cs
  induction cs generalizing u with
  | nil => exact hbase
  | cons c cs ih =>
    refine ih (u.releaseEnd c) ?_
    obtain ⟨r, hr⟩ := hbase
    unfold State.releaseEnd
    split
    · exact ⟨_, by rw [State.dhd_finalOf, State.onDhd, hr]⟩
    · exact ⟨r, hr⟩
end

/-- Bits of a word that is written. -/
theorem bitAt_setBitTo (w i : Nat) (b : Bool) : bitAt (setBitTo w i b) i = b := by
  unfold bitAt setBitTo
  rw [testBit_withField _ _ _ _ _ (Nat.le_refl i), if_neg (Nat.lt_irrefl i), if_pos (Nat.le_refl i)]
  cases b <;> simp

end Sys2Proof.Machine
end


section
/-! Claims, releases and handovers of domains (R378 to R381, R386 to R388, R390, R394). -/
namespace Sys2Proof.Machine

open Sys2Proof

/-! ### The domain a command names -/

theorem bitAt_two_pow (d j : Nat) : bitAt (2 ^ d) j = (j == d) := by
  unfold bitAt
  rw [Nat.testBit_two_pow]
  by_cases h : d = j
  · rw [h, decide_eq_true rfl, beq_self_eq_true]
  · rw [decide_eq_false h, beq_eq_false_iff_ne.2 (Ne.symm h)]

theorem filter_range_one {n d : Nat} (h : d < n) (q : Nat → Bool) :
    ((List.range n).filter fun j => bitAt (2 ^ d) j && q j) = if q d then [d] else [] := by
  have hone : ((List.range n).filter fun j => bitAt (2 ^ d) j) = [d] := by
    simp only [bitAt_two_pow]
    rw [List.filter_beq, List.Nodup.count List.nodup_range, if_pos (List.mem_range.2 h)]
    rfl
  have hsplit : ((List.range n).filter fun j => bitAt (2 ^ d) j && q j) = ((List.range n).filter fun j => bitAt (2 ^ d) j).filter q := by
    rw [List.filter_filter]
    exact congrArg (fun p => List.filter p (List.range n)) (funext fun j => Bool.and_comm _ _)
  rw [hsplit, hone, List.filter_cons, List.filter_nil]

theorem filter_range_named {n d : Nat} (h : d < n) : ((List.range n).filter fun j => bitAt (2 ^ d) j) = [d] := by
  have := filter_range_one h fun _ => true
  simpa using this

section
variable {s : State} {d : Nat}

/-- A claim that begins without leases waits for its line. -/
theorem State.startClaim_effect (hd : d < s.dhd.doms.length) (hl : s.lease = false) (taken handed : Bool) :
    (s.startClaim d taken handed).dom d = { Dom.reset with st := .claiming, taken := taken, claimAt := s.clk, handed := handed }
    ∧ (∀ j, j ≠ d → (s.startClaim d taken handed).dom j = s.dom j)
    ∧ (s.startClaim d taken handed).dhd.doms.length = s.dhd.doms.length
    ∧ (s.startClaim d taken handed).dhd.claims = s.dhd.claims ∧ (s.startClaim d taken handed).dhd.peerOwned = s.dhd.peerOwned
    ∧ (s.startClaim d taken handed).dhd.hst = s.dhd.hst ∧ (s.startClaim d taken handed).lease = false
    ∧ (s.startClaim d taken handed).data = s.data := by
  obtain ⟨hlen, hclaims, howned, hhst, hother⟩ := State.hlkFree_effect s d
  have hfree : (s.hlkFree d).lease = false ∧ (s.hlkFree d).data = s.data := by
    unfold State.hlkFree
    split
    · exact ⟨hl, rfl⟩
    · exact ⟨hl, rfl⟩
  unfold State.startClaim
  dsimp only
  generalize hx : ({ Dom.reset with st := .claiming, taken := taken, claimAt := s.clk, handed := handed } : Dom) = x
  have hlease : ((s.hlkFree d).setDom d x).lease = false := hfree.1
  rw [hlease, Bool.false_and, if_neg (by decide)]
  exact ⟨State.dom_setDom_same (by omega) x, fun j hj => (State.dom_setDom_other x hj).trans (hother j hj),
    (State.doms_setDom _ d x).trans hlen, hclaims, howned, hhst, hlease, hfree.2⟩

theorem domainClaim_claims {d : Fin 8} {eid : Nat} {e : Entry} (hlen : s.dhd.doms.length = 8) (h : s.Starts eid 0x6010 e)
    (hp : e.p 0 1 = 2 ^ (d : Nat)) (hf : e.p 1 1 = 0) (hst : (s.dom d).st = .unowned) (hc : (s.markBegun eid).claimable d = true)
    (hl : (s.markBegun eid).lease = false) : ∃ u : State, execDomainClaim eid s = .next u ∧ (u.dom d).st = .claiming
      ∧ (u.dom d).claimAt = s.clk ∧ u.dhd.claims = s.dhd.claims ++ [⟨eid, [(d : Nat)], false⟩]
      ∧ ∀ j, j ≠ (d : Nat) → u.dom j = s.dom j := by
  have hown : (s.markBegun eid).owns d = false := by
    unfold State.owns
    rw [show (s.markBegun eid).dom d = s.dom d from rfl, hst]
    rfl
  unfold execDomainClaim
  rw [State.cmd_starts h, hf, hp, if_neg (by decide)]
  dsimp only
  rw [filter_range_one d.isLt fun j => !(s.markBegun eid).owns j, hown]
  simp only [Bool.not_false, if_true, List.filter_cons, List.filter_nil, hc, Bool.true_or, bne_self_eq_false, List.foldl_cons,
    List.foldl_nil]
  generalize hv : ((s.markBegun eid).onDhd fun h => { h with claims := h.claims ++ [(⟨eid, [(d : Nat)], false⟩ : DomCmd)] }) = v
  have hvdhd : v.dhd = { s.dhd with claims := s.dhd.claims ++ [⟨eid, [(d : Nat)], false⟩] } := by rw [← hv]; rfl
  have hpend : (v.pendReply e).dhd = v.dhd := State.dhd_pendReply v e
  have hvl : (v.pendReply e).lease = false ∧ (v.pendReply e).clk = s.clk := by
    unfold State.pendReply
    split
    · rw [← hv]
      exact ⟨hl, rfl⟩
    · rw [(State.replyFrom_reply _ _).eq, ← hv]
      exact ⟨hl, rfl⟩
  have hend : (v.pendReply e).claimEnd ⟨eid, [(d : Nat)], false⟩ = v.pendReply e := by
    unfold State.claimEnd
    rw [if_neg (by simp)]
  rw [hend]
  have hdoms : (v.pendReply e).dhd.doms = s.dhd.doms := by rw [hpend, hvdhd]
  obtain ⟨hdom, hother, -, hclaims, -⟩ := State.startClaim_effect (s := v.pendReply e) (d := d)
    (by rw [hdoms, hlen]; exact d.isLt) hvl.1 false false
  refine ⟨_, rfl, ?_, ?_, ?_, fun j hj => ?_⟩
  · rw [hdom]
  · rw [hdom]
    exact hvl.2
  · rw [hclaims, hpend, hvdhd]
  · rw [hother j hj, State.dom, hdoms]
    rfl
end

/-! ### Lines, read-backs and timeouts -/

section
variable {s : State} {d : Fin 8}

theorem hlkPull_alone (hst : (s.dom d).st = .claiming) (hp : (s.dom d).pulled = false) (hl : s.lease = false)
    (hb : s.part.headB = false) (probe : Bool) : execHlkPull d probe s = .next (s.hlk d true) := by
  unfold execHlkPull
  dsimp only
  rw [if_neg (by simp [hst, hp, hl]), if_pos (by rw [show (s.hlk d true).part = s.part from rfl, hb]; rfl)]

theorem hlkPull_probes (hst : (s.dom d).st = .claiming) (hp : (s.dom d).pulled = false) (hl : s.lease = false)
    (hb : s.part.headB = true) (probe : Bool) : execHlkPull d probe s
      = .next (if probe then ((s.hlk d true).hlk d false).hlk d true else (((s.hlk d true).hlk d false).failClaim d).dhdCount 16) := by
  unfold execHlkPull
  dsimp only
  rw [if_neg (by simp [hst, hp, hl]), if_neg (by rw [show (s.hlk d true).part = s.part from rfl, hb]; decide)]

theorem claimWaitTimeout_fails (hst : (s.dom d).st = .claiming) (hp : (s.dom d).pulled = false) (hl : s.lease = false)
    (hc : s.commanded d = true) (ht : (s.dom d).claimAt + 3 ≤ s.clk) : execClaimWaitTimeout d s = .next (s.failClaim d) := by
  unfold execClaimWaitTimeout
  dsimp only
  rw [if_pos (by simp [hst, hp, hl, hc, show msTicks 1 = 3 from rfl, ht])]

theorem hlkReadback_holds (hst : (s.dom d).st = .claiming) (hp : (s.dom d).pulled = true) :
    execHlkReadback d true s = .next (s.enterLoading d) := by
  unfold execHlkReadback
  dsimp only
  rw [if_neg (by simp [hst, hp]), if_pos rfl]

theorem hlkReadback_fails (hst : (s.dom d).st = .claiming) (hp : (s.dom d).pulled = true) :
    execHlkReadback d false s = .next ((s.failClaim d).latch errDhd d 2) := by
  unfold execHlkReadback
  dsimp only
  rw [if_neg (by simp [hst, hp]), if_neg (by decide)]

theorem leaseGrantTimeout_fails (hst : (s.dom d).st = .claiming) (hl : s.lease = true) (hc : s.commanded d = true)
    (ht : (s.dom d).claimAt + 9 ≤ s.clk) : execLeaseGrantTimeout d s = .next (s.failClaim d) := by
  unfold execLeaseGrantTimeout
  dsimp only
  rw [if_pos (by simp [hst, hl, hc, show msTicks 3 = 9 from rfl, ht])]

theorem replayComplete_owns (load : Option Loaded) (hst : (s.dom d).st = .loading) : execReplayComplete d load s
    = .next ((match load with | none => s | some l => s.replay d l).ownDomain d) := by
  unfold execReplayComplete
  dsimp only
  rw [if_neg (by simp [hst])]
  cases load <;> rfl

theorem indexLoadComplete_ends (hlen : s.dhd.doms.length = 8) :
    ∃ u : State, execIndexLoadComplete d s = .next u ∧ u.dom d = { s.dom d with idxLoad := false } :=
  ⟨_, rfl, State.dom_setDom_same (by rw [hlen]; exact d.isLt) _⟩
end

/-! ### Release -/

section
variable {s : State} {d : Fin 8} {eid : Nat} {e : Entry}

/-- A release begins: the domain is in RELEASING, and nothing else of dual-head operation moves. -/
theorem State.startRelease_effect (hd : (d : Nat) < s.dhd.doms.length) (toPeer : Bool) :
    ((s.startRelease d toPeer).dom d).st = .releasing ∧ ((s.startRelease d toPeer).dom d).toPeer = toPeer
    ∧ (s.startRelease d toPeer).dhd.releases = s.dhd.releases := by
  unfold State.startRelease
  dsimp only
  have hfold := fun (u : State) (gs : List Nat) => State.foldl_dhd (f := fun s g => s.stopPass g) (fun s g => State.dhd_stopPass s g) gs u
  rw [State.dom_congr (hfold _ _), State.dom_setDom_same hd, hfold]
  exact ⟨rfl, rfl, rfl⟩

theorem domainRelease_releases (hlen : s.dhd.doms.length = 8) (h : s.Starts eid 0x6011 e) (hp : e.p 0 1 = 2 ^ (d : Nat))
    (hf : e.p 1 1 = 0) (hst : (s.dom d).st = .owned) : ∃ u : State, execDomainRelease eid s = .next u
      ∧ (u.dom d).st = .releasing ∧ (u.dom d).toPeer = false
      ∧ u.dhd.releases = s.dhd.releases ++ [⟨eid, [(d : Nat)], false⟩] := by
  have hown : (s.markBegun eid).owns d = true := by
    unfold State.owns
    rw [show (s.markBegun eid).dom d = s.dom d from rfl, hst]
    rfl
  have hbit : bitAt (e.p 1 1) 0 = false := by rw [hf]; rfl
  unfold execDomainRelease
  rw [State.cmd_starts h, hp, hbit]
  dsimp only
  rw [filter_range_named d.isLt]
  simp only [Bool.false_and, Bool.false_eq_true, if_false, if_true, List.filter_cons, List.filter_nil, hown, Bool.true_or,
    List.foldl_cons, List.foldl_nil]
  generalize hv : ((s.markBegun eid).onDhd fun h => { h with releases := h.releases ++ [(⟨eid, [(d : Nat)], false⟩ : DomCmd)] }) = v
  have hvr : v.dhd.releases = s.dhd.releases ++ [⟨eid, [(d : Nat)], false⟩] := by rw [← hv]; rfl
  have hvd : v.dhd.doms = s.dhd.doms := by rw [← hv]; rfl
  have hend : v.releaseEnd ⟨eid, [(d : Nat)], false⟩ = v := by
    unfold State.releaseEnd
    rw [if_neg (by simp)]
  rw [hend]
  obtain ⟨hst', hto, hr⟩ := State.startRelease_effect (s := v) (d := d) (by rw [hvd, hlen]; exact d.isLt) false
  exact ⟨_, rfl, hst', hto, hr.trans hvr⟩

theorem domainReleaseDrained_ends (hlen : s.dhd.doms.length = 8) (hst : (s.dom d).st = .releasing) (hdr : s.drained d = true)
    (hto : (s.dom d).toPeer = false) : ∃ u : State, execDomainReleaseDrained d s = .next u ∧ u.dom d = Dom.reset
      ∧ ∀ j, j ≠ (d : Nat) → u.dom j = s.dom j := by
  obtain ⟨hlen', -, -, -, hother⟩ := State.hlkFree_effect s d
  unfold execDomainReleaseDrained
  dsimp only
  rw [if_neg (by simp [hst, hdr]), hto, if_pos (by decide)]
  obtain ⟨r, hr⟩ := State.releaseStep_effect ((s.hlkFree d).setDom d { Dom.reset with given := false }) d true
  have hdom : ∀ j, (((s.hlkFree d).setDom d { Dom.reset with given := false }).releaseStep d true).dom j
      = ((s.hlkFree d).setDom d { Dom.reset with given := false }).dom j := fun j => by
    unfold State.dom
    rw [hr]
  refine ⟨_, rfl, ?_, fun j hj => ?_⟩
  · rw [hdom, State.dom_setDom_same (by rw [hlen', hlen]; exact d.isLt)]
    rfl
  · rw [hdom, State.dom_setDom_other _ hj, hother j hj]
end

/-! ### Messages of the peer, and status -/

section
variable {s : State} {d : Fin 8} {c : Conn} {m : Bytes} {ms : List Bytes}

theorem handover_claims (hlen : s.dhd.doms.length = 8) (hc : s.conn 0 = some c) (hm : c.inbox = m :: ms) (hd : leAt m 16 1 = (d : Nat))
    (ht : leAt m 0 1 = 0x11) (hmode : s.dhd.modeBad = false) (hst : (s.dom d).st = .unowned) (hl : s.lease = false) :
    ∃ u : State, execHandover s = .next u ∧ (u.dom d).st = .claiming ∧ (u.dom d).handed = true
      ∧ (u.journal d).epoch = leAt m 20 4 ∧ (u.journal d).nextSeq = leAt m 24 8 + 1 ∧ bitAt u.dhd.peerOwned d = false := by
  unfold execHandover
  rw [State.takeMsg_first hc hm ht]
  dsimp only
  rw [leAt_drop, leAt_drop, leAt_drop, hd, if_neg (by simp [hmode, hst, State.dom_congr (State.dhd_setConn s 0 _)]; omega)]
  generalize hv : ((_ : State).setJournal (d : Nat) _).onDhd _ = v
  have hvl : v.lease = false := by rw [← hv]; exact hl
  have hvd : v.dhd.doms.length = 8 := by rw [← hv]; exact hlen
  have hvo : bitAt v.dhd.peerOwned d = false := by
    rw [← hv]
    exact bitAt_setBitTo _ _ _
  have hvj : (v.journal d).epoch = leAt m 20 4 ∧ (v.journal d).nextSeq = leAt m 24 8 + 1 := by
    rw [← hv]
    exact ⟨congrArg Journal.epoch (State.journal_setJournal _ _ _), congrArg Journal.nextSeq (State.journal_setJournal _ _ _)⟩
  obtain ⟨hdom, -, -, -, howned, -, -, hdata⟩ := State.startClaim_effect (s := v) (d := d) (by rw [hvd]; exact d.isLt) hvl false true
  have hj : (v.startClaim d false true).journal d = v.journal d := by
    unfold State.journal
    rw [hdata]
  refine ⟨_, rfl, by rw [hdom], by rw [hdom], ?_, ?_, by rw [howned]; exact hvo⟩
  · rw [hj]
    exact hvj.1
  · rw [hj]
    exact hvj.2

theorem claimed_completes (hlen : s.dhd.doms.length = 8) (hc : s.conn 0 = some c) (hm : c.inbox = m :: ms) (hd : leAt m 16 1 = (d : Nat))
    (ht : leAt m 0 1 = 0x12) (hg : (s.dom d).given = true) (hf : s.dhd.failing = false) : ∃ u : State, execClaimed s = .next u
      ∧ (u.dom d).given = false ∧ bitAt u.dhd.peerOwned d = true := by
  unfold execClaimed
  rw [State.takeMsg_first hc hm ht]
  dsimp only
  rw [leAt_drop, hd, if_neg (by simp [hg, State.dom_congr (State.dhd_setConn s 0 _)]; omega)]
  generalize hv : ((_ : State).setDom (d : Nat) _).onDhd _ = v
  have hvg : (v.dom d).given = false := by
    rw [← hv]
    exact congrArg Dom.given (State.dom_setDom_same (s := s) (by rw [hlen]; exact d.isLt) _)
  have hvo : bitAt v.dhd.peerOwned d = true := by
    rw [← hv]
    exact bitAt_setBitTo _ _ _
  have hvf : v.dhd.failing = false := by rw [← hv]; exact hf
  obtain ⟨r, hr⟩ := State.releaseStep_effect v d true
  have hnext : (v.releaseStep d true).failbackNext = v.releaseStep d true := by
    unfold State.failbackNext
    rw [hr]
    dsimp only
    rw [hvf, if_pos (by rw [Bool.not_false, Bool.true_or])]
  rw [hnext]
  refine ⟨_, rfl, ?_, by rw [hr]; exact hvo⟩
  unfold State.dom
  rw [hr]
  exact hvg

theorem headStatus_replies {eid : Nat} {e : Entry} (h : s.Starts eid 0x6012 e) : execHeadStatus eid s
    = .next ((s.markBegun eid).okReply e ([byteOf s.dhd.hst.code, byteOf s.dhd.peer.code, byteOf s.heldMask, byteOf s.homeSet,
        byteOf s.dhd.peerOwned, byteOf (s.par Par.dhdMode + 2 * b2n s.dhd.armed), 0, 0]
      ++ leBytes 4 s.holdSecs ++ leBytes 4 (s.reg Reg.dhdCnt).toNat)) := by
  unfold execHeadStatus
  rw [State.cmd_starts h]
  rfl
end

/-- Settles O41: the clauses above, one after another. -/
theorem domainOwnership : Obligations.DomainOwnership := by
  unfold Obligations.DomainOwnership
  rintro s d eid e _ _ rfl rfl hlen
  exact ⟨fun h hp hf hst hc hl => domainClaim_claims hlen h hp hf hst hc hl,
    fun probe hst hp hl => ⟨fun hb => hlkPull_alone hst hp hl hb probe,
      fun hb => ⟨hlkPull_probes hst hp hl hb true, hlkPull_probes hst hp hl hb false⟩,
      fun hc ht => claimWaitTimeout_fails hst hp hl hc ht⟩,
    fun hst hp => ⟨hlkReadback_holds hst hp, hlkReadback_fails hst hp⟩,
    fun hst hl hc ht => leaseGrantTimeout_fails hst hl hc ht,
    fun load hst => replayComplete_owns load hst,
    indexLoadComplete_ends hlen,
    fun h hp hf hst => domainRelease_releases hlen h hp hf hst,
    fun hst hdr hto => domainReleaseDrained_ends hlen hst hdr hto,
    fun c m ms hc hm hd => ⟨fun ht hmode hst hl => handover_claims hlen hc hm hd ht hmode hst hl,
      fun ht hg hf => claimed_completes hlen hc hm hd ht hg hf⟩,
    fun h => headStatus_replies h⟩

end Sys2Proof.Machine
end


section
/-! Heartbeats, leases, takeover and failback (R348, R382 to R384, R388 to R393). -/
namespace Sys2Proof.Machine

open Sys2Proof

/-! ### Heartbeats -/

section
variable {s : State} {c : Conn}

theorem State.peerUp_established (hc : s.conn 0 = some c) (hst : c.st = .established) : s.peerUp = true := by
  unfold State.peerUp
  rw [hc]
  dsimp only
  rw [hst]
  rfl

theorem State.pathSt_setPath {p : Nat} (h : p < s.drv.paths.length) (x : Path) : (s.setPath p x).pathSt p = x := by
  unfold State.setPath State.pathSt State.onDrv
  dsimp only
  rw [List.getD_eq_getElem?_getD, List.getElem?_set_self h]
  rfl

theorem heartbeatTransmit_sends (hc : s.conn 0 = some c) (hst : c.st = .established) (h0 : s.linkUp 0 = true)
    (h1 : s.linkUp 1 = false) (hp : s.drv.paths.length = 2) : ∃ (u : State) (w y : Nat) (z : Bytes),
      execHeartbeatTransmit s = .next u ∧ u.out = s.out ++ [.grmp 0 (s.subLow 0) 0 c.addrA w y z]
      ∧ (u.pathSt 0).txSeq = ((s.pathSt 0).txSeq + 1) % 2 ^ 32 := by
  unfold execHeartbeatTransmit
  rw [State.peerUp_established hc hst]
  simp only [Bool.not_true, Bool.false_eq_true, if_false, List.foldl_cons, List.foldl_nil, hc, h0, if_true]
  generalize hv : State.sendOn _ _ _ _ _ _ = v
  have hlink : v.linkUp 1 = false := by rw [← hv]; exact h1
  have hconn : v.conn 0 ≠ none := by
    rw [← hv]
    unfold State.sendOn
    dsimp only
    rw [show ∀ (w : State) x t, ((w.setConn 0 x).emit t).conn 0 = (w.setConn 0 x).conn 0 from fun _ _ _ => rfl,
      State.conn_setConn_same]
    exact Option.some_ne_none _
  obtain ⟨x, hx⟩ := Option.ne_none_iff_exists'.1 hconn
  rw [hx]
  dsimp only
  rw [hlink, if_neg (by decide)]
  refine ⟨v, _, _, _, rfl, by rw [← hv]; rfl, ?_⟩
  rw [← hv]
  exact congrArg Path.txSeq (State.pathSt_setPath (s := s) (p := 0) (by omega) _)

theorem grmpHeartbeat_takes {f : Bytes} {p : Pkt} {ct tag pt : Bytes} (h : (s.ipIn f).bind parseGrmp = some (p, ct, tag))
    (hop : p.op = Grmp.heartbeat) (hd : p.dcid = 0) (hc : s.conn 0 = some c) (hst : c.st = .established)
    (ht : gcmDec (s.connKey c) (c.saltRx ++ beBytes 8 p.txc) p.hdr ct tag = some pt) (hlen : pt.length = 32)
    (hr : (s.pathSt (p.flags / 4 % 2)).rxSeq = none) (port : Fin 2) : execGrmpHeartbeat port f s
      = .next (((s.tally 6 32).takeAck 0 p.apsn).takeBeat (p.flags / 4 % 2) { p with payload := pt }) := by
  have hup : (s.tally 6 32).peerUp = true := State.peerUp_established (s := s.tally 6 32) hc hst
  have hseq : ((s.tally 6 32).pathSt (p.flags / 4 % 2)).rxSeq = none := hr
  unfold execGrmpHeartbeat
  rw [State.rx_opened _ h hop (by rw [hd]; exact hc) ht, hlen, hd]
  dsimp only
  rw [hup, hseq]
  rfl
end

/-! ### The watchdog and the leases -/

section
variable {s : State} {d : Fin 8}

theorem watchdogExpiry_resets (hr : s.ready = true) (ht : s.dhd.lastKick + 3 * s.par Par.wdtMs ≤ s.clk) : ∃ u : State,
    execWatchdogExpiry s = .next ((u.warmReset 4).latch errDhd 0 1) ∧ u.clk = s.clk ∧ u.data = s.data ∧ u.ez = s.ez := by
  unfold execWatchdogExpiry
  dsimp only
  have hkick : ¬ s.clk < s.dhd.lastKick + msTicks (s.par Par.wdtMs) := Nat.not_lt.2 ht
  rw [if_neg (by simp [hr, hkick])]
  exact ⟨_, rfl, rfl, rfl, rfl⟩

theorem leaseRenew_first (ha : s.dhd.armed = true) (hl : s.lease = true) (hr : s.dhd.renewTicks = []) : execLeaseRenew s
    = .next (s.onDhd fun h => { h with
        renewSeq := (h.renewSeq + 1) % 2 ^ 32, renewTicks := [((h.renewSeq + 1) % 2 ^ 32, s.clk)] }) := by
  unfold execLeaseRenew
  dsimp only
  rw [if_neg (by simp [ha, hl, hr])]
  unfold State.onDhd
  dsimp only
  rw [hr]
  rfl

theorem leaseLapse_fences (ha : s.dhd.armed = true) (hl : s.lease = true) (hst : s.dhd.hst ≠ .alone)
    (hh : (s.dom d).st.held = true) (hc : s.leaseCurrent d = false) : execLeaseLapse d s = .next (s.fence d) := by
  unfold execLeaseLapse
  rw [if_pos (by simp [ha, hl, hst, hh, hc])]

theorem fenceExpiry_lifts (hlen : s.dhd.doms.length = 8) (hf : 0 < (s.dom d).fenceUntil) (ht : (s.dom d).fenceUntil ≤ s.clk) :
    ∃ u : State, execFenceExpiry d s = .next u ∧ u.dom d = { s.dom d with fenceUntil := 0 }
      ∧ (∀ c ∈ u.fpt.cmds, c.dom = (d : Nat) → c.held = false)
      ∧ u.out.length = s.out.length + (s.fpt.cmds.filter fun c => c.held && c.dom == (d : Nat)).length := by
  unfold execFenceExpiry
  dsimp only
  rw [if_neg (by simp; omega)]
  refine ⟨_, rfl, State.dom_setDom_same (s := s) (by rw [hlen]; exact d.isLt) _, fun c hc hd => ?_, ?_⟩
  · obtain ⟨c', -, rfl⟩ := List.mem_map.1 hc
    split
    · rfl
    · next hn =>
      rw [if_neg hn] at hd
      simpa [hd] using hn
  · exact List.length_append.trans (congrArg (s.out.length + ·) (List.length_map _))

theorem failbackHoldoffExpiry_starts {t : Nat} (hh : s.dhd.holdStart = some t) (hst : s.dhd.hst = .alone)
    (hf : s.dhd.failing = false) (ht : t + 3000 * s.par Par.failbackS ≤ s.clk) : execFailbackHoldoffExpiry s
      = .next ((s.onDhd fun h => { h with failing := true }).failbackNext) := by
  have hoff : ¬ s.clk < t + msTicks 1000 * s.par Par.failbackS := Nat.not_lt.2 ht
  unfold execFailbackHoldoffExpiry
  rw [hh]
  dsimp only
  rw [if_neg (by simp [hst, hf, hoff])]
end

/-! ### Takeover -/

/-- What a takeover does with one domain: it is claimed, or its claim becomes a takeover. -/
def State.takeOver (s : State) (d : Nat) : State :=
  let x := s.dom d
  if x.st == .unowned || x.st == .fenced then s.startClaim d true false
  else if x.st == .claiming then
    let s := s.setDom d { x with taken := true, handed := false, claimAt := s.clk }
    if s.lease then s.enterLoading d else s
  else s

section
variable {s : State} {d : Nat}

/-- A takeover of a domain without leases: that domain alone changes, and one that is free is claimed. -/
theorem State.takeOver_effect (hd : d < s.dhd.doms.length) (hl : s.lease = false) :
    (s.takeOver d).dhd.doms.length = s.dhd.doms.length ∧ (s.takeOver d).dhd.hst = s.dhd.hst
    ∧ (s.takeOver d).dhd.peerOwned = s.dhd.peerOwned ∧ (s.takeOver d).lease = false
    ∧ (∀ j, j ≠ d → (s.takeOver d).dom j = s.dom j)
    ∧ ((s.dom d).st = .unowned ∨ (s.dom d).st = .fenced → ((s.takeOver d).dom d).st = .claiming ∧ ((s.takeOver d).dom d).taken = true) := by
  unfold State.takeOver
  dsimp only
  split
  · obtain ⟨hdom, hother, hlen, -, howned, hhst, hlease, -⟩ := State.startClaim_effect hd hl true false
    exact ⟨hlen, hhst, howned, hlease, hother, fun _ => by rw [hdom]; exact ⟨rfl, rfl⟩⟩
  · next hfree =>
    have hbusy : ¬ ((s.dom d).st = .unowned ∨ (s.dom d).st = .fenced) := by simpa using hfree
    split
    · rw [if_neg (ne_true_of_eq_false (show (s.setDom d _).lease = false from hl))]
      exact ⟨State.doms_setDom s d _, rfl, rfl, hl, fun j hj => State.dom_setDom_other _ hj, fun h => absurd h hbusy⟩
    · exact ⟨rfl, rfl, rfl, hl, fun _ _ => rfl, fun h => absurd h hbusy⟩

/-- Takeovers of the first domains, one after another: domains beyond them stay. -/
theorem State.takeOvers_effect {n : Nat} (hn : n ≤ s.dhd.doms.length) (hl : s.lease = false) :
    ((List.range n).foldl State.takeOver s).dhd.doms.length = s.dhd.doms.length
    ∧ ((List.range n).foldl State.takeOver s).dhd.hst = s.dhd.hst
    ∧ ((List.range n).foldl State.takeOver s).dhd.peerOwned = s.dhd.peerOwned
    ∧ ((List.range n).foldl State.takeOver s).lease = false
    ∧ (∀ j, n ≤ j → ((List.range n).foldl State.takeOver s).dom j = s.dom j)
    ∧ (∀ j < n, (s.dom j).st = .unowned ∨ (s.dom j).st = .fenced →
      (((List.range n).foldl State.takeOver s).dom j).st = .claiming ∧ (((List.range n).foldl State.takeOver s).dom j).taken = true) := by
  induction n with
  | zero => exact ⟨rfl, rfl, rfl, hl, fun _ _ => rfl, fun j hj => absurd hj (Nat.not_lt_zero j)⟩
  | succ n ih =>
    obtain ⟨hlen, hhst, howned, hlease, hrest, hdone⟩ := ih (Nat.le_of_succ_le hn)
    rw [List.range_succ, List.foldl_append, List.foldl_cons, List.foldl_nil]
    obtain ⟨hlen', hhst', howned', hlease', hother, hclaims⟩ := State.takeOver_effect (d := n) (hlen.symm ▸ hn) hlease
    refine ⟨hlen'.trans hlen, hhst'.trans hhst, howned'.trans howned, hlease',
      fun j hj => (hother j (by omega)).trans (hrest j (by omega)), fun j hj hfree => ?_⟩
    rcases Nat.lt_succ_iff_lt_or_eq.1 hj with hlt | rfl
    · rw [hother j (Nat.ne_of_lt hlt)]
      exact hdone j hlt hfree
    · exact hclaims (by rw [hrest j (Nat.le_refl j)]; exact hfree)

theorem peerFailed_takesOver {d : Fin 8} (ha : s.dhd.armed = true) (hst : s.dhd.hst ≠ .alone)
    (hs : s.par Par.confirmTicks ≤ s.dhd.silent) (hg : ∀ j, (s.dom j).given = false) (hlen : s.dhd.doms.length = 8)
    (hm : s.dhd.modeBad = false) (hl : s.lease = false) : ∃ u : State, execPeerFailed s = .next u
      ∧ u.dhd.hst = .alone ∧ u.dhd.peerOwned = 0
      ∧ (((s.dom d).st = .unowned ∨ (s.dom d).st = .fenced) → (u.dom d).st = .claiming ∧ (u.dom d).taken = true) := by
  unfold execPeerFailed
  rw [if_neg (by simp [ha, hst]; omega)]
  dsimp only
  generalize hv : State.dhdCount _ 0 = v
  have hdom : ∀ j, v.dom j = s.dom j := fun j => by rw [← hv]; rfl
  have hnone : ((List.range 8).filter fun j => (v.dom j).given) = [] :=
    List.filter_eq_nil_iff.2 fun j _ => by rw [hdom, hg j]; decide
  rw [hnone]
  have hvm : v.dhd.modeBad = false := by rw [← hv]; exact hm
  change ∃ u, Host.Outcome.next (if v.dhd.modeBad = true then v else (List.range 8).foldl State.takeOver v) = .next u ∧ _
  rw [hvm, if_neg (by decide)]
  obtain ⟨-, hhst, howned, -, -, hclaims⟩ := State.takeOvers_effect (s := v) (n := 8) (by rw [← hv]; exact (Nat.le_of_eq hlen.symm))
    (by rw [← hv]; exact hl)
  exact ⟨_, rfl, hhst.trans (by rw [← hv]; rfl), howned.trans (by rw [← hv]; rfl),
    fun h => hclaims d d.isLt (by rw [hdom]; exact h)⟩
end

/-! ### What the peer reports -/

theorem State.dhd_peerModeIs (s : State) (mode : Nat) : ∃ b, (s.peerModeIs mode).dhd = { s.dhd with peerMode := mode, modeBad := b } := by
  unfold State.peerModeIs
  dsimp only
  split
  · exact ⟨_, by rw [State.dhd_event, State.dhd_latch]; rfl⟩
  · exact ⟨_, rfl⟩

theorem State.dhd_peerHomeSet (s : State) (home : Nat) :
    ∃ b o, (s.peerHomeSet home).dhd = { s.dhd with peerHome := home, homeBad := b, homeOver := o } := by
  unfold State.peerHomeSet
  dsimp only
  split
  · exact ⟨_, _, rfl⟩
  split
  · exact ⟨_, _, rfl⟩
  split
  · exact ⟨_, _, rfl⟩
  · exact ⟨_, _, by rw [State.dhd_event, State.dhd_latch]; rfl⟩

section
variable {s : State} {d : Fin 8} {c : Conn} {m : Bytes} {ms : List Bytes} (hc : s.conn 0 = some c) (hm : c.inbox = m :: ms)

include hc hm in
theorem yield_takes (ht : leAt m 0 1 = 0x15) : execYield s = .next ((s.setConn 0 { c with inbox := ms }).onDhd fun h =>
    { h with peerOwned := setBitTo h.peerOwned (leAt m 16 1) false }) := by
  unfold execYield
  rw [State.takeMsg_first hc hm ht]
  rw [leAt_drop]

include hc hm in
theorem join_takes (ht : leAt m 0 1 = 0x10) (hst : s.dhd.hst ≠ .alone) : ∃ v : State, execJoin s = .next v
    ∧ v.dhd.peer = HSt.ofCode (leAt m 16 1) ∧ v.dhd.peerDigest = some (slice m 24 32) ∧ v.dhd.peerHome = leAt m 18 1
    ∧ v.dhd.peerMode = leAt m 17 1 := by
  unfold execJoin
  rw [State.takeMsg_first hc hm ht]
  dsimp only
  rw [leAt_drop, leAt_drop, leAt_drop, show slice (m.drop 16) 8 32 = slice m 24 32 by unfold slice; rw [List.drop_drop]]
  generalize hv : State.onDhd _ _ = v
  obtain ⟨b, hmode⟩ := State.dhd_peerModeIs v (leAt m (16 + 1) 1)
  obtain ⟨b', o, hhome⟩ := State.dhd_peerHomeSet (v.peerModeIs (leAt m (16 + 1) 1)) (leAt m (16 + 2) 1)
  have hvs : v.dhd.hst = s.dhd.hst := by rw [← hv]; rfl
  rw [if_pos (by rw [hhome, hmode]; simpa [hvs] using hst)]
  refine ⟨_, rfl, ?_⟩
  rw [hhome, hmode, ← hv]
  exact ⟨rfl, rfl, rfl, rfl⟩

include hc hm in
theorem resync_takes (ht : leAt m 0 1 = 0x13) (hd : leAt m 16 1 = (d : Nat)) : ∃ v : State, execResync s = .next v
    ∧ (v.journal d).image = [] ∧ bitAt v.dhd.resynced d = false := by
  unfold execResync
  rw [State.takeMsg_first hc hm ht]
  dsimp only
  rw [leAt_drop, hd, if_neg (by omega)]
  exact ⟨_, rfl, congrArg Journal.image (State.journal_setJournal _ _ _), bitAt_setBitTo _ _ _⟩

include hc hm in
theorem resyncDone_takes (ht : leAt m 0 1 = 0x14) (hd : leAt m 16 1 = (d : Nat)) : ∃ v : State, execResyncDone s = .next v
    ∧ (v.journal d).peerTail = leAt m 20 8 ∧ bitAt v.dhd.resynced d = true := by
  unfold execResyncDone
  rw [State.takeMsg_first hc hm ht]
  dsimp only
  rw [leAt_drop, leAt_drop, hd, if_neg (by omega)]
  exact ⟨_, rfl, congrArg Journal.peerTail (State.journal_setJournal _ _ _), bitAt_setBitTo _ _ _⟩
end

/-- Settles O42: the clauses above; a takeover runs over the eight domains one after another. -/
theorem heartbeatsAndTakeover : Obligations.HeartbeatsAndTakeover := by
  unfold Obligations.HeartbeatsAndTakeover
  intro s d
  refine ⟨fun c hc hst h0 h1 hp => heartbeatTransmit_sends hc hst h0 h1 hp, ?_,
    fun hr ht => watchdogExpiry_resets hr ht,
    fun ha hl hr => leaseRenew_first ha hl hr,
    fun ha hl hst hh hc => leaseLapse_fences ha hl hst hh hc,
    fun hlen hf ht => fenceExpiry_lifts hlen hf ht,
    fun ha hst hs hg hlen hm hl => peerFailed_takesOver ha hst hs hg hlen hm hl, ?_,
    fun t hh hst hf ht => failbackHoldoffExpiry_starts hh hst hf ht⟩
  · rintro port f p ct tag c pt _ _ h hop hd hc hst ht hlen hr rfl rfl
    exact grmpHeartbeat_takes h hop hd hc hst ht hlen hr port
  · rintro c m ms _ hc hm rfl
    exact ⟨fun ht => yield_takes hc hm ht, fun ht hst => join_takes hc hm ht hst,
      fun ht hd => resync_takes hc hm ht hd, fun ht hd => resyncDone_takes hc hm ht hd⟩

end Sys2Proof.Machine
end


section
/-! Registers and memory across a reply, an error and a loop. -/
namespace Sys2Proof.Machine

open Sys2Proof

theorem State.foldl_reg {α : Type} {f : State → α → State} {o : Nat} (hf : ∀ s a, (f s a).reg o = s.reg o) (l : List α) (s : State) :
    (l.foldl f s).reg o = s.reg o := by
  induction l generalizing s with
  | nil => rfl
  | cons a l ih => rw [List.foldl_cons, ih, hf]

theorem State.rf_of_reg {s u : State} {o : Nat} (h : u.reg o = s.reg o) (hi lo : Nat) : u.rf o hi lo = s.rf o hi lo := by
  unfold State.rf
  rw [h]

theorem State.rbit_of_reg {s u : State} {o : Nat} (h : u.reg o = s.reg o) (i : Nat) : u.rbit o i = s.rbit o i := by
  unfold State.rbit
  rw [State.rf_of_reg h]

/-! ### A reply touches FLD_RING_ERR alone -/

section
variable (s : State) {o : Nat} (h : o ≠ Reg.fldRingErr)
include h

theorem State.reg_ringErr (r cause : Nat) : (s.ringErr r cause).reg o = s.reg o := by
  unfold State.ringErr
  dsimp only
  rw [State.latch_reg_other _ _ _ _ h]
  split
  · rfl
  · split <;> rfl

theorem State.reg_ringErrs (rs : List Nat) (cause : Nat) : (s.ringErrs rs cause).reg o = s.reg o :=
  State.foldl_reg (fun s r => State.reg_ringErr s h r cause) rs s

theorem State.reg_commitReply (q : Sq) (c : Cq) (r : Reply) : (s.commitReply q c r).reg o = s.reg o := by
  unfold State.commitReply
  dsimp only
  generalize hu : (if r.fin then s.freeEntry r.eid else s : State) = u
  have hreg : u.reg o = s.reg o := by
    rw [← hu]
    split <;> rfl
  rw [← hreg]
  split
  · rfl
  split
  · exact State.reg_ringErrs _ h _ _
  split
  · rfl
  · exact State.reg_congr (State.edge_regs _ _) o

theorem State.reg_reply (r : Reply) : (s.reply r).reg o = s.reg o := by
  have hfree : (if r.fin then s.freeEntry r.eid else s).reg o = s.reg o := by split <;> rfl
  unfold State.reply
  split
  · exact hfree
  split
  · exact hfree
  split
  · exact hfree
  split
  · rfl
  · exact State.reg_commitReply s h _ _ _

theorem State.reg_finalOf (eid st dt : Nat) (res : Bytes) : (s.finalOf eid st dt res).reg o = s.reg o := by
  unfold State.finalOf
  split
  · rfl
  · exact State.reg_reply s h _

theorem State.rbit_finalOf (eid st dt : Nat) (res : Bytes) (i : Nat) : (s.finalOf eid st dt res).rbit o i = s.rbit o i :=
  State.rbit_of_reg (State.reg_finalOf s h eid st dt res) i
end

theorem State.ReplyFrom.mem {s u : State} (h : s.ReplyFrom u) : u.mem = s.mem := by
  rw [h.eq]
  rfl

@[simp] theorem State.latch_mem (s : State) (r : ErrReg) (inst cause : Nat) : (s.latch r inst cause).mem = s.mem :=
  (State.replyFrom_latch s r inst cause).mem

@[simp] theorem State.latch_skl (s : State) (r : ErrReg) (inst cause : Nat) : (s.latch r inst cause).skl = s.skl := by
  obtain ⟨g, h, o, e⟩ := State.latch_frame s r inst cause
  rw [e]

end Sys2Proof.Machine
end


section
/-! DDR (R399, R400, R404, R406 to R411). -/
namespace Sys2Proof.Machine

open Sys2Proof

/-! ### Fills -/

section
variable {s : State} {eid : Nat} {e : Entry}

theorem memFill_starts (h : s.Starts eid 0x5001 e) (hf : s.rbit Reg.memStatus 3 = false) (hb : e.p 0 8 % 2 ^ 30 = 0)
    (hn : e.p 8 8 % 2 ^ 30 = 0) (hpos : 0 < e.p 8 8) (hfit : e.p 0 8 + e.p 8 8 ≤ 2 ^ 30 * s.gib) (hq : s.mem.fills = [])
    (hi : s.initDone = false) : ∃ u : State, execMemFill eid s = .next u
      ∧ u.mem.fills = [⟨eid, e.p 0 8 / 2 ^ 30, e.p 8 8 / 2 ^ 30, e.p 16 8, true⟩] ∧ u.rbit Reg.memStatus 2 = true
      ∧ u.out = s.out := by
  unfold execMemFill
  rw [State.cmd_starts h]
  dsimp only
  rw [if_neg (ne_true_of_eq_false (show (s.markBegun eid).rbit Reg.memStatus 3 = false from hf)),
    if_neg (by simp [show (s.markBegun eid).gib = s.gib from rfl]; omega)]
  generalize hv : State.onMem _ _ = v
  have hfills : v.mem.fills = [⟨eid, e.p 0 8 / 2 ^ 30, e.p 8 8 / 2 ^ 30, e.p 16 8, false⟩] := by
    rw [← hv]
    exact congrArg (· ++ [_]) hq
  have hinit : v.initDone = false := by rw [← hv]; exact hi
  have hout : v.out = s.out := by rw [← hv]; rfl
  rw [hfills]
  unfold State.startFill
  rw [hfills]
  dsimp only
  rw [if_neg (by decide), if_neg (by simp [State.fillHits, hinit])]
  exact ⟨_, rfl, rfl, State.rbit_setRbit_same _ _ _ _ (by decide), hout⟩

theorem Fill.mem_granules (f : Fill) (g : Nat) : g ∈ f.granules ↔ f.base ≤ g ∧ g < f.base + f.gib := by
  unfold Fill.granules
  rw [List.mem_map]
  constructor
  · rintro ⟨i, hi, rfl⟩
    have := List.mem_range.1 hi
    omega
  · rintro ⟨h1, h2⟩
    exact ⟨g - f.base, List.mem_range.2 (by omega), by omega⟩

theorem memFillComplete_ends {f : Fill} (hq : s.mem.fills = [f]) (hr : f.running = true) (he : f.eid = eid) : ∃ u : State,
    execMemFillComplete eid s = .next u
      ∧ (∀ g, g ∈ u.mem.granules ↔ g ∈ s.mem.granules ∨ (f.base ≤ g ∧ g < f.base + f.gib))
      ∧ (∀ w ∈ u.mem.poison, ¬ (f.base ≤ w / 2 ^ 30 ∧ w / 2 ^ 30 < f.base + f.gib))
      ∧ (u.mem.granules.length = s.gib → u.initDone = true) ∧ u.mem.fills = [] ∧ u.rbit Reg.memStatus 2 = false := by
  unfold execMemFillComplete
  rw [hq]
  dsimp only
  rw [if_neg (by simp [hr, he])]
  generalize hv : State.onMem _ _ = v
  have hvm : v.mem.fills = [] ∧ v.mem.granules = s.mem.granules ++ f.granules.filter (fun n => !s.mem.granules.contains n)
      ∧ v.mem.poison = s.mem.poison.filter fun w => !f.granules.contains (w / 2 ^ 30) := by
    rw [← hv]
    exact ⟨rfl, rfl, rfl⟩
  obtain ⟨hfills, hgran, hpoison⟩ := hvm
  have hgib : v.gib = s.gib := by rw [← hv]; rfl
  rw [← hgran, hgib]
  generalize hw : (if (!v.initDone && decide (v.mem.granules.length = s.gib)) = true then (v.setRbit Reg.memStatus 1 true).placeRegions else v : State) = w
  have hwm : w.mem.fills = [] ∧ w.mem.granules = v.mem.granules ∧ w.mem.poison = v.mem.poison := by
    rw [← hw]
    split <;> exact ⟨hfills, rfl, rfl⟩
  have hinit : v.mem.granules.length = s.gib → w.rbit Reg.memStatus 1 = true := by
    intro hl
    rw [← hw]
    split
    · rw [State.rbit_congr (State.placeRegions_regs _)]
      exact State.rbit_setRbit_same v _ _ _ (by decide)
    · next hn => simpa [hl, State.initDone] using hn
  generalize leBytes 4 f.gib ++ leBytes 4 v.mem.granules.length = res
  have hmem : (w.finalOf eid St.ok 0 res).mem = w.mem := (State.replyFrom_finalOf w eid St.ok 0 res).mem
  rw [hmem, hwm.1]
  unfold State.startFill
  rw [hmem, hwm.1]
  refine ⟨_, rfl, ?_⟩
  change (∀ g, g ∈ (w.finalOf eid St.ok 0 res).mem.granules ↔ _) ∧ (∀ x ∈ (w.finalOf eid St.ok 0 res).mem.poison, _)
    ∧ ((w.finalOf eid St.ok 0 res).mem.granules.length = _ → _) ∧ (w.finalOf eid St.ok 0 res).mem.fills = [] ∧ _
  rw [hmem, hwm.2.1, hwm.2.2]
  refine ⟨fun g => ?_, fun x hx => ?_, fun hl => ?_, hwm.1, State.rbit_setRbit_same _ _ _ _ (by decide)⟩
  · rw [hgran, List.mem_append, List.mem_filter, ← f.mem_granules]
    by_cases hg : g ∈ s.mem.granules <;> simp [hg]
  · rw [hpoison, List.mem_filter] at hx
    rw [← f.mem_granules]
    simpa using hx.2
  · exact (State.rbit_setRbit_apart _ _ _ (by decide) (by decide)).trans
      ((State.rbit_finalOf w (by decide) _ _ _ _ _).trans (hinit hl))
end

/-! ### Errors -/

theorem errMem_apart : errMem.Apart := ⟨by decide, by decide, by decide, by decide⟩

section
variable (s : State) (port cause addr : Nat)

theorem State.reg_memLatch {o : Nat} (he : o ≠ Reg.memErr) (hlo : o ≠ Reg.memUeAddrLo) (hhi : o ≠ Reg.memUeAddrHi) :
    (s.memLatch port cause addr).reg o = s.reg o := by
  unfold State.memLatch
  dsimp only
  split
  · rw [State.reg_setRf_other _ _ _ _ hhi, State.reg_setReg_other _ _ hlo, State.latch_reg_other _ _ _ _ he]
  · exact State.latch_reg_other _ _ _ _ he

@[simp] theorem State.memLatch_mem : (s.memLatch port cause addr).mem = s.mem := by
  unfold State.memLatch
  dsimp only
  split
  · exact State.latch_mem s errMem port cause
  · exact State.latch_mem s errMem port cause

@[simp] theorem State.memLatch_skl : (s.memLatch port cause addr).skl = s.skl := by
  unfold State.memLatch
  dsimp only
  split
  · exact State.latch_skl s errMem port cause
  · exact State.latch_skl s errMem port cause

/-- The first error is kept with its port and cause. -/
theorem State.memLatch_first (hv : s.rbit Reg.memErr 31 = false) : (s.memLatch port cause addr).rbit Reg.memErr 31 = true
    ∧ (s.memLatch port cause addr).rf Reg.memErr 11 8 = cause % 16 ∧ (s.memLatch port cause addr).rf Reg.memErr 4 0 = port % 32 := by
  obtain ⟨hcause, hvalid⟩ := State.latch_first errMem_apart hv port cause
  have hport := State.latch_first_inst errMem_apart (by decide) hv port cause
  unfold State.memLatch
  rw [hv, if_pos (by decide)]
  have hreg : (((s.latch errMem port cause).setReg Reg.memUeAddrLo (BitVec.ofNat 32 (addr / 8 * 8))).setRf Reg.memUeAddrHi 8 0
      (addr / 2 ^ 32)).reg Reg.memErr = (s.latch errMem port cause).reg Reg.memErr := by
    rw [State.reg_setRf_other _ _ _ _ (by decide), State.reg_setReg_other _ _ (by decide)]
  exact ⟨(State.rbit_of_reg hreg 31).trans hvalid, (State.rf_of_reg hreg 11 8).trans hcause, (State.rf_of_reg hreg 4 0).trans hport⟩
end

section
variable {s : State}

theorem uncorrectableRead_latches (hv : s.rbit Reg.memErr 31 = false) (port : Fin 18) (addr : Nat) : ∃ u : State,
    execUncorrectableRead port addr false .patrol s = .next u ∧ u.rbit Reg.memErr 31 = true ∧ u.rf Reg.memErr 11 8 = 1
      ∧ u.rf Reg.memErr 4 0 = (port : Nat) ∧ ((port : Nat) < 16 → u.rf (Reg.memChUe port) 15 0
          = min 0xFFFF (s.rf (Reg.memChUe port) 15 0 + 1)) ∧ u.skl.queue = (s.sklHw 0x14 port 1 addr).skl.queue := by
  obtain ⟨hvalid, hcause, hport⟩ := State.memLatch_first s port 1 addr hv
  have hcount : ((s.memLatch port 1 addr).countUe port).reg Reg.memErr = (s.memLatch port 1 addr).reg Reg.memErr := by
    unfold State.countUe
    split
    · exact State.reg_bump_other _ _ _ _ (by unfold Reg.memErr Reg.memChUe; omega)
    · exact State.reg_bump_other _ _ _ _ (by decide)
  have hskl : ((s.memLatch port 1 addr).countUe port).skl = s.skl := by
    rw [← State.memLatch_skl s port 1 addr]
    unfold State.countUe
    split <;> rfl
  have hrun : execUncorrectableRead port addr false .patrol s
      = .next ((((((s.memLatch port 1 addr).countUe port).tally 13 1).sklHw 0x14 port 1 addr)).onMem fun m =>
        { m with ues := (m.ues ++ [(⟨addr, (s.ueRead port addr false).regionAt addr, (s.ueRead port addr false).tick % 2 ^ 32⟩ : UeEntry)]).take 64 }) := rfl
  refine ⟨_, hrun, (State.rbit_of_reg hcount 31).trans hvalid, (State.rf_of_reg hcount 11 8).trans hcause,
    ((State.rf_of_reg hcount 4 0).trans hport).trans (Nat.mod_eq_of_lt (by omega)), fun hlt => ?_, ?_⟩
  · change ((s.memLatch port 1 addr).countUe port).rf (Reg.memChUe port) 15 0 = _
    unfold State.countUe
    rw [if_pos hlt, State.rf_bump_same _ _ _ _ _ (by decide) (by decide)]
    exact congrArg (fun n => min 0xFFFF (n + 1)) (State.rf_of_reg (State.reg_memLatch s port 1 addr
      (by unfold Reg.memErr Reg.memChUe; omega) (by unfold Reg.memUeAddrLo Reg.memChUe; omega)
      (by unfold Reg.memUeAddrHi Reg.memChUe; omega)) 15 0)
  · change ((((s.memLatch port 1 addr).countUe port).tally 13 1).sklHw 0x14 port 1 addr).skl.queue = _
    unfold State.sklHw State.record State.onSkl
    dsimp only
    rw [show (((s.memLatch port 1 addr).countUe port).tally 13 1).skl = s.skl from hskl]

/-! ### Retraining -/

theorem chStat_ne_chUe (i j : Nat) : Reg.memChStat i ≠ Reg.memChUe j := by
  unfold Reg.memChStat Reg.memChUe
  omega

theorem channelRetrain_trains {ch : Fin 16} {ok : Bool} (hlow : (List.range 16).find? s.chStale = some (ch : Nat))
    (hat : s.mem.retrainAt ≠ some s.clk) (hm : s.rbit Reg.memStatus 0 = true) : ∃ u : State,
      execChannelRetrain ch ok s = .next u ∧ u.mem.retrainAt = some s.clk
      ∧ u.rf (Reg.memChUe ch) 31 16 = min 0xFFFF (s.rf (Reg.memChUe ch) 31 16 + 1)
      ∧ (ok = true → u.chStale ch = false ∧ u.rf (Reg.memChStat ch) 7 0 = s.rf (Reg.memChStat ch) 15 8)
      ∧ (ok = false → s.rbit Reg.memErr 31 = false → u.rf Reg.memErr 11 8 = 4 ∧ u.rf Reg.memErr 4 0 = (ch : Nat)) := by
  unfold execChannelRetrain
  dsimp only
  rw [hlow, if_neg (by simp [hat, hm])]
  generalize hv : State.bump _ _ _ _ _ = v
  have hcount : v.rf (Reg.memChUe ch) 31 16 = min 0xFFFF (s.rf (Reg.memChUe ch) 31 16 + 1) := by
    rw [← hv]
    exact State.rf_bump_same _ _ _ _ _ (by decide) (by decide)
  have hstat : v.rf (Reg.memChStat ch) 15 8 = s.rf (Reg.memChStat ch) 15 8 := by
    rw [← hv]
    exact State.rf_bump_off _ (chStat_ne_chUe _ _) _ _ _ _ _
  have hmem : v.mem.retrainAt = some s.clk := by rw [← hv]; rfl
  cases ok with
  | true =>
    rw [if_pos rfl]
    refine ⟨_, rfl, hmem, ?_, fun _ => ⟨State.rbit_setRbit_same _ _ _ _ (by decide), ?_⟩, fun h => Bool.noConfusion h⟩
    · refine Eq.trans (State.rf_of_reg ?_ 31 16) hcount
      unfold State.trainSet
      dsimp only
      rw [State.reg_setRbit_other _ _ _ (chStat_ne_chUe _ _).symm, State.reg_setRf_other _ _ _ _ (chStat_ne_chUe _ _).symm,
        State.reg_setRf_other _ _ _ _ (chStat_ne_chUe _ _).symm]
    · unfold State.trainSet State.setRbit
      dsimp only
      rw [State.rf_setRf_other _ _ _ _ _ _ _ (by decide) (by decide) (by decide),
        State.rf_setRf_other _ _ _ _ _ _ _ (by decide) (by decide) (by decide),
        State.rf_setRf_same _ _ _ _ _ (by decide) (by decide), hstat]
      exact Nat.mod_eq_of_lt (State.rf_lt s _ 15 8)
  | false =>
    refine ⟨v.memLatch ch 4 0, rfl, by rw [State.memLatch_mem, hmem], ?_, fun h => Bool.noConfusion h, fun _ he => ?_⟩
    · rw [State.rf_of_reg (State.reg_memLatch v ch 4 0 (by unfold Reg.memErr Reg.memChUe; omega)
        (by unfold Reg.memUeAddrLo Reg.memChUe; omega) (by unfold Reg.memUeAddrHi Reg.memChUe; omega)) 31 16, hcount]
    · have hve : v.rbit Reg.memErr 31 = false := by
        rw [← hv]
        exact (State.rbit_bump_off _ (by unfold Reg.memErr Reg.memChUe; omega) _ _ _ _).trans he
      obtain ⟨-, hcause, hport⟩ := State.memLatch_first v ch 4 0 hve
      exact ⟨hcause, hport.trans (Nat.mod_eq_of_lt (by omega))⟩

/-! ### Merges -/

/-- Whether a read gave its bytes. -/
def gaveBytes : Fetch → Bool
  | .ok _ => true
  | _ => false

theorem mergeDrain_drains {port : Fin 17} {m : Merge} (hq : s.mem.merges = [m]) (hp : m.port = (port : Nat)) (old : Fetch) :
    execMergeDrain port m.word old s
      = .next (s.drainMerge m (s.mem.poison.contains m.word || !gaveBytes old)) := by
  unfold execMergeDrain
  rw [hq, List.find?_cons_of_pos (by simp [hp])]
  cases old <;> rfl

/-- An entry alone in its buffer leaves it empty when it drains. -/
theorem State.merges_drainMerge {m : Merge} (hq : s.mem.merges = [m]) (bad : Bool) : (s.drainMerge m bad).mem.merges = [] := by
  have hempty : s.mem.merges.filter (· != m) = [] := by
    rw [hq]
    simp
  unfold State.drainMerge
  dsimp only
  split
  · change (State.memLatch _ _ _ _).mem.merges = []
    rw [State.memLatch_mem]
    exact hempty
  · exact hempty

theorem mergeDrain_whole {port : Fin 17} {m : Merge} {old : Fetch} (hq : s.mem.merges = [m]) (hp : m.port = (port : Nat))
    (h : m.mask = 0xFF ∨ (s.mem.poison.contains m.word = false ∧ ∃ d, old = .ok d)) : ∃ u : State,
      execMergeDrain port m.word old s = .next u ∧ u.mem.merges = [] ∧ u.mem.poison = s.mem.poison ∧ u.regs = s.regs := by
  rw [mergeDrain_drains hq hp]
  refine ⟨_, rfl, State.merges_drainMerge hq _, ?_⟩
  have hgood : ¬ (m.mask != 0xFF && (s.mem.poison.contains m.word || !gaveBytes old)) = true := by
    rcases h with h | ⟨h, d, rfl⟩
    · simp [h]
    · rw [h]
      simp [gaveBytes]
  unfold State.drainMerge
  dsimp only
  rw [if_neg hgood]
  exact ⟨rfl, rfl⟩

theorem mergeDrain_unread {port : Fin 17} {m : Merge} (hq : s.mem.merges = [m]) (hp : m.port = (port : Nat)) (hk : m.mask ≠ 0xFF)
    (he : s.rbit Reg.memErr 31 = false) : ∃ u : State, execMergeDrain port m.word .uncorrectable s = .next u
      ∧ u.mem.merges = [] ∧ m.word ∈ u.mem.poison ∧ u.rf Reg.memErr 11 8 = 3 := by
  rw [mergeDrain_drains hq hp]
  refine ⟨_, rfl, State.merges_drainMerge hq _, ?_⟩
  unfold State.drainMerge
  dsimp only
  rw [if_pos (by simp [hk, gaveBytes])]
  rw [State.rf_congr (State.sklHw_regs _ _ _ _ _)]
  generalize hv : State.onMem _ _ = v
  have hve : (v.poisonWord m.word).rbit Reg.memErr 31 = false := by rw [← hv]; exact he
  refine ⟨?_, (State.memLatch_first _ m.port 3 m.word hve).2.1⟩
  change m.word ∈ (State.memLatch _ _ _ _).mem.poison
  rw [State.memLatch_mem]
  unfold State.poisonWord State.onMem
  dsimp only
  split
  · next hin => simpa using hin
  · exact List.mem_cons_self

/-! ### Training at boot -/

theorem State.reg_loadTick (s : State) {o : Nat} (hlo : o ≠ Reg.fldTickLo) (hhi : o ≠ Reg.fldTickLo + 4) :
    s.loadTick.reg o = s.reg o := by
  have hpair : ∀ (u : State) v, (u.setPair Reg.fldTickLo v).reg o = u.reg o := fun u v => by
    unfold State.setPair
    rw [State.reg_setReg_other _ _ hhi, State.reg_setReg_other _ _ hlo]
  unfold State.loadTick
  generalize (s.fld.ckpt + 2 ^ 22) % 2 ^ 64 = t
  dsimp only
  rw [State.reg_emit, State.reg_congr (State.onSkl_regs _ _), hpair, State.reg_congr (State.onFld_regs _ _)]

/-- The registers that the end of the boot writes. -/
def State.bootWords (s : State) : State :=
  ((s.loadTick.openOob.setRbit Reg.fldStatus 0 true).setRbit Reg.crpStatus 3 false).setRf Reg.fldCores 7 0 0xFF

/-- The rest of the end of the boot: the cores run, the watchdog is fresh, and the regions are placed again. -/
def State.bootTail (s : State) : State :=
  let s := s.onFld fun f => { f with core := List.replicate 8 (max 1 s.clk) }
  let s := s.onDhd fun d => { d with lastKick := s.clk }
  let fell := s.crp.cgFell
  let s := s.onCrp fun c => { c with boot := .ready, warmEnd := none, cgFell := false }
  let s := if s.initDone then s.placeRegions else s
  if fell then s.sklFold 0x31 0 1 0 else s

theorem State.bootDone_eq (s : State) : s.bootDone = s.bootWords.bootTail := rfl

theorem State.bootTail_effect (s : State) : s.bootTail.crp.boot = .ready ∧ s.bootTail.regs = s.regs := by
  unfold State.bootTail
  dsimp only
  split <;> split <;> exact ⟨rfl, rfl⟩

theorem State.bootDone_effect (s : State) : s.bootDone.crp.boot = .ready ∧ s.bootDone.ready = true
    ∧ s.bootDone.reg Reg.memStatus = s.reg Reg.memStatus := by
  rw [State.bootDone_eq]
  obtain ⟨hboot, hregs⟩ := State.bootTail_effect s.bootWords
  refine ⟨hboot, ?_, ?_⟩
  · unfold State.ready
    rw [State.rbit_congr hregs]
    unfold State.bootWords
    rw [State.rbit_setRf_off _ (by decide), State.rbit_setRbit_off _ (by decide), State.rbit_setRbit_same _ _ _ _ (by decide)]
  · rw [State.reg_congr hregs]
    unfold State.bootWords
    rw [State.reg_setRf_other _ _ _ _ (by decide), State.reg_setRbit_other _ _ _ (by decide),
      State.reg_setRbit_other _ _ _ (by decide), State.reg_congr (State.openOob_regs _),
      State.reg_loadTick s (by decide) (by decide)]

theorem ddrTrainingComplete_boots {rate gib : Nat} (temp : Int) (hb : s.crp.boot = .booting) (hw : s.crp.warmEnd = none)
    (hk : s.skl.memFail = false) (hg : gib ≤ 2048) : ∃ u : State,
      execDdrTrainingComplete [] rate gib temp true s = .next u ∧ u.crp.boot = .ready ∧ u.ready = true
      ∧ u.rbit Reg.memStatus 0 = true ∧ u.gib = gib ∧ u.rf Reg.memStatus 15 8 = rate % 256 := by
  unfold execDdrTrainingComplete
  rw [if_neg (by simp [hb, hw])]
  have hretest : s.sklRetest true = s := by
    unfold State.sklRetest
    rw [hk]
    rfl
  dsimp only [List.foldl_nil]
  rw [hretest]
  generalize hv : List.foldl _ _ (List.range 16) = v
  have hword : v.reg Reg.memStatus = BitVec.ofNat 32 (1 + 256 * (rate % 256) + 65536 * gib) := by
    rw [← hv]
    refine (State.foldl_reg (fun s n => ?_) _ _).trans ?_
    · unfold State.trainSet
      dsimp only
      have hne : Reg.memStatus ≠ Reg.memChStat n := by unfold Reg.memStatus Reg.memChStat; omega
      rw [State.reg_setRbit_other _ _ _ hne, State.reg_setRf_other _ _ _ _ hne, State.reg_setRf_other _ _ _ _ hne,
        State.reg_setRf_other _ _ _ _ hne]
    · rw [State.reg_setReg_same, Nat.min_eq_left hg]
      rfl
  obtain ⟨hboot, hready, hstatus⟩ := State.bootDone_effect v
  have hfield : ∀ hi lo, v.bootDone.rf Reg.memStatus hi lo = fieldOf (1 + 256 * (rate % 256) + 65536 * gib) hi lo := by
    intro hi lo
    unfold State.rf
    rw [hstatus, hword, BitVec.toNat_ofNat, Nat.mod_eq_of_lt (by omega)]
  refine ⟨_, rfl, hboot, hready, ?_, ?_, ?_⟩
  · unfold State.rbit
    rw [hfield, beq_iff_eq]
    unfold fieldOf
    rw [Nat.shiftRight_eq_div_pow]
    omega
  · unfold State.gib
    rw [hfield]
    unfold fieldOf
    rw [Nat.shiftRight_eq_div_pow]
    omega
  · rw [hfield]
    unfold fieldOf
    rw [Nat.shiftRight_eq_div_pow]
    omega
end

/-- Settles O43: the clauses above, one after another. -/
theorem ddrMemory : Obligations.DdrMemory := by
  unfold Obligations.DdrMemory
  rintro s eid e _ rfl
  refine ⟨fun h hf hb hn hpos hfit hq hi => memFill_starts h hf hb hn hpos hfit hq hi,
    fun f hq hr he _ => memFillComplete_ends hq hr he,
    fun ch ok hlow hat hm => channelRetrain_trains hlow hat hm,
    fun port m old hq hp => ⟨fun h => mergeDrain_whole hq hp h, ?_⟩,
    fun port addr hv => uncorrectableRead_latches hv port addr, ?_⟩
  · rintro hk rfl he
    exact mergeDrain_unread hq hp hk he
  · rintro _ rate gib temp hb hw rfl hk hg
    exact ddrTrainingComplete_boots temp hb hw hk hg

end Sys2Proof.Machine
end


section
/-! Heather (R414 to R421). -/
namespace Sys2Proof.Machine

open Sys2Proof

/-- A field of one bit is that bit. -/
theorem fieldOf_bit (w i : Nat) : (fieldOf w i i == 1) = w.testBit i := by
  have h0 := testBit_fieldOf w i i 0
  rw [Nat.add_zero] at h0
  have hlt := fieldOf_lt w i i
  rw [Nat.add_sub_cancel_left] at hlt
  rcases (by omega : fieldOf w i i = 0 ∨ fieldOf w i i = 1) with hf | hf <;> rw [hf] at h0 ⊢ <;> simpa using h0

/-- A bit within a field that is written. -/
theorem State.rbit_setRf_in (s : State) (off hi lo v : Nat) {i : Nat} (h : lo ≤ i) (hi' : i ≤ hi) (hh : hi < 32) :
    (s.setRf off hi lo v).rbit off i = v.testBit (i - lo) := by
  unfold State.rbit State.rf
  rw [fieldOf_bit, State.toNat_setRf _ _ _ _ _ (Nat.le_trans h hi') hh, testBit_withField _ _ _ _ _ (Nat.le_trans h hi'),
    if_neg (by omega), if_pos hi']

/-- A bit within a field that is zero. -/
theorem State.rbit_of_rf_zero {s : State} {off hi lo : Nat} (hz : s.rf off hi lo = 0) {i : Nat} (h : lo ≤ i) (hi' : i ≤ hi) :
    s.rbit off i = false := by
  have hbit := testBit_fieldOf (s.reg off).toNat hi lo (i - lo)
  rw [show fieldOf (s.reg off).toNat hi lo = 0 from hz, Nat.zero_testBit, decide_eq_true (by omega), Bool.true_and,
    Nat.add_sub_cancel' h] at hbit
  unfold State.rbit State.rf
  rw [fieldOf_bit, ← hbit]

theorem State.ReplyFrom.hth {s u : State} (h : s.ReplyFrom u) : u.hth = s.hth := by
  rw [h.eq]
  rfl

theorem State.ReplyFrom.crp {s u : State} (h : s.ReplyFrom u) : u.crp = s.crp := by
  rw [h.eq]
  rfl

/-! ### Invalidate, enable, disable -/

section
variable {s : State} {eid : Nat} {e : Entry}

theorem hthInvalidate_queues (h : s.Starts eid 0x5002 e) (he : s.hthEnabled = false) (hc : s.hthCleaning = false) : ∃ u : State,
    execHthInvalidate eid s = .next u ∧ u.hth.invs = s.hth.invs ++ [eid] ∧ u.hth.invSince = true
      ∧ u.rbit Reg.hthStatus 4 = true := by
  unfold execHthInvalidate
  rw [State.cmd_starts h, if_neg (ne_true_of_eq_false (show (s.markBegun eid).hthEnabled = false from he))]
  generalize hv : State.onHth _ _ = v
  have hvc : v.hthCleaning = false := by rw [← hv]; exact hc
  have hvi : v.hth.invs = s.hth.invs ++ [eid] ∧ v.hth.invSince = true := by
    rw [← hv]
    exact ⟨rfl, rfl⟩
  unfold State.startInval
  rw [if_neg (by simp [hvc, hvi.1])]
  exact ⟨_, rfl, hvi.1, hvi.2, State.rbit_setRbit_same _ _ _ _ (by decide)⟩

theorem invalidateComplete_ends {j : Nat} (h4 : s.rbit Reg.hthStatus 4 = true) (hq : s.hth.invs = [j])
    (h6 : s.rbit Reg.hthStatus 6 = false) : ∃ u : State, execInvalidateComplete s = .next (u.finalOf j St.ok 0 [])
      ∧ u.hth.lines = [] ∧ u.hth.invs = [] ∧ u.rbit Reg.hthStatus 3 = true ∧ u.rbit Reg.hthStatus 4 = false
      ∧ u.rf Reg.hthWays 15 0 = 0 := by
  unfold execInvalidateComplete
  rw [if_neg (by simp [h4]), hq]
  dsimp only
  generalize hw : State.onHth _ _ = w
  have hw6 : w.rbit Reg.hthStatus 6 = false := by rw [← hw]; exact h6
  have hwh : w.hth.lines = [] ∧ w.hth.invs = [] := by
    rw [← hw]
    exact ⟨rfl, rfl⟩
  generalize hv : ((w.setRf Reg.hthWays 15 0 0).setRbit Reg.hthStatus 3 true).setRbit Reg.hthStatus 4 (!([] : List Nat).isEmpty) = v
  have hv6 : v.rbit Reg.hthStatus 6 = false := by
    rw [← hv, State.rbit_setRbit_apart _ _ _ (by decide) (by decide), State.rbit_setRbit_apart _ _ _ (by decide) (by decide),
      State.rbit_setRf_off _ (by decide), hw6]
  rw [State.rbit_finalOf v (by decide), hv6, if_neg (by decide)]
  refine ⟨v, rfl, ?_⟩
  rw [← hv]
  refine ⟨hwh.1, hwh.2, ?_, State.rbit_setRbit_same _ _ _ _ (by decide), ?_⟩
  · rw [State.rbit_setRbit_apart _ _ _ (by decide) (by decide), State.rbit_setRbit_same _ _ _ _ (by decide)]
  · rw [State.rf_setRbit_off _ (by decide), State.rf_setRbit_off _ (by decide)]
    exact (State.rf_setRf_same _ _ _ _ _ (by decide) (by decide)).trans (Nat.zero_mod _)

theorem State.hthEnabled_enableHeather (s : State) : s.enableHeather.hthEnabled = true := by
  unfold State.enableHeather State.hthEnabled
  dsimp only
  rw [State.rbit_setRf_off _ (by decide), State.rbit_setRf_apart _ _ _ _ _ (by decide) (by decide) (by decide),
    State.rbit_setRf_in _ _ _ _ _ (by decide) (by decide) (by decide)]
  cases s.rbit Reg.hthStatus 3 <;> rfl

section
variable (h : s.Starts eid 0x5003 e) (he : s.hthEnabled = false) (h6 : s.rbit Reg.hthStatus 6 = false) (hc : s.hthCleaning = false)
  (h4 : s.rbit Reg.hthStatus 4 = false)
include h he h6 hc h4

theorem hthEnable_enables (h3 : s.rbit Reg.hthStatus 3 = true) :
    execHthEnable eid s = .next ((s.markBegun eid).enableHeather.okReply e []) := by
  unfold execHthEnable
  rw [State.cmd_starts h]
  dsimp only
  rw [if_neg (ne_true_of_eq_false (show (s.markBegun eid).hthEnabled = false from he)),
    if_neg (ne_true_of_eq_false (show (s.markBegun eid).rbit Reg.hthStatus 6 = false from h6)),
    show (s.markBegun eid).hthCleaning = false from hc, show (s.markBegun eid).rbit Reg.hthStatus 4 = false from h4,
    show (s.markBegun eid).rbit Reg.hthStatus 3 = true from h3]
  rfl

theorem hthEnable_refuses (h3 : s.rbit Reg.hthStatus 3 = false) : execHthEnable eid s
    = .next (((s.markBegun eid).setRbit Reg.hthStatus 5 true).fail e St.notInvalidated 0x1B01) := by
  unfold execHthEnable
  rw [State.cmd_starts h]
  dsimp only
  rw [if_neg (ne_true_of_eq_false (show (s.markBegun eid).hthEnabled = false from he)),
    if_neg (ne_true_of_eq_false (show (s.markBegun eid).rbit Reg.hthStatus 6 = false from h6)),
    show (s.markBegun eid).hthCleaning = false from hc, show (s.markBegun eid).rbit Reg.hthStatus 4 = false from h4,
    show (s.markBegun eid).rbit Reg.hthStatus 3 = false from h3]
  rfl
end

theorem hthDisable_cleans (h : s.Starts eid 0x5004 e) (he : s.hthEnabled = true) : ∃ u : State, execHthDisable eid s = .next u
    ∧ u.hthEnabled = false ∧ u.hthCleaning = true ∧ u.rbit Reg.hthStatus 3 = false
    ∧ u.hth.disables = s.hth.disables ++ [eid] := by
  unfold execHthDisable
  rw [State.cmd_starts h]
  unfold State.disableHeather
  dsimp only
  generalize hw : State.onHth (s.markBegun eid) _ = w
  have hwe : w.rbit Reg.hthStatus 0 = true := by rw [← hw]; exact he
  have hwd : w.hth.disables = s.hth.disables := by rw [← hw]; rfl
  have hen : (w.setRbit Reg.hthStatus 3 false).hthEnabled = true := by
    unfold State.hthEnabled
    rw [State.rbit_setRbit_apart _ _ _ (by decide) (by decide), hwe]
  rw [hen, if_pos (by rw [Bool.true_or])]
  generalize hv : ((w.setRbit Reg.hthStatus 3 false).setRbit Reg.hthStatus 0 false).setRbit Reg.hthStatus 2 true = v
  have h0 : v.rbit Reg.hthStatus 0 = false := by
    rw [← hv, State.rbit_setRbit_apart _ _ _ (by decide) (by decide), State.rbit_setRbit_same _ _ _ _ (by decide)]
  have h2 : v.rbit Reg.hthStatus 2 = true := by rw [← hv, State.rbit_setRbit_same _ _ _ _ (by decide)]
  have h3 : v.rbit Reg.hthStatus 3 = false := by
    rw [← hv, State.rbit_setRbit_apart _ _ _ (by decide) (by decide), State.rbit_setRbit_apart _ _ _ (by decide) (by decide),
      State.rbit_setRbit_same _ _ _ _ (by decide)]
  have hvd : v.hth.disables = s.hth.disables := by rw [← hv]; exact hwd
  exact ⟨_, rfl, h0, h2, h3, congrArg (· ++ [eid]) hvd⟩

theorem cleanComplete_ends (hc : s.hthCleaning = true) (hd : s.hth.disables = [eid]) (hi : s.hth.invs = []) (ht : s.crp.trans = 0) :
    ∃ u : State, execCleanComplete s = .next (u.finalOf eid St.ok 0 []) ∧ u.hthCleaning = false ∧ u.rbit Reg.hthStatus 1 = true
      ∧ u.hth.disables = [] := by
  unfold execCleanComplete State.cleanDone
  rw [if_neg (by simp [hc]), hd]
  dsimp only [List.foldl_cons, List.foldl_nil]
  generalize hv : State.onHth _ _ = v
  have hvi : (v.finalOf eid St.ok 0 []).hth.invs = [] := by
    rw [(State.replyFrom_finalOf v eid St.ok 0 []).hth, ← hv]
    exact hi
  have hvt : (v.finalOf eid St.ok 0 []).crp.trans = 0 := by
    rw [(State.replyFrom_finalOf v eid St.ok 0 []).crp, ← hv]
    exact ht
  have hinval : (v.finalOf eid St.ok 0 []).startInval = v.finalOf eid St.ok 0 [] := by
    unfold State.startInval
    rw [if_pos (by simp [hvi])]
  have hp2 : (v.finalOf eid St.ok 0 []).p2Try = v.finalOf eid St.ok 0 [] := by
    unfold State.p2Try
    rw [if_pos (by simp [hvt])]
  rw [hinval, hp2]
  have hregs : v.regs = ((s.setRbit Reg.hthStatus 2 false).setRbit Reg.hthStatus 1 true).regs := by rw [← hv, State.onHth_regs]
  refine ⟨v, rfl, ?_, ?_, by rw [← hv]; rfl⟩
  · unfold State.hthCleaning
    rw [State.rbit_congr hregs, State.rbit_setRbit_apart _ _ _ (by decide) (by decide), State.rbit_setRbit_same _ _ _ _ (by decide)]
  · rw [State.rbit_congr hregs, State.rbit_setRbit_same _ _ _ _ (by decide)]
end

/-! ### Preloads and ways -/

section
variable {s : State} {eid : Nat} {e : Entry}

section
variable (h : s.Starts eid 0x5005 e)
include h

theorem hthPreloadLock_locks {lo n : Nat} (hw : e.p 0 1 < 16) (hl : e.p 1 1 = 1) (hr : (s.markBegun eid).hthRange e = some (lo, n)) (hn : 0 < n)
    (hmax : n ≤ 65536) (he : s.hthEnabled = true) (hb : s.wayBusy (e.p 0 1) = false) (hs : s.wayStripe (e.p 0 1) = false)
    (ho : s.wayOff (e.p 0 1) = false) (ht : s.tooFew (e.p 0 1) = false) : ∃ u : State, execHthPreloadLock eid s = .next u
      ∧ u.hth.jobs = s.hth.jobs ++ [⟨eid, e.p 0 1, lo, n, true⟩] ∧ u.wayBusy (e.p 0 1) = true := by
  unfold execHthPreloadLock
  rw [State.cmd_starts h]
  dsimp only
  rw [hr, hl, show (s.markBegun eid).hthEnabled = true from he, show (s.markBegun eid).wayBusy (e.p 0 1) = false from hb,
    show (s.markBegun eid).wayStripe (e.p 0 1) = false from hs, show (s.markBegun eid).wayOff (e.p 0 1) = false from ho,
    show (s.markBegun eid).tooFew (e.p 0 1) = false from ht]
  dsimp only [Option.getD]
  rw [if_neg (by decide), if_neg (by simp), if_neg (by simp [bitAt]; omega), if_neg (by simp; omega), if_neg (by decide)]
  exact ⟨_, rfl, rfl, State.rbit_setRbit_same _ _ _ _ (by omega)⟩

theorem hthPreloadLock_disabled (he : s.hthEnabled = false) :
    execHthPreloadLock eid s = .next ((s.markBegun eid).fail e St.busy 0x1B03) := by
  unfold execHthPreloadLock
  rw [State.cmd_starts h]
  dsimp only
  rw [show (s.markBegun eid).hthEnabled = false from he]
  rfl

theorem hthPreloadLock_busy (hw : e.p 0 1 < 16) (he : s.hthEnabled = true) (hb : s.wayBusy (e.p 0 1) = true) :
    execHthPreloadLock eid s = .next ((s.markBegun eid).fail e St.busy 0x1B02) := by
  unfold execHthPreloadLock
  rw [State.cmd_starts h]
  dsimp only
  rw [show (s.markBegun eid).hthEnabled = true from he, show (s.markBegun eid).wayBusy (e.p 0 1) = true from hb,
    if_neg (by decide), if_pos (by simp [hw])]

section
variable (he : s.hthEnabled = true) (hb : s.wayBusy (e.p 0 1) = false) (hu : bitAt (e.p 1 1) 1 = false)
include he hb hu

theorem hthPreloadLock_noRange (hr : (s.markBegun eid).hthRange e = none) :
    execHthPreloadLock eid s = .next ((s.markBegun eid).fail e St.invalidParam 0x1B01) := by
  unfold execHthPreloadLock
  rw [State.cmd_starts h]
  dsimp only
  rw [hr, hu, show (s.markBegun eid).hthEnabled = true from he, show (s.markBegun eid).wayBusy (e.p 0 1) = false from hb]
  rfl

theorem hthPreloadLock_badLength {lo n : Nat} (hr : (s.markBegun eid).hthRange e = some (lo, n)) (hn : n = 0 ∨ 65536 < n) :
    execHthPreloadLock eid s = .next ((s.markBegun eid).fail e St.invalidParam 0x1B01) := by
  unfold execHthPreloadLock
  rw [State.cmd_starts h]
  dsimp only
  rw [hr, hu, show (s.markBegun eid).hthEnabled = true from he, show (s.markBegun eid).wayBusy (e.p 0 1) = false from hb,
    if_neg (by decide), if_neg (by simp)]
  dsimp only
  rw [if_pos (by simpa using hn)]

theorem hthPreloadLock_badWay {lo n : Nat} (hr : (s.markBegun eid).hthRange e = some (lo, n)) (hn : 0 < n) (hmax : n ≤ 65536)
    (hbad : s.wayStripe (e.p 0 1) = true ∨ s.wayOff (e.p 0 1) = true
      ∨ (bitAt (e.p 1 1) 0 = true ∧ s.wayLocked (e.p 0 1) = false ∧ s.tooFew (e.p 0 1) = true)) :
    execHthPreloadLock eid s = .next ((s.markBegun eid).fail e St.invalidParam 0x1B02) := by
  unfold execHthPreloadLock
  rw [State.cmd_starts h]
  dsimp only
  rw [hr, hu, show (s.markBegun eid).hthEnabled = true from he, show (s.markBegun eid).wayBusy (e.p 0 1) = false from hb,
    show (s.markBegun eid).wayStripe (e.p 0 1) = s.wayStripe (e.p 0 1) from rfl,
    show (s.markBegun eid).wayOff (e.p 0 1) = s.wayOff (e.p 0 1) from rfl,
    show (s.markBegun eid).wayLocked (e.p 0 1) = s.wayLocked (e.p 0 1) from rfl,
    show (s.markBegun eid).tooFew (e.p 0 1) = s.tooFew (e.p 0 1) from rfl, if_neg (by decide), if_neg (by simp)]
  dsimp only
  rw [if_neg (by simp; omega), if_pos]
  rcases hbad with hs | ho | ⟨hl, hk, ht⟩
  · simp [hs]
  · simp [ho]
  · simp [hl, hk, ht]
end
end

theorem preloadComplete_ends {j : HJob} (hq : s.hth.jobs = [j]) (hj : j.eid = eid) (hw : j.way < 16) : ∃ u : State,
    execPreloadComplete eid s = .next (u.finalOf eid St.ok 0 []) ∧ u.hth.lines = j.fill s.hth.lines ∧ u.hth.jobs = []
      ∧ u.wayBusy j.way = false ∧ u.wayLocked j.way = j.lock := by
  unfold execPreloadComplete
  rw [hq, List.find?_cons_of_pos (by simp [hj])]
  dsimp only
  generalize hv : State.onHth _ _ = v
  have hvh : v.hth.lines = j.fill s.hth.lines ∧ v.hth.jobs = [] := by
    rw [← hv]
    refine ⟨rfl, (congrArg (List.filter _) hq).trans ?_⟩
    rw [List.filter_cons_of_neg (by simp [hj])]
    rfl
  refine ⟨_, rfl, hvh.1, hvh.2, ?_, State.rbit_setRbit_same _ _ _ _ (by omega)⟩
  unfold State.wayBusy
  rw [State.rbit_setRbit_off _ (by decide), State.rbit_setRbit_same _ _ _ _ (by omega)]

theorem hthWayPower_off (h : s.Starts eid 0x5006 e) (hw : e.p 0 1 < 16) (hon : e.p 1 1 = 0) (hs : s.wayStripe (e.p 0 1) = false)
    (hl : s.wayLocked (e.p 0 1) = false) (ht : s.tooFew (e.p 0 1) = false) (hb : s.wayBusy (e.p 0 1) = false) : ∃ u : State,
      execHthWayPower eid s = .next (u.okReply e []) ∧ u.wayOff (e.p 0 1) = true
      ∧ (∀ x ∈ u.hth.lines, x.1 / 65536 ≠ e.p 0 1) := by
  unfold execHthWayPower
  rw [State.cmd_starts h]
  dsimp only
  rw [hon, show (s.markBegun eid).wayStripe (e.p 0 1) = false from hs, show (s.markBegun eid).wayLocked (e.p 0 1) = false from hl,
    show (s.markBegun eid).wayBusy (e.p 0 1) = false from hb, show (s.markBegun eid).tooFew (e.p 0 1) = false from ht,
    if_neg (by decide), if_neg (by simp; omega), if_neg (by decide)]
  refine ⟨_, rfl, State.rbit_setRbit_same _ _ _ _ (by omega), fun x hx => ?_⟩
  have hmem := (List.mem_filter.1 (show x ∈ KMap.keep s.hth.lines fun k _ => k / 65536 != e.p 0 1 from hx)).2
  simpa using hmem

theorem hthRangeInvalidate_drops {lo n : Nat} (h : s.Starts eid 0x5007 e) (he : s.hthEnabled = true)
    (hr : (s.markBegun eid).hthRange e = some (lo, n)) : ∃ u : State, execHthRangeInvalidate eid s = .next (u.okReply e [])
      ∧ (∀ x ∈ u.hth.lines, s.wayStripe (x.1 / 65536) = true
        ∨ ¬ (lo ≤ x.2 * 65536 + x.1 % 65536 ∧ x.2 * 65536 + x.1 % 65536 < lo + n))
      ∧ (∀ x ∈ u.hth.lines, x ∈ s.hth.lines) := by
  unfold execHthRangeInvalidate
  rw [State.cmd_starts h, show (s.markBegun eid).hthEnabled = true from he, if_neg (by decide), hr]
  dsimp only
  generalize hv : State.bump _ _ _ _ _ = v
  have hvs : ∀ w, v.wayStripe w = s.wayStripe w := fun w => by
    rw [← hv]
    exact State.rbit_bump_off _ (by decide) _ _ _ _
  have hvl : v.hth.lines = s.hth.lines := by rw [← hv]; rfl
  refine ⟨_, rfl, fun x hx => ?_, fun x hx => ?_⟩
  · have hmem := (List.mem_filter.1 hx).2
    dsimp only at hmem
    rw [hvs, Bool.or_eq_true, Bool.not_eq_true', decide_eq_false_iff_not] at hmem
    exact hmem
  · rw [← hvl]
    exact (List.mem_filter.1 hx).1

theorem tagParityError_drops {way : Fin 16} (set : Nat) (hd : s.rbit Reg.hthStatus 1 = false) (hl : s.wayLocked way = false)
    (hs : s.wayStripe way = false) : ∃ u : State, execTagParityError way set false s = .next u
      ∧ KMap.get? u.hth.lines (way * 65536 + set) = none
      ∧ u.rf Reg.hthCntEvents 15 0 = min 0xFFFF (s.rf Reg.hthCntEvents 15 0 + 1) ∧ u.data = s.data := by
  have hl' : (s.bump Reg.hthCntEvents 15 0 1).wayLocked way = false := (State.rbit_bump_off _ (by decide) _ _ _ _).trans hl
  have hs' : (s.bump Reg.hthCntEvents 15 0 1).wayStripe way = false := (State.rbit_bump_off _ (by decide) _ _ _ _).trans hs
  unfold execTagParityError
  rw [if_neg (ne_true_of_eq_false hd)]
  dsimp only
  rw [hl', hs', if_pos (by decide)]
  refine ⟨_, rfl, KMap.get?_del_same _ _, ?_, rfl⟩
  rw [State.rf_congr (State.onHth_regs _ _), State.rf_bump_same _ _ _ _ _ (by decide) (by decide)]
  rfl
end

/-- Settles O44: the clauses above, one after another. -/
theorem heatherCommands : Obligations.HeatherCommands := by
  unfold Obligations.HeatherCommands
  rintro s eid e _ rfl
  exact ⟨fun h he hc => hthInvalidate_queues h he hc,
    fun h4 hq h6 => invalidateComplete_ends h4 hq h6,
    fun h he h6 hc h4 => ⟨fun h3 => ⟨hthEnable_enables h he h6 hc h4 h3, State.hthEnabled_enableHeather _⟩,
      fun h3 => hthEnable_refuses h he h6 hc h4 h3⟩,
    fun h he => hthDisable_cleans h he,
    fun hc hd hi ht => cleanComplete_ends hc hd hi ht,
    fun lo n h hw hl hr hn hmax he hb hs ho ht => hthPreloadLock_locks h hw hl hr hn hmax he hb hs ho ht,
    fun j hq hj hw => preloadComplete_ends hq hj hw,
    fun h hw hon hs hl ht hb => hthWayPower_off h hw hon hs hl ht hb,
    fun lo n h he hr => hthRangeInvalidate_drops h he hr,
    fun way set hd hl hs => tagParityError_drops set hd hl hs⟩

/-- Settles O45: the refusals in the order of their checks, and a lock is a bit of the field that an invalidate clears. -/
theorem preloadLockRefusals : Obligations.PreloadLockRefusals := by
  unfold Obligations.PreloadLockRefusals
  rintro s eid e _ _ rfl rfl hw
  refine ⟨fun h => ⟨fun he => hthPreloadLock_disabled h he, fun he hb => hthPreloadLock_busy h hw he hb,
    fun he hb hu => ⟨fun hr => hthPreloadLock_noRange h he hb hu hr,
      fun lo n hr hn => hthPreloadLock_badLength h he hb hu hr hn,
      fun lo n hr hn hmax hbad => hthPreloadLock_badWay h he hb hu hr hn hmax hbad⟩⟩, fun j h4 hq h6 => ?_⟩
  obtain ⟨u, hu, -, -, -, -, hways⟩ := invalidateComplete_ends h4 hq h6
  refine ⟨_, hu, fun v hv => ?_⟩
  unfold State.wayLocked
  rw [State.rbit_finalOf u (by decide)]
  exact State.rbit_of_rf_zero hways (Nat.zero_le v) (by omega)

end Sys2Proof.Machine
end


section
/-! Hedgerow: sources, targets and MSI-X messages (R424 to R442). -/
namespace Sys2Proof.Machine

open Sys2Proof

/-! ### Edges and claims -/

section
variable {s : State} {n : Nat} (hx : srcExists n = true) (hp : s.inP2 = false)

include hx hp in
theorem State.edge_awake : s.edge n = if (s.src n).mask then s.setSrc n { s.src n with pend := true }
    else (s.setSrc n { s.src n with pend := true }).deliver n := by
  unfold State.edge
  rw [if_neg (by simp [hx, hp])]

include hx hp in
theorem sourceEdge_pends (hl : srcIsLevel n = false) : execSourceEdge n true s
    = .next (if (s.src n).mask then s.setSrc n { s.src n with pend := true }
      else (s.setSrc n { s.src n with pend := true }).deliver n) := by
  unfold execSourceEdge
  rw [if_pos (by rw [Bool.true_or]), hl, if_neg (by decide), State.edge_awake hx hp]

theorem hrwClaim_takes {t : Fin 16} (hh : highest (s.presented t) = some n) : ∃ u : State, execHrwClaim t true s = .next u
    ∧ (u.src n).inService = some (t : Nat) ∧ (u.src n).pend = false
    ∧ u.out = s.out ++ [.readData (Reg.hrwTnClaim t) n] ∧ ∀ m, m ≠ n → u.src m = s.src m := by
  have hsrc : ((s.setSrc n ((s.src n).claimed t)).emit (.readData (Reg.hrwTnClaim t) n)).src n = (s.src n).claimed t :=
    State.src_setSrc_same s n _
  unfold execHrwClaim
  dsimp only
  rw [if_neg (by simp [tgtReached]), hh]
  exact ⟨_, rfl, by rw [hsrc]; rfl, by rw [hsrc]; rfl, rfl, fun m hm => State.src_setSrc_other s _ hm⟩

theorem hrwClaim_spurious {t : Fin 16} (hh : s.presented t = []) : ∃ u : State, execHrwClaim t true s = .next u
    ∧ u.out = s.out ++ [.readData (Reg.hrwTnClaim t) 0x1000]
    ∧ u.rf Reg.hrwCntEvents 15 0 = min 0xFFFF (s.rf Reg.hrwCntEvents 15 0 + 1) ∧ u.hrw = s.hrw := by
  unfold execHrwClaim
  dsimp only
  rw [if_neg (by simp [tgtReached]), hh]
  refine ⟨(s.bump Reg.hrwCntEvents 15 0 1).emit (.readData (Reg.hrwTnClaim t) 0x1000), rfl, rfl, ?_, rfl⟩
  rw [State.rf_emit, State.rf_bump_same _ _ _ _ _ (by decide) (by decide)]
  rfl

theorem hrwComplete_ends {t : Fin 16} {val : W32} (hv : fieldOf val.toNat 11 0 = n) (hs : (s.src n).inService = some (t : Nat))
    (hl : (s.src n).level = false) : execHrwComplete t val true s = .next (s.setSrc n { s.src n with inService := none }) := by
  unfold execHrwComplete
  dsimp only
  rw [hv, if_neg (by simp [tgtReached]), hs, if_pos (by simp), hl, if_neg (by simp)]

theorem hrwComplete_refuses {t : Fin 16} {val : W32} (hv : fieldOf val.toNat 11 0 = n) (hs : (s.src n).inService ≠ some (t : Nat)) :
    execHrwComplete t val true s = .next (s.latch errHrw n 1) := by
  unfold execHrwComplete
  dsimp only
  rw [hv, if_neg (by simp [tgtReached]), if_neg (by simpa using hs)]

/-! ### Words of sources -/

/-- A write of one bit of a word acts on one source. -/
theorem State.eachSrc_one {word i : Nat} {val : W32} (hi : ((List.range 32).filter fun j => val.getLsbD j) = [i]) (mgmt : Bool)
    (f : State → Nat → State) : s.eachSrc word val mgmt f
      = if !mgmt && !s.srcByHost (32 * word + i) then s.latch errHrw (32 * word + i) 1
        else if srcExists (32 * word + i) then f s (32 * word + i) else s := by
  unfold State.eachSrc
  rw [hi]
  rfl

include hx in
theorem State.eachSrc_managed {word i : Nat} {val : W32} (hi : ((List.range 32).filter fun j => val.getLsbD j) = [i])
    (hn : n = 32 * word + i) (f : State → Nat → State) : s.eachSrc word val true f = f s n := by
  rw [State.eachSrc_one hi, ← hn, if_neg (by simp), if_pos hx]

theorem hrwPendSet_refuses {word : Fin 128} {i : Nat} {val : W32} (hi : ((List.range 32).filter fun j => val.getLsbD j) = [i])
    (hn : n = 32 * (word : Nat) + i) (hb : s.srcByHost n = false) : execHrwPendSet word val false s = .next (s.latch errHrw n 1) := by
  unfold execHrwPendSet
  rw [State.eachSrc_one hi, ← hn, if_pos (by simp [hb])]

/-! ### Routes and sleeping targets -/

section
variable {val : W32} (hs : s.rf Reg.hrwSrcSel 11 0 = n)
include hs

theorem hrwSrcRoute_refuses (hr : (srcIsLevel n && (routeOf val.toNat).msix) = true) :
    execHrwSrcRoute val true s = .next (s.latch errHrw n 1) := by
  unfold execHrwSrcRoute
  dsimp only
  rw [hs, if_pos (by simpa using hr)]

include hx in
theorem hrwSrcRoute_retargets (hr : (srcIsLevel n && (routeOf val.toNat).msix) = false) :
    execHrwSrcRoute val true s = .next (s.retarget n (routeOf val.toNat)) := by
  unfold execHrwSrcRoute
  dsimp only
  rw [hs, hr, if_neg (by simp), hx, if_neg (by decide)]
end

theorem retargetWithdraw_leaves {t : Nat} (ho : (s.src n).oldTarget = some t) (hpend : (s.src n).pend = false) :
    execRetargetWithdraw n s = .next (s.setSrc n { s.src n with oldTarget := none }) := by
  unfold execRetargetWithdraw
  dsimp only
  rw [ho, if_neg (by simp), hpend, if_neg (by simp)]

theorem wakeDeadlineExpiry_fallsBack {t0 : Nat} (ha : (s.src n).asleepAt = some t0) (hpend : (s.src n).pend = true)
    (hf : (s.src n).fallen = none) (hm : (s.src n).route.msix = false) (ht : s.tgtAsleep (s.src n).route.target = true) :
    execWakeDeadlineExpiry n s = .next (s.fallBack n (s.rf (Reg.hrwTnCfg (s.src n).route.target) 7 4)) := by
  unfold execWakeDeadlineExpiry
  dsimp only
  rw [ha]
  dsimp only
  rw [hpend, hf, if_neg (by decide), hm, if_neg (by decide), if_pos ht]
end

/-- Settles O46: the clauses above, one after another. -/
theorem hedgerowSources : Obligations.HedgerowSources := by
  unfold Obligations.HedgerowSources
  rintro s n _ hx rfl hp
  refine ⟨fun hl hm => ?_, fun hl hm => ?_,
    fun t => ⟨hrwClaim_takes, hrwClaim_spurious, fun val hv => ⟨hrwComplete_ends hv, hrwComplete_refuses hv⟩⟩,
    fun word val i hi hn => ⟨congrArg Host.Outcome.next (State.eachSrc_managed hx hi hn _),
      congrArg Host.Outcome.next (State.eachSrc_managed hx hi hn _), congrArg Host.Outcome.next (State.eachSrc_managed hx hi hn _),
      congrArg Host.Outcome.next (State.eachSrc_managed hx hi hn _), hrwPendSet_refuses hi hn⟩,
    fun val hs => ⟨hrwSrcRoute_retargets hx hs, hrwSrcRoute_refuses hs⟩,
    fun t ho hpend => retargetWithdraw_leaves ho hpend,
    fun t0 ha hpend hf hm ht => wakeDeadlineExpiry_fallsBack ha hpend hf hm ht, fun t => rfl⟩
  · exact (sourceEdge_pends hx hp hl).trans (by rw [if_pos hm])
  · exact (sourceEdge_pends hx hp hl).trans (by rw [if_neg (ne_true_of_eq_false hm)])

/-! ### Messages -/

section
variable {s : State} {fn v : Nat}

@[simp] theorem State.vec_setVec_same (s : State) (fn v : Nat) (x : Vec) : (s.setVec fn v x).vec fn v = x := by
  unfold State.setVec State.vec State.onHrw
  dsimp only
  split
  · next h => rw [KMap.getD_del_same, h]
  · rw [KMap.getD_put_same]

theorem State.sendMsg_effect (s : State) (fn v : Nat) :
    (s.sendMsg fn v).out = s.out ++ [.msix fn v (s.vec fn v).addr (s.vec fn v).data]
    ∧ (s.sendMsg fn v).vec fn v = { s.vec fn v with batch := none, pba := false }
    ∧ (s.pair Reg.hrwCntMsgLo + 1 < 2 ^ 64 → (s.sendMsg fn v).pair Reg.hrwCntMsgLo = s.pair Reg.hrwCntMsgLo + 1) := by
  unfold State.sendMsg
  dsimp only
  generalize hw : State.onHrw _ _ = w
  have hregs : w.regs = s.regs := by rw [← hw]; rfl
  have hpair : w.pair Reg.hrwCntMsgLo = s.pair Reg.hrwCntMsgLo := by
    unfold State.pair
    rw [State.reg_congr hregs, State.reg_congr hregs]
  have hvec : w.vec fn v = { s.vec fn v with batch := none, pba := false } := by
    rw [← hw]
    exact State.vec_setVec_same s fn v _
  have hout : w.out = s.out := by rw [← hw]; rfl
  clear hw
  refine ⟨congrArg (· ++ [_]) hout, hvec, fun hlt => ?_⟩
  exact (State.pair_addPair_same w Reg.hrwCntMsgLo 1).trans (by rw [hpair, Nat.mod_eq_of_lt hlt])

section
variable {bt : EdgeBatch} (hb : (s.vec fn v).batch = some bt) (ha : (s.fn fn).asleep = false)
include hb ha

theorem State.commitBatch_sends (hm : s.vecMasked fn v = false) : s.commitBatch fn v = s.sendMsg fn v := by
  unfold State.commitBatch
  rw [if_neg (by simp [hb, ha]), if_neg (by simp [hm])]

theorem State.commitBatch_masked (hm : s.vecMasked fn v = true) :
    s.commitBatch fn v = s.setVec fn v { s.vec fn v with batch := none, pba := true } := by
  unfold State.commitBatch
  rw [if_neg (by simp [hb, ha]), if_pos hm]

theorem batchCountReached_sends (hm : s.vecMasked fn v = false) (hc : bt.count ≤ bt.edges.length) : ∃ u : State,
    execBatchCountReached fn v s = .next u ∧ u.out = s.out ++ [.msix fn v (s.vec fn v).addr (s.vec fn v).data]
      ∧ (u.vec fn v).batch = none ∧ (u.vec fn v).pba = false
      ∧ (s.pair Reg.hrwCntMsgLo + 1 < 2 ^ 64 → u.pair Reg.hrwCntMsgLo = s.pair Reg.hrwCntMsgLo + 1) := by
  obtain ⟨hout, hvec, hpair⟩ := State.sendMsg_effect s fn v
  unfold execBatchCountReached
  rw [hb, if_pos (by simpa using hc), State.commitBatch_sends hb ha hm]
  exact ⟨_, rfl, hout, by rw [hvec], by rw [hvec], hpair⟩

theorem batchTimerExpiry_sends (hm : s.vecMasked fn v = false) : ∃ u : State, execBatchTimerExpiry fn v s = .next u
    ∧ u.out = s.out ++ [.msix fn v (s.vec fn v).addr (s.vec fn v).data] ∧ (u.vec fn v).batch = none := by
  obtain ⟨hout, hvec, -⟩ := State.sendMsg_effect s fn v
  unfold execBatchTimerExpiry
  rw [State.commitBatch_sends hb ha hm]
  exact ⟨_, rfl, hout, by rw [hvec]⟩
end

theorem hrwMod_sets (val : W32) (hv : v < s.tableSize fn) : ∃ u : State, execHrwMod fn v val s = .next u
    ∧ u.vec fn v = { s.vec fn v with count := fieldOf val.toNat 15 0, time := fieldOf val.toNat 31 16 } ∧ u.regs = s.regs
    ∧ u.out = s.out := by
  unfold execHrwMod
  rw [if_neg (by omega)]
  exact ⟨_, rfl, State.vec_setVec_same _ _ _ _, rfl, rfl⟩
end

/-- Settles O47: a batch commits as `sendMsg_effect` says, or sets its PBA bit. -/
theorem msixMessages : Obligations.MsixMessages := by
  unfold Obligations.MsixMessages
  rintro s fn v _ rfl
  exact ⟨fun bt hb ha hm => ⟨batchCountReached_sends hb ha hm, batchTimerExpiry_sends hb ha hm⟩,
    fun bt hb ha hm => congrArg Host.Outcome.next (State.commitBatch_masked hb ha hm),
    fun val hv => hrwMod_sets val hv, rfl, fun en => rfl, _, rfl, List.getLast?_concat⟩

end Sys2Proof.Machine
end


section
/-! Resets and power sequencing (R455 to R459, R467, R534 to R537). -/
namespace Sys2Proof.Machine

open Sys2Proof

/-! ### What a rebuilt head keeps -/

theorem State.setReg_frame (s : State) (off : Nat) (v : W32) : ∃ g, s.setReg off v = { s with regs := g } := ⟨_, rfl⟩

theorem State.keepWords_frame (old s : State) (l : List (Nat × Nat)) : ∃ g, l.foldl old.keepWord s = { s with regs := g } := by
  induction l generalizing s with
  | nil => exact ⟨s.regs, rfl⟩
  | cons x l ih =>
    obtain ⟨g, hg⟩ := ih (old.keepWord s x)
    exact ⟨g, hg⟩

theorem State.reg_keepWords_other (old s : State) {l : List (Nat × Nat)} {o : Nat} (h : ∀ x ∈ l, o ≠ x.1) :
    (l.foldl old.keepWord s).reg o = s.reg o := by
  induction l generalizing s with
  | nil => rfl
  | cons x l ih =>
    obtain ⟨hx, hl⟩ := List.forall_mem_cons.1 h
    rw [List.foldl_cons, ih _ hl]
    exact State.reg_setReg_other _ _ hx

/-- A word of which every bit is kept. -/
theorem State.reg_keepWord_whole (old s : State) (o : Nat) : (old.keepWord s (o, 0xFFFFFFFF)).reg o = old.reg o := by
  unfold State.keepWord
  dsimp only
  rw [State.reg_setReg_same, Nat.sub_self, Nat.and_zero, Nat.or_zero]
  refine BitVec.eq_of_toNat_eq ?_
  rw [BitVec.toNat_ofNat, show (0xFFFFFFFF : Nat) = 2 ^ 32 - 1 from rfl, Nat.and_two_pow_sub_one_eq_mod, Nat.mod_mod]
  exact Nat.mod_eq_of_lt (old.reg o).isLt

theorem State.reg_keptWords_crpCnt (old s : State) (cold : Bool) :
    ((keptWords cold).foldl old.keepWord s).reg Reg.crpCnt = old.reg Reg.crpCnt := by
  unfold keptWords
  rw [List.cons_append, List.cons_append, List.cons_append, List.foldl_cons, List.foldl_cons, List.foldl_cons,
    State.reg_keepWords_other _ _ (by cases cold <;> decide), State.reg_keepWord_whole]

/-- A rebuilt head: its queue, connections and transports are empty, and what NOR, the fuses and the AON island hold stays. -/
theorem State.rebuilt_effect (s : State) (cold : Bool) : (s.rebuilt cold).ez.queue = [] ∧ (s.rebuilt cold).drv = Drv.reset
    ∧ (s.rebuilt cold).tape0 = Tape.reset ∧ (s.rebuilt cold).ez.roleKeys = s.ez.roleKeys
    ∧ (s.rebuilt cold).ez.authFail = s.ez.authFail ∧ (s.rebuilt cold).ez.parNor = s.ez.parNor ∧ (s.rebuilt cold).fuses = s.fuses
    ∧ (s.rebuilt cold).pending = s.pending ∧ (s.rebuilt cold).reg Reg.crpCnt = s.reg Reg.crpCnt
    ∧ (s.rebuilt cold).mem.granules = (if cold then [] else s.mem.granules) := by
  unfold State.rebuilt
  dsimp only
  rw [State.reg_setRbit_other _ _ _ (by decide), State.reg_keptWords_crpCnt]
  simp only [State.setRbit_ez, State.setRbit_drv, State.setRbit_tape0, State.setRbit_fuses, State.setRbit_pending, State.setRbit_mem]
  obtain ⟨g, hg⟩ := State.keepWords_frame s _ (keptWords cold)
  rw [hg]
  refine ⟨rfl, rfl, rfl, rfl, rfl, rfl, rfl, rfl, trivial, ?_⟩
  cases cold <;> rfl

theorem State.powerUp_fresh (s : State) : s.powerUp.clk = 0 ∧ s.powerUp.skl = Skl.reset := ⟨rfl, rfl⟩

/-! ### Reset requests -/

section
variable {s : State}

theorem crpReset_warm {val : W32} (hk : fieldOf val.toNat 15 8 = 0xC5) (h0 : bitAt val.toNat 0 = true)
    (h1 : bitAt val.toNat 1 = false) : execCrpResetWarm val s = .next (s.warmReset 3) := by
  unfold execCrpResetWarm
  dsimp only
  rw [if_neg (by simp [resetKey, hk]), if_neg (ne_true_of_eq_false h1), if_pos h0]

theorem crpReset_cold {val : W32} (hk : fieldOf val.toNat 15 8 = 0xC5) (h1 : bitAt val.toNat 1 = true) :
    execCrpResetCold val s = .next (s.coldCommand 2) := by
  unfold execCrpResetCold
  dsimp only
  rw [if_pos (by simp [resetKey, hk, h1])]

theorem crpReset_noKey {val : W32} (hk : fieldOf val.toNat 15 8 ≠ 0xC5) :
    execCrpResetWarm val s = .next s ∧ execCrpResetCold val s = .next s := by
  have hkey : resetKey val.toNat = false := by simpa [resetKey] using hk
  unfold execCrpResetWarm execCrpResetCold
  dsimp only
  rw [hkey]
  exact ⟨rfl, rfl⟩

theorem coldReset_holds (hb : s.crp.boot = .ready) :
    execColdReset s = .next ((s.onCrp fun c => { c with sysRstN := false }).coldReset 1 .held) := by
  unfold execColdReset
  dsimp only
  rw [show (s.onCrp fun c => { c with sysRstN := false }).crp.boot = .ready from hb]

theorem hostLinkReset_resets (hb : s.crp.boot = .ready) : execHostLinkReset s
    = .next ((((((List.range 64).foldl State.resetFn s).onHrw fun h =>
        { h with fns := KMap.mapV h.fns fun _ f => { f with vfOn := false } }).resetCause 8).discard [0x11]).onCrp
        fun c => { c with linkUp := false }) := by
  unfold execHostLinkReset
  rw [hb]

theorem perstNRelease_links (hb : s.crp.boot = .ready) :
    execPerstNRelease s = .next (s.onCrp fun c => { c with linkUp := true }) := by
  unfold execPerstNRelease
  rw [if_neg (by simp [hb])]

theorem functionLevelReset_resets {fn : Nat} (h : fn < 64) : execFunctionLevelReset fn s = .next (s.resetFn fn) := by
  unfold execFunctionLevelReset
  rw [if_neg (by omega)]

theorem activateReset_resets {t : Nat} (hn : s.upd.nowAt = some t) (ht : t + 3 ≤ s.clk) :
    execActivateReset s = .next (s.warmReset 3) := by
  unfold execActivateReset
  rw [hn]
  dsimp only
  rw [if_pos (show t + msTicks 1 ≤ s.clk from ht)]

/-! ### Power sequencing -/

theorem sysResetNRelease_boots (hb : s.crp.boot = .held) : execSysResetNRelease s
    = .next ((((s.onCrp fun c => { c with sysRstN := true }).onCrp fun c => { c with boot := .booting }).emit
      (.pin "DDR_RESET_N" 0 true)).startBoot) := by
  unfold execSysResetNRelease
  dsimp only
  rw [if_neg (by simp [hb]), show (s.onCrp fun c => { c with sysRstN := true }).crp.boot = .held from hb, if_pos (by decide)]

theorem socPgRise_powers (hb : s.crp.boot = .waitSoc) :
    execSocPgRise s = .next ((s.onCrp fun c => { c with socPg := true, boot := .waitCore }).corePower true) := by
  unfold execSocPgRise
  rw [if_neg (by simp [hb])]

theorem corePgRise_boots (he : s.crp.corePwrEn = true) (hp : s.crp.corePg = false) (ht : s.crp.trans = 0)
    (hb : s.crp.boot = .waitCore) (hr : s.crp.sysRstN = true) : execCorePgRise s
      = .next ((((s.onCrp fun c => { c with corePg := true }).onCrp fun c => { c with boot := .booting }).emit
        (.pin "DDR_RESET_N" 0 true)).startBoot) := by
  unfold execCorePgRise
  rw [if_neg (by simp [he, hp])]
  dsimp only
  generalize hv : (s.onCrp fun c => { c with corePg := true }) = v
  have hvt : v.crp.trans = 0 := by rw [← hv]; exact ht
  have hvb : v.crp.boot = .waitCore := by rw [← hv]; exact hb
  have hvr : v.crp.sysRstN = true := by rw [← hv]; exact hr
  rw [if_neg (by omega), if_pos (by simp [hvb]), if_pos hvr]

theorem corePgTimeout_drops (he : s.crp.corePwrEn = true) (hp : s.crp.corePg = false) (ht : s.crp.trans = 0) :
    execCorePgTimeout s = .next (s.corePower false) := by
  have hvt : (s.corePower false).crp.trans = 0 := ht
  unfold execCorePgTimeout
  rw [if_neg (by simp [he, hp])]
  dsimp only
  rw [if_neg (by omega)]

theorem corePwrEnRetry_powers (hb : s.crp.boot = .waitCore) (he : s.crp.corePwrEn = false) :
    execCorePwrEnRetry s = .next (s.corePower true) := by
  unfold execCorePwrEnRetry
  rw [if_pos (by simp [hb, he])]

theorem socPgFall_resets (hb : s.crp.boot ≠ .off) (hp : s.crp.socPg = true) : execSocPgFall s
    = .next (((s.coldReset 1 .waitSoc).onCrp fun c => { c with socPg := false, corePg := false }).corePower false) := by
  unfold execSocPgFall
  rw [if_neg (by simp [hb, hp])]

theorem corePgFall_resets (hp : s.crp.corePg = true) (he : s.crp.corePwrEn = true) (ht : s.crp.trans = 0) : execCorePgFall s
    = .next (((s.onCrp fun c => { c with corePg := false }).coldReset 1 .waitCore).onCrp fun c => { c with cgFell := true }) := by
  unfold execCorePgFall
  rw [if_neg (by simp [hp])]
  dsimp only
  generalize hv : (s.onCrp fun c => { c with corePg := false }) = v
  have hve : v.crp.corePwrEn = true := by rw [← hv]; exact he
  have hvt : v.crp.trans = 0 := by rw [← hv]; exact ht
  rw [if_neg (by simp [hve, hvt])]
end

/-- Settles O48: the clauses above, one after another. -/
theorem resetCommands : Obligations.ResetCommands := by
  unfold Obligations.ResetCommands
  intro s
  exact ⟨fun val hk => ⟨fun h0 h1 => crpReset_warm hk h0 h1, fun h1 => crpReset_cold hk h1⟩,
    fun val hk => crpReset_noKey hk, s.rebuilt_effect,
    fun hb => ⟨coldReset_holds hb, hostLinkReset_resets hb, perstNRelease_links hb⟩,
    fun fn h => functionLevelReset_resets h,
    ⟨rfl, rfl, s.releasePins.powerUp_fresh⟩,
    fun hb => sysResetNRelease_boots hb, fun hb => socPgRise_powers hb,
    fun he hp ht => ⟨fun hb hr => corePgRise_boots he hp ht hb hr, corePgTimeout_drops he hp ht⟩,
    fun hb he => corePwrEnRetry_powers hb he, fun hb hp => socPgFall_resets hb hp,
    fun hp he ht => corePgFall_resets hp he ht, fun t hn ht => activateReset_resets hn ht⟩

end Sys2Proof.Machine
end


section
/-! Clocks, power states and temperature (R454, R461 to R466, R546 to R548). -/
namespace Sys2Proof.Machine

open Sys2Proof

/-! ### Clocks -/

section
variable {s : State}

theorem State.clockDown_none (s : State) {d : Nat} (hd : d ∉ [4, 5, 6]) : s.clockDown d = s := by
  unfold State.clockDown
  split
  · exact absurd (by decide) hd
  · exact absurd (by decide) hd
  · exact absurd (by decide) hd
  · rfl

theorem clockFault_stops {dom : Fin 10} (stopped : Bool) (hr : s.ready = true) (hd : s.stopsByDesign dom = false)
    (hn : (dom : Nat) ∉ [4, 5, 6]) : ∃ u : State, execClockFault dom stopped s = .next u
      ∧ u.rbit Reg.crpClkStat (16 + dom) = true ∧ u.crp.stopped = (dom : Nat) :: s.crp.stopped.filter (· != (dom : Nat)) := by
  unfold execClockFault
  rw [if_neg (by simp [hr, hd])]
  dsimp only
  rw [State.clockDown_none _ hn]
  obtain ⟨h, o, hraise⟩ := State.raise_frame (s.setRbit Reg.crpClkStat (16 + dom) true) (Reg.crpClkStat + dom)
  rw [hraise]
  generalize hw : s.setRbit Reg.crpClkStat (16 + dom) true = w
  have hbit : w.rbit Reg.crpClkStat (16 + dom) = true := by
    rw [← hw]
    exact State.rbit_setRbit_same _ _ _ _ (by omega)
  have hcrp : w.crp = s.crp := by rw [← hw]; rfl
  rw [← hcrp]
  exact ⟨_, rfl, hbit, rfl⟩

/-! ### Gating and P2 -/

theorem blockIdleGate_gates {k i : Nat} (hr : s.ready = true) (hp : s.inP2 = false) (h1 : s.par Par.p1En = 1)
    (hg : s.gateable.contains (k, i) = true) (hn : s.crp.gated.contains (k, i) = false) (he : s.blockEmpty k i = true) :
    execBlockIdleGate k i s = .next ((s.onCrp fun c => { c with gated := (k, i) :: c.gated }).showGated) := by
  unfold execBlockIdleGate
  rw [hr, hp, h1, hg, hn, he]
  rfl

theorem blockUngate_ungates {k i : Nat} (hg : s.crp.gated.contains (k, i) = true) : execBlockUngate k i s
    = .next ((s.onCrp fun c => { c with gated := c.gated.filter (· != (k, i)) }).showGated) := by
  unfold execBlockUngate
  rw [hg]
  rfl

theorem State.inP2_setRf_crpPstate (s : State) (hi lo v : Nat) : (s.setRf Reg.crpPstate hi lo v).inP2 = s.inP2 := by
  unfold State.inP2
  rw [State.rf_setRf_reg _ _ _ _ _ _ (by decide)]

theorem State.p2Refused_setRf_crpPstate (s : State) (hi lo v : Nat) :
    (s.setRf Reg.crpPstate hi lo v).p2Refused = s.p2Refused := by
  have hclean : (s.setRf Reg.crpPstate hi lo v).hthCleaning = s.hthCleaning := State.rbit_setRf_off s (by decide) _ _ _ _
  unfold State.p2Refused
  rw [hclean]
  rfl

section
variable {val : W32} (hr : s.ready = true) (ht : s.crp.trans = 0)
include hr ht

theorem pstateP2Request_enters (hv : fieldOf val.toNat 1 0 = 2) :
    execPstateP2Request val s = .next ((s.setRf Reg.crpPstate 1 0 2).p2Enter) := by
  have htr : (s.setRf Reg.crpPstate 1 0 2).crp.trans = 0 := ht
  unfold execPstateP2Request State.pstateWrite
  dsimp only
  rw [hv, hr, if_neg (by decide), htr, if_neg (by decide), if_pos rfl]

theorem pstateP2Request_refused (hv : fieldOf val.toNat 1 0 = 2) {dt : Nat} (hp : s.inP2 = false) (hd : s.p2Refused = some dt) :
    ∃ u : State, execPstateP2Request val s = .next u ∧ u.reg Reg.crpPstateRes = BitVec.ofNat 32 (St.busy + 65536 * dt)
      ∧ u.crp = s.crp := by
  rw [pstateP2Request_enters hr ht hv]
  unfold State.p2Enter
  rw [State.inP2_setRf_crpPstate, hp, if_neg (by decide), State.p2Refused_setRf_crpPstate, hd]
  exact ⟨_, rfl, State.reg_setReg_same _ _ _, rfl⟩

theorem pstateP0Request_leaves (hv : fieldOf val.toNat 1 0 = 0) (hp : s.inP2 = true) :
    execPstateP0Request val s = .next ((s.setRf Reg.crpPstate 1 0 0).p2Leave) := by
  have htr : (s.setRf Reg.crpPstate 1 0 0).crp.trans = 0 := ht
  unfold execPstateP0Request State.pstateWrite
  dsimp only
  rw [hv, hr, if_neg (by decide), htr, if_neg (by decide), if_neg (by decide), State.inP2_setRf_crpPstate, hp, if_pos rfl]
end

theorem alwaysOnWake_leaves (hp : s.inP2 = true) (ht : s.crp.trans = 0) (hw : s.wakePending = true) (hl : s.crp.linkUp = false) :
    execAlwaysOnWake s = .next ((s.emit (.pin "WAKE_N" 0 true)).p2Leave) := by
  unfold execAlwaysOnWake
  rw [if_neg (by simp [hp, ht, hw]), hl, if_neg (by decide)]
end

/-! ### Samples and the alarm -/

/-- What the temperature registers leave: the rest of the bank, and all that the alarm is judged by. -/
def State.TempShown (s u : State) : Prop :=
  u.thm = s.thm ∧ u.crp = s.crp ∧ u.part = s.part ∧ u.ez = s.ez ∧ u.reg Reg.crpStatus = s.reg Reg.crpStatus

theorem State.tempShown_setRf (s : State) {off : Nat} (h : Reg.crpStatus ≠ off) (hi lo v : Nat) : s.TempShown (s.setRf off hi lo v) :=
  ⟨rfl, rfl, rfl, rfl, State.reg_setRf_other _ _ _ _ h⟩

theorem State.tempShown_showTemp (s : State) : s.TempShown s.showTemp := by
  unfold State.showTemp
  cases s.hottest with
  | none => exact ⟨rfl, rfl, rfl, rfl, rfl⟩
  | some x =>
    obtain ⟨n, t⟩ := x
    dsimp only
    generalize hw : s.setReg Reg.crpTemp (BitVec.ofNat 32 (tempField t + 65536 * n)) = w
    have hshown : s.TempShown w := by
      rw [← hw]
      exact ⟨rfl, rfl, rfl, rfl, State.reg_setReg_other _ _ (by decide)⟩
    obtain ⟨hthm, hcrp, hpart, hez, hreg⟩ := hshown
    generalize (if w.rf Reg.crpTherm 31 24 < 128 then (w.rf Reg.crpTherm 31 24 : Int) else (w.rf Reg.crpTherm 31 24 : Int) - 256) = peak
    split
    · exact ⟨hthm, hcrp, hpart, hez, (State.reg_setRf_other _ _ _ _ (by decide)).trans hreg⟩
    · exact ⟨hthm, hcrp, hpart, hez, hreg⟩

theorem State.sensorOn_congr {s u : State} (hcrp : u.crp = s.crp) (hpart : u.part = s.part)
    (hreg : u.reg Reg.crpStatus = s.reg Reg.crpStatus) (n : Nat) : u.sensorOn n = s.sensorOn n := by
  unfold State.sensorOn State.inP2
  rw [hcrp, hpart, State.rf_of_reg hreg]

@[simp] theorem State.setLevel_thm (s : State) (n : Nat) (b : Bool) : (s.setLevel n b).thm = s.thm := by
  obtain ⟨h, o, e⟩ := State.setLevel_frame s n b
  rw [e]

/-- The alarm stands after a sample of a running sensor at its threshold. -/
theorem State.judgeAlarm_effect (s : State) : s.judgeAlarm.thm = s.thm
    ∧ ∀ n t, (n, t) ∈ s.thm.temps → s.sensorOn n = true → 16 * (s.par Par.alarmC : Int) ≤ t →
      s.judgeAlarm.rbit Reg.crpTherm 0 = true := by
  unfold State.judgeAlarm
  dsimp only
  generalize hw : State.setRbit s Reg.crpTherm 1 _ = w
  have hthm : w.thm = s.thm := by rw [← hw]; rfl
  have hon : ∀ n t, (n, t) ∈ s.thm.temps → s.sensorOn n = true → (n, t) ∈ s.thm.temps.filter fun x => s.sensorOn x.1 :=
    fun n t hin hs => List.mem_filter.2 ⟨hin, hs⟩
  clear hw
  by_cases h0 : w.rbit Reg.crpTherm 0 = true
  · rw [if_pos h0]
    split
    · next hall =>
      refine ⟨(State.setLevel_thm _ _ _).trans hthm, fun n t hin hs hle => ?_⟩
      have hlow := of_decide_eq_true (List.all_eq_true.1 hall _ (hon n t hin hs))
      dsimp only at hlow
      omega
    · exact ⟨hthm, fun _ _ _ _ _ => h0⟩
  · rw [if_neg h0]
    split
    · refine ⟨(State.setLevel_thm _ _ _).trans hthm, fun _ _ _ _ _ => ?_⟩
      rw [State.rbit_congr (State.sklFold_regs _ _ _ _ _), State.rbit_congr (State.setLevel_regs _ _ _), State.rbit_emit,
        State.rbit_setRbit_same _ _ _ _ (by decide)]
    · next hany =>
      refine ⟨hthm, fun n t hin hs hle => absurd ?_ hany⟩
      exact List.any_eq_true.2 ⟨_, hon n t hin hs, decide_eq_true hle⟩

theorem thermalSample_kept {s : State} {n : Fin 14} (temp : Int) (hn : s.sensorOn n = true) : ∃ u : State,
    execThermalSample n temp s = .next u ∧ KMap.get? u.thm.temps n = some temp
      ∧ (16 * (s.par Par.alarmC : Int) ≤ temp → u.rbit Reg.crpTherm 0 = true) := by
  unfold execThermalSample
  dsimp only
  rw [if_neg (by simp [hn])]
  generalize hv : ({ s with thm := _ } : State) = v
  have hvt : KMap.get? v.thm.temps n = some temp := by
    rw [← hv]
    exact KMap.get?_put_same _ _ _
  have hvs : v.sensorOn n = true := by
    rw [← hv]
    exact hn
  have hvp : v.par Par.alarmC = s.par Par.alarmC := by rw [← hv]; rfl
  clear hv
  generalize hw : (if (n : Nat) = 12 then v.setRf Reg.crpTempFe 15 0 (tempField temp)
    else if (n : Nat) = 13 then v.setRf Reg.crpTempFe 31 16 (tempField temp) else v.showTemp) = w
  have hshown : v.TempShown w := by
    rw [← hw]
    split
    · exact v.tempShown_setRf (by decide) _ _ _
    · split
      · exact v.tempShown_setRf (by decide) _ _ _
      · exact v.tempShown_showTemp
  clear hw
  obtain ⟨hthm, hcrp, hpart, hez, hreg⟩ := hshown
  obtain ⟨hjudge, halarm⟩ := w.judgeAlarm_effect
  refine ⟨_, rfl, by rw [hjudge, hthm, hvt], fun hle => halarm n temp ?_ ?_ ?_⟩
  · rw [hthm]
    exact KMap.mem_of_get? hvt
  · rw [State.sensorOn_congr hcrp hpart hreg, hvs]
  · have hwp : w.par Par.alarmC = s.par Par.alarmC := by
      rw [← hvp]
      unfold State.par State.parDefault
      rw [hez, hpart]
    rw [hwp]
    exact hle

/-! ### The trip -/

/-- A cold reset that does not boot at once: where it waits, and its cause. -/
theorem State.coldReset_waits (s : State) {bit : Nat} {boot : BootSt} (hb : boot ≠ .booting) :
    (s.coldReset bit boot).crp.boot = boot ∧ (s.coldReset bit boot).rf Reg.crpRstCause 19 16 = bit % 16 := by
  unfold State.coldReset
  dsimp only
  rw [if_neg hb]
  generalize State.rebuilt _ true = r
  unfold State.attestWarm
  dsimp only
  refine ⟨rfl, ?_⟩
  rw [State.rf_setRf_reg _ _ _ _ _ _ (by decide), State.rf_congr (State.onCrp_regs _ _), State.rf_congr (State.discard_regs _ _),
    State.rf_congr (State.nextDraw_regs _), State.rf_congr (State.onData_regs _ _), State.rf_bump_off _ (by decide)]
  exact State.rf_setRf_same _ _ _ _ _ (by decide) (by decide)

theorem thermalTrip_trips {s : State} {x : Nat × Nat} (hx : x ∈ s.thm.hot) (h2 : 2 ≤ x.2) (hon : s.sensorOn x.1 = true)
    (hb : s.crp.boot ≠ .tripped) : ∃ u : State, execThermalTrip s = .next u ∧ u.rbit Reg.crpTherm 2 = true
      ∧ u.crp.boot = .tripped ∧ u.crp.corePwrEn = false ∧ u.rf Reg.crpRstCause 19 16 = 6 := by
  have hany : (s.thm.hot.any fun x => 2 ≤ x.2 && s.sensorOn x.1) = true :=
    List.any_eq_true.2 ⟨x, hx, by simp [h2, hon]⟩
  unfold execThermalTrip
  rw [hany, if_neg (by simp [hb])]
  dsimp only
  generalize State.sklHw _ _ _ _ _ = v
  obtain ⟨hboot, hcause⟩ := v.coldReset_waits (bit := 6) (boot := .tripped) (by decide)
  generalize v.coldReset 6 .tripped = w at hboot hcause
  refine ⟨_, rfl, ?_, hboot, rfl, ?_⟩
  · exact State.rbit_setRbit_same w _ _ _ (by decide)
  · exact (State.rf_setRbit_off w (by decide) _ _ _ _).trans hcause

theorem tripEnd_powers {s : State} {t : Nat} (hc : s.thm.coolSince = some t) (hb : s.crp.boot = .tripped) (ht : t + 300 ≤ s.clk) :
    ∃ u : State, execTripEnd s = .next u ∧ u.crp.boot = .waitCore ∧ u.crp.corePwrEn = true ∧ u.thm.hot = []
      ∧ u.out = s.out ++ [.pin "THERMTRIP_N" 0 false, .pin "CORE_PWR_EN" 0 true] := by
  have hclk : ¬ s.clk < t + msTicks 100 := Nat.not_lt.2 ht
  unfold execTripEnd
  rw [hc]
  dsimp only
  rw [if_neg (by simp [hb, hclk])]
  exact ⟨_, rfl, rfl, rfl, rfl, List.append_assoc _ _ _⟩

/-- Settles O49: the clauses above, one after another. -/
theorem powerAndThermal : Obligations.PowerAndThermal := by
  unfold Obligations.PowerAndThermal
  intro s
  exact ⟨fun dom stopped hr hd hn => clockFault_stops stopped hr hd hn, fun dom => rfl,
    fun k i hr hp h1 hg hn he => blockIdleGate_gates hr hp h1 hg hn he,
    fun k i hg => blockUngate_ungates hg,
    fun val hr ht => ⟨fun hv => ⟨pstateP2Request_enters hr ht hv, fun dt hp hd => pstateP2Request_refused hr ht hv hp hd⟩,
      fun hv hp => pstateP0Request_leaves hr ht hv hp⟩,
    fun hp ht hw hl => alwaysOnWake_leaves hp ht hw hl,
    fun n temp hn => thermalSample_kept temp hn,
    fun x hx h2 hon hb => thermalTrip_trips hx h2 hon hb,
    fun t hc hb ht => tripEnd_powers hc hb ht⟩

end Sys2Proof.Machine
end


section
/-! Background work, telemetry and diagnostics (R475 to R484, R489, R490). -/
namespace Sys2Proof.Machine

open Sys2Proof

/-! ### Budgets, the patrol and verify -/

section
variable {s : State} {eid : Nat} {e : Entry}

theorem bgBudgetSet_joins (h : s.Starts eid 0x6004 e)
    (hok : ([(Par.bgDdrPct, e.p 0 1), (Par.bgDrivePct, e.p 1 1), (Par.bgIdlePct, e.p 2 1)].any fun x =>
      x.2 < (parInfo x.1).lo || (parInfo x.1).hi < x.2) = false) : execBgBudgetSet eid s
    = .next ((s.markBegun eid).joinBatch ⟨e.eid, [(Par.bgDdrPct, e.p 0 1, false), (Par.bgDrivePct, e.p 1 1, false),
        (Par.bgIdlePct, e.p 2 1, false)], e.area.take 3⟩) := by
  unfold execBgBudgetSet
  rw [State.cmd_starts h]
  dsimp only
  rw [if_neg (ne_true_of_eq_false hok)]
  rfl

theorem scrubStart_patrols (h : s.Starts eid 0x6005 e) (hp : e.p 0 1 = 0) : ∃ u : State,
    execScrubStart eid true s = .next (u.okReply e (leBytes 4 (s.fld.patrolPass + 1))) ∧ u.fld.patrolPos = 0
      ∧ u.rbit Reg.fldBgStat 0 = true := by
  unfold execScrubStart
  rw [State.cmd_starts h, hp]
  exact ⟨_, rfl, rfl, State.rbit_setRbit_same _ _ _ _ (by decide)⟩

theorem scrubStart_lists (h : s.Starts eid 0x6005 e) (hp : e.p 0 1 = 2) (ha : e.p 8 8 % 64 = 0) (hr : e.ring ≠ 1023) :
    execScrubStart eid true s = .next (((s.markBegun eid).deliverTo e (e.p 8 8) (s.mem.ues.flatMap UeEntry.bytes)).okReply e
      (leBytes 4 s.mem.ues.length)) := by
  have hout : ∀ n, e.outside (e.p 8 8) n = false := fun n => by
    unfold Entry.outside
    rw [beq_eq_false_iff_ne.2 hr, Bool.false_and]
  unfold execScrubStart
  rw [State.cmd_starts h, hp]
  change Host.Outcome.next (if (e.p 8 8 % 64 != 0) = true then _ else if e.outside (e.p 8 8) _ = true then _ else _) = _
  rw [if_neg (by simp [ha]), hout, if_neg (by decide)]
  rfl

theorem patrolScrub_moves {words : Nat} (hr : s.ready = true) (hp : s.inP2 = false) (hi : s.initDone = true)
    (hw : s.fld.patrolPos + words < s.patrolWords) : ∃ u : State, execPatrolScrub words [] s = .next u
      ∧ u.fld.patrolPos = s.fld.patrolPos + words ∧ u.rbit Reg.fldBgStat 0 = true := by
  unfold execPatrolScrub
  rw [if_neg (by simp [hr, hp, hi])]
  dsimp only [List.foldl_nil]
  rw [if_neg (by omega)]
  exact ⟨_, rfl, rfl, State.rbit_setRbit_same _ _ _ _ (by decide)⟩

theorem stripeVerify_verifies {root block : Nat} {g : Group} {data : Bytes} {units : List Fetch} (hg : s.group? root = some g)
    (hr : s.ready = true) (hp : s.inP2 = false) (hown : s.owns (s.rootDom root) = true)
    (hv : s.verifyHere (s.rootDom root) root block = true) (hb : s.treeBusy root = false) (hst : g.st = .optimal)
    (hl : s.locked root block = false) (hf : s.tskFree (s.rootDom root) = true)
    (hlost : ((List.range (g.geoAt block).d).any fun k => s.blockLost root (block / (g.geoAt block).d * (g.geoAt block).d + k)) = false) :
    execStripeVerify root block (.ok data) units s = .next ((s.verifyStripe root (block / (g.geoAt block).d * (g.geoAt block).d)
      (padTo data (4096 * (g.geoAt block).d)) units).verifyPast (s.rootDom root) root
        (block / (g.geoAt block).d * (g.geoAt block).d + (g.geoAt block).d)) := by
  unfold execStripeVerify
  rw [hg]
  dsimp only
  rw [if_neg (by simp [hr, hp, hown, hv, hb, hst, hl, hf]), if_neg (ne_true_of_eq_false hlost)]

theorem smartRead_keeps {p : Fin 16} {used : Nat} (hr : s.ready = true) (hp : s.inP2 = false) (hport : (s.port p).present = true)
    (hu : used < s.par Par.wearWarnPct) : ∃ u : State, execSmartRead p used s = .next u
      ∧ KMap.get? u.fld.smart p = some (used % 256) ∧ u.out = s.out ++ [.nvmeAdmin "Get Log Page SMART" p 0] ∧ u.regs = s.regs := by
  unfold execSmartRead
  dsimp only
  rw [if_neg (by simp [hr, hp, hport])]
  generalize hv : State.emit _ _ = v
  have hpar : v.par Par.wearWarnPct = s.par Par.wearWarnPct := by rw [← hv]; rfl
  rw [hpar, decide_eq_false (by omega), Bool.false_and, if_neg (by decide), ← hv]
  exact ⟨_, rfl, KMap.get?_put_same _ _ _, rfl, rfl⟩

/-! ### Telemetry -/

theorem telemetryConfig_stores (h : s.Starts eid 0x6006 e) (ha : e.p 0 8 % 4096 = 0) (hlo : 4 ≤ e.p 8 1) (hhi : e.p 8 1 ≤ 16)
    (hfn : e.p 9 1 ≤ 63) (hd : e.p 10 2 ≤ 3000) : execTelemetryConfig eid s
      = .next (((s.markBegun eid).onFld fun f => { f with telNext := some ⟨e.p 0 8, e.p 8 1, e.p 9 1, e.p 10 2⟩ }).okReply e
        (leBytes 4 (s.fld.telSeq + b2n s.fld.telDue))) := by
  unfold execTelemetryConfig
  rw [State.cmd_starts h]
  dsimp only
  rw [if_neg (by simp [ha]; omega)]
  rfl

theorem telemetrySnapshot_writes {c : TelCfg} (hc : s.fld.tel = some c) (hr : s.ready = true) (hdue : s.fld.telDue = true)
    (hl : s.crp.linkUp = true) (h3 : (s.fn c.fn).d3 = false) (hb : (s.fn c.fn).bme = true) : ∃ u : State,
      execTelemetrySnapshot s = .next u ∧ u.fld.telDue = false ∧ u.fld.telSeq = (s.fld.telSeq + 1) % 2 ^ 32
      ∧ u.out = s.out ++ [.hostWrite c.fn (c.addr + 512 * (s.fld.telSeq % 2 ^ c.log2)) (s.snapshot ++ leBytes 4 (crc32c s.snapshot))]
      ∧ u.rf Reg.fldTelStat 15 0 = s.fld.telSeq % 65536 := by
  unfold execTelemetrySnapshot
  rw [hc]
  dsimp only
  rw [if_neg (by simp [hr, hdue]), if_neg (by simp [h3, hb, hl])]
  generalize s.snapshot ++ leBytes 4 (crc32c s.snapshot) = body
  refine ⟨_, rfl, rfl, rfl, rfl, ?_⟩
  rw [State.rf_congr (State.nextDraw_regs _), State.rf_setRf_same _ _ _ _ _ (by decide) (by decide)]
  exact Nat.mod_mod _ _

/-! ### Diagnostics -/

theorem diagSelftest_passes (h : s.Starts eid 0x7F03 e) (hp : e.p 0 1 = 0) (hi : s.ez.inst = []) : ∃ u : State,
    execDiagSelftest eid [] s = .next (u.okReply e (zeros 16)) ∧ u.dhd.selftestOk = true := by
  have hbasic : ∀ k, ((s.markBegun eid).inst k).ctl = .basic := fun k => by
    unfold State.inst
    rw [show (s.markBegun eid).ez.inst = [] from hi]
    rfl
  have hskip : ∀ xs : List (Nat × Nat), (xs.filter fun x => ((s.markBegun eid).inst (instKey x.1 x.2)).ctl != .basic) = [] :=
    fun xs => List.filter_eq_nil_iff.2 fun x _ => by rw [hbasic]; decide
  unfold execDiagSelftest
  rw [State.cmd_starts h]
  dsimp only
  rw [hskip, hp, if_pos rfl, if_pos rfl]
  exact ⟨_, rfl, rfl⟩

theorem diagLoopback_reports {bits errs : Nat} (h : s.Starts eid 0x7F04 e) (hk : e.p 0 1 = 0) (hport : e.p 1 1 ≤ 1)
    (hsub : e.p 2 1 < s.subCount (e.p 1 1)) (hlo : 1 ≤ e.p 4 4) (hhi : e.p 4 4 ≤ 10000) (hidle : s.subUp (e.p 1 1) (e.p 2 1) = false) :
    execDiagLoopback eid bits errs s = .next ((s.markBegun eid).okReply e (leBytes 8 bits ++ leBytes 8 errs)) := by
  unfold execDiagLoopback
  rw [State.cmd_starts h]
  dsimp only
  rw [hk, show (s.markBegun eid).subUp (e.p 1 1) (e.p 2 1) = false from hidle,
    show (s.markBegun eid).subCount (e.p 1 1) = s.subCount (e.p 1 1) from rfl]
  rw [if_neg (by simp; omega), if_pos rfl, if_neg (by decide)]
end

/-- Settles O51: the clauses above, one after another. -/
theorem backgroundAndTelemetry : Obligations.BackgroundAndTelemetry := by
  unfold Obligations.BackgroundAndTelemetry
  constructor
  · rintro s eid e _ rfl
    exact ⟨fun h hok => bgBudgetSet_joins h hok, fun h hp => scrubStart_patrols h hp,
      fun h hp ha hr => scrubStart_lists h hp ha hr, fun words hr hp hi hw => patrolScrub_moves hr hp hi hw,
      fun root block g data units hg hr hp hown hv hb hst hl hf hlost => stripeVerify_verifies hg hr hp hown hv hb hst hl hf hlost,
      fun p used hr hp hport hu => smartRead_keeps hr hp hport hu,
      fun h ha hlo hhi hfn hd => telemetryConfig_stores h ha hlo hhi hfn hd,
      fun c hc hr hdue hl h3 hb => telemetrySnapshot_writes hc hr hdue hl h3 hb⟩
  · rintro s eid e _ rfl
    exact ⟨fun h hp hi => diagSelftest_passes h hp hi,
      fun bits errs h hk hport hsub hlo hhi hidle => diagLoopback_reports h hk hport hsub hlo hhi hidle⟩

end Sys2Proof.Machine
end


section
/-! The out-of-band port and SMBus (R455, R485 to R488). -/
namespace Sys2Proof.Machine

open Sys2Proof

/-! ### The out-of-band port -/

section
variable {s : State} (hr : s.ready = true)

include hr in
theorem State.atOob_ready (f : State → State) : s.atOob f = .next (f (s.setRbit Reg.fldOobStat 0 true)) := by
  unfold State.atOob
  rw [if_pos hr]

include hr in
theorem oobPacket_queues {xid : Nat} {pkt : Bytes} (hlen : pkt.length = 64) (hnew : ∀ h ∈ s.fld.heldOob, h.pkt ≠ pkt)
    (hroom : s.fld.oobQ.length < 256) : ∃ u : State, execOobPacket xid pkt s = .next u ∧ u.fld.oobQ = s.fld.oobQ ++ [(pkt, xid)]
      ∧ u.out = s.out ∧ (∀ q, s.sq 1023 = some q → u.sq 1023 = some { q with tail := (q.tail + 1) % 2 ^ q.log2 })
      ∧ u.rbit Reg.fldOobStat 0 = true := by
  have hnone : (s.fld.heldOob.find? fun h => h.pkt == pkt) = none :=
    List.find?_eq_none.2 fun h hh => by simpa using hnew h hh
  unfold execOobPacket
  rw [State.atOob_ready hr]
  generalize hw : s.setRbit Reg.fldOobStat 0 true = w
  have hbit : w.rbit Reg.fldOobStat 0 = true := by
    rw [← hw]
    exact State.rbit_setRbit_same _ _ _ _ (by decide)
  have hfld : w.fld = s.fld := by rw [← hw]; rfl
  have hout : w.out = s.out := by rw [← hw]; rfl
  have hsq : w.sq 1023 = s.sq 1023 := by rw [← hw]; rfl
  clear hw
  rw [if_neg (by simp [hlen]), hfld, hnone]
  dsimp only
  rw [if_neg (by omega)]
  generalize hv : State.onFld _ _ = v
  have hq : v.fld.oobQ = s.fld.oobQ ++ [(pkt, xid)] := by
    rw [← hv, ← hfld]
    rfl
  have hvsq : v.sq 1023 = s.sq 1023 := by rw [← hv]; exact hsq
  have hvout : v.out = s.out := by rw [← hv]; exact hout
  have hvbit : v.rbit Reg.fldOobStat 0 = true := by rw [← hv]; exact hbit
  clear hv
  rw [hvsq]
  cases hring : s.sq 1023 with
  | none => exact ⟨v, rfl, hq, hvout, fun q h => by simp at h, hvbit⟩
  | some q => exact ⟨_, rfl, hq, hvout, fun q' h => by rw [← Option.some.inj h]; exact State.sq_setSq_same _ _ _, hvbit⟩

include hr in
theorem oobPacket_repeats {xid : Nat} {h : HeldOob} {bs : Bytes} {rest : List HeldOob} (hh : s.fld.heldOob = h :: rest)
    (hlen : h.pkt.length = 64) (hb : h.reply = some bs) : ∃ u : State, execOobPacket xid h.pkt s = .next u
      ∧ u.out = s.out ++ [.oob 2 (oobDatagram 2 xid 0 bs)] ∧ u.fld = s.fld := by
  unfold execOobPacket
  rw [State.atOob_ready hr, if_neg (by simp [hlen]), show (s.setRbit Reg.fldOobStat 0 true).fld.heldOob = h :: rest from hh,
    List.find?_cons_of_pos (by simp)]
  dsimp only
  rw [hb]
  exact ⟨_, rfl, rfl, rfl⟩

include hr in
theorem winWrite_acts {xid woff : Nat} {data : Bytes} (hfit : woff + data.length ≤ 2 ^ 20) (hlen : data.length ≤ 1024) :
    ∃ u : State, execWinWrite xid woff data s = .next u ∧ u.fld.window = Mem.write s.fld.window woff data
      ∧ u.out = s.out ++ [.oob 5 (oobDatagram 5 xid woff [])] := by
  have hin : inWindow woff data.length = true := by
    unfold inWindow
    rw [decide_eq_true hfit, decide_eq_true hlen, Bool.and_self]
  unfold execWinWrite
  rw [State.atOob_ready hr, hin, if_neg (by decide)]
  exact ⟨_, rfl, rfl, rfl⟩

include hr in
theorem winRead_answers {xid woff len : Nat} (hfit : woff + len ≤ 2 ^ 20) (hlen : len ≤ 1024) : ∃ u : State,
    execWinRead xid woff len s = .next u
      ∧ u.out = s.out ++ [.oob 5 (oobDatagram 5 xid woff (Mem.read s.fld.window woff len))] ∧ u.fld = s.fld := by
  have hin : inWindow woff len = true := by
    unfold inWindow
    rw [decide_eq_true hfit, decide_eq_true hlen, Bool.and_self]
  unfold execWinRead
  rw [State.atOob_ready hr, hin, if_neg (by decide)]
  exact ⟨_, rfl, rfl, rfl⟩

include hr in
theorem oobFrameAnswer_echoes {b f : Bytes} (hlen : f.length ≤ 1500) (hi : icmp6 f = some (128, b))
    (hip : s.oobIs6 (slice f 24 16) = true) : ∃ u : State,
      execOobFrameAnswer 1 f s = .next (u.oobAnswer "echo reply" (slice f 8 16 ++ b)) ∧ u.fld = s.fld ∧ u.out = s.out := by
  unfold execOobFrameAnswer
  rw [State.atOob_ready hr]
  dsimp only
  rw [if_neg (by omega), hi]
  change ∃ u : State, Host.Outcome.next (if (s.setRbit Reg.fldOobStat 0 true).oobIs6 (slice f 24 16) = true then
    (s.setRbit Reg.fldOobStat 0 true).oobAnswer "echo reply" (slice f 8 16 ++ b) else _) = _ ∧ _
  rw [if_pos (show (s.setRbit Reg.fldOobStat 0 true).oobIs6 (slice f 24 16) = true from hip)]
  exact ⟨_, rfl, rfl, rfl⟩
end

/-! ### SMBus -/

section
variable {s : State} (ha : s.smbAcks = true)

include ha in
theorem State.smbRead_acked (code : Nat) (data : Bytes) : s.smbRead code data = .next (s.emit (.smbus (data ++
    [byteOf (crc8 ([byteOf (2 * (0x4C + b2n s.part.headB)), byteOf code, byteOf (2 * (0x4C + b2n s.part.headB) + 1)] ++ data))]))) := by
  unfold State.smbRead
  dsimp only
  rw [if_pos ha]

include ha in
theorem smbusReset_keyed : execSmbusColdReset 0xC5 true s = .next (s.coldCommand 7)
    ∧ execSmbusWarmReset 0xC5 true s = .next (s.warmReset 7) := by
  unfold execSmbusColdReset execSmbusWarmReset
  rw [ha]
  exact ⟨rfl, rfl⟩

theorem smbusReset_ignored {key : Byte} {ok : Bool} (h : key ≠ 0xC5 ∨ ok = false) :
    execSmbusColdReset key ok s = .next s ∧ execSmbusWarmReset key ok s = .next s := by
  have hoff : (s.smbAcks && key == 0xC5 && ok) = false := by
    rcases h with h | h
    · rw [beq_eq_false_iff_ne.2 h, Bool.and_false, Bool.false_and]
    · rw [h, Bool.and_false]
  unfold execSmbusColdReset execSmbusWarmReset
  rw [hoff]
  exact ⟨rfl, rfl⟩
end

/-- Settles O52: the clauses above; the nine SMBus reads are `smbRead` with their codes and bytes. -/
theorem outOfBandAndSmbus : Obligations.OutOfBandAndSmbus := by
  unfold Obligations.OutOfBandAndSmbus
  constructor
  · intro s xid woff data hr
    exact ⟨fun pkt hlen hnew hroom => oobPacket_queues hr hlen hnew hroom,
      fun h bs rest hh hlen hb => oobPacket_repeats hr hh hlen hb,
      fun hfit hlen => winWrite_acts hr hfit hlen, fun len hfit hlen => winRead_answers hr hfit hlen,
      fun b f hlen hi hip => oobFrameAnswer_echoes hr hlen hi hip⟩
  · rintro s _ ha rfl
    refine ⟨?_, smbusReset_keyed ha, fun key ok h => smbusReset_ignored h⟩
    simp only [List.forall_mem_cons]
    exact ⟨State.smbRead_acked ha 0 _, State.smbRead_acked ha 1 _, State.smbRead_acked ha 2 _, State.smbRead_acked ha 3 _,
      State.smbRead_acked ha 4 _, State.smbRead_acked ha 5 _, State.smbRead_acked ha 6 _, State.smbRead_acked ha 0x10 _,
      State.smbRead_acked ha 0x11 _, fun _ h => absurd h List.not_mem_nil⟩

end Sys2Proof.Machine
end


section
/-! Event records (R492 to R502). -/
namespace Sys2Proof.Machine

open Sys2Proof

/-! ### Accepting an event -/

section
variable {s : State} {ev : SklEv}

/-- An event that merges with nothing is written while there is room. -/
theorem State.sklAccept_writes (hmem : s.skl.memFail = false) (hfull : s.skl.full = false)
    (hm : ∀ r, s.skl.recs.getLast? = some r → s.merges ev r = false) : s.sklAccept ev true = s.sklWrite ev := by
  unfold State.sklAccept
  rw [hmem, if_neg (by decide)]
  cases hlast : s.skl.recs.getLast? with
  | none => rfl
  | some r =>
    dsimp only
    rw [hm r hlast, if_neg (by decide), hfull, if_neg (by decide), if_pos rfl]

theorem skylarkRecord_takes {rest : List SklEv} (hq : s.skl.queue = ev :: rest) : execSkylarkRecord true s
    = .next ((s.onSkl fun k => { k with queue := rest }).sklAccept ev true) := by
  unfold execSkylarkRecord
  rw [hq]

theorem skylarkRecord_records {rest : List SklEv} (hq : s.skl.queue = ev :: rest) (hmem : s.skl.memFail = false)
    (hfull : s.skl.full = false) (hm : ∀ r, s.skl.recs.getLast? = some r → s.merges ev r = false)
    (hlen : s.skl.recs.length < 8191) : ∃ u : State, execSkylarkRecord true s = .next u ∧ u.skl.queue = rest
      ∧ u.skl.recs = s.skl.recs ++ [⟨s.skl.next, s.tick, ev, !s.skl.tickLoaded, 0⟩] ∧ u.skl.next = (s.skl.next + 1) % 2 ^ 32
      ∧ u.skl.full = false ∧ u.regs = s.regs := by
  rw [skylarkRecord_takes hq, State.sklAccept_writes (s := s.onSkl fun k => { k with queue := rest }) hmem hfull hm]
  unfold State.sklWrite
  dsimp only
  rw [if_pos (by simp [State.onSkl]; omega)]
  exact ⟨_, rfl, rfl, rfl, rfl, hfull, rfl⟩

theorem skylarkRecord_merges {rest : List SklEv} {r : SklRec} (hq : s.skl.queue = ev :: rest) (hmem : s.skl.memFail = false)
    (hlast : s.skl.recs.getLast? = some r) (hm : s.merges ev r = true) : ∃ u : State, execSkylarkRecord true s = .next u
      ∧ u.skl.recs = s.skl.recs.dropLast ++ [{ r with repeat_ := min 0xFFFF (r.repeat_ + 1) }] ∧ u.skl.next = s.skl.next := by
  rw [skylarkRecord_takes hq]
  generalize hv : (s.onSkl fun k => { k with queue := rest }) = v
  have hvk : v.skl = { s.skl with queue := rest } := by rw [← hv]; rfl
  have hvm : v.merges ev r = true := by rw [← hv]; exact hm
  have hvf : v.skl.memFail = false := by rw [hvk]; exact hmem
  have hvl : v.skl.recs.getLast? = some r := by rw [hvk]; exact hlast
  unfold State.sklAccept
  rw [hvf, if_neg (by decide), hvl]
  dsimp only
  rw [if_pos hvm, if_pos rfl]
  refine ⟨_, rfl, ?_, ?_⟩
  · rw [State.onSkl_skl, hvk]
    rfl
  · rw [State.onSkl_skl, hvk]
    rfl

theorem skylarkRecord_loses {rest : List SklEv} (hq : s.skl.queue = ev :: rest) (hmem : s.skl.memFail = false)
    (hfull : s.skl.full = true) (hm : ∀ r, s.skl.recs.getLast? = some r → s.merges ev r = false) (hne : s.skl.recs ≠ []) :
    ∃ u : State, execSkylarkRecord true s = .next u ∧ u.skl.recs = s.skl.recs ∧ u.skl.lost = min 0xFFFF (s.skl.lost + 1) := by
  have hlast := List.getLast?_eq_some_getLast hne
  generalize s.skl.recs.getLast hne = r at hlast
  rw [skylarkRecord_takes hq]
  generalize hv : (s.onSkl fun k => { k with queue := rest }) = v
  have hvk : v.skl = { s.skl with queue := rest } := by rw [← hv]; rfl
  have hvm : v.merges ev r = false := by rw [← hv]; exact hm r hlast
  have hvf : v.skl.memFail = false := by rw [hvk]; exact hmem
  have hvfull : v.skl.full = true := by rw [hvk]; exact hfull
  have hvl : v.skl.recs.getLast? = some r := by rw [hvk]; exact hlast
  unfold State.sklAccept
  rw [hvf, if_neg (by decide), hvl]
  dsimp only
  rw [hvm, if_neg (by decide), if_pos hvfull]
  refine ⟨_, rfl, ?_, ?_⟩
  · rw [State.onSkl_skl, hvk]
    rfl
  · rw [State.onSkl_skl, hvk]
    rfl
end

/-! ### Reading and clearing -/

section
variable {s : State} {eid : Nat} {e : Entry}

theorem sklRead_delivers (h : s.Starts eid 0x7F01 e) (hs : e.snap = none) (hlo : 1 ≤ e.p 4 4) (hhi : e.p 4 4 ≤ 8192)
    (ha : e.p 8 8 % 32 = 0) (hr : e.ring ≠ 1023) : execSklRead eid [] true s
      = .next (((s.markBegun eid).deliverTo e (e.p 8 8) ((s.skl.selected (e.p 0 4) (e.p 4 4)).flatMap SklRec.bytes)).okReply e
        ((s.markBegun eid).sklResult s.skl (e.p 0 4) (s.skl.selected (e.p 0 4) (e.p 4 4)))) := by
  have hout : ∀ n, e.outside (e.p 8 8) n = false := fun n => by
    unfold Entry.outside
    rw [beq_eq_false_iff_ne.2 hr, Bool.false_and]
  have hnone : ∀ rs : List SklRec, (rs.filter fun r => ([] : List Nat).contains r.seq) = [] :=
    fun rs => List.filter_eq_nil_iff.2 fun r _ => by simp
  unfold execSklRead
  rw [State.cmd_starts h, hs]
  dsimp only [Option.getD]
  rw [if_neg (by simp; omega), hout, if_neg (by decide), hnone, if_neg (by decide)]
  rfl

theorem sklClear_frees (h : s.Starts eid 0x7F02 e) (hw : ∀ x ∈ s.ez.queue, x.op = 0x7F01 → e.eid < x.eid)
    (hn : seqBelow (e.p 0 4) s.skl.next = true) (hmem : s.skl.memFail = false) (ho : seqBelow (e.p 0 4) s.skl.oldest = false)
    (hr : ∃ r ∈ s.skl.recs, seqBelow (e.p 0 4) r.seq = false) : ∃ u : State, execSklClear eid s = .next (u.okReply e [])
      ∧ u.skl.recs = s.skl.recs.filter (fun r => seqBelow (e.p 0 4) r.seq)
      ∧ u.skl.queue = clearEvent e (e.p 0 4) s.skl.lost :: s.skl.queue ∧ u.skl.full = false ∧ u.skl.lost = 0 := by
  have hready : (s.ez.queue.all fun x => x.op != 0x7F01 || decide (e.eid < x.eid)) = true :=
    List.all_eq_true.2 fun x hx => by
      by_cases hop : x.op = 0x7F01
      · simp [hw x hx hop]
      · simp [hop]
  have hfreed : (s.skl.recs.filter fun r => seqBelow (e.p 0 4) r.seq).length < s.skl.recs.length := by
    obtain ⟨r, hin, hlow⟩ := hr
    exact List.length_filter_lt_length_iff_exists.2 ⟨r, hin, by simp [hlow]⟩
  unfold execSklClear
  rw [State.cmdIf_starts h _ _ hready]
  dsimp only
  rw [show (s.markBegun eid).skl = s.skl from rfl, hn, if_neg (by decide), hmem, if_neg (by decide)]
  unfold State.sklFree
  dsimp only
  rw [show (s.markBegun eid).skl = s.skl from rfl, ho, if_neg (by decide), decide_eq_true hfreed, if_pos rfl]
  generalize hv : State.onSkl (State.onSkl _ _) _ = v
  obtain ⟨g, o, hlevel⟩ := State.setLevel_frame v (eventSrc Reg.sklStatus) false
  rw [hlevel]
  refine ⟨_, rfl, ?_⟩
  rw [← hv]
  exact ⟨rfl, rfl, rfl, rfl⟩
end

/-- Settles O53: the clauses above, one after another. -/
theorem skylarkRecords : Obligations.SkylarkRecords := by
  unfold Obligations.SkylarkRecords
  rintro s eid e _ rfl
  exact ⟨fun ev rest hq hmem hfull hm hlen => skylarkRecord_records hq hmem hfull hm hlen,
    fun ev rest r hq hmem hlast hm => skylarkRecord_merges hq hmem hlast hm,
    fun ev rest hq hmem hfull hm hne => skylarkRecord_loses hq hmem hfull hm hne,
    fun h hs hlo hhi ha hr => sklRead_delivers h hs hlo hhi ha hr,
    fun h hw hn hmem ho hr => sklClear_frees h hw hn hmem ho hr⟩

end Sys2Proof.Machine
end


section
/-! Firmware and attestation (R510 to R525). -/
namespace Sys2Proof.Machine

open Sys2Proof

theorem State.slot_setSlotOf {s : State} {i : Nat} (hi : i < s.upd.slots.length) (x : Slot) : (s.setSlotOf i x).slot i = x := by
  unfold State.setSlotOf State.slot State.onUpd
  dsimp only
  rw [List.getD_eq_getElem?_getD, List.getElem?_set_self hi]
  rfl

theorem Entry.inside_of_ring {e : Entry} (hr : e.ring ≠ 1023) (a n : Nat) : e.outside a n = false := by
  unfold Entry.outside
  rw [beq_eq_false_iff_ne.2 hr, Bool.false_and]

/-! ### Delivery -/

section
variable {s : State} {eid : Nat} {e : Entry} {p : Bytes} (h : s.Starts eid 0x7001 e) (ha : e.p 16 8 % 64 = 0)
  (hr : e.ring ≠ 1023) (hp : p.length = 65536)

include h ha hr hp in
theorem updPiece_taken (hk : e.p 8 2 < 1024) : execUpdPiece eid (.ok p) true s
    = .next (if e.p 8 2 = 0 then (s.markBegun eid).pieceZero e p true else (s.markBegun eid).pieceMore e (e.p 8 2) p true) := by
  unfold execUpdPiece
  rw [State.cmd_starts h]
  dsimp only
  rw [if_neg (by simp [ha, Entry.inside_of_ring hr]; omega), beq_eq_false_iff_ne.2 hr, if_neg (by decide)]
  dsimp only
  rw [padTo_of_length _ _ hp]

/-- Piece 0 of an image for an empty slot. -/
theorem State.pieceZero_empty {i : Nat} (hi : i = s.inactive) (htrial : s.trial = false) (hst : (s.slot i).st = .empty) :
    s.pieceZero e p true = if imgId (p.take 33024) ≠ slice e.area 0 8 then s.fail e St.invalidParam 0x2001
      else match s.fuses.judgeImage p with
        | none => ((s.setSlotOf i ⟨.receiving, [(0, p)], [0]⟩).emit (.nor "image piece" p)).okReply e
            (((s.setSlotOf i ⟨.receiving, [(0, p)], [0]⟩).emit (.nor "image piece" p)).pieceResult false)
        | some (st, dt) => (if st = St.checkMismatch then s.latch errUpd 0 1 else s).fail e st dt := by
  subst hi
  unfold State.pieceZero
  dsimp only
  rw [show slice p 0 33024 = p.take 33024 from rfl]
  by_cases hid : imgId (p.take 33024) = slice e.area 0 8
  · rw [if_neg (by simp [hid]), if_neg (Classical.not_not.2 hid)]
    cases s.fuses.judgeImage p with
    | none =>
      dsimp only
      rw [htrial, hst, if_neg (by decide), if_neg (by simp), if_neg (by simp), if_neg (by decide)]
    | some x =>
      obtain ⟨st, dt⟩ := x
      dsimp only
      by_cases hm : st = St.checkMismatch
      · rw [if_pos hm, if_pos hm]
        rfl
      · rw [if_neg hm, if_neg hm]
  · rw [if_pos (by simpa using hid), if_pos hid]

/-- A piece not yet stored of an image that is being received. -/
theorem State.pieceMore_receiving {i k : Nat} (hi : i = s.inactive) (hst : (s.slot i).st = .receiving)
    (hk : k < imgPieces (s.slotHead i)) (hne : (s.slot i).pieces ≠ []) (hnew : (s.slot i).bits.contains k = false) {u : State}
    (hu : u = (s.setSlotOf i ⟨if (s.slot i).bits.length + 1 = imgPieces (s.slotHead i) then .complete else .receiving,
      KMap.put (s.slot i).pieces k p, k :: (s.slot i).bits⟩).emit (.nor "image piece" p)) :
    s.pieceMore e k p true = if imgId (s.slotHead i) ≠ slice e.area 0 8 then s.fail e St.busy 0x2001
      else if sha256 p = imgDigest (s.slotHead i) k then u.okReply e (u.pieceResult false)
      else (s.latch errUpd k 2).fail e St.checkMismatch 0x2002 := by
  subst hi hu
  have hdel : (s.slot s.inactive).delivered = false := by
    unfold Slot.delivered
    rw [List.isEmpty_eq_false_iff.2 hne, Bool.false_and]
  unfold State.pieceMore
  dsimp only
  rw [hst]
  by_cases hid : imgId (s.slotHead s.inactive) = slice e.area 0 8
  · rw [if_neg (by simp [hid]), if_neg (Classical.not_not.2 hid), if_neg (by omega)]
    by_cases hsha : sha256 p = imgDigest (s.slotHead s.inactive) k
    · rw [if_neg (by simp [hsha]), if_pos hsha, hdel, hnew, if_neg (by decide), if_neg (by decide)]
      rfl
    · rw [if_pos (by simpa using hsha), if_neg hsha]
      rfl
  · rw [if_pos (by simpa using hid), if_pos hid]
end

/-! ### Verification and activation -/

section
variable {s : State} {eid : Nat} {e : Entry} {i : Nat} (hi : i = s.inactive)

include hi in
theorem updVerify_judges (h : s.Starts eid 0x7003 e) (hst : (s.slot i).st = .complete) (hdel : (s.slot i).delivered = false) :
    execUpdVerify eid none s = .next (match s.fuses.judgeImage (KMap.getD (s.slot i).pieces 0 []) with
      | none => ((s.markBegun eid).setSlotOf i { s.slot i with st := .verified }).okReply e
          (imgVersion (s.slotHead i) ++ leBytes 4 (imgSvn (s.slotHead i)))
      | some (st, dt) => (if st = St.checkMismatch then ((s.markBegun eid).setSlotOf i { s.slot i with st := .invalid }).latch errUpd 0 1
          else (s.markBegun eid).setSlotOf i { s.slot i with st := .invalid }).fail e st dt) := by
  subst hi
  unfold execUpdVerify
  rw [State.cmd_starts h]
  dsimp only
  rw [show (s.markBegun eid).inactive = s.inactive from rfl, show (s.markBegun eid).slot s.inactive = s.slot s.inactive from rfl,
    show (s.markBegun eid).slotHead s.inactive = s.slotHead s.inactive from rfl, show (s.markBegun eid).fuses = s.fuses from rfl,
    hst, if_neg (by decide), if_neg (by decide), if_neg (ne_true_of_eq_false hdel)]
  cases s.fuses.judgeImage (KMap.getD (s.slot s.inactive).pieces 0 []) with
  | none => rfl
  | some x =>
    obtain ⟨st, dt⟩ := x
    dsimp only
    by_cases hm : st = St.checkMismatch
    · rw [if_pos hm, if_pos hm]
      rfl
    · rw [if_neg hm, if_neg hm]

include hi in
theorem updActivate_tries (h : s.Starts eid 0x7004 e) (hf : e.p 0 1 = 0) (hst : (s.slot i).st = .verified) :
    execUpdActivate eid s = .next ((((s.markBegun eid).setSlotOf i { s.slot i with st := .trial }).selectSlot i 2).okReply e []) := by
  subst hi
  unfold execUpdActivate
  rw [State.cmd_starts h, hf]
  dsimp only
  rw [show (s.markBegun eid).inactive = s.inactive from rfl, show (s.markBegun eid).slot s.inactive = s.slot s.inactive from rfl,
    if_neg (by decide), if_neg (by simp [hst]), if_neg (by simp [State.nowRefused, bitAt])]
  rfl

include hi in
theorem updFallback_falls (h : s.Starts eid 0x7005 e) (hf : e.p 0 1 = 0) (hst : (s.slot i).st = .verified)
    (hsvn : s.fuses.floor ≤ imgSvn (s.slotHead i)) : execUpdFallback eid s
      = .next (((((s.markBegun eid).setSlotOf i { s.slot i with st := .active }).setSlotOf s.upd.active
        { s.slot s.upd.active with st := .verified }).selectSlot i 0).okReply e []) := by
  subst hi
  unfold execUpdFallback
  rw [State.cmd_starts h, hf]
  dsimp only
  have hfloor : ¬ imgSvn ((s.markBegun eid).slotHead s.inactive) < (s.markBegun eid).fuses.floor := Nat.not_lt.2 hsvn
  rw [show (s.markBegun eid).inactive = s.inactive from rfl, if_neg, if_neg (by simp [State.nowRefused, bitAt])]
  · rfl
  · rw [show (s.markBegun eid).slot s.inactive = s.slot s.inactive from rfl, hst, decide_eq_false hfloor]
    decide

theorem trialSelftest_confirms (hr : s.ready = true) (ht : s.upd.selftest = true) : ∃ u : State, execTrialSelftest true s = .next u
    ∧ u.dhd.selftestOk = true ∧ u.upd.selftest = false ∧ u.upd.attempts = 0 ∧ u.upd.active = s.upd.active := by
  unfold execTrialSelftest
  rw [if_neg (by simp [hr, ht])]
  dsimp only
  rw [if_neg (by decide)]
  refine ⟨_, rfl, rfl, ?_⟩
  split <;> exact ⟨rfl, rfl, rfl⟩
end

/-! ### Attestation -/

section
variable (s : State) (q : Nat)

theorem State.guardIndex_burns : (s.guardIndex q).fuses.burnt.contains (q / 1024) = true := by
  unfold State.guardIndex
  dsimp only
  generalize hu : (if s.fuses.burnt.contains (q / 1024) = true then s
    else { s with fuses := { s.fuses with burnt := q / 1024 :: s.fuses.burnt } } : State) = u
  have hburnt : u.fuses.burnt.contains (q / 1024) = true := by
    rw [← hu]
    split
    · next h => exact h
    · exact List.contains_iff_mem.2 List.mem_cons_self
  split
  · exact hburnt
  · exact hburnt

theorem State.spendIndex_effect (hq : q < 2 ^ 20) : (s.spendIndex q).rf Reg.updAttQ 20 0 = q + 1
    ∧ (s.spendIndex q).fuses = s.fuses := by
  have hrf : (s.setRf Reg.updAttQ 20 0 (q + 1)).rf Reg.updAttQ 20 0 = q + 1 := by
    rw [State.rf_setRf_same _ _ _ _ _ (by decide) (by decide)]
    exact Nat.mod_eq_of_lt (by omega)
  unfold State.spendIndex
  dsimp only
  split
  · obtain ⟨g, o, hev⟩ := State.event_frame ((s.setRf Reg.updAttQ 20 0 (q + 1)).onUpd fun u => { u with warned := true })
      (Reg.updStatus + 3)
    rw [hev]
    exact ⟨hrf, rfl⟩
  · exact ⟨hrf, rfl⟩
end

theorem attestReport_signs {s : State} {eid : Nat} {e : Entry} {q : Nat} (hq : q = s.rf Reg.updAttQ 20 0)
    (h : s.Starts eid 0x7010 e) (ha : e.p 32 8 % 64 = 0) (hr : e.ring ≠ 1023) (hlt : q < 2 ^ 20) : ∃ (u : State) (sig : Bytes),
      execAttestReport eid true s = .next ((u.deliverTo e (e.p 32 8)
        (((s.markBegun eid).guardIndex q).attestBody (slice e.area 0 32) q ++ sig)).okReply e [])
      ∧ u.rf Reg.updAttQ 20 0 = q + 1 ∧ u.fuses.burnt.contains (q / 1024) = true := by
  unfold execAttestReport
  rw [State.cmd_starts h]
  dsimp only
  rw [show (s.markBegun eid).rf Reg.updAttQ 20 0 = q from hq.symm, if_neg (by simp [ha, Entry.inside_of_ring hr]),
    if_neg (by omega), if_pos (by rw [Bool.or_true])]
  obtain ⟨hrf, hfuses⟩ := State.spendIndex_effect ((s.markBegun eid).guardIndex q).nextDraw q hlt
  refine ⟨_, _, rfl, hrf, ?_⟩
  rw [hfuses]
  exact State.guardIndex_burns (s.markBegun eid) q

/-- Settles O56: the clauses above, one after another. -/
theorem firmwareAndAttestation : Obligations.FirmwareAndAttestation := by
  unfold Obligations.FirmwareAndAttestation
  rintro s eid e _ i _ rfl hi rfl hlen -
  refine ⟨fun p h ha hr hp => ⟨fun hk htrial hst => ?_, ?_⟩, fun h hst hdel => updVerify_judges hi h hst hdel,
    fun h hf hst => updActivate_tries hi h hf hst, fun h hf hst hsvn => updFallback_falls hi h hf hst hsvn,
    fun hr ht _ => trialSelftest_confirms hr ht, fun q hq h ha hr hlt => attestReport_signs hq h ha hr hlt⟩
  · exact ⟨((s.markBegun eid).setSlotOf i ⟨.receiving, [(0, p)], [0]⟩).emit (.nor "image piece" p),
      State.slot_setSlotOf (s := s.markBegun eid) hlen _, rfl, (updPiece_taken h ha hr hp (by omega)).trans
        (congrArg Host.Outcome.next ((if_pos hk).trans (State.pieceZero_empty (s := s.markBegun eid) hi htrial hst)))⟩
  · rintro k rfl h1 h1024 hst hk hne hnew
    exact ⟨((s.markBegun eid).setSlotOf i ⟨if (s.slot i).bits.length + 1 = imgPieces (s.slotHead i) then .complete else .receiving,
        KMap.put (s.slot i).pieces (e.p 8 2) p, e.p 8 2 :: (s.slot i).bits⟩).emit (.nor "image piece" p),
      State.slot_setSlotOf (s := s.markBegun eid) hlen _, (updPiece_taken h ha hr hp h1024).trans
        (congrArg Host.Outcome.next ((if_neg (by omega)).trans
          (State.pieceMore_receiving (s := s.markBegun eid) hi hst hk hne hnew rfl)))⟩

end Sys2Proof.Machine
end
